-- ==== Sys2Proof/Word.lean ====
section
/-! DEFINITION. The word types of the module: native words, lines, tags and pages (00_scope.md R6, R7; 02 R32; 19 R524). -/

namespace Sys2Proof

/-- A 20-bit native word (00 R6, R7). -/
abbrev Word20 := BitVec 20

/-- A 40-bit register slot: value in [19:0], mask or pending word in [39:20] (13 R401, R402). -/
abbrev Slot := BitVec 40

/-- A 64-byte line, byte i in bits [8i + 7 : 8i] (02 R45, 06 R183). -/
abbrev Line := BitVec 512

/-- The 64 byte enables of a partial write (02 R46). -/
abbrev Enables := BitVec 64

/-- A Beryl page of 256 bytes (19 R524). -/
abbrev Page := BitVec 2048

/-- One of the four host ports (11). -/
abbrev Port := Fin 4

/-- A requester of the register file: 0 to 3 ports, 4 sideband, 5 JTAG (13 R399). -/
abbrev Requester := Fin 6

/-- The source of a descriptor: 0 to 3 the ring of that port, 4 the sideband (12 R363, R366). -/
abbrev Src := Fin 5

/-- A channel of the medium (01 R12). -/
abbrev Channel := Fin 32

/-- A power domain D00 to D79 (16 R459). -/
abbrev Domain := Fin 80

/-- A cache slice (05 R140). -/
abbrev Slice := Fin 8

/-- A cache way (05 R140). -/
abbrev Way := Fin 16

end Sys2Proof
end

