-- ==== Sys2Proof/Syntax.lean ====
section
/-! DEFINITION. The commands the module takes: one constructor of `Instr` per row of the opcode table, with the operands its
sender supplies. An operand is what a host, the peer, the sideband, JTAG or a pin names, or what physics decides (a symbol-error
count, a temperature, a verify result, a measured latency). -/

namespace Sys2Proof

/-- Module variant (00 R1). -/
inductive Variant where
  | y32 | y16
deriving DecidableEq, Repr

/-- How a qualification attempt of a domain ends (16 R461). -/
inductive QualEnd where
  /-- power-good held for QUAL -/
  | ok
  /-- no power-good within 300 µs -/
  | noPowerGood
  /-- power-good dropped within QUAL -/
  | dropped
deriving DecidableEq, Repr

/-- CLASS of a RESYNC_TILE ENTRY (10 R317). -/
inductive TileClass where
  | unwritten | data | const | lost
deriving DecidableEq, Repr

/-- CAUSE of a PROMOTE_NOTE (10 R317). -/
inductive NoteCause where
  | leave | drain | thermal
deriving DecidableEq, Repr

/-- The causes of a move (08 R249). -/
inductive MoveCause where
  | wear | readCount | age | failedProgram | keyRotation | saturated | leaveConstrained
deriving DecidableEq, Repr

/-- An HDM decoder setting of a port (11 R340, R345). -/
structure Hdm where
  committed : Bool
  base : Nat
  size : Nat
  /-- interleave ways: 1, 2, 3, 4, 6, 8, 12 or 16 -/
  ways : Nat
  /-- granularity in bytes, 256 to 16384 -/
  gran : Nat
  dpaBase : Nat
deriving DecidableEq, Repr

/-- An Agate record (14 R434). -/
structure AgRec where
  seq : Nat
  repeats : Nat
  /-- 0 information, 1 CE, 2 UC, 3 FT -/
  cls : Nat
  urgent : Bool
  peer : Bool
  time : Nat
  source : Nat
  code : Nat
  arg0 : Nat
  arg1 : Nat
  arg2 : Nat
deriving DecidableEq, Repr

/-- The fields of a HEARTBEAT (10 R318). -/
structure HbInfo where
  time : Nat
  epoch : Nat
  role : Nat
  seat : Bool
  warm : Bool
  fill : Nat
  drate : Nat
  hseq : Nat
  remain : Nat
  size : Nat
  wact : Nat
deriving DecidableEq, Repr

/-- Bits 60 of a WELL_SET value, unpacked (07 R218). BASE and SIZE in 256 MiB units. -/
structure Well where
  live : Bool
  base : Nat
  size : Nat
  mask : BitVec 4
  shared : Bool
  prot : Bool
  ruZero : Bool
  pin : Bool
  key : Nat
deriving DecidableEq, Repr

/-- What a sense returns beyond the stored frame: how many stored symbols differ from those programmed (06 R190), and whether
the marker cells read as programmed (06 R179). -/
structure SenseRes where
  errs : Nat
  markerOk : Bool
deriving DecidableEq, Repr

/-- What an access finds in the arrays of a slice (05 R155). -/
inductive ArrErr where
  | none
  /-- a correctable error in the line's data or tag -/
  | corrected
  | dataUe
  | tagUe
  /-- one of the two further copies of D differs from D (05 R143); `second` names which -/
  | copy (second : Bool)
deriving DecidableEq, Repr

/-- What physics decides about a host read: the latency in ns that its port measures if this step answers it (03 R98), what the
access finds in the cache arrays (05 R155), and whether the map DRAM read of its page is uncorrectable (07 R214). -/
structure RdEnv where
  lat : Nat
  arr : ArrErr
  mapUe : Bool
deriving DecidableEq, Repr

/-- What Zircon has measured by the plan instant, besides what State holds (18 R500, R502): the dies whose sweep was late, and the new drift tables
of each channel that has them. -/
structure Measured where
  lateDies : List Nat
  /-- channel, BND, FPT, RT, RU -/
  tables : List (Nat × List Nat × List Nat × List Nat × List Nat)
deriving DecidableEq, Repr

/-- What the module keeps of a firmware image that its verification has read (20 R547, R548): the fields of its header, the results of the checks
that its bytes decide, and its digest. -/
structure Image where
  /-- magic, lengths, zero bytes -/
  wellFormed : Bool
  svn : Nat
  version : Nat
  keyIdx : Nat
  /-- SHA-512 of the modulus equals digest KEY_IDX -/
  digestOk : Bool
  /-- the signature verifies -/
  sigOk : Bool
  /-- SHA-512 of the image, header included (20 R554) -/
  sha : BitVec 512
deriving DecidableEq, Repr

/-- The apply point of a register field (13 R405). -/
inductive ApplyPoint where
  | now
  /-- next port quiet point of port p (13 R406) -/
  | quiet (p : Port)
  | heartbeat | epoch | replan | diode | media | dump | sequencer
  /-- end of current media operation of the channel -/
  | mediaOp (c : Channel)
deriving DecidableEq, Repr

/-- What the last access of a multi-line engine found at one frame. -/
inductive JtagOp where
  | read | write
deriving DecidableEq, Repr

/-- What a JTAG test-mode message asks of the sequencer (16 R472, 20 R559). -/
inductive JtagTest where
  /-- enter the test mode -/
  | enter
  /-- open or close the switches of one domain -/
  | drive (d : Domain) (on : Bool)
  | leave
deriving DecidableEq, Repr

/-- Where an SPDM message arrives: a port's DOE mailbox or the sideband (20 R553). -/
inductive SpdmVia where
  | doe (p : Port)
  | sideband
deriving DecidableEq, Repr

/-- A frame that a channel engine programs (06 R170). -/
inductive ProgRef where
  /-- the line of a Cistern entry, by its number (04 R105) -/
  | line (slot : Nat)
  /-- the oldest journal line not yet started (07 R221) -/
  | journal
  /-- a line that the copier has read, or received from the peer, of the tile's move (08 R254) -/
  | copy (ltn line : Nat)
  /-- the rewrite of an interrupted frame (02 R50) -/
  | rewrite (ptn fslot : Nat)
  /-- a line of a tile that the running checkpoint writes: of an object, by number, or of a node of the tree (07 R225) -/
  | node (n line : Nat)
  /-- a copy of the running checkpoint's anchor (07 R211) -/
  | anchor (k : Nat)
  /-- a line of a die's sentinel (09 R297) -/
  | sentinel (die line : Nat)
deriving DecidableEq, Repr

/-- A command of the module: one constructor per row of spec/opcode_table.json, in the table's order. -/
inductive Instr where
  -- power inputs and BOOT (01 R21; 16; 17)
  /-- AON_QUALIFY (R21): the straps as sampled (R571), the pages whose slot read needs a single-bit correction (R535), and the slots, 2 × page +
  slot, that read with an uncorrectable error (R527). -/
  | aonQualify (seat sbSel : Bool) (sbAddr : BitVec 2) (corr ue : List Nat)
  /-- MAIN_INPUT_QUALIFY (R485). -/
  | mainInputQualify
  /-- BOOT_SETTINGS (R485). -/
  | bootSettings
  /-- BOOT_SEQUENCING (R464). -/
  | bootSequencing
  /-- DOMAIN_QUAL_END (R461): the domain, how the attempt ended, and for a media group the temperature of its hottest die in
  °C (R499). -/
  | domainQualEnd (d : Domain) (how : QualEnd) (temp : Int)
  /-- DOMAIN_QUAL_RETRY (R461). -/
  | domainQualRetry (d : Domain)
  /-- DRAM_TRAINING (R487): the map-cache page slots whose rows fail, and whether more than 1/64 of the rows fail. -/
  | dramTraining (badSlots : List Nat) (tooMany : Bool)
  /-- DIE_DISCOVERY (R488): the dies, channel × 8 + die, that do not answer or answer with another identity. -/
  | dieDiscovery (failed : List Nat)
  /-- REPLAY (R228): what the senses of frames and their retries return, by PTN × 256 + frame slot, where something is wrong. -/
  | replay (res : List (Nat × SenseRes × SenseRes))
  /-- ENTER_COLD (R493). -/
  | enterCold
  /-- WARMER_PAGE_LOAD (R97): what the senses of the page's frames and their retries return, by frame, where something is wrong. -/
  | warmerPageLoad (res : List (Nat × SenseRes × SenseRes))
  /-- THERMAL_RESTART (R499). -/
  | thermalRestart
  /-- INPUT_TRIGGER (R469): PWR_FAIL_N asserted or VIN in mV; the domains whose power-good stays asserted in a power-down that
  the step runs (R466). -/
  | inputTrigger (pwrFail : Bool) (vinMv : Nat) (stuck : List Nat)
  /-- AUX_LOST (R471). -/
  | auxLost
  /-- INPUT_DIP (R482): VIN in mV. -/
  | inputDip (vinMv : Nat)
  /-- INPUT_COLLAPSE (R472): in test mode, the frames whose program was interrupted. -/
  | inputCollapse (interrupted : List Nat)
  /-- MAIN_INPUT_CYCLE (R498). -/
  | mainInputCycle
  /-- PERST_ASSERT (R360). -/
  | perstAssert (p : Port)
  /-- PERST_DEASSERT (R360). -/
  | perstDeassert (p : Port)
  /-- PG_DEASSERT (R463): the domain and the deassertion's length in units of 10 ns. -/
  | pgDeassert (d : Domain) (len10 : Nat)
  /-- BANK_CUTOFF (R476). -/
  | bankCutoff
  /-- DRAIN_LINES_DONE (R477), with the domains that fail to switch off (R466). -/
  | drainLinesDone (stuck : List Nat)
  /-- DRAIN_OVERRUN (R479): the lines not yet programmed are those State holds; the domains that fail to switch off. -/
  | drainOverrun (stuck : List Nat)
  /-- DRAIN_FINAL_STORE_DONE (R478). -/
  | drainFinalStoreDone
  -- faults (14)
  /-- FAULT_REPORT (R428): SOURCE, CODE and arguments of a report by a unit (R427). -/
  | faultReport (source code arg0 arg1 arg2 : Nat)
  /-- AGATE_FLUSH (R438): the buffer slots whose read finds an uncorrectable error (R441). -/
  | agateFlush (ue : List Nat)
  /-- FIRMWARE_ACK (R430): the UC latch if `uc`, else the CE latch. -/
  | firmwareAck (uc : Bool)
  /-- WATCHDOG (R432): whether the window that ends had a report. -/
  | watchdog (reported : Bool)
  /-- ALIVE_TOGGLE (R433). -/
  | aliveToggle
  -- the Spinel link and pair (10)
  /-- SPINEL_LINK_ACTIVE (R323): live lanes, and the peer's variant, seat and serial from CONFIG (R310). -/
  | spinelLinkActive (lanes : Nat) (peer : Variant) (peerSeat : Bool) (peerSerial : BitVec 128)
  /-- FLIT_CRC_ERROR (R313). -/
  | flitCrcError
  /-- REPLAY_TIMEOUT (R313). -/
  | replayTimeout
  /-- HEARTBEAT_SEND (R319). -/
  | heartbeatSend
  /-- HEARTBEAT (R318). -/
  | heartbeat (h : HbInfo)
  /-- HB_WINDOW_END (R319). -/
  | hbWindowEnd
  /-- WIT_OUT_TOGGLE (R320). -/
  | witOutToggle
  /-- WITNESS_LOST (R320). -/
  | witnessLost
  /-- SOLO_GUARD_END (R324). -/
  | soloGuardEnd
  /-- SOLO_PAGE_DURABLE (R324). -/
  | soloPageDurable
  /-- JOIN_TIMEOUT (R323). -/
  | joinTimeout
  /-- RESYNC_TILE_START (R333): the next tile starts, or goes on; for each line whose frame is sensed and is not clean, what its
first sense and its retry return. -/
  | resyncTileStart (bad : List (Nat × SenseRes × SenseRes))
  /-- MIRROR_WRITE (R135): MTAG, poison, PCAUSE, port, DLN, the FTAG of a forwarded write (OP 1), WAITED, the merged line. -/
  | mirrorWrite (mtag : Nat) (p : Bool) (pcause : BitVec 2) (port : Port) (dln : Nat) (ftag : Option Nat) (waited : Bool) (data : Line)
  /-- MIRROR_ACK (R306): the MTAGs it acknowledges, and whether the peer withholds their MIR credits for now (R124). -/
  | mirrorAck (mtags : List Nat) (withheld : Bool)
  /-- HOME_FWD WR_FULL (R307). -/
  | homeFwdWrFull (mtag : Nat) (port : Port) (dln : Nat) (poison : Bool) (data : Line)
  /-- HOME_FWD WR_PART with its EXT byte enables (R307). -/
  | homeFwdWrPart (mtag : Nat) (port : Port) (dln : Nat) (poison : Bool) (be : Enables) (data : Line)
  /-- HOME_FWD RD (R335). -/
  | homeFwdRd (mtag : Nat) (port : Port) (dln : Nat)
  /-- HOME_FWD RD_DATA (R335): UE, poison and the line; the latency the port measures. -/
  | homeFwdRdData (mtag : Nat) (ue p : Bool) (data : Line) (lat : Nat)
  /-- HOME_FWD REFUSE (R269): `overtaken` where the acknowledgement of a write to the line, sent after this message, came before it. -/
  | homeFwdRefuse (mtag : Nat) (dln : Nat) (overtaken : Bool)
  /-- STATE_OP CMD (R304): SSEQ, the sender's tag, the 64-byte descriptor; for a POISON_CLEAR, the lines that sense uncorrectable. -/
  | stateOpCmd (mtag sseq : Nat) (desc : BitVec 512) (ue : List Nat)
  /-- STATE_OP TILE (R304). -/
  | stateOpTile (mtag ltn sseq : Nat)
  /-- STATE_OP DONE (R304). -/
  | stateOpDone (sseq status : Nat)
  /-- RESYNC_TILE ENTRY (R333). -/
  | resyncTileEntry (mtag ltn : Nat) (cls : TileClass) (pattern : BitVec 32)
  /-- RESYNC_TILE LINE (R333). -/
  | resyncTileLine (dln : Nat) (p : Bool) (pcause : BitVec 2) (data : Line)
  /-- RESYNC_TILE TILE_END (R333). -/
  | tileEnd (ltn lines : Nat)
  /-- RESYNC_TILE TILE_ACK (R333). -/
  | tileAck (ltn : Nat)
  /-- RESYNC_TILE LINE_REQ (R338); the results of the sense and its retry if the line is read from the medium. -/
  | lineReq (mtag dln : Nat) (res retry : SenseRes)
  /-- RESYNC_TILE LINE_RSP (R72): OK, poison and the line. -/
  | lineRsp (mtag dln : Nat) (ok p : Bool) (pcause : BitVec 2) (data : Line)
  /-- RESYNC_DONE REQ (R336). -/
  | resyncDoneReq
  /-- RESYNC_DONE ACK (R336). -/
  | resyncDoneAck
  /-- RESYNC_DONE SWITCH (R336). -/
  | resyncDoneSwitch
  /-- AGATE_COPY (R440): one or two records. -/
  | agateCopy (recs : List AgRec)
  /-- PROMOTE_NOTE (R322). -/
  | promoteNote (cause : NoteCause)
  /-- JOIN PAGE (R329): PART 0 to 3 of the peer's pairing page 0. -/
  | joinPage (part : Fin 4) (data : Line)
  /-- JOIN OPEN (R329): INDEX and its 16 entries. -/
  | joinOpen (index : Nat) (ltns : List Nat)
  /-- JOIN WELLS (R330): INDEX and the WELL_SET values of its 8 wells. -/
  | joinWells (index : Nat) (wells : List Well)
  /-- JOIN INUSE (R329): ranges (first LTN, count). -/
  | joinInuse (ranges : List (Nat × Nat))
  /-- JOIN END (R329): LIST 0 open list, 1 well table, 2 in-use ranges; the slots sent. -/
  | joinEnd (list : Fin 3) (count : Nat)
  -- host ports (11, 03, 04)
  /-- LINK_TRAINING (R356): the lanes that work, the partner's highest rate (1 to 3), and the clocking the host uses (R361). -/
  | linkTraining (p : Port) (lanes : Nat) (rate : Fin 4) (hostClk : Bool)
  /-- IDE_INTEGRITY_FAILURE (R355). -/
  | ideIntegrityFailure (p : Port)
  /-- HDM_DECODER_COMMIT (R345). -/
  | hdmDecoderCommit (p : Port) (i : Fin 4) (d : Hdm)
  /-- MEMRD (R80): tag, host physical address, and what physics decides. -/
  | memrd (p : Port) (tag hpa : Nat) (env : RdEnv)
  /-- MEMRDDATA (R80). -/
  | memrddata (p : Port) (tag hpa : Nat) (env : RdEnv)
  /-- MEMSPECRD (R342). -/
  | memspecrd (p : Port) (hpa : Nat)
  /-- MEMINV (R342). -/
  | meminv (p : Port) (tag : Nat)
  /-- MEMINVNT (R342). -/
  | meminvnt (p : Port) (tag : Nat)
  /-- MEMCLNEVCT (R342). -/
  | memclnevct (p : Port) (tag : Nat)
  /-- MEMRDFWD (R342). -/
  | memrdfwd (p : Port) (hpa : Nat)
  /-- MEMWRFWD (R342). -/
  | memwrfwd (p : Port) (hpa : Nat)
  /-- MEMWR (R105); the errors that the cache arrays show by now, by DLN (R155). -/
  | memwr (p : Port) (tag hpa : Nat) (poison : Bool) (data : Line) (upset : List (Nat × ArrErr))
  /-- MEMWRPTL (R77); the errors that the cache arrays show by now, by DLN (R155). -/
  | memwrptl (p : Port) (tag hpa : Nat) (poison : Bool) (be : Enables) (data : Line) (upset : List (Nat × ArrErr))
  /-- GLOBAL_PERSISTENT_FLUSH (R62): phase 1 or 2. -/
  | globalPersistentFlush (p : Port) (phase2 : Bool)
  -- the medium (06, 03)
  /-- FRAME_SENSE_DONE (R180): the sense and its result; the measured latency of the host reads it answers. -/
  | frameSenseDone (sid : Nat) (res : SenseRes) (lat : Nat)
  /-- RETRY_SENSE_DONE (R93). -/
  | retrySenseDone (sid : Nat) (res : SenseRes) (lat : Nat)
  /-- DEMAND_MAP_READ_DONE (R95): what the sense and the retry of the page's frames return, by frame, where something is wrong, and the latency of
  the host reads it answers. -/
  | demandMapReadDone (page : Nat) (res : List (Nat × SenseRes × SenseRes)) (lat : Nat)
  /-- PROGRAM_RESUME (R90): die index and partition. -/
  | programResume (die part : Nat)
  /-- BURST_METER_SLOT (R82). -/
  | burstMeterSlot (c : Channel)
  /-- LOAD_WINDOW_END (R103). -/
  | loadWindowEnd (c : Channel)
  -- the write path (04)
  /-- WRITE_ADMIT (R134): the slice that admits. -/
  | writeAdmit (slice : Slice)
  /-- DIE_RESOLVE (R122). -/
  | dieResolve (dln : Nat)
  /-- CLEANING (R125): the die, channel × 8 + die, and the errors that the cache arrays show by now, by DLN (R155). -/
  | cleaning (die : Nat) (upset : List (Nat × ArrErr))
  /-- PACING_EPOCH (R127): what the senses of ledger frames and their retries return, by PTN × 256 + frame slot, where something is
  wrong (R244). -/
  | pacingEpoch (res : List (Nat × SenseRes × SenseRes))
  /-- PROGRAM_DISPATCH (R127): the frame that is programmed. -/
  | programDispatch (u : ProgRef)
  /-- PROGRAM_VERIFY_DONE (R105): the frame, whether it verified, and the active program time in ns (R176). -/
  | programVerifyDone (u : ProgRef) (ok : Bool) (ns : Nat)
  /-- FILTER_REBUILD (R113). -/
  | filterRebuild
  -- the map (07)
  /-- JOURNAL_LINE_PROGRAM (R221). -/
  | journalLineProgram
  /-- JOURNAL_LINE_VERIFY (R221): the line in program, whether it verified, and the active program time in ns (R176). -/
  | journalLineVerify (ok : Bool) (ns : Nat)
  /-- CHECKPOINT_START (R225). -/
  | checkpointStart
  /-- CHECKPOINT_ANCHOR (R225). -/
  | checkpointAnchor
  /-- CHECKPOINT_FREE (R225). -/
  | checkpointFree
  -- moves (08)
  /-- MOVE_START (R251). -/
  | moveStart (ltn : Nat) (cause : MoveCause)
  /-- MOVE_COPY (R254): the tile, the line copied and what its sense and its retry returned. -/
  | moveCopy (ltn : Nat) (line : Fin 256) (res retry : SenseRes)
  /-- MOVE_COMMIT (R251). -/
  | moveCommit (ltn : Nat)
  /-- TILE_RESET_START (R248): the die. -/
  | tileResetStart (die : Nat)
  /-- RESET_DONE (R248): the physical tile and whether the die reported success. -/
  | resetDone (ptn : Nat) (ok : Bool)
  -- drift, refresh, scrub (09) and temperatures (18)
  /-- EPOCH_UNIT_START (R273). -/
  | epochUnitStart
  /-- MEDIA_TEMP_SAMPLE (R274): the channel, the die sensors' temperatures in °C × 4, `none` for a failed
  reading; the domains that fail to switch off if a power-down follows (R466). -/
  | mediaTempSample (c : Channel) (temps : List (Option Int)) (stuck : List Nat)
  /-- DIODE_SAMPLE (R514): the reading in °C × 4, `none` for a missing conversion; the domains that fail to
  switch off if a power-down follows (R466). -/
  | diodeSample (t : Option Int) (stuck : List Nat)
  /-- REFRESH_SCAN (R288): the entry evaluated. -/
  | refreshScan (ltn : Nat)
  /-- SCRUB_SENSE (R293): what the first sense and the retry of the frame at the cursor return, and whether the pass can no
  longer end in time at the observed rate (R294). -/
  | scrubSense (line : Fin 256) (res retry : SenseRes) (late : Bool)
  /-- SCRUB_AUTO_RESUME (R295). -/
  | scrubAutoResume
  /-- SENTINEL_PROGRAM (R297): the die. -/
  | sentinelProgram (die : Nat)
  -- Zircon (18)
  /-- REPLAN_START (R502): the cause of R501. -/
  | replanStart (cause : Fin 8)
  /-- PLAN_INSTANT (R502). -/
  | planInstant (m : Measured)
  /-- CANARY_SAMPLE (R508): the slack of each canary group in 0.1 ns. -/
  | canarySample (slacks : List Nat)
  /-- EYE_MARGIN_SAMPLE (R500): timing and voltage margins of the worst lane of ports 0 to 3 and the Spinel port. -/
  | eyeMarginSample (eyes : List (Nat × Nat))
  /-- BANK_TEST_START (R509): the voltage step in mV. -/
  | bankTestStart (stepMv : Nat)
  /-- BANK_TEST_END (R510): the discharge time in µs, whether 33.0 V and then 35 V were reached in time. -/
  | bankTestEnd (us : Nat) (reached33 recharged : Bool)
  -- Beryl (19), Quartz (15), security (20), cache (05)
  /-- BERYL_PAGE_PROGRAM (R529). -/
  | berylPageProgram
  /-- BERYL_PAGE_VERIFY (R529): the page longest in program; the domains that fail to switch off if Drain steps 5 and 6 follow. -/
  | berylPageVerify (ok : Bool) (stuck : List Nat)
  /-- DUMP_BOUNDARY (R451): whether the DMA write succeeds. -/
  | dumpBoundary (dmaOk : Bool)
  /-- FUSE_BLOW (R551): whether the fuse reads back within three attempts. -/
  | fuseBlow (ok : Bool)
  /-- ENTROPY_TEST_FAIL (R546). -/
  | entropyTestFail
  /-- WAY_DISABLE (R158): the slice whose disable in progress treats its next set. -/
  | wayDisable (slice : Slice) (upset : List (Nat × ArrErr))
  -- rings (12)
  /-- DESCRIPTOR_FETCH (R367): the descriptor that DMA returns, or `none` if the fetch fails. -/
  | descriptorFetch (p : Port) (desc : Option (BitVec 512))
  /-- COMPLETION_WRITE (R368): whether the posted write succeeds. -/
  | completionWrite (p : Port) (dmaOk : Bool)
  /-- COAL_WINDOW_END (R371). -/
  | coalWindowEnd (p : Port) (vec : Fin 16)
  /-- SIDEBAND_DESCRIPTOR (R395): the descriptor and the bytes that follow it. -/
  | sidebandDescriptor (desc : BitVec 512) (payload : List (BitVec 8))
  /-- SET_ENDPOINT_ID (R362). -/
  | setEndpointId (eid : BitVec 8)
  -- ring commands (12): the running descriptor is named by its source and tag
  /-- WELL_CREATE (R383). -/
  | wellCreate (src : Src) (tag : BitVec 16)
  /-- WELL_DESTROY (R40). -/
  | wellDestroy (src : Src) (tag : BitVec 16)
  /-- WELL_MODIFY (R37). -/
  | wellModify (src : Src) (tag : BitVec 16)
  /-- FILL (R67). -/
  | fill (src : Src) (tag : BitVec 16)
  /-- CLONE (R236). -/
  | clone (src : Src) (tag : BitVec 16)
  /-- CACHE_MAINT (R152). -/
  | cacheMaint (src : Src) (tag : BitVec 16) (upset : List (Nat × ArrErr))
  /-- POISON_CLEAR (R384): the lines that sense uncorrectable. -/
  | poisonClear (src : Src) (tag : BitVec 16) (ueLines : List Nat)
  /-- PIN_MAP (R383): what the senses of the pages' frames and their retries return, by page × 256 + frame, where something is wrong. -/
  | pinMap (src : Src) (tag : BitVec 16) (res : List (Nat × SenseRes × SenseRes))
  /-- FLUSH_TO_MEDIA (R63). -/
  | flushToMedia (src : Src) (tag : BitVec 16)
  /-- EVENT_READ (R439): whether the buffer writes succeed. -/
  | eventRead (src : Src) (tag : BitVec 16) (dmaOk : Bool)
  /-- COUNTER_SNAPSHOT (R454). -/
  | counterSnapshot (src : Src) (tag : BitVec 16) (dmaOk : Bool)
  /-- DUMP_CONFIG (R385). -/
  | dumpConfig (src : Src) (tag : BitVec 16) (dmaOk : Bool)
  /-- SETTINGS_STORE (R528). -/
  | settingsStore (src : Src) (tag : BitVec 16)
  /-- FW_STAGE (R547, R548): whether the buffer read succeeds, and the chunk's bytes as read from the host buffer; over the sideband the bytes
  come with the descriptor. -/
  | fwStage (src : Src) (tag : BitVec 16) (dmaOk : Bool) (chunk : List (BitVec 8))
  /-- FW_ACTIVATE (R549). -/
  | fwActivate (src : Src) (tag : BitVec 16)
  /-- SANITIZE (R386). -/
  | sanitize (src : Src) (tag : BitVec 16)
  /-- TWIN_CONTROL JOIN (R323). -/
  | twinControlJoin (src : Src) (tag : BitVec 16)
  /-- TWIN_CONTROL LEAVE (R321). -/
  | twinControlLeave (src : Src) (tag : BitVec 16)
  /-- TWIN_CONTROL PROMOTE (R334). -/
  | twinControlPromote (src : Src) (tag : BitVec 16)
  /-- TWIN_CONTROL DISCARD (R331). -/
  | twinControlDiscard (src : Src) (tag : BitVec 16)
  /-- CAPACITY_RELEASE (R267). -/
  | capacityRelease (src : Src) (tag : BitVec 16)
  /-- HEALTH_REPORT (R513). -/
  | healthReport (src : Src) (tag : BitVec 16) (dmaOk : Bool)
  /-- ERROR_TABLE_READ (R284). -/
  | errorTableRead (src : Src) (tag : BitVec 16) (dmaOk : Bool)
  /-- SCRUB_CONTROL PAUSE (R295). -/
  | scrubControlPause (src : Src) (tag : BitVec 16)
  /-- SCRUB_CONTROL RESUME (R295). -/
  | scrubControlResume (src : Src) (tag : BitVec 16)
  /-- SCRUB_CONTROL RANGE (R295). -/
  | scrubControlRange (src : Src) (tag : BitVec 16)
  /-- SCRUB_CONTROL ABORT_RANGE (R295). -/
  | scrubControlAbortRange (src : Src) (tag : BitVec 16)
  /-- KEY_ROTATE (R199). -/
  | keyRotate (src : Src) (tag : BitVec 16)
  /-- IDENTITY_READ (R542). -/
  | identityRead (src : Src) (tag : BitVec 16) (dmaOk : Bool)
  /-- ATTEST (R555). -/
  | attest (src : Src) (tag : BitVec 16) (dmaOk : Bool)
  -- mailbox (11 R346)
  /-- GET_EVENT_RECORDS: the log 0 Informational to 4 Dynamic Capacity. -/
  | getEventRecords (p : Port) (log : Fin 5)
  /-- CLEAR_EVENT_RECORDS (R430): the log and the SEQ of the records cleared. -/
  | clearEventRecords (p : Port) (log : Fin 5) (seqs : List Nat)
  /-- GET_EVENT_INTERRUPT_POLICY. -/
  | getEventInterruptPolicy (p : Port)
  /-- SET_EVENT_INTERRUPT_POLICY. -/
  | setEventInterruptPolicy (p : Port) (vec : Fin 16)
  /-- GET_FW_INFO. -/
  | getFwInfo (p : Port)
  /-- GET_TIMESTAMP. -/
  | getTimestamp (p : Port)
  /-- SET_TIMESTAMP. -/
  | setTimestamp (p : Port) (ts : BitVec 64)
  /-- GET_SUPPORTED_LOGS. -/
  | getSupportedLogs (p : Port)
  /-- GET_LOG. -/
  | getLog (p : Port) (cel : Bool)
  /-- IDENTIFY_MEMORY_DEVICE. -/
  | identifyMemoryDevice (p : Port)
  /-- GET_PARTITION_INFO. -/
  | getPartitionInfo (p : Port)
  /-- GET_HEALTH_INFO (R358). -/
  | getHealthInfo (p : Port)
  /-- GET_ALERT_CONFIGURATION. -/
  | getAlertConfiguration (p : Port)
  /-- SET_ALERT_CONFIGURATION: life used, temperature and corrected-error thresholds. -/
  | setAlertConfiguration (p : Port) (life temp ce : Nat)
  /-- GET_SHUTDOWN_STATE (R481). -/
  | getShutdownState (p : Port)
  /-- SET_SHUTDOWN_STATE. -/
  | setShutdownState (p : Port) (clean : Bool)
  /-- GET_DYNAMIC_CAPACITY_CONFIGURATION (R347). -/
  | getDynamicCapacityConfiguration (p : Port)
  /-- GET_DYNAMIC_CAPACITY_EXTENT_LIST (R348). -/
  | getDynamicCapacityExtentList (p : Port)
  /-- ADD_DYNAMIC_CAPACITY_RESPONSE (R348): the well of the offered extent. -/
  | addDynamicCapacityResponse (p : Port) (well : Fin 64) (accept : Bool)
  /-- RELEASE_DYNAMIC_CAPACITY (R351): first DPA and bytes released. -/
  | releaseDynamicCapacity (p : Port) (dpa len : Nat)
  -- SPDM (20 R553)
  /-- GET_VERSION. -/
  | getVersion (via : SpdmVia)
  /-- GET_CAPABILITIES. -/
  | getCapabilities (via : SpdmVia)
  /-- NEGOTIATE_ALGORITHMS: whether the request offers the supported set. -/
  | negotiateAlgorithms (via : SpdmVia) (offers : Bool)
  /-- GET_DIGESTS. -/
  | getDigests (via : SpdmVia)
  /-- GET_CERTIFICATE (R543): slot, offset and length. -/
  | getCertificate (via : SpdmVia) (slot : Fin 8) (off len : Nat)
  /-- CHALLENGE. -/
  | challenge (via : SpdmVia) (slot : Fin 8) (nonce : BitVec 256)
  /-- GET_MEASUREMENTS (R554). -/
  | getMeasurements (via : SpdmVia) (index : BitVec 8) (nonce : BitVec 256)
  /-- KEY_EXCHANGE: the requester's session id. -/
  | keyExchange (via : SpdmVia) (session : Nat)
  /-- FINISH: whether the verify data checks. -/
  | finish (via : SpdmVia) (session : Nat) (ok : Bool)
  /-- END_SESSION. -/
  | endSession (via : SpdmVia) (session : Nat)
  /-- KEY_UPDATE. -/
  | keyUpdate (via : SpdmVia) (session : Nat)
  -- IDE_KM (20 R556): the transport, its session, the stream (CXL.mem if `mem`) and the key set
  /-- QUERY. -/
  | query (via : SpdmVia) (session : Nat)
  /-- KEY_PROG. -/
  | keyProg (via : SpdmVia) (session : Nat) (mem tx kset : Bool) (key : BitVec 256)
  /-- K_SET_GO. -/
  | kSetGo (via : SpdmVia) (session : Nat) (mem kset : Bool)
  /-- K_SET_STOP. -/
  | kSetStop (via : SpdmVia) (session : Nat) (mem kset : Bool)
  /-- GET_KEY. -/
  | getKey (via : SpdmVia) (session : Nat)
  -- debug (20 R559)
  /-- JTAG_MEM_ACCESS: the operation, the DPA and, for a read from the medium, what its sense returns. -/
  | jtagMemAccess (op : JtagOp) (dpa : Nat) (data : Line) (res : SenseRes)
  /-- JTAG_TEST_MODE. -/
  | jtagTestMode (t : JtagTest)
  -- registers (13)
  /-- REG_WRITE (R404): the requester, BAR2 offset, access size in bytes and 64-bit value. -/
  | regWrite (r : Requester) (off : BitVec 20) (size : Nat) (v : BitVec 64)
  /-- REG_APPLY (R405). -/
  | regApply (at_ : ApplyPoint)
  /-- RC_READ (R410). -/
  | rcRead (r : Requester) (off : BitVec 20) (size : Nat)
  /-- UNLOCK (R415). -/
  | unlock (r : Requester) (v : BitVec 64)
  /-- UNLOCK_EXPIRE (R415). -/
  | unlockExpire (r : Requester)
  /-- TIME_LATCH_READ (R422). -/
  | timeLatchRead (r : Requester)
  /-- LASTGASP_ACK (R421). -/
  | lastgaspAck (r : Requester) (v : BitVec 64)
  /-- ACK (R430): the latch group. -/
  | ack (r : Requester) (g : Fin 3) (v : BitVec 64)
  /-- INJECT (R443). -/
  | inject (r : Requester) (v : BitVec 64)
  /-- FLUSH (R438). -/
  | flush (r : Requester) (v : BitVec 64)
  /-- NEW_SEQ_READ (R444). -/
  | newSeqRead (r : Requester)
  /-- CMD_TAIL (R367): the ring and the slot value written. -/
  | cmdTail (r : Requester) (p : Port) (v : BitVec 64)
  /-- CPL_HEAD (R368). -/
  | cplHead (r : Requester) (p : Port) (v : BitVec 64)
  /-- RING_ENABLE (R369). -/
  | ringEnable (p : Port)
  /-- RING_DISABLE (R391). -/
  | ringDisable (p : Port)
  /-- DUMP_HEAD (R452). -/
  | dumpHead (r : Requester) (v : BitVec 64)
  /-- FREEZE (R449). -/
  | freeze (r : Requester) (v : BitVec 64)
  /-- THAW (R449). -/
  | thaw (r : Requester) (v : BitVec 64)
  /-- CTR_LO_READ (R450). -/
  | ctrLoRead (r : Requester)
  /-- CLEAR (R446). -/
  | clear (r : Requester) (v : BitVec 64)
  /-- CKPT_NOW (R225). -/
  | ckptNow (r : Requester) (v : BitVec 64)
  /-- REPLAN_NOW (R501). -/
  | replanNow (r : Requester) (v : BitVec 64)
  /-- TEST_NOW (R509). -/
  | testNow (r : Requester) (v : BitVec 64)
  /-- ACCEPT (R505). -/
  | accept (r : Requester) (v : BitVec 64)
  /-- ADV_NOW (R551). -/
  | advNow (r : Requester) (v : BitVec 64)
  /-- STORE (R528). -/
  | store (r : Requester) (v : BitVec 64)
  /-- WAY_DIS (R163): the slice and the slot value written. -/
  | wayDis (r : Requester) (n : Slice) (v : BitVec 64)
  -- link and input events
  /-- SPINEL_LINK_DOWN (R310): lanes that still work; `cable` if the cable was disconnected (R564). -/
  | spinelLinkDown (lanes : Nat) (cable : Bool)
  /-- WIT_IN_EDGE (R320). -/
  | witInEdge
  /-- FLIT_NAK (R313). -/
  | flitNak (ackseq : Fin 1024)
  /-- FLIT_ACK (R312). -/
  | flitAck (ackseq : Fin 1024) (mir req bulk : BitVec 8)
  /-- ENTROPY_TEST_PASS (R546). -/
  | entropyTestPass
  /-- RAIL_VOLTAGE_FAULT (R467). -/
  | railVoltageFault (d : Domain)
  /-- AON_POWER_LOST (R21). -/
  | aonPowerLost
  /-- AUX_RESTORED (R471). -/
  | auxRestored
deriving DecidableEq, Repr

end Sys2Proof
end

