-- ==== Sys2Proof/Config.lean ====
section
/-! DEFINITION. What the manual leaves open: free values. Each constant has no body, so nothing can be proved of its value; it is
applied to the plain counter `freeCtr` of the state, which the step advances (log entry 2). -/

namespace Sys2Proof.Config

/-- A draw of ROT from the security block's DRBG (06 R193, 20 R546). FREE VALUE. -/
opaque rotDraw : Nat → BitVec 8

/-- An 80-bit scrambler or metadata key drawn from the DRBG (06 R199, 20 R544). FREE VALUE. -/
opaque keyDraw : Nat → BitVec 80

/-- Whether a ledger draw of `bits` bits is zero (08 R243). FREE VALUE. -/
opaque drawIsZero : Nat → Nat → Bool

/-- What a decoder does with more symbol errors than it guarantees to handle (06 R190): 0 reports a failure, 1 a tag fault, any
other value another codeword. FREE VALUE. -/
opaque beyondCode : Nat → Nat

/-- The line of the other codeword (06 R190, third outcome). FREE VALUE. -/
opaque wrongLine : Nat → BitVec 512

/-- The flag byte of the other codeword. FREE VALUE. -/
opaque wrongFlag : Nat → BitVec 8

/-- Bytes of a signature, a certificate, a digest or a key-exchange value that the security block produces (20 R543, R553 to
R556), by kind, counter and byte index. FREE VALUE. -/
opaque secretByte : Nat → Nat → Nat → BitVec 8

/-- SHA-512 of a byte string, byte i of the digest in bits 8i + 7 to 8i: a function that the manual names and another standard defines (20
R541, R547, R554). Uninterpreted. -/
opaque sha512 : List (BitVec 8) → BitVec 512

/-- Whether a signature of RSASSA-PSS with SHA-512 verifies, by modulus, message and signature (20 R547). Uninterpreted. -/
opaque pssVerify : List (BitVec 8) → List (BitVec 8) → List (BitVec 8) → Bool

/-- A byte of a signature that the device makes with its identity key over a message, by the counter of free values and the index (20 R543,
R555). FREE VALUE. -/
opaque signByte : BitVec 4096 → List (BitVec 8) → Nat → Nat → BitVec 8

/-- The SEC-DED check bits of the cache's tag entry, by its bits 55 to 0 (05 R143), of a code that the manual does not give. FREE VALUE. -/
opaque tagEcc : Nat → BitVec 8

/-- The length of the SPDM certificate chain in bytes (20 R543). FREE VALUE. -/
opaque chainLen : Nat

/-- A content of a structure the manual names without giving its value: factory values, fused identities, log bytes defined by
another standard, by kind and index. FREE VALUE. -/
opaque external : Nat → Nat → Nat

end Sys2Proof.Config
end

