-- ==== Sys2Proof/Machine/State.lean ====
section
/-! DEFINITION. The state of one module as plain data, and the state right after reset. Everything indexed is a `Store`: a list of
(index, value) pairs with rising indexes that lists no entry equal to what an unlisted index reads as. -/

namespace Sys2Proof.Machine

/-- Sparse data by index: rising indexes, no entry equal to the default its reader names (log entry 4). -/
abbrev Store (α : Type) := List (Nat × α)

/-! ## State variables (01 R20) -/

/-- Power state (01 R20). -/
inductive PState where
  | off | standby | boot | service | drain | halt
deriving DecidableEq, Repr

/-- Pair role (01 R20). -/
inductive Role where
  | unpaired | joining | paired | solo | fenced | resync
deriving DecidableEq, Repr

/-- Capacity condition (01 R20). -/
inductive Cap where
  | normal | lowSpare | constrained
deriving DecidableEq, Repr

/-- Thermal condition (01 R20). -/
inductive Therm where
  | nominal | warn | throttle1 | throttle2 | shutdown
deriving DecidableEq, Repr

/-! ## Registers and requesters (13) -/

/-- One slot of the register file (13 R401 to R403): active word, pending word, and the RC flags set. -/
structure RegCell where
  act : Word20
  pend : Word20
  rc : Word20
deriving DecidableEq, Repr

/-- What the requesters hold (13 R415, R421 to R424; 14 R444; 15 R450). -/
structure Requesters where
  /-- requester -> TIME at which its unlock expires plus 1; 0 not armed (R415) -/
  armed : Store Nat
  /-- the latched violation: REQ and VIOL_ADDR (R424) -/
  viol : Option (Nat × Nat)
  /-- requester -> latched TIME (R422) -/
  time : Store Nat
  /-- requester -> latched (NEW_SEQ, OLD_SEQ, FL_SEQ) (R444) -/
  seqs : Store (Nat × Nat × Nat)
  /-- requester -> CTR_HI (R450) -/
  ctrHi : Store Nat
  /-- the LASTGASP record (R421, R423) -/
  gasp : Option AgRec
  /-- LASTGASP VALID -/
  gaspValid : Bool
deriving DecidableEq, Repr

/-! ## Power (16, 17) -/

/-- A power domain (16 R461 to R463, R483). -/
structure Dom where
  /-- 0 off, 1 qualifying, 2 on, 3 failed -/
  st : Nat
  attempts : Nat
  cause : Nat
  glitches : Nat
  /-- start of the chatter window and the glitches in it; `done` once PG_CHATTER is recorded for it -/
  chat : List Nat
  chatMute : Nat
deriving DecidableEq, Repr

/-- What started a Drain (01 R21, R24). -/
inductive DrainKind where
  | input | thermal | fatal
deriving DecidableEq, Repr

/-- A Drain in progress (16 R477 to R480). -/
structure Drain where
  start : Nat
  /-- HALT follows (01 R24) -/
  toHalt : Bool
  thermal : Bool
  /-- a dirty line was lost (05 R156) -/
  lost : Bool
  linesDone : Bool
  /-- step 4 has ended -/
  stored : Bool
  /-- step 5 has run -/
  recorded : Bool
  /-- ended under R479 -/
  overrun : Bool
  /-- lines programmed so far in step 2 -/
  lines : Nat
deriving DecidableEq, Repr

/-- Power, inputs, pins and the sequencer (D00). -/
structure Power where
  st : PState
  warm : Bool
  bootStep : Nat
  /-- TIME in ns (01 R18) -/
  time : Nat
  mainOn : Bool
  auxOn : Bool
  vinMv : Nat
  vauxMv : Nat
  vbankMv : Nat
  pinCw : Nat
  /-- PWR_FAIL_N asserted -/
  pwrFail : Bool
  /-- PERST_N[p] asserted -/
  perst : BitVec 4
  /-- PERST_N[p] latched in HALT (17 R498) -/
  perstLatch : BitVec 4
  bankFailed : Bool
  onBank : Bool
  /-- VCORE setpoint in force, mV (16 R484) -/
  vcore : Nat
  doms : Store Dom
  /-- 0 idle, 1 to 13 power-up, 17 to 23 power-down (16 R484) -/
  seqStep : Nat
  testMode : Bool
  /-- last-gasp row (16 R470) -/
  gasp : Option AgRec
  /-- D00's fatal flag (14 R433) -/
  fatal : Bool
  /-- level of ALIVE, and whether it toggles (14 R433, R443) -/
  alive : Bool
  aliveRun : Bool
  /-- the watchdog's last window had a report (14 R432) -/
  wdOk : Bool
  /-- the last HALT had thermal cause, and restarts are blocked (18 R519, R520) -/
  haltTh : Bool
  restartBlk : Bool
  drain : Option Drain
  witOut : Bool
  /-- straps and the sideband EID (10 R301; 21 R571; 11 R362) -/
  seat : Bool
  sbSel : Bool
  sbAddr : BitVec 2
  eid : BitVec 8
  /-- in HALT: TIME since which the Yelrid has stayed below its warning threshold; in BOOT: present while the boot is an automatic
  restart (17 R499) -/
  coolSince : Option Nat
deriving DecidableEq, Repr

/-! ## Host ports and rings (11, 12) -/

/-- An extent of a well at a port (11 R348, R351). -/
structure Ext where
  offered : Bool
  accepted : Bool
  /-- 256 MiB blocks released so far -/
  released : List Nat
deriving DecidableEq, Repr

/-- An SPDM session (20 R553). -/
structure Session where
  id : Nat
  established : Bool
  /-- key generation, advanced by KEY_UPDATE -/
  keyGen : Nat
deriving DecidableEq, Repr

/-- A host port (11). -/
structure PortSt where
  linkUp : Bool
  width : Nat
  rate : Nat
  lanes : Nat
  memActive : Bool
  ideMem : Bool
  ideIo : Bool
  /-- the CXL.mem stream is insecure after an integrity failure (R355) -/
  ideFailed : Bool
  ksetMem : Bool
  ksetIo : Bool
  /-- keys programmed: index mem*4 + tx*2 + kset -> key + 1 -/
  ideKeys : Store Nat
  viral : Bool
  viralEn : Bool
  hdm : Store Hdm
  exts : Store Ext
  extGen : Nat
  /-- event logs: (log, record), log 0 Informational, 1 Warning, 2 Failure, 3 Fatal, 4 Dynamic Capacity (R353) -/
  logs : List (Nat × AgRec)
  evVec : Nat
  tsOff : Nat
  alertLife : Nat
  alertTemp : Nat
  alertCe : Nat
  /-- requests answered in the FENCED or JOINING role (10 R326) -/
  fenced : Nat
  sessions : List Session
  /-- RC credits in use: reads and writes (04 R130) -/
  rdOut : Nat
  wrOut : Nat
deriving DecidableEq, Repr

/-- A completion waiting for ring room (12 R368, R373). -/
structure Cpl where
  tag : BitVec 16
  status : Nat
  opcode : Nat
  result : Nat
  noirq : Bool
  vec : Nat
deriving DecidableEq, Repr

/-- A command ring and its completion ring (12 R366 to R371). -/
structure Ring where
  head : Nat
  tail : Nat
  cplHead : Nat
  cplTail : Nat
  ph : Bool
  enabled : Bool
  wait : List Cpl
  /-- vector -> TIME at which its message is due plus 1 (R371) -/
  vecs : Store Nat
deriving DecidableEq, Repr

/-- A running descriptor (12 R370). -/
structure Running where
  /-- port 0 to 3, 4 the sideband; 8 + p: of port p, its completion discarded (R392, R397) -/
  src : Nat
  desc : BitVec 512
  payload : List (BitVec 8)
  started : Bool
  /-- its place in the order of starts at this module (12 R388) -/
  ord : Nat
  /-- tiles, lines or pages treated so far -/
  prog : Nat
  /-- completion waits for this JSEQ to be durable (07 R222) -/
  waitJ : Option Nat
  /-- completion waits for these Cistern or dirty lines (02 R63): DLNs -/
  waitLines : List Nat
  /-- state sequence number of its task, once given (10 R304) -/
  sseq : Option Nat
  /-- completion waits for a Beryl store operation of this number (19 R528) -/
  waitStore : Option Nat
  status : Nat
  result : Nat
deriving DecidableEq, Repr

/-- A command that acts on wells, tiles or lines, in progress on this module, issued here or at the peer (10 R304; 12 R383). Outside
PAIRED and RESYNC it takes the next number too and sends no message. -/
structure Task where
  sseq : Nat
  /-- its place in the order of starts at this module (12 R388) -/
  ord : Nat
  desc : BitVec 512
  /-- issued at this module -/
  mine : Bool
  /-- units to treat here, ascending: the tiles this module is home for, or lines -/
  todo : List Nat
  /-- tiles that the peer treats first, ascending -/
  theirs : List Nat
  /-- tile effects of the peer that have arrived and wait: tile, MTAG -/
  inbox : List (Nat × Nat)
  /-- units treated -/
  count : Nat
  status : Nat
  /-- lines that sense uncorrectable (12 R384) -/
  ue : List Nat
  /-- every record below this one must be durable (07 R222) -/
  waitJ : Nat
  /-- a Beryl store operation that must end -/
  waitStore : Option Nat
  /-- its effect at the start still waits for room in the journal tail (07 R223) -/
  startDue : Bool
  doneSent : Bool
  peerDone : Bool
deriving DecidableEq, Repr

/-- Commands: running descriptors, mirrored commands, SANITIZE (12, 20). -/
structure Cmds where
  run : List Running
  tasks : List Task
  /-- tile effects of the peer whose command has not arrived yet: MTAG, tile, state sequence number -/
  early : List (Nat × Nat × Nat)
  /-- DONEs of the peer whose command has not arrived yet: state sequence number, status -/
  earlyDone : List (Nat × Nat)
  /-- SANITIZE in progress: its issuer, and the step reached (12 R386) -/
  sanitizing : Bool
  sanStep : Nat
  /-- tiles whose writes wait for a CLONE (07 R236 step 1) -/
  hold : List Nat
  /-- commands started so far (12 R388) -/
  starts : Nat
deriving DecidableEq, Repr

/-! ## Map (07, 08) -/

/-- STATE of a map entry (07 R204). -/
inductive TileSt where
  | unwritten | mapped | const | shared | migrating | refusing | lost
deriving DecidableEq, Repr

/-- A map entry (07 R203). -/
structure MapEntry where
  st : TileSt
  /-- PTN, or the pattern of a CONST tile -/
  ptn : BitVec 32
  rot : BitVec 8
  epoch : BitVec 8
  gen : BitVec 8
deriving DecidableEq, Repr

/-- An entry of the clone table (07 R235): PTN, REFS, V and HEAD. -/
structure CloneEnt where
  v : Bool
  ptn : Nat
  refs : Nat
  /-- first node -/
  head : Nat
deriving DecidableEq, Repr

/-- A sharer node (07 R235): LTN, V and NEXT; 0xFFFFFFFF ends the list. -/
structure CloneNode where
  v : Bool
  ltn : Nat
  next : Nat
deriving DecidableEq, Repr

/-- The tables that the journal and checkpoints keep (07 R207, R218). -/
structure Tables where
  /-- LTN -> entry -/
  map : Store MapEntry
  /-- physical tile -> 0 free, 1 in use, 2 in reset queue, 3 retired (R207) -/
  tile : Store Nat
  /-- well number -> well -/
  wells : Store Well
  /-- place -> clone entry (R235; log entry 8) -/
  clones : Store CloneEnt
  /-- number -> sharer node (R235) -/
  nodes : Store CloneNode
  /-- place in the refused-line table -> DLN plus 1 (08 R270; log entry 8) -/
  refused : Store Nat
  /-- well -> rotation cursor plus 1; 0 no rotation (06 R199) -/
  cursor : Store Nat
deriving DecidableEq, Repr

/-- A journal record (07 R217, R218). -/
inductive JVal where
  | mapSet (ltn : Nat) (e : MapEntry) (rotw : Bool)
  | tileTake (ptn purpose ckpt : Nat)
  | tileFree (ptn : Nat)
  | resetDone (ptn : Nat)
  | cloneAdd (ltn ptn : Nat)
  | cloneDel (ltn ptn : Nat)
  | wellSet (i : Nat) (w : Well)
  | refuseSet (dln : Nat)
  | refuseClr (dln : Nat)
  | retire (ptn : Nat)
deriving DecidableEq, Repr

/-- A journal record with its sequence number and LAST flag (07 R217). -/
structure JRec where
  seq : Nat
  last : Bool
  val : JVal
deriving DecidableEq, Repr

/-- A journal line formed and not yet verified (07 R220, R221). -/
structure JLine where
  /-- its line in the journal tile; 0 is the header -/
  line : Nat
  recs : List JRec
  data : Line
  /-- its program has started -/
  started : Bool
deriving DecidableEq, Repr

/-- Ledger entry of a physical tile (08 R242). -/
structure Led where
  wear : Nat
  reads : Nat
  adv : Nat
deriving DecidableEq, Repr

/-- A tile that a checkpoint writes (07 R225): the object or tree node, the tile taken, the JSEQ of its TILE_TAKE, and the lines that
have verified. -/
structure CkptTile where
  node : Nat
  tile : Nat
  takeJ : Nat
  done : BitVec 256
deriving DecidableEq, Repr

/-- An anchor being written (07 R210, R211): its number, its 64 bytes, its CTR_LIMIT, and for each copy its tile, its frame and whether it
has verified. -/
structure AnchorW where
  aseq : Nat
  data : Line
  ctrLimit : Nat
  copies : List (Nat × Nat × Bool)
deriving DecidableEq, Repr

/-- A checkpoint in progress (07 R225). -/
structure Ckpt where
  no : Nat
  /-- one past the last record appended at the instant C -/
  jc : Nat
  /-- objects and tree nodes for which no tile has been taken yet -/
  todo : List Nat
  tiles : List CkptTile
  /-- tiles given up because a frame of them failed -/
  bad : List Nat
  anchor : Option AnchorW
deriving DecidableEq, Repr

/-- Cause flags of a read (03 R99). -/
structure RdFlags where
  retry : Bool
  mapmiss : Bool
  overload : Bool
  forward : Bool
  preemptOff : Bool
deriving DecidableEq, Repr

/-- A demand map read (03 R95): the page, the first of its frames that hold the entry and how many there are, and the flags that every read
waiting for it takes (R99). -/
structure DemandRd where
  page : Nat
  first : Nat
  frames : Nat
  flags : RdFlags
deriving DecidableEq, Repr

/-- The map unit (07). -/
structure MapUnit where
  /-- map page -> resident -/
  resident : Store Bool
  /-- map page -> loaded once by the warmer since BOOT ahead of its ascending order (03 R97) -/
  loaded : Store Bool
  /-- the warmer's next page in ascending order (03 R97) -/
  warmNext : Nat
  /-- pages kept by PIN_MAP (12 R383) -/
  pinPages : List Nat
  /-- page slots in retired map DRAM rows (R213) and the pages in the overflow pool, most recent first -/
  badSlots : List Nat
  overflow : List Nat
  /-- TLB: set*16+way -> LTN + 1 (R215), and PLRU bits by set -/
  tlb : Store Nat
  tlbPlru : Store (BitVec 15)
  /-- dirty objects (R216) -/
  dirty : Store Bool
  /-- demand map reads under way (R95) -/
  demand : List DemandRd
  -- journal
  /-- next JSEQ -/
  jnext : Nat
  /-- every record below is durable (R221) -/
  durable : Nat
  /-- records not yet in a line -/
  tail : List JRec
  /-- TIMEs at which the records of the tail were appended -/
  tailAt : List Nat
  lines : List JLine
  /-- journal tile, next line in it, and the tile named as next (R220) -/
  jtile : Nat
  jline : Nat
  jtileNext : Nat
  /-- closed journal tiles with the highest JSEQ each holds (R225 step 6) -/
  jclosed : List (Nat × Nat)
  /-- closed journal tiles with a failed line, to be retired in place of freed (R221) -/
  jbad : List Nat
  /-- journal lines programmed since the oldest record a replay may need: first JSEQ, tile, line -/
  jmap : List (Nat × Nat × Nat)
  /-- metadata tile -> its MSEQ plus 1 (R208, R209) -/
  mseqOf : Store Nat
  /-- JSEQs of the TILE_TAKEs of the journal tile and of the next one; 0 where their programs wait for none (R221, R222) -/
  jtake : Nat
  jnextTake : Nat
  /-- map page -> one past the highest JSEQ applied to it (R206) -/
  pageSeq : Store Nat
  -- checkpoints
  /-- ASEQ and CKPT_NO of the newest anchor -/
  aseq : Nat
  ckptNo : Nat
  ckpt : Option Ckpt
  /-- tree node -> tile of the newest checkpoint: objects by number, leaf f at 2^22 + f, branch b at 2^22 + 4096 + b, the root at
  2^22 + 4100 (07 R208) -/
  ckptTiles : Store Nat
  /-- tiles to free once the anchors verify -/
  superseded : List Nat
  /-- CKPT_NOW was written: it applies at the next pacing epoch (R241) -/
  ckptNow : Bool
  ckptReq : Bool
  /-- TIME and JSEQ at which the last checkpoint began -/
  ckptAt : Nat
  ckptJ : Nat
  /-- next MSEQ and its limit (R209) -/
  mseq : Nat
  ctrLimit : Nat
  /-- tiles converted to LOST since the last CHANNEL_FAIL of a re-plan (17 R489) -/
  converted : Nat
  /-- converted tiles, for the open list of the next join (17 R490) -/
  convertedLtns : List Nat
deriving DecidableEq, Repr

/-! ## Write path (04) -/

/-- A Cistern entry with its line (04 R112). -/
structure Cis where
  /-- the model's number of the entry, in the order of entering (log entry 76) -/
  slot : Nat
  /-- its slot in the slot array, and NEXT, the slot of the next entry of its bucket chain; 0x1FFFFFF ends the chain -/
  idx : Nat
  next : Nat
  dln : Nat
  ptn : BitVec 32
  fslot : Nat
  gen : BitVec 8
  p : Bool
  pcause : BitVec 2
  prog : Bool
  super : Bool
  /-- dispatch held until the move commits (07 R234) -/
  held : Bool
  /-- source die also charged during a move (08 R253) -/
  also : Option Nat
  /-- JSEQ the dispatch waits for (07 R222) -/
  waitJ : Nat
  /-- its frame has failed: it waits for its tile's move (06 R174) -/
  failed : Bool
  /-- passed by the Drain from the cache to the channel engine: it takes no slot and no charge (05 R161) -/
  direct : Bool
  data : Line
deriving DecidableEq, Repr

/-- Who waits for a write to complete. -/
inductive Origin where
  /-- a local port's request -/
  | host (p : Port) (tag : Nat)
  /-- forwarded by the peer: its MTAG and port -/
  | peer (mtag : Nat) (p : Port)
  /-- a mirrored install: MTAG, port, and FTAG and WAITED of a forwarded write (10 R317) -/
  | mirror (mtag : Nat) (p : Port) (ftag : Option Nat) (waited : Bool)
  /-- nobody waits: a refusal ordered at the home (08 R269), or a write whose port was reset (11 R360); it is mirrored -/
  | silent
  /-- a resync LINE, not mirrored -/
  | internal
  /-- the rewrite of a line with the peer's copy that LINE_REQ `mtag` asked for; not mirrored, and dropped where the line is written before
  it (02 R72) -/
  | repair (mtag : Nat)
deriving DecidableEq, Repr

/-- What a fill ended with (02 R77): a line, a never-written line, or no line, with ARG2 of MERGE_POISON. -/
inductive FillRes where
  | line (data : Line) (p : Bool) (pcause : BitVec 2)
  | never
  | bad (arg2 : Nat)
deriving DecidableEq, Repr

/-- A write waiting in its slice (04 R109). -/
structure WaitW where
  /-- arrival order at the slices -/
  ord : Nat
  dln : Nat
  org : Origin
  poison : Bool
  /-- poison cause stored when `poison` -/
  pcause : BitVec 2
  be : Enables
  data : Line
  /-- it arrived as a partial write -/
  part : Bool
  /-- it has waited under R109 -/
  waited : Bool
  /-- a partial write whose fill has ended and that waits for a way or a credit: what the fill found, until the line is written or discarded -/
  fill : Option FillRes
deriving DecidableEq, Repr

/-- The Cistern and the Pump (04). -/
structure Cist where
  /-- entries in the order in which they entered -/
  ents : List Cis
  nextSlot : Nat
  /-- bucket -> its chain head's slot plus 1; 0 for an empty chain (R112) -/
  heads : Store Nat
  /-- presence filter (R113) -/
  filter : Store Nat
  /-- whole quarter-tokens held per die (R127) -/
  tok : Store Nat
  /-- quarter-tokens received at THROTTLE2, modulo 32, per die (18 R518) -/
  skip8 : Store Nat
  /-- quarter-tokens received while a refresh past deadline waits, less 40 for each token it took (R128) -/
  share10 : Store Nat
  /-- quota per die; unlisted 163840 (R119) -/
  quota : Store Nat
  /-- quotas that apply at the next pacing epoch (R121) -/
  nextQuota : List (Nat × Nat)
  tplan : Store Nat
  /-- program times measured since the last plan: sum and count per die (06 R176) -/
  progSum : Store (Nat × Nat)
  dirtyLim : Nat
  /-- lines that left the Cistern in this epoch and the previous one (R132) -/
  left : Nat
  leftPrev : Nat
  pacing : Bool
  creditStop : Bool
  /-- write credits each port may still get back in this epoch while pacing (R132) -/
  budget : Store Nat
  /-- write credits withheld per port -/
  owed : Store Nat
  energyBound : Bool
  waits : List WaitW
  /-- number of the next write to arrive at a slice -/
  nextOrd : Nat
  /-- slice -> admission round: requester in turn, and admissions it has had (R134) -/
  rr : Store (Nat × Nat)
deriving DecidableEq, Repr

/-! ## Line cache (05) -/

/-- A way: tag entry and line (05 R143). -/
structure WayT where
  v : Bool
  d : Bool
  /-- the two further copies of D outside the protected word -/
  dc : BitVec 2
  p : Bool
  pcause : BitVec 2
  dk : Bool
  die : Nat
  pf : Bool
  dln : Nat
  /-- order in which the line became dirty (R125) -/
  stamp : Nat
  data : Line
deriving DecidableEq, Repr

/-- A slice (05 R157 to R163). -/
structure SliceT where
  retired : Bool
  /-- way disables in progress: way and the next set to treat (R158) -/
  disabling : List (Nat × Nat)
  /-- way -> TIMEs of its corrected errors within 24 h (R157) -/
  ce : Store (List Nat)
  ceTotal : Nat
  /-- SET of the first error latched (R163) -/
  errSet : Option Nat
deriving DecidableEq, Repr

/-- A host read that waits: port, tag, `cmp` for MemRd, the first-pass bound at its port in ns if it arrived in WARM with GUARD_SHORT clear
(03 R100), the TIME of its arrival, and the latency it would have had if served at once. -/
structure HostRd where
  port : Port
  tag : Nat
  cmp : Bool
  bound : Option Nat
  at_ : Nat
  lat0 : Nat
deriving DecidableEq, Repr

/-- Who waits for a line's lock (05 R149). -/
inductive Waiter where
  | host (r : HostRd)
  /-- a write to the line -/
  | partialWr (w : WaitW)
  /-- a read forwarded by the resync target -/
  | peerRd (mtag : Nat) (p : Port)
deriving DecidableEq, Repr

/-- A line's lock held by CACHE_MAINT (`maint`) or a way disable, which wait for Cistern room (05 R148, R153, R158). -/
structure MLock where
  dln : Nat
  maint : Bool
  waiters : List Waiter
deriving DecidableEq, Repr

/-- The line cache (05). -/
structure Cache where
  /-- slice*2^18 + set*16 + way -/
  ways : Store WayT
  /-- slice*2^14 + set -/
  plru : Store (BitVec 15)
  /-- the steering table (R141, R142) -/
  steer : List Nat
  slices : Store SliceT
  stamp : Nat
  /-- locks that maintenance holds; fills and prefetches hold theirs in `Medium.senses` (R148) -/
  locks : List MLock
  /-- slice*2^18 + set*16 + way -> the error its arrays show, found by the next access (R155) -/
  upset : Store ArrErr
deriving DecidableEq, Repr

/-! ## Medium (06, 03) -/

/-- Marker cells (06 R179). -/
inductive Marker where
  | blank | opened | closed
deriving DecidableEq, Repr

/-- A stored frame (06 R178 to R197): what the channel engine programmed, with the tag, key and counter it used. -/
structure Frame where
  marker : Marker
  /-- the levels of the 12 reference cells (R178) -/
  refs : List Nat
  w : Bool
  p : Bool
  tbin : BitVec 4
  pcause : BitVec 2
  line : Line
  ptn : BitVec 32
  fslot : BitVec 8
  ctr : BitVec 64
  cls : Bool
  /-- none: the frame is not scrambled (07 R210) -/
  key : Option (BitVec 80)
deriving DecidableEq, Repr

/-- A demand fill or prefetch in progress; it holds its line's lock (05 R148). -/
structure Sense where
  sid : Nat
  prefetch : Bool
  dln : Nat
  /-- the entry as resolved (03 R92); waits for its page while `waitPage` -/
  ptn : BitVec 32
  fslot : Nat
  gen : BitVec 8
  /-- EPOCH of the entry as resolved, and the reference entry taken at dispatch, or at the start of the retry (09 R280 to R282) -/
  epoch : BitVec 8
  refs : Nat
  waitPage : Bool
  /-- the retry is under way (03 R93) -/
  retrying : Bool
  /-- the tile's lines were discarded meanwhile (02 R67): what the sense returns is not installed -/
  stale : Bool
  flags : RdFlags
  waiters : List Waiter
deriving DecidableEq, Repr

/-- What runs in a partition (06 R168, R169). -/
inductive OpKind where
  | program (u : ProgRef)
  | reset
deriving DecidableEq, Repr

/-- A program or tile reset in progress: for a program its frame slot, the frame that its cells take, and the attempts that failed (06
R174). -/
structure Op where
  kind : OpKind
  die : Nat
  part : Nat
  ptn : Nat
  fslot : Nat
  frame : Frame
  fails : Nat
  suspended : Bool
deriving DecidableEq, Repr

/-- The medium and the channel engines (06). -/
structure Medium where
  /-- PTN*256 + frame slot -> frame -/
  frames : Store Frame
  senses : List Sense
  nextSid : Nat
  ops : List Op
  /-- interrupted frames that wait for their rewrite: LTN, PTN, frame slot and GEN (02 R50; 06 R182) -/
  rewrites : List (Nat × Nat × Nat × BitVec 8)
deriving DecidableEq, Repr

/-- A key slot (06 R196, 20 R544). -/
structure KeySlot where
  inUse : Bool
  rotating : Bool
  lost : Bool
  cur : BitVec 80
  new : BitVec 80
deriving DecidableEq, Repr

/-- Keys (20 R544). -/
structure Keys where
  slots : Store KeySlot
  meta_ : BitVec 80
  mkeyGen : Nat
  /-- wells whose rotation is deferred or to be started (06 R198, 20 R546) -/
  deferred : List Nat
deriving DecidableEq, Repr

/-! ## Wear and moves (08) -/

/-- A die's free pool (08 R246): tiles never taken from `next` on, in bucket 0, and the returned tiles in order with their
bucket. -/
structure Pool where
  next : Nat
  back : List (Nat × Nat)
deriving DecidableEq, Repr

/-- What a move record is for. -/
inductive MoveKind where
  | move | materialise | cow
deriving DecidableEq, Repr

/-- A move in progress (08 R250 to R256; 07 R233, R237). -/
structure Move where
  ltn : Nat
  kind : MoveKind
  cause : MoveCause
  /-- entry before the move -/
  prev : MapEntry
  dst : Nat
  rot : BitVec 8
  gen : BitVec 8
  /-- JSEQ of the TILE_TAKE -/
  takeJ : Nat
  /-- frames treated: bit per line -/
  copied : BitVec 256
  /-- lines waiting for LINE_RSP -/
  asked : List Nat
  /-- lines whose content is known and whose destination frame waits for its program: line, data, P, PCAUSE -/
  got : List (Nat × Line × Bool × BitVec 2)
  /-- JSEQ of the last record of the commit group -/
  commitJ : Option Nat
  /-- a destination frame failed (06 R174) -/
  failed : Bool
  /-- moved by the rotation walker (06 R199) -/
  walker : Bool
  /-- a refresh past deadline (09 R287) -/
  past : Bool
deriving DecidableEq, Repr

/-- Wear, moves and spare capacity (08). -/
structure Wear where
  led : Store Led
  /-- ledger objects in the cache, most recent first, and updates waiting: (PTN, 0 WEAR, 1 READS) (R244) -/
  ledCache : List Nat
  ledQ : List (Nat × Nat)
  pools : Store Pool
  cursor : Nat
  /-- die -> reset queue (R248) -/
  resetq : Store (List Nat)
  /-- tiles waiting for their records before they may enter the reset queue: (PTN, JSEQ) (07 R222) -/
  freeing : List (Nat × Nat)
  /-- PTN -> consecutive failed resets (R260) -/
  rfail : Store Nat
  moves : List Move
  /-- queued moves: at most one entry for a tile and a cause (R249, R250) -/
  queue : List (Nat × MoveCause)
  /-- moves abandoned for a failed destination frame that found no new one yet: tile, kind, cause, moved by the walker, past deadline
  (R256) -/
  restart : List (Nat × MoveKind × MoveCause × Bool × Bool)
  cond : Cap
  /-- WEAR increments since manufacture, tiles retired (18 R500, R511) -/
  wearSum : Nat
  retired : Nat
deriving DecidableEq, Repr

/-! ## Drift, refresh, scrub (09) -/

/-- An entry of a channel's address table (09 R284). -/
structure ErrEnt where
  ptn : Nat
  fslot : Nat
  count : Nat
  maxSym : Nat
  src : Nat
  last : Nat
deriving DecidableEq, Repr

/-- A channel engine (03 R82 to R103; 06 R202; 09; 18 R514). -/
structure Chan where
  retired : Bool
  /-- live dies -/
  live : BitVec 6
  burst : Nat
  /-- TIME steps of recent host frame reads, newest first (03 R83) -/
  arrivals : List Nat
  winCnt : Nat
  rdWin : Nat
  ceCnt : Nat
  ueCnt : Nat
  errs : List ErrEnt
  /-- first error latched: die, PTN, frame slot (06 R202) -/
  latch : Option (Nat × Nat × Nat)
  /-- thermal-age clock in 1/64 ms (R274) -/
  tac : Nat
  deadline : Nat
  quiet : Nat
  tblGen : Nat
  /-- highest age class of the last whole scanner pass, and of the pass that runs -/
  maxClass : Nat
  scanMax : Nat
  bnd : List Nat
  fpt : List Nat
  rt : List Nat
  ru : List Nat
  mdc : Nat
  /-- decodes of this interval by class 0 to 5 (R283, R291) -/
  dec : List Nat
  level : Nat
  /-- temperatures taken, °C × 4, per die, and consecutive failed readings -/
  temps : List Int
  sensFail : List Nat
  /-- dies whose sensor is taken under R514 until the next BOOT -/
  sensBad : List Nat
deriving DecidableEq, Repr

/-- A RANGE scrub in progress (09 R295). -/
structure ScrubRange where
  src : Nat
  tag : BitVec 16
  /-- next line, DLN, and one past the last tile -/
  next : Nat
  last : Nat
  /-- tiles sensed -/
  sensed : Nat
deriving DecidableEq, Repr

/-- Drift, refresh and scrub (09). -/
structure Drift where
  ec : Nat
  unitStart : Nat
  chans : Store Chan
  /-- refresh moves queued: LTN, past deadline, thermal age (R288) -/
  refq : List (Nat × Bool × Nat)
  m : Nat
  /-- highest bin recorded on any channel since the previous plan (R290) -/
  hiBin : Nat
  -- scrub
  /-- the walker's tile, or 2^31 + k for the k-th metadata tile, and its frame -/
  cursor : Nat
  line : Nat
  pausedAt : Option Nat
  range : Option ScrubRange
  /-- die -> next sentinel (R297), and the clock of its channel plus 1 at the last program -/
  sentinel : Store Nat
  sentAt : Store Nat
  /-- die -> lines of its next sentinel that are still to be programmed -/
  sentLeft : Store (BitVec 256)
deriving DecidableEq, Repr

/-! ## The pair (10) -/

/-- An open write: applied at the home and not yet acknowledged (R306), or a STATE_OP TILE or ENTRY not yet acknowledged. -/
inductive OpenW where
  | write (mtag dln : Nat) (org : Origin) (part : Bool)
  | tileOp (mtag ltn sseq : Nat)
  | entry (mtag ltn : Nat)
deriving DecidableEq, Repr

/-- A forwarded write whose copy is kept (R307). -/
structure Fwd where
  mtag : Nat
  dln : Nat
  port : Port
  tag : Nat
  poison : Bool
  be : Enables
  data : Line
deriving DecidableEq, Repr

/-- A forwarded read of the resync target (R335). -/
structure FwdRd where
  mtag : Nat
  dln : Nat
  rd : HostRd
deriving DecidableEq, Repr

/-- The handover of R336, as this module sees it. -/
inductive Hand where
  | none
  /-- REQ sent; waiting for ACK (and then for its open writes) -/
  | giving (ackIn : Bool)
  /-- REQ received and ACK sent; waiting for SWITCH -/
  | taking
  /-- TWIN_CONTROL LEAVE: admission has stopped until the role changes (R321) -/
  | leaving
deriving DecidableEq, Repr

/-- A write held by a handover (R336). -/
structure HeldW where
  port : Port
  tag : Nat
  dln : Nat
  poison : Bool
  be : Enables
  data : Line
deriving DecidableEq, Repr

/-- For which tiles this module is home (10 R302, R324, R336). -/
inductive HomeMode where
  | all
  /-- by seat and LTN parity -/
  | bySeat
  /-- the peer is home of every tile -/
  | peer
deriving DecidableEq, Repr

/-- A message sent to the peer (10 R317). -/
inductive Msg where
  | mirrorWrite (mtag : Nat) (p : Bool) (pcause : BitVec 2) (port : Port) (dln : Nat) (ftag : Option Nat) (waited : Bool) (data : Line)
  | mirrorAck (mtags : List Nat)
  | fwdFull (mtag : Nat) (port : Port) (dln : Nat) (poison : Bool) (data : Line)
  | fwdPart (mtag : Nat) (port : Port) (dln : Nat) (poison : Bool) (be : Enables) (data : Line)
  | fwdRd (mtag : Nat) (port : Port) (dln : Nat)
  | fwdRdData (mtag : Nat) (ue p : Bool) (data : Line)
  | fwdRefuse (mtag dln : Nat)
  | stateCmd (mtag : Nat) (sseq : Option Nat) (desc : BitVec 512)
  | stateTile (mtag ltn sseq : Nat)
  | stateDone (sseq status : Nat)
  | heartbeat (h : HbInfo)
  | entry (mtag ltn : Nat) (cls : TileClass) (pattern : BitVec 32)
  | line (dln : Nat) (p : Bool) (pcause : BitVec 2) (data : Line)
  | tileEnd (ltn lines : Nat)
  | tileAck (ltn : Nat)
  | lineReq (mtag dln : Nat)
  | lineRsp (mtag dln : Nat) (ok p : Bool) (pcause : BitVec 2) (data : Line)
  | doneReq | doneAck | doneSwitch
  | agateCopy (recs : List AgRec)
  | promoteNote (cause : NoteCause)
  | joinPage (part : Nat) (data : Line)
  | joinOpen (index : Nat) (ltns : List Nat)
  | joinWells (index : Nat) (wells : List Well)
  | joinInuse (ranges : List (Nat × Nat))
  | joinEnd (list count : Nat)
deriving DecidableEq, Repr

/-- The Spinel link and the pair role protocol (10). -/
structure Pair where
  role : Role
  home : HomeMode
  linkUp : Bool
  lanes : Nat
  syncSrc : Bool
  diverged : Bool
  promoteWait : Bool
  witOk : Bool
  /-- TIME of the last WIT_IN edge -/
  witLast : Nat
  peerVariant : Variant
  peerSeat : Bool
  peerSerial : BitVec 128
  -- link layer
  fseq : Nat
  /-- outstanding flits: FSEQ, TIME formed, replays (R313) -/
  flits : List (Nat × Nat × Nat)
  rxSeq : Nat
  rxDiscard : Bool
  /-- credits held: MIR, REQ, BULK (R314) -/
  mir : Nat
  req : Nat
  bulk : Nat
  /-- credits to return to the peer -/
  owedMir : Nat
  owedReq : Nat
  owedBulk : Nat
  /-- messages that wait for a credit or for room among the outstanding flits, in order (R313, R314) -/
  txq : List Msg
  mtag : Nat
  opens : List OpenW
  fwds : List Fwd
  fwdRds : List FwdRd
  -- liveness
  /-- the first window that counts, once counting has started; windows are numbered by TIME / 10 µs (R319) -/
  counting : Option Nat
  /-- windows not ended yet in which a HEARTBEAT arrived -/
  seen : List Nat
  misses : Nat
  peerHb : Option HbInfo
  /-- the window of the last HEARTBEAT sent, plus 1 -/
  hbSent : Nat
  hseq : Nat
  note : Bool
  -- commands
  sseq : Nat
  -- join (R329)
  joinAt : Nat
  linkAt : Nat
  /-- a TWIN_CONTROL JOIN runs (R323) -/
  joinCmd : Bool
  peerPage : List (Nat × Line)
  peerOpen : Store Nat
  peerOpenEnd : Bool
  peerWells : Store Well
  peerWellsEnd : Bool
  peerInuse : List (Nat × Nat)
  peerInuseEnd : Bool
  decided : Bool
  isTarget : Bool
  /-- the sync set is all in use (R329) -/
  allInUse : Bool
  -- resync
  /-- tiles in the sync set -/
  sync : Store Bool
  /-- tile being synced: LTN -/
  syncing : Option Nat
  /-- lines written by MIRROR_WRITE since the ENTRY of the tile (R333) -/
  fresh : List Nat
  /-- resync bitmap (R325) -/
  bitmap : Store Bool
  -- SOLO entry (R324)
  guardEnd : Option Nat
  soloDurable : Bool
  /-- completions held until the pairing page is durable: port, tag, partial, LTN -/
  soloHeld : List (Port × Nat × Bool × Nat)
  hand : Hand
  heldW : List HeldW
  /-- lines read from the peer for repair: MTAG, DLN, written since (R338) -/
  repairs : List (Nat × Nat × Bool)
  /-- lines sent in this epoch (R332) -/
  resyncSent : Nat
  /-- lines of the tile being synced still to be sent, and LINEs sent of it (R333) -/
  syncLines : List Nat
  syncSent : Nat
deriving DecidableEq, Repr

/-! ## Faults and Agate (14) -/

/-- A fault latch (14 R428). -/
structure Latch where
  valid : Bool
  urgent : Bool
  count : Nat
  source : Nat
  code : Nat
  arg0 : Nat
  arg1 : Nat
  arg2 : Nat
  time : Nat
deriving DecidableEq, Repr

/-- The fault unit (14 R428 to R431, R443). -/
structure Faults where
  ce : Latch
  uc : Latch
  ft : Latch
  ceTotal : Nat
  ucTotal : Nat
  escTotal : Nat
deriving DecidableEq, Repr

/-- The Agate recorder (14 R434 to R441). -/
structure Agate where
  /-- SEQ of the next record -/
  next : Nat
  /-- the newest record is open (R435) -/
  open_ : Bool
  /-- buffer slot -> record and whether flushed (R437) -/
  buf : Store (AgRec × Bool)
  /-- reservation V (R436) -/
  resv : Nat
  badSlots : List Nat
  lost : Nat
  peerCnt : Nat
  /-- newest flushed SEQ plus 1 -/
  flushed : Nat
  /-- SEQs of the records whose limited flush waits (R438) -/
  trig : List Nat
  /-- a fatal, commanded flush waits -/
  full : Bool
  lastLimited : Option Nat
  busy : Bool
deriving DecidableEq, Repr

/-! ## Quartz (15) -/

/-- Quartz (15). -/
structure Quartz where
  ctr : Store Nat
  ovf : Store Bool
  /-- FSET in force and pending, by counter (R448) -/
  fset : Store (Nat × Nat)
  /-- filter set*4 + register -> cell (R447, R455) -/
  fs : Store RegCell
  /-- 64*port + bin (R101) -/
  hist : Store Nat
  histOvf : Store Bool
  frozen : Bool
  shadow : Store Nat
  frzTime : Nat
  dseq : Nat
  dumpTail : Nat
  lostSince : Nat
  lost : Nat
deriving DecidableEq, Repr

/-! ## Zircon and thermal (18) -/

/-- A plan's pending items (18 R504, R505). -/
structure Plan where
  vcore : Option Nat
  /-- channel, BND, FPT, RT, RU, MDC -/
  tables : List (Nat × List Nat × List Nat × List Nat × List Nat × Nat)
  /-- M of R290; present exactly when the drift tables are pending -/
  mNew : Option Nat
  deadlines : List (Nat × Nat)
  quotas : List (Nat × Nat)
  floor : Option Nat
deriving DecidableEq, Repr

/-- Zircon (18). -/
structure Zircon where
  /-- a re-plan is forming: cause and start -/
  forming : Option (Nat × Nat)
  waiting : List Nat
  lastStart : Nat
  cause : Nat
  planGen : Nat
  pend : Plan
  floor : Nat
  /-- 0.1 ns -/
  slackNow : Nat
  slackMin : Nat
  can : Store (Nat × Nat)
  eyes : Store (Nat × Nat)
  guardShort : Bool
  /-- a planned 5 mV lowering is checked at the next sample: req in 0.1 ns (R507) -/
  checkReq : Option Nat
  /-- slack gained per 5 mV at the last change, 0.1 ns (R507); and the slack before a change with its size in mV, until the next sample -/
  sens : Nat
  sensFrom : Option (Nat × Int)
  /-- the canary samples of the last 10 s: TIME and lowest slack (R507) -/
  slacks : List (Nat × Nat)
  /-- die -> a window of 1 s and the tiles taken in it since the previous plan, and the highest such count of any die (R506) -/
  takes : Store (Nat × Nat)
  takePeak : Nat
  testing : Bool
  testStepMv : Nat
  testEc : Option Nat
  testReq : Bool
  /-- a test whose conditions did not hold is tried again from here on (R509) -/
  testNext : Nat
  bankC : Nat
  bankEsr : Nat
  bankE : Nat
  bankE0 : Nat
  remPct : Nat
  limiter : Nat
  years : Nat
  lifeLow : Bool
  hours : Nat
  /-- TIME up to which the powered hours are counted, and ns beyond the last whole hour -/
  svcAt : Nat
  svcNs : Nat
  vcore0 : Nat
  wearMean : Nat
  /-- the retirements of the last 30 days: EC and number of tiles -/
  retires : List (Nat × Nat)
  pEst : Nat
  sweepLate : Nat
  tplanMax : Nat
  /-- plan log, oldest first: EC and the used values × 10^6 (R511) -/
  planLog : List (Nat × List Nat)
  /-- next places in the rings of the plan log and the bank-test log (R503) -/
  planIx : Nat
  bankIx : Nat
  /-- EC at the last store of the plan, log and life pages -/
  storedAt : Option Nat
deriving DecidableEq, Repr

/-- The thermal monitor (18 R514 to R520). Temperatures in °C × 4. -/
structure Thermal where
  cond : Therm
  yelLvl : Nat
  yel : Int
  yelPeak : Int
  yelMiss : Nat
  yelFail : Bool
  media : Int
  mediaPeak : Int
  hotCh : Nat
  hotDie : Nat
  /-- R516 has set SHUTDOWN -/
  tripped : Bool
  /-- ns spent at WARN, THROTTLE1, THROTTLE2 and the TIME of the last change -/
  warnNs : Nat
  t1Ns : Nat
  t2Ns : Nat
  since : Nat
  shutCnt : Nat
  lastShut : Nat
  restarts : Nat
deriving DecidableEq, Repr

/-! ## Beryl (19) -/

/-- A slot of the shadow: the four header fields, the data, and whether a group of either has an uncorrectable error (19 R526, R527). -/
structure SlotB where
  psq : Nat
  page : Nat
  crc : Nat
  commit : Nat
  data : Page
  ue : Bool
deriving DecidableEq, Repr

/-- A store operation (19 R528 to R531). -/
structure StoreOp where
  num : Nat
  /-- ranges of the operation: first and last page -/
  ranges : List (Nat × Nat)
  /-- it runs, and its pages still to program -/
  begun : Bool
  pages : List Nat
  /-- pages it takes -/
  total : Nat
  /-- a page failed both verifies -/
  fails : Bool
  /-- 0 settings or BR_CTL.STORE, 1 Agate flush, 2 Drain step 4, 3 final store of the Drain, 4 pairing, 5 shutdown page, 6 other -/
  kind : Nat
deriving DecidableEq, Repr

/-- The Beryl store (19). -/
structure Beryl where
  image : Store Page
  dirty : Store Bool
  /-- 2*page + slot -/
  slots : Store SlotB
  /-- page -> slot in force -/
  force : Store Nat
  restored : Bool
  /-- operations: the running one first -/
  ops : List StoreOp
  nextOp : Nat
  /-- pages in program with their copies and failed verifies, oldest first; more than one in DRAIN only (R530) -/
  prog : List (Nat × Page × Nat)
  defaulted : List Nat
  lostCnt : Nat
  rollCnt : Nat
  failPage : Option Nat
  worn : List Nat
deriving DecidableEq, Repr

/-! ## Security (20) -/

/-- The staged firmware slot (20 R549). -/
inductive Staged where
  | nothing
  /-- the bytes staged so far -/
  | incomplete (bytes : List (BitVec 8))
  | verified (img : Image)
deriving DecidableEq, Repr

/-- The security block and fuses (20). -/
structure Security where
  variant : Variant
  serial : BitVec 128
  lifecycle : Nat
  /-- rollback fuses blown (R550) -/
  f : Nat
  revoked : BitVec 4
  /-- the fused SHA-512 digests of the moduli of signing keys 0 to 3 (R541) -/
  keyDigests : Store (BitVec 512)
  /-- the identity key and the wrap key (R543), which nothing outside the security block reads -/
  idKey : BitVec 4096
  wrapKey : BitVec 256
  lot : BitVec 36
  wafer : BitVec 5
  x : BitVec 8
  y : BitVec 8
  /-- die position -> die record (57 bits) -/
  dies : Store Nat
  active : Image
  staged : Staged
  selected : Bool
  entropyOk : Bool
  fails : Nat
  advPending : Bool
  /-- a fuse advance runs -/
  blowing : Bool
  sbSessions : List Session
  sanCount : Nat
  /-- the wells and the retired tiles when the last SANITIZE began, kept with SAN_RUN (20 R558; log entry 83) -/
  sanWells : Store Well
  sanRetired : List Nat
deriving DecidableEq, Repr

/-! ## Outputs -/

/-- What leaves the module. -/
inductive Out where
  /-- S2M DRS MemData with its poison bit -/
  | drs (p : Port) (tag : Nat) (data : Line) (poison : Bool)
  /-- S2M NDR Cmp -/
  | ndr (p : Port) (tag : Nat)
  /-- DMA write to host memory of port p -/
  | dma (p : Nat) (addr : Nat) (bytes : List (BitVec 8))
  | msix (p vec : Nat)
  /-- sideband completion and its output bytes (12 R395) -/
  | sideband (cpl : BitVec 128) (bytes : List (BitVec 8))
  | sbControl (eid : BitVec 8)
  | msg (m : Msg)
  /-- a flit header with NAK (10 R313) -/
  | nak (ackseq : Nat)
  /-- credits returned in a flit header: MIR, REQ, BULK (10 R312) -/
  | cret (mir req bulk : Nat)
  /-- flits sent again from this FSEQ (10 R313) -/
  | replay (fseq : Nat)
  | retrain
  /-- mailbox return code (0 success, 1 Busy, 2 Unsupported, 3 Invalid Input) and payload fields -/
  | mbox (p : Port) (code : Nat) (payload : List Nat)
  /-- SPDM response: kind (the request's code) or an error, and its bytes -/
  | spdm (via : SpdmVia) (ok : Bool) (kind : Nat) (bytes : List (BitVec 8))
  /-- value returned by a register read -/
  | regRead (r : Requester) (v : Slot)
  | jtag (data : Line)
  | jtagTest (ok : Bool)
  /-- dynamic-capacity event: 0 add, 1 release request, 2 forced removal; well; blocks -/
  | dcEvent (p : Port) (kind well : Nat) (blocks : List Nat)
  /-- error signalled on CXL.io (11 R354, R355) -/
  | aer (p : Port) (kind : Nat)
  | gpf (p : Port) (phase2 : Bool)
deriving DecidableEq, Repr

/-! ## The whole state -/

/-- The state of one module. -/
structure State where
  /-- commands waiting, first in, first out (the model's queue) -/
  pending : List Instr
  /-- outputs, oldest first -/
  out : List Out
  /-- the model's counter for free values (log entry 2) -/
  freeCtr : Nat
  /-- block*128 + slot -> cell (13 R401) -/
  regs : Store RegCell
  req : Requesters
  pwr : Power
  ports : Store PortSt
  rings : Store Ring
  cmds : Cmds
  tabs : Tables
  mapu : MapUnit
  cist : Cist
  cache : Cache
  med : Medium
  keys : Keys
  wear : Wear
  drift : Drift
  pair : Pair
  flt : Faults
  ag : Agate
  qz : Quartz
  zir : Zircon
  th : Thermal
  beryl : Beryl
  sec : Security
deriving DecidableEq, Repr

/-- Why a step stops. No command of this module stops it: the manual gives every row an effect, and every open value is a free
value; so there is no constructor. -/
inductive Fault where
deriving DecidableEq, Repr

/-- Why a command has no meaning. -/
inductive Refusal where
  /-- Raised by an arm of exec that has no meaning yet. Safe: nothing is claimed of that command. -/
  | notModelled (mnemonic : String)
deriving DecidableEq, Repr

/-! ## Reset

Every field at the value the manual states for reset; where it states none, at the value log entry 3 names (DESIGN CHOICE). The
module right after reset is the module as delivered, OFF, with neither input applied (01 R18, R21). -/

/-- A register cell with both words at `w` and no flag set (13 R404, R408). -/
def cellOf (w : Word20) : RegCell := { act := w, pend := w, rc := 0 }

/-- The record with every field zero. -/
def agRec0 : AgRec :=
  { seq := 0, repeats := 0, cls := 0, urgent := false, peer := false, time := 0, source := 0, code := 0, arg0 := 0, arg1 := 0, arg2 := 0 }

/-- The record in force before any image is loaded: every field zero (log entry 3). -/
def image0 : Image := { wellFormed := true, svn := 0, version := 0, keyIdx := 0, digestOk := true, sigOk := true, sha := 0 }

/-- A domain that is off (16 R483). -/
def domInit : Dom := { st := 0, attempts := 0, cause := 0, glitches := 0, chat := [], chatMute := 0 }

/-- A port whose link is down (11 R365, R346). -/
def portInit : PortSt :=
  { linkUp := false, width := 0, rate := 0, lanes := 0, memActive := false, ideMem := false, ideIo := false, ideFailed := false,
    ksetMem := false, ksetIo := false, ideKeys := [], viral := false, viralEn := false, hdm := [], exts := [], extGen := 0,
    logs := [], evVec := 0, tsOff := 0, alertLife := 0, alertTemp := 0, alertCe := 0, fenced := 0, sessions := [], rdOut := 0,
    wrOut := 0 }

/-- A disabled, empty ring (12 R366 to R369). -/
def ringInit : Ring :=
  { head := 0, tail := 0, cplHead := 0, cplTail := 0, ph := true, enabled := false, wait := [],
    vecs := [] }

/-- The map entry with all 60 bits zero: UNWRITTEN (07 R203, R204). -/
def entryInit : MapEntry := { st := .unwritten, ptn := 0, rot := 0, epoch := 0, gen := 0 }

/-- A well slot that holds no well (07 R218). -/
def wellInit : Well :=
  { live := false, base := 0, size := 0, mask := 0, shared := false, prot := false, ruZero := false, pin := false, key := 0 }

/-- A ledger entry with all fields zero (08 R242). -/
def ledInit : Led := { wear := 0, reads := 0, adv := 0 }

/-- An invalid way (05 R143). -/
def wayInit : WayT :=
  { v := false, d := false, dc := 0, p := false, pcause := 0, dk := false, die := 0, pf := false, dln := 0, stamp := 0, data := 0 }

/-- A live slice with no error (05 R163). -/
def sliceInit : SliceT := { retired := false, disabling := [], ce := [], ceTotal := 0, errSet := none }

/-- The levels of the 12 reference cells of a program: three at each of the four (06 R178). -/
def refCells : List Nat := [0, 0, 0, 1, 1, 1, 2, 2, 2, 3, 3, 3]

/-- A BLANK frame (06 R175, R179): every cell at L0. -/
def frameInit : Frame :=
  { marker := .blank, refs := List.replicate 12 0, w := false, p := false, tbin := 0, pcause := 0, line := 0, ptn := 0, fslot := 0, ctr := 0,
    cls := false, key := none }

/-- No clone entry, and no sharer node (07 R235). -/
def cloneInit : CloneEnt := { v := false, ptn := 0, refs := 0, head := 0 }
def nodeInit : CloneNode := { v := false, ltn := 0, next := 0 }

/-- A key slot not in use (06 R196). -/
def keyInit : KeySlot := { inUse := false, rotating := false, lost := false, cur := 0, new := 0 }

/-- A die's free pool with no tile taken (08 R246). -/
def poolInit : Pool := { next := 0, back := [] }

/-- The factory class boundaries (09 R278), read times and units, and the largest drift class. -/
def bndInit : List Nat := [0, 2, 4, 8, 12, 16, 24, 32, 48, 64, 96, 128, 192, 256, 384, 512]

/-- A live channel with no history. -/
def chanInit : Chan :=
  { retired := false, live := 0x3F, burst := 0, arrivals := [], winCnt := 0, rdWin := 0, ceCnt := 0, ueCnt := 0, errs := [],
    latch := none, tac := 0, deadline := 480, quiet := 0, tblGen := 0, maxClass := 0, scanMax := 0, bnd := bndInit,
    fpt := [], rt := [], ru := [], mdc := 0, dec := [], level := 0, temps := [], sensFail := [], sensBad := [] }

/-- An empty latch (14 R442). -/
def latchInit : Latch :=
  { valid := false, urgent := false, count := 0, source := 0, code := 0, arg0 := 0, arg1 := 0, arg2 := 0, time := 0 }

/-- A plan with nothing pending (18 R504). -/
def planInit : Plan := { vcore := none, tables := [], mNew := none, deadlines := [], quotas := [], floor := none }

/-- The content of a page as delivered: settings page 0 with the factory values of the stored fields that the manual gives (BERYL
WARN 88, R540; Zircon PERIOD 24 and LIFE_ALERT 10, R501 and R512; L2_SKIP 4, R518), Zircon's life page with VCORE at manufacture 900 mV and a life of 100%, every other page zero (log entry 5). -/
def factoryPage (n : Nat) : Page :=
  if n = 0 then BitVec.ofNat 2048 (24 * 2 ^ 22 + 10 * 2 ^ 27 + 4 * 2 ^ 37 + 88 * 2 ^ 48)
  else if n = 3064 then BitVec.ofNat 2048 (100 * 2 ^ 80 + 1023 * 2 ^ 90 + 900 * 2 ^ 140)
  else 0

/-- Tables with no tile mapped and no well (07). -/
def tablesInit : Tables := { map := [], tile := [], wells := [], clones := [], nodes := [], refused := [], cursor := [] }

/-- The anchor a module is delivered with (07 R210, R211, R225; log entry 81): ASEQ and CKPT_NO 1, no root, REPLAY_JSEQ 0 in line 1 of the first
tile, PTN 2, with MSEQ 0, CTR_LIMIT 2^32, and the variant. -/
def anchorBorn (var : Variant) : Line :=
  BitVec.ofNat 512 (1 + 2 ^ 40 + 2 * 2 ^ 248 + 2 ^ 376 + 2 ^ 32 * 2 ^ 384 + (match var with | .y32 => 0 | .y16 => 1) * 2 ^ 448)

/-- Its four copies: anchor frame 0 of die 0 of channels 1, 9, 17 and 25. -/
def framesBorn (var : Variant) : Store Frame :=
  [1, 9, 17, 25].map (fun c => (c * 2 ^ 27 * 256,
    { marker := .closed, refs := refCells, w := true, p := false, tbin := 0, pcause := 0, line := anchorBorn var, ptn := BitVec.ofNat 32 (c * 2 ^ 27),
      fslot := 0, ctr := 0, cls := true, key := none }))

def reqReset : Requesters :=
  { armed := [], viol := none, time := [], seqs := [], ctrHi := [], gasp := none, gaspValid := false }

def pwrReset : Power :=
  { st := .off, warm := false, bootStep := 0, time := 0, mainOn := false, auxOn := false, vinMv := 0, vauxMv := 0, vbankMv := 0,
    pinCw := 0, pwrFail := false, perst := 0xF, perstLatch := 0, bankFailed := false, onBank := false, vcore := 900,
    doms := [], seqStep := 0, testMode := false, gasp := none, fatal := false, alive := false, aliveRun := true,
    wdOk := true, haltTh := false, restartBlk := false, drain := none, witOut := false, seat := false, sbSel := false,
    sbAddr := 0, eid := 0, coolSince := none }

def cmdsReset : Cmds := { run := [], tasks := [], early := [], earlyDone := [], sanitizing := false, sanStep := 0, hold := [], starts := 0 }

def mapReset : MapUnit :=
  { resident := [], loaded := [], warmNext := 0, pinPages := [], badSlots := [], overflow := [], tlb := [], tlbPlru := [], dirty := [],
    demand := [], jnext := 0, durable := 0, tail := [], tailAt := [], lines := [], jtile := 0, jline := 0, jtileNext := 0,
    jclosed := [], jbad := [], jmap := [], mseqOf := [], jtake := 0, jnextTake := 0, pageSeq := [], aseq := 0, ckptNo := 0, ckpt := none,
    ckptTiles := [], superseded := [], ckptNow := false, ckptReq := false, ckptAt := 0, ckptJ := 0, mseq := 1, ctrLimit := 0, converted := 0, convertedLtns := [] }

def cistReset : Cist :=
  { ents := [], nextSlot := 0, heads := [], filter := [], tok := [], skip8 := [], share10 := [], quota := [], nextQuota := [], tplan := [], progSum := [],
    dirtyLim := 16384, left := 0, leftPrev := 0, pacing := false, creditStop := false, budget := [], owed := [],
    energyBound := false, waits := [], nextOrd := 0, rr := [] }

def cacheReset : Cache := { ways := [], plru := [], steer := [], slices := [], stamp := 0, locks := [], upset := [] }

def medReset : Medium := { frames := framesBorn .y32, senses := [], nextSid := 0, ops := [], rewrites := [] }

def keysReset : Keys := { slots := [], meta_ := 0, mkeyGen := 0, deferred := [] }

def wearReset : Wear :=
  { led := [], ledCache := [], ledQ := [], pools := [], cursor := 0, resetq := [], freeing := [], rfail := [], moves := [],
    queue := [], restart := [], cond := .normal, wearSum := 0, retired := 0 }

def driftReset : Drift :=
  { ec := 0, unitStart := 0, chans := [], refq := [], m := 0, hiBin := 0, cursor := 0, line := 0, pausedAt := none, range := none,
    sentinel := [], sentAt := [], sentLeft := [] }

def pairReset : Pair :=
  { role := .unpaired, home := .all, linkUp := false, lanes := 0, syncSrc := false, diverged := false, promoteWait := false, witOk := false,
    witLast := 0, peerVariant := .y32, peerSeat := false, peerSerial := 0, fseq := 0, flits := [], rxSeq := 0, rxDiscard := false,
    mir := 0, req := 0, bulk := 0, owedMir := 0, owedReq := 0, owedBulk := 0, txq := [], mtag := 0, opens := [], fwds := [], fwdRds := [],
    counting := none, seen := [], misses := 0, peerHb := none, hbSent := 0, hseq := 0, note := false, sseq := 0,
    joinAt := 0, linkAt := 0, joinCmd := false, peerPage := [], peerOpen := [], peerOpenEnd := false, peerWells := [],
    peerWellsEnd := false, peerInuse := [], peerInuseEnd := false, decided := false, isTarget := false, allInUse := false,
    sync := [], syncing := none, fresh := [], bitmap := [], guardEnd := none, soloDurable := false, soloHeld := [], hand := .none,
    heldW := [], repairs := [], resyncSent := 0, syncLines := [], syncSent := 0 }

def fltReset : Faults := { ce := latchInit, uc := latchInit, ft := latchInit, ceTotal := 0, ucTotal := 0, escTotal := 0 }

def agReset : Agate :=
  { next := 0, open_ := false, buf := [], resv := 0, badSlots := [], lost := 0, peerCnt := 0, flushed := 0, trig := [],
    full := false, lastLimited := none, busy := false }

def qzReset : Quartz :=
  { ctr := [], ovf := [], fset := [], fs := [], hist := [], histOvf := [], frozen := false, shadow := [], frzTime := 0, dseq := 0,
    dumpTail := 0, lostSince := 0, lost := 0 }

def zirReset : Zircon :=
  { forming := none, waiting := [], lastStart := 0, cause := 0, planGen := 0, pend := planInit, floor := 0x10, slackNow := 0x3FF,
    slackMin := 0x3FF, can := [], eyes := [], guardShort := false, checkReq := none, sens := 10, sensFrom := none, slacks := [], takes := [], takePeak := 0, testing := false, testStepMv := 0,
    testEc := none, testReq := false, testNext := 0, bankC := 0, bankEsr := 0, bankE := 0, bankE0 := 0, remPct := 0, limiter := 0,
    years := 0, lifeLow := false, hours := 0, svcAt := 0, svcNs := 0, vcore0 := 0, wearMean := 0, retires := [], pEst := 0,
    sweepLate := 0, tplanMax := 1600, planLog := [], planIx := 0, bankIx := 0, storedAt := none }

def thReset : Thermal :=
  { cond := .nominal, yelLvl := 0, yel := -256, yelPeak := -256, yelMiss := 0, yelFail := false, media := -256, mediaPeak := -256, hotCh := 0,
    hotDie := 0, tripped := false, warnNs := 0, t1Ns := 0, t2Ns := 0, since := 0, shutCnt := 0, lastShut := 0, restarts := 0 }

def berylReset : Beryl :=
  { image := [], dirty := [], slots := [], force := [], restored := false, ops := [], nextOp := 0, prog := [],
    defaulted := [], lostCnt := 0, rollCnt := 0, failPage := none, worn := [] }

def secReset : Security :=
  { variant := .y32, serial := 0, lifecycle := 1, f := 0, revoked := 0, keyDigests := [], idKey := 0, wrapKey := 0, lot := 0, wafer := 0, x := 0, y := 0, dies := [],
    active := image0, staged := .nothing, selected := false, entropyOk := true, fails := 0, advPending := false, blowing := false,
    sbSessions := [], sanCount := 0, sanWells := [], sanRetired := [] }

/-- The module right after reset. -/
def State.reset : State :=
  { pending := [], out := [], freeCtr := 0, regs := [], req := reqReset, pwr := pwrReset, ports := [], rings := [],
    cmds := cmdsReset, tabs := tablesInit, mapu := mapReset, cist := cistReset, cache := cacheReset, med := medReset,
    keys := keysReset, wear := wearReset, drift := driftReset, pair := pairReset, flt := fltReset, ag := agReset, qz := qzReset,
    zir := zirReset, th := thReset, beryl := berylReset, sec := secReset }

end Sys2Proof.Machine
end

