-- ==== Sys2Proof/Machine/Store.lean ====
section
/-! DEFINITION. Reading and writing sparse data by index (log entry 4), and small list and bit helpers that every unit uses. -/

namespace Sys2Proof.Machine

/-- The value at index `k`: `d` where nothing is listed. -/
def sGet {α : Type} (d : α) : Store α → Nat → α
  | [], _ => d
  | (j, v) :: m, k => if j = k then v else sGet d m k

/-- Insert or replace index `k`, keeping the indexes rising. -/
def sIns {α : Type} (k : Nat) (v : α) : Store α → Store α
  | [] => [(k, v)]
  | (j, w) :: m => if k < j then (k, v) :: (j, w) :: m else if j = k then (k, v) :: m else (j, w) :: sIns k v m

/-- Remove index `k`. -/
def sDel {α : Type} (k : Nat) : Store α → Store α
  | [] => []
  | (j, w) :: m => if j = k then sDel k m else (j, w) :: sDel k m

/-- Write `v` at index `k`; writing the default removes the entry. -/
def sSet {α : Type} [DecidableEq α] (d : α) (m : Store α) (k : Nat) (v : α) : Store α :=
  if v = d then sDel k m else sIns k v m

/-- Change the value at index `k`. -/
def sMod {α : Type} [DecidableEq α] (d : α) (m : Store α) (k : Nat) (f : α → α) : Store α :=
  sSet d m k (f (sGet d m k))

/-- Change every value listed; values that become the default leave the list. -/
def sMap {α : Type} [DecidableEq α] (d : Nat → α) (f : α → α) (m : Store α) : Store α :=
  (m.map (fun x => (x.1, f x.2))).filter (fun x => decide (x.2 ≠ d x.1))

/-- The canonical form: rising indexes, no entry equal to the default. -/
def sWf {α : Type} [DecidableEq α] (d : Nat → α) : Store α → Bool
  | [] => true
  | (j, v) :: m => decide (v ≠ d j) && m.all (fun x => decide (j < x.1)) && sWf d m

/-- Bits [hi:lo] of a number (00 R7). -/
def bitsOf (x hi lo : Nat) : Nat := (x >>> lo) % 2 ^ (hi + 1 - lo)

/-- Bit k of a number. -/
def bitOf (x k : Nat) : Bool := (x >>> k) % 2 == 1

/-- 1 for true. -/
def b2n (b : Bool) : Nat := if b then 1 else 0

/-- The nearer limit of [lo, hi] (13 R404). -/
def clampTo (lo hi x : Nat) : Nat := if x < lo then lo else if hi < x then hi else x

/-- Counting that stops at `top`. -/
def satAdd (top a b : Nat) : Nat := if top < a + b then top else a + b

/-- The element at `i`, or `d`. -/
def nth {α : Type} (d : α) : List α → Nat → α
  | [], _ => d
  | x :: _, 0 => x
  | _ :: r, i + 1 => nth d r i

/-- The list with element `i` changed. -/
def modNth {α : Type} (f : α → α) : List α → Nat → List α
  | [], _ => []
  | x :: r, 0 => f x :: r
  | x :: r, i + 1 => x :: modNth f r i

/-- The first element that satisfies `p`. -/
def findP {α : Type} (p : α → Bool) : List α → Option α
  | [] => none
  | x :: r => if p x then some x else findP p r

/-- The list with the first element that satisfies `p` changed. -/
def modFirst {α : Type} (p : α → Bool) (f : α → α) : List α → List α
  | [] => []
  | x :: r => if p x then f x :: r else x :: modFirst p f r

/-- The list without the first element that satisfies `p`. -/
def dropFirst {α : Type} (p : α → Bool) : List α → List α
  | [] => []
  | x :: r => if p x then r else x :: dropFirst p r

/-- How many elements satisfy `p`. -/
def countP {α : Type} (p : α → Bool) : List α → Nat
  | [] => 0
  | x :: r => b2n (p x) + countP p r

/-- The sum of `f` over a list. -/
def sumOf {α : Type} (f : α → Nat) : List α → Nat
  | [] => 0
  | x :: r => f x + sumOf f r

/-- The largest of `f` over a list, at least `b`. -/
def maxOf {α : Type} (f : α → Nat) (b : Nat) : List α → Nat
  | [] => b
  | x :: r => maxOf f (if b < f x then f x else b) r

/-- `n` little-endian bytes of a number (00 R8). -/
def leBytes : Nat → Nat → List (BitVec 8)
  | 0, _ => []
  | n + 1, x => BitVec.ofNat 8 x :: leBytes n (x / 256)

/-- A number from little-endian bytes. -/
def ofLeBytes : List (BitVec 8) → Nat
  | [] => 0
  | b :: r => b.toNat + 256 * ofLeBytes r

end Sys2Proof.Machine
end

