-- ==== Sys2Proof/Machine/Operands.lean ====
section
/-! DEFINITION. What is derived from addresses, tile numbers and descriptors: the fields of a DPA (02 R32), HDM decoding (11 R345),
the slice and set of a line (05 R141), physical tile numbers (06 R165) and the fields of a descriptor (12 R372). -/

namespace Sys2Proof.Machine

/-! ## Geometry of the variant (01 R12, R31) -/

/-- Dies per channel. -/
def diesPer (v : Variant) : Nat := match v with | .y32 => 6 | .y16 => 3

/-- Logical tiles. -/
def logicalTiles (v : Variant) : Nat := match v with | .y32 => 2 ^ 31 | .y16 => 2 ^ 30

/-- Physical tiles at manufacture, P0 (08 R262). -/
def p0 (v : Variant) : Nat := match v with | .y32 => 3 * 2 ^ 30 | .y16 => 3 * 2 ^ 29

/-- Logical capacity in bytes. -/
def capacity (v : Variant) : Nat := logicalTiles v * 16384

/-- Map pages (07 R206). -/
def mapPages (v : Variant) : Nat := match v with | .y32 => 2 ^ 20 | .y16 => 2 ^ 19

/-! ## Fields of a DPA (02 R32) -/

def dlnOf (dpa : Nat) : Nat := dpa / 64
def ltnOf (dln : Nat) : Nat := dln / 256
def lineOf (dln : Nat) : Nat := dln % 256
def pageOf (ltn : Nat) : Nat := ltn / 2048
def entryOf (ltn : Nat) : Nat := ltn % 2048
/-- Home seat of a tile when paired: true for seat B (10 R302). -/
def seatOf (ltn : Nat) : Bool := ltn % 2 == 1

/-! ## HDM decoding (11 R340, R345) -/

/-- The DPA that one decoder gives. The interleave takes consecutive granules in turn (DEDUCED from the worked example of 00 The
sample installation; log entry 6). -/
def hdmDpa (d : Hdm) (hpa : Nat) : Option Nat :=
  if d.committed && decide (d.base ≤ hpa) && decide (hpa < d.base + d.size) && decide (0 < d.gran) && decide (0 < d.ways) then
    let off := hpa - d.base
    some (d.dpaBase + off / d.gran / d.ways * d.gran + off % d.gran)
  else none

/-- The DPA of the first committed decoder that holds the address. -/
def hdmDecode : Store Hdm → Nat → Option Nat
  | [], _ => none
  | (_, d) :: r, hpa => match hdmDpa d hpa with
    | some x => some x
    | none => hdmDecode r hpa

/-! ## Slice and set (05 R141) -/

/-- The 6-bit fold of a DLN. -/
def foldOf (dln : Nat) : Nat :=
  (bitsOf dln 5 0) ^^^ (bitsOf dln 11 6) ^^^ (bitsOf dln 17 12) ^^^ (bitsOf dln 23 18) ^^^ (bitsOf dln 29 24) ^^^ (bitsOf dln 35 30)
    ^^^ (bitsOf dln 38 36)

/-- The set of a line. -/
def setOf (dln : Nat) : Nat := ((bitsOf dln 13 0) ^^^ (bitsOf dln 27 14) ^^^ (bitsOf dln 38 28)) % 16384

/-- The steering table with every slice live (05 R142). -/
def steerFull : List Nat := (List.range 64).map (fun i => i % 8)

/-- The steering table of a cache: the full one until a retirement changes it. -/
def steerOf (c : Cache) : List Nat := if c.steer.isEmpty then steerFull else c.steer

/-- The slice of a line. -/
def sliceOf (c : Cache) (dln : Nat) : Nat := nth 0 (steerOf c) (foldOf dln)

/-! ## Physical tiles (06 R165) -/

def ptnChan (ptn : Nat) : Nat := ptn / 2 ^ 27 % 32
def ptnDie (ptn : Nat) : Nat := ptn / 2 ^ 24 % 8
/-- Die index channel × 8 + die (04 R122). -/
def ptnDieIx (ptn : Nat) : Nat := ptn / 2 ^ 24 % 256
def ptnPart (ptn : Nat) : Nat := ptn / 2 ^ 18 % 64
def ptnSlot (ptn : Nat) : Nat := ptn % 2 ^ 18
/-- Tile index TIX of the ledger and the tile-state map (08 R242). -/
def tixOf (v : Variant) (ptn : Nat) : Nat := (ptnChan ptn * diesPer v + ptnDie ptn) * 2 ^ 24 + ptn % 2 ^ 24
/-- The physical tile of a TIX (08 R242). -/
def ptnOfTix (v : Variant) (t : Nat) : Nat :=
  let d := t / 2 ^ 24
  d / diesPer v * 2 ^ 27 + d % diesPer v * 2 ^ 24 + t % 2 ^ 24
/-- Frame slot of a line under a rotation (06 R192). -/
def fslotOf (line : Nat) (rot : BitVec 8) : Nat := (line + rot.toNat) % 256
/-- Key of a frame in the medium. -/
def frameKey (ptn fslot : Nat) : Nat := ptn * 256 + fslot

/-! ## Cistern hashes (04 R112, R113) -/

def bucketOf (dln : Nat) : Nat := ((bitsOf dln 23 0) ^^^ (bitsOf dln 38 24)) % 2 ^ 24
def filterIx (dln : Nat) : Nat := ((bitsOf dln 38 15) ^^^ (bitsOf dln 23 0)) % 2 ^ 24

/-! ## TLB set (07 R215) -/

def tlbSet (ltn : Nat) : Nat := ((bitsOf ltn 11 0) ^^^ (bitsOf ltn 23 12) ^^^ (bitsOf ltn 30 24)) % 4096

/-! ## Tree pseudo-LRU (05 R144) -/

/-- Point the tree away from way `w`. -/
def plruTouch (t : BitVec 15) (w : Nat) : BitVec 15 :=
  let b3 := bitOf w 3
  let b2 := bitOf w 2
  let b1 := bitOf w 1
  let b0 := bitOf w 0
  let n2 := 2 + b2n b3
  let n3 := 2 * n2 + b2n b2
  let n4 := 2 * n3 + b2n b1
  let put (x : BitVec 15) (n : Nat) (v : Bool) : BitVec 15 :=
    if v then x ||| BitVec.ofNat 15 (2 ^ (n - 1)) else x &&& ~~~(BitVec.ofNat 15 (2 ^ (n - 1)))
  put (put (put (put t 1 (!b3)) n2 (!b2)) n3 (!b1)) n4 (!b0)

/-- Whether some leaf under node `n` of level `lv` (0 leaf) may be chosen. -/
def anyLeaf (ok : Nat → Bool) : Nat → Nat → Bool
  | 0, n => ok (n - 16)
  | lv + 1, n => anyLeaf ok lv (2 * n) || anyLeaf ok lv (2 * n + 1)

/-- Walk down the tree from node `n` with `lv` levels left. -/
def plruWalk (t : BitVec 15) (ok : Nat → Bool) : Nat → Nat → Nat
  | 0, n => n - 16
  | lv + 1, n =>
    let b := b2n (t.getLsbD (n - 1))
    let b := if anyLeaf ok lv (2 * n + b) then b else 1 - b
    plruWalk t ok lv (2 * n + b)

/-- The victim among the ways that may be chosen (05 R144). -/
def plruVictim (t : BitVec 15) (ok : Nat → Bool) : Option Nat :=
  if anyLeaf ok 4 1 then some (plruWalk t ok 4 1) else none

/-! ## Lines -/

/-- The line of a CONST tile: the pattern 16 times (02 R68). -/
def patternLine (p : BitVec 32) : Line := BitVec.ofNat 512 (p.toNat * sumOf (fun i => 2 ^ (32 * i)) (List.range 16))

/-- The 512-bit mask of the enabled bytes (02 R77). -/
def byteMask (be : Enables) : Nat := sumOf (fun i => if bitOf be.toNat i then 0xFF * 2 ^ (8 * i) else 0) (List.range 64)

/-- Enabled bytes take the written values (02 R77). -/
def mergeLine (old new : Line) (be : Enables) : Line :=
  let m := BitVec.ofNat 512 (byteMask be)
  (new &&& m) ||| (old &&& ~~~ m)

/-! ## Dirty ways (05 R143) -/

/-- D of a way: the majority of its three copies. -/
def dirtyW (w : WayT) : Bool := (w.d && w.dc.getLsbD 0) || (w.d && w.dc.getLsbD 1) || (w.dc.getLsbD 0 && w.dc.getLsbD 1)

/-- Write the three copies of D. -/
def setD (w : WayT) (b : Bool) : WayT := { w with d := b, dc := if b then 3 else 0 }

/-! ## Descriptors (12 R372) -/

structure Desc where
  opcode : Nat
  noirq : Bool
  fence : Bool
  vec : Nat
  tag : BitVec 16
  arg0 : Nat
  addr0 : Nat
  addr1 : Nat
  len : Nat
  arg1 : Nat
deriving DecidableEq, Repr

/-- The fields of a 64-byte descriptor. -/
def descOf (d : BitVec 512) : Desc :=
  let x := d.toNat
  { opcode := bitsOf x 7 0, noirq := bitOf x 8, fence := bitOf x 9, vec := bitsOf x 15 12, tag := BitVec.ofNat 16 (bitsOf x 31 16),
    arg0 := bitsOf x 63 32, addr0 := bitsOf x 127 64, addr1 := bitsOf x 191 128, len := bitsOf x 255 192, arg1 := bitsOf x 511 256 }

/-! ## Wells (02 R34, R42; 07 R218) -/

/-- Bytes of a 256 MiB block. -/
def blockBytes : Nat := 2 ^ 28

/-- The well that holds a DPA. -/
def wellAt : Store Well → Nat → Option (Nat × Well)
  | [], _ => none
  | (i, w) :: r, dpa =>
    if w.live && decide (w.base * blockBytes ≤ dpa) && decide (dpa < (w.base + w.size) * blockBytes) then some (i, w)
    else wellAt r dpa

/-- The well that holds a tile. -/
def wellOfLtn (m : Store Well) (ltn : Nat) : Option (Nat × Well) := wellAt m (ltn * 16384)

/-- The 60-bit WELL_SET value (07 R218). -/
def wellVal (w : Well) : Nat :=
  if w.live then
    w.base % 2 ^ 17 + (w.size - 1) % 2 ^ 17 * 2 ^ 17 + w.mask.toNat * 2 ^ 34 + b2n w.shared * 2 ^ 38 + b2n w.prot * 2 ^ 39
      + b2n w.ruZero * 2 ^ 40 + b2n w.pin * 2 ^ 41 + w.key % 64 * 2 ^ 42 + 2 ^ 48
  else 0

/-- The 60-bit map entry (07 R203, R204). -/
def stCode (t : TileSt) : Nat :=
  match t with
  | .unwritten => 0 | .mapped => 1 | .const => 2 | .shared => 3 | .migrating => 4 | .refusing => 5 | .lost => 6

def entryVal (e : MapEntry) : Nat :=
  e.ptn.toNat + e.rot.toNat * 2 ^ 32 + e.epoch.toNat * 2 ^ 40 + stCode e.st * 2 ^ 48 + e.gen.toNat * 2 ^ 52

/-- A journal record's 160 bits (07 R217, R218). -/
def jrecVal (r : JRec) : Nat :=
  let body : Nat × Nat × Nat × Nat := match r.val with
    | .mapSet ltn e rw => (1, b2n rw, ltn, entryVal e)
    | .tileTake ptn pu ck => (2, 0, 0, ptn % 2 ^ 32 + pu % 4 * 2 ^ 32 + (if pu = 2 then ck % 2 ^ 20 * 2 ^ 40 else 0))
    | .tileFree ptn => (3, 0, 0, ptn % 2 ^ 32)
    | .resetDone ptn => (4, 0, 0, ptn % 2 ^ 32)
    | .cloneAdd ltn ptn => (5, 0, ltn, ptn % 2 ^ 32)
    | .cloneDel ltn ptn => (6, 0, ltn, ptn % 2 ^ 32)
    | .wellSet i w => (7, 0, i % 64, wellVal w)
    | .refuseSet dln => (8, 0, 0, dln % 2 ^ 39)
    | .refuseClr dln => (9, 0, 0, dln % 2 ^ 39)
    | .retire ptn => (10, 0, 0, ptn % 2 ^ 32)
  body.1 + b2n r.last * 2 ^ 6 + body.2.1 * 2 ^ 7 + r.seq % 2 ^ 40 * 2 ^ 8 + body.2.2.1 % 2 ^ 31 * 2 ^ 48 + body.2.2.2 * 2 ^ 80

end Sys2Proof.Machine
end

