-- ==== Sys2Proof/Machine/Codec.lean ====
section
/-! DEFINITION. What stands bit by bit on the medium and in the module's arrays: the Reed–Solomon code (06 R186 to R189), the keystream (R194,
R195), the stored frame and its cells (R177 to R179, R183, R184, R194), the journal line with its CRC-32 (07 R220), locators (R208), anchor frames
(R210), the header of a Beryl slot (19 R526), the Cistern's index entry (04 R112) and the cache's tag entry (05 R143). The state keeps what each encodes (`Frame`, `JRec`, `Cis`, `WayT`);
these functions give the bits. -/

namespace Sys2Proof.Machine

/-! ## GF(2^10) (06 R186) -/

/-- Multiply by α in GF(2^10) with x^10 + x^3 + 1. -/
def gfX (a : Nat) : Nat := if 512 ≤ a then (2 * a) ^^^ 0x409 else 2 * a

/-- The product of two field elements: the bits of `b` from the highest down, `n` of them left. -/
def gfMulN (a b : Nat) : Nat → Nat
  | 0 => 0
  | n + 1 => (if bitOf b 0 then a else 0) ^^^ gfX (gfMulN a (b / 2) n)

def gfMul (a b : Nat) : Nat := gfMulN a b 10

/-- α^j. -/
def gfPow : Nat → Nat
  | 0 => 1
  | j + 1 => gfX (gfPow j)

/-- A polynomial, lowest coefficient first, times (x − r). -/
def polyTimes (p : List Nat) (r : Nat) : List Nat :=
  (0 :: p).zipWith (fun a b => a ^^^ b) (p.map (gfMul r) ++ [0])

/-- The generator polynomial: the product of (x − α^j) for j from 0 to 11; 13 coefficients. -/
def genPoly : List Nat := (List.range 12).foldl (fun p j => polyTimes p (gfPow j)) [1]

/-- One step of the division by g(x): the remainder takes in the next coefficient. -/
def rsStep (r : List Nat) (x : Nat) : List Nat :=
  let fb := x ^^^ nth 0 r 11
  ((List.range 12).map (fun j => (if j = 0 then 0 else nth 0 r (j - 1)) ^^^ gfMul fb (nth 0 genPoly j)))

/-- The 12 check symbols of 56 information symbols, given by rising exponent from 12 to 67 (06 R188). -/
def rsCheck (info : List Nat) : List Nat := info.reverse.foldl rsStep (List.replicate 12 0)

/-! ## The line frame (06 R183, R184, R187) -/

/-- The flag byte. -/
def flagByte (w p : Bool) (tbin : BitVec 4) (pcause : BitVec 2) : Nat :=
  b2n w + b2n p * 2 + tbin.toNat * 4 + pcause.toNat * 64

/-- The 40-bit tag (06 R187). -/
def tagOf (ptn fslot : Nat) : Nat := ptn * 256 + fslot

/-- Symbols of `n` × 10 bits. -/
def symsOf (x n : Nat) : List Nat := (List.range n).map (fun i => x >>> (10 * i) % 1024)

/-- The 640 encoded bits of a line and its flag byte under a tag. -/
def encodeFrame (line flag tag : Nat) : Nat :=
  let info := line % 2 ^ 512 + flag % 256 * 2 ^ 512
  let chk := rsCheck (symsOf info 52 ++ symsOf tag 4)
  info + sumOf (fun j => nth 0 chk j * 2 ^ (520 + 10 * j)) (List.range 12)

/-- The received codeword, by rising exponent (06 R187, R189): of the descrambled stored bits the check symbols and the information symbols, then
the symbols of the tag expected from the map entry and the frame slot. -/
def codeword (x ptn fslot : Nat) : List Nat := (symsOf x 64).drop 52 ++ symsOf x 52 ++ symsOf (tagOf ptn fslot) 4

/-- A polynomial, lowest coefficient first, at a field element. -/
def polyAt (c : List Nat) (a : Nat) : Nat := c.reverse.foldl (fun r x => gfMul r a ^^^ x) 0

/-- The 12 syndromes c(α^j) (06 R189): all zero for a codeword. -/
def syndromes (x ptn fslot : Nat) : List Nat := (List.range 12).map (fun j => polyAt (codeword x ptn fslot) (gfPow j))

/-! ## The keystream (06 R195) -/

def mask20 : Nat := 0xFFFFF
def add20 (x y : Nat) : Nat := (x + y) % 2 ^ 20
def rotl20 (x n : Nat) : Nat := ((x * 2 ^ n) ||| (x >>> (20 - n))) % 2 ^ 20

/-- The four words of a keystream round. -/
structure Quad where
  a : Nat
  b : Nat
  c : Nat
  d : Nat
deriving DecidableEq, Repr

/-- Round `r` of the keystream. -/
def ksRound (t3 t4 : Nat) (q : Quad) (r : Nat) : Quad :=
  let a := add20 q.a q.b
  let d := rotl20 (q.d ^^^ a) 7
  let c := add20 q.c d
  let b := rotl20 (q.b ^^^ c) 9
  let a := add20 a b
  let d := rotl20 (d ^^^ a) 13
  let c := add20 c d
  let b := rotl20 (b ^^^ c) 3
  let a := a ^^^ ((r + 1) * 0x9E377 % 2 ^ 20)
  let c := if r = 1 then c ^^^ t3 else c
  let c := if r = 3 then c ^^^ t4 else c
  { a := a, b := b, c := c, d := d }

/-- Keystream word i. -/
def keystreamWord (key ptn fslot ctr cls i : Nat) : Nat :=
  let k (j : Nat) : Nat := bitsOf key (20 * j + 19) (20 * j)
  let t0 := bitsOf ptn 19 0
  let t1 := (bitsOf ptn 31 20 ||| (fslot * 2 ^ 12)) % 2 ^ 20
  let t2 := bitsOf ctr 19 0
  let t3 := bitsOf ctr 39 20
  let t4 := bitsOf ctr 59 40
  let t5 := (bitsOf ctr 63 60 ||| (cls * 2 ^ 4) ||| (i * 2 ^ 5)) % 2 ^ 20
  let q := (List.range 6).foldl (ksRound t3 t4) { a := k 0 ^^^ t0, b := k 1 ^^^ t1, c := k 2 ^^^ t2, d := k 3 ^^^ t5 }
  add20 q.a (k 0) ^^^ rotl20 q.c 11 ^^^ q.b ^^^ q.d

/-- The 640 bits that the data cells of a programmed frame hold (06 R194). -/
def scramble (x key ptn fslot ctr cls : Nat) : Nat :=
  x ^^^ sumOf (fun i => keystreamWord key ptn fslot ctr cls i * 2 ^ (20 * i)) (List.range 32)

/-- Whether a tile is an anchor tile (07 R210). -/
def isAnchorTile (ptn : Nat) : Bool := decide (ptn % 2 ^ 24 < 2)

/-- The stored bits of a frame. Anchor frames are not scrambled (07 R210). -/
def storedBits (f : Frame) : Nat :=
  let ptn := f.ptn.toNat
  let x := encodeFrame f.line.toNat (flagByte f.w f.p f.tbin f.pcause) (tagOf ptn f.fslot.toNat)
  match f.key with
  | some k => scramble x k.toNat ptn f.fslot.toNat f.ctr.toNat (b2n f.cls)
  | none => x

/-- What the decoder descrambles of stored bits, with the key, the counter and the class that it takes the frame to have (06 R189, R194). -/
def descrambled (x : Nat) (key : Option (BitVec 80)) (ptn fslot : Nat) (ctr : BitVec 64) (cls : Bool) : Nat :=
  match key with
  | some k => scramble x k.toNat ptn fslot ctr.toNat (b2n cls)
  | none => x

/-- The level of data cell k (06 R177). -/
def cellLevel (x k : Nat) : Nat :=
  match bitOf x (2 * k + 1), bitOf x (2 * k) with
  | false, false => 0
  | false, true => 1
  | true, true => 2
  | true, false => 3

/-- The levels of the four marker cells (06 R179). -/
def markerCells (m : Marker) : List Nat :=
  match m with
  | .blank => [0, 0, 0, 0]
  | .opened => [3, 3, 3, 3]
  | .closed => [3, 1, 3, 1]

/-- The level that the reference cells of level `l` show, in 64ths of a level gap: the mean of the three (06 R178; log entry 86). -/
def refLevel (refs : List Nat) (l : Nat) : Nat := (nth 0 refs (3 * l) + nth 0 refs (3 * l + 1) + nth 0 refs (3 * l + 2)) * 64 / 3

/-- The three thresholds of a sense, in 64ths of a level gap: midway between neighbouring reference levels as the frame's own reference cells show
them, shifted by the offset of the reference entry (06 R178; 09 R280; log entry 86). -/
def thresholds (f : Frame) (off : Int) : List Int :=
  [0, 1, 2].map (fun l => (((refLevel f.refs l + refLevel f.refs (l + 1)) / 2 : Nat) : Int) + off)

/-! ## Journal lines (07 R220) -/

/-- One bit of the CRC-32 of IEEE 802.3, least significant bit first. -/
def crcBit (c : Nat) (b : Bool) : Nat := if (bitOf c 0) == b then c >>> 1 else (c >>> 1) ^^^ 0xEDB88320

/-- CRC-32 of the low `n` bits of a number. -/
def crc32 (x n : Nat) : Nat := ((List.range n).foldl (fun c i => crcBit c (bitOf x i)) 0xFFFFFFFF) ^^^ 0xFFFFFFFF

/-! ## Beryl slots (19 R526, R527) -/

/-- CRC-32 of the 256 data bytes of a page. -/
def pageCrc (pg : Page) : Nat := crc32 pg.toNat 2048

/-- A slot that a store has programmed with a copy of page `n`; COMMIT is programmed last. -/
def slotMade (n psq : Nat) (pg : Page) (committed ue : Bool) : SlotB :=
  { psq := psq % 2 ^ 20, page := n % 2 ^ 12, crc := pageCrc pg, commit := if committed then 0x5A else 0, data := pg, ue := ue }

/-- The 72 bits of a slot's header. -/
def slotHeader (x : SlotB) : BitVec 72 :=
  BitVec.ofNat 72 (x.psq % 2 ^ 20 + x.page % 2 ^ 12 * 2 ^ 20 + x.crc % 2 ^ 32 * 2 ^ 32 + x.commit % 256 * 2 ^ 64)

/-- A Beryl slot as delivered: PSEQ 0, valid, with the delivered content (19 R526, R533, R537). -/
def slotInit (n : Nat) : SlotB := slotMade (n / 2) 0 (factoryPage (n / 2)) true false

/-- Whether a slot of page `n` is valid (19 R527). -/
def slotValid (n : Nat) (x : SlotB) : Bool := decide (x.commit = 0x5A) && decide (x.page = n) && !x.ue && decide (pageCrc x.data = x.crc)

/-- A line with the CRC of its bits [479:0] in bits [511:480]. -/
def withCrc (x : Nat) : Line := BitVec.ofNat 512 (x + crc32 x 480 * 2 ^ 480)

/-- A journal line of up to three records, padded with NOP. -/
def journalLine (recs : List JRec) : Line :=
  let x := sumOf (fun i => (match (recs.drop i).head? with
    | some r => jrecVal r % 2 ^ 160
    | none => 0) * 2 ^ (160 * i)) [0, 1, 2]
  withCrc x

/-- A locator (07 R208). -/
def locator (ptn mseq : Nat) : Nat := ptn % 2 ^ 32 + mseq % 2 ^ 64 * 2 ^ 32

/-- Whether a journal line passes its CRC. -/
def crcOk (d : Line) : Bool := decide (d.toNat >>> 480 = crc32 (d.toNat % 2 ^ 480) 480)

/-- The header of a journal tile: FIRST_JSEQ and the locator of the next tile, with a CRC as every journal line has one (07 R228; log entry 82). -/
def journalHeader (first next : Nat) : Line := withCrc (first % 2 ^ 40 + next % 2 ^ 128 * 2 ^ 40)

/-- FIRST_JSEQ, and PTN and MSEQ of NEXT, of a header. -/
def headerFirst (d : Line) : Nat := bitsOf d.toNat 39 0
def headerNext (d : Line) : Nat × Nat := (bitsOf d.toNat 71 40, bitsOf d.toNat 135 72)

/-! ## Anchors (07 R210, R211) -/

/-- The 64 bytes of an anchor frame. -/
def anchorLine (aseq ckptNo root replay jtile jline ctrLimit : Nat) (var : Variant) : Line :=
  BitVec.ofNat 512 (aseq % 2 ^ 40 + ckptNo % 2 ^ 40 * 2 ^ 40 + root % 2 ^ 128 * 2 ^ 80 + replay % 2 ^ 40 * 2 ^ 208 + jtile % 2 ^ 128 * 2 ^ 248
    + jline % 256 * 2 ^ 376 + ctrLimit % 2 ^ 64 * 2 ^ 384 + (match var with | .y32 => 0 | .y16 => 1) * 2 ^ 448)

/-- The four channels of the copies of an anchor. -/
def anchorChans (aseq : Nat) : List Nat := [0, 1, 2, 3].map (fun k => aseq % 8 + 8 * k)

/-- The tile slot and frame of an anchor on its die. -/
def anchorFrame (aseq : Nat) : Nat × Nat := (aseq / 8 % 512 / 256, aseq / 8 % 256)

/-! ## Arrays of the controller (04 R112; 05 R143) -/

/-- The 120 bits of a Cistern index entry (04 R112). -/
def cisBits (e : Cis) : Nat :=
  e.dln % 2 ^ 39 + e.ptn.toNat * 2 ^ 39 + e.fslot % 256 * 2 ^ 71 + e.gen.toNat * 2 ^ 79 + 2 ^ 87 + b2n e.p * 2 ^ 88
    + (if e.p then e.pcause.toNat else 0) * 2 ^ 89 + b2n e.prog * 2 ^ 91 + b2n e.super * 2 ^ 92 + e.next % 2 ^ 25 * 2 ^ 93

/-- Bits [55:0] of the tag entry of a way (05 R143). -/
def tagBits (w : WayT) : Nat :=
  w.dln % 2 ^ 39 + b2n w.v * 2 ^ 39 + b2n w.d * 2 ^ 40 + b2n w.p * 2 ^ 41 + (if w.p then w.pcause.toNat else 0) * 2 ^ 42 + b2n w.dk * 2 ^ 44
    + w.die % 256 * 2 ^ 45 + b2n w.pf * 2 ^ 53

/-- The 64-bit tag entry with its check bits, of a SEC-DED code that the manual does not give. -/
def tagEntry (w : WayT) : Nat := tagBits w + (Config.tagEcc (tagBits w)).toNat * 2 ^ 56

end Sys2Proof.Machine
end

