-- ==== Sys2Proof/Machine/Regs.lean ====
section
/-! DEFINITION. The register file (13 R398 to R424): which fields a requester may write or clears by reading, where they lie, their
reset values, apply points and the values taken (the field tables of R102 to R104, R138, R139, R163, R202, R241, R272, R299, R300,
R339, R365, R397, R421, R442 to R444, R455, R483, R484, R522, R523, R540 and R562). Read-only fields are views of the units. -/

namespace Sys2Proof.Machine

/-- A kind of register block (13 R419). -/
inductive Blk where
  | global | port | ring | spinel | mapctl | zircon | thermal | fault | agate | beryl | quartz | security | power | cache | channel
deriving DecidableEq, Repr

/-- Access of a field that a requester can change (00 R10). -/
inductive Acc where
  | rw | rwk | rc | wo
deriving DecidableEq, Repr

/-- Kind of apply point (13 R405). -/
inductive ApK where
  | now | quiet | heartbeat | epoch | replan | diode | media | dump | sequencer | mediaOp
deriving DecidableEq, Repr

/-- The value taken for a value outside the stated range (13 R404). -/
inductive Clamp where
  | any
  | range (lo hi : Nat)
  /-- REF_DL.DL_CAP: 0 stands, 1 to 5 are taken as 6 (09 R299) -/
  | dlCap
  /-- CTR_CFG.FSET: 9 to 15 are taken as 0 (15 R455) -/
  | fset
deriving DecidableEq, Repr

/-- A field of a register, or of `cnt` registers in a row. -/
structure FieldT where
  slot : Nat
  cnt : Nat
  hi : Nat
  lo : Nat
  acc : Acc
  reset : Nat
  ap : ApK
  /-- EXPERT_EN bit that gates it (13 R417); 31 none -/
  fn : Nat
  clamp : Clamp
  /-- From Beryl (13 R409) -/
  beryl : Bool
deriving DecidableEq, Repr

/-- Writable and clear-on-read fields of the GLOBAL block. -/
def globalFields : List FieldT := [
  { slot := 14, cnt := 1, hi := 19, lo := 0, acc := .wo, reset := 0, ap := .now, fn := 31, clamp := .any, beryl := false },  -- UNLOCK.KEY R421
  { slot := 16, cnt := 1, hi := 0, lo := 0, acc := .rc, reset := 0, ap := .now, fn := 31, clamp := .any, beryl := false },  -- LOCK_VIOL.LOCK_VIOL R421
  { slot := 16, cnt := 1, hi := 1, lo := 1, acc := .rc, reset := 0, ap := .now, fn := 31, clamp := .any, beryl := false },  -- LOCK_VIOL.EXPERT_VIOL R421
  { slot := 16, cnt := 1, hi := 2, lo := 2, acc := .rc, reset := 0, ap := .now, fn := 31, clamp := .any, beryl := false },  -- LOCK_VIOL.ACC_ERR R421
  { slot := 16, cnt := 1, hi := 3, lo := 3, acc := .rc, reset := 0, ap := .now, fn := 31, clamp := .any, beryl := false },  -- LOCK_VIOL.OVF R421
  { slot := 16, cnt := 1, hi := 6, lo := 4, acc := .rc, reset := 0, ap := .now, fn := 31, clamp := .any, beryl := false },  -- LOCK_VIOL.REQ R421
  { slot := 18, cnt := 1, hi := 17, lo := 0, acc := .rwk, reset := 0, ap := .now, fn := 31, clamp := .any, beryl := true },  -- EXPERT_EN.EN R421
  { slot := 32, cnt := 1, hi := 17, lo := 17, acc := .wo, reset := 0, ap := .now, fn := 31, clamp := .any, beryl := false } ]  -- LASTGASP(12).ACK R421

/-- Writable and clear-on-read fields of the PORT block. -/
def portFields : List FieldT := [
  { slot := 1, cnt := 1, hi := 0, lo := 0, acc := .rwk, reset := 0, ap := .quiet, fn := 9, clamp := .any, beryl := true },  -- LINK_CTL.CLK_MODE R365
  { slot := 1, cnt := 1, hi := 2, lo := 1, acc := .rw, reset := 3, ap := .quiet, fn := 31, clamp := (.range 1 3), beryl := false },  -- LINK_CTL.MAX_RATE R365
  { slot := 1, cnt := 1, hi := 4, lo := 3, acc := .rw, reset := 3, ap := .quiet, fn := 31, clamp := (.range 1 3), beryl := false },  -- LINK_CTL.MAX_WIDTH R365
  { slot := 2, cnt := 1, hi := 0, lo := 0, acc := .rc, reset := 0, ap := .now, fn := 31, clamp := .any, beryl := false },  -- PORT_EVT.RETRAIN R365
  { slot := 2, cnt := 1, hi := 1, lo := 1, acc := .rc, reset := 0, ap := .now, fn := 31, clamp := .any, beryl := false },  -- PORT_EVT.DOWNGRADE R365
  { slot := 2, cnt := 1, hi := 2, lo := 2, acc := .rc, reset := 0, ap := .now, fn := 31, clamp := .any, beryl := false },  -- PORT_EVT.WELL_VIOL R365
  { slot := 2, cnt := 1, hi := 3, lo := 3, acc := .rc, reset := 0, ap := .now, fn := 31, clamp := .any, beryl := false },  -- PORT_EVT.IDE_FAIL R365
  { slot := 2, cnt := 1, hi := 4, lo := 4, acc := .rc, reset := 0, ap := .now, fn := 31, clamp := .any, beryl := false },  -- PORT_EVT.PERST R365
  { slot := 24, cnt := 1, hi := 9, lo := 0, acc := .rw, reset := 250, ap := .quiet, fn := 31, clamp := (.range 80 630), beryl := false },  -- LAT_CTL.LATE_NS R104
  { slot := 24, cnt := 1, hi := 11, lo := 10, acc := .rwk, reset := 0, ap := .quiet, fn := 1, clamp := .any, beryl := false },  -- LAT_CTL.HIST_SEL R104
  { slot := 25, cnt := 1, hi := 3, lo := 0, acc := .rwk, reset := 8, ap := .quiet, fn := 2, clamp := (.range 2 14), beryl := false },  -- WR_CTL.RWD_SHARE R138
  { slot := 25, cnt := 1, hi := 7, lo := 4, acc := .rw, reset := 4, ap := .quiet, fn := 31, clamp := (.range 1 15), beryl := false },  -- WR_CTL.WR_WEIGHT R138
  { slot := 25, cnt := 1, hi := 8, lo := 8, acc := .rc, reset := 0, ap := .now, fn := 31, clamp := .any, beryl := false } ]  -- WR_CTL.WAITED R138

/-- Writable and clear-on-read fields of the RING block. -/
def ringFields : List FieldT := [
  { slot := 0, cnt := 1, hi := 19, lo := 0, acc := .rw, reset := 0, ap := .quiet, fn := 31, clamp := .any, beryl := false },  -- CMD_BASE_0.ADDR R397
  { slot := 1, cnt := 1, hi := 19, lo := 0, acc := .rw, reset := 0, ap := .quiet, fn := 31, clamp := .any, beryl := false },  -- CMD_BASE_1.ADDR R397
  { slot := 2, cnt := 1, hi := 11, lo := 0, acc := .rw, reset := 0, ap := .quiet, fn := 31, clamp := .any, beryl := false },  -- CMD_BASE_2.ADDR R397
  { slot := 3, cnt := 1, hi := 19, lo := 0, acc := .rw, reset := 0, ap := .quiet, fn := 31, clamp := .any, beryl := false },  -- CPL_BASE_0.ADDR R397
  { slot := 4, cnt := 1, hi := 19, lo := 0, acc := .rw, reset := 0, ap := .quiet, fn := 31, clamp := .any, beryl := false },  -- CPL_BASE_1.ADDR R397
  { slot := 5, cnt := 1, hi := 11, lo := 0, acc := .rw, reset := 0, ap := .quiet, fn := 31, clamp := .any, beryl := false },  -- CPL_BASE_2.ADDR R397
  { slot := 6, cnt := 1, hi := 3, lo := 0, acc := .rw, reset := 6, ap := .quiet, fn := 31, clamp := (.range 6 12), beryl := false },  -- RING_CFG.CMD_LOG2 R397
  { slot := 6, cnt := 1, hi := 7, lo := 4, acc := .rw, reset := 6, ap := .quiet, fn := 31, clamp := (.range 6 12), beryl := false },  -- RING_CFG.CPL_LOG2 R397
  { slot := 7, cnt := 1, hi := 0, lo := 0, acc := .rw, reset := 0, ap := .quiet, fn := 31, clamp := .any, beryl := false },  -- RING_CTL.EN R397
  { slot := 7, cnt := 1, hi := 4, lo := 1, acc := .rw, reset := 0, ap := .quiet, fn := 31, clamp := .any, beryl := false },  -- RING_CTL.ERR_VEC R397
  { slot := 7, cnt := 1, hi := 8, lo := 5, acc := .rw, reset := 0, ap := .quiet, fn := 31, clamp := .any, beryl := false },  -- RING_CTL.COAL_US R397
  { slot := 7, cnt := 1, hi := 14, lo := 9, acc := .rwk, reset := 0, ap := .quiet, fn := 10, clamp := .any, beryl := false },  -- RING_CTL.MAX_RUN R397
  { slot := 8, cnt := 1, hi := 11, lo := 0, acc := .rw, reset := 0, ap := .now, fn := 31, clamp := .any, beryl := false },  -- CMD_TAIL.TAIL R397
  { slot := 10, cnt := 1, hi := 11, lo := 0, acc := .rw, reset := 0, ap := .now, fn := 31, clamp := .any, beryl := false },  -- CPL_HEAD.HEAD R397
  { slot := 11, cnt := 1, hi := 1, lo := 1, acc := .rc, reset := 0, ap := .now, fn := 31, clamp := .any, beryl := false },  -- RING_STAT.FETCH_ERR R397
  { slot := 11, cnt := 1, hi := 2, lo := 2, acc := .rc, reset := 0, ap := .now, fn := 31, clamp := .any, beryl := false },  -- RING_STAT.CPL_ERR R397
  { slot := 11, cnt := 1, hi := 3, lo := 3, acc := .rc, reset := 0, ap := .now, fn := 31, clamp := .any, beryl := false },  -- RING_STAT.TAIL_ERR R397
  { slot := 11, cnt := 1, hi := 4, lo := 4, acc := .rc, reset := 0, ap := .now, fn := 31, clamp := .any, beryl := false } ]  -- RING_STAT.CPL_FULL R397

/-- Writable and clear-on-read fields of the SPINEL block. -/
def spinelFields : List FieldT := [
  { slot := 1, cnt := 1, hi := 0, lo := 0, acc := .rc, reset := 0, ap := .now, fn := 31, clamp := .any, beryl := false },  -- PAIR_EVT.LINK_LOST R339
  { slot := 1, cnt := 1, hi := 1, lo := 1, acc := .rc, reset := 0, ap := .now, fn := 31, clamp := .any, beryl := false },  -- PAIR_EVT.WIT_LOST R339
  { slot := 1, cnt := 1, hi := 2, lo := 2, acc := .rc, reset := 0, ap := .now, fn := 31, clamp := .any, beryl := false },  -- PAIR_EVT.ROLE_CHG R339
  { slot := 1, cnt := 1, hi := 3, lo := 3, acc := .rc, reset := 0, ap := .now, fn := 31, clamp := .any, beryl := false },  -- PAIR_EVT.REPLAY R339
  { slot := 1, cnt := 1, hi := 4, lo := 4, acc := .rc, reset := 0, ap := .now, fn := 31, clamp := .any, beryl := false },  -- PAIR_EVT.JOIN_FAIL R339
  { slot := 2, cnt := 1, hi := 0, lo := 0, acc := .rw, reset := 1, ap := .heartbeat, fn := 31, clamp := .any, beryl := false },  -- PAIR_CTL.JOIN_EN R339
  { slot := 2, cnt := 1, hi := 6, lo := 1, acc := .rwk, reset := 20, ap := .heartbeat, fn := 8, clamp := (.range 15 63), beryl := false },  -- PAIR_CTL.JOIN_TO R339
  { slot := 2, cnt := 1, hi := 10, lo := 7, acc := .rwk, reset := 3, ap := .heartbeat, fn := 8, clamp := (.range 3 8), beryl := false },  -- PAIR_CTL.HB_MISS R339
  { slot := 3, cnt := 1, hi := 5, lo := 0, acc := .rw, reset := 60, ap := .epoch, fn := 31, clamp := (.range 4 60), beryl := false } ]  -- RESYNC_CTL.RATE R339

/-- Writable and clear-on-read fields of the MAPCTL block. -/
def mapctlFields : List FieldT := [
  { slot := 1, cnt := 1, hi := 9, lo := 0, acc := .rw, reset := 30, ap := .epoch, fn := 31, clamp := (.range 5 600), beryl := false },  -- CKPT_CTL.CKPT_PERIOD R241
  { slot := 1, cnt := 1, hi := 14, lo := 10, acc := .rwk, reset := 16, ap := .epoch, fn := 5, clamp := (.range 1 16), beryl := false },  -- CKPT_CTL.CKPT_REC R241
  { slot := 1, cnt := 1, hi := 15, lo := 15, acc := .wo, reset := 0, ap := .epoch, fn := 31, clamp := .any, beryl := false },  -- CKPT_CTL.CKPT_NOW R241
  { slot := 2, cnt := 1, hi := 6, lo := 0, acc := .rwk, reset := 10, ap := .epoch, fn := 5, clamp := (.range 1 100), beryl := false },  -- JRNL_CTL.FLUSH_US R241
  { slot := 3, cnt := 1, hi := 10, lo := 10, acc := .rc, reset := 0, ap := .now, fn := 31, clamp := .any, beryl := false },  -- JRNL_STAT.TAIL_STALL R241
  { slot := 5, cnt := 1, hi := 18, lo := 18, acc := .rc, reset := 0, ap := .now, fn := 31, clamp := .any, beryl := false },  -- CLONE_STAT.CLONE_FULL R241
  { slot := 6, cnt := 1, hi := 0, lo := 0, acc := .rwk, reset := 1, ap := .epoch, fn := 5, clamp := .any, beryl := false },  -- TLB_CTL.TLB_EN R241
  { slot := 7, cnt := 1, hi := 0, lo := 0, acc := .rc, reset := 0, ap := .now, fn := 31, clamp := .any, beryl := false },  -- MAP_ERR.MAP_UE R241
  { slot := 32, cnt := 1, hi := 5, lo := 0, acc := .rwk, reset := 25, ap := .epoch, fn := 2, clamp := (.range 4 25), beryl := false },  -- PUMP_CTL.TOKEN_Q R139
  { slot := 32, cnt := 1, hi := 6, lo := 6, acc := .rwk, reset := 1, ap := .epoch, fn := 2, clamp := .any, beryl := false },  -- PUMP_CTL.PACE_EN R139
  { slot := 33, cnt := 1, hi := 6, lo := 0, acc := .rw, reset := 75, ap := .epoch, fn := 31, clamp := (.range 50 95), beryl := false },  -- PACE_LVL.PACE_HI R139
  { slot := 33, cnt := 1, hi := 13, lo := 7, acc := .rw, reset := 60, ap := .epoch, fn := 31, clamp := .any, beryl := false },  -- PACE_LVL.PACE_LO R139
  { slot := 34, cnt := 1, hi := 7, lo := 0, acc := .rwk, reset := 40, ap := .replan, fn := 2, clamp := (.range 1 40), beryl := false },  -- QUOTA_CTL.QUOTA_CAP R139
  { slot := 34, cnt := 1, hi := 12, lo := 8, acc := .rwk, reset := 16, ap := .replan, fn := 2, clamp := (.range 5 16), beryl := false },  -- QUOTA_CTL.DIRTY_LIM R139
  { slot := 37, cnt := 1, hi := 1, lo := 1, acc := .rc, reset := 0, ap := .now, fn := 31, clamp := .any, beryl := false },  -- PUMP_STAT.CREDIT_STOP R139
  { slot := 37, cnt := 1, hi := 2, lo := 2, acc := .rc, reset := 0, ap := .now, fn := 31, clamp := .any, beryl := false },  -- PUMP_STAT.QUOTA_FULL R139
  { slot := 38, cnt := 1, hi := 7, lo := 0, acc := .rw, reset := 0, ap := .now, fn := 31, clamp := .any, beryl := false },  -- DIE_SEL.DIE R139
  { slot := 40, cnt := 1, hi := 6, lo := 0, acc := .rwk, reset := 75, ap := .epoch, fn := 7, clamp := (.range 50 90), beryl := false },  -- REF_CTL.PRE_PCT R300
  { slot := 40, cnt := 1, hi := 8, lo := 7, acc := .rwk, reset := 3, ap := .epoch, fn := 7, clamp := (.range 1 3), beryl := false },  -- REF_CTL.CE_SYM R300
  { slot := 40, cnt := 1, hi := 16, lo := 9, acc := .rwk, reset := 34, ap := .epoch, fn := 7, clamp := .any, beryl := false },  -- REF_CTL.OFF_AGE R300
  { slot := 41, cnt := 1, hi := 2, lo := 0, acc := .rw, reset := 7, ap := .epoch, fn := 31, clamp := (.range 1 7), beryl := false },  -- SCRUB_CTL.SCRUB_DAYS R300
  { slot := 42, cnt := 1, hi := 9, lo := 9, acc := .rc, reset := 0, ap := .now, fn := 31, clamp := .any, beryl := false },  -- SCRUB_STAT.LATE R300
  { slot := 42, cnt := 1, hi := 10, lo := 10, acc := .rc, reset := 0, ap := .now, fn := 31, clamp := .any, beryl := false },  -- SCRUB_STAT.PASS_DONE R300
  { slot := 43, cnt := 1, hi := 16, lo := 16, acc := .rc, reset := 0, ap := .now, fn := 31, clamp := .any, beryl := false },  -- REF_STAT.PAST R300
  { slot := 48, cnt := 1, hi := 3, lo := 0, acc := .rwk, reset := 1, ap := .epoch, fn := 6, clamp := (.range 1 15), beryl := false },  -- WEAR_CTL.MIG_STEP R272
  { slot := 48, cnt := 1, hi := 11, lo := 4, acc := .rwk, reset := 16, ap := .epoch, fn := 6, clamp := (.range 1 255), beryl := false },  -- WEAR_CTL.MIG_FLOOR R272
  { slot := 48, cnt := 1, hi := 19, lo := 12, acc := .rwk, reset := 160, ap := .epoch, fn := 6, clamp := (.range 16 255), beryl := false },  -- WEAR_CTL.READ_TRIG R272
  { slot := 49, cnt := 1, hi := 0, lo := 0, acc := .rw, reset := 1, ap := .epoch, fn := 31, clamp := .any, beryl := false },  -- SPARE_CTL.REQ_EN R272
  { slot := 52, cnt := 1, hi := 9, lo := 9, acc := .rc, reset := 0, ap := .now, fn := 31, clamp := .any, beryl := false },  -- MOVE_STAT.REFUSED R272
  { slot := 52, cnt := 1, hi := 10, lo := 10, acc := .rc, reset := 0, ap := .now, fn := 31, clamp := .any, beryl := false },  -- MOVE_STAT.RETIRE R272
  { slot := 52, cnt := 1, hi := 11, lo := 11, acc := .rc, reset := 0, ap := .now, fn := 31, clamp := .any, beryl := false },  -- MOVE_STAT.ABANDON R272
  { slot := 52, cnt := 1, hi := 12, lo := 12, acc := .rc, reset := 0, ap := .now, fn := 31, clamp := .any, beryl := false },  -- MOVE_STAT.LEDGER_DROP R272
  { slot := 52, cnt := 1, hi := 13, lo := 13, acc := .rc, reset := 0, ap := .now, fn := 31, clamp := .any, beryl := false } ]  -- MOVE_STAT.TABLE_FULL R272

/-- Writable and clear-on-read fields of the ZIRCON block. -/
def zirconFields : List FieldT := [
  { slot := 1, cnt := 1, hi := 0, lo := 0, acc := .rc, reset := 0, ap := .now, fn := 31, clamp := .any, beryl := false },  -- ZC_EVT.PLAN R522
  { slot := 1, cnt := 1, hi := 1, lo := 1, acc := .rc, reset := 0, ap := .now, fn := 31, clamp := .any, beryl := false },  -- ZC_EVT.PENDING R522
  { slot := 1, cnt := 1, hi := 2, lo := 2, acc := .rc, reset := 0, ap := .now, fn := 31, clamp := .any, beryl := false },  -- ZC_EVT.EMERG R522
  { slot := 1, cnt := 1, hi := 3, lo := 3, acc := .rc, reset := 0, ap := .now, fn := 31, clamp := .any, beryl := false },  -- ZC_EVT.BANK_DONE R522
  { slot := 1, cnt := 1, hi := 4, lo := 4, acc := .rc, reset := 0, ap := .now, fn := 31, clamp := .any, beryl := false },  -- ZC_EVT.LIFE R522
  { slot := 2, cnt := 1, hi := 4, lo := 0, acc := .rwk, reset := 0, ap := .replan, fn := 11, clamp := (.range 1 24), beryl := true },  -- ZC_CTL.PERIOD R522
  { slot := 2, cnt := 1, hi := 5, lo := 5, acc := .wo, reset := 0, ap := .now, fn := 31, clamp := .any, beryl := false },  -- ZC_CTL.REPLAN_NOW R522
  { slot := 2, cnt := 1, hi := 6, lo := 6, acc := .wo, reset := 0, ap := .now, fn := 31, clamp := .any, beryl := false },  -- ZC_CTL.TEST_NOW R522
  { slot := 2, cnt := 1, hi := 11, lo := 7, acc := .rw, reset := 0, ap := .replan, fn := 31, clamp := (.range 1 31), beryl := true },  -- ZC_CTL.LIFE_ALERT R522
  { slot := 3, cnt := 1, hi := 4, lo := 0, acc := .wo, reset := 0, ap := .now, fn := 31, clamp := .any, beryl := false },  -- PLAN_CTL.ACCEPT R522
  { slot := 3, cnt := 1, hi := 9, lo := 5, acc := .rwk, reset := 0, ap := .now, fn := 11, clamp := .any, beryl := true },  -- PLAN_CTL.PIN R522
  { slot := 4, cnt := 1, hi := 10, lo := 0, acc := .rwk, reset := 1100, ap := .now, fn := 11, clamp := (.range 700 1100), beryl := false } ]  -- VCORE_CAP.CAP_MV R522

/-- Writable and clear-on-read fields of the THERMAL block. -/
def thermalFields : List FieldT := [
  { slot := 1, cnt := 1, hi := 0, lo := 0, acc := .rc, reset := 0, ap := .now, fn := 31, clamp := .any, beryl := false },  -- TH_EVT.LEVEL R523
  { slot := 1, cnt := 1, hi := 1, lo := 1, acc := .rc, reset := 0, ap := .now, fn := 31, clamp := .any, beryl := false },  -- TH_EVT.SHUT R523
  { slot := 1, cnt := 1, hi := 2, lo := 2, acc := .rc, reset := 0, ap := .now, fn := 31, clamp := .any, beryl := false },  -- TH_EVT.RISE R523
  { slot := 1, cnt := 1, hi := 3, lo := 3, acc := .rc, reset := 0, ap := .now, fn := 31, clamp := .any, beryl := false },  -- TH_EVT.SENSOR R523
  { slot := 8, cnt := 1, hi := 2, lo := 0, acc := .rwk, reset := 0, ap := .epoch, fn := 12, clamp := (.range 1 7), beryl := true },  -- TH_CTL.L2_SKIP R523
  { slot := 8, cnt := 1, hi := 6, lo := 3, acc := .rwk, reset := 0, ap := .diode, fn := 12, clamp := .any, beryl := true },  -- TH_CTL.YEL_OFS R523
  { slot := 8, cnt := 1, hi := 10, lo := 7, acc := .rwk, reset := 0, ap := .media, fn := 12, clamp := .any, beryl := true } ]  -- TH_CTL.MEDIA_OFS R523

/-- Writable and clear-on-read fields of the FAULT block. -/
def faultFields : List FieldT := [
  { slot := 0, cnt := 1, hi := 16, lo := 16, acc := .wo, reset := 0, ap := .now, fn := 31, clamp := .any, beryl := false },  -- L_STAT.ACK R442
  { slot := 12, cnt := 1, hi := 16, lo := 16, acc := .wo, reset := 0, ap := .now, fn := 31, clamp := .any, beryl := false },  -- L_STAT.ACK R442
  { slot := 24, cnt := 1, hi := 16, lo := 16, acc := .wo, reset := 0, ap := .now, fn := 31, clamp := .any, beryl := false },  -- L_STAT.ACK R442
  { slot := 36, cnt := 1, hi := 3, lo := 3, acc := .rc, reset := 0, ap := .now, fn := 31, clamp := .any, beryl := false },  -- FLT_SUM.ESC_CE R443
  { slot := 37, cnt := 1, hi := 0, lo := 0, acc := .rwk, reset := 1, ap := .now, fn := 14, clamp := .any, beryl := false },  -- ACK_CTL.CE_AUTO R443
  { slot := 37, cnt := 1, hi := 1, lo := 1, acc := .rwk, reset := 0, ap := .now, fn := 14, clamp := .any, beryl := false },  -- ACK_CTL.UC_AUTO R443
  { slot := 42, cnt := 1, hi := 15, lo := 0, acc := .rwk, reset := 0, ap := .now, fn := 14, clamp := .any, beryl := false },  -- INJ_SEL.CODE R443
  { slot := 43, cnt := 1, hi := 0, lo := 0, acc := .wo, reset := 0, ap := .now, fn := 31, clamp := .any, beryl := false } ]  -- INJ_CTL.INJECT R443

/-- Writable and clear-on-read fields of the AGATE block. -/
def agateFields : List FieldT := [
  { slot := 0, cnt := 1, hi := 1, lo := 1, acc := .rc, reset := 0, ap := .now, fn := 31, clamp := .any, beryl := false },  -- AG_STAT.OVERWRITE R444
  { slot := 0, cnt := 1, hi := 2, lo := 2, acc := .rc, reset := 0, ap := .now, fn := 31, clamp := .any, beryl := false },  -- AG_STAT.BUF_UE R444
  { slot := 0, cnt := 1, hi := 3, lo := 3, acc := .rc, reset := 0, ap := .now, fn := 31, clamp := .any, beryl := false },  -- AG_STAT.NV_FAIL R444
  { slot := 7, cnt := 1, hi := 0, lo := 0, acc := .wo, reset := 0, ap := .now, fn := 31, clamp := .any, beryl := false },  -- AG_CTL.FLUSH R444
  { slot := 7, cnt := 1, hi := 1, lo := 1, acc := .rwk, reset := 0, ap := .now, fn := 14, clamp := .any, beryl := false },  -- AG_CTL.FLUSH_CE R444
  { slot := 7, cnt := 1, hi := 13, lo := 2, acc := .rwk, reset := 30, ap := .now, fn := 14, clamp := (.range 10 3600), beryl := false } ]  -- AG_CTL.FLUSH_MIN R444

/-- Writable and clear-on-read fields of the BERYL block. -/
def berylFields : List FieldT := [
  { slot := 1, cnt := 1, hi := 0, lo := 0, acc := .rc, reset := 0, ap := .now, fn := 31, clamp := .any, beryl := false },  -- BR_EVT.DONE R540
  { slot := 1, cnt := 1, hi := 1, lo := 1, acc := .rc, reset := 0, ap := .now, fn := 31, clamp := .any, beryl := false },  -- BR_EVT.FAIL R540
  { slot := 1, cnt := 1, hi := 2, lo := 2, acc := .rc, reset := 0, ap := .now, fn := 31, clamp := .any, beryl := false },  -- BR_EVT.ROLLBACK R540
  { slot := 1, cnt := 1, hi := 3, lo := 3, acc := .rc, reset := 0, ap := .now, fn := 31, clamp := .any, beryl := false },  -- BR_EVT.LOST R540
  { slot := 1, cnt := 1, hi := 4, lo := 4, acc := .rc, reset := 0, ap := .now, fn := 31, clamp := .any, beryl := false },  -- BR_EVT.TIE R540
  { slot := 1, cnt := 1, hi := 5, lo := 5, acc := .rc, reset := 0, ap := .now, fn := 31, clamp := .any, beryl := false },  -- BR_EVT.CORR R540
  { slot := 1, cnt := 1, hi := 6, lo := 6, acc := .rc, reset := 0, ap := .now, fn := 31, clamp := .any, beryl := false },  -- BR_EVT.WEAR R540
  { slot := 2, cnt := 1, hi := 11, lo := 0, acc := .rw, reset := 0, ap := .now, fn := 31, clamp := .any, beryl := false },  -- PAGE_SEL.PAGE R540
  { slot := 2, cnt := 1, hi := 18, lo := 12, acc := .rw, reset := 0, ap := .now, fn := 31, clamp := .any, beryl := false },  -- PAGE_SEL.WORD R540
  { slot := 12, cnt := 1, hi := 0, lo := 0, acc := .wo, reset := 0, ap := .now, fn := 31, clamp := .any, beryl := false },  -- BR_CTL.STORE R540
  { slot := 13, cnt := 1, hi := 6, lo := 0, acc := .rwk, reset := 0, ap := .now, fn := 17, clamp := (.range 1 97), beryl := true } ]  -- WEAR_CTL.WARN R540

/-- Writable and clear-on-read fields of the QUARTZ block. -/
def quartzFields : List FieldT := [
  { slot := 0, cnt := 1, hi := 1, lo := 1, acc := .rc, reset := 0, ap := .now, fn := 31, clamp := .any, beryl := false },  -- Q_STAT.OVF_ANY R455
  { slot := 1, cnt := 1, hi := 0, lo := 0, acc := .wo, reset := 0, ap := .now, fn := 31, clamp := .any, beryl := false },  -- Q_CTL.FREEZE R455
  { slot := 1, cnt := 1, hi := 1, lo := 1, acc := .wo, reset := 0, ap := .now, fn := 31, clamp := .any, beryl := false },  -- Q_CTL.THAW R455
  { slot := 2, cnt := 1, hi := 2, lo := 0, acc := .rw, reset := 0, ap := .now, fn := 31, clamp := .any, beryl := false },  -- FS_SEL.SET R455
  { slot := 3, cnt := 1, hi := 7, lo := 0, acc := .rwk, reset := 255, ap := .dump, fn := 13, clamp := .any, beryl := false },  -- FS_MASK.PORTS R455
  { slot := 3, cnt := 1, hi := 11, lo := 8, acc := .rwk, reset := 15, ap := .dump, fn := 13, clamp := .any, beryl := false },  -- FS_MASK.PRIV R455
  { slot := 3, cnt := 1, hi := 12, lo := 12, acc := .rwk, reset := 0, ap := .dump, fn := 13, clamp := .any, beryl := false },  -- FS_MASK.RANGE_EN R455
  { slot := 4, cnt := 1, hi := 8, lo := 0, acc := .rwk, reset := 511, ap := .dump, fn := 13, clamp := .any, beryl := false },  -- FS_CLASS.CLASS R455
  { slot := 5, cnt := 1, hi := 19, lo := 0, acc := .rwk, reset := 0, ap := .dump, fn := 13, clamp := .any, beryl := false },  -- FS_LO.LO R455
  { slot := 6, cnt := 1, hi := 19, lo := 0, acc := .rwk, reset := 1048575, ap := .dump, fn := 13, clamp := .any, beryl := false },  -- FS_HI.HI R455
  { slot := 7, cnt := 1, hi := 8, lo := 0, acc := .rw, reset := 0, ap := .now, fn := 31, clamp := .any, beryl := false },  -- CTR_SEL.CTR R455
  { slot := 8, cnt := 1, hi := 3, lo := 0, acc := .rwk, reset := 0, ap := .dump, fn := 13, clamp := .fset, beryl := false },  -- CTR_CFG.FSET R455
  { slot := 11, cnt := 1, hi := 0, lo := 0, acc := .rw, reset := 0, ap := .dump, fn := 31, clamp := .any, beryl := false },  -- DUMP_CTL.EN R455
  { slot := 11, cnt := 1, hi := 2, lo := 1, acc := .rw, reset := 0, ap := .dump, fn := 31, clamp := .any, beryl := false },  -- DUMP_CTL.PORT R455
  { slot := 11, cnt := 1, hi := 6, lo := 3, acc := .rw, reset := 0, ap := .dump, fn := 31, clamp := .any, beryl := false },  -- DUMP_CTL.VEC R455
  { slot := 11, cnt := 1, hi := 10, lo := 7, acc := .rw, reset := 4, ap := .dump, fn := 31, clamp := (.range 1 8), beryl := false },  -- DUMP_CTL.DUMP_LOG2 R455
  { slot := 12, cnt := 1, hi := 9, lo := 0, acc := .rw, reset := 100, ap := .dump, fn := 31, clamp := (.range 1 1000), beryl := false },  -- DUMP_PERIOD.MS R455
  { slot := 13, cnt := 1, hi := 19, lo := 0, acc := .rw, reset := 0, ap := .dump, fn := 31, clamp := .any, beryl := false },  -- DUMP_BASE_0.ADDR R455
  { slot := 14, cnt := 1, hi := 19, lo := 0, acc := .rw, reset := 0, ap := .dump, fn := 31, clamp := .any, beryl := false },  -- DUMP_BASE_1.ADDR R455
  { slot := 15, cnt := 1, hi := 11, lo := 0, acc := .rw, reset := 0, ap := .dump, fn := 31, clamp := .any, beryl := false },  -- DUMP_BASE_2.ADDR R455
  { slot := 16, cnt := 1, hi := 7, lo := 0, acc := .rw, reset := 0, ap := .now, fn := 31, clamp := .any, beryl := false },  -- DUMP_HEAD.HEAD R455
  { slot := 20, cnt := 1, hi := 0, lo := 0, acc := .rc, reset := 0, ap := .now, fn := 31, clamp := .any, beryl := false },  -- DUMP_STAT.DMA_ERR R455
  { slot := 20, cnt := 1, hi := 1, lo := 1, acc := .rc, reset := 0, ap := .now, fn := 31, clamp := .any, beryl := false },  -- DUMP_STAT.SKIPPED R455
  { slot := 26, cnt := 1, hi := 0, lo := 0, acc := .wo, reset := 0, ap := .now, fn := 31, clamp := .any, beryl := false } ]  -- CLR_CTL.CLEAR R455

/-- Writable and clear-on-read fields of the SECURITY block. -/
def securityFields : List FieldT := [
  { slot := 1, cnt := 1, hi := 0, lo := 0, acc := .rc, reset := 0, ap := .now, fn := 31, clamp := .any, beryl := false },  -- SEC_EVT.FW_FAIL R562
  { slot := 1, cnt := 1, hi := 1, lo := 1, acc := .rc, reset := 0, ap := .now, fn := 31, clamp := .any, beryl := false },  -- SEC_EVT.SVN_ADV R562
  { slot := 1, cnt := 1, hi := 2, lo := 2, acc := .rc, reset := 0, ap := .now, fn := 31, clamp := .any, beryl := false },  -- SEC_EVT.JTAG_BLK R562
  { slot := 1, cnt := 1, hi := 3, lo := 3, acc := .rc, reset := 0, ap := .now, fn := 31, clamp := .any, beryl := false },  -- SEC_EVT.ENTROPY R562
  { slot := 1, cnt := 1, hi := 4, lo := 4, acc := .rc, reset := 0, ap := .now, fn := 31, clamp := .any, beryl := false },  -- SEC_EVT.FUSE R562
  { slot := 3, cnt := 1, hi := 0, lo := 0, acc := .rwk, reset := 0, ap := .now, fn := 16, clamp := .any, beryl := true },  -- FW_CTL.ADV_HOLD R562
  { slot := 3, cnt := 1, hi := 1, lo := 1, acc := .wo, reset := 0, ap := .now, fn := 31, clamp := .any, beryl := false },  -- FW_CTL.ADV_NOW R562
  { slot := 7, cnt := 1, hi := 0, lo := 0, acc := .rwk, reset := 0, ap := .now, fn := 16, clamp := .any, beryl := false },  -- DBG_CTL.JTAG_MEM R562
  { slot := 7, cnt := 1, hi := 1, lo := 1, acc := .rwk, reset := 0, ap := .now, fn := 16, clamp := .any, beryl := false },  -- DBG_CTL.JTAG_TEST R562
  { slot := 12, cnt := 1, hi := 7, lo := 0, acc := .rw, reset := 0, ap := .now, fn := 31, clamp := .any, beryl := false } ]  -- DIE_SEL.DIE R562

/-- Writable and clear-on-read fields of the POWER block. -/
def powerFields : List FieldT := [
  { slot := 0, cnt := 80, hi := 7, lo := 7, acc := .rc, reset := 0, ap := .now, fn := 31, clamp := .any, beryl := false },  -- DOM(0..79).GLITCH R483
  { slot := 0, cnt := 80, hi := 8, lo := 8, acc := .rwk, reset := 0, ap := .sequencer, fn := 15, clamp := .any, beryl := true },  -- DOM(0..79).OFF_REQ R483
  { slot := 81, cnt := 1, hi := 0, lo := 0, acc := .rc, reset := 0, ap := .now, fn := 31, clamp := .any, beryl := false },  -- PWR_EVT.TRIGGER R484
  { slot := 81, cnt := 1, hi := 1, lo := 1, acc := .rc, reset := 0, ap := .now, fn := 31, clamp := .any, beryl := false },  -- PWR_EVT.DIP R484
  { slot := 81, cnt := 1, hi := 2, lo := 2, acc := .rc, reset := 0, ap := .now, fn := 31, clamp := .any, beryl := false },  -- PWR_EVT.AUX_LOST R484
  { slot := 81, cnt := 1, hi := 3, lo := 3, acc := .rc, reset := 0, ap := .now, fn := 31, clamp := .any, beryl := false },  -- PWR_EVT.DOWN_FAIL R484
  { slot := 81, cnt := 1, hi := 4, lo := 4, acc := .rc, reset := 0, ap := .now, fn := 31, clamp := .any, beryl := false },  -- PWR_EVT.CHATTER R484
  { slot := 87, cnt := 1, hi := 0, lo := 0, acc := .rw, reset := 0, ap := .sequencer, fn := 31, clamp := .any, beryl := false },  -- PWR_CTL.DIP_ALERT R484
  { slot := 87, cnt := 1, hi := 1, lo := 1, acc := .rw, reset := 1, ap := .sequencer, fn := 31, clamp := .any, beryl := false },  -- PWR_CTL.AUX_ALERT R484
  { slot := 88, cnt := 1, hi := 13, lo := 0, acc := .rwk, reset := 10200, ap := .sequencer, fn := 15, clamp := (.range 10000 10600), beryl := false },  -- TRIP_CTL.DRAIN_THR R484
  { slot := 89, cnt := 1, hi := 3, lo := 0, acc := .rwk, reset := 4, ap := .sequencer, fn := 15, clamp := (.range 4 15), beryl := false },  -- PG_CTL.QUAL R484
  { slot := 89, cnt := 1, hi := 9, lo := 4, acc := .rwk, reset := 50, ap := .sequencer, fn := 15, clamp := (.range 20 63), beryl := false } ]  -- PG_CTL.GLITCH R484

/-- Writable and clear-on-read fields of the CACHE block. -/
def cacheFields : List FieldT := [
  { slot := 1, cnt := 1, hi := 15, lo := 0, acc := .rwk, reset := 0, ap := .now, fn := 3, clamp := .any, beryl := true },  -- WAY_DIS.WAY_DIS R163
  { slot := 2, cnt := 1, hi := 0, lo := 0, acc := .rw, reset := 1, ap := .now, fn := 31, clamp := .any, beryl := false },  -- PF_CTL.PF_EN R163
  { slot := 2, cnt := 1, hi := 2, lo := 1, acc := .rwk, reset := 1, ap := .now, fn := 3, clamp := .any, beryl := false },  -- PF_CTL.PF_DEPTH R163
  { slot := 3, cnt := 1, hi := 3, lo := 0, acc := .rwk, reset := 8, ap := .now, fn := 3, clamp := (.range 1 15), beryl := false },  -- ECC_CTL.CE_LIMIT R163
  { slot := 4, cnt := 1, hi := 0, lo := 0, acc := .rc, reset := 0, ap := .now, fn := 31, clamp := .any, beryl := false },  -- ERR_STAT.CE R163
  { slot := 4, cnt := 1, hi := 1, lo := 1, acc := .rc, reset := 0, ap := .now, fn := 31, clamp := .any, beryl := false },  -- ERR_STAT.UE R163
  { slot := 4, cnt := 1, hi := 2, lo := 2, acc := .rc, reset := 0, ap := .now, fn := 31, clamp := .any, beryl := false },  -- ERR_STAT.TAG_UE R163
  { slot := 4, cnt := 1, hi := 6, lo := 3, acc := .rc, reset := 0, ap := .now, fn := 31, clamp := .any, beryl := false } ]  -- ERR_STAT.WAY R163

/-- Writable and clear-on-read fields of the CHANNEL block. -/
def channelFields : List FieldT := [
  { slot := 1, cnt := 1, hi := 3, lo := 0, acc := .rwk, reset := 8, ap := .mediaOp, fn := 4, clamp := (.range 1 8), beryl := false },  -- MEDIA_CTL.PROG_LIM R202
  { slot := 1, cnt := 1, hi := 6, lo := 4, acc := .rwk, reset := 4, ap := .mediaOp, fn := 4, clamp := (.range 1 4), beryl := false },  -- MEDIA_CTL.RESET_LIM R202
  { slot := 2, cnt := 1, hi := 0, lo := 0, acc := .rc, reset := 0, ap := .now, fn := 31, clamp := .any, beryl := false },  -- MEDIA_ERR.PROG_FAIL R202
  { slot := 2, cnt := 1, hi := 1, lo := 1, acc := .rc, reset := 0, ap := .now, fn := 31, clamp := .any, beryl := false },  -- MEDIA_ERR.INTERRUPTED R202
  { slot := 2, cnt := 1, hi := 2, lo := 2, acc := .rc, reset := 0, ap := .now, fn := 31, clamp := .any, beryl := false },  -- MEDIA_ERR.TAG_FAULT R202
  { slot := 2, cnt := 1, hi := 3, lo := 3, acc := .rc, reset := 0, ap := .now, fn := 31, clamp := .any, beryl := false },  -- MEDIA_ERR.W_ZERO R202
  { slot := 2, cnt := 1, hi := 6, lo := 4, acc := .rc, reset := 0, ap := .now, fn := 31, clamp := .any, beryl := false },  -- MEDIA_ERR.DIE R202
  { slot := 8, cnt := 1, hi := 15, lo := 10, acc := .rc, reset := 0, ap := .now, fn := 31, clamp := .any, beryl := false },  -- RD_LOAD.BURST_MAX R102
  { slot := 8, cnt := 1, hi := 16, lo := 16, acc := .rc, reset := 0, ap := .now, fn := 31, clamp := .any, beryl := false },  -- RD_LOAD.OVER R102
  { slot := 9, cnt := 1, hi := 9, lo := 0, acc := .rw, reset := 340, ap := .mediaOp, fn := 31, clamp := .any, beryl := false },  -- RD_CTL.LOAD_ALARM R103
  { slot := 9, cnt := 1, hi := 10, lo := 10, acc := .rw, reset := 1, ap := .mediaOp, fn := 31, clamp := .any, beryl := false },  -- RD_CTL.ALARM_EN R103
  { slot := 9, cnt := 1, hi := 11, lo := 11, acc := .rwk, reset := 0, ap := .mediaOp, fn := 1, clamp := .any, beryl := false },  -- RD_CTL.PREEMPT_DIS R103
  { slot := 10, cnt := 1, hi := 17, lo := 10, acc := .rwk, reset := 0, ap := .mediaOp, fn := 7, clamp := .dlCap, beryl := false },  -- REF_DL.DL_CAP R299
  { slot := 11, cnt := 1, hi := 12, lo := 12, acc := .rc, reset := 0, ap := .now, fn := 31, clamp := .any, beryl := false },  -- DRIFT_STAT.RETRY R299
  { slot := 11, cnt := 1, hi := 13, lo := 13, acc := .rc, reset := 0, ap := .now, fn := 31, clamp := .any, beryl := false },  -- DRIFT_STAT.UE R299
  { slot := 11, cnt := 1, hi := 14, lo := 14, acc := .rc, reset := 0, ap := .now, fn := 31, clamp := .any, beryl := false } ]  -- DRIFT_STAT.PAST_DL R299

/-- The fields of a block. -/
def fieldsOf : Blk → List FieldT
  | .global => globalFields
  | .port => portFields
  | .ring => ringFields
  | .spinel => spinelFields
  | .mapctl => mapctlFields
  | .zircon => zirconFields
  | .thermal => thermalFields
  | .fault => faultFields
  | .agate => agateFields
  | .beryl => berylFields
  | .quartz => quartzFields
  | .security => securityFields
  | .power => powerFields
  | .cache => cacheFields
  | .channel => channelFields

/-- The block that an index names, and its instance (13 R419). -/
def blkOf (idx : Nat) : Option (Blk × Nat) :=
  if idx = 0x00 then some (.global, 0)
  else if idx < 0x02 then none
  else if idx < 0x06 then some (.port, idx - 0x02)
  else if idx < 0x0A then some (.ring, idx - 0x06)
  else if idx = 0x0A then some (.spinel, 0)
  else if idx = 0x0B then some (.mapctl, 0)
  else if idx = 0x0C then some (.zircon, 0)
  else if idx = 0x0D then some (.thermal, 0)
  else if idx = 0x0E then some (.fault, 0)
  else if idx = 0x0F then some (.agate, 0)
  else if idx = 0x10 then some (.beryl, 0)
  else if idx = 0x11 then some (.quartz, 0)
  else if idx = 0x12 then some (.security, 0)
  else if idx = 0x13 then some (.power, 0)
  else if idx < 0x20 then none
  else if idx < 0x28 then some (.cache, idx - 0x20)
  else if idx < 0x40 then none
  else if idx < 0x60 then some (.channel, idx - 0x40)
  else none

/-- First block index of a kind (13 R419). -/
def blkIdx : Blk → Nat
  | .global => 0x00 | .port => 0x02 | .ring => 0x06 | .spinel => 0x0A | .mapctl => 0x0B | .zircon => 0x0C | .thermal => 0x0D
  | .fault => 0x0E | .agate => 0x0F | .beryl => 0x10 | .quartz => 0x11 | .security => 0x12 | .power => 0x13 | .cache => 0x20
  | .channel => 0x40

/-- Instances of a kind (13 R419). -/
def blkCount : Blk → Nat
  | .port => 4 | .ring => 4 | .cache => 8 | .channel => 32
  | .global | .spinel | .mapctl | .zircon | .thermal | .fault | .agate | .beryl | .quartz | .security | .power => 1

/-- Whether a field lies in a slot. -/
def FieldT.covers (f : FieldT) (slot : Nat) : Bool := decide (f.slot ≤ slot) && decide (slot < f.slot + f.cnt)

/-- The bits of a field, in place. -/
def FieldT.mask (f : FieldT) : Nat := (2 ^ (f.hi + 1 - f.lo) - 1) * 2 ^ f.lo

/-- The fields of a slot. -/
def slotFields (b : Blk) (slot : Nat) : List FieldT := (fieldsOf b).filter (fun f => f.covers slot)

/-- The value that a field takes for a written value (13 R404). -/
def takeValue (c : Clamp) (v : Nat) : Nat :=
  match c with
  | .any => v
  | .range lo hi => clampTo lo hi v
  | .dlCap => if v = 0 then 0 else if v < 6 then 6 else v
  | .fset => if v ≤ 8 then v else 0

/-- Bits of a slot whose access satisfies `p`. -/
def accMask (p : Acc → Bool) (b : Blk) (slot : Nat) : Nat := sumOf (fun f => if p f.acc then f.mask else 0) (slotFields b slot)

/-- Bits that a requester may write and that are held (RW, RWK). -/
def heldMask (b : Blk) (slot : Nat) : Nat := accMask (fun a => a = .rw || a = .rwk) b slot

/-- Expert bits (RWK). -/
def rwkMask (b : Blk) (slot : Nat) : Nat := accMask (fun a => a = .rwk) b slot

/-- RC bits. -/
def rcMask (b : Blk) (slot : Nat) : Nat := accMask (fun a => a = .rc) b slot

/-- Bits whose write acts (WO). -/
def woMask (b : Blk) (slot : Nat) : Nat := accMask (fun a => a = .wo) b slot

/-- Factory values of the stored fields (13 R409): the ones the manual gives; zero, raised to the field's range, elsewhere (log
entry 3). -/
def factoryValue (b : Blk) (f : FieldT) : Nat :=
  match b, f.lo with
  | .beryl, _ => 88
  | .zircon, 0 => 24
  | .zircon, 7 => 10
  | .thermal, 0 => 4
  | _, _ => 0

/-- The word of a slot at a reset event, its stored fields at their factory values (13 R408, R409). -/
def resetWord (b : Blk) (slot : Nat) : Nat :=
  sumOf (fun f => match f.acc with
    | .rw | .rwk => (if f.beryl then factoryValue b f else f.reset) * 2 ^ f.lo
    | .rc | .wo => 0) (slotFields b slot)

/-- The key of a slot in the register store. -/
def regKey (b : Blk) (i slot : Nat) : Nat := (blkIdx b + i) * 128 + slot

/-- The cell of a slot at a reset event. -/
def resetCell (b : Blk) (slot : Nat) : RegCell := cellOf (BitVec.ofNat 20 (resetWord b slot))

/-- The cell of a slot. -/
def cellAt (s : State) (b : Blk) (i slot : Nat) : RegCell := sGet (resetCell b slot) s.regs (regKey b i slot)

/-- Write the cell of a slot. -/
def setCell (s : State) (b : Blk) (i slot : Nat) (c : RegCell) : State :=
  { s with regs := sSet (resetCell b slot) s.regs (regKey b i slot) c }

/-- A field of the active word. -/
def regF (s : State) (b : Blk) (i slot hi lo : Nat) : Nat := bitsOf (cellAt s b i slot).act.toNat hi lo

/-- A one-bit field of the active word. -/
def regB (s : State) (b : Blk) (i slot k : Nat) : Bool := bitOf (cellAt s b i slot).act.toNat k

/-- Set RC flags of a slot (13 R403). -/
def setRC (s : State) (b : Blk) (i slot : Nat) (m : Nat) : State :=
  let c := cellAt s b i slot
  setCell s b i slot { c with rc := c.rc ||| BitVec.ofNat 20 m }

/-- Change a word's bits under a mask. -/
def mergeBits (old m v : Nat) : Nat := (old &&& (0xFFFFF ^^^ m)) ||| (v &&& m)

/-- Set the bits `m` of both words of a slot to `v`, as the module does for a field it applies itself. -/
def putBoth (s : State) (b : Blk) (i slot m v : Nat) : State :=
  let c := cellAt s b i slot
  setCell s b i slot { c with act := BitVec.ofNat 20 (mergeBits c.act.toNat m v), pend := BitVec.ofNat 20 (mergeBits c.pend.toNat m v) }

/-- Make the pending value of the fields of a slot that wait for a point active at once (13 R404). -/
def applySlot (s : State) (b : Blk) (i slot : Nat) (k : ApK) : State :=
  let m := sumOf (fun f => if f.ap = k && (f.acc = .rw || f.acc = .rwk) then f.mask else 0) (slotFields b slot)
  if m = 0 then s else
  let c := cellAt s b i slot
  setCell s b i slot { c with act := BitVec.ofNat 20 (mergeBits c.act.toNat m c.pend.toNat) }

/-- The slots of a block that hold a field waiting for a point. -/
def slotsFor (b : Blk) (k : ApK) : List Nat :=
  ((fieldsOf b).filter (fun f => f.ap = k)).flatMap (fun f => (List.range f.cnt).map (fun j => f.slot + j))

/-- Return every slot of a block instance to its reset values; pending values are discarded (13 R408). Stored fields are then
loaded from the page images by the caller (R409). `keep` names slots that hold their value. -/
def resetBlock (s : State) (b : Blk) (i : Nat) (keep : Nat → Bool) : State :=
  { s with regs := s.regs.filter (fun x => x.1 / 128 ≠ blkIdx b + i || keep (x.1 % 128)) }

end Sys2Proof.Machine
end

