-- ==== Sys2Proof/Machine/Flags.lean ====
section
/-! DEFINITION. Fault codes with their classes (14 R425, R426; 16 R482; 18 R521; 19 R539; 20 R561), sources (14 R427), codes of the
state variables (13 R421; 10 R339), and the clear-on-read flags, each set by one named operation. -/

namespace Sys2Proof.Machine

/-- Class of a code: 0 information, 1 CE, 2 UC, 3 FT; 4 for a reserved code. -/
def codeClass (c : Nat) : Nat :=
  if 0x0001 ≤ c ∧ c ≤ 0x000C then 0
  else if (0x0101 ≤ c ∧ c ≤ 0x0105) ∨ (0x0180 ≤ c ∧ c ≤ 0x0185) ∨ (0x0190 ≤ c ∧ c ≤ 0x0196) ∨ (0x01A0 ≤ c ∧ c ≤ 0x01A1)
      ∨ (0x01B0 ≤ c ∧ c ≤ 0x01B3) then 1
  else if (0x0201 ≤ c ∧ c ≤ 0x020E) ∨ (0x0280 ≤ c ∧ c ≤ 0x0282) ∨ (0x0290 ≤ c ∧ c ≤ 0x0294) ∨ (0x02A0 ≤ c ∧ c ≤ 0x02A1)
      ∨ (0x02B0 ≤ c ∧ c ≤ 0x02B2) then 2
  else if 0x0301 ≤ c ∧ c ≤ 0x0308 then 3
  else 4

/-- Whether a code enters a latch and escalates (14 R426). -/
def escalating (c : Nat) : Bool := decide (0x0101 ≤ c ∧ c ≤ 0x0105) || decide (0x0201 ≤ c ∧ c ≤ 0x0207)

/-- SOURCE: unit kind and instance (14 R427). -/
def srcOf (kind inst : Nat) : Nat := kind + inst * 256

def srcPort (p : Nat) : Nat := srcOf 0x01 p
def srcRing (p : Nat) : Nat := srcOf 0x02 p
def srcSpinel : Nat := srcOf 0x03 0
def srcMap : Nat := srcOf 0x04 0
def srcPump : Nat := srcOf 0x05 0
def srcSlice (n : Nat) : Nat := srcOf 0x06 n
def srcChan (c : Nat) : Nat := srcOf 0x07 c
def srcZircon : Nat := srcOf 0x08 0
def srcThermal : Nat := srcOf 0x09 0
def srcPower : Nat := srcOf 0x0A 0
def srcBeryl : Nat := srcOf 0x0B 0
def srcAgate : Nat := srcOf 0x0C 0
def srcSec : Nat := srcOf 0x0D 0
def srcFault : Nat := srcOf 0x0F 0

/-- ARG1 of a fault whose DPA is known: the DLN with bit 39 set (14 R427). -/
def dlnArg (dln : Nat) : Nat := dln % 2 ^ 39 + 2 ^ 39

/-! ## Codes of the state variables -/

/-- GLOBAL.STATE.POWER (13 R421). -/
def powerCode (x : PState) : Nat :=
  match x with
  | .off => 0 | .standby => 1 | .boot => 2 | .service => 3 | .drain => 4 | .halt => 5

/-- PAIR_STAT.ROLE (10 R339). -/
def roleCode (r : Role) : Nat :=
  match r with
  | .unpaired => 0 | .joining => 1 | .paired => 2 | .solo => 3 | .fenced => 4 | .resync => 5

/-- SPARE_STAT.COND (08 R272). -/
def capCode (x : Cap) : Nat :=
  match x with
  | .normal => 0 | .lowSpare => 1 | .constrained => 2

/-- TH_STAT.COND (18 R523). -/
def thermCode (x : Therm) : Nat :=
  match x with
  | .nominal => 0 | .warn => 1 | .throttle1 => 2 | .throttle2 => 3 | .shutdown => 4

/-! ## Clear-on-read flags, by block, slot and bit -/

def flagPort (s : State) (p bit : Nat) : State := setRC s .port p 2 (2 ^ bit)
def flagWaited (s : State) (p : Nat) : State := setRC s .port p 25 (2 ^ 8)
def flagRing (s : State) (p bit : Nat) : State := setRC s .ring p 11 (2 ^ bit)
def flagPair (s : State) (bit : Nat) : State := setRC s .spinel 0 1 (2 ^ bit)
def flagPump (s : State) (bit : Nat) : State := setRC s .mapctl 0 37 (2 ^ bit)
def flagTailStall (s : State) : State := setRC s .mapctl 0 3 (2 ^ 10)
def flagCloneFull (s : State) : State := setRC s .mapctl 0 5 (2 ^ 18)
def flagMapUe (s : State) : State := setRC s .mapctl 0 7 1
def flagMove (s : State) (bit : Nat) : State := setRC s .mapctl 0 52 (2 ^ bit)
def flagScrub (s : State) (bit : Nat) : State := setRC s .mapctl 0 42 (2 ^ bit)
def flagRefPast (s : State) : State := setRC s .mapctl 0 43 (2 ^ 16)
def flagEscCe (s : State) : State := setRC s .fault 0 36 (2 ^ 3)
def flagAgate (s : State) (bit : Nat) : State := setRC s .agate 0 0 (2 ^ bit)
def flagQuartzOvf (s : State) : State := setRC s .quartz 0 0 2
def flagDump (s : State) (bit : Nat) : State := setRC s .quartz 0 20 (2 ^ bit)
def flagDom (s : State) (d : Nat) : State := setRC s .power 0 d (2 ^ 7)
def flagPwr (s : State) (bit : Nat) : State := setRC s .power 0 81 (2 ^ bit)
def flagZircon (s : State) (bit : Nat) : State := setRC s .zircon 0 1 (2 ^ bit)
def flagThermal (s : State) (bit : Nat) : State := setRC s .thermal 0 1 (2 ^ bit)
def flagBeryl (s : State) (bit : Nat) : State := setRC s .beryl 0 1 (2 ^ bit)
def flagSec (s : State) (bit : Nat) : State := setRC s .security 0 1 (2 ^ bit)
def flagMedia (s : State) (c bit : Nat) : State := setRC s .channel c 2 (2 ^ bit)
def flagDrift (s : State) (c bit : Nat) : State := setRC s .channel c 11 (2 ^ bit)
def flagOver (s : State) (c : Nat) : State := setRC s .channel c 8 (2 ^ 16)

/-- Raise BURST_MAX to `b`, saturating at 63 (03 R102). -/
def flagBurst (s : State) (c b : Nat) : State :=
  let x := cellAt s .channel c 8
  let old := bitsOf x.rc.toNat 15 10
  let new := if 63 < b then 63 else b
  if old < new then setCell s .channel c 8 { x with rc := BitVec.ofNat 20 (mergeBits x.rc.toNat (0x3F * 2 ^ 10) (new * 2 ^ 10)) } else s

/-- Set flags of CACHE[n].ERR_STAT; the first error latches WAY (05 R163). -/
def flagCache (s : State) (n bit way : Nat) (first : Bool) : State :=
  setRC s .cache n 4 (2 ^ bit + if first then way % 16 * 2 ^ 3 else 0)

end Sys2Proof.Machine
end

