-- ==== Sys2Proof/Machine/Ops.lean ====
section
/-! DEFINITION. Operations that every unit shares: units by index, outputs, free values, Beryl pages and store operations (19),
completions of descriptors (12 R368, R373, R395), the Agate recorder (14 R434 to R441), the CXL event logs (11 R353) and the report
of a fault that does not escalate (14 R426), thermal ages and sense references (09 R277 to R282). -/

namespace Sys2Proof.Machine

/-! ## Units by index -/

/-- TIME (01 R18). -/
def now (s : State) : Nat := s.pwr.time

/-- One tick of TIME, 10 ns; TIME stands still in OFF (01 R18). It is what a step does when no command waits (log entry 11). -/
def tick (s : State) : State := { s with pwr := { s.pwr with time := if s.pwr.st = .off then s.pwr.time else s.pwr.time + 10 } }

def portAt (s : State) (p : Nat) : PortSt := sGet portInit s.ports p
def modPort (s : State) (p : Nat) (f : PortSt → PortSt) : State := { s with ports := sMod portInit s.ports p f }
def ringAt (s : State) (p : Nat) : Ring := sGet ringInit s.rings p
def modRing (s : State) (p : Nat) (f : Ring → Ring) : State := { s with rings := sMod ringInit s.rings p f }
def domAt (s : State) (d : Nat) : Dom := sGet domInit s.pwr.doms d
def modDom (s : State) (d : Nat) (f : Dom → Dom) : State := { s with pwr := { s.pwr with doms := sMod domInit s.pwr.doms d f } }
/-- A channel before anything is known of it: the dies of the variant live (06 R202). -/
def chanDefault (s : State) : Chan := { chanInit with live := match s.sec.variant with | .y32 => 0x3F | .y16 => 0x07 }
def chanAt (s : State) (c : Nat) : Chan := sGet (chanDefault s) s.drift.chans c
def modChan (s : State) (c : Nat) (f : Chan → Chan) : State :=
  { s with drift := { s.drift with chans := sMod (chanDefault s) s.drift.chans c f } }
def sliceAt (s : State) (n : Nat) : SliceT := sGet sliceInit s.cache.slices n
def modSlice (s : State) (n : Nat) (f : SliceT → SliceT) : State :=
  { s with cache := { s.cache with slices := sMod sliceInit s.cache.slices n f } }
def keyAt (s : State) (k : Nat) : KeySlot := sGet keyInit s.keys.slots k
def entryAt (s : State) (ltn : Nat) : MapEntry := sGet entryInit s.tabs.map ltn
def tileAt (s : State) (ptn : Nat) : Nat := sGet 0 s.tabs.tile ptn
def ledAt (s : State) (ptn : Nat) : Led := sGet ledInit s.wear.led ptn
def poolAt (s : State) (die : Nat) : Pool := sGet poolInit s.wear.pools die
def frameAt (s : State) (ptn fslot : Nat) : Frame := sGet frameInit s.med.frames (frameKey ptn fslot)
def setFrame (s : State) (ptn fslot : Nat) (f : Frame) : State :=
  { s with med := { s.med with frames := sSet frameInit s.med.frames (frameKey ptn fslot) f } }

/-- Whether a domain is on (13 R414, 16 R483). D00 is on in every state except OFF (16 R460). -/
def domOn (s : State) (d : Nat) : Bool := if d = 0 then decide (s.pwr.st ≠ .off) else decide ((domAt s d).st = 2)

/-- The channels in service. -/
def liveChans (s : State) : List Nat := (List.range 32).filter (fun c => !(chanAt s c).retired)

/-- Whether a die of a channel in service is live. -/
def dieLive (s : State) (ix : Nat) : Bool :=
  let c := chanAt s (ix / 8)
  !c.retired && decide (ix % 8 < 6) && c.live.getLsbD (ix % 8)

/-- Live dies in the order of 08 R247: by die, then channel. -/
def liveDies (s : State) : List Nat :=
  (List.range 6).flatMap (fun d => ((List.range 32).map (fun c => c * 8 + d)).filter (dieLive s))

/-- Whether an EXPERT_EN bit is set (13 R417). -/
def expertEn (s : State) (k : Nat) : Bool := regB s .global 0 18 k

/-- No extent. -/
def extInit : Ext := { offered := false, accepted := false, released := [] }

/-! ## Outputs and free values -/

def emit (s : State) (o : Out) : State := { s with out := s.out ++ [o] }

/-- Credit class of a message (10 R314): 0 MIR, 1 REQ, 2 BULK, 3 RSP, 4 PROMOTE_NOTE. -/
def msgClass (m : Msg) : Nat :=
  match m with
  | .mirrorWrite .. | .stateTile .. | .entry .. => 0
  | .fwdFull .. | .fwdPart .. | .fwdRd .. | .fwdRefuse .. | .stateCmd .. | .lineReq .. | .doneReq | .doneAck | .doneSwitch | .joinPage ..
  | .joinOpen .. | .joinWells .. | .joinEnd .. => 1
  | .line .. | .tileEnd .. | .agateCopy _ | .joinInuse _ => 2
  | .mirrorAck _ | .fwdRdData .. | .stateDone .. | .heartbeat _ | .tileAck _ | .lineRsp .. => 3
  | .promoteNote _ => 4

/-- Whether a message may go now: no message of its order waits before it, its class holds a credit, and fewer than 512 flits are
outstanding (10 R313 to R315). -/
def canSend (p : Pair) (before : List Msg) (m : Msg) : Bool :=
  let c := msgClass m
  let blocked := before.any (fun x => msgClass x = c || (c = 4 && msgClass x = 1))
  !blocked && decide (p.flits.length < 512) && (match c with
    | 0 => decide (0 < p.mir)
    | 1 => decide (0 < p.req)
    | 2 => decide (0 < p.bulk)
    | _ => true)

/-- A message leaves in a flit of its own and takes its credit (log entry 15). -/
def sendNow (s : State) (m : Msg) : State :=
  let p := s.pair
  let c := msgClass m
  emit { s with pair := { p with
    mir := if c = 0 then p.mir - 1 else p.mir
    req := if c = 1 then p.req - 1 else p.req
    bulk := if c = 2 then p.bulk - 1 else p.bulk
    fseq := (p.fseq + 1) % 1024
    flits := p.flits ++ [(p.fseq, s.pwr.time, 0)] } } (.msg m)

/-- Whether a message of the pair outlives a retrain: until the link is declared lost, what waits is sent once it is ACTIVE again (10
R313, R319). -/
def keepsTx (s : State) : Bool := decide (s.pair.role = .paired) || decide (s.pair.role = .resync)

/-- Send a message to the peer, in order, or keep it until it may go. Without a link, and outside PAIRED and RESYNC, nothing is sent. -/
def send (s : State) (m : Msg) : State :=
  if !s.pair.linkUp then (if keepsTx s then { s with pair := { s.pair with txq := s.pair.txq ++ [m] } } else s)
  else if canSend s.pair s.pair.txq m then sendNow s m
  else { s with pair := { s.pair with txq := s.pair.txq ++ [m] } }

/-- Send what may go of the waiting messages. -/
def drainTx (s : State) : List Msg → List Msg → State
  | kept, [] => { s with pair := { s.pair with txq := kept } }
  | kept, m :: r => if canSend s.pair kept m then drainTx (sendNow s m) kept r else drainTx s (kept ++ [m]) r

/-- Send the waiting messages that may go now. -/
def pumpTx (s : State) : State := if s.pair.linkUp then drainTx s [] s.pair.txq else s

/-- Advance the counter that free values are applied to (log entry 2). -/
def bump (s : State) : State := { s with freeCtr := s.freeCtr + 1 }

/-! ## Beryl pages and store operations (19) -/

/-- A page's image. -/
def pageAt (s : State) (n : Nat) : Page := sGet (factoryPage n) s.beryl.image n

/-- Write a page's image: the dirty flag is set (19 R524). -/
def setPage (s : State) (n : Nat) (pg : Page) : State :=
  { s with beryl := { s.beryl with image := sSet (factoryPage n) s.beryl.image n pg, dirty := sSet false s.beryl.dirty n true } }

/-- A field of a page's image. -/
def pgGet (s : State) (n hi lo : Nat) : Nat := bitsOf (pageAt s n).toNat hi lo

/-- A page with bits [hi:lo] set to `v`. -/
def pgWith (pg : Page) (hi lo v : Nat) : Page :=
  let w := hi + 1 - lo
  (pg &&& ~~~ BitVec.ofNat 2048 ((2 ^ w - 1) * 2 ^ lo)) ||| BitVec.ofNat 2048 (v % 2 ^ w * 2 ^ lo)

/-- Write a field of a page's image. -/
def pgPut (s : State) (n hi lo v : Nat) : State := setPage s n (pgWith (pageAt s n) hi lo v)

/-- Pages of the settings range and of the retirement range whose layout is the model's (log entry 7). -/
def pgSettings : Nat := 0
def pgShutdown : Nat := 1
def pgScrub : Nat := 2
def pgSeq : Nat := 3
def pgThermal : Nat := 4
def pgAgate : Nat := 512
def pgHistory : Nat := 2560
def pgPairing : Nat := 3072
def pgRetire : Nat := 3136
def pgBadRing : Nat := 3137
def pgRows : Nat := 3138
def pgKeys : Nat := 3392

/-- Whether a ring page is marked bad (14 R441). -/
def ringBad (s : State) (n : Nat) : Bool := decide (512 ≤ n ∧ n < 2560) && (pageAt s pgBadRing).getLsbD (n - 512)

/-- Whether a store operation takes the page (19 R528). -/
def storable (s : State) (n : Nat) : Bool := decide (n < 3456) && !ringBad s n

/-- The dirty pages of some ranges, ascending. -/
def dirtyIn (s : State) (rs : List (Nat × Nat)) : List Nat :=
  (s.beryl.dirty.filter (fun x => x.2 && rs.any (fun r => decide (r.1 ≤ x.1 ∧ x.1 ≤ r.2)) && storable s x.1)).map (·.1)

/-- The running descriptors of a port finish with their effects, and their completions are discarded (12 R392, R397). -/
def orphan (s : State) (p : Nat) : State :=
  { s with
    cmds := { s.cmds with run := s.cmds.run.map (fun r => if r.src = p then { r with src := 8 + p } else r) }
    drift := { s.drift with range := s.drift.range.map (fun g => if g.src = p then { g with src := 8 + p } else g) } }

/-- Entries of the completion ring. -/
def cplSize (s : State) (p : Nat) : Nat := 2 ^ regF s .ring p 6 7 4

/-- CPL_FULL where a completion has to wait for ring room (12 R368). -/
def flagCplFull (s : State) (p : Nat) : State :=
  if ((ringAt s p).cplTail + 1) % cplSize s p = (ringAt s p).cplHead then flagRing s p 4 else s

/-- Put a completion where its descriptor came from: the completion ring of its port, or the sideband (12 R368, R373, R395); it is dropped
where it is to be discarded. -/
def postCpl (s : State) (src : Nat) (d : Desc) (status result : Nat) (bytes : List (BitVec 8)) : State :=
  let res := if status = 0 ∨ status = 0x0B then result else 0
  if src < 4 then
    modRing (flagCplFull s src) src (fun r => { r with wait := r.wait ++
      [{ tag := d.tag, status := status, opcode := d.opcode, result := res, noirq := d.noirq, vec := d.vec }] })
  else if 8 ≤ src then s
  else
    emit s (.sideband (BitVec.ofNat 128 (d.tag.toNat + status % 256 * 2 ^ 16 + d.opcode % 256 * 2 ^ 24 + res % 2 ^ 63 * 2 ^ 64)) bytes)

/-- A running descriptor leaves with a completion. -/
def completeRun (s : State) (r : Running) (status result : Nat) (bytes : List (BitVec 8)) : State :=
  let s := { s with cmds := { s.cmds with run := dropFirst (fun x => x.src = r.src && x.desc = r.desc) s.cmds.run } }
  postCpl s r.src (descOf r.desc) status result bytes

/-- The end of a store operation: BR_EVT.DONE, and what waited for it (19 R529, R540). Status 0x11 is
MEDIA_ERROR (12 R376). -/
def opEnded (s : State) (op : StoreOp) : State :=
  let s := if op.fails then s else flagBeryl s 0
  let s := if op.kind = 1 then { s with ag := { s.ag with busy := false } } else s
  let s := if op.kind = 2 then
      { s with pwr := { s.pwr with drain := s.pwr.drain.map (fun d => { d with stored := true }) } } else s
  let s := { s with cmds := { s.cmds with tasks := s.cmds.tasks.map (fun t => if t.waitStore = some op.num then
    { t with waitStore := none, status := if op.fails then 0x11 else t.status } else t) } }
  match findP (fun r => r.waitStore = some op.num) s.cmds.run with
  | some r => completeRun s r (if op.fails then 0x11 else 0) op.total []
  | none => s

/-- Start the operation at the head of the queue if none runs: its pages are those dirty now (19 R528, R531). An operation with no
page ends at once. -/
def promoteOps : Nat → State → State
  | 0, s => s
  | n + 1, s => match s.beryl.ops with
    | [] => s
    | op :: rest =>
      if op.begun then s
      else
        let pages := dirtyIn s op.ranges
        if pages.isEmpty then promoteOps n (opEnded { s with beryl := { s.beryl with ops := rest } } op)
        else { s with beryl := { s.beryl with ops := { op with begun := true, pages := pages, total := pages.length } :: rest } }

/-- Request a store operation; a flush for a fatal fault, and the SEQ reservation, go ahead of the queue (19 R531, 14 R436). -/
def startStore (s : State) (kind : Nat) (ranges : List (Nat × Nat)) (ahead : Bool) : State :=
  let op : StoreOp := { num := s.beryl.nextOp, ranges := ranges, begun := false, pages := [], total := 0, fails := false, kind := kind }
  let ops := if ahead then
      match s.beryl.ops with
      | h :: t => if h.begun then h :: op :: t else op :: h :: t
      | [] => [op]
    else s.beryl.ops ++ [op]
  let s := { s with beryl := { s.beryl with ops := ops, nextOp := s.beryl.nextOp + 1 } }
  promoteOps (s.beryl.ops.length) s

/-- Stop every store operation: a page in program is abandoned and its slot fails its checks; every page is dirty (19 R531). -/
def stopStores (s : State) : State :=
  let b := s.beryl
  let slots := b.prog.foldl (fun m x =>
    let k := 2 * x.1 + (1 - sGet 0 b.force x.1)
    sSet (slotInit k) m k (slotMade x.1 ((sGet (slotInit (2 * x.1 + sGet 0 b.force x.1)) b.slots (2 * x.1 + sGet 0 b.force x.1)).psq + 1)
      x.2.1 false false)) b.slots
  let dirty := b.prog.foldl (fun m x => sSet false m x.1 true) b.dirty
  { s with beryl := { b with slots := slots, dirty := dirty, prog := [], ops := [] }, ag := { s.ag with busy := false } }

/-! ## The Agate recorder (14 R434 to R441) -/

/-- The 256 bits of a record (14 R434). -/
def agBits (r : AgRec) : Nat :=
  r.seq % 2 ^ 40 + r.repeats % 2 ^ 20 * 2 ^ 40 + r.cls % 4 * 2 ^ 60 + b2n r.urgent * 2 ^ 62 + b2n r.peer * 2 ^ 63
    + r.time % 2 ^ 64 * 2 ^ 64 + r.source % 2 ^ 16 * 2 ^ 128 + r.code % 2 ^ 16 * 2 ^ 144 + r.arg0 % 2 ^ 40 * 2 ^ 160
    + r.arg1 % 2 ^ 40 * 2 ^ 200 + r.arg2 % 2 ^ 16 * 2 ^ 240

/-- A record from its 256 bits. -/
def agOf (x : Nat) : AgRec :=
  { seq := bitsOf x 39 0, repeats := bitsOf x 59 40, cls := bitsOf x 61 60, urgent := bitOf x 62, peer := bitOf x 63,
    time := bitsOf x 127 64, source := bitsOf x 143 128, code := bitsOf x 159 144, arg0 := bitsOf x 199 160,
    arg1 := bitsOf x 239 200, arg2 := bitsOf x 255 240 }

/-- The default of a buffer slot: no record. -/
def agSlot0 : AgRec × Bool := (agRec0, false)

/-- The first good slot at or after `k` (14 R437, R441). -/
def goodSlot (bad : List Nat) : Nat → Nat → Nat
  | 0, k => k
  | n + 1, k => if bad.contains k then goodSlot bad n ((k + 1) % 2048) else k

/-- The newest record. -/
def agNewest (s : State) : Option (Nat × AgRec × Bool) :=
  findP (fun x => x.2.1.seq + 1 = s.ag.next && decide (0 < x.2.1.repeats)) s.ag.buf

/-- Whether two events are identical (14 R435). -/
def agSame (a b : AgRec) : Bool :=
  a.source = b.source && a.code = b.code && a.arg0 = b.arg0 && a.arg1 = b.arg1 && a.arg2 = b.arg2

/-- A record that cannot be kept: to the peer, and to LASTGASP (14 R441 steps 2 and 3; 13 R423). -/
def agLose (s : State) (r : AgRec) : State :=
  let s := if s.pair.linkUp && (s.pair.role = .paired || s.pair.role = .resync) then send s (.agateCopy [r]) else s
  { s with req := { s.req with gasp := some r, gaspValid := true } }

/-- Give out the next SEQ; at V - 2^23 the reservation V advances and its page is stored at once (14 R436). -/
def agNextSeq (s : State) : State :=
  let n := s.ag.next + 1
  let s := { s with ag := { s.ag with next := n } }
  if s.ag.resv ≤ n + 2 ^ 23 then
    let v := s.ag.resv + 2 ^ 24
    let s := pgPut { s with ag := { s.ag with resv := v } } pgSeq 39 0 v
    startStore s 6 [(pgSeq, pgSeq)] true
  else s

/-- Record an event: it opens a record, which is the second component, or counts in the open one (14 R435 to R437). -/
def agAdd (s : State) (r : AgRec) : State × Option AgRec :=
  match s.ag.open_, agNewest s with
  | true, some (k, old, fl) =>
    if agSame old r && decide (old.repeats < 0xFFFFF) then
      ({ s with ag := { s.ag with buf := sSet agSlot0 s.ag.buf k ({ old with repeats := old.repeats + 1 }, fl) } }, none)
    else agOpen s r
  | _, _ => agOpen s r
where
  /-- Open a new record. -/
  agOpen (s : State) (r : AgRec) : State × Option AgRec :=
    let r := { r with seq := s.ag.next, repeats := Nat.max 1 r.repeats }
    if 2048 ≤ s.ag.badSlots.length then (agLose (agNextSeq s) r, some r)
    else
      let k := goodSlot s.ag.badSlots 2048 (r.seq % 2048)
      let old := sGet agSlot0 s.ag.buf k
      let s := if decide (0 < old.1.repeats) && !old.2 then
          flagAgate { s with ag := { s.ag with lost := satAdd 0xFFFFF s.ag.lost 1 } } 1 else s
      (agNextSeq { s with ag := { s.ag with buf := sSet agSlot0 s.ag.buf k (r, false), open_ := true } }, some r)

/-! ## CXL event logs (11 R353) -/

/-- The log a module event enters: 0 Informational, 1 Warning, 2 Failure, 3 Fatal; none for information. -/
def logOf (s : State) (r : AgRec) : Option Nat :=
  if r.cls = 0 then none
  else if r.code = 0x020A then some 1
  else if r.code = 0x0190 then some (if 1 ≤ r.arg0 then 1 else 0)
  else if r.code = 0x0184 then some (if regB s .power 0 87 0 then 1 else 0)
  else if r.code = 0x0183 then some (if regB s .power 0 87 1 then 1 else 0)
  else if r.cls = 1 then some (if r.urgent then 1 else 0)
  else if r.cls = 2 then some 2
  else some 3

/-- The ports whose logs take the event: one for WELL_VIOL and FENCED, else every port in SERVICE. -/
def logPorts (s : State) (r : AgRec) : List Nat :=
  let all := if s.pwr.st = .service then (List.range 4).filter (fun p => domOn s (2 + p)) else []
  if r.code = 0x0208 || r.code = 0x0209 then all.filter (fun p => p = r.source / 256) else all

/-- Place a record in the logs of some ports and raise their event interrupt (11 R346, R353). -/
def logTo (s : State) (log : Nat) (r : AgRec) : List Nat → State
  | [] => s
  | p :: ps =>
    let s := modPort s p (fun x => { x with logs := x.logs ++ [(log, r)] })
    logTo (emit s (.msix p (portAt s p).evVec)) log r ps

/-- A dynamic-capacity event at a port: the event itself, its record in the Dynamic Capacity log with a number of its own, and the event
interrupt (11 R348 to R350, R353). -/
def dcRaise (s : State) (p : Port) (kind well : Nat) (blocks : List Nat) : State :=
  let n := maxOf (fun x => if x.1 = 4 then x.2.seq + 1 else 0) 1 (portAt s p.val).logs
  logTo (emit s (.dcEvent p kind well blocks)) 4
    { agRec0 with seq := n, repeats := 1, time := now s, code := kind, arg0 := well, arg1 := blocks.length } [p.val]

/-- Place the CXL record of an opened Agate record. -/
def logRec (s : State) (r : AgRec) : State :=
  match logOf s r with
  | some l => logTo s l r (logPorts s r)
  | none => s

/-- The record of an event at this instant. -/
def mkRec (s : State) (src code a0 a1 a2 : Nat) (urgent : Bool) : AgRec :=
  { seq := 0, repeats := 1, cls := codeClass code % 4, urgent := urgent, peer := false, time := now s, source := src % 2 ^ 16,
    code := code % 2 ^ 16, arg0 := a0 % 2 ^ 40, arg1 := a1 % 2 ^ 40, arg2 := a2 % 2 ^ 16 }

/-- Count a fault in CE_TOTAL or UC_TOTAL (14 R443). -/
def countTotal (s : State) (code : Nat) : State :=
  if codeClass code = 1 then { s with flt := { s.flt with ceTotal := satAdd 0xFFFFF s.flt.ceTotal 1 } }
  else if codeClass code = 2 then { s with flt := { s.flt with ucTotal := satAdd 0xFFFFF s.flt.ucTotal 1 } }
  else s

/-- Record an event, and place it in the CXL logs where it opens a record. -/
def recordOnly (s : State) (r : AgRec) : State :=
  match agAdd s r with
  | (s, some r) => logRec s r
  | (s, none) => s

/-- Where every buffer slot is retired the record just given was not kept, and LOG_MEM_FAIL carries it; a LOG_MEM_FAIL raises no
further one (14 R441). -/
def lostRec (s : State) (r : AgRec) : State :=
  if 2048 ≤ s.ag.badSlots.length ∧ r.code ≠ 0x020C then
    recordOnly (countTotal s 0x020C) (mkRec s srcAgate 0x020C r.seq 0 0 false)
  else s

/-- Record and log an event without latching it. -/
def recordEv (s : State) (src code a0 a1 a2 : Nat) (urgent : Bool) : State :=
  let r := mkRec s src code a0 a1 a2 urgent
  lostRec (recordOnly s r) { r with seq := s.ag.next }

/-- Report an event of class 0, or a fault that is not escalating (14 R425, R426). -/
def noteEv (s : State) (src code a0 a1 a2 : Nat) : State := recordEv (countTotal s code) src code a0 a1 a2 false

/-- LOG_MEM_FAIL for a record that cannot be kept (14 R441 steps 2 to 4). -/
def logMemFail (s : State) (r : AgRec) : State :=
  let s := agLose s r
  noteEv s srcAgate 0x020C r.seq 0 0

/-! ## Thermal age and sense references (09 R275, R277 to R282) -/

/-- TAC of a channel in a snapshot page. -/
def snapTac (pg : Page) (c : Nat) : Nat := bitsOf pg.toNat (87 + 56 * c) (32 + 56 * c)

/-- TAC of channel c in snapshot SNAP[e] (09 R275). -/
def snapAt (s : State) (e c : Nat) : Nat := snapTac (pageAt s (pgHistory + e % 256)) c

/-- Units of 1/64 ms in one equivalent hour. -/
def hourUnits : Nat := 230400000

/-- The thermal age in units of 1/64 ms of a tile on a channel, by its EPOCH (09 R277). -/
def ageOf (s : State) (c epoch : Nat) : Nat := (chanAt s c).tac - snapAt s epoch c

/-- The age class: the largest k with the thermal age at least BND[k] (09 R278). -/
def ageClass (ch : Chan) (age : Nat) : Nat := countP (fun b => decide (b * hourUnits ≤ age)) ch.bnd - 1

/-- The age class of a tile by its channel and EPOCH (09 R278, R280). -/
def tileClass (s : State) (c epoch : Nat) : Nat := ageClass (chanAt s c) (ageOf s c epoch)

/-- An entry of a reference table (09 R279). -/
def refEntry (l : List Nat) (k : Nat) : Nat := l.getD k 0 % 2 ^ 18

/-- Offset O1, O2 or O3 (k = 0, 1, 2) of a reference entry: six bits, signed, in 1/64 of the gap between levels (09 R279). -/
def refOffset (r k : Nat) : Int := (BitVec.ofNat 6 (r / 2 ^ (6 * k))).toInt

/-- References of the first pass of a user tile, and of a metadata or anchor frame (09 R280). -/
def firstRefs (s : State) (c epoch : Nat) : Nat := refEntry (chanAt s c).fpt (tileClass s c epoch)
def metaFirstRefs (s : State) (c : Nat) : Nat := refEntry (chanAt s c).fpt (chanAt s c).mdc

/-- Whether the flag byte of the first-pass data is trusted (09 R281). -/
def flagTrusted (f : Frame) : Bool := f.w && decide (f.pcause ≠ 3) && (f.p || decide (f.pcause = 0))

/-- References of a retry for an age class: by TBIN where the flag byte is trusted, else by the drift class alone (09 R281; 03 R93). -/
def classRetryRefs (s : State) (c k : Nat) (f : Frame) : Nat :=
  if flagTrusted f then refEntry (chanAt s c).rt (16 * f.tbin.toNat + k) else refEntry (chanAt s c).ru k

/-- References of the retry of a user tile, and of a metadata or anchor frame (09 R281). -/
def retryRefs (s : State) (c epoch : Nat) (f : Frame) : Nat := classRetryRefs s c (tileClass s c epoch) f
def metaRetryRefs (s : State) (c : Nat) (f : Frame) : Nat := classRetryRefs s c (chanAt s c).mdc f

/-! ## Roles -/

/-- Change the pair role (10 R323, R339). -/
def roleTo (s : State) (r : Role) : State :=
  if s.pair.role = r then s else flagPair { s with pair := { s.pair with role := r } } 2

end Sys2Proof.Machine
end

