-- ==== Sys2Proof/Machine/Journal.lean ====
section
/-! DEFINITION. The map tables and their journal (07 R216 to R223), tiles taken, freed and retired (08 R246 to R248, R260, R261), the
spare count and the capacity condition (08 R262 to R266; 11 R350), keys and generations of tiles (06 R193 to R200). -/

namespace Sys2Proof.Machine

/-! ## Effect of a record (07 R218) -/

/-- The rotation cursor of the well that holds a tile advances past it (06 R199). The store holds the cursor plus 1. -/
def advanceCursor (t : Tables) (ltn : Nat) : Tables :=
  match wellOfLtn t.wells ltn with
  | some (i, _) => { t with cursor := sSet 0 t.cursor i (ltn + 2) }
  | none => t

/-! ## The clone table (07 R235) -/

/-- The NEXT that ends a sharer list. -/
def cloneEnd : Nat := 0xFFFFFFFF

/-- The place and the entry of a shared physical tile. -/
def cloneAt (t : Tables) (ptn : Nat) : Option (Nat × CloneEnt) := findP (fun x => x.2.v && decide (x.2.ptn = ptn)) t.clones

/-- The numbers of the next `n` nodes of a list, from node `k` on. -/
def chainNodes (t : Tables) : Nat → Nat → List Nat
  | 0, _ => []
  | n + 1, k => if k = cloneEnd then [] else k :: chainNodes t n (sGet nodeInit t.nodes k).next

/-- The nodes of a shared physical tile. -/
def cloneChain (t : Tables) (ptn : Nat) : List Nat :=
  match cloneAt t ptn with
  | some (_, e) => chainNodes t e.refs e.head
  | none => []

/-- The sharers of a physical tile, in the order of its list. -/
def sharersAt (t : Tables) (ptn : Nat) : List Nat := (cloneChain t ptn).map (fun k => (sGet nodeInit t.nodes k).ltn)

/-- The place of a new entry: the hash of the PTN, or the next free place after it (log entry 8). -/
def freePlace (t : Tables) : Nat → Nat → Nat
  | 0, k => k
  | n + 1, k => if (sGet cloneInit t.clones k).v then freePlace t n ((k + 1) % 2 ^ 27) else k

/-- The lowest index that a store does not list. -/
def freeIndex {α : Type} (m : Store α) : Nat :=
  (findP (fun i => !m.any (fun x => decide (x.1 = i))) (List.range (m.length + 1))).getD m.length

/-- A sharer joins the end of a tile's list; a first one makes the entry (R235, R236). -/
def cloneJoin (t : Tables) (ltn ptn : Nat) : Tables :=
  if (sharersAt t ptn).contains ltn then t
  else
    let n := freeIndex t.nodes
    let (pl, e) := (cloneAt t ptn).getD (freePlace t t.clones.length (ptn % 2 ^ 27), { v := true, ptn := ptn, refs := 0, head := cloneEnd })
    let nodes := sSet nodeInit t.nodes n { v := true, ltn := ltn, next := cloneEnd }
    match (cloneChain t ptn).getLast? with
    | none => { t with clones := sSet cloneInit t.clones pl { e with refs := 1, head := n }, nodes := nodes }
    | some k =>
      { t with
        clones := sSet cloneInit t.clones pl { e with refs := e.refs + 1 }
        nodes := sMod nodeInit nodes k (fun x => { x with next := n }) }

/-- A sharer leaves the list; an entry left with REFS 0 is removed (R237). -/
def cloneLeave (t : Tables) (ltn ptn : Nat) : Tables :=
  match cloneAt t ptn, findP (fun k => decide ((sGet nodeInit t.nodes k).ltn = ltn)) (cloneChain t ptn) with
  | some (pl, e), some k =>
    let nx := (sGet nodeInit t.nodes k).next
    let nodes := sSet nodeInit t.nodes k nodeInit
    let nodes := match findP (fun j => decide ((sGet nodeInit t.nodes j).next = k)) (cloneChain t ptn) with
      | some j => sMod nodeInit nodes j (fun x => { x with next := nx })
      | none => nodes
    { t with
      clones := sSet cloneInit t.clones pl
        (if e.refs ≤ 1 then cloneInit else { e with refs := e.refs - 1, head := if e.head = k then nx else e.head })
      nodes := nodes }
  | _, _ => t

/-! ## The refused-line table (08 R270) -/

/-- The place of a refused line. -/
def refusedPlace (t : Tables) (dln : Nat) : Option Nat := (findP (fun x => decide (x.2 = dln + 1)) t.refused).map (·.1)

/-- Whether a line stands in the refused-line table. -/
def isRefused (t : Tables) (dln : Nat) : Bool := (refusedPlace t dln).isSome

/-- The effect of a journal record on the tables; it sets absolute values. -/
def applyVal (t : Tables) (v : JVal) : Tables :=
  match v with
  | .mapSet ltn e rotw =>
    let t := { t with map := sSet entryInit t.map ltn e }
    if rotw then advanceCursor t ltn else t
  | .tileTake ptn _ _ => { t with tile := sSet 0 t.tile ptn 1 }
  | .tileFree ptn => { t with tile := sSet 0 t.tile ptn 2 }
  | .resetDone ptn => { t with tile := sSet 0 t.tile ptn 0 }
  | .cloneAdd ltn ptn => cloneJoin t ltn ptn
  | .cloneDel ltn ptn => cloneLeave t ltn ptn
  | .wellSet i w => { t with wells := sSet wellInit t.wells i w }
  | .refuseSet dln => if isRefused t dln then t else { t with refused := sSet 0 t.refused (freeIndex t.refused) (dln + 1) }
  | .refuseClr dln => match refusedPlace t dln with
    | some k => { t with refused := sSet 0 t.refused k 0 }
    | none => t
  | .retire ptn => { t with tile := sSet 0 t.tile ptn 3 }

/-- The effect of a commit group (07 R216, R219). -/
def applyVals (t : Tables) : List JVal → Tables
  | [] => t
  | v :: r => applyVals (applyVal t v) r

/-- The first object of the clone entries, of the sharer nodes, of the tile-state map, the well table, the first of the refused-line table,
and the first ledger object (07 R207). -/
def objClone : Nat := 1048576
def objNode : Nat := 1179648
def objTile : Nat := 1441792
def objWell : Nat := 1490944
def objRefused : Nat := 1490945
def objLedger : Nat := 2097152

/-- The tile-state object of a physical tile. -/
def tileObj (var : Variant) (ptn : Nat) : Nat := objTile + tixOf var ptn / 65536

/-- The objects of the clone table that differ between two tables in what they hold of a physical tile. -/
def cloneObjs (t u : Tables) (ptn : Nat) : List Nat :=
  let places := (cloneAt t ptn).toList.map (·.1) ++ (cloneAt u ptn).toList.map (·.1)
  (places.filter (fun k => decide (sGet cloneInit t.clones k ≠ sGet cloneInit u.clones k))).map (fun k => objClone + k / 1024)
    ++ ((cloneChain t ptn ++ cloneChain u ptn).filter (fun k => decide (sGet nodeInit t.nodes k ≠ sGet nodeInit u.nodes k))).map
      (fun k => objNode + k / 2048)

/-- The objects that hold what a record changes, between the tables before it and after (07 R207). -/
def objsOf (var : Variant) (t u : Tables) (v : JVal) : List Nat :=
  match v with
  | .mapSet ltn _ rotw => pageOf ltn :: (if rotw then [objWell] else [])
  | .tileTake ptn _ _ | .tileFree ptn | .resetDone ptn | .retire ptn => [tileObj var ptn]
  | .cloneAdd _ ptn | .cloneDel _ ptn => cloneObjs t u ptn
  | .wellSet _ _ => [objWell]
  | .refuseSet dln => (refusedPlace u dln).toList.map (fun k => objRefused + k / 2048)
  | .refuseClr dln => (refusedPlace t dln).toList.map (fun k => objRefused + k / 2048)

/-- The records of a group, numbered from `n`, the last one marked (07 R217). A group of more than 256 records is appended as groups of 256
and a rest (07 R219; log entry 54): `k` counts the records of the present one. -/
def groupRecs (n k : Nat) : List JVal → List JRec
  | [] => []
  | [v] => [{ seq := n, last := true, val := v }]
  | v :: r => { seq := n, last := decide (k = 255), val := v } :: groupRecs (n + 1) (if k = 255 then 0 else k + 1) r

/-- Change the pool of a die. -/
def modPool (s : State) (die : Nat) (f : Pool → Pool) : State :=
  { s with wear := { s.wear with pools := sMod poolInit s.wear.pools die f } }

/-- The ledger object of a physical tile (08 R242). -/
def ledObjNo (v : Variant) (ptn : Nat) : Nat := objLedger + tixOf v ptn / 4096

/-- The rewrites of the frames of a tile that is given up wait no more. -/
def dropRewrites (s : State) (ptn : Nat) : State :=
  { s with med := { s.med with rewrites := s.med.rewrites.filter (fun x => decide (x.2.1 ≠ ptn)) } }

/-- A tile taken counts in its die's window of 1 s (18 R506). -/
def noteTaken (s : State) (ptn : Nat) : State :=
  let d := ptnDieIx ptn
  let k := now s / 1000000000
  let x := sGet (0, 0) s.zir.takes d
  let n := if x.1 = k then x.2 + 1 else 1
  { s with zir := { s.zir with takes := sSet (0, 0) s.zir.takes d (k, n), takePeak := if s.zir.takePeak < n then n else s.zir.takePeak } }

/-- What appending a record does beside the tables: a freed tile waits for its records (07 R222); a reset tile joins the pool of its
die in its wear bucket (08 R246); a taken tile's ADV and READS are zeroed (08 R245). -/
def sideVal (s : State) (jend : Nat) (v : JVal) : State :=
  match v with
  | .tileFree ptn => dropRewrites { s with wear := { s.wear with freeing := s.wear.freeing ++ [(ptn, jend)] } } ptn
  | .retire ptn => dropRewrites s ptn
  | .resetDone ptn =>
    let b := (ledAt s ptn).wear / 65536 % 16
    modPool s (ptnDieIx ptn) (fun p => { p with back := p.back ++ [(ptn, b)] })
  | .tileTake ptn _ _ =>
    { noteTaken s ptn with
      wear := { s.wear with led := sMod ledInit s.wear.led ptn (fun l => { l with reads := 0, adv := 0 }) }
      mapu := { s.mapu with dirty := sSet false s.mapu.dirty (ledObjNo s.sec.variant ptn) true } }
  | .mapSet .. | .cloneAdd .. | .cloneDel .. | .wellSet .. | .refuseSet .. | .refuseClr .. => s

/-- The side effects of a group in order. -/
def sideVals (s : State) (jend : Nat) : List JVal → State
  | [] => s
  | v :: r => sideVals (sideVal s jend v) jend r

/-- Note a record in the tables, the dirty flags and the pages' highest JSEQ (07 R206, R216). -/
def noteRec (var : Variant) (x : Tables × Store Bool × Store Nat) (r : JRec) : Tables × Store Bool × Store Nat :=
  let u := applyVal x.1 r.val
  let seqs := match r.val with
    | .mapSet ltn _ _ => sSet 0 x.2.2 (pageOf ltn) (r.seq + 1)
    | .tileTake .. | .tileFree _ | .resetDone _ | .cloneAdd .. | .cloneDel .. | .wellSet .. | .refuseSet .. | .refuseClr .. | .retire .. => x.2.2
  (u, (objsOf var x.1 u r.val).foldl (fun d o => sSet false d o true) x.2.1, seqs)

/-- Append one commit group: the tables change and the records join the tail at one instant (07 R216). -/
def jAppend (s : State) (vs : List JVal) : State :=
  if vs.isEmpty then s
  else
    let m := s.mapu
    let recs := groupRecs m.jnext 0 vs
    let n := m.jnext + vs.length
    let x := recs.foldl (noteRec s.sec.variant) (s.tabs, m.dirty, m.pageSeq)
    let s := if 1048576 ≤ n - m.durable then flagTailStall s else s
    let s := { s with
      tabs := x.1
      mapu := { m with jnext := n, tail := m.tail ++ recs, tailAt := m.tailAt ++ vs.map (fun _ => now s), dirty := x.2.1, pageSeq := x.2.2 } }
    sideVals s n vs

/-- One past the last record appended: what waits for it waits until every record below is durable. -/
def jLast (s : State) : Nat := s.mapu.jnext

/-- Whether every record below `j` is durable (07 R221). -/
def isDurable (s : State) (j : Nat) : Bool := decide (j ≤ s.mapu.durable)

/-- A record that a tile's Cistern lines wait for (07 R222): its map update, or the take of the physical tile. -/
def gates (ltn ptn : Nat) (v : JVal) : Bool :=
  match v with
  | .mapSet l _ _ => decide (l = ltn)
  | .tileTake p _ _ => decide (p = ptn)
  | .tileFree _ | .resetDone _ | .cloneAdd .. | .cloneDel .. | .wellSet .. | .refuseSet .. | .refuseClr .. | .retire _ => false

/-- One past the last record of the groups, not yet durable, that gate the lines of a tile; 0 where none is left. -/
def gateOf (s : State) (ltn ptn : Nat) : Nat :=
  ((s.mapu.lines.flatMap (·.recs) ++ s.mapu.tail).foldl (fun (a : Nat × Bool) r =>
    let hit := a.2 || gates ltn ptn r.val
    if hit && r.last then (r.seq + 1, false) else (a.1, hit)) (0, false)).1

/-- Records not yet durable (07 R223). -/
def tailCount (s : State) : Nat := s.mapu.jnext - s.mapu.durable

/-- Whether the map unit has stopped taking updates (07 R223). -/
def tailFull (s : State) : Bool := decide (1048576 ≤ tailCount s)

/-! ## Free tiles (08 R246, R247) -/

/-- Whether a tile position of a die is an anchor or sentinel tile (07 R210, 09 R297). -/
def reservedPos (k : Nat) : Bool := decide (k < 2) || decide (63 * 2 ^ 18 + 2 ≤ k ∧ k < 63 * 2 ^ 18 + 10)

/-- Tiles of a die outside the free pool for good: two anchors and eight sentinels. -/
def reservedPerDie : Nat := 10

/-- The next position that may enter the pool. -/
def skipReserved (k : Nat) : Nat :=
  if k < 2 then 2 else if 63 * 2 ^ 18 + 2 ≤ k ∧ k < 63 * 2 ^ 18 + 10 then 63 * 2 ^ 18 + 10 else k

/-- The head of bucket 0 that no one has taken yet: tiles leave the factory in ascending order (log entry 9). -/
def freshHead (s : State) (die : Nat) : Option Nat :=
  let k := skipReserved (poolAt s die).next
  if k < 2 ^ 24 then some k else none

/-- The lowest non-empty bucket of a die (08 R247). -/
def lowBucket (s : State) (die : Nat) : Option Nat :=
  match freshHead s die with
  | some _ => some 0
  | none => match (poolAt s die).back with
    | [] => none
    | x :: r => some (r.foldl (fun m y => if y.2 < m then y.2 else m) x.2)

/-- Free tiles of a die. -/
def freeCount (s : State) (die : Nat) : Nat :=
  let p := poolAt s die
  let k := p.next
  let ahead := 2 ^ 24 - k - (if k < 2 then 2 - k else 0)
    - (if k ≤ 63 * 2 ^ 18 + 2 then 8 else if k < 63 * 2 ^ 18 + 10 then 63 * 2 ^ 18 + 10 - k else 0)
  ahead + p.back.length

/-- Take the head of the lowest bucket of a die. -/
def popTile (s : State) (die : Nat) : Option (Nat × State) :=
  match freshHead s die with
  | some k =>
    some (die * 2 ^ 24 + k, modPool s die (fun p => { p with next := k + 1 }))
  | none => match lowBucket s die with
    | none => none
    | some b => match findP (fun x => x.2 = b) (poolAt s die).back with
      | none => none
      | some x => some (x.1, modPool s die (fun p => { p with back := dropFirst (fun y => y.2 = b) p.back }))

/-- The die a move takes its source from, if its previous entry names a physical tile. -/
def moveSrc (m : Move) : Option Nat :=
  match m.prev.st with
  | .mapped | .shared | .migrating | .refusing => some (ptnDieIx m.prev.ptn.toNat)
  | .unwritten | .const | .lost => none

/-- Moves in which a die takes part (08 R250). -/
def movesOf (s : State) (die : Nat) : Nat :=
  countP (fun m => ptnDieIx m.dst = die || moveSrc m = some die) s.wear.moves

/-- Whether a die may give the tile (08 R247): `src` names the source die of a move; `none` an allocation. -/
def dieOk (s : State) (isMove : Bool) (src : Option Nat) (strict : Bool) (die : Nat) : Bool :=
  (lowBucket s die).isSome && (!isMove || (decide (movesOf s die < 2) && !(strict && src = some die)))

/-- The lowest bucket over some dies. -/
def lowestOver (s : State) : List Nat → Option Nat
  | [] => none
  | d :: r => match lowBucket s d, lowestOver s r with
    | some a, some b => some (if b < a then b else a)
    | some a, none => some a
    | none, x => x

/-- The cursor's walk over the live dies (08 R247): the die chosen and the cursor after it. -/
def walkDies (s : State) (order : List Nat) (isMove : Bool) (src : Option Nat) (m : Nat) : Nat → Nat → Option (Nat × Nat)
  | 0, _ => none
  | n + 1, cur =>
    let d := nth 0 order cur
    let nxt := (cur + 1) % order.length
    if dieOk s isMove src true d && (match lowBucket s d with | some b => decide (b ≤ m + 1) | none => false) then some (d, nxt)
    else walkDies s order isMove src m n nxt

/-- The die with the lowest bucket that qualifies without the source rule, first in order (08 R247). -/
def fallbackDie (s : State) (src : Option Nat) : List Nat → Option Nat
  | [] => none
  | d :: r =>
    if dieOk s true src false d then
      match fallbackDie s src r with
      | none => some d
      | some e => match lowBucket s d, lowBucket s e with
        | some a, some b => if b < a then some e else some d
        | _, _ => some d
    else fallbackDie s src r

/-- Choose and pop a free tile (08 R247). The caller appends TILE_TAKE. -/
def takeTile (s : State) (isMove : Bool) (src : Option Nat) : Option (Nat × State) :=
  let order := liveDies s
  match lowestOver s order with
  | none => none
  | some m =>
    let cur := s.wear.cursor % order.length
    match walkDies s order isMove src m order.length cur with
    | some (d, nxt) => (popTile s d).map (fun x => (x.1, { x.2 with wear := { x.2.wear with cursor := nxt } }))
    | none => if isMove then (match fallbackDie s src order with
        | some d => popTile s d
        | none => none) else none

/-! ## Retirement (08 R260, R261) -/

/-- Retired tiles count in the retirement page and in what Zircon uses (08 R261; 18 R511). -/
def addRetired (s : State) (n : Nat) : State :=
  let s := { s with wear := { s.wear with retired := s.wear.retired + n }, zir := { s.zir with retires := s.zir.retires ++ [(s.drift.ec, n)] } }
  pgPut s pgRows 63 0 s.wear.retired

/-- Record a retirement: TILE_RETIRED, MOVE_STAT.RETIRE, the retirement page, and the count that Zircon uses. -/
def noteRetired (s : State) (ptn cause : Nat) : State :=
  flagMove (noteEv (addRetired s 1) srcMap 0x0005 ptn cause 0) 10

/-- Record the retirement of a die with its tiles (08 R260, R261: one record, cause 4). -/
def noteDieRetired (s : State) (die : Nat) : State :=
  let n := 2 ^ 24 - reservedPerDie - countP (fun x => decide (x.2 = 3) && decide (ptnDieIx x.1 = die)) s.tabs.tile
  flagMove (noteEv (addRetired s n) srcMap 0x0005 die 4 1) 10

/-- The record that vacates a physical tile: RETIRE in place of TILE_FREE for saturated wear, or as `cause` says (08 R260). -/
def vacateVal (s : State) (ptn : Nat) (cause : Option Nat) : JVal × Option Nat :=
  match cause with
  | some c => (.retire ptn, some c)
  | none => if (ledAt s ptn).wear = 0xFFFFF then (.retire ptn, some 0) else (.tileFree ptn, none)

/-- Record the retirement if the record is one. -/
def noteVacated (s : State) (ptn : Nat) (c : Option Nat) : State :=
  match c with
  | some c => noteRetired s ptn c
  | none => s

/-! ## Capacity (08 R262 to R266) -/

/-- The spare count S: tiles in state 0 or 2 of the live dies, a freed tile only once its records are durable (08 R262, R267). -/
def spareCount (s : State) : Nat :=
  (liveDies s).length * (2 ^ 24 - reservedPerDie)
    - countP (fun x => (x.2 = 1 || x.2 = 3) && dieLive s (ptnDieIx x.1)) s.tabs.tile - s.wear.freeing.length

/-- The next condition for a spare count: one transition of the table (08 R262). -/
def capNext (v : Variant) (c : Cap) (n : Nat) : Cap :=
  let p := p0 v
  let t (k : Nat) := p * k / 1000
  match c with
  | .normal => if n < t 20 then .lowSpare else .normal
  | .lowSpare => if n < t 5 then .constrained else if t 25 ≤ n then .normal else .lowSpare
  | .constrained => if t 10 ≤ n then .lowSpare else .constrained

/-- Tiles in use in a 256 MiB block. -/
def blockUse (s : State) (b : Nat) : Nat :=
  countP (fun x => decide (x.1 / 16384 = b) && (match x.2.st with
    | .mapped | .shared | .migrating | .refusing => true
    | .unwritten | .const | .lost => false)) s.tabs.map

/-- Insert a block before those with fewer tiles in use, or with as many at a lower DPA (11 R350). -/
def insBlock (x : Nat × Nat) : List (Nat × Nat) → List (Nat × Nat)
  | [] => [x]
  | y :: r => if y.2 < x.2 ∨ (y.2 = x.2 ∧ y.1 < x.1) then x :: y :: r else y :: insBlock x r

/-- The blocks of a well in the order of 11 R350. -/
def blockOrder (s : State) (w : Well) : List Nat :=
  (((List.range w.size).map (fun k => (w.base + k, blockUse s (w.base + k)))).foldl (fun l x => insBlock x l) []).map (·.1)

/-- Ask the owner ports of a well for blocks. -/
def askPorts (s : State) (i : Nat) (w : Well) (bs : List Nat) : State :=
  (List.range 4).foldl (fun s p => if w.mask.getLsbD p then dcRaise s (Fin.ofNat 4 p) 1 i bs else s) s

/-- Ask for `n` blocks: wells without PIN in descending number (11 R350). -/
def askWells (s : State) : Nat → List (Nat × Well) → State
  | _, [] => s
  | n, (i, w) :: r =>
    if n = 0 then s
    else if w.live && !w.pin then
      let bs := (blockOrder s w).take n
      askWells (askPorts s i w bs) (n - bs.length) r
    else askWells s n r

/-- The release request of 08 R266. -/
def releaseRequest (s : State) : State :=
  let need := p0 s.sec.variant * 25 / 1000 - spareCount s
  if regB s .mapctl 0 49 0 && decide (0 < need) then askWells s ((need + 16383) / 16384) s.tabs.wells.reverse else s

/-- Add a re-plan cause (18 R501). -/
def replanCause (s : State) (c : Nat) : State :=
  if s.zir.waiting.contains c then s else { s with zir := { s.zir with waiting := s.zir.waiting ++ [c] } }

/-- The tiles in REFUSING, ascending (08 R271). -/
def refusingTiles (s : State) : List Nat :=
  (s.tabs.map.filter (fun x => decide (x.2.st = .refusing))).map (·.1)

/-- One transition of the capacity condition: its record, the contained event on entry to LOW_SPARE and to CONSTRAINED, the release request on
entry to LOW_SPARE, and the moves that leaving CONSTRAINED queues (08 R263, R266, R271; 01 R26). -/
def capEnter (s : State) (c : Cap) : State :=
  let old := s.wear.cond
  let s := noteEv { s with wear := { s.wear with cond := c } } srcMap 0x0003 (capCode c) (capCode old) 0
  let s := if c = .normal then s else noteEv s srcMap 0x020A (capCode c) 0 0
  let s := if c = .lowSpare then releaseRequest s else s
  let s := if old = .constrained then
      { s with wear := { s.wear with
          queue := (refusingTiles s).map (fun l => (l, MoveCause.leaveConstrained)) ++ s.wear.queue.filter (fun x => decide (x.2 ≠ .leaveConstrained)) } }
    else s
  replanCause s 6

/-- The transitions that the spare count calls for, one after the other; at most two follow each other (08 R262). -/
def capSteps : Nat → State → State
  | 0, s => s
  | n + 1, s =>
    let c := capNext s.sec.variant s.wear.cond (spareCount s)
    if c = s.wear.cond then s else capSteps n (capEnter s c)

/-- Evaluate the capacity condition (08 R262). -/
def evalCapacity (s : State) : State := capSteps 2 s

/-- Whether a tile may be taken for a wear move, a first write or a copy-on-write (08 R264). The Drain may take one always. -/
def mayTake (s : State) : Bool := decide (s.wear.cond ≠ .constrained) || decide (s.pwr.st = .drain)

/-! ## Keys, rotation and generation of a tile (06 R193 to R200) -/

/-- A new ROT, drawn until it differs from the old one (06 R193). FREE VALUE. -/
def newRot (s : State) (old : BitVec 8) : BitVec 8 := old + 1 + BitVec.ofNat 8 ((Config.rotDraw s.freeCtr).toNat % 255)

/-- The key slot of a tile's well, and whether the tile lies below the rotation cursor. -/
def keySide (s : State) (ltn : Nat) : KeySlot × Bool :=
  match wellOfLtn s.tabs.wells ltn with
  | some (i, w) => (keyAt s w.key, decide (ltn + 1 < sGet 0 s.tabs.cursor i))
  | none => (keyInit, false)

/-- The key of a tile's frames (06 R196, R200). -/
def keyOf (s : State) (ltn : Nat) (walker : Bool) : BitVec 80 :=
  let (k, below) := keySide s ltn
  if k.rotating && (below || walker) then k.new else k.cur

/-- Whether a rotation of the well of a tile is deferred (20 R546). -/
def rotDeferred (s : State) (ltn : Nat) : Bool :=
  !s.sec.entropyOk || (match wellOfLtn s.tabs.wells ltn with
    | some (i, _) => s.keys.deferred.contains i
    | none => false)

/-- The generation a placement gives a tile (06 R198 to R200). GEN 255 stays at or above the cursor of a rotation, and where a rotation is
deferred (20 R546). -/
def nextGen (s : State) (ltn : Nat) (old : BitVec 8) (walker : Bool) : BitVec 8 :=
  let (k, below) := keySide s ltn
  if walker then 0
  else if old = 255 && ((k.rotating && !below) || (!k.rotating && rotDeferred s ltn)) then 255
  else old + 1

/-- The current EPOCH: the epoch count EC modulo 256 (07 R203; 09 R273). -/
def epochNow (s : State) : BitVec 8 := BitVec.ofNat 8 s.drift.ec

/-- The content of a key-slot page (20 R544). Keys stand unwrapped in the model's image; no read shows them (log entry 10). -/
def keyPage (s : State) (k : Nat) (san : Bool) : Page :=
  let x := keyAt s k
  BitVec.ofNat 2048 (x.cur.toNat + x.new.toNat * 2 ^ 192
    + (b2n x.rotating + b2n x.inUse * 2 + b2n x.lost * 4 + b2n san * 8) * 2 ^ 384 + s.keys.meta_.toNat * 2 ^ 512
    + s.keys.mkeyGen % 2 ^ 64 * 2 ^ 704)

/-- Whether a key-slot page holds SAN_RUN = 1. -/
def sanRun (s : State) (k : Nat) : Bool := (pageAt s (pgKeys + k)).getLsbD 387

/-- Write a key slot and its page. -/
def setKey (s : State) (k : Nat) (x : KeySlot) : State :=
  let san := sanRun s k
  let s := { s with keys := { s.keys with slots := sSet keyInit s.keys.slots k x } }
  setPage s (pgKeys + k) (keyPage s k san)

/-- Store the page of a key slot. -/
def storeKey (s : State) (k : Nat) : State := startStore s 6 [(pgKeys + k, pgKeys + k)] false

/-- Start the rotation of a well's key slot (06 R199 step 1). A second one does not start (R200). -/
def startRotation (s : State) (i : Nat) (w : Well) : State :=
  let x := keyAt s w.key
  if x.rotating then s
  else
    let s := setKey s w.key { x with rotating := true, new := Config.keyDraw s.freeCtr }
    let s := { bump s with tabs := { s.tabs with cursor := sSet 0 s.tabs.cursor i (w.base * 16384 + 1) } }
    storeKey s w.key

/-- What follows the placement of a tile at GEN 255: an automatic rotation, or its deferral (06 R198, 20 R546). -/
def afterPlacement (s : State) (ltn : Nat) (gen : BitVec 8) : State :=
  match wellOfLtn s.tabs.wells ltn with
  | some (i, w) =>
    if gen = 255 && !(keyAt s w.key).rotating then
      if s.sec.entropyOk then startRotation s i w
      else { s with keys := { s.keys with deferred := if s.keys.deferred.contains i then s.keys.deferred else s.keys.deferred ++ [i] } }
    else s
  | none => s

/-- The last LTN of a well, plus 1. -/
def wellEnd (w : Well) : Nat := (w.base + w.size) * 16384

/-- The next tile a rotation walker must move, at or above the cursor: MAPPED and SHARED tiles hold frames (06 R199), and a tile that a move is
giving frames will. -/
def walkerNext (s : State) (i : Nat) (w : Well) : Option Nat :=
  let cur := sGet 0 s.tabs.cursor i - 1
  (findP (fun x => decide (cur ≤ x.1 ∧ x.1 < wellEnd w) && (match x.2.st with
    | .mapped | .shared | .migrating | .refusing => true
    | .unwritten | .const | .lost => s.wear.moves.any (fun m => decide (m.ltn = x.1)))) s.tabs.map).map (·.1)

/-- The end of a rotation: KEY_NEW becomes KEY_CUR and the old key is erased (06 R199 step 4). -/
def endRotation (s : State) (i : Nat) (w : Well) : State :=
  let x := keyAt s w.key
  if x.rotating && (walkerNext s i w).isNone then
    let s := setKey s w.key { x with rotating := false, cur := x.new, new := 0 }
    let s := { s with tabs := { s.tabs with cursor := sSet 0 s.tabs.cursor i 0 } }
    let s := noteEv s srcSec 0x000A i w.key 0
    storeKey s w.key
  else s

/-- Every rotation whose walker has no tile left ends. -/
def endRotations (s : State) : State := s.tabs.wells.foldl (fun s x => endRotation s x.1 x.2) s

end Sys2Proof.Machine
end

