-- ==== Sys2Proof/Machine/Count.lean ====
section
/-! DEFINITION. Quartz counters and their filter sets (15 R445 to R448). -/

namespace Sys2Proof.Machine

/-- The attributes an event carries (15 R447); `none` for one it does not carry. -/
structure Attr where
  /-- bit of PORTS: 0 to 3 a local port, 4 to 7 work from the peer -/
  port : Option Nat
  /-- bit of PRIV: 0 host data, 1 host admin, 2 sideband, 3 internal -/
  priv : Option Nat
  ltn : Option Nat
  /-- bit of CLASS: 0 read, 1 write, 2 partial, 3 admin, 4 migration, 5 refresh, 6 scrub, 7 mirror, 8 drain -/
  cls : Option Nat
deriving DecidableEq, Repr

/-- An event with no attribute. -/
def attrNone : Attr := { port := none, priv := none, ltn := none, cls := none }
/-- Work of a local port on a tile. -/
def attrHost (p ltn cls : Nat) : Attr := { port := some p, priv := some 0, ltn := some ltn, cls := some cls }
/-- Internal work of a class on a tile. -/
def attrInt (ltn cls : Nat) : Attr := { port := none, priv := some 3, ltn := some ltn, cls := some cls }

/-- Reset content of the four registers of a filter set: FS_MASK, FS_CLASS, FS_LO, FS_HI (15 R455). -/
def fsDefault (k : Nat) : RegCell :=
  cellOf (if k % 4 = 0 then 0xFFF else if k % 4 = 1 then 0x1FF else if k % 4 = 2 then 0 else 0xFFFFF)

/-- Register k of filter set n, numbered from 0. -/
def fsAt (s : State) (n k : Nat) : RegCell := sGet (fsDefault k) s.qz.fs (n * 4 + k)

/-- Whether an attribute's bit is set in a mask; a missing attribute matches. -/
def attrBit (m : Nat) (lo : Nat) (a : Option Nat) : Bool :=
  match a with
  | some i => bitOf m (lo + i)
  | none => true

/-- Whether an event matches filter set n, numbered from 0 (15 R447). -/
def fsMatch (s : State) (n : Nat) (a : Attr) : Bool :=
  let m := (fsAt s n 0).act.toNat
  let c := (fsAt s n 1).act.toNat
  let lo := (fsAt s n 2).act.toNat
  let hi := (fsAt s n 3).act.toNat
  attrBit m 0 a.port && attrBit m 8 a.priv && attrBit c 0 a.cls
    && (!bitOf m 12 || (match a.ltn with
      | some l => decide (lo ≤ pageOf l ∧ pageOf l ≤ hi)
      | none => false))

/-- Whether counter `ix` counts the event (15 R447, R448); the T_ counters ignore filters. -/
def counts (s : State) (ix : Nat) (a : Attr) : Bool :=
  let f := (sGet (0, 0) s.qz.fset ix).1
  f = 0 || (decide (84 ≤ ix) && decide (ix ≤ 86)) || fsMatch s (f - 1) a

/-- Add to a 40-bit counter; passing the top wraps it and sets OVF (15 R446). -/
def addCtr (s : State) (ix n : Nat) : State :=
  let v := sGet 0 s.qz.ctr ix + n
  let s := { s with qz := { s.qz with ctr := sSet 0 s.qz.ctr ix (v % 2 ^ 40) } }
  if 2 ^ 40 ≤ v then flagQuartzOvf { s with qz := { s.qz with ovf := sSet false s.qz.ovf ix true } } else s

/-- Count an event. -/
def count (s : State) (ix : Nat) (a : Attr) : State := if counts s ix a then addCtr s ix 1 else s

/-- Count an event of a port (15 R445). -/
def countPort (s : State) (p e : Nat) (a : Attr) : State := count s (12 * p + e) a

/-- Add one to a histogram bin, which wraps as a counter does (03 R101, 15 R446). -/
def addBin (s : State) (k : Nat) : State :=
  let v := sGet 0 s.qz.hist k + 1
  let s := { s with qz := { s.qz with hist := sSet 0 s.qz.hist k (v % 2 ^ 40) } }
  if 2 ^ 40 ≤ v then flagQuartzOvf { s with qz := { s.qz with histOvf := sSet false s.qz.histOvf k true } } else s

end Sys2Proof.Machine
end

