-- ==== Sys2Proof/Machine/Stop.lean ====
section
/-! DEFINITION. What the Pump limits: the charges and quotas of dies (04 R115, R119, R123; 08 R253), write credits (04 R130 to R132), the
credit stop (04 R124), and the Cistern's index with its releases (04 R112 to R114, R117, R132). -/

namespace Sys2Proof.Machine

/-! ## Charges and quotas (04 R115, R119, R123; 08 R253) -/

/-- The Cistern charge of a die: its slots, and the held entries of moves whose source it is. -/
def chargeOf (s : State) (die : Nat) : Nat :=
  countP (fun e => !e.direct && (decide (ptnDieIx e.ptn.toNat = die) || decide (e.also = some die))) s.cist.ents

/-- The quota of a die in force. -/
def quotaOf (s : State) (die : Nat) : Nat := sGet 163840 s.cist.quota die

/-- Whether a die has Cistern room. -/
def hasRoom (s : State) (die : Nat) : Bool := decide (chargeOf s die < quotaOf s die)

/-- PUMP_STAT.QUOTA_FULL is set where a die of the list has reached its quota (04 R139). -/
def flagFull (s : State) (dies : List Nat) : State := if dies.any (fun d => !hasRoom s d) then flagPump s 2 else s

/-- Whether a way is evictable, its line's lock being free (04 R123). -/
def evictable (s : State) (w : WayT) : Bool := !w.v || !dirtyW w || (w.dk && hasRoom s w.die)

/-- Dirty cache lines of a die (04 R124). -/
def dirtyOf (s : State) (die : Nat) : Nat := countP (fun x => x.2.v && dirtyW x.2 && x.2.dk && decide (x.2.die = die)) s.cache.ways

/-- RWD_SUM (04 R124). -/
def rwdSum (s : State) : Nat := sumOf (fun p => regF s .port p 25 3 0) (List.range 4)

/-- The pair roles in which writes are mirrored. -/
def mirroring (s : State) : Bool :=
  match s.pair.role with
  | .paired | .resync => true
  | .unpaired | .joining | .solo | .fenced => false

/-- The headroom H (04 R124). -/
def headroom (s : State) : Nat := if mirroring s then 128 * rwdSum s + 2048 else 64 * rwdSum s

/-- The stop level: the effective dirty limit less H, at least 1024 (04 R124). -/
def stopLevel (s : State) : Nat := if s.cist.dirtyLim < headroom s + 1024 then 1024 else s.cist.dirtyLim - headroom s

/-! ## Credits (04 R130 to R132) -/

/-- Return a write credit to a port, unless the stop of R124 or pacing withholds it. -/
def returnCredit (s : State) (p : Nat) : State :=
  let c := s.cist
  if c.creditStop || (c.pacing && decide (sGet 0 c.budget p = 0)) then { s with cist := { c with owed := sMod 0 c.owed p (· + 1) } }
  else
    modPort { s with cist := { c with budget := if c.pacing then sMod 0 c.budget p (· - 1) else c.budget } } p
      (fun x => { x with wrOut := x.wrOut - 1 })

/-- Return up to `m` withheld credits of a port. -/
def payPort (s : State) (p m : Nat) : State :=
  let n := if m < sGet 0 s.cist.owed p then m else sGet 0 s.cist.owed p
  modPort { s with cist := { s.cist with owed := sMod 0 s.cist.owed p (· - n) } } p (fun x => { x with wrOut := x.wrOut - n })

/-- Return every withheld credit. -/
def payAll (s : State) : State := (List.range 4).foldl (fun s p => payPort s p (sGet 0 s.cist.owed p)) s

/-- Credit return resumes: withheld write credits, unless pacing still limits them, and withheld MIR credits (04 R124). -/
def resumeCredits (s : State) : State :=
  let s := if s.cist.pacing then s else payAll s
  if s.pair.linkUp && decide (0 < s.pair.owedMir) then
    let n := s.pair.owedMir
    emit { s with pair := { s.pair with owedMir := 0 } } (.cret n 0 0)
  else s

/-! ## The quotas of a plan (04 R119, R120) -/

/-- DIRTY_LIM in lines. -/
def planDirty (s : State) : Nat :=
  let a := 1024 * regF s .mapctl 0 34 12 8
  let b := 128 * rwdSum s + 3072
  if a < b then b else a

/-- Lines a die may hold by energy, less the dirty limit, in units of 4096 rounded down; none before the first bank test has measured e_meas
(log entry 25). -/
def energyUnits (s : State) (dirty : Nat) : Option Int :=
  let live : Int := ((liveDies s).length : Int)
  if s.zir.bankE0 = 0 then none
  else some ((((s.zir.bankE : Int) - 1150) * 100000000 - (dirty : Int) * 20700 * live) / (20700 * live * 4096))

/-- Zircon reports the bank as failed: BANK_LOW (04 R120; 18 R510). -/
def failBank (s : State) : State := noteEv { s with pwr := { s.pwr with bankFailed := true } } srcZircon 0x020D 0 0 0

/-- q_energy has fallen below 4096: the bank is reported failed unless it is so already (04 R120; log entry 95). -/
def lowEnergy (s : State) (dirty : Nat) : State :=
  match energyUnits s dirty with
  | some e => if e < 1 ∧ s.pwr.bankFailed = false then failBank s else s
  | none => s

/-- Lines by time, in units of 4096. -/
def timeUnits (t dirty : Nat) : Int := ((292000000 : Int) - (dirty : Int) * (t : Int)) / ((t : Int) * 4096)

/-- The quota of a die whose program time is `t` (R119, R120). -/
def quotaFor (s : State) (dirty t : Nat) : Nat :=
  let q := timeUnits t dirty
  let q := match energyUnits s dirty with
    | some e => if e < q then e else q
    | none => q
  let cap : Int := (regF s .mapctl 0 34 7 0 : Int)
  let q := if cap < q then cap else q
  if q < 1 then 4096 else q.toNat * 4096

/-! ## The credit stop (04 R124) -/

/-- Compare every die's dirty count with the stop level (04 R124). -/
def evalStop (s : State) : State :=
  let lv := stopLevel s
  let stop := s.cache.ways.any (fun x => x.2.v && dirtyW x.2 && x.2.dk && decide (lv ≤ dirtyOf s x.2.die))
  if stop && !s.cist.creditStop then count (flagPump { s with cist := { s.cist with creditStop := true } } 1) 91 attrNone
  else if !stop && s.cist.creditStop then resumeCredits { s with cist := { s.cist with creditStop := false } }
  else s

/-! ## The Cistern's index (04 R112 to R114) -/

/-- A presence-filter counter rises to 15 and stays (04 R113). -/
def filterUp (m : Store Nat) (dln : Nat) : Store Nat := sMod 0 m (filterIx dln) (fun x => if x < 15 then x + 1 else 15)

/-- A counter falls on release, unless it is at 15 (04 R113). -/
def filterDown (m : Store Nat) (dln : Nat) : Store Nat := sMod 0 m (filterIx dln) (fun x => if x = 15 then 15 else x - 1)

/-- The end of a bucket chain (04 R112). -/
def chainEnd : Nat := 0x1FFFFFF

/-- The lowest slot of the slot array that holds no entry (log entry 76). -/
def freeIdx (es : List Cis) : Nat :=
  (findP (fun i => !es.any (fun e => !e.direct && decide (e.idx = i))) (List.range (es.length + 1))).getD es.length

/-- A new entry joins the head of its bucket's chain and the end of the order of entering (04 R112, R116). -/
def linkCis (c : Cist) (e : Cis) : Cist :=
  if e.direct then { c with ents := c.ents ++ [{ e with next := chainEnd }], nextSlot := c.nextSlot + 1 }
  else
    let b := bucketOf e.dln
    let h := sGet 0 c.heads b
    { c with
      ents := c.ents ++ [{ e with next := if h = 0 then chainEnd else h - 1 }]
      nextSlot := c.nextSlot + 1
      heads := sSet 0 c.heads b (e.idx + 1)
      filter := filterUp c.filter e.dln }

/-- An entry leaves the index: its predecessor, or the head, takes its NEXT; the filter's counter falls (04 R112 to R114). -/
def unlinkCis (c : Cist) (e : Cis) : Cist :=
  let rest := dropFirst (fun x => decide (x.slot = e.slot)) c.ents
  if e.direct then { c with ents := rest }
  else
    let b := bucketOf e.dln
    { c with
      ents := rest.map (fun x => if !x.direct && decide (bucketOf x.dln = b) && decide (x.next = e.idx) then { x with next := e.next } else x)
      heads := if sGet 0 c.heads b = e.idx + 1 then sSet 0 c.heads b (if e.next = chainEnd then 0 else e.next + 1) else c.heads
      filter := filterDown c.filter e.dln }

/-- A line counts among those that the Drain has programmed (16 R477). -/
def countLeft (s : State) : State :=
  { s with pwr := { s.pwr with drain := s.pwr.drain.map (fun d => { d with lines := d.lines + 1 }) } }

/-- A Cistern slot is released (04 R113, R114); the line counts among those that left in the epoch (R132). -/
def freeSlot (s : State) (slot : Nat) : State :=
  match findP (fun e => decide (e.slot = slot)) s.cist.ents with
  | some e => let c := unlinkCis s.cist e
    { s with cist := { c with left := c.left + 1 } }
  | none => s

/-- Every entry that satisfies `p` is released (04 R117). -/
def freeSlots (s : State) (p : Cis → Bool) : State := (s.cist.ents.filter p).foldl (fun s e => freeSlot s e.slot) s

/-- Change the entry of a slot. -/
def modSlot (s : State) (slot : Nat) (f : Cis → Cis) : State :=
  { s with cist := { s.cist with ents := modFirst (fun x => decide (x.slot = slot)) f s.cist.ents } }

end Sys2Proof.Machine
end

