-- ==== Sys2Proof/Machine/MoveOps.lean ====
section
/-! DEFINITION. Moves of tiles as shared operations: where a line of a tile goes (07 R234, 08 R253), starting, committing and
abandoning a move (08 R250 to R257, R260; 07 R233, R237 to R239), and discarding a tile's lines (02 R67, 04 R117). -/

namespace Sys2Proof.Machine

/-! ## Lines of a tile -/

/-- Change every way that holds a line. -/
def mapWays (s : State) (f : WayT → WayT) : State :=
  { s with cache := { s.cache with ways := sMap (fun _ => wayInit) f s.cache.ways } }

/-- Change every Cistern entry. -/
def mapCis (s : State) (f : Cis → Cis) : State := { s with cist := { s.cist with ents := s.cist.ents.map f } }

/-- Whether a move is that of a shared physical tile, which moves every sharer (07 R239). -/
def sharedMove (m : Move) : Bool := decide (m.kind = .move) && decide (m.prev.st = .shared)

/-- The move of a tile: its own record, or that of the physical tile it shares. -/
def moveOf (s : State) (ltn : Nat) : Option Move :=
  let e := entryAt s ltn
  findP (fun m => decide (m.ltn = ltn) || (sharedMove m && decide (e.st = .shared) && decide (e.ptn = m.prev.ptn))) s.wear.moves

/-- The move that carries a tile's lines. That of a shared physical tile carries none: what a sharer writes is its own, and waits for a
copy-on-write (07 R237). -/
def carrierOf (s : State) (ltn : Nat) : Option Move := findP (fun m => decide (m.ltn = ltn) && !sharedMove m) s.wear.moves

/-- Change the move record that a tile's own cause made. -/
def modMove (s : State) (ltn : Nat) (f : Move → Move) : State :=
  { s with wear := { s.wear with moves := modFirst (fun m => decide (m.ltn = ltn)) f s.wear.moves } }

/-- Remove that record. -/
def dropMove (s : State) (ltn : Nat) : State :=
  { s with wear := { s.wear with moves := dropFirst (fun m => decide (m.ltn = ltn)) s.wear.moves } }

/-- Re-tag the dirty cache lines of a tile with a die (08 R253). -/
def retagDirty (s : State) (ltn die : Nat) : State :=
  mapWays s (fun w => if w.v && dirtyW w && ltnOf w.dln = ltn then { w with dk := true, die := die } else w)

/-- Retarget the waiting Cistern entries of a tile (08 R253). -/
def retargetCis (s : State) (ltn : Nat) (ptn : BitVec 32) (rot gen : BitVec 8) (held : Bool) (also : Option Nat) (waitJ : Nat) : State :=
  mapCis s (fun e =>
    if ltnOf e.dln = ltn && !e.prog && !e.super then
      { e with ptn := ptn, fslot := fslotOf (lineOf e.dln) rot, gen := gen, held := held, also := also, waitJ := waitJ, failed := false }
    else e)

/-- Put a waiting write among those of its kind in arrival order (04 R134). -/
def insWait (w : WaitW) : List WaitW → List WaitW
  | [] => [w]
  | x :: r => if w.ord < x.ord then w :: x :: r else x :: insWait w r

/-- A write waits in its slice's admission queue, at its place in arrival order (04 R109, R134). -/
def parkWrite (s : State) (w : WaitW) : State := { s with cist := { s.cist with waits := insWait w s.cist.waits } }

/-- Whether a write is the rewrite of a line with the peer's copy (02 R72). -/
def isRepair (w : WaitW) : Bool :=
  match w.org with
  | .repair _ => true
  | .host .. | .peer .. | .mirror .. | .silent | .internal => false

/-- Whether what waits for a lock is such a rewrite. -/
def repairWaits (w : Waiter) : Bool :=
  match w with
  | .partialWr x => isRepair x
  | .host _ | .peerRd .. => false

/-- Change what waits for the locks of lines: fills, prefetches and maintenance (05 R148). -/
def mapWaiters (s : State) (f : Nat → List Waiter → List Waiter) : State :=
  { s with
    cache := { s.cache with locks := s.cache.locks.map (fun l => { l with waiters := f l.dln l.waiters }) }
    med := { s.med with senses := s.med.senses.map (fun x => { x with waiters := f x.dln x.waiters }) } }

/-- Lines are written or replaced: a repair of them under way is void, and a rewrite that waits is dropped (02 R72). -/
def voidRepairs (s : State) (p : Nat → Bool) : State :=
  mapWaiters { s with
    pair := { s.pair with repairs := s.pair.repairs.map (fun x => if p x.2.1 then (x.1, x.2.1, true) else x) }
    cist := { s.cist with waits := s.cist.waits.filter (fun w => !(p w.dln && isRepair w)) } }
    (fun dln ws => if p dln then ws.filter (fun w => !repairWaits w) else ws)

/-- The writes among those who wait for a lock, and the readers. -/
def writersOf (ws : List Waiter) : List WaitW :=
  ws.filterMap (fun w => match w with
    | .partialWr x => some x
    | .host _ | .peerRd .. => none)

def readersOf (ws : List Waiter) : List Waiter :=
  ws.filter (fun w => match w with
    | .partialWr _ => false
    | .host _ | .peerRd .. => true)

/-- A sense of a tile that was resolved before this instant answers those who read before it, and nothing else (02 R67; 03 R92): it gives up
its lock, and the writes that waited for it start anew. -/
def staleSenses (s : State) (ltn : Nat) : State :=
  let hit (x : Sense) : Bool := decide (ltnOf x.dln = ltn) && !x.waitPage && !x.stale
  let ws := (s.med.senses.filter hit).flatMap (fun x => writersOf x.waiters)
  ws.foldl parkWrite { s with med := { s.med with
    senses := s.med.senses.map (fun x => if hit x then { x with stale := true, waiters := readersOf x.waiters } else x) } }

/-- Discard a tile's lines: cached lines are invalidated, waiting Cistern entries released, an entry in program finishes for nothing, a
sense in progress is not installed, and what a write that waits has read of its line is forgotten (02 R67, 04 R117). -/
def discardLines (s : State) (ltn : Nat) : State :=
  let s := mapWays s (fun w => if w.v && ltnOf w.dln = ltn then wayInit else w)
  let s := freeSlots s (fun e => decide (ltnOf e.dln = ltn) && !e.prog)
  let s := mapCis s (fun e => if ltnOf e.dln = ltn then { e with super := true } else e)
  let s := staleSenses (voidRepairs s (fun d => decide (ltnOf d = ltn))) ltn
  evalStop { s with cist := { s.cist with waits := s.cist.waits.map (fun w => if ltnOf w.dln = ltn then { w with fill := none } else w) } }

/-! ## Starting a move -/

/-- Whether a move of the tile's own may start beside those under way: a copy-on-write of a shared tile and the move of that tile exclude
each other (08 R250). -/
def mayMove (s : State) (ltn : Nat) (e : MapEntry) : Bool :=
  (moveOf s ltn).isNone && !(decide (e.st = .shared) && s.wear.moves.any (fun m => sharedMove m && decide (m.prev.ptn = e.ptn)))

/-- Whether the source die of an entry may take part in one more move (08 R250). -/
def srcReady (s : State) (e : MapEntry) : Bool :=
  match e.st with
  | .mapped | .shared | .refusing => decide (movesOf s (ptnDieIx e.ptn.toNat) < 2)
  | .unwritten | .const | .lost | .migrating => true

/-- Whether a copy-on-write of a physical tile is under way: its shared tile does not move meanwhile. -/
def copiedFrom (s : State) (e : MapEntry) : Bool :=
  s.wear.moves.any (fun m => decide (m.kind = .cow) && decide (m.prev.ptn = e.ptn))

/-- Take a destination and create the move record; the lines of the tile are carried (08 R251, R253; 07 R233, R234). None where no
destination can be taken. `past`: a refresh past deadline. -/
def beginMove (s : State) (ltn : Nat) (kind : MoveKind) (cause : MoveCause) (walker past : Bool) : Option State :=
  let e := entryAt s ltn
  let src : Option Nat := match kind with
    | .materialise => none
    | .move | .cow => some (ptnDieIx e.ptn.toNat)
  if !srcReady s e || !mayMove s ltn e || (decide (kind = .move) && decide (e.st = .shared) && copiedFrom s e) then none
  else match takeTile s true src with
    | none => none
    | some (dst, s) =>
      let s := jAppend s [.tileTake dst 1 0]
      let gen := nextGen s ltn e.gen walker
      let m : Move :=
        { ltn := ltn, kind := kind, cause := cause, prev := e, dst := dst, rot := newRot s e.rot, gen := gen,
          takeJ := jLast s, copied := 0, asked := [], got := [], commitJ := none, failed := false, walker := walker, past := past }
      let s := { bump s with wear := { s.wear with
        moves := s.wear.moves ++ [m], restart := s.wear.restart.filter (fun x => !(decide (x.1 = ltn) && decide (x.2.1 = kind))) } }
      let s := if kind = .move && (e.st = .mapped || e.st = .refusing) then
          { s with tabs := { s.tabs with map := sSet entryInit s.tabs.map ltn { e with st := .migrating } } } else s
      if sharedMove m then some s
      else
        let s := retagDirty (retargetCis s ltn (BitVec.ofNat 32 dst) m.rot m.gen true src 0) ltn (ptnDieIx dst)
        some (evalStop (flagFull s (ptnDieIx dst :: src.toList)))

/-! ## Commit -/

/-- The refused lines of a tile. -/
def refusedOf (s : State) (ltn : Nat) : List Nat := (s.tabs.refused.map (fun x => x.2 - 1)).filter (fun d => decide (ltnOf d = ltn))

/-- The retirement cause with which a move vacates its source (08 R260). -/
def srcCause (s : State) (m : Move) : Option Nat :=
  match m.cause with
  | .failedProgram => some 1
  | .wear | .readCount | .age | .keyRotation | .saturated | .leaveConstrained =>
    if (ledAt s m.prev.ptn.toNat).wear = 0xFFFFF then some 0 else none

/-- The commit group of a move (08 R251; 07 R233, R237, R239), with the retirement it makes, if any: tile and cause. -/
def commitVals (s : State) (m : Move) : List JVal × Option (Nat × Nat) :=
  let e : MapEntry := { st := .mapped, ptn := BitVec.ofNat 32 m.dst, rot := m.rot, epoch := epochNow s, gen := m.gen }
  let src := m.prev.ptn.toNat
  let free : List JVal × Option (Nat × Nat) := match srcCause s m with
    | some c => ([.retire src], some (src, c))
    | none => ([.tileFree src], none)
  match m.kind with
  | .materialise => ([.mapSet m.ltn e m.walker], none)
  | .cow =>
    let last := (sharersAt s.tabs src).all (fun l => l = m.ltn)
    if last then ([.mapSet m.ltn e m.walker, .cloneDel m.ltn src] ++ free.1, free.2)
    else ([.mapSet m.ltn e m.walker, .cloneDel m.ltn src], none)
  | .move =>
    if sharedMove m then
      ((sharersAt s.tabs src).flatMap (fun l => [.mapSet l { e with st := .shared } (m.walker && l = m.ltn), .cloneDel l src, .cloneAdd l m.dst])
        ++ free.1, free.2)
    else ([.mapSet m.ltn e m.walker] ++ (refusedOf s m.ltn).map (fun d => .refuseClr d) ++ free.1, free.2)

/-- Append the commit group of a move; its held lines wait for the group to be durable (08 R251, 07 R234). -/
def commitMove (s : State) (m : Move) : State :=
  let (vals, ret) := commitVals s m
  let s := jAppend s vals
  let j := jLast s
  let s := mapCis s (fun e => if ltnOf e.dln = m.ltn && e.held then { e with held := false, also := none, waitJ := j } else e)
  let s := modMove s m.ltn (fun m => { m with commitJ := some j })
  let s := match ret with
    | some (p, c) => noteRetired s p c
    | none => s
  afterPlacement (count s 92 (attrInt m.ltn 4)) m.ltn m.gen

/-- Whether every frame of the destination is treated and no line is still asked of the peer. -/
def copyDone (m : Move) : Bool := m.copied.toNat == 2 ^ 256 - 1 && m.asked.isEmpty && !m.failed

/-! ## Abandoning a move -/

/-- Queue a move for a cause, unless it is queued for it, or a move of the tile is in progress: the cause is evaluated again when that ends
(08 R249, R250). A failed program goes before those waiting. -/
def queueMove (s : State) (ltn : Nat) (cause : MoveCause) : State :=
  if s.wear.queue.contains (ltn, cause) || (moveOf s ltn).isSome then s
  else { s with wear := { s.wear with
    queue := if cause = .failedProgram then (ltn, cause) :: s.wear.queue else s.wear.queue ++ [(ltn, cause)] } }

/-- Abandon a move (08 R256): the lines it holds go back to the source, the caller discarding those of a tile that is destroyed, unmapped
or replaced, and the destination is freed, or retired where one of its frames failed. -/
def abandonMove (s : State) (m : Move) : State :=
  let s := if m.kind = .move && !sharedMove m then
      retagDirty (retargetCis s m.ltn m.prev.ptn m.prev.rot m.prev.gen false none (gateOf s m.ltn m.prev.ptn.toNat)) m.ltn (ptnDieIx m.prev.ptn.toNat)
    else s
  let s := if m.failed then noteRetired (jAppend s [.retire m.dst]) m.dst 2
    else
      let (v, c) := vacateVal s m.dst none
      noteVacated (jAppend s [v]) m.dst c
  let s := if (entryAt s m.ltn).st = .migrating then
      { s with tabs := { s.tabs with map := sSet entryInit s.tabs.map m.ltn { entryAt s m.ltn with st := m.prev.st } } } else s
  evalStop (count (flagMove (dropMove s m.ltn) 11) 93 (attrInt m.ltn 4))

/-- Whether a move may take a tile in the present condition: refresh and failed-program moves always; wear moves, the walker, first writes and
copy-on-write not in CONSTRAINED; the Drain's own always (08 R264). -/
def causeTakes (s : State) (k : MoveKind) (c : MoveCause) : Bool :=
  match k, c with
  | .move, .readCount | .move, .age | .move, .failedProgram => true
  | .move, .wear | .move, .keyRotation | .move, .saturated | .move, .leaveConstrained | .materialise, _ | .cow, _ => mayTake s

/-- A destination frame failed: the move is abandoned and starts again with a new destination, at once or when one can be taken (08 R250,
R256). -/
def restartMove (s : State) (m : Move) : State :=
  let s := abandonMove s { m with failed := true }
  match (if causeTakes s m.kind m.cause then beginMove s m.ltn m.kind m.cause m.walker m.past else none) with
  | some s => s
  | none => { s with wear := { s.wear with restart := s.wear.restart ++ [(m.ltn, m.kind, m.cause, m.walker, m.past)] } }

/-- A tile leaves the queues of causes. -/
def dequeue (s : State) (ltn : Nat) : State :=
  { s with
    wear := { s.wear with queue := s.wear.queue.filter (fun x => decide (x.1 ≠ ltn)) }
    drift := { s.drift with refq := s.drift.refq.filter (fun x => decide (x.1 ≠ ltn)) } }

/-- A tile leaves every queue of moves. -/
def unqueue (s : State) (ltn : Nat) : State :=
  dequeue { s with wear := { s.wear with restart := s.wear.restart.filter (fun x => decide (x.1 ≠ ltn)) } } ltn

/-- A tile is destroyed, unmapped or replaced: its move is abandoned and not started again (08 R255, R256). The move of a physical tile that
other tiles share goes on for those, its cause being theirs. -/
def killMove (s : State) (ltn : Nat) : State :=
  let s := unqueue s ltn
  match findP (fun m => decide (m.ltn = ltn)) s.wear.moves with
  | some m => match m.commitJ with
    | none =>
      let s := abandonMove s m
      match (sharersAt s.tabs m.prev.ptn.toNat).filter (fun l => decide (l ≠ ltn)) with
      | l :: _ => if sharedMove m then queueMove s l m.cause else s
      | [] => s
    | some _ => dropMove s ltn
  | none => s

/-! ## Lines asked of the peer (08 R254; 10 R338) -/

/-- The content of a line of a move is known: its destination frame waits for its program; where a held Cistern entry has appeared, the copier
programs nothing for it. -/
def gotLine (s : State) (ltn line : Nat) (d : Line) (p : Bool) (pc : BitVec 2) : State :=
  let held := s.cist.ents.any (fun e => decide (e.dln = ltn * 256 + line) && e.held)
  modMove s ltn (fun m =>
    let m := { m with asked := m.asked.filter (fun x => decide (x ≠ line)) }
    if held then { m with copied := m.copied ||| BitVec.ofNat 256 (2 ^ line) } else { m with got := m.got ++ [(line, d, p, pc)] })

/-- The role leaves PAIRED: every line whose copy was asked of the peer is programmed as poison. -/
def poisonAsked (s : State) : State :=
  s.wear.moves.foldl (fun s m => m.asked.foldl (fun s l => gotLine s m.ltn l 0 true 1) s) s

/-- At the start of the Drain, moves whose commit group is appended and moves of kind materialise or copy-on-write go on; every
other is abandoned, and the Drain programs its lines into the source (08 R257). -/
def drainMoves (s : State) : List Move → State
  | [] => s
  | m :: r => match m.kind, m.commitJ with
    | .move, none => drainMoves (abandonMove s m) r
    | _, _ => drainMoves s r

/-! ## Unmapping -/

/-- The records that give up a tile's storage (02 R40, 07 R232, 08 R267), with the retirement they make, if any. -/
def releaseVals (s : State) (ltn : Nat) : List JVal × Option (Nat × Nat) :=
  let e := entryAt s ltn
  let p := e.ptn.toNat
  let free := vacateVal s p none
  let r := (free.2).map (fun c => (p, c))
  match e.st with
  | .mapped | .refusing | .migrating => ([free.1], r)
  | .shared =>
    if (sharersAt s.tabs p).all (fun l => l = ltn) then ([.cloneDel ltn p, free.1], r) else ([.cloneDel ltn p], none)
  | .unwritten | .const | .lost => ([], none)

/-- Replace a tile's entry by one that holds no frames, in one commit group: the map record, the storage given up, the refused lines cleared
(07 R232). The tile's lines are discarded and its move abandoned. -/
def replaceTile (s : State) (ltn : Nat) (st : TileSt) (pattern : BitVec 32) : State :=
  let s := killMove s ltn
  let old := entryAt s ltn
  let (vs, ret) := releaseVals s ltn
  let e : MapEntry := { st := st, ptn := pattern, rot := 0, epoch := 0, gen := old.gen }
  let s := jAppend s ([.mapSet ltn e false] ++ vs ++ (refusedOf s ltn).map (fun d => .refuseClr d))
  let s := match ret with
    | some (p, c) => noteRetired s p c
    | none => s
  evalCapacity (discardLines s ltn)

end Sys2Proof.Machine
end

