-- ==== Sys2Proof/Machine/PairOps.lean ====
section
/-! DEFINITION. The pair as shared operations: the pairing page and the open list (10 R327, R328), the ports on entering and leaving
FENCED and JOINING (10 R326), the PROMOTE_NOTE (10 R321), and who is home (10 R302). -/

namespace Sys2Proof.Machine

/-! ## Pairing page 0 (10 R327) -/

def pairPeer (s : State) : Nat := pgGet s pgPairing 127 0
def pairEpoch (s : State) : Nat := pgGet s pgPairing 167 128
def pairCommon (s : State) : Nat := pgGet s pgPairing 207 168
def pairSolo (s : State) : Bool := (pageAt s pgPairing).getLsbD 208
def pairOpenValid (s : State) : Bool := (pageAt s pgPairing).getLsbD 209
def pairBitmapLost (s : State) : Bool := (pageAt s pgPairing).getLsbD 210
def pairOpenCount (s : State) : Nat := pgGet s pgPairing 222 211
/-- Whether a pair identity is stored. -/
def hasIdentity (s : State) : Bool := decide (pairPeer s ≠ 0)

/-- Store the pairing pages, first in the queue or in turn (10 R324, R328). -/
def storePairing (s : State) (ahead : Bool) : State := startStore s 4 [(pgPairing, pgPairing + 63)] ahead

/-- Write entries `i` on of an open list into pages 1 to 32, 64 entries a page (10 R327). -/
def putOpenList (s : State) : Nat → List Nat → State
  | _, [] => s
  | i, l :: r => putOpenList (pgPut s (pgPairing + 1 + i / 64) (32 * (i % 64) + 31) (32 * (i % 64)) l) (i + 1) r

/-- The stored open list. -/
def storedOpen (s : State) : List Nat :=
  (List.range (pairOpenCount s)).map (fun i => pgGet s (pgPairing + 1 + i / 64) (32 * (i % 64) + 31) (32 * (i % 64)))

/-- The distinct elements of a list, in order. -/
def dedup : List Nat → List Nat
  | [] => []
  | x :: r => x :: (dedup r).filter (fun y => y ≠ x)

/-- The tile of an open write or unacknowledged tile message. -/
def OpenW.ltn (o : OpenW) : Nat :=
  match o with
  | .write _ dln _ _ => ltnOf dln
  | .tileOp _ ltn _ => ltn
  | .entry _ ltn => ltn

/-- The tag a message is acknowledged by. -/
def OpenW.tag (o : OpenW) : Nat :=
  match o with
  | .write t _ _ _ => t
  | .tileOp t _ _ => t
  | .entry t _ => t

/-- The tiles of a set. -/
def tilesOf (m : Store Bool) : List Nat := (m.filter (fun x => x.2)).map (·.1)

/-- The open list to write: the tiles of the open writes, and for the resync target those still in its sync set (10 R328, R337). -/
def openTiles (s : State) : List Nat :=
  dedup (s.pair.opens.map OpenW.ltn ++ (if s.pair.isTarget then tilesOf s.pair.sync else []))

/-- Write the open list; OPEN_VALID = 0 where it would exceed 2048 tiles, or where `valid` forbids it (10 R328). -/
def writeOpenList (s : State) (tiles : List Nat) (valid : Bool) : State :=
  let ok := valid && decide (tiles.length ≤ 2048) && !(s.pair.isTarget && s.pair.allInUse)
  let ts := if ok then tiles else []
  let s := putOpenList s 0 ts
  let s := pgPut s pgPairing 222 211 ts.length
  pgPut s pgPairing 209 209 (b2n ok)

/-! ## Roles and ports -/

/-- The roles in which ports answer without storing (10 R326). -/
def fencedRole (r : Role) : Bool :=
  match r with
  | .fenced | .joining => true
  | .unpaired | .paired | .solo | .resync => false

/-- A FENCED event at each port: at entry with ARG0 = 0, at leaving with the requests answered (10 R326). -/
def fencedEvents (s : State) (entry : Bool) : List Nat → State
  | [] => s
  | p :: r =>
    let s := noteEv s (srcPort p) 0x0209 (if entry then 0 else (portAt s p).fenced) 0 0
    fencedEvents (modPort s p (fun x => { x with fenced := 0 })) entry r

/-- The ports whose domains are on. -/
def portsOn (s : State) : List Nat := (List.range 4).filter (fun p => domOn s (2 + p))

/-- Change the role, with the events of its ports (10 R323, R326). -/
def enterRole (s : State) (r : Role) : State :=
  let was := s.pair.role
  let s := evalStop (roleTo s r)
  if fencedRole r && (!fencedRole was || decide (was ≠ r)) then
    fencedEvents (if fencedRole was then fencedEvents s false (portsOn s) else s) true (portsOn s)
  else if fencedRole was && !fencedRole r then fencedEvents s false (portsOn s)
  else s

/-- Whether the link carries pair traffic. -/
def linked (s : State) : Bool := s.pair.linkUp && (s.pair.role = .paired || s.pair.role = .resync)

/-- Whether this module is home for a tile (10 R302). -/
def isHome (s : State) (ltn : Nat) : Bool :=
  match s.pair.home with
  | .bySeat => s.pwr.seat == seatOf ltn
  | .all => true
  | .peer => false

/-- JOIN OPEN messages for a list, 16 tiles each, closed by JOIN END (10 R317, R329). -/
def sendOpen (s : State) : Nat → Nat → List Nat → State
  | 0, _, _ => s
  | n + 1, i, l => match l with
    | [] => s
    | _ => sendOpen (send s (.joinOpen i (l.take 16))) n (i + 1) (l.drop 16)

/-- A list of tiles and its end. -/
def sendOpenList (s : State) (l : List Nat) : State := send (sendOpen s (l.length + 1) 0 l) (.joinEnd 0 ((l.length + 15) / 16))

/-- A PAIRED module becomes the target for tiles it has lost, and gives up its homes (10 R323, R336; 07 R231). The manual does not say
how the source learns the tiles: here they go in JOIN OPEN messages (log entry 12). -/
def becomeTarget (s : State) (tiles : List Nat) : State :=
  if tiles.isEmpty || decide (s.pwr.st ≠ .service) then s
  else if s.pair.role = .paired then
    let s := sendOpenList (poisonAsked (evalStop (roleTo s .resync))) tiles
    send { s with pair := { s.pair with
      isTarget := true, syncSrc := false, sync := tiles.foldl (fun m l => sSet false m l true) [], hand := .giving false } } .doneReq
  else if s.pair.role = .resync && s.pair.isTarget then
    sendOpenList { s with pair := { s.pair with sync := tiles.foldl (fun m l => sSet false m l true) s.pair.sync } } tiles
  else s

/-- Whether every MIRROR_WRITE sent is acknowledged. -/
def writesAcked (s : State) : Bool := s.pair.opens.all (fun o => match o with
  | .write .. => false
  | .tileOp .. | .entry .. => true)

/-- Send PROMOTE_NOTE if every MIRROR_WRITE is acknowledged (10 R321). -/
def sendNote (s : State) (cause : NoteCause) : State :=
  if linked s && writesAcked s then send s (.promoteNote cause) else s

end Sys2Proof.Machine
end

