-- ==== Sys2Proof/Machine/Power.lean ====
section
/-! DEFINITION. Stopping the module: what a switch-off loses, the power-down of 16 R466, the switch-off of R467, the shutdown page
(R481), the start of the Drain (R477), HALT and STANDBY (01 R21 to R25), and the report of a fault with its latch, escalation and
fatal consequence (14 R426 to R433). -/

namespace Sys2Proof.Machine

/-! ## What a switch-off loses -/

/-- A port with its link down; what its software set in the port stays (11 R360, R365). -/
def portDown (x : PortSt) : PortSt :=
  { x with linkUp := false, width := 0, rate := 0, lanes := 0, memActive := false, ideMem := false, ideIo := false,
           ideFailed := false, ideKeys := [], sessions := [], rdOut := 0, wrOut := 0 }

/-- Whether the pair link's own state is dropped with the link. -/
def linkDownPair (x : Pair) : Pair :=
  { x with linkUp := false, lanes := 0, counting := none, seen := [], misses := 0, flits := [], rxDiscard := false,
           owedMir := 0, owedReq := 0, owedBulk := 0, txq := [], mir := 0, req := 0, bulk := 0 }

/-- With the switched domains off, everything held in them is lost: the line cache, the Cistern, the map and its journal tail, moves,
senses, programs, commands, rings and links. The medium, D00 and Beryl keep what they hold (16 R460, R467; 05 R161), and the module its next MSEQ
(06 R197; log entry 81). -/
def loseVolatile (s : State) : State :=
  { s with
    cache := { cacheReset with slices := sMap (fun _ => sliceInit) (fun x => { x with disabling := [] }) s.cache.slices, steer := s.cache.steer }
    cist := { cistReset with quota := s.cist.quota, tplan := s.cist.tplan, dirtyLim := s.cist.dirtyLim }
    tabs := tablesInit
    mapu := { mapReset with mseq := s.mapu.mseq }
    med := { s.med with senses := [], ops := [], rewrites := [] }
    wear := { s.wear with
      led := [], ledCache := [], ledQ := [], pools := [], resetq := [], freeing := [], moves := [], queue := [], restart := [] }
    drift := { s.drift with refq := [], range := none }
    cmds := cmdsReset
    rings := sMap (fun _ => ringInit) (fun x => { x with enabled := false, wait := [], vecs := [] }) s.rings
    ports := sMap (fun _ => portInit) portDown s.ports
    pair := { linkDownPair s.pair with opens := [], fwds := [], fwdRds := [], heldW := [], repairs := [], soloHeld := [],
                                       syncing := none, bitmap := [], sync := [], hand := .none, guardEnd := none }
    zir := { s.zir with testing := false, forming := none } }

/-! ## Switching domains off -/

/-- A domain's switches open. -/
def offDom (s : State) (d : Nat) (cause : Nat) : State := modDom s d (fun x => { x with st := 0, cause := cause })

/-- Every switched domain that is not off already. -/
def upDoms (s : State) : List Nat := (List.range 80).filter (fun d => decide (0 < d) && decide ((domAt s d).st ≠ 0))

/-- The seven power-down steps (16 R466). -/
def downSteps : List (List Nat) :=
  [[2, 3, 4, 5], [6], (List.range 32).map (· + 48), (List.range 32).map (· + 16), (List.range 8).map (· + 8), [7], [1]]

/-- One domain of a power-down step: it is off, or still asserted after 100 µs and recorded as DOWN_FAIL (16 R466). -/
def downDom (s : State) (stuck : List Nat) (d : Nat) : State :=
  if (domAt s d).st = 0 ∨ (domAt s d).st = 3 then s
  else if stuck.contains d then
    noteEv (flagPwr (modDom s d (fun x => { x with st := 3, cause := 4 })) 3) srcPower 0x0182 d 0 0
  else offDom s d 0

/-- The power-down sequence (16 R466). -/
def powerDown (s : State) (stuck : List Nat) : State :=
  let s := downSteps.flatten.foldl (fun s d => downDom s stuck d) s
  loseVolatile { s with pwr := { s.pwr with seqStep := 0 } }

/-! ## Shutdown page (16 R481; its layout is the model's, log entry 7) -/

def shutCode (s : State) : Nat := pgGet s pgShutdown 1 0
def dsCount (s : State) : Nat := pgGet s pgShutdown 33 2
def lastDrainUs (s : State) : Nat := pgGet s pgShutdown 53 38

/-- Write SHUT in the shutdown page's image; 0 CLEAN, 1 RUNNING, 2 COUNTED. CLEAN, which only the Drain sets, clears what Set Shutdown State
left in bit 54 (11 R346; log entry 37). -/
def putShut (s : State) (x : Nat) : State :=
  let s := pgPut s pgShutdown 1 0 x
  if x = 0 then pgPut s pgShutdown 54 54 0 else s

/-- DS_COUNT + 1 with SHUT = COUNTED and the cause. -/
def countDirty (s : State) (cause : Nat) : State :=
  pgPut (pgPut (putShut s 2) pgShutdown 33 2 ((dsCount s + 1) % 2 ^ 32)) pgShutdown 37 34 cause

/-- Store the shutdown page. -/
def storeShut (s : State) : State := startStore s 5 [(pgShutdown, pgShutdown)] false

/-- The dirty lines of the cache (05 R150). -/
def dirtyCount (s : State) : Nat := countP (fun x => x.2.v && dirtyW x.2) s.cache.ways

/-- The lines in the Cistern. -/
def cisternCount (s : State) : Nat := s.cist.ents.length

/-! ## Zircon's life page (18 R503, R511, R522; its layout is the model's, log entry 7) -/

/-- Life page: history page 504. -/
def pgZircon : Nat := 3064

def zirconPage (s : State) : Page :=
  BitVec.ofNat 2048 (s.zir.bankC % 2 ^ 20 + s.zir.bankEsr % 2 ^ 20 * 2 ^ 20 + s.zir.bankE % 2 ^ 20 * 2 ^ 40 + s.zir.bankE0 % 2 ^ 20 * 2 ^ 60
    + s.zir.remPct % 2 ^ 7 * 2 ^ 80 + s.zir.limiter % 2 ^ 3 * 2 ^ 87 + s.zir.years % 2 ^ 10 * 2 ^ 90 + s.zir.hours % 2 ^ 40 * 2 ^ 100
    + s.zir.vcore0 % 2 ^ 11 * 2 ^ 140 + (match s.zir.testEc with | some e => e % 2 ^ 32 + 1 | none => 0) * 2 ^ 151
    + s.zir.planIx % 2 ^ 9 * 2 ^ 184 + s.zir.bankIx % 2 ^ 7 * 2 ^ 193
    + s.zir.planGen % 2 ^ 20 * 2 ^ 200)

/-- Write a page if its content changes. -/
def putPage (s : State) (n : Nat) (pg : Page) : State := if pageAt s n = pg then s else setPage s n pg

/-- One hour in ns. -/
def hourNs : Nat := 3600000000000

/-- Powered hours in SERVICE up to now (18 R511). -/
def creditHours (s : State) : State :=
  if s.pwr.st = .service then
    let t := s.zir.svcNs + (now s - s.zir.svcAt)
    { s with zir := { s.zir with hours := s.zir.hours + t / hourNs, svcNs := t % hourNs, svcAt := now s } }
  else s

/-! ## HALT, STANDBY and OFF -/

/-- Enter HALT: the PERST_N inputs asserted now are latched too, the latches clearing at entry to STANDBY alone (17 R498), and the cause is kept
(18 R519). -/
def enterHalt (s : State) (thermal : Bool) : State :=
  { s with pwr := { s.pwr with st := .halt, warm := false, drain := none, perstLatch := s.pwr.perstLatch ||| s.pwr.perst, haltTh := thermal, coolSince := none,
                               seqStep := 0 } }

/-- Move the last-gasp row's record into Agate with a new SEQ and ARG2 bit 15, and clear the row (16 R470). -/
def takeGasp (s : State) : State :=
  match s.pwr.gasp with
  | some r =>
    let s := { s with pwr := { s.pwr with gasp := none } }
    lostRec (agAdd.agOpen s { r with arg2 := r.arg2 % 2 ^ 15 + 2 ^ 15 }).1 { r with seq := s.ag.next }
  | none => s

/-- Enter STANDBY from BOOT, DRAIN or HALT: the role is UNPAIRED (01 R25), the PERST_N latches clear (17 R498). -/
def enterStandby (s : State) : State :=
  let s := { s with pwr := { s.pwr with st := .standby, warm := false, drain := none, perstLatch := 0, seqStep := 0, onBank := false },
                    pair := { s.pair with role := .unpaired }
                    sec := { s.sec with sbSessions := [] } }
  takeGasp s

/-- Enter OFF: D00 loses its state, and only the shadow of Beryl, the last-gasp row, the fuses, the medium and the firmware store
keep what they hold (01 R18, R21; 19 R524). Page programs in progress are interrupted (16 R472). -/
def enterOff (s : State) : State :=
  let s := loseVolatile (stopStores s)
  { s with
    regs := []
    req := reqReset
    pwr := { pwrReset with gasp := s.pwr.gasp, mainOn := s.pwr.mainOn, vinMv := s.pwr.vinMv, pwrFail := s.pwr.pwrFail, perst := s.pwr.perst }
    flt := fltReset
    ag := agReset
    qz := qzReset
    th := thReset
    zir := zirReset
    ports := []
    rings := []
    pair := pairReset
    beryl := { s.beryl with image := [], dirty := [], force := [], restored := false, ops := [], prog := [] } }

/-! ## Switch-off without a Drain (16 R467, R470, R476, R480, R481) -/

/-- Every switched domain off at once. In SERVICE or DRAIN the dirty shutdown is counted, and DRAIN_INCOMPLETE recorded with the
counts of lines as they stood; `cause` is none for a switch-off that R481 does not name. D00 stays up, and its store operations go on, but the last-gasp
row abandons what is in program (19 R532). -/
def switchOff (s : State) (cause : Option Nat) : State :=
  let counted := s.pwr.st = .service ∨ s.pwr.st = .drain
  let s := creditHours s
  let s := putPage s pgZircon (zirconPage s)
  let dirty := dirtyCount s
  let lines := cisternCount s
  let s := (upDoms s).foldl (fun s d => if (domAt s d).st = 3 then s else offDom s d 0) s
  let s := { s with pwr := { s.pwr with seqStep := 0 } }
  let s := loseVolatile (if cause = some 1 then stopStores s else s)
  match cause with
  | some c =>
    if counted then
      let s := storeShut (countDirty s c)
      if c = 1 then
        { s with pwr := { s.pwr with gasp := some (mkRec s srcPower 0x0280 dirty lines c false) } }
      else noteEv s srcPower 0x0280 dirty lines c
    else s
  | none => s

/-! ## The Drain (16 R477) -/

/-- Whether the Drain's step 4 has begun. -/
def step4Begun (s : State) : Bool :=
  (match s.pwr.drain with
    | some d => d.stored
    | none => false) || s.beryl.ops.any (fun o => decide (o.kind = 2))

/-- The pages of the ring that hold unflushed records, newest first (14 R437, R438). -/
def unflushedPages (s : State) : List Nat :=
  dedup ((s.ag.buf.filter (fun x => decide (0 < x.2.1.repeats) && !x.2.2)).map (fun x => x.2.1.seq)
    |>.foldl (fun l q => insDesc q l) [] |>.map (fun q => q % 16384 / 8))
where
  /-- Insert a number into a falling list. -/
  insDesc (q : Nat) : List Nat → List Nat
    | [] => [q]
    | x :: r => if x < q then q :: x :: r else x :: insDesc q r

/-- The content of a ring page: the newest buffered record of each of its slots, else what the page holds (14 R437). -/
def ringPage (s : State) (k : Nat) : Page :=
  s.ag.buf.foldl (fun pg x =>
    let r := x.2.1
    if decide (0 < r.repeats) && decide (r.seq % 16384 / 8 = k) then pgWith pg (256 * (r.seq % 8) + 255) (256 * (r.seq % 8)) (agBits r) else pg)
    (pageAt s (pgAgate + k))

/-- Write the ring pages of a flush into the image; their records become flushed and the newest record closes (14 R438). Records of
a page marked bad stay unflushed (14 R441). -/
def flushPages (s : State) (ks : List Nat) : State :=
  let ks := ks.filter (fun k => !ringBad s (pgAgate + k))
  let s := ks.foldl (fun s k => setPage s (pgAgate + k) (ringPage s k)) s
  let newest := (s.ag.buf.filter (fun x => decide (0 < x.2.1.repeats) && ks.contains (x.2.1.seq % 16384 / 8))).map (fun x => x.2.1.seq + 1)
  { s with ag := { s.ag with
      buf := s.ag.buf.map (fun x => if ks.contains (x.2.1.seq % 16384 / 8) then (x.1, (x.2.1, true)) else x)
      open_ := false
      flushed := maxOf id s.ag.flushed newest } }

/-- The scrub walker's cursor goes into its settings page (09 R294). -/
def storeCursor (s : State) : State := pgPut (pgPut s pgScrub 31 0 s.drift.cursor) pgScrub 39 32 s.drift.line

/-- Step 4 of the Drain: every running and queued store stops, and one operation stores every dirty page, with up to eight Agate
pages (16 R477; 14 R438; 19 R531). -/
def drainStep4 (s : State) : State :=
  let s := storeCursor (flushPages s ((unflushedPages s).take 8))
  startStore (stopStores s) 2 [(0, 3455)] false

/-- Where a thermal or fatal trigger or an input trigger leads. -/
def noteOf (thermal : Bool) : NoteCause := if thermal then .thermal else .drain

/-- The Drain begins (16 R477; 10 R321, R328; 04 R136; 12 R393; 08 R257). Step 4 begins when step 1 ends: at once where no
MIRROR_WRITE waits for its acknowledgement. A write that waits, in its slice or for a line's lock, is not applied (04 R136). -/
def drainStart (s : State) (toHalt thermal lost : Bool) : State :=
  let d : Drain :=
    { start := now s, toHalt := toHalt, thermal := thermal, lost := lost, linesDone := false, stored := false, recorded := false,
      overrun := false, lines := 0 }
  let s := creditHours s
  let s := putPage s pgZircon (zirconPage s)
  let s := { s with
    pwr := { s.pwr with st := .drain, drain := some d }
    cist := { s.cist with waits := [], pacing := false }
    cmds := cmdsReset
    pair := { s.pair with heldW := [] }
    wear := { s.wear with queue := [], restart := s.wear.restart.filter (fun x => decide (x.2.1 ≠ .move)) }
    drift := { s.drift with range := none }
    zir := { s.zir with testing := false } }
  let s := drainMoves (mapWaiters s (fun _ ws => readersOf ws)) s.wear.moves
  let s := sendNote s (noteOf thermal)
  let s := if hasIdentity s && !fencedRole s.pair.role then writeOpenList s (openTiles s) (!lost) else s
  if linked s && !s.pair.opens.isEmpty then s else drainStep4 s

/-! ## Fatal faults (01 R23; 14 R428, R433; 11 R354) -/

/-- The FT latch takes the first fatal fault; a later one counts (14 R428). -/
def latchOf (s : State) (src code a0 a1 a2 : Nat) (urgent : Bool) : Latch :=
  { valid := true, urgent := urgent, count := 0, source := src, code := code, arg0 := a0, arg1 := a1, arg2 := a2, time := now s }

/-- A later fault of a latched class. -/
def bumpLatch (l : Latch) : Latch := { l with count := satAdd 8191 l.count 1 }

/-- The ports signal a fatal fault: viral where enabled, else an uncorrectable internal error (11 R354). -/
def viralPorts (s : State) : List Nat → State
  | [] => s
  | p :: r =>
    let s := emit s (.aer (Fin.ofNat 4 p) (if (portAt s p).viralEn then 1 else 0))
    viralPorts (modPort s p (fun x => { x with viral := x.viral || x.viralEn })) r

/-- The codes for which R23 omits the Drain. -/
def noDrain (code : Nat) : Bool := code = 0x0302 || code = 0x0303 || code = 0x0304

/-- The dirty-shutdown cause of a switch-off for a code (16 R481). R51 counts every immediate switch-off; the map DRAM's, for which
R481 names no cause, takes cause 0 (log entry 13). -/
def offCause (code : Nat) : Option Nat := if code = 0x0304 then some 1 else some 0

/-- The consequence of a fatal fault by power state (01 R21, R23, R24; 17 R496). -/
def stopFor (s : State) (code : Nat) : State :=
  match s.pwr.st with
  | .off | .halt => s
  | .standby => enterHalt s false
  | .boot => enterHalt (switchOff s none) false
  | .service => if noDrain code then enterHalt (switchOff s (offCause code)) false else drainStart s true false (code = 0x0301)
  | .drain =>
    if noDrain code then enterHalt (switchOff s (offCause code)) false
    else { s with pwr := { s.pwr with drain := s.pwr.drain.map (fun d => { d with toHalt := true, lost := d.lost || decide (code = 0x0301) }) } }

/-- A fatal fault: recorded, latched, signalled, ALIVE's flag set, and the module stops (01 R23; 14 R428, R433, R438). -/
def fatal (s : State) (src code a0 a1 a2 : Nat) : State :=
  let s := recordEv s src code a0 a1 a2 false
  let ft := if s.flt.ft.valid then bumpLatch s.flt.ft else latchOf s src code a0 a1 a2 false
  let s := { s with flt := { s.flt with ft := ft }, pwr := { s.pwr with fatal := true }, ag := { s.ag with full := true } }
  stopFor (viralPorts s (portsOn s)) code

/-! ## Reports (14 R428, R429) -/

/-- Whether a fault is identical to the latched one (14 R429). -/
def sameFault (l : Latch) (src code a0 a1 : Nat) : Bool := l.source = src && l.code = code && l.arg0 = a0 && l.arg1 = a1

/-- Ask for a limited flush of the newest record (14 R438). -/
def wantFlush (s : State) : State := { s with ag := { s.ag with trig := s.ag.trig ++ [s.ag.next - 1] } }

/-- An escalating CE (14 R428, R429). -/
def reportCe (s : State) (src code a0 a1 a2 : Nat) : State :=
  let l := s.flt.ce
  if !l.valid then
    let s := recordEv s src code a0 a1 a2 false
    let s := { s with flt := { s.flt with ce := latchOf s src code a0 a1 a2 false } }
    if regB s .agate 0 7 1 then wantFlush s else s
  else if sameFault l src code a0 a1 then
    let s := recordEv s src code a0 a1 a2 false
    { s with flt := { s.flt with ce := bumpLatch l } }
  else
    let s := recordEv s src code a0 a1 a2 true
    let s := { s with flt := { s.flt with ce := { bumpLatch l with urgent := true }, escTotal := satAdd 0xFFFFF s.flt.escTotal 1 } }
    wantFlush (flagEscCe s)

/-- An escalating UC (14 R428, R429). -/
def reportUc (s : State) (src code a0 a1 a2 : Nat) : State :=
  let l := s.flt.uc
  let s := recordEv s src code a0 a1 a2 false
  if !l.valid then wantFlush { s with flt := { s.flt with uc := latchOf s src code a0 a1 a2 false } }
  else
    let s := { s with flt := { s.flt with uc := bumpLatch l } }
    if sameFault l src code a0 a1 then s else fatal s srcFault 0x0307 a0 a1 code

/-- A unit reports a fault or an event (14 R425 to R429). A reserved code is no fault. -/
def report (s : State) (src code a0 a1 a2 : Nat) : State :=
  if codeClass code = 4 then s
  else if codeClass code = 3 then fatal s src code a0 a1 a2
  else if !escalating code then noteEv s src code a0 a1 a2
  else if codeClass code = 1 then reportCe (countTotal s code) src code a0 a1 a2
  else reportUc (countTotal s code) src code a0 a1 a2

end Sys2Proof.Machine
end

