-- ==== Sys2Proof/Machine/Persist.lean ====
section
/-! DEFINITION. What the settings and retirement pages of the Beryl store keep (13 R409; 19 R525; the places in the pages are the
model's, log entry 7): stored register fields, read-only counts that survive power, way disables, retirements and failed dies. -/

namespace Sys2Proof.Machine

/-! ## Stored register fields (13 R409) -/

/-- The page and lowest bit of a stored field of a block instance. -/
def storedPos (b : Blk) (i slot lo : Nat) : Option (Nat × Nat) :=
  match b with
  | .global => some (pgSettings, 0)
  | .port => some (pgSettings, 18 + i)
  | .zircon => some (pgSettings, if slot = 3 then 32 else if lo = 0 then 22 else 27)
  | .thermal => some (pgSettings, if lo = 0 then 37 else if lo = 3 then 40 else 44)
  | .beryl => some (pgSettings, 48)
  | .security => some (pgSettings, 55)
  | .power => some (pgSettings, 64 + slot)
  | .cache => some (pgRetire, 16 * i)
  | .ring | .spinel | .mapctl | .fault | .agate | .quartz | .channel => none

/-- Load one stored field from its page into both words of its register. -/
def loadField (s : State) (b : Blk) (i : Nat) (f : FieldT) (slot : Nat) : State :=
  match storedPos b i slot f.lo with
  | some (pg, lo) =>
    let v := pgGet s pg (lo + (f.hi - f.lo)) lo
    putBoth s b i slot f.mask (takeValue f.clamp v * 2 ^ f.lo)
  | none => s

/-- Load the stored fields of a block instance (13 R409). -/
def loadStored (s : State) (b : Blk) (i : Nat) : State :=
  ((fieldsOf b).filter (fun f => f.beryl)).foldl (fun s f => (List.range f.cnt).foldl (fun s j => loadField s b i f (f.slot + j)) s) s

/-- A reset event of a block instance (13 R408). -/
def resetRegs (s : State) (b : Blk) (i : Nat) (keep : Nat → Bool) : State := loadStored (resetBlock s b i keep) b i

/-- A write of a stored field updates its page image (13 R409). -/
def saveField (s : State) (b : Blk) (i slot : Nat) (f : FieldT) : State :=
  match storedPos b i slot f.lo with
  | some (pg, lo) => pgPut s pg (lo + (f.hi - f.lo)) lo (bitsOf (cellAt s b i slot).pend.toNat f.hi f.lo)
  | none => s

/-! ## Counts that survive power -/

/-- Thermal and sanitize counts (18 R523, 20 R562), in settings page 4. -/
def thermalPage (s : State) : Page :=
  BitVec.ofNat 2048 (b2n s.pwr.haltTh + b2n s.pwr.restartBlk * 2 + s.th.shutCnt % 2 ^ 20 * 2 ^ 2 + s.th.lastShut % 2 ^ 19 * 2 ^ 22
    + s.th.restarts % 2 ^ 20 * 2 ^ 41 + s.sec.sanCount % 2 ^ 13 * 2 ^ 61)

/-- Bring the two pages up to date. -/
def syncPersist (s : State) : State := putPage (putPage s pgThermal (thermalPage s)) pgZircon (zirconPage s)

/-- The plan log of pages 424 to 487 of the history: 256 bits an entry, with bit 0 set; oldest first, the next place being `ix`
(18 R503; its layout is the model's, log entry 7). -/
def loadPlanLog (s : State) (ix : Nat) : List (Nat × List Nat) :=
  let all := (s.beryl.image.filter (fun x => decide (pgHistory + 424 ≤ x.1) && decide (x.1 < pgHistory + 488))).flatMap (fun x =>
    (List.range 8).flatMap (fun j =>
      let v := bitsOf x.2.toNat (256 * j + 255) (256 * j)
      if bitOf v 0 then [((x.1 - (pgHistory + 424)) * 8 + j, bitsOf v 32 1, (List.range 5).map (fun c => bitsOf v (52 + 20 * c) (33 + 20 * c)))] else []))
  ((all.filter (fun e => decide (ix ≤ e.1))) ++ (all.filter (fun e => decide (e.1 < ix)))).map (·.2)

/-- Load the two pages at restore. -/
def loadPersist (s : State) : State :=
  let g := pgGet s pgThermal
  let z := pgGet s pgZircon
  let hasTest := z 183 151
  { s with
    pwr := { s.pwr with haltTh := g 0 0 = 1, restartBlk := g 1 1 = 1 }
    th := { s.th with shutCnt := g 21 2, lastShut := g 40 22, restarts := g 60 41 }
    sec := { s.sec with sanCount := g 73 61 }
    zir := { s.zir with bankC := z 19 0, bankEsr := z 39 20, bankE := z 59 40, bankE0 := z 79 60, remPct := z 86 80, limiter := z 89 87,
                        years := z 99 90, hours := z 139 100, vcore0 := z 150 140, testEc := if hasTest = 0 then none else some (hasTest - 1),
                        planIx := z 192 184, bankIx := z 199 193, planLog := loadPlanLog s (z 192 184) } }

/-! ## The plan in force (18 R503; 04 R119): history pages 416 to 420 -/

def pgPlan : Nat := 2976

/-- Program-time page and lowest bit of a die: 20 bits each, 102 to a page. -/
def tplanPos (d : Nat) : Nat × Nat := (pgPlan + 2 + d / 102, 20 * (d % 102))

/-- The plan in force, as the pages keep it. -/
def putPlan (s : State) : State :=
  let head := 1 + s.pwr.vcore % 2 ^ 11 * 2 + s.zir.floor % 2 ^ 8 * 2 ^ 12 + s.zir.sens % 2 ^ 10 * 2 ^ 20 + s.cist.dirtyLim % 2 ^ 20 * 2 ^ 30
    + s.drift.m % 2 ^ 5 * 2 ^ 50 + sumOf (fun c => (chanAt s c).deadline % 2 ^ 10 * 2 ^ (64 + 10 * c)) (List.range 32)
  let ds := liveDies s
  let s := putPage s pgPlan (BitVec.ofNat 2048 head)
  let s := putPage s (pgPlan + 1) (BitVec.ofNat 2048 (sumOf (fun d =>
    let q := match findP (fun x => x.1 = d) s.cist.nextQuota with
      | some x => x.2
      | none => sGet 163840 s.cist.quota d
    q / 4096 % 2 ^ 8 * 2 ^ (8 * d)) ds))
  [0, 1, 2].foldl (fun s k => putPage s (pgPlan + 2 + k) (BitVec.ofNat 2048 (sumOf (fun d =>
    if d / 102 = k then sGet 1600 s.cist.tplan d % 2 ^ 20 * 2 ^ (20 * (d % 102)) else 0) ds))) s

/-- The module comes up from OFF with the plan that was last stored; where none was, with the values of manufacture. The quotas
follow from it once the live dies are known (04 R119). -/
def loadPlan (s : State) : State :=
  if pgGet s pgPlan 0 0 = 0 then s
  else
    let s := { s with
      pwr := { s.pwr with vcore := pgGet s pgPlan 11 1 }
      zir := { s.zir with floor := pgGet s pgPlan 19 12, sens := pgGet s pgPlan 29 20 }
      drift := { s.drift with m := pgGet s pgPlan 54 50 }
      cist := { s.cist with
        tplan := (List.range 256).foldl (fun m d =>
          let t := pgGet s (tplanPos d).1 ((tplanPos d).2 + 19) (tplanPos d).2
          if t = 0 then m else sSet 1600 m d t) [] } }
    (List.range 32).foldl (fun s c => modChan s c (fun x => { x with deadline := pgGet s pgPlan (73 + 10 * c) (64 + 10 * c) })) s

/-! ## Retirements (05 R162; 17 R488; 14 R441) -/

def sliceRetiredPg (s : State) (n : Nat) : Bool := (pageAt s pgRetire).getLsbD (128 + n)
def chanRetiredPg (s : State) (c : Nat) : Bool := (pageAt s pgRetire).getLsbD (136 + c)
def dieFailedPg (s : State) (ix : Nat) : Bool := (pageAt s pgRetire).getLsbD (192 + ix)
def putSliceRetired (s : State) (n : Nat) : State := pgPut s pgRetire (128 + n) (128 + n) 1
def putChanRetired (s : State) (c : Nat) : State := pgPut s pgRetire (136 + c) (136 + c) 1
def putDieFailed (s : State) (ix : Nat) : State := pgPut s pgRetire (192 + ix) (192 + ix) 1
/-- Map DRAM rows listed as retired, as map-cache page slots (17 R487): 24 bits each, the slot plus 1, from bit 64 of page 3138. -/
def rowsPg (s : State) : List Nat :=
  (((List.range 64).map (fun i => pgGet s pgRows (87 + 24 * i) (64 + 24 * i))).filter (fun x => x ≠ 0)).map (· - 1)
/-- List retired rows in page 3138. -/
def putRows (s : State) : Nat → List Nat → State
  | _, [] => s
  | i, x :: r => if 64 ≤ i then s else putRows (pgPut s pgRows (87 + 24 * i) (64 + 24 * i) (x + 1)) (i + 1) r

/-! ## Live units -/

/-- Rebuild the steering table after slice `n` retires: its entries go to the surviving slices in turn (05 R142). -/
def steerWithout (t : List Nat) (n : Nat) (live : List Nat) : List Nat :=
  go t 0
where
  /-- The entries with those of slice `n` reassigned, the k-th of them to the k-th survivor in turn. -/
  go : List Nat → Nat → List Nat
    | [], _ => []
    | x :: r, k => if x = n then (if live.isEmpty then x else nth 0 live (k % live.length)) :: go r (k + 1) else x :: go r k

/-- The slices not retired. -/
def liveSlices (s : State) : List Nat := (List.range 8).filter (fun n => !(sliceAt s n).retired)

/-- Ways whose WAY_DIS bit is clear. -/
def openWays (s : State) (n : Nat) : Nat := countP (fun w => !regB s .cache n 1 w) (List.range 16)

/-- Retire a slice (05 R159): its ways are lost, steering leaves it. -/
def dropSlice (s : State) (n : Nat) : State :=
  let s := modSlice s n (fun x => { x with retired := true, disabling := [] })
  { s with cache := { s.cache with
      steer := steerWithout (steerOf s.cache) n (liveSlices s)
      ways := s.cache.ways.filter (fun x => decide (x.1 / 2 ^ 18 ≠ n)) } }

end Sys2Proof.Machine
end

