-- ==== Sys2Proof/Machine/RegOps.lean ====
section
/-! DEFINITION. Register writes as shared operations (13 R401 to R404, R419): the slot of an offset, how selected bits enter the pending
word, and the registers that the pair mirrors (10 R303, R305). -/

namespace Sys2Proof.Machine

/-- The mask of a write: zero selects every bit (13 R401). -/
def wrMask (v : Nat) : Nat := if bitsOf v 39 20 = 0 then 0xFFFFF else bitsOf v 39 20

/-- Whether a sense, program or reset is in progress on a channel (13 R405). -/
def mediaBusy (s : State) (c : Nat) : Bool :=
  s.med.ops.any (fun o => decide (o.die / 8 = c)) || s.med.senses.any (fun x => !x.waitPage && decide (ptnChan x.ptn.toNat = c))
    || s.mapu.demand.any (fun d => s.mapu.ckptTiles.any (fun x => decide (x.1 = d.page) && decide (ptnChan x.2 = c)))

/-- Whether a field's value can become active at once: its point is the write's instant, or the point is passed while nothing runs (13
R405, R406). The base and size of a ring wait for EN = 0 besides (12 R369). -/
def atOnce (s : State) (b : Blk) (i : Nat) (f : FieldT) : Bool :=
  match f.ap with
  | .now => true
  | .quiet => !(portAt s i).linkUp && (decide (b ≠ .ring) || decide (7 ≤ f.slot) || !(ringAt s i).enabled)
  | .heartbeat => !s.pair.linkUp
  | .mediaOp => !mediaBusy s i
  | .epoch | .replan | .diode | .media | .dump | .sequencer => false

/-- One field of a written word: the value taken (13 R404). -/
def takeField (w : Nat) (f : FieldT) : Nat := mergeBits w f.mask (takeValue f.clamp (bitsOf w f.hi f.lo) * 2 ^ f.lo)

/-- The selected bits of the held fields of a slot enter the pending word; a field that applies immediately becomes active. A stored field
updates its page image (13 R404, R405, R409). RWD_SHARE sets the stop level of the credits (04 R124). -/
def putPend (s : State) (b : Blk) (i slot m v : Nat) : State :=
  let fs := (slotFields b slot).filter (fun f => f.acc = .rw || f.acc = .rwk)
  let hit := fs.filter (fun f => decide (f.mask &&& m ≠ 0))
  let c := cellAt s b i slot
  let held := sumOf FieldT.mask fs
  let w := hit.foldl takeField (mergeBits c.pend.toNat (m &&& held) v)
  let nowM := sumOf (fun f => if atOnce s b i f then f.mask else 0) hit
  let s := setCell s b i slot { c with pend := BitVec.ofNat 20 w, act := BitVec.ofNat 20 (mergeBits c.act.toNat nowM w) }
  let s := (hit.filter (fun f => f.beryl)).foldl (fun s f => saveField s b i slot f) s
  if b = .port ∧ slot = 25 then evalStop s else s

/-- The registers whose writes the pair mirrors (10 R303). -/
def mirroredReg (b : Blk) (slot : Nat) : Bool :=
  match b with
  | .port => slot = 24 || slot = 25
  | .mapctl => slot = 32 || slot = 33
  | .global | .ring | .spinel | .zircon | .thermal | .fault | .agate | .beryl | .quartz | .security | .power | .cache | .channel => false

/-- The block, instance and slot of a BAR2 offset, aliases folded (13 R401, R412, R419). -/
def slotOf (off : Nat) : Option (Blk × Nat × Nat) :=
  (blkOf (off / 4096 % 128)).map (fun x => (x.1, x.2, if x.1 = .power then off % 1024 / 8 else off % 512 / 8))

end Sys2Proof.Machine
end

