-- ==== Sys2Proof/Machine/Thermal.lean ====
section
/-! DEFINITION. The thermal monitor (18 R514 to R521) and the thermal-age clocks (09 R274). Temperatures are in °C × 4. -/

namespace Sys2Proof.Machine

/-- A 10-bit temperature code: (T + 64 °C) × 4 (18 R500; 0x240 for 80 °C). -/
def tempCode (t4 : Int) : Nat := clampTo 0 1023 (t4 + 256).toNat

/-- The temperature bin of 06 R185: 6 °C each from −4 °C. -/
def tempBin (t4 : Int) : Nat := clampTo 0 15 ((t4 + 40) / 24).toNat

/-- The ageing factor A[b] (09 R274). -/
def ageFactor (b : Nat) : Nat := nth 446 [1, 1, 2, 3, 5, 7, 11, 16, 24, 37, 56, 84, 128, 194, 294, 446] b

/-- A threshold of a source: 1 WARN, 2 THROTTLE1, 3 THROTTLE2, 4 SHUTDOWN, 5 switch-off; the first three lowered by `ofs` °C
(18 R515). -/
def thrOf (yel : Bool) (ofs : Nat) (l : Nat) : Int :=
  let base : Int := if yel then nth 125 [0, 95, 105, 110, 115, 125] l else nth 100 [0, 75, 80, 85, 90, 100] l
  4 * (if l ≤ 3 then base - ofs else base)

def yelOfs (s : State) : Nat := if expertEn s 12 then regF s .thermal 0 8 6 3 else 0
def mediaOfs (s : State) : Nat := if expertEn s 12 then regF s .thermal 0 8 10 7 else 0
def thrYel (s : State) (l : Nat) : Int := thrOf true (yelOfs s) l
def thrMedia (s : State) (l : Nat) : Int := thrOf false (mediaOfs s) l

/-- Levels fall while the reading is below a threshold less its hysteresis (18 R516). -/
def levelDown (thr : Nat → Int) (hyst t : Int) : Nat → Nat
  | 0 => 0
  | l + 1 => if t < thr (l + 1) - hyst then levelDown thr hyst t l else l + 1

/-- The highest level whose threshold the reading reaches. -/
def levelUp (thr : Nat → Int) (t : Int) : Nat :=
  if thr 3 ≤ t then 3 else if thr 2 ≤ t then 2 else if thr 1 ≤ t then 1 else 0

/-- The level of a source after a sample (18 R516). -/
def nextLevel (thr : Nat → Int) (hyst t : Int) (l : Nat) : Nat :=
  let a := levelDown thr hyst t l
  let b := levelUp thr t
  if a < b then b else a

/-- The level of a live channel whose media group is on; 0 otherwise (18 R517). -/
def chanLevel (s : State) (c : Nat) : Nat := if domOn s (48 + c) && !(chanAt s c).retired then (chanAt s c).level else 0

/-- The highest level of the sources. -/
def topLevel (s : State) : Nat := maxOf (chanLevel s) s.th.yelLvl (List.range 32)

/-- The condition for a level. -/
def thermOf (l : Nat) : Therm := if l = 0 then .nominal else if l = 1 then .warn else if l = 2 then .throttle1 else .throttle2

/-- Time spent at the condition that ends is added to its total (18 R523). -/
def thermTime (t : Thermal) (n : Nat) : Thermal :=
  let d := n - t.since
  match t.cond with
  | .warn => { t with warnNs := t.warnNs + d, since := n }
  | .throttle1 => { t with t1Ns := t.t1Ns + d, since := n }
  | .throttle2 => { t with t2Ns := t.t2Ns + d, since := n }
  | .nominal | .shutdown => { t with since := n }

/-- Evaluate the thermal condition after a sample of a source (18 R517). -/
def evalThermal (s : State) (src : Nat) (t4 : Int) : State :=
  let c := if s.th.tripped then .shutdown else thermOf (topLevel s)
  if c = s.th.cond then s
  else
    let s := { s with th := { thermTime s.th (now s) with cond := c } }
    noteEv (flagThermal s 0) srcThermal 0x0190 (thermCode c) src (tempCode t4)

/-- Record THERMAL_TRIP with its count and LAST_SHUT (18 R519). -/
def recordTrip (s : State) (src : Nat) (t4 : Int) : State :=
  let s := { s with th := { s.th with tripped := true, shutCnt := satAdd 0xFFFFF s.th.shutCnt 1, lastShut := tempCode t4 + src % 256 * 2 ^ 10 } }
  noteEv (flagThermal s 1) srcThermal 0x0290 4 src (tempCode t4)

/-- What SHUTDOWN does in each power state (18 R519; 01 R27). -/
def tripAction (s : State) (stuck : List Nat) : State :=
  match s.pwr.st with
  | .standby => enterHalt s true
  | .boot => enterHalt (powerDown s stuck) true
  | .service => drainStart s true true false
  | .drain => { s with pwr := { s.pwr with drain := s.pwr.drain.map (fun d => { d with toHalt := true, thermal := true }) } }
  | .off | .halt => s

/-- A source reached its switch-off threshold before the Drain ended (18 R519; 01 R27; 16 R480). -/
def thermalRise (s : State) (src : Nat) (t4 : Int) : State :=
  let s := { s with th := { s.th with lastShut := s.th.lastShut % 2 ^ 18 + 2 ^ 18 } }
  let s := noteEv (flagThermal s 2) srcThermal 0x0291 4 src (tempCode t4)
  enterHalt (switchOff s (some 4)) true

/-- The consequences of a reading of a source (18 R516, R519). -/
def checkShutdown (s : State) (src : Nat) (t4 : Int) (yel : Bool) (stuck : List Nat) : State :=
  let trip := decide (thrOf yel 0 4 ≤ t4) && !s.th.tripped
  let s := if trip then recordTrip s src t4 else s
  let s := evalThermal s src t4
  let s := if trip then tripAction s stuck else s
  let s := if decide (thrOf yel 0 5 ≤ t4) && decide (s.pwr.st = .drain) then thermalRise s src t4 else s
  syncPersist s

/-! ## The Yelrid diode -/

/-- The diode has failed: its level is held at THROTTLE2 until the next BOOT (18 R514). -/
def yelFailed (s : State) : State :=
  if s.th.yelFail then s
  else
    let s := noteEv (flagThermal { s with th := { s.th with yelFail := true, yelLvl := 3 } } 3) srcThermal 0x0293 3 0xFF 0
    evalThermal s 0xFF s.th.yel

/-- Track how long the junction has stayed below its warning threshold in HALT (17 R499). -/
def trackCool (s : State) (t4 : Int) : State :=
  if s.pwr.st = .halt then
    let since := match s.pwr.coolSince with
      | some x => x
      | none => now s
    let cool := if t4 < thrYel s 1 then some since else none
    { s with pwr := { s.pwr with coolSince := cool } }
  else s

/-- DIODE_SAMPLE: the Yelrid diode's conversion, every 100 µs (18 R514, R516). -/
def diodeSampleF (s : State) (t : Option Int) (stuck : List Nat) : State :=
  if s.pwr.st = .off then s
  else match t with
    | none =>
      let n := s.th.yelMiss + 1
      let s := { s with th := { s.th with yelMiss := n } }
      if 3 ≤ n then yelFailed s else s
    | some t4 =>
      if t4 < -160 ∨ 600 < t4 then yelFailed s
      else
        let lvl := if s.th.yelFail then 3 else nextLevel (thrYel s) 20 t4 s.th.yelLvl
        let s := { s with th := { s.th with yelMiss := 0, yel := t4, yelPeak := if s.th.yelPeak < t4 then t4 else s.th.yelPeak, yelLvl := lvl } }
        checkShutdown (trackCool s t4) 0xFF t4 true stuck

def execDiodeSample (t : Option Int) (stuck : List Nat) (s : State) : Host.Outcome State Fault Refusal := .next (diodeSampleF s t stuck)

/-! ## Media dies -/

/-- Readings of the live dies: a failed reading counts, and a die sensor with three of them is taken as reading its THROTTLE1
threshold until the next BOOT (18 R514). -/
def takeTemps (s : State) (c : Nat) : Nat → List (Option Int) → State
  | _, [] => s
  | d, t :: r =>
    let ch := chanAt s c
    if d < 6 && ch.live.getLsbD d then
      let s := if ch.sensBad.contains d then putTemp s c d (thrMedia s 2)
        else match t with
          | some x => modChan (putTemp s c d x) c (fun ch => { ch with sensFail := setNth ch.sensFail d 0 })
          | none =>
            let n := nth 0 ch.sensFail d + 1
            let s := modChan s c (fun ch => { ch with sensFail := setNth ch.sensFail d n })
            if 3 ≤ n then
              let s := modChan (putTemp s c d (thrMedia s 2)) c (fun ch => { ch with sensBad := ch.sensBad ++ [d] })
              noteEv (flagThermal s 3) srcThermal 0x0191 2 (c * 8 + d) (tempCode (thrMedia s 2))
            else s
      takeTemps s c (d + 1) r
    else takeTemps s c (d + 1) r
where
  /-- The list with element `i` set, padded with zeros. -/
  setNth (l : List Nat) (i v : Nat) : List Nat := (List.range 6).map (fun k => if k = i then v else nth 0 l k)
  /-- Take a die's temperature. -/
  putTemp (s : State) (c d : Nat) (t : Int) : State :=
    modChan s c (fun ch => { ch with temps := (List.range 6).map (fun k => if k = d then t else nth (-160) ch.temps k) })

/-- The hottest live die of a channel: die and temperature. -/
def hotDie (ch : Chan) : Option (Nat × Int) :=
  ((List.range 6).filter (fun d => ch.live.getLsbD d && decide (d < ch.temps.length))).foldl (fun a d =>
    let t := nth (-160) ch.temps d
    match a with
    | some (e, u) => if u < t then some (d, t) else some (e, u)
    | none => some (d, t)) none

/-- The hottest live die of the module: channel, die and temperature. -/
def hottest (s : State) : Option (Nat × Nat × Int) :=
  ((List.range 32).filter (fun c => domOn s (48 + c) && !(chanAt s c).retired)).foldl (fun a c =>
    match hotDie (chanAt s c), a with
    | some (d, t), some (c', d', u) => if u < t then some (c, d, t) else some (c', d', u)
    | some (d, t), none => some (c, d, t)
    | none, x => x) none

/-- Advance a channel's thermal-age clock (09 R274). -/
def addTac (s : State) (c : Nat) (t4 : Int) : State :=
  modChan s c (fun ch => { ch with tac := (ch.tac + ageFactor (tempBin t4)) % 2 ^ 56 })

/-- MEDIA_TEMP_SAMPLE: a channel's 1 ms sample (09 R274; 18 R514, R516). In STANDBY the channel ages at the Yelrid's temperature. -/
def mediaTempSampleF (s : State) (c : Nat) (temps : List (Option Int)) (stuck : List Nat) : State :=
  if s.pwr.st = .standby then addTac s c s.th.yel
  else if !domOn s (48 + c) || (chanAt s c).retired then s
  else
    let s := takeTemps s c 0 temps
    match hotDie (chanAt s c) with
    | none => s
    | some (d, t4) =>
      let s := addTac s c t4
      let s := modChan s c (fun ch => { ch with level := nextLevel (thrMedia s) 12 t4 ch.level })
      let b := tempBin t4
      let s := { s with drift := { s.drift with hiBin := if s.drift.hiBin < b then b else s.drift.hiBin } }
      let s := match hottest s with
        | some (hc, hd, ht) =>
          { s with th := { s.th with media := ht, hotCh := hc, hotDie := hd, mediaPeak := if s.th.mediaPeak < ht then ht else s.th.mediaPeak } }
        | none => s
      checkShutdown s (c * 8 + d) t4 false stuck

def execMediaTempSample (c : Channel) (temps : List (Option Int)) (stuck : List Nat) (s : State) : Host.Outcome State Fault Refusal :=
  .next (mediaTempSampleF s c.val temps stuck)

/-- The exit from HALT: SHUTDOWN ends, and the condition follows the levels as they stand (18 R517). -/
def exitHaltThermal (s : State) : State := evalThermal { s with th := { s.th with tripped := false } } 0xFF s.th.yel

/-- Entry to BOOT: peaks, times and failed sensors start again, the temperatures at code 0x000 (18 R514, R523). -/
def bootThermal (s : State) : State :=
  { s with th := { s.th with yelPeak := -256, yelMiss := 0, yelFail := false, media := -256, mediaPeak := -256, hotCh := 0, hotDie := 0,
                             warnNs := 0, t1Ns := 0, t2Ns := 0, since := now s } }

end Sys2Proof.Machine
end

