-- ==== Sys2Proof/Machine/DriftOps.lean ====
section
/-! DEFINITION. Epoch units and thermal-age snapshots (09 R273 to R276, R290). -/

namespace Sys2Proof.Machine

/-- The snapshot page of EC and the clocks: EC in bytes 0 to 3, TAC of channel c in the seven bytes from 4 + 7c; a retired channel
records zero (09 R275). -/
def snapPage (s : State) : Page :=
  BitVec.ofNat 2048 (s.drift.ec % 2 ^ 32
    + sumOf (fun c => (if (chanAt s c).retired then 0 else (chanAt s c).tac % 2 ^ 56) * 2 ^ (32 + 56 * c)) (List.range 32))

/-- EC of a snapshot page. -/
def snapEc (pg : Page) : Nat := bitsOf pg.toNat 31 0

/-- The metadata objects whose number mod M equals EC mod M become dirty (09 R290). An object that no checkpoint has written has no frames to
refresh (log entry 92). -/
def dirtyClass (s : State) : State :=
  let m := if s.drift.m = 0 then 1 else s.drift.m
  let old := (s.mapu.ckptTiles.map (·.1)).filter (fun o => decide (o < 2 ^ 22) && decide (o % m = s.drift.ec % m))
  { s with mapu := { s.mapu with dirty := old.foldl (fun d o => sSet false d o true) s.mapu.dirty } }

/-- A new epoch unit starts: EC increases by one, the snapshot is taken and stored, and the metadata objects of the unit become dirty, with a checkpoint
(09 R273, R275, R290). At BOOT the objects are known from replay on, which marks them then, and the checkpoint is the one of 07 R229 (log entry 92). -/
def startUnit (s : State) : State :=
  let ec := (s.drift.ec + 1) % 2 ^ 32
  let s := { s with drift := { s.drift with ec := ec, unitStart := now s } }
  let n := pgHistory + ec % 256
  let s := dirtyClass (startStore (setPage s n (snapPage s)) 6 [(n, n)] false)
  { s with mapu := { s.mapu with ckptReq := true } }

/-- At a BOOT from OFF the clocks continue from the newest snapshot plus OFF_AGE × 8 equivalent hours (09 R276). A page that holds no
snapshot reads as EC 0 with zero clocks. One hour is 230,400,000 units of 1/64 ms. -/
def resumeClocks (s : State) : State :=
  let best := (List.range 256).foldl (fun (b : Nat) i =>
    let e := snapEc (pageAt s (pgHistory + i))
    if 0 < (e + 2 ^ 32 - b) % 2 ^ 32 ∧ (e + 2 ^ 32 - b) % 2 ^ 32 < 2 ^ 31 then e else b) (snapEc (pageAt s pgHistory))
  let off := regF s .mapctl 0 40 16 9 * 8 * 230400000
  let s := (List.range 32).foldl (fun s c => modChan s c (fun x => { x with tac := (snapAt s best c + off) % 2 ^ 56 })) s
  { s with drift := { s.drift with ec := best } }

/-! ## Thermal age and the refresh queue (09 R277, R278, R287, R288) -/

/-- The unit distance D of a tile (09 R277). -/
def unitDist (s : State) (e : MapEntry) : Nat := (s.drift.ec + 256 - e.epoch.toNat) % 256

/-- The thermal age of a tile in units of 1/64 ms (09 R277). -/
def thermalAge (s : State) (e : MapEntry) : Nat := ageOf s (ptnChan e.ptn.toNat) e.epoch.toNat

/-- The first sharer stands for a shared physical tile (09 R288). -/
def refreshRep (s : State) (ltn : Nat) : Nat :=
  let e := entryAt s ltn
  if e.st = .shared then match sharersAt s.tabs e.ptn.toNat with
    | l :: _ => l
    | [] => ltn
  else ltn

/-- Insert by rank, then thermal age, oldest first (09 R288). -/
def insRefresh (x : Nat × Bool × Nat) : List (Nat × Bool × Nat) → List (Nat × Bool × Nat)
  | [] => [x]
  | y :: r => if (x.2.1 && !y.2.1) || (x.2.1 == y.2.1 && decide (y.2.2 < x.2.2)) then x :: y :: r else y :: insRefresh x r

/-- Whether an entry names a physical tile whose content is in use. -/
def inUse (e : MapEntry) : Bool :=
  match e.st with
  | .mapped | .shared | .migrating | .refusing => true
  | .unwritten | .const | .lost => false

/-- Queue a tile for refresh (09 R287, R288): not twice; a rise in rank reorders it; a cause during a move waits for its end
(08 R250). -/
def queueRefresh (s : State) (ltn0 : Nat) (past : Bool) : State :=
  let ltn := refreshRep s ltn0
  let e := entryAt s ltn
  if !inUse e || (moveOf s ltn).isSome then s
  else
    let old := findP (fun x => x.1 = ltn) s.drift.refq
    let stays : Bool := match old with
      | some x => x.2.1 || !past
      | none => false
    if stays then s
    else
      let q := s.drift.refq.filter (fun x => x.1 ≠ ltn)
      let s := { s with drift := { s.drift with refq := insRefresh (ltn, past, thermalAge s e) q } }
      if past then flagDrift s (ptnChan e.ptn.toNat) 2 else s

/-! ## The refresh scanner (09 R287, R288) -/

def readTrig (s : State) : Nat := regF s .mapctl 0 48 19 12

/-- The lowest tile in use: a scanner pass begins with it. -/
def firstInUse (s : State) : Option Nat := (findP (fun x => inUse x.2) s.tabs.map).map (·.1)

/-- The highest age class of a pass (09 R299): at the first tile of a pass the last one is complete. -/
def scanClass (s : State) (ltn c k : Nat) : State :=
  let s := if firstInUse s = some ltn then
      (List.range 32).foldl (fun s c => modChan s c (fun x => { x with maxClass := x.scanMax, scanMax := 0 })) s
    else s
  modChan s c (fun x => { x with scanMax := if x.scanMax < k then k else x.scanMax })

/-- The scanner evaluates an entry against the triggers of R287; the highest rank among those met counts. -/
def scanEntry (s : State) (ltn : Nat) : State :=
  let e := entryAt s ltn
  if !inUse e || decide (refreshRep s ltn ≠ ltn) then s
  else
    let c := ptnChan e.ptn.toNat
    let ch := chanAt s c
    let age := thermalAge s e
    let l := ledAt s e.ptn.toNat
    let s := scanClass s ltn c (ageClass ch age)
    if decide (ch.deadline * hourUnits ≤ age) || decide (192 ≤ unitDist s e) || decide (l.reads = 255) then queueRefresh s ltn true
    else if decide (ch.deadline * hourUnits * regF s .mapctl 0 40 6 0 ≤ age * 100) || decide (readTrig s ≤ l.reads) then queueRefresh s ltn false
    else s

end Sys2Proof.Machine
end

