-- ==== Sys2Proof/Machine/Boot.lean ====
section
/-! DEFINITION. Start-up: OFF to STANDBY with the Beryl restore (01 R21; 19 R534 to R536; 14 R436), BOOT steps 1 to 7 (17 R485 to
R493), domain qualification (16 R461 to R465), the warmer (03 R97) and the automatic thermal restart (17 R499). -/

namespace Sys2Proof.Machine

/-! ## Beryl restore (19 R534 to R536) -/

/-- What restore finds for a page. -/
inductive Found where
  | slot (k : Nat) (rollback : Bool)
  | tie
  | lost
deriving DecidableEq, Repr

/-- The choice between the two slots of page `n` (19 R534): a slot that is not valid rolled back where it bears the page's PAGE and a newer PSEQ,
or no COMMIT. -/
def chooseSlot (n : Nat) (a b : SlotB) : Found :=
  let d := (a.psq + 2 ^ 20 - b.psq) % 2 ^ 20
  match slotValid n a, slotValid n b with
  | true, true =>
    if d = 0 then (if a.data = b.data then .slot 0 false else .tie)
    else if d = 2 ^ 19 then .tie
    else if d < 2 ^ 19 then .slot 0 false else .slot 1 false
  | true, false => .slot 0 (decide (b.page = n) && (decide (b.commit ≠ 0x5A) || decide (2 ^ 19 < d)))
  | false, true => .slot 1 (decide (a.page = n) && (decide (a.commit ≠ 0x5A) || (decide (0 < d) && decide (d < 2 ^ 19))))
  | false, false => .lost

/-- The slot record of a page. -/
def slotAt (s : State) (n k : Nat) : SlotB := sGet (slotInit (2 * n + k)) s.beryl.slots (2 * n + k)

/-- A page takes the defaults of R536: dirty, except a factory page. -/
def defaultPage (s : State) (n : Nat) : State :=
  let pg : Page := if n < 512 then factoryPage n else 0
  let s := setPage s n pg
  { s with beryl := { s.beryl with
      dirty := sSet false s.beryl.dirty n (!(decide (3456 ≤ n) && decide (n < 3712)))
      defaulted := s.beryl.defaulted ++ [n]
      lostCnt := s.beryl.lostCnt + 1 } }

/-- Restore one page. -/
def restorePage (s : State) (n : Nat) : State :=
  match chooseSlot n (slotAt s n 0) (slotAt s n 1) with
  | .slot k rb =>
    let x := slotAt s n k
    let s := { s with beryl := { s.beryl with image := sSet (factoryPage n) s.beryl.image n x.data, force := sSet 0 s.beryl.force n k } }
    if rb then
      flagBeryl (noteEv { s with beryl := { s.beryl with rollCnt := s.beryl.rollCnt + 1 } } srcBeryl 0x01A0 n x.psq 0) 2
    else s
  | .tie => flagBeryl (noteEv (defaultPage s n) srcBeryl 0x000C n (slotAt s n 0).psq 0) 4
  | .lost => flagBeryl (noteEv (defaultPage s n) srcBeryl 0x02A0 n 0 0) 3

/-- The pages whose slots differ from delivery. -/
def touchedPages (s : State) : List Nat := dedup (s.beryl.slots.map (fun x => x.1 / 2))

/-- The highest SEQ found in the NV ring, plus 1 (14 R436): a slot holds record q only when its stored SEQ names that slot. -/
def ringTop (s : State) : Nat :=
  (s.beryl.image.filter (fun x => decide (512 ≤ x.1) && decide (x.1 < 2560))).foldl (fun m x =>
    (List.range 8).foldl (fun m i =>
      let r := agOf (bitsOf x.2.toNat (256 * i + 255) (256 * i))
      if 0 < r.repeats ∧ r.seq % 16384 = (x.1 - 512) * 8 + i ∧ m < r.seq + 1 then r.seq + 1 else m) m) 0

/-- SEQ resumes after a stop that lost D00, and the reservation is stored before anything is recorded (14 R436). -/
def resumeSeq (s : State) : State :=
  let v := pgGet s pgSeq 39 0
  let h := ringTop s
  let q := if h = 0 then v else (if v < (h - 1) / 2048 * 2048 + 4096 then (h - 1) / 2048 * 2048 + 4096 else v)
  let s := pgPut { s with ag := { s.ag with next := q, resv := q + 2 ^ 24, flushed := h } } pgSeq 39 0 (q + 2 ^ 24)
  startStore s 6 [(pgSeq, pgSeq)] true

/-- Choose the image of the pages before anything is recorded: data first, so that SEQ resumes from the restored ring. -/
def preImage (s : State) (n : Nat) : State :=
  match chooseSlot n (slotAt s n 0) (slotAt s n 1) with
  | .slot k _ => { s with beryl := { s.beryl with image := sSet (factoryPage n) s.beryl.image n (slotAt s n k).data } }
  | .tie | .lost => s

/-- The keys of the key-slot pages; the metadata key comes from the page with the highest MKEY_GEN (20 R544). -/
def loadKeys (s : State) : State :=
  let slot (k : Nat) : KeySlot :=
    { inUse := (pageAt s (pgKeys + k)).getLsbD 385, rotating := (pageAt s (pgKeys + k)).getLsbD 384, lost := (pageAt s (pgKeys + k)).getLsbD 386,
      cur := BitVec.ofNat 80 (pgGet s (pgKeys + k) 79 0), new := BitVec.ofNat 80 (pgGet s (pgKeys + k) 271 192) }
  let slots := (List.range 64).foldl (fun m k => sSet keyInit m k (slot k)) []
  let best := (List.range 64).foldl (fun b k => if pgGet s (pgKeys + b) 767 704 < pgGet s (pgKeys + k) 767 704 then k else b) 0
  { s with keys := { slots := slots, meta_ := BitVec.ofNat 80 (pgGet s (pgKeys + best) 591 512), mkeyGen := pgGet s (pgKeys + best) 767 704,
                     deferred := [] } }

/-- Restore every page (19 R534, R535). `ue`: the slots, 2 × page + slot, that read with an uncorrectable error. -/
def berylRestore (s : State) (corr ue : List Nat) : State :=
  let s := { s with beryl := { s.beryl with
    slots := ue.foldl (fun m k => sMod (slotInit k) m k (fun x => { x with ue := true })) s.beryl.slots } }
  let ps := touchedPages s
  let s := { s with beryl := { s.beryl with image := [], dirty := [], force := [], defaulted := [], lostCnt := 0, rollCnt := 0, failPage := none } }
  let s := ps.foldl preImage s
  let s := resumeSeq s
  let s := ps.foldl (fun s n => if n = pgSeq then s else restorePage s n) s
  let s := corr.foldl (fun s n => flagBeryl { s with beryl := { s.beryl with dirty := sSet false s.beryl.dirty n true } } 5) s
  loadKeys (loadPersist { s with beryl := { s.beryl with restored := true } })

/-- AON_QUALIFY: OFF to STANDBY (01 R18, R21; 13 R408; 21 R571). The sideband has no endpoint ID (11 R362). -/
def aonQualifyF (s : State) (seat sbSel : Bool) (sbAddr : BitVec 2) (corr ue : List Nat) : State :=
  if s.pwr.st = .off then
    let s := { s with
      regs := []
      pwr := { s.pwr with
        st := .standby, time := 0, auxOn := true, vauxMv := 3300, seat := seat, sbSel := sbSel, sbAddr := sbAddr, eid := 0,
        fatal := false, wdOk := true, bootStep := 0 } }
    let s := berylRestore s corr ue
    let s := [Blk.global, .agate, .beryl, .power, .security].foldl (fun s b => loadStored s b 0) s
    takeGasp (syncPersist { s with pwr := { s.pwr with restartBlk := false } })
  else s

def execAonQualify (seat sbSel : Bool) (sbAddr : BitVec 2) (corr ue : List Nat) (s : State) : Host.Outcome State Fault Refusal :=
  .next (aonQualifyF s seat sbSel sbAddr corr ue)

/-! ## Entry to BOOT (17 R485, R486) -/

/-- The blocks held in D00 (13 R408). -/
def inD00 (key : Nat) : Bool :=
  let ix := key / 128
  ix == blkIdx .global || ix == blkIdx .agate || ix == blkIdx .beryl || ix == blkIdx .power

/-- A channel at entry to BOOT: what it measures starts again; its clock, tables and deadline continue (09 R276, R285, R298). -/
def bootChan (ch : Chan) : Chan :=
  { ch with burst := 0, arrivals := [], winCnt := 0, rdWin := 0, ceCnt := 0, ueCnt := 0, errs := [], latch := none,
            quiet := 0, dec := [], level := 0, temps := [], sensFail := [], sensBad := [] }

/-- Why an image fails its verification (20 R548): 0 it passes, 1 AUTH_FAIL, 2 ROLLBACK. -/
def imageFault (s : State) (i : Image) : Nat :=
  if !i.wellFormed || decide (64 < i.svn) || !i.digestOk || s.sec.revoked.getLsbD (i.keyIdx % 4) || !i.sigOk then 1
  else if i.svn < s.sec.f then 2 else 0

/-- An image fails its verification (20 R548, R561). -/
def imageFailed (s : State) (slot : Nat) (i : Image) : State := flagSec (noteEv s srcSec 0x01B0 slot i.svn 0) 0

/-- The boot ROM selects an image (17 R486; 20 R548, R549): a selected staged image that passes becomes active. -/
def selectImage (s : State) : State :=
  let s0 := { s with sec := { s.sec with selected := false, staged := .nothing } }
  match s.sec.selected, s.sec.staged with
  | true, .verified i => if imageFault s i = 0 then { s0 with sec := { s0.sec with active := i } } else imageFailed s0 1 i
  | _, _ => s

/-- BOOT reads the fuses: a fuse whose blowing a stop cut reads as blown or as intact, a free value (20 R552; log entry 90). -/
def readFuses (s : State) : State :=
  if s.sec.blowing then
    bump { s with sec := { s.sec with f := s.sec.f + (if s.sec.f < s.sec.active.svn then Config.external 60 s.freeCtr % 2 else 0), blowing := false } }
  else s

/-- Everything that starts again at entry to BOOT; the first attempt to bring up D01 begins (log entry 87) (13 R408, R415; 14 R431; 15 R446; 09 R273; 10 R325; 20 R559). -/
def enterBoot (s : State) (restart : Bool) : State :=
  let fromOff := s.pwr.bootStep = 0
  let s := { s with
    regs := s.regs.filter (fun x => inD00 x.1)
    req := { s.req with armed := [], seqs := [], ctrHi := [] }
    flt := fltReset
    qz := qzReset
    ports := []
    rings := []
    drift := { s.drift with chans := sMap (fun _ => chanDefault s) bootChan s.drift.chans, refq := [], range := none, pausedAt := none,
                            cursor := 0, line := 0, hiBin := 0 }
    pair := { pairReset with witOk := s.pair.witOk, witLast := s.pair.witLast }
    zir := { s.zir with forming := none, waiting := [], pend := planInit, testing := false, testReq := false, testNext := 0, slacks := [], takes := [], takePeak := 0, checkReq := none,
                        slackNow := 0x3FF, slackMin := 0x3FF, can := [], eyes := [], guardShort := false, cause := 0,
                        planGen := 0, wearMean := 0, retires := [], pEst := 0, sweepLate := 0, tplanMax := 1600 }
    sec := { s.sec with fails := 0, sbSessions := [], advPending := false }
    pwr := { s.pwr with st := .boot, bootStep := 1, warm := false, seqStep := 1, mainOn := true, testMode := false,
                        doms := sMod domInit [] 1 (fun _ => { domInit with st := 1, attempts := 1 }),
                        coolSince := if restart then some (now s) else none } }
  let s := [0, 1, 2, 3].foldl (fun s p => loadStored s .port p) (readFuses s)
  let s := loadStored (loadStored (loadStored s .zircon 0) .thermal 0) .security 0
  let s := (List.range 8).foldl (fun s n => loadStored s .cache n) s
  let s := if fromOff then { s with zir := { s.zir with lifeLow := decide (s.zir.remPct < regF s .zircon 0 2 11 7) } } else s
  let s := if pairSolo s then pgPut s pgPairing 210 210 1 else s
  let s := startUnit (if fromOff then resumeClocks (loadPlan s) else s)
  bootThermal { s with drift := { s.drift with cursor := pgGet s pgScrub 31 0, line := pgGet s pgScrub 39 32 } }

/-- BOOT to STANDBY (01 R21). -/
def bootToStandby (s : State) : State := enterStandby (powerDown s [])

/-- Boot step 1: no image passes, or the active one runs. -/
def bootFirmware (s : State) : State :=
  let s := selectImage s
  if imageFault s s.sec.active = 0 then s else bootToStandby (imageFailed s 0 s.sec.active)

/-- MAIN_INPUT_QUALIFY: STANDBY to BOOT, with boot step 1 (17 R485, R486). BOOT waits for the restore (19 R534). -/
def mainInputQualifyF (s : State) : State :=
  if s.pwr.st = .standby && !s.pwr.pwrFail && s.beryl.restored then
    bootFirmware (enterBoot { s with pwr := { s.pwr with vinMv := if 10800 ≤ s.pwr.vinMv ∧ s.pwr.vinMv ≤ 13200 then s.pwr.vinMv else 12000 } } false)
  else s

def execMainInputQualify (s : State) : Host.Outcome State Fault Refusal := .next (mainInputQualifyF s)

/-- THERMAL_RESTART: in Expert, HALT with thermal cause to BOOT (17 R499; 18 R520; 14 R433). -/
def thermalRestartF (s : State) : State :=
  let cool := match s.pwr.coolSince with
    | some x => decide (x + 60000000000 ≤ now s)
    | none => false
  if s.pwr.st = .halt && s.pwr.haltTh && expertEn s 12 && !s.pwr.restartBlk && cool then
    let s := { s with th := { s.th with restarts := satAdd 0xFFFFF s.th.restarts 1 }, pwr := { s.pwr with fatal := false } }
    bootFirmware (syncPersist (exitHaltThermal (enterBoot s true)))
  else s

def execThermalRestart (s : State) : Host.Outcome State Fault Refusal := .next (thermalRestartF s)

/-! ## Boot step 2 (17 R485; 05 R162; 16 R481) -/

/-- Apply the retirement pages: slices, channels and dies stay retired (05 R162; 17 R488). -/
def applyRetired (s : State) : State :=
  let s := { s with cache := { cacheReset with steer := [] } }
  let s := (List.range 8).foldl (fun s n => if sliceRetiredPg s n then dropSlice s n else s) s
  (List.range 32).foldl (fun s c => modChan s c (fun x =>
    { x with retired := chanRetiredPg s c,
             live := BitVec.ofNat 6 (sumOf (fun d => if (chanDefault s).live.getLsbD d && !dieFailedPg s (c * 8 + d) then 2 ^ d else 0) (List.range 6)) })) s

/-- A slice that is restored with fewer than 12 enabled ways is retired, unless it is the last live one; that one keeps running unless it has no way left
(05 R159, R160). -/
def checkWays (s : State) (n : Nat) : State :=
  if (sliceAt s n).retired then s
  else if liveSlices s = [n] then (if openWays s n = 0 then fatal s (srcSlice n) 0x0306 0 0 0 else s)
  else if openWays s n < 12 then replanCause (startStore (putSliceRetired (dropSlice s n) n) 6 [(pgRetire, pgRetire)] false) 5
  else s

/-- BOOT_SETTINGS, once D01 has qualified. -/
def bootSettingsF (s : State) : State :=
  if s.pwr.st = .boot && s.pwr.bootStep = 1 && decide ((domAt s 1).st = 2) then
    let s := (List.range 8).foldl checkWays (applyRetired { s with pwr := { s.pwr with bootStep := 2 } })
    if s.pwr.st ≠ .boot then s
    else if shutCode s = 1 then noteEv (storeShut (countDirty s 5)) srcPower 0x0280 0 0 5 else s
  else s

def execBootSettings (s : State) : Host.Outcome State Fault Refusal := .next (bootSettingsF s)

/-! ## Domains (16 R459 to R465) -/

/-- The domains of a power-up step (16 R459). -/
def upStep (n : Nat) : List Nat :=
  if n = 2 then [7]
  else if n = 3 then (List.range 8).map (· + 8)
  else if 4 ≤ n ∧ n ≤ 7 then (List.range 8).map (· + (16 + 8 * (n - 4)))
  else if 8 ≤ n ∧ n ≤ 11 then (List.range 8).map (· + (48 + 8 * (n - 8)))
  else if n = 12 then [6]
  else if n = 13 then [2, 3, 4, 5]
  else []

/-- A retired channel: TILE_RETIRED for each of its dies (08 R260, R261), the retirement page, and a re-plan (18 R501). -/
def retireChannel (s : State) (c : Nat) : State :=
  if (chanAt s c).retired then s
  else
    let dies := (List.range 6).filter (fun d => (chanAt s c).live.getLsbD d)
    let s := putChanRetired (modChan s c (fun x => { x with retired := true, level := 0 })) c
    replanCause (dies.foldl (fun s d => noteDieRetired s (c * 8 + d)) s) 5

/-- The effect of a domain that failed to come up (16 R465). -/
def domainFail (s : State) (d : Nat) : State :=
  if d = 1 ∨ d = 7 then bootToStandby (noteEv s srcPower 0x0282 d 0 0)
  else if 8 ≤ d ∧ d ≤ 15 then
    let s := replanCause (putSliceRetired (dropSlice (noteEv s srcPower 0x0181 d 0 0) (d - 8)) (d - 8)) 5
    (match liveSlices s with
      | [] => fatal s (srcSlice (d - 8)) 0x0306 0 0 0
      | [n] => if openWays s n = 0 then fatal s (srcSlice n) 0x0306 0 0 0 else s
      | _ => s)
  else if 16 ≤ d ∧ d ≤ 47 then retireChannel (noteEv s srcPower 0x0281 d 0 0) (d - 16)
  else if 48 ≤ d then retireChannel (offDom (noteEv s srcPower 0x0281 d 0 0) (d - 32) 0) (d - 48)
  else noteEv s srcPower 0x0181 d 0 0

/-- Whether a domain is kept off: by OFF_REQ for D02 to D06 (16 R483), or because its slice or channel is retired (05 R159, 17 R488). -/
def keptOff (s : State) (d : Nat) : Option Nat :=
  if decide (2 ≤ d) && decide (d ≤ 6) && regB s .power 0 d 8 then some 6
  else if decide (8 ≤ d) && decide (d ≤ 15) && (sliceAt s (d - 8)).retired then some 0
  else if decide (16 ≤ d) && decide (d ≤ 47) && (chanAt s (d - 16)).retired then some 0
  else if decide (48 ≤ d) && (chanAt s (d - 48)).retired then (if (domAt s (d - 32)).st = 3 then some 5 else some 0)
  else none

/-- Start a qualification attempt, or keep the domain off. -/
def startDom (s : State) (d : Nat) : State :=
  match keptOff s d with
  | some c => modDom s d (fun _ => { domInit with st := if c = 5 then 3 else 0, cause := c })
  | none => modDom s d (fun _ => { domInit with st := 1, attempts := 1 })

/-- Whether a step has a domain still qualifying. -/
def stepBusy (s : State) (n : Nat) : Bool := (upStep n).any (fun d => (domAt s d).st = 1)

/-- Go on to the next step once every domain of this one has qualified or failed; after step 13 sequencing is idle (16 R464). -/
def advanceSeq : Nat → State → State
  | 0, s => s
  | k + 1, s =>
    if s.pwr.st ≠ .boot ∨ s.pwr.seqStep < 2 then s
    else if stepBusy s s.pwr.seqStep then s
    else
      let n := s.pwr.seqStep + 1
      if 13 < n then { s with pwr := { s.pwr with seqStep := 0 } }
      else advanceSeq k ((upStep n).foldl startDom { s with pwr := { s.pwr with seqStep := n } })

/-- BOOT_SEQUENCING: boot step 3 begins with power-up step 2 (16 R464). -/
def bootSequencingF (s : State) : State :=
  if s.pwr.st = .boot && s.pwr.bootStep = 2 then
    advanceSeq 12 ((upStep 2).foldl startDom { s with pwr := { s.pwr with bootStep := 3, seqStep := 2 } })
  else s

def execBootSequencing (s : State) : Host.Outcome State Fault Refusal := .next (bootSequencingF s)

/-- The block of a domain returns to its reset values when the domain is switched on (13 R408). -/
def domBlocks (s : State) (d : Nat) : State :=
  if 2 ≤ d ∧ d ≤ 5 then resetRegs (resetRegs s .port (d - 2) (fun _ => false)) .ring (d - 2) (fun _ => false)
  else if d = 6 then resetRegs s .spinel 0 (fun _ => false)
  else if 8 ≤ d ∧ d ≤ 15 then resetRegs s .cache (d - 8) (fun _ => false)
  else if 16 ≤ d ∧ d ≤ 47 then resetRegs s .channel (d - 16) (fun _ => false)
  else s

/-- Full token buckets for the dies of a channel: 8 tokens, 32 quarters each (04 R127). -/
def fillTokens (s : State) (c : Nat) : State :=
  { s with cist := { s.cist with tok := (List.range 6).foldl (fun m d => sSet 0 m (c * 8 + d) 32) s.cist.tok } }

/-- A domain has qualified. -/
def domainUp (s : State) (d : Nat) : State :=
  let s := domBlocks (modDom s d (fun x => { x with st := 2, cause := 0 })) d
  if 16 ≤ d ∧ d ≤ 47 then fillTokens s (d - 16) else s

/-- A die at or above its warning threshold when its group qualifies in an automatic restart: power-down and a new HALT with thermal
cause, with no further restart until a power cycle (17 R499). -/
def hotRestart (s : State) (d : Nat) (t4 : Int) : State :=
  if decide (48 ≤ d) && s.pwr.coolSince.isSome && decide (thrMedia s 1 ≤ t4) then
    syncPersist (enterHalt (powerDown { s with pwr := { s.pwr with restartBlk := true } } []) true)
  else s

/-- DOMAIN_QUAL_END: an attempt ends (16 R461, R462, R465). `temp` is in °C. -/
def domainQualEndF (s : State) (d : Nat) (how : QualEnd) (temp : Int) : State :=
  let x := domAt s d
  if s.pwr.st = .boot && x.st = 1 && x.cause = 0 then
    match how with
    | .ok => advanceSeq 12 (hotRestart (domainUp s d) d (4 * temp))
    | .noPowerGood | .dropped =>
      let c := match how with | .ok => 0 | .noPowerGood => 1 | .dropped => 2
      if x.attempts < 3 then modDom s d (fun x => { x with cause := c })
      else advanceSeq 12 (domainFail (modDom s d (fun x => { x with st := 3, cause := c })) d)
  else s

def execDomainQualEnd (d : Domain) (how : QualEnd) (temp : Int) (s : State) : Host.Outcome State Fault Refusal :=
  .next (domainQualEndF s d.val how temp)

/-- DOMAIN_QUAL_RETRY: after 250 µs with the switches open, the next attempt (16 R461). -/
def domainQualRetryF (s : State) (d : Nat) : State :=
  let x := domAt s d
  if s.pwr.st = .boot && x.st = 1 && decide (x.cause ≠ 0) && decide (x.attempts < 3) then
    modDom s d (fun x => { x with cause := 0, attempts := x.attempts + 1 })
  else s

def execDomainQualRetry (d : Domain) (s : State) : Host.Outcome State Fault Refusal := .next (domainQualRetryF s d.val)

/-! ## Boot steps 4 and 5 (17 R487, R488) -/

/-- DRAM_TRAINING: failing rows retire with those listed; past 1/64 of the rows D07 counts as failed. -/
def dramTrainingF (s : State) (bad : List Nat) (tooMany : Bool) : State :=
  if s.pwr.st = .boot && s.pwr.bootStep = 3 && s.pwr.seqStep = 0 then
    let s := { s with pwr := { s.pwr with bootStep := 4 } }
    let rows := dedup (rowsPg s ++ bad)
    let s := putRows { s with mapu := { s.mapu with badSlots := rows } } 0 rows
    if tooMany then bootToStandby (noteEv (modDom s 7 (fun x => { x with st := 3 })) srcPower 0x0282 7 0 0) else s
  else s

def execDramTraining (badSlots : List Nat) (tooMany : Bool) (s : State) : Host.Outcome State Fault Refusal :=
  .next (dramTrainingF s badSlots tooMany)

/-- The dies of a channel that fail discovery: CHANNEL_FAIL with their mask, one TILE_RETIRED each; a channel with no live die
retires (17 R488; 08 R261). -/
def failDies (s : State) (failed : List Nat) (c : Nat) : State :=
  let ds := (List.range 6).filter (fun d => failed.contains (c * 8 + d) && (chanAt s c).live.getLsbD d)
  if ds.isEmpty || (chanAt s c).retired then s
  else
    let mask := sumOf (fun d => 2 ^ d) ds
    let s := noteEv s srcPower 0x0281 (48 + c) mask 0
    let s := ds.foldl (fun s d => noteDieRetired (putDieFailed s (c * 8 + d)) (c * 8 + d)) s
    let s := modChan s c (fun x => { x with live := x.live &&& ~~~ BitVec.ofNat 6 mask })
    let s := replanCause s 5
    if (chanAt s c).live = 0 then putChanRetired (modChan s c (fun x => { x with retired := true })) c else s

/-- At BOOT the Pump computes the quotas of the live dies from the stored plan (04 R119). -/
def bootQuotas (s : State) : State :=
  let dirty := planDirty s
  lowEnergy { s with cist := { s.cist with
      dirtyLim := dirty, nextQuota := []
      quota := (liveDies s).foldl (fun m d => sSet 163840 m d (quotaFor s dirty (sGet 1600 s.cist.tplan d))) [] } } dirty

/-- DIE_DISCOVERY. -/
def dieDiscoveryF (s : State) (failed : List Nat) : State :=
  if s.pwr.st = .boot && s.pwr.bootStep = 4 then
    bootQuotas ((List.range 32).foldl (fun s c => failDies s failed c) { s with pwr := { s.pwr with bootStep := 5 } })
  else s

def execDieDiscovery (failed : List Nat) (s : State) : Host.Outcome State Fault Refusal := .next (dieDiscoveryF s failed)

end Sys2Proof.Machine
end

