-- ==== Sys2Proof/Machine/Replay.lean ====
section
/-! DEFINITION. What the arrival of a map page does (07 R212, R213, R231; 17 R489), what replay rebuilds and how it fails (08 R246, R248; 17 R492;
20 R545, R558), entry to SERVICE (17 R493, R494) and the order of the warmer (03 R97). Replay itself stands in ReplayCmd. -/

namespace Sys2Proof.Machine

/-! ## Arrival of map entries -/

/-- Set an entry in the map cache without a journal record; its page is dirty. -/
def putEntry (s : State) (ltn : Nat) (e : MapEntry) : State :=
  { s with tabs := { s.tabs with map := sSet entryInit s.tabs.map ltn e }, mapu := { s.mapu with dirty := sSet false s.mapu.dirty (pageOf ltn) true } }

/-- An entry becomes LOST and keeps its GEN (07 R204). -/
def makeLost (s : State) (ltn : Nat) : State :=
  let e := entryAt s ltn
  putEntry s ltn { st := .lost, ptn := 0, rot := 0, epoch := 0, gen := e.gen }

/-- Whether an entry names a physical tile. -/
def names (e : MapEntry) : Bool :=
  match e.st with
  | .mapped | .shared | .migrating | .refusing => true
  | .unwritten | .const | .lost => false

/-- A tile on a failed die or retired channel (17 R489), or of a well whose key is lost (20 R545), becomes LOST as its entry enters
the map cache; the physical tile of the former is retired. -/
def convertEntry (s : State) (ltn : Nat) : State :=
  let e := entryAt s ltn
  let dead := !dieLive s (ptnDieIx e.ptn.toNat)
  let keyLost := match wellOfLtn s.tabs.wells ltn with
    | some (_, w) => (keyAt s w.key).lost && !(s.mapu.loaded.any (fun x => x.1 = pageOf ltn && x.2)) && decide (s.mapu.warmNext ≤ pageOf ltn)
    | none => false
  if names e && (dead || keyLost) then
    let s := makeLost s ltn
    let s := if dead then
        { s with
          tabs := { s.tabs with tile := sSet 0 s.tabs.tile e.ptn.toNat 3 }
          mapu := { s.mapu with dirty := sSet false s.mapu.dirty (tileObj s.sec.variant e.ptn.toNat) true } }
      else s
    { s with mapu := { s.mapu with converted := s.mapu.converted + 1, convertedLtns := s.mapu.convertedLtns ++ [ltn] } }
  else s

/-- The tiles of a page that hold anything. -/
def pageTiles (s : State) (p : Nat) : List Nat := (s.tabs.map.filter (fun x => decide (pageOf x.1 = p))).map (·.1)

/-- Entries whose frame is uncorrectable become LOST, with a record each in the journal and a contained event each (07 R216, R231). In PAIRED
they are rebuilt from the peer. -/
def mapLost (s : State) (ltns : List Nat) : State :=
  if ltns.isEmpty then s
  else
    let s := ltns.foldl (fun s l =>
      report (jAppend s [.mapSet l { entryInit with st := .lost, gen := (entryAt s l).gen } false]) srcMap 0x0207 l 0 0) (flagMapUe s)
    becomeTarget s ltns

/-- Pages held by wells with PIN (03 R97), or by PIN_MAP (12 R383). -/
def isPinPage (s : State) (p : Nat) : Bool :=
  s.mapu.pinPages.contains p || s.tabs.wells.any (fun x => x.2.live && x.2.pin && decide (x.2.base * 8 ≤ p) && decide (p < (x.2.base + x.2.size) * 8))

/-- Whether a page of a well without PIN is resident. -/
def otherHere (s : State) : Bool := s.mapu.resident.any (fun x => x.2 && !isPinPage s x.1)

/-- A page in an overflow slot is used: it becomes the most recent. A full pool gives up its least recently used page, one of a PIN well only
where no other page is resident (03 R89; 07 R213). -/
def overflowIn (s : State) (p : Nat) : State :=
  let l := p :: s.mapu.overflow.filter (fun q => q ≠ p)
  if l.length ≤ 4096 then { s with mapu := { s.mapu with overflow := l, resident := sSet false s.mapu.resident p true } }
  else
    let cand := (l.drop 1).filter (fun q => !isPinPage s q)
    match (if cand.isEmpty then (if isPinPage s p && !otherHere s then l.drop 1 else []) else cand).reverse with
    | [] => s
    | v :: _ =>
      let res := sSet false (sSet false s.mapu.resident v false) p true
      { s with mapu := { s.mapu with overflow := l.filter (fun q => q ≠ v), resident := res } }

/-- Whether every slot of a page lies in a retired row (07 R212, R213). -/
def slotsBad (s : State) (p : Nat) : Bool :=
  s.mapu.badSlots.contains p && (match s.sec.variant with
    | .y32 => true
    | .y16 => s.mapu.badSlots.contains (p + 2 ^ 19))

/-- A page enters the map cache (07 R212, R213; 17 R489). On the Y32 a page whose slot lies in a retired row goes to the overflow pool: the warmer
leaves one that does not fit non-resident. The Y16 has no such pool: a page both of whose slots lie in retired rows is held in another good row
(03 R89; log entry 84). -/
def installPage (s : State) (p : Nat) (demand : Bool) : State :=
  let s := (pageTiles s p).foldl convertEntry s
  let pool : Bool := slotsBad s p && decide (s.sec.variant = .y32)
  if !pool then { s with mapu := { s.mapu with resident := sSet false s.mapu.resident p true } }
  else if demand || decide (s.mapu.overflow.length < 4096) || s.mapu.overflow.contains p then overflowIn s p
  else s

/-! ## What replay rebuilds -/

/-- The free pools from the tile-state map: tiles below the highest one ever used return in ascending order, each in the bucket of its
wear (08 R246). -/
def rebuildPool (s : State) (die : Nat) : State :=
  let used := (s.tabs.tile.filter (fun x => decide (ptnDieIx x.1 = die))).map (·.1)
  let worn := (s.wear.led.filter (fun x => decide (ptnDieIx x.1 = die))).map (·.1)
  let nxt := maxOf (fun p => p % 2 ^ 24 + 1) 0 (used ++ worn)
  let back := ((List.range nxt).filter (fun k => !reservedPos k && !used.contains (die * 2 ^ 24 + k))).map (fun k =>
    (die * 2 ^ 24 + k, (ledAt s (die * 2 ^ 24 + k)).wear / 65536 % 16))
  modPool s die (fun _ => { next := nxt, back := back })

/-- Tiles in state 2 are reset again (08 R248). -/
def requeueResets (s : State) : State :=
  s.tabs.tile.foldl (fun s x => if x.2 = 2 then
    { s with wear := { s.wear with resetq := sMod [] s.wear.resetq (ptnDieIx x.1) (fun l => l ++ [x.1]) } } else s) s

/-- Wells whose key slot was lost at restore: a new key, KEY_LOST = 1, and its record (20 R545). -/
def lostKeys (s : State) : List (Nat × Well) → State
  | [] => s
  | (i, w) :: r =>
    if w.live && s.beryl.defaulted.contains (pgKeys + w.key) then
      let s := setKey s w.key { inUse := true, rotating := false, lost := true, cur := Config.keyDraw s.freeCtr, new := 0 }
      lostKeys (noteEv (storeKey (bump s) w.key) srcSec 0x02B1 i 0 0) r
    else lostKeys s r

/-- Replay fails: JOURNAL_BREAK, and HALT without a Drain (17 R492). -/
def replayFails (s : State) (a0 a1 : Nat) : State := fatal s srcMap 0x0305 a0 a1 0

/-- Every tile of the live dies but anchors, sentinels and retired ones is queued for reset, with nothing free, and the map holds nothing: the
journal is empty, and what the next checkpoint must write is the well table, the ledgers and the tile states (12 R386; 20 R558). -/
def queueAll (s : State) : State :=
  let dies := (List.range 256).filter (dieLive s)
  let of (d : Nat) : List Nat := ((List.range (2 ^ 24)).filter (fun k => !reservedPos k)).map (· + d * 2 ^ 24)
  let keep (p : Nat) : Bool := decide (tileAt s p = 3)
  let objs := objWell :: (List.range 49152).map (· + objTile) ++ s.wear.led.map (fun x => ledObjNo s.sec.variant x.1)
  { s with
    tabs := { s.tabs with tile := dies.flatMap (fun d => (of d).map (fun p => (p, if keep p then 3 else 2))) }
    wear := { s.wear with
      resetq := dies.map (fun d => (d, (of d).filter (fun p => !keep p)))
      pools := dies.map (fun d => (d, { next := 2 ^ 24, back := [] }))
      freeing := [] }
    mapu := { s.mapu with tail := [], tailAt := [], lines := [], durable := s.mapu.jnext, jtile := 0, jline := 0, jtileNext := 0, jtake := 0, jnextTake := 0,
                          jclosed := [], jbad := [], jmap := [], mseqOf := [], pageSeq := [], ckpt := none, ckptTiles := [], superseded := []
                          dirty := objs.foldl (fun d o => sSet false d o true) [] } }

/-- A BOOT that finds SAN_RUN = 1: nothing is replayed, every entry is UNWRITTEN, every tile but anchors, sentinels and retired ones
is queued for reset, and every key is drawn again (20 R558). The wells and the retired tiles are those of the start of the SANITIZE (log entry
83). -/
def sanitizeResume (s : State) : State :=
  let t := { tablesInit with wells := s.sec.sanWells, tile := s.sec.sanRetired.foldl (fun m p => sSet 0 m p 3) [] }
  let s := { s with tabs := t, cmds := { s.cmds with sanitizing := true, sanStep := 3 } }
  let s := { s with keys := { s.keys with meta_ := Config.keyDraw s.freeCtr, mkeyGen := s.keys.mkeyGen + 1 } }
  let s := (List.range 64).foldl (fun s k =>
    let s := bump s
    setKey s k { inUse := (keyAt s k).inUse, rotating := false, lost := false, cur := Config.keyDraw s.freeCtr, new := 0 }) s
  startStore (queueAll (bump s)) 6 [(pgKeys, pgKeys + 63)] false

/-! ## Entering SERVICE (17 R493, R494) -/

/-- The open list that a module presents: with the tiles it converted to LOST (10 R329; 17 R490). -/
def presentOpen (s : State) : State :=
  if s.mapu.convertedLtns.isEmpty || !pairOpenValid s then s
  else writeOpenList s (dedup (storedOpen s ++ s.mapu.convertedLtns)) true

/-- Send pairing page 0 and the open list (10 R329). -/
def sendJoin (s : State) : State :=
  let s := presentOpen s
  let pg := pageAt s pgPairing
  let s := (List.range 4).foldl (fun s i => send s (.joinPage i (BitVec.ofNat 512 (bitsOf pg.toNat (512 * i + 511) (512 * i))))) s
  if pairOpenValid s then sendOpenList s (storedOpen s) else send s (.joinEnd 0 0)

/-- Enter JOINING (10 R323). What the peer has sent since the link became ACTIVE stands. -/
def enterJoining (s : State) : State :=
  let s := enterRole s .joining
  let s := { s with pair := { s.pair with
    joinAt := now s, decided := false, isTarget := false, syncSrc := false, allInUse := false, sync := [], hand := .none, diverged := false,
    home := .peer } }
  if s.pair.linkUp then sendJoin s else s

/-- The ports answer CXL.mem from entry to SERVICE (11 R359). -/
def setMemActive (s : State) : State := (portsOn s).foldl (fun s p => modPort s p (fun x => { x with memActive := true })) s

/-- The security block advances the rollback fuses, or waits for ADV_NOW (20 R551). -/
def startAdvance (s : State) : State :=
  if s.sec.f < s.sec.active.svn then
    if expertEn s 16 && regB s .security 0 3 0 then { s with sec := { s.sec with advPending := true } }
    else { s with sec := { s.sec with blowing := true } }
  else s

/-- ENTER_COLD: boot step 7. The first occurrence evaluates the capacity condition and stores SHUT = RUNNING; once that store has
verified, the next one finds the bank at 34 V and enters SERVICE (COLD) (17 R493; 16 R474, R481). -/
def enterColdF (s : State) : State :=
  if s.pwr.st = .boot && s.pwr.bootStep = 6 then
    storeShut (putShut (evalCapacity { s with pwr := { s.pwr with bootStep := 7 } }) 1)
  else if s.pwr.st = .boot && s.pwr.bootStep = 7 && shutCode s = 1 && !sGet false s.beryl.dirty pgShutdown
      && !s.beryl.prog.any (fun x => x.1 = pgShutdown) then
    let s := { s with pwr := { s.pwr with st := .service, warm := false, vbankMv := 35000, coolSince := none },
                          zir := { s.zir with svcAt := now s } }
    let s := setMemActive s
    let s := { s with mapu := { s.mapu with ckptReq := true }, pair := { s.pair with home := .all } }
    let s := startAdvance s
    if hasIdentity s || (s.pair.linkUp && regB s .spinel 0 2 0) then enterJoining s else s
  else s

def execEnterCold (s : State) : Host.Outcome State Fault Refusal := .next (enterColdF s)

/-! ## The warmer (03 R97) -/

/-- The pages of PIN wells not yet loaded, in ascending well number. -/
def pinTodo (s : State) : Option Nat :=
  findP (fun p => !sGet false s.mapu.loaded p)
    ((s.tabs.wells.filter (fun x => x.2.live && x.2.pin)).flatMap (fun x => (List.range (x.2.size * 8)).map (· + x.2.base * 8)))

/-- Skip the pages already loaded in PIN order. -/
def skipLoaded (m : Store Bool) (n : Nat) : Nat := m.foldl (fun n x => if x.1 = n then n + 1 else n) n

/-- The next page in the warmer's order. -/
def warmerPage (s : State) : Option Nat :=
  match pinTodo s with
  | some p => some p
  | none => if s.mapu.warmNext < mapPages s.sec.variant then some s.mapu.warmNext else none

/-- A page has been loaded once; the ascending order passes what has been (03 R97). The pages loaded by PIN_MAP go first among the others (12
R383): they are named in `pinPages`. -/
def markLoaded (s : State) (p : Nat) : State :=
  let l := sSet false s.mapu.loaded p true
  { s with mapu := { s.mapu with loaded := l, warmNext := skipLoaded l s.mapu.warmNext } }

/-- The module enters WARM once every page has been loaded once (01 R21; 17 R485, R494), which is a re-plan cause (18 R501). -/
def enterWarm (s : State) : State :=
  let step := if s.pair.role = .joining then 7 else 9
  replanCause { s with pwr := { s.pwr with warm := true, bootStep := if s.pwr.bootStep < step then step else s.pwr.bootStep } } 0

/-- Step 9 is reached when the module is WARM and not JOINING (17 R494). -/
def reachJoined (s : State) : State :=
  if s.pwr.st = .service && s.pwr.warm && s.pair.role ≠ .joining then { s with pwr := { s.pwr with bootStep := 9 } } else s

end Sys2Proof.Machine
end

