-- ==== Sys2Proof/Machine/DrainOps.lean ====
section
/-! DEFINITION. The end of the Drain: its record and its final store (16 R477 to R479). -/

namespace Sys2Proof.Machine

/-! ## The end of the Drain -/

/-- Whether the journal holds no record that is not durable: then step 3 of the Drain has ended (16 R477; 07 R224). -/
def journalDone (s : State) : Bool := s.mapu.tail.isEmpty && s.mapu.lines.isEmpty

/-- Step 5 of the Drain, then step 6: the record, the shutdown page, the final store, and the power-down (16 R477, R479, R481). The
pages dirtied since step 4 go with it. -/
def drainStep5 (s : State) (d : Drain) (stuck : List Nat) : State :=
  let us := (now s - d.start) / 1000
  let s := if d.overrun then noteEv s srcPower 0x0280 (dirtyCount s) (cisternCount s) 3
    else noteEv s srcPower 0x0185 d.lines us 0
  let s := if d.lost then noteEv s srcPower 0x0280 1 0 6 else s
  let s := if d.overrun then countDirty s 3
    else
      let s := if d.lost then countDirty s 6 else putShut s 0
      pgPut s pgShutdown 53 38 (us / 10)
  let s := { s with pwr := { s.pwr with drain := some { d with recorded := true } } }
  powerDown (startStore s 3 [(0, 3455)] false) stuck

/-- Step 5 begins when steps 3 and 4 have ended. Once it has, the domains go off: what step 3 programs is programmed before. -/
def drainFinish (s : State) (stuck : List Nat) : State :=
  match s.pwr.drain with
  | some d => if d.linesDone && journalDone s && d.stored && !d.recorded then drainStep5 s d stuck else s
  | none => s

end Sys2Proof.Machine
end

