-- ==== Sys2Proof/Machine/PowerEv.lean ====
section
/-! DEFINITION. Power events: input triggers and dips (16 R468 to R472), the auxiliary input, power-good of a running domain (R463,
R467), the bank's cutoff (R476), the end of the Drain (R477 to R479), PERST_N and the exit from HALT (11 R360; 17 R498). -/

namespace Sys2Proof.Machine

/-- The main input counts as present from 9.8 V, below which the bank feeds the module bus (16 R457; log entry 14). -/
def mainPresent (mv : Nat) : Bool := decide (9800 ≤ mv)

/-- DRAIN_THR in mV (16 R484). -/
def drainThr (s : State) : Nat := regF s .power 0 88 13 0

/-- With neither input, a stopped module ends in OFF (01 R21). -/
def offIfDark (s : State) : State :=
  if !s.pwr.auxOn && !s.pwr.mainOn && s.pwr.st ≠ .drain && s.pwr.st ≠ .off then enterOff s else s

/-- INPUT_TRIGGER (16 R468, R469). -/
def inputTriggerF (s : State) (pwrFail : Bool) (vin : Nat) (stuck : List Nat) : State :=
  if s.pwr.st = .off then { s with pwr := { s.pwr with pwrFail := pwrFail, vinMv := vin, mainOn := mainPresent vin } }
  else
    let s := { s with pwr := { s.pwr with pwrFail := pwrFail, vinMv := vin, mainOn := mainPresent vin } }
    if !pwrFail && decide (drainThr s ≤ vin) then s
    else
      let s := flagPwr s 0
      match s.pwr.st with
      | .off | .standby | .drain | .halt => s
      | .boot => enterStandby (noteEv (powerDown s stuck) srcPower 0x0282 0 1 0)
      | .service =>
        if s.pwr.bankFailed then fatal s srcPower 0x0304 0 0 0
        else drainStart { s with pwr := { s.pwr with onBank := true } } false false false

def execInputTrigger (pwrFail : Bool) (vinMv : Nat) (stuck : List Nat) (s : State) : Host.Outcome State Fault Refusal :=
  .next (inputTriggerF s pwrFail vinMv stuck)

/-- AUX_LOST: with the main input present a record (16 R471); without it the module ends in OFF, except that a Drain runs on from the
bank (16 R480; 01 R21). -/
def auxLostF (s : State) : State :=
  if s.pwr.st = .off then { s with pwr := { s.pwr with auxOn := false, vauxMv := 0 } }
  else
    let s := { s with pwr := { s.pwr with auxOn := false, vauxMv := 0 } }
    if s.pwr.mainOn then flagPwr (noteEv s srcPower 0x0183 0 0 0) 2 else offIfDark s

def execAuxLost (s : State) : Host.Outcome State Fault Refusal := .next (auxLostF s)

/-- AUX_RESTORED (16 R471, R480). -/
def auxRestoredF (s : State) : State := { s with pwr := { s.pwr with auxOn := true, vauxMv := 3300 } }

def execAuxRestored (s : State) : Host.Outcome State Fault Refusal := .next (auxRestoredF s)

/-- INPUT_DIP: VIN below 10.8 V and above DRAIN_THR for 1 ms (16 R482). -/
def inputDipF (s : State) (vin : Nat) : State :=
  if decide (s.pwr.st ≠ .off) && decide (vin < 10800) && decide (drainThr s < vin) then
    flagPwr (noteEv { s with pwr := { s.pwr with vinMv := vin } } srcPower 0x0184 0 0 0) 1
  else s

def execInputDip (vinMv : Nat) (s : State) : Host.Outcome State Fault Refusal := .next (inputDipF s vinMv)

/-- INPUT_COLLAPSE: both inputs collapse during start-up, test or recovery, or in HALT (16 R472; 01 R21). Frames whose program was
interrupted in JTAG test mode stay OPEN (06 R180). In SERVICE and DRAIN the input loss is a trigger, not this event. -/
def inputCollapseF (s : State) (frames : List Nat) : State :=
  if s.pwr.st = .standby ∨ s.pwr.st = .boot ∨ s.pwr.st = .halt then
    let s := if s.pwr.testMode then
        frames.foldl (fun s k => setFrame s (k / 256) (k % 256) { frameAt s (k / 256) (k % 256) with marker := .opened }) s
      else s
    enterOff { s with pwr := { s.pwr with mainOn := false, auxOn := false, vinMv := 0, vauxMv := 0 } }
  else s

def execInputCollapse (interrupted : List Nat) (s : State) : Host.Outcome State Fault Refusal := .next (inputCollapseF s interrupted)

/-- AON_POWER_LOST: the always-on supply is lost; from every state the module is OFF (01 R18, R21). -/
def aonPowerLostF (s : State) : State :=
  if s.pwr.st = .off then s
  else enterOff { s with pwr := { s.pwr with mainOn := false, auxOn := false, vinMv := 0, vauxMv := 0 } }

def execAonPowerLost (s : State) : Host.Outcome State Fault Refusal := .next (aonPowerLostF s)

/-- MAIN_INPUT_CYCLE: with the four PERST_N latches set, the 12 V input goes below 2.0 V for 10 ms and is restored while the auxiliary
input is held: HALT to STANDBY (17 R498; 14 R433; 18 R517, R520). -/
def mainInputCycleF (s : State) : State :=
  if s.pwr.st = .halt && s.pwr.perstLatch = 0xF && s.pwr.auxOn then
    let s := exitHaltThermal { s with pwr := { s.pwr with fatal := false, restartBlk := false, mainOn := true, vinMv := 12000 } }
    syncPersist (enterStandby s)
  else s

def execMainInputCycle (s : State) : Host.Outcome State Fault Refusal := .next (mainInputCycleF s)

/-! ## Running domains (16 R463, R467) -/

/-- A running-rail fault: RAIL_FAULT, switch-off, HALT (16 R467). -/
def railFault (s : State) (d : Nat) : State := modDom (fatal s srcPower 0x0303 d 0 0) d (fun x => { x with cause := 3 })

/-- A glitch: counted, and PG_CHATTER once for a window [t, t + 1 s) in which it is the sixteenth, t being the first of the sixteen. A later glitch of
that window belongs to no other (16 R463; log entry 93). -/
def glitch (s : State) (d : Nat) : State :=
  let s := modDom (flagDom s d) d (fun x => { x with glitches := satAdd 127 x.glitches 1 })
  let x := domAt s d
  if now s < x.chatMute then s
  else
    let l := x.chat.filter (fun t => decide (now s < t + 1000000000)) ++ [now s]
    if 16 ≤ l.length then
      flagPwr (noteEv (modDom s d (fun x => { x with chat := [], chatMute := l.headD 0 + 1000000000 })) srcPower 0x0180 d 0 0) 4
    else modDom s d (fun x => { x with chat := l })

/-- PG_DEASSERT of a qualified domain, for `len10` × 10 ns. -/
def pgDeassertF (s : State) (d len10 : Nat) : State :=
  if (domAt s d).st = 2 then (if len10 < regF s .power 0 89 9 4 then glitch s d else railFault s d) else s

def execPgDeassert (d : Domain) (len10 : Nat) (s : State) : Host.Outcome State Fault Refusal := .next (pgDeassertF s d.val len10)

/-- RAIL_VOLTAGE_FAULT: a rail of a running domain out of its range for 500 ns. -/
def railVoltageFaultF (s : State) (d : Nat) : State := if (domAt s d).st = 2 then railFault s d else s

def execRailVoltageFault (d : Domain) (s : State) : Host.Outcome State Fault Refusal := .next (railVoltageFaultF s d.val)

/-! ## The Drain's ends -/

/-- BANK_CUTOFF: the bank reaches 15.0 V during a Drain: switch-off as in R467, then HALT (16 R476). -/
def bankCutoffF (s : State) : State :=
  if s.pwr.st = .drain then offIfDark (enterHalt (switchOff { s with pwr := { s.pwr with vbankMv := 15000 } } (some 2)) false) else s

def execBankCutoff (s : State) : Host.Outcome State Fault Refusal := .next (bankCutoffF s)

/-- Whether the Drain still has lines or moves to program. -/
def drainPending (s : State) : Bool := decide (dirtyCount s ≠ 0) || !s.cist.ents.isEmpty || !s.wear.moves.isEmpty
  || !s.wear.restart.isEmpty

/-- DRAIN_LINES_DONE: step 2 has ended, and step 3 programs the journal line with the records left; where there are any, the command comes again at
the end of step 3 (16 R477; log entry 85). -/
def drainLinesDoneF (s : State) (stuck : List Nat) : State :=
  match s.pwr.drain with
  | some d =>
    if s.pwr.st = .drain && (d.linesDone || !drainPending s) then
      drainFinish { s with pwr := { s.pwr with drain := some { d with linesDone := true } } } stuck
    else s
  | none => s

def execDrainLinesDone (stuck : List Nat) (s : State) : Host.Outcome State Fault Refusal := .next (drainLinesDoneF s stuck)

/-- The programs of the Drain's lines that still run are abandoned; a journal line goes on, being step 3's (16 R479). -/
def abandonOps (s : State) : State :=
  { s with med := { s.med with ops := s.med.ops.filter (fun o => decide (o.kind = .program .journal)) } }

/-- DRAIN_OVERRUN: lines remain at 39.2 ms (16 R479). -/
def drainOverrunF (s : State) (stuck : List Nat) : State :=
  match s.pwr.drain with
  | some d =>
    if s.pwr.st = .drain && !d.linesDone && decide (d.start + 39200000 ≤ now s) then
      drainFinish (abandonOps { s with pwr := { s.pwr with drain := some { d with linesDone := true, overrun := true } } }) stuck
    else s
  | none => s

def execDrainOverrun (stuck : List Nat) (s : State) : Host.Outcome State Fault Refusal := .next (drainOverrunF s stuck)

/-- DRAIN_FINAL_STORE_DONE: the final store has verified; the module leaves DRAIN (16 R478; 01 R21, R24). -/
def drainFinalStoreDoneF (s : State) : State :=
  match s.pwr.drain with
  | some d =>
    if s.pwr.st = .drain && d.recorded && s.beryl.prog.isEmpty && !s.beryl.ops.any (fun o => decide (o.kind = 3)) then
      if d.toHalt then offIfDark (syncPersist (enterHalt s d.thermal))
      else if s.pwr.auxOn then enterStandby s else enterOff s
    else s
  | none => s

def execDrainFinalStoreDone (s : State) : Host.Outcome State Fault Refusal := .next (drainFinalStoreDoneF s)

/-! ## PERST_N (11 R360; 12 R392; 17 R498) -/

/-- Whether a request came from a port of this module. -/
def fromPort (p : Nat) (o : Origin) : Bool :=
  match o with
  | .host q _ => q.val = p
  | .peer .. | .mirror .. | .silent | .internal | .repair _ => false

/-- A waiter's host response is dropped: its effects inside go on. -/
def dropHost (p : Nat) (w : Waiter) : List Waiter :=
  match w with
  | .host r => if r.port.val = p then [] else [w]
  | .partialWr x => if fromPort p x.org then [.partialWr { x with org := .silent }] else [w]
  | .peerRd .. => [w]

/-- Requests of a port admitted but not answered complete inside, their responses discarded; writes not admitted are dropped. -/
def dropPortRequests (s : State) (p : Nat) : State :=
  mapWaiters { s with
    cist := { s.cist with waits := s.cist.waits.filter (fun w => !fromPort p w.org) }
    pair := { s.pair with
      opens := s.pair.opens.map (fun o => match o with
        | .write t d org part => if fromPort p org then .write t d .silent part else .write t d org part
        | .tileOp .. | .entry .. => o)
      fwdRds := s.pair.fwdRds.filter (fun x => x.rd.port.val ≠ p)
      soloHeld := s.pair.soloHeld.filter (fun x => x.1.val ≠ p) } } (fun _ ws => ws.flatMap (dropHost p))

/-- The ring stops: EN becomes 0, completions waiting or still to come are discarded, and one record tells how many (12 R392). -/
def ringPerst (s : State) (p : Nat) : State :=
  let r := ringAt s p
  let running := countP (fun x => x.src = p) s.cmds.run
  let n := r.wait.length + running
  let s := modRing (orphan s p) p (fun r =>
    { r with enabled := false, wait := [], vecs := [], head := 0, tail := 0, cplHead := 0,
             cplTail := 0, ph := true })
  noteEv s (srcRing p) 0x0007 n 0 0

/-- PERST_ASSERT of a port. -/
def perstAssertF (s : State) (p : Port) : State :=
  let s := { s with pwr := { s.pwr with perst := s.pwr.perst ||| BitVec.ofNat 4 (2 ^ p.val) } }
  match s.pwr.st with
  | .halt => { s with pwr := { s.pwr with perstLatch := s.pwr.perstLatch ||| BitVec.ofNat 4 (2 ^ p.val) } }
  | .service | .boot | .drain =>
    let s := dropPortRequests s p
    let s := ringPerst s p
    let s := modPort s p (fun x => { portDown x with hdm := [], viral := false })
    let s := { s with req := { s.req with armed := sSet 0 s.req.armed p.val 0 } }
    let s := flagPort (resetRegs s .port p.val (fun _ => false)) p.val 4
    let s := resetRegs s .ring p.val (fun k => decide (k < 7))
    if regF s .quartz 0 11 2 1 = p.val then putBoth s .quartz 0 11 1 0 else s
  | .off | .standby => s

def execPerstAssert (p : Port) (s : State) : Host.Outcome State Fault Refusal := .next (perstAssertF s p)


/-- The extents of the live wells of a port are offered again (11 R348, R360). -/
def reoffer (s : State) (p : Port) : State :=
  s.tabs.wells.foldl (fun s x =>
    if x.2.live && x.2.mask.getLsbD p.val then
      let s := modPort s p (fun y => { y with exts := sMod extInit y.exts x.1 (fun e => { e with offered := true, accepted := false }) })
      dcRaise s p 0 x.1 []
    else s) s

/-- PERST_DEASSERT of a port: it retrains, and re-offers its extents (11 R360). -/
def perstDeassertF (s : State) (p : Port) : State :=
  let s := { s with pwr := { s.pwr with perst := s.pwr.perst &&& ~~~ BitVec.ofNat 4 (2 ^ p.val) } }
  if s.pwr.st = .service && domOn s (2 + p.val) then reoffer s p else s

def execPerstDeassert (p : Port) (s : State) : Host.Outcome State Fault Refusal := .next (perstDeassertF s p)

end Sys2Proof.Machine
end

