-- ==== Sys2Proof/Machine/FaultCmd.lean ====
section
/-! DEFINITION. The fault unit's and Agate's own steps: reports (14 R425 to R429), flushes (R438, R441), acknowledgement by the
firmware (R430), the watchdog (R432) and ALIVE (R433). -/

namespace Sys2Proof.Machine

/-- FAULT_REPORT: a unit reports a fault (14 R428). Nothing is reported in OFF. -/
def faultReportF (s : State) (source code a0 a1 a2 : Nat) : State := if s.pwr.st = .off then s else report s source code a0 a1 a2

def execFaultReport (source code arg0 arg1 arg2 : Nat) (s : State) : Host.Outcome State Fault Refusal :=
  .next (faultReportF s source code arg0 arg1 arg2)

/-- A buffer slot whose read is uncorrectable is retired, and its record is lost (14 R441). -/
def retireSlot (s : State) (k : Nat) : State :=
  if s.ag.badSlots.contains k then s
  else
    let x := sGet agSlot0 s.ag.buf k
    let s := flagAgate { s with ag := { s.ag with badSlots := s.ag.badSlots ++ [k], buf := sSet agSlot0 s.ag.buf k agSlot0 } } 2
    if 0 < x.1.repeats then logMemFail s x.1 else s

/-- Flush some pages of the ring as one store operation (14 R437, R438). -/
def flushAs (s : State) (ks : List Nat) (ahead : Bool) : State :=
  if ks.isEmpty then s
  else
    let s := flushPages { s with ag := { s.ag with busy := true } } ks
    startStore s 1 (ks.map (fun k => (pgAgate + k, pgAgate + k))) ahead

/-- Every page holding an unflushed record, newest first. -/
def flushAll (s : State) (ahead : Bool) : State := flushAs s (unflushedPages s) ahead

/-- The pages of a limited flush: those of the triggering records, then the newest, four at most (14 R438). -/
def limitedPages (s : State) : List Nat :=
  let un := unflushedPages s
  (dedup ((s.ag.trig.map (fun q => q % 16384 / 8)).filter (fun k => un.contains k) ++ un)).take 4

/-- FLUSH_MIN in ns. -/
def flushMin (s : State) : Nat := regF s .agate 0 7 13 2 * 1000000000

/-- AGATE_FLUSH: a flush that waits starts: at once for a fatal fault, ahead of the queue; a limited one when its rate limit allows,
and not in DRAIN, whose step 4 stores the newest records instead (14 R438). -/
def agateFlushF (s : State) (ue : List Nat) : State :=
  if s.pwr.st = .off then s
  else
    let limit : Bool := match s.ag.lastLimited with
      | some t => decide (t + flushMin s ≤ now s)
      | none => true
    if s.ag.full then
      let s := ue.foldl retireSlot s
      { flushAll s true with ag := { (flushAll s true).ag with full := false, trig := [] } }
    else if !s.ag.trig.isEmpty && limit && decide (s.pwr.st ≠ .drain) then
      let s := ue.foldl retireSlot s
      let s := flushAs s (limitedPages s) false
      { s with ag := { s.ag with trig := [], lastLimited := some (now s) } }
    else s

def execAgateFlush (ue : List Nat) (s : State) : Host.Outcome State Fault Refusal := .next (agateFlushF s ue)

/-- An acknowledged latch (14 R430). -/
def ackLatch (l : Latch) : Latch := { l with valid := false, urgent := false, count := 0 }

/-- Acknowledge the CE latch (0) or the UC latch (1); the FT latch is not acknowledged. -/
def ackGroup (s : State) (g : Nat) : State :=
  if g = 0 then { s with flt := { s.flt with ce := ackLatch s.flt.ce } }
  else if g = 1 then { s with flt := { s.flt with uc := ackLatch s.flt.uc } }
  else s

/-- FIRMWARE_ACK: within 1 ms of the latch, while CE_AUTO or UC_AUTO is set (14 R430). -/
def firmwareAckF (s : State) (uc : Bool) : State :=
  if regB s .fault 0 37 (if uc then 1 else 0) && domOn s 1 then ackGroup s (if uc then 1 else 0) else s

def execFirmwareAck (uc : Bool) (s : State) : Host.Outcome State Fault Refusal := .next (firmwareAckF s uc)

/-- WATCHDOG: the end of a 500 µs window (14 R432). -/
def watchdogF (s : State) (reported : Bool) : State :=
  match s.pwr.st with
  | .off | .halt => s
  | .standby | .boot | .service | .drain =>
    let s := { s with pwr := { s.pwr with wdOk := reported } }
    if reported then s else fatal s srcPower 0x0308 0 0 0

def execWatchdog (reported : Bool) (s : State) : Host.Outcome State Fault Refusal := .next (watchdogF s reported)

/-- ALIVE_TOGGLE: a multiple of 500 µs of TIME (14 R433). -/
def aliveToggleF (s : State) : State :=
  let run : Bool := !s.pwr.fatal && s.pwr.wdOk && (match s.pwr.st with
    | .standby | .boot | .service | .drain => true
    | .off | .halt => false)
  { s with pwr := { s.pwr with alive := run && !s.pwr.alive, aliveRun := run } }

def execAliveToggle (s : State) : Host.Outcome State Fault Refusal := .next (aliveToggleF s)

end Sys2Proof.Machine
end

