-- ==== Sys2Proof/Machine/MediaOps.lean ====
section
/-! DEFINITION. What the channel engines share: ledger updates (08 R243, R244, R249), the load meter (03 R82, R83), what a sense returns
(06 R179 to R181, R190; 03 R93), the accounting of decodes and errors (06 R202; 09 R283 to R287) and the rewrite of an interrupted
frame (02 R50; 06 R182). -/

namespace Sys2Proof.Machine

/-! ## The ledger (08 R243, R244) -/

def migStep (s : State) : Nat := regF s .mapctl 0 48 3 0
/-- The floor in force: the larger of FLOOR_PLAN and MIG_FLOOR (18 R506). -/
def migFloor (s : State) : Nat := (if regF s .mapctl 0 48 11 4 < s.zir.floor then s.zir.floor else regF s .mapctl 0 48 11 4) * 4096

/-- A logical tile whose entry names the physical tile. -/
def ltnOfPtn (s : State) (ptn : Nat) : Option Nat :=
  (findP (fun x => decide (x.2.ptn.toNat = ptn) && inUse x.2) s.tabs.map).map (·.1)

/-- Causes that a ledger update raises for the tile in use (08 R249; 09 R287). -/
def ledCauses (s : State) (ptn : Nat) (wear : Bool) : State :=
  match ltnOfPtn s ptn with
  | none => s
  | some ltn =>
    let l := ledAt s ptn
    if wear then
      if l.wear = 0xFFFFF then queueMove s ltn .saturated
      else if migStep s ≤ l.adv then queueMove s ltn .wear else s
    else if l.reads = 255 then queueRefresh s ltn true
    else if readTrig s ≤ l.reads then queueRefresh s ltn false else s

/-- Apply an update to a cached ledger entry: WEAR and ADV by one, or READS by one (08 R242, R243). -/
def ledApply (s : State) (ptn : Nat) (wear : Bool) : State :=
  let f (l : Led) : Led :=
    if wear then { l with wear := satAdd 0xFFFFF l.wear 1, adv := satAdd 15 l.adv 1 } else { l with reads := satAdd 255 l.reads 1 }
  let s := { s with
    wear := { s.wear with
      led := sMod ledInit s.wear.led ptn f
      wearSum := s.wear.wearSum + b2n wear }
    mapu := { s.mapu with dirty := sSet false s.mapu.dirty (ledObjNo s.sec.variant ptn) true } }
  ledCauses s ptn wear

/-- The ledger object of a physical tile. -/
def ledObj (s : State) (ptn : Nat) : Nat := tixOf s.sec.variant ptn / 4096

/-- The least recently used object leaves a cache of 262,144. -/
def ledTouch (s : State) (o : Nat) : State :=
  { s with wear := { s.wear with ledCache := (o :: s.wear.ledCache.filter (fun x => x ≠ o)).take 262144 } }

/-- An update whose draw is zero: applied if its object is cached, else queued, else dropped (08 R244). -/
def ledUpdate (s : State) (ptn : Nat) (wear : Bool) : State :=
  if s.wear.ledCache.contains (ledObj s ptn) then ledApply (ledTouch s (ledObj s ptn)) ptn wear
  else if s.wear.ledQ.length < 65536 then { s with wear := { s.wear with ledQ := s.wear.ledQ ++ [(ptn, b2n (!wear))] } }
  else count (flagMove s 12) 81 attrNone

/-- An event of `bits` draw bits on a tile (08 R243). FREE VALUE: the draw. -/
def ledDraw (s : State) (ptn bits : Nat) (wear : Bool) : State :=
  if Config.drawIsZero s.freeCtr bits then ledUpdate (bump s) ptn wear else bump s

def noteSense (s : State) (ptn : Nat) : State := ledDraw s ptn 16 false
def noteProgram (s : State) (ptn : Nat) : State := ledDraw s ptn 12 true
def noteReset (s : State) (ptn : Nat) : State := ledDraw s ptn 4 true

/-! ## The load meter (03 R82 to R84) -/

/-- A host frame read arrives at a channel: B rises, and the read fails the load condition if more than 340 arrived in the last 200
steps of TIME or B exceeds 2. The result is the OVERLOAD flag. -/
def arriveRead (s : State) (c : Nat) : State × Bool :=
  let step := now s / 10
  let ch := chanAt s c
  let arr := (step :: ch.arrivals).filter (fun t => decide (step < t + 200))
  let b := ch.burst + 1
  let ovl := decide (340 < arr.length) || decide (2 < b)
  let s := modChan s c (fun x => { x with burst := b, arrivals := arr, winCnt := x.winCnt + 1 })
  let s := flagBurst s c b
  (if ovl then flagOver s c else s, ovl)

/-- Whether host reads of a channel wait for programs instead of suspending them (03 R103). -/
def preemptDis (s : State) (c : Nat) : Bool := regB s .channel c 9 11

/-- Whether an operation programs or resets a frame (06 R173). -/
def opOf (o : Op) (ptn fslot : Nat) : Bool := decide (o.ptn = ptn) && (decide (o.kind = .reset) || decide (o.fslot = fslot))

/-- A host sense of a frame suspends what runs in its partition (03 R90), but no program of that very frame, for which it waits (06 R173). -/
def suspendOps (s : State) (ptn fslot : Nat) : State :=
  if preemptDis s (ptnChan ptn) then s
  else { s with med := { s.med with ops := s.med.ops.map (fun o =>
    if o.die = ptnDieIx ptn && o.part = ptnPart ptn && !opOf o ptn fslot then { o with suspended := true } else o) } }

/-- Whether a partition runs an operation. -/
def partBusy (s : State) (ptn : Nat) : Bool := s.med.ops.any (fun o => decide (o.die = ptnDieIx ptn) && decide (o.part = ptnPart ptn))

/-! ## What a sense returns -/

/-- The class and content of a sensed and decoded frame (06 R180, R181, R190; 03 R93, R94). -/
inductive Sensed where
  /-- never written -/
  | never
  | interrupted
  /-- a line with its stored poison, the corrected symbols, and whether the full decode made them -/
  | line (data : Line) (p : Bool) (pcause : BitVec 2) (syms : Nat)
  /-- a CLOSED frame that decodes with W = 0 -/
  | wZero
  | tagFault
  | uncorr
  /-- the first pass fails: the retry follows -/
  | again
deriving DecidableEq, Repr

/-- What a decoder delivers for a codeword with flag byte fields w, p, pcause. -/
def delivered (w : Bool) (d : Line) (p : Bool) (pc : BitVec 2) (n : Nat) : Sensed :=
  if w then .line d p (if p then pc else 0) n else .wZero

/-- The decode of a CLOSED frame whose tag is that of `ptn` and `fslot` (06 R190). Beyond its guarantee a decoder may fail, show a tag
fault, or deliver another codeword: FREE VALUE. -/
def decodeFrame (s : State) (f : Frame) (ptn fslot : Nat) (errs : Nat) (retry : Bool) : Sensed :=
  let tagOk := decide (f.ptn.toNat = ptn) && decide (f.fslot.toNat = fslot)
  let limit := if retry then 6 else 3
  let sure := if retry then 6 else 9
  if errs ≤ limit then
    if tagOk then delivered f.w f.line f.p f.pcause errs else if retry then .tagFault else .again
  else if errs ≤ sure then .again
  else match Config.beyondCode s.freeCtr with
    | 0 => if retry then .uncorr else .again
    | 1 => if retry then .tagFault else .again
    | _ =>
      let fl := (Config.wrongFlag s.freeCtr).toNat
      delivered (bitOf fl 0) (Config.wrongLine s.freeCtr) (bitOf fl 1) (BitVec.ofNat 2 (bitsOf fl 7 6)) limit

/-- The class of a sensed frame (06 R179, R180). -/
def senseFrame (s : State) (ptn fslot : Nat) (res : SenseRes) (retry : Bool) : Sensed :=
  let f := frameAt s ptn fslot
  if !res.markerOk then .interrupted
  else match f.marker with
    | .blank => if res.errs ≤ 6 then .never else .interrupted
    | .opened => .interrupted
    | .closed => decodeFrame s f ptn fslot res.errs retry

/-- A first pass and, where it fails, the retry (03 R93). The second component: the retry took place. Two free values are used: the
caller advances the counter twice. -/
def senseTwice (s : State) (ptn fslot : Nat) (res retry : SenseRes) : Sensed × Bool :=
  match senseFrame s ptn fslot res false with
  | .again => (match senseFrame (bump s) ptn fslot retry true with
    | .again => .uncorr
    | x => x, true)
  | x => (x, false)

/-! ## Accounting (06 R202; 09 R283 to R287) -/

/-- Who sensed (09 R284 SRC) and for what: the attributes of the Quartz event, the DLN if known, and whether the sense fills a partial
write. -/
structure SenseBy where
  src : Nat
  attr : Attr
  dln : Option Nat
  fill : Bool
deriving DecidableEq, Repr

/-- The first error latched, and its MEDIA_ERR flag (06 R202). -/
def mediaErr (s : State) (ptn fslot bit : Nat) : State :=
  let c := ptnChan ptn
  let ch := chanAt s c
  match ch.latch with
  | some _ => flagMedia s c bit
  | none =>
    let s := setRC s .channel c 2 (2 ^ bit + ptnDie ptn * 2 ^ 4)
    modChan s c (fun x => { x with latch := some (ptnDie ptn, ptn, fslot) })

/-- Put an address-table entry first, the most recent (09 R285). -/
def errTable (l : List ErrEnt) (ptn fslot syms src t : Nat) : List ErrEnt :=
  match findP (fun e => e.ptn = ptn && e.fslot = fslot) l with
  | some e =>
    { e with count := satAdd 4095 e.count 1, maxSym := if e.maxSym < syms then syms else e.maxSym, src := src, last := t }
      :: dropFirst (fun e => e.ptn = ptn && e.fslot = fslot) l
  | none => ({ ptn := ptn, fslot := fslot, count := 1, maxSym := syms, src := src, last := t } :: l).take 16

/-- Count a decode in its class (09 R283). -/
def decodeClass (s : State) (c k : Nat) (a : Attr) : State :=
  let s := if (chanAt s c).retired then s else count s (96 + 6 * c + k) a
  modChan s c (fun x => { x with dec := modNth (· + 1) (x.dec ++ List.replicate (6 - x.dec.length) 0) k })

/-- ARG1 of a fault of a medium frame. -/
def mediaArg1 (d : Option Nat) : Nat :=
  match d with
  | some x => dlnArg x
  | none => 0

/-- An uncorrectable decode, tag fault or W = 0 (09 R283, R286): counted, recorded unless it fills a partial write (02 R581), and the
tile queued for refresh past deadline. -/
def accountBad (s : State) (ptn fslot : Nat) (ltn : Option Nat) (by_ : SenseBy) (code arg2 : Nat) : State :=
  let c := ptnChan ptn
  let s := decodeClass s c 5 by_.attr
  let s := modChan s c (fun x => { x with ueCnt := satAdd 4095 x.ueCnt 1 })
  let s := flagDrift s c 1
  let s := if by_.fill then s else report s (srcChan c) code (ptn * 256 + fslot) (mediaArg1 by_.dln) arg2
  match ltn with
  | some l => queueRefresh s l true
  | none => s

/-- Account for what a sense found (09 R283 to R287). -/
def account (s : State) (ptn fslot : Nat) (ltn : Option Nat) (by_ : SenseBy) (f : Sensed) (retried : Bool) : State :=
  let c := ptnChan ptn
  let s := if retried then flagDrift s c 0 else s
  match f with
  | .never | .again => s
  | .interrupted =>
    let s := mediaErr s ptn fslot 1
    if by_.fill then s else report s (srcChan c) 0x0205 (ptn * 256 + fslot) (mediaArg1 by_.dln) 0
  | .line _ _ _ n =>
    let s := decodeClass s c (if retried then 4 else n) by_.attr
    let s := if 0 < n then
        modChan s c (fun x => { x with ceCnt := satAdd 0xFFFFF x.ceCnt 1, errs := errTable x.errs ptn fslot n by_.src (now s) }) else s
    let s := if retried && decide (0 < n) then report s (srcChan c) 0x0102 (ptn * 256 + fslot) (mediaArg1 by_.dln) n else s
    match ltn with
    | some l => if retried then queueRefresh s l true else if 0 < n ∧ regF s .mapctl 0 40 8 7 ≤ n then queueRefresh s l false else s
    | none => s
  | .wZero => accountBad (mediaErr s ptn fslot 3) ptn fslot ltn by_ 0x0201 0x3F
  | .tagFault => accountBad (mediaErr s ptn fslot 2) ptn fslot ltn by_ 0x0202 0x3F
  | .uncorr => accountBad s ptn fslot ltn by_ 0x0201 0x3F

/-- A sense that finds nothing wrong. -/
def cleanRes : SenseRes := { errs := 0, markerOk := true }

/-- What the sense of a metadata frame and its retry return: those listed, else nothing wrong. -/
def resOf (l : List (Nat × SenseRes × SenseRes)) (k : Nat) : SenseRes × SenseRes :=
  match findP (fun x => decide (x.1 = k)) l with
  | some x => x.2
  | none => (cleanRes, cleanRes)

/-- A first pass and its retry with their draws for the ledger: each is a sense of the tile (08 R243). -/
def senseBoth (s : State) (ptn fslot : Nat) (res retry : SenseRes) : State × Sensed × Bool :=
  let (f, again) := senseTwice s ptn fslot res retry
  let s := noteSense (bump (bump s)) ptn
  (if again then noteSense s ptn else s, f, again)

/-- The MSEQ of a metadata tile (07 R208, R209). -/
def mseqAt (s : State) (t : Nat) : Nat := sGet 0 s.mapu.mseqOf t - 1

/-- What the sense of a metadata frame shows under the key, the counter and the class it is descrambled with: a frame programmed under others
shows more symbol errors than any decoder handles (06 R190, R194, R197; log entry 82). -/
def scrambledRes (f : Frame) (own : Bool) (r : SenseRes) : SenseRes := if f.marker = .closed && !own then { r with errs := 64 } else r

/-- Whether a frame was programmed under the metadata key with this MSEQ. -/
def metaOwn (s : State) (f : Frame) (mseq : Nat) : Bool :=
  decide (f.key = some s.keys.meta_) && f.cls && decide (f.ctr = BitVec.ofNat 64 mseq)

/-- Sense and decode a metadata frame, whose slot is its line: the ledger and the accounting take note (06 R191, R197; 08 R243; 09 R283). The
third component: it was retried. `own`: it is descrambled as it was scrambled. -/
def senseMetaAs (s : State) (ptn line : Nat) (own : Bool) (r : SenseRes × SenseRes) (src : Nat) (a : Attr) : State × Sensed × Bool :=
  let fr := frameAt s ptn line
  let (s, f, again) := senseBoth s ptn line (scrambledRes fr own r.1) (scrambledRes fr own r.2)
  (account s ptn line none { src := src, attr := a, dln := none, fill := false } f again, f, again)

/-- The same of a frame of a tile with an MSEQ. -/
def senseMeta (s : State) (ptn line mseq : Nat) (r : SenseRes × SenseRes) (src : Nat) (a : Attr) : State × Sensed × Bool :=
  senseMetaAs s ptn line (metaOwn s (frameAt s ptn line) mseq) r src a

/-- Whether a metadata frame was sensed and cannot be used: uncorrectable after its retry, interrupted, or with a tag fault or W = 0 (07 R231). -/
def metaBad (f : Sensed) : Bool :=
  match f with
  | .line .. | .never => false
  | .interrupted | .wZero | .tagFault | .uncorr | .again => true

/-- The entries of a map page of which a bit lies in a frame (07 R206, R231). -/
def frameEntries (page k : Nat) : List Nat :=
  (List.range 2048).filterMap (fun e => if 60 * e < 512 * (k + 1) ∧ 512 * k < 60 * e + 60 then some (page * 2048 + e) else none)

/-- The attributes of the module's own metadata senses. -/
def attrMeta : Attr := { attrNone with priv := some 3 }

/-! ## Loads of metadata tiles by background senses (03 R97; 07 R231; 08 R244) -/

/-- The tile of an object or tree node in the newest checkpoint: none where it was never written. -/
def nodeTile (s : State) (n : Nat) : Option Nat := (findP (fun x => decide (x.1 = n)) s.mapu.ckptTiles).map (·.2)

/-- Sense the frames of a metadata tile from frame `k` on, `n` of them: the frames that cannot be used. `res` gives what the senses return, by
frame from `base` on. -/
def senseTile (s : State) (t mseq base : Nat) (res : List (Nat × SenseRes × SenseRes)) : Nat → Nat → State × List Nat
  | 0, _ => (s, [])
  | n + 1, k =>
    let (s, f, _) := senseMeta s t k mseq (resOf res (base + k)) 0 attrMeta
    let (s, bad) := senseTile s t mseq base res n (k + 1)
    (s, (if metaBad f then [k] else []) ++ bad)

/-- Load an object: its 256 frames are sensed, unless an operation of their partition has not ended: then none (06 R168). An object that was never
written has no frames. -/
def loadObject (s : State) (n base : Nat) (res : List (Nat × SenseRes × SenseRes)) : Option (State × List Nat) :=
  match nodeTile s n with
  | none => some (s, [])
  | some t => if partBusy s t then none else some (senseTile s t (mseqAt s t) base res 256 0)

/-- What a ledger entry in an uncorrectable frame reads as, which the manual does not say. FREE VALUE. -/
def ledFree (s : State) (ptn : Nat) : Led :=
  let x := Config.external 8 (s.freeCtr * 2 ^ 32 + ptn)
  { wear := x % 2 ^ 20, reads := x / 2 ^ 20 % 256, adv := x / 2 ^ 28 % 16 }

/-- The tiles whose entries a frame of a ledger object holds. -/
def ledFrame (v : Variant) (o line : Nat) : List Nat := (List.range 16).map (fun k => ptnOfTix v (o * 4096 + line * 16 + k))

/-- The updates that wait for a ledger object are applied, in their order (08 R244). -/
def applyQueued (s : State) (o : Nat) : State :=
  let q := s.wear.ledQ.filter (fun x => decide (ledObj s x.1 = o))
  q.foldl (fun s x => ledApply s x.1 (decide (x.2 = 0))) { s with wear := { s.wear with ledQ := s.wear.ledQ.filter (fun x => decide (ledObj s x.1 ≠ o)) } }

/-- The loads of the ledger objects that updates wait for: background senses, each of which waits while an operation of its partition has not
ended (08 R244; 06 R168). -/
def loadLedgers (s : State) (res : List (Nat × SenseRes × SenseRes)) : State :=
  (dedup (s.wear.ledQ.map (fun x => ledObj s x.1))).foldl (fun s o =>
    let n := objLedger + o
    match loadObject s n ((nodeTile s n).getD 0 * 256) res with
    | none => s
    | some (s, bad) =>
      let s := bad.foldl (fun s l => bump { s with wear := { s.wear with
        led := (ledFrame s.sec.variant o l).foldl (fun m p => sSet ledInit m p (ledFree s p)) s.wear.led } }) s
      applyQueued (ledTouch s o) o) s

/-! ## Programming a frame -/

/-- TBIN of a die (06 R185): the bin of its last temperature reading. -/
def dieBin (s : State) (ix : Nat) : BitVec 4 := BitVec.ofNat 4 (tempBin (nth 0 (chanAt s (ix / 8)).temps (ix % 8)))

/-- The frame that a program of a user tile leaves: its ctr is the generation of the tile, its class 0 (06 R195, R196). -/
def writtenFrame (s : State) (ptn fslot : Nat) (gen : BitVec 8) (key : BitVec 80) (data : Line) (p : Bool) (pc : BitVec 2) : Frame :=
  { marker := .closed, refs := refCells, w := true, p := p, tbin := dieBin s (ptnDieIx ptn), pcause := if p then pc else 0, line := data,
    ptn := BitVec.ofNat 32 ptn, fslot := BitVec.ofNat 8 fslot, ctr := BitVec.ofNat 64 gen.toNat, cls := false, key := some key }

/-- The frame that a program of a metadata tile leaves (06 R197; 07 R209). -/
def metaFrame (s : State) (t line : Nat) (d : Line) : Frame :=
  { marker := .closed, refs := refCells, w := true, p := false, tbin := dieBin s (ptnDieIx t), pcause := 0, line := d, ptn := BitVec.ofNat 32 t,
    fslot := BitVec.ofNat 8 line, ctr := BitVec.ofNat 64 (mseqAt s t), cls := true, key := some s.keys.meta_ }

/-- An anchor frame, which is not scrambled (07 R210). -/
def anchorFrameOf (s : State) (t fr : Nat) (d : Line) : Frame := { metaFrame s t fr d with ctr := 0, key := none }

/-- The rewrite of an interrupted frame as stored poison waits for its program (02 R50; 06 R182): it keeps the tile, the slot and the generation.
It takes a token at the rank of refresh past deadline, wherever the frame was met (09 R293; log entry 16). -/
def rewriteInterrupted (s : State) (ltn ptn fslot : Nat) (gen : BitVec 8) : State :=
  if s.med.rewrites.any (fun x => decide (x.2.1 = ptn) && decide (x.2.2.1 = fslot)) then s
  else { s with med := { s.med with rewrites := s.med.rewrites ++ [(ltn, ptn, fslot, gen)] } }

end Sys2Proof.Machine
end

