-- ==== Sys2Proof/Machine/LineOps.lean ====
section
/-! DEFINITION. Lines held by the module: the cache's ways, locks and victims (05 R141 to R148), errors in the cache arrays (05 R155 to
R157), the Cistern (04 R111 to R117), and the hand-off of a line with its refusal in CONSTRAINED (05 R150, 08 R268). -/

namespace Sys2Proof.Machine

/-- The content of a line with its stored poison. -/
structure LineV where
  data : Line
  p : Bool
  pcause : BitVec 2
deriving DecidableEq, Repr

/-- A line without poison. -/
def cleanLine (d : Line) : LineV := { data := d, p := false, pcause := 0 }

/-- Zero data with stored poison of a cause. -/
def poisonLine (c : BitVec 2) : LineV := { data := 0, p := true, pcause := c }

/-! ## Ways -/

/-- Key of a way in the cache's store. -/
def wayKey (n set w : Nat) : Nat := n * 2 ^ 18 + set * 16 + w

/-- The way that holds a line. -/
def findWay (s : State) (dln : Nat) : Option (Nat × WayT) := findP (fun x => x.2.v && decide (x.2.dln = dln)) s.cache.ways

/-- Set a way. -/
def setWay (s : State) (k : Nat) (w : WayT) : State := { s with cache := { s.cache with ways := sSet wayInit s.cache.ways k w } }

/-- Touch a way (05 R144). -/
def touchWay (s : State) (k : Nat) : State :=
  { s with cache := { s.cache with plru := sMod 0 s.cache.plru (k / 16) (fun t => plruTouch t (k % 16)) } }

/-- A line written anew into a way: no error of its arrays is left (05 R155). -/
def newWay (s : State) (k : Nat) (w : WayT) : State :=
  setWay { s with cache := { s.cache with upset := sSet .none s.cache.upset k .none } } k w

/-- Whether a sense holds the lock of a line: a fill or prefetch of the tile as it now stands. One that was resolved before the tile's lines
were discarded holds it no longer (02 R67; 05 R148). -/
def holdsLock (x : Sense) (dln : Nat) : Bool := decide (x.dln = dln) && !x.stale

/-- Whether a fill, a prefetch or maintenance holds the line's lock (05 R148). -/
def lockHeld (s : State) (dln : Nat) : Bool :=
  s.med.senses.any (fun x => holdsLock x dln) || s.cache.locks.any (fun l => decide (l.dln = dln))

/-- Whether only maintenance of this kind holds the line's lock. -/
def maintHolds (s : State) (dln : Nat) (maint : Bool) : Bool :=
  !s.med.senses.any (fun x => holdsLock x dln) && s.cache.locks.any (fun l => decide (l.dln = dln) && (l.maint == maint))

/-- Maintenance takes the free lock of a line and keeps it while it waits for Cistern room (05 R148, R153, R158). -/
def takeLock (s : State) (dln : Nat) (maint : Bool) : State :=
  if lockHeld s dln then s else { s with cache := { s.cache with locks := s.cache.locks ++ [{ dln := dln, maint := maint, waiters := [] }] } }

/-- The entries of a slice's lock table in use: one for every fill, prefetch and line under maintenance, and one for every access that waits
(05 R148). -/
def locksOf (s : State) (n : Nat) : Nat :=
  sumOf (fun x => if sliceOf s.cache x.dln = n then 1 + x.waiters.length else 0) s.med.senses
    + sumOf (fun x => if sliceOf s.cache x.dln = n then 1 + x.waiters.length else 0) s.cache.locks
    + countP (fun w => decide (sliceOf s.cache w.dln = n)) s.cist.waits

/-- Whether a way may be allocated: neither disabled nor being disabled (05 R145, R158). -/
def wayUsable (s : State) (n w : Nat) : Bool := !regB s .cache n 1 w && !(sliceAt s n).disabling.any (fun x => decide (x.1 = w))

/-- The victim for a line: an invalid way first, else the tree pseudo-LRU victim among the ways that satisfy `ok` (05 R145). -/
def victimWay (s : State) (dln : Nat) (ok : WayT → Bool) : Option Nat :=
  let n := sliceOf s.cache dln
  let set := setOf dln
  let at_ (w : Nat) : WayT := sGet wayInit s.cache.ways (wayKey n set w)
  let inval (w : Nat) : Bool := wayUsable s n w && !(at_ w).v
  let cand (w : Nat) : Bool := wayUsable s n w && (!(at_ w).v || (ok (at_ w) && !lockHeld s (at_ w).dln))
  let t := sGet 0 s.cache.plru (n * 2 ^ 14 + set)
  let pick := if (List.range 16).any inval then plruVictim t inval else plruVictim t cand
  pick.map (wayKey n set)

/-- A way that a read fill or a prefetch may take: invalid or clean. -/
def cleanOk (w : WayT) : Bool := !dirtyW w

/-! ## Disabling ways and errors in the arrays (05 R155 to R158) -/

/-- Start the disable of a way (05 R158). -/
def startDisable (s : State) (n w : Nat) : State :=
  if regB s .cache n 1 w || (sliceAt s n).disabling.any (fun x => decide (x.1 = w)) then s
  else modSlice s n (fun x => { x with disabling := x.disabling ++ [(w, 0)] })

/-- Latch an error: its flag, and the way and set of the first (05 R163). -/
def cacheErr (s : State) (k bit : Nat) : State :=
  let n := k / 2 ^ 18
  let set := k / 16 % 16384
  let first := (sliceAt s n).errSet.isNone
  let s := flagCache s n bit (k % 16) first
  if first then modSlice s n (fun x => { x with errSet := some set }) else s

/-- Nanoseconds in 24 h. -/
def dayNs : Nat := 86400000000000

/-- A corrected error counts against its way; CE_LIMIT of them within 24 h of the first disable it (05 R157). -/
def wayCe (s : State) (k : Nat) : State :=
  let n := k / 2 ^ 18
  let w := k % 16
  let times := (sGet [] (sliceAt s n).ce w).filter (fun t => decide (now s < t + dayNs)) ++ [now s]
  let s := modSlice (cacheErr s k 0) n (fun x => { x with ce := sSet [] x.ce w times, ceTotal := satAdd 0xFFFFF x.ceTotal 1 })
  if regF s .cache n 3 3 0 ≤ times.length then startDisable (modSlice s n (fun x => { x with ce := sSet [] x.ce w [] })) n w else s

/-- The next MTAG. -/
def takeMtag (s : State) : Nat × State := (s.pair.mtag, { s with pair := { s.pair with mtag := (s.pair.mtag + 1) % 2 ^ 16 } })

/-- Ask the peer for its copy of a line (02 R72; 10 R338). In RESYNC no repair is asked. -/
def askRepair (s : State) (dln : Nat) : State :=
  if s.pair.role = .paired then
    let (t, s) := takeMtag s
    send { s with pair := { s.pair with repairs := s.pair.repairs ++ [(t, dln, false)] } } (.lineReq t dln)
  else s

/-- What an access to a valid way does where its arrays show an error (05 R155, R156, R157). -/
def wayErr (s : State) (k : Nat) (a : ArrErr) : State :=
  let w := sGet wayInit s.cache.ways k
  let n := k / 2 ^ 18
  let set := k / 16 % 16384
  let way := k % 16
  if !w.v then s
  else match a with
    | .none | .copy _ => s
    | .corrected => wayCe s k
    | .dataUe =>
      if dirtyW w then
        let s := setWay (cacheErr s k 1) k { w with p := true, pcause := 1 }
        askRepair (report (startDisable s n way) (srcSlice n) 0x0204 set (dlnArg w.dln) way) w.dln
      else report (startDisable (setWay (cacheErr s k 1) k wayInit) n way) (srcSlice n) 0x0104 set (dlnArg w.dln) way
    | .tagUe =>
      let s := startDisable (setWay (cacheErr s k 2) k wayInit) n way
      if dirtyW w then report s (srcSlice n) 0x0301 set 0 way else report s (srcSlice n) 0x0104 set (dlnArg w.dln) way

/-- An access reads the tag and data of a way: it finds the error that its arrays show (05 R155). -/
def checkWay (s : State) (k : Nat) : State :=
  let a := sGet .none s.cache.upset k
  wayErr { s with cache := { s.cache with upset := sSet .none s.cache.upset k .none } } k a

/-- An access reads the tag of a way alone. -/
def checkTag (s : State) (k : Nat) : State := if sGet .none s.cache.upset k = .dataUe then s else checkWay s k

/-- An access reads the line, if a way holds it. -/
def checkLine (s : State) (dln : Nat) : State :=
  match findWay s dln with
  | some (k, _) => checkWay s k
  | none => s

/-- Errors that the arrays show from now on, by line; a copy of D flips in place (05 R143, R155). -/
def putUpset (s : State) (dln : Nat) (a : ArrErr) : State :=
  match findWay s dln, a with
  | none, _ | _, .none => s
  | some (k, w), .copy second => setWay s k { w with dc := w.dc ^^^ (if second then 2 else 1) }
  | some (k, _), a => { s with cache := { s.cache with upset := sSet .none s.cache.upset k a } }

def putUpsets (s : State) (l : List (Nat × ArrErr)) : State := l.foldl (fun s x => putUpset s x.1 x.2) s

/-! ## The Cistern (04 R111 to R117) -/

/-- The newest Cistern entry of a line (04 R114). -/
def findCis (s : State) (dln : Nat) : Option Cis := findP (fun e => decide (e.dln = dln) && !e.super) s.cist.ents

/-- Where a line of a tile is programmed: physical tile, frame slot, generation, held, the second die charged, the record awaited. -/
structure Place where
  ptn : BitVec 32
  fslot : Nat
  gen : BitVec 8
  held : Bool
  also : Option Nat
  waitJ : Nat
deriving DecidableEq, Repr

/-- The place of a line that enters the Cistern: the destination of the tile's move, else its entry (07 R234; 08 R253). -/
def placeOf (s : State) (dln : Nat) : Place :=
  let ltn := ltnOf dln
  match carrierOf s ltn with
  | some m =>
    let held := m.commitJ.isNone
    { ptn := BitVec.ofNat 32 m.dst, fslot := fslotOf (lineOf dln) m.rot, gen := m.gen, held := held,
      also := if held then moveSrc m else none, waitJ := m.commitJ.getD 0 }
  | none =>
    let e := entryAt s ltn
    { ptn := e.ptn, fslot := fslotOf (lineOf dln) e.rot, gen := e.gen, held := false, also := none, waitJ := gateOf s ltn e.ptn.toNat }

/-- A line enters the Cistern (04 R115): an entry that waits is overwritten in place; one in program becomes superseded. -/
def enterCistern (s : State) (dln : Nat) (v : LineV) : State :=
  match findCis s dln with
  | some e =>
    if !e.prog then modSlot s e.slot (fun x => { x with data := v.data, p := v.p, pcause := v.pcause })
    else addSlot (modSlot s e.slot (fun x => { x with super := true })) dln v
  | none => addSlot s dln v
where
  /-- A new slot and entry; QUOTA_FULL is set when a die it charges reaches its quota. What the Drain passes takes no slot (05 R161). -/
  addSlot (s : State) (dln : Nat) (v : LineV) : State :=
    let pl := placeOf s dln
    let e : Cis :=
      { slot := s.cist.nextSlot, idx := freeIdx s.cist.ents, next := chainEnd, direct := decide (s.pwr.st = .drain), dln := dln, ptn := pl.ptn, fslot := pl.fslot, gen := pl.gen, p := v.p, pcause := v.pcause, prog := false,
        super := false, held := pl.held, also := pl.also, waitJ := pl.waitJ, failed := false, data := v.data }
    flagFull { s with cist := linkCis s.cist e } (ptnDieIx pl.ptn.toNat :: pl.also.toList)

/-! ## Refusal in CONSTRAINED (08 R268, R269) -/

/-- Whether the hand-off of a line of a MAPPED tile finds it worn in CONSTRAINED. -/
def wornOut (s : State) (ltn : Nat) : Bool :=
  let e := entryAt s ltn
  let l := ledAt s e.ptn.toNat
  decide (s.wear.cond = .constrained) && decide (e.st = .mapped) && (moveOf s ltn).isNone && (decide (migStep s ≤ l.adv) || decide (l.wear = 0xFFFFF))

/-- A refusal goes to the line's home, where it is ordered as a poisoned full-line write and mirrored (08 R269); the home itself mirrors
it at once. -/
def sendRefusal (s : State) (dln : Nat) : State :=
  if !mirroring s then s
  else
    let (t, s) := takeMtag s
    if isHome s (ltnOf dln) then
      let s := { s with pair := { s.pair with opens := s.pair.opens ++ [.write t dln .silent false] } }
      send s (.mirrorWrite t true 2 0 dln none false 0)
    else send s (.fwdRefuse t dln)

/-- Hand a line to the Cistern: what enters is the line, or the poison of a refused write. -/
def handOff (s : State) (dln : Nat) (v : LineV) : State × LineV :=
  let ltn := ltnOf dln
  let e := entryAt s ltn
  let s := if wornOut s ltn then jAppend s [.mapSet ltn { e with st := .refusing } false] else s
  let e := entryAt s ltn
  if e.st = .refusing && (moveOf s ltn).isNone then
    let pv := poisonLine 2
    let s := enterCistern s dln pv
    let s := report (flagMove s 9) srcMap 0x0206 (e.ptn.toNat * 256 + fslotOf (lineOf dln) e.rot) (dlnArg dln) 0
    (sendRefusal s dln, pv)
  else (enterCistern s dln v, v)

/-- Whether the Cistern takes a line of a way now: an entry that waits is overwritten, else the die needs room. A hand-off that turns its tile
REFUSING waits while the journal takes no updates (07 R223). -/
def canHandOff (s : State) (w : WayT) : Bool :=
  w.v && dirtyW w && w.dk && hasRoom s w.die && !(wornOut s (ltnOf w.dln) && tailFull s)

/-- Whether a way may be evicted for a write (04 R123; 07 R223). -/
def evictOk (s : State) (w : WayT) : Bool := evictable s w && !(w.v && dirtyW w && wornOut s (ltnOf w.dln) && tailFull s)

/-- Clean a way: copied to the Cistern and left valid (05 R151), unless its arrays show an error (05 R155). -/
def cleanWay (s : State) (k : Nat) : State :=
  let s := checkWay s k
  let w := sGet wayInit s.cache.ways k
  if w.v && dirtyW w then
    let (s, v) := handOff s w.dln { data := w.data, p := w.p, pcause := w.pcause }
    evalStop (setWay s k (setD { w with data := v.data, p := v.p, pcause := v.pcause } false))
  else s

/-- Take a way for a line: the victim leaves, dirty into the Cistern, clean for nothing (05 R150). -/
def takeWay (s : State) (dln : Nat) (ok : WayT → Bool) : Option (Nat × State) :=
  match victimWay s dln ok with
  | none => none
  | some k =>
    let s := if dirtyW (sGet wayInit s.cache.ways k) then checkWay s k else checkTag s k
    let w := sGet wayInit s.cache.ways k
    let s := if w.v && dirtyW w then (handOff s w.dln { data := w.data, p := w.p, pcause := w.pcause }).1 else s
    some (k, setWay s k wayInit)

/-- The die of a tile's lines, once known: the destination of its move, or the tile its entry names; a SHARED tile is not yet the
line's own (04 R122; 08 R253). -/
def dieInfo (s : State) (ltn : Nat) : Bool × Nat :=
  match carrierOf s ltn with
  | some m => (true, ptnDieIx m.dst)
  | none =>
    let e := entryAt s ltn
    match e.st with
    | .mapped | .refusing | .migrating => (true, ptnDieIx e.ptn.toNat)
    | .unwritten | .const | .shared | .lost => (false, 0)

/-- Install a fill or a prefetch as a clean line, if a way can be taken (04 R126; 05 R144, R147). -/
def installClean (s : State) (dln : Nat) (v : LineV) (pf : Bool) : State :=
  if s.pwr.st ≠ .service then s
  else match takeWay s dln cleanOk with
    | none => s
    | some (k, s) =>
      let (dk, die) := dieInfo s (ltnOf dln)
      let s := newWay s k { v := true, d := false, dc := 0, p := v.p, pcause := v.pcause, dk := dk, die := die, pf := pf, dln := dln, stamp := 0, data := v.data }
      if pf then s else touchWay s k

end Sys2Proof.Machine
end

