-- ==== Sys2Proof/Machine/WriteOps.lean ====
section
/-! DEFINITION. Resolving map entries (07 R212 to R215; 03 R92, R95), starting senses (03 R82, R90, R93; 05 R148), and writes from their
home to their completion: merging (02 R77), allocation, mirroring (02 R58; 10 R306), waiting (04 R109) and completion (04 R105). -/

namespace Sys2Proof.Machine

/-! ## The map (07 R212 to R215) -/

/-- The way of the TLB that holds a tile. -/
def tlbWay (s : State) (ltn : Nat) : Option Nat :=
  findP (fun w => decide (sGet 0 s.mapu.tlb (tlbSet ltn * 16 + w) = ltn + 1)) (List.range 16)

def tlbEn (s : State) : Bool := regB s .mapctl 0 6 0

/-- Touch a way of the TLB. -/
def tlbTouch (s : State) (ltn w : Nat) : State :=
  { s with mapu := { s.mapu with tlbPlru := sMod 0 s.mapu.tlbPlru (tlbSet ltn) (fun t => plruTouch t w) } }

/-- Install a tile in the TLB: the lowest invalid way first, else the pseudo-LRU victim (07 R215). -/
def tlbInstall (s : State) (ltn : Nat) : State :=
  if !tlbEn s || (tlbWay s ltn).isSome then s
  else
    let set := tlbSet ltn
    let free := findP (fun w => decide (sGet 0 s.mapu.tlb (set * 16 + w) = 0)) (List.range 16)
    let w := match free with
      | some w => w
      | none => (plruVictim (sGet 0 s.mapu.tlbPlru set) (fun _ => true)).getD 0
    tlbTouch { s with mapu := { s.mapu with tlb := sSet 0 s.mapu.tlb (set * 16 + w) (ltn + 1) } } ltn w

/-- Whether a map page is resident. -/
def pageHere (s : State) (p : Nat) : Bool := sGet false s.mapu.resident p

/-- Look an entry up: a TLB hit, or the map cache if its page is resident. The second component: the entry is known. -/
def lookMap (s : State) (ltn : Nat) (a : Attr) : State × Bool :=
  match (if tlbEn s then tlbWay s ltn else none) with
  | some w => (tlbTouch (count s 88 a) ltn w, true)
  | none =>
    let s := if tlbEn s then count s 89 a else s
    if pageHere s (pageOf ltn) then
      let s := if s.mapu.overflow.contains (pageOf ltn) then overflowIn s (pageOf ltn) else s
      (tlbInstall s ltn, true)
    else (s, false)

/-- Whether a page has a second slot to be read from (07 R212). -/
def otherSlot (s : State) (p : Nat) : Bool :=
  match s.sec.variant with
  | .y16 => !s.mapu.badSlots.contains p && !s.mapu.badSlots.contains (p + 2 ^ 19)
  | .y32 => false

/-- An uncorrectable map DRAM read (07 R212, R214): a page with two good slots is read from the other; a dirty page is a map DRAM fault; a clean
one is reloaded from its locator and stays resident (03 R89): the second component, upon which the read waits for the frames of its entry (log
entry 84). -/
def mapDramUe (s : State) (ltn : Nat) : State × Bool :=
  if otherSlot s (pageOf ltn) then (s, false)
  else if sGet false s.mapu.dirty (pageOf ltn) then (report s srcMap 0x0302 ltn 0 0, false)
  else (report s srcMap 0x0105 ltn 0 0, true)

/-- What the map says of a line (07 R204). -/
inductive MapAns where
  | const (d : Line)
  | refused | unwritten | lost
  | medium
deriving DecidableEq, Repr

/-- The answer of the map for a line. -/
def mapAns (s : State) (dln : Nat) : MapAns :=
  let e := entryAt s (ltnOf dln)
  match e.st with
  | .const => .const (patternLine e.ptn)
  | .unwritten => .unwritten
  | .lost => .lost
  | .mapped | .shared | .migrating | .refusing => if isRefused s.tabs dln then .refused else .medium

/-! ## Starting a sense -/

/-- Flags before anything is known. -/
def flags0 : RdFlags := { retry := false, mapmiss := false, overload := false, forward := false, preemptOff := false }

/-- The union of two sets of flags. -/
def flagsOr (a b : RdFlags) : RdFlags :=
  { retry := a.retry || b.retry, mapmiss := a.mapmiss || b.mapmiss, overload := a.overload || b.overload,
    forward := a.forward || b.forward, preemptOff := a.preemptOff || b.preemptOff }

/-- The first frame of a map page that holds a bit of an entry, and how many do: one or two (03 R95; 07 R206). -/
def entryFrame (ltn : Nat) : Nat := 60 * entryOf ltn / 512
def entryFrames (ltn : Nat) : Nat := if entryFrame ltn = (60 * entryOf ltn + 59) / 512 then 1 else 2

/-- The demand map read of a page that is under way. -/
def demandOf (s : State) (page : Nat) : Option DemandRd := findP (fun d => decide (d.page = page)) s.mapu.demand

/-- Host frame reads of a tile arrive at its channel one by one: whether one of them fails R83 (03 R82). -/
def arriveReads (s : State) (t : Nat) : Nat → State × Bool
  | 0 => (s, false)
  | n + 1 =>
    let (s, o) := arriveRead s (ptnChan t)
    let (s, o2) := arriveReads s t n
    (s, o || o2)

/-- A demand map read of an entry, unless its page is already under one (03 R95, R82): its frames arrive at the channel of the page's
tile. A page that was never written has no frame. -/
def demandRead (s : State) (ltn : Nat) (a : Attr) : State :=
  let p := pageOf ltn
  if (demandOf s p).isSome then s
  else
    let d : DemandRd := { page := p, first := entryFrame ltn, frames := entryFrames ltn, flags := { flags0 with mapmiss := true } }
    let put (s : State) (d : DemandRd) : State := { s with mapu := { s.mapu with demand := s.mapu.demand ++ [d] } }
    let s := count s 87 a
    match findP (fun x => decide (x.1 = p)) s.mapu.ckptTiles with
    | none => put s { d with frames := 0 }
    | some (_, t) =>
      let (s, o) := arriveReads s t d.frames
      put (suspendOps (suspendOps s t d.first) t (d.first + d.frames - 1)) { d with flags := { d.flags with overload := o, preemptOff := preemptDis s (ptnChan t) } }

/-- Dispatch the sense of a resolved entry: a demand sense counts at its channel and suspends what runs in its partition
(03 R82, R90, R92), with the references of the first pass (09 R280). -/
def dispatchSense (s : State) (x : Sense) : State × Sense :=
  let e := entryAt s (ltnOf x.dln)
  let ptn := e.ptn.toNat
  let c := ptnChan ptn
  let s := noteSense s ptn
  let x := { x with
    ptn := e.ptn, fslot := fslotOf (lineOf x.dln) e.rot, gen := e.gen, epoch := e.epoch, refs := firstRefs s c e.epoch.toNat, waitPage := false
    flags := flagsOr x.flags { flags0 with preemptOff := preemptDis s c } }
  if x.prefetch then (s, x)
  else
    let (s, ovl) := arriveRead (suspendOps s ptn x.fslot) c
    (s, { x with flags := flagsOr x.flags { flags0 with overload := ovl } })

/-- Start a sense for a line; the entry is looked up first. -/
def startSense (s : State) (dln : Nat) (prefetch : Bool) (ws : List Waiter) (known : Bool) (a : Attr) : State :=
  let x : Sense :=
    { sid := s.med.nextSid, prefetch := prefetch, dln := dln, ptn := 0, fslot := 0, gen := 0, epoch := 0, refs := 0, waitPage := true, retrying := false,
      stale := false, flags := flags0, waiters := ws }
  let s := { s with med := { s.med with nextSid := s.med.nextSid + 1 } }
  let (s, x) := if known then dispatchSense s x else (demandRead s (ltnOf dln) a, x)
  { s with med := { s.med with senses := s.med.senses ++ [x] } }

/-- An access waits for a line's lock (05 R149). A read that waits for a prefetch makes it a host read's sense: what runs in its partition is
suspended (03 R90). -/
def joinLock (s : State) (dln : Nat) (w : Waiter) : State :=
  match findP (fun x => holdsLock x dln) s.med.senses with
  | some y =>
    let s := if y.waitPage then s else suspendOps s y.ptn.toNat y.fslot
    { s with med := { s.med with senses := modFirst (fun x => holdsLock x dln) (fun x => { x with waiters := x.waiters ++ [w] }) s.med.senses } }
  | none =>
    { s with cache := { s.cache with
      locks := modFirst (fun l => decide (l.dln = dln)) (fun l => { l with waiters := l.waiters ++ [w] }) s.cache.locks } }

/-! ## Completion of writes -/

/-- A write completes at its port: NDR Cmp, its Quartz event, its credit (04 R105, R130; 15 R445). -/
def finishHost (s : State) (p : Port) (tag : Nat) (part : Bool) (ltn : Nat) : State :=
  let s := emit s (.ndr p tag)
  let s := countPort s p.val (if part then 2 else 1) (attrHost p.val ltn (if part then 2 else 1))
  returnCredit s p.val

/-- A write is marked as having waited at the port where it arrived (04 R109). -/
def markWaited (s : State) (p ltn : Nat) : State := countPort (flagWaited s p) p 9 (attrHost p ltn 1)

/-- Complete a host write, or hold its completion until the pairing page is durable (10 R324 step 4). -/
def finishOrHold (s : State) (p : Port) (tag : Nat) (part : Bool) (ltn : Nat) : State :=
  if s.pair.role = .solo && !s.pair.soloDurable then { s with pair := { s.pair with soloHeld := s.pair.soloHeld ++ [(p, tag, part, ltn)] } }
  else finishHost s p tag part ltn

/-- Acknowledge a message of the MIR class; its credit returns with the acknowledgement, unless R124 withholds it: then it returns
in a later flit header (10 R306; log entry 15). -/
def ackMir (s : State) (mtag : Nat) : State :=
  let s := send s (.mirrorAck [mtag])
  if s.cist.creditStop then { s with pair := { s.pair with owedMir := s.pair.owedMir + 1 } } else s

/-- A forwarded write completes at the port where it arrived, once its mirrored line is installed (02 R59). -/
def finishFwd (s : State) (ftag : Nat) (waited : Bool) : State :=
  match findP (fun f => decide (f.mtag = ftag)) s.pair.fwds with
  | none => s
  | some f =>
    let s := { s with pair := { s.pair with fwds := dropFirst (fun f => decide (f.mtag = ftag)) s.pair.fwds } }
    let s := if waited then markWaited s f.port.val (ltnOf f.dln) else s
    finishHost s f.port f.tag (decide (f.be ≠ BitVec.allOnes 64)) (ltnOf f.dln)

/-- What follows a write that is applied and needs no mirroring. -/
def finishLocal (s : State) (org : Origin) (part : Bool) (dln : Nat) : State :=
  match org with
  | .host p tag => finishOrHold s p tag part (ltnOf dln)
  | .mirror mtag _ ftag waited =>
    let s := ackMir s mtag
    match ftag with
    | some f => finishFwd s f waited
    | none => s
  | .peer .. | .silent | .internal | .repair _ => s

/-! ## Applying a write at its slice (04 R105 steps 3 and 4) -/

/-- Whether a write of this origin is mirrored by its home (02 R58). -/
def mirrors (org : Origin) : Bool :=
  match org with
  | .host .. | .peer .. | .silent => true
  | .mirror .. | .internal | .repair _ => false

/-- Whether an applied write sets the bitmap bit of its tile: in SOLO, and at the source in RESYNC (10 R325, R337). -/
def marksBitmap (s : State) (org : Origin) : Bool :=
  (match s.pair.role with
    | .solo => true
    | .resync => s.pair.syncSrc
    | .unpaired | .joining | .paired | .fenced => false) && mirrors org

/-- The port named in a MIRROR_WRITE, and the FTAG of a forwarded write (10 R317). -/
def orgPort (org : Origin) : Port :=
  match org with
  | .host p _ => p
  | .peer _ p => p
  | .mirror _ p _ _ => p
  | .silent | .internal | .repair _ => 0

def orgFtag (org : Origin) : Option Nat :=
  match org with
  | .peer t _ => some t
  | .host .. | .mirror .. | .silent | .internal | .repair _ => none

/-- Mirror an applied line: an open write until the peer acknowledges it (10 R306). -/
def mirrorLine (s : State) (dln : Nat) (v : LineV) (org : Origin) (part waited : Bool) : State :=
  let (t, s) := takeMtag s
  let s := { s with pair := { s.pair with opens := s.pair.opens ++ [.write t dln org part] } }
  send s (.mirrorWrite t v.p v.pcause (orgPort org) dln (orgFtag org) (waited && (orgFtag org).isSome) v.data)

/-- Write a line into its way, or into a way taken for it. None where no way is evictable (04 R109, R123). -/
def storeLine (s : State) (dln : Nat) (v : LineV) : Option State :=
  let put (s : State) (k : Nat) (old : WayT) (keep : Bool) : State :=
    let (dk, die) := if keep then (if dirtyW old then (old.dk, old.die) else if old.dk then dieInfo s (ltnOf dln) else (false, 0)) else (false, 0)
    let w : WayT :=
      { v := true, d := true, dc := 3, p := v.p, pcause := if v.p then v.pcause else 0, dk := dk, die := die, pf := false, dln := dln,
        stamp := if keep && dirtyW old then old.stamp else s.cache.stamp + 1, data := v.data }
    let s := touchWay (newWay s k w) k
    { s with cache := { s.cache with stamp := s.cache.stamp + 1 } }
  match findWay s dln with
  | some (k, old) => some (put s k old true)
  | none => match takeWay s dln (evictOk s) with
    | some (k, s) => some (put s k wayInit false)
    | none => none

/-- Apply a write whose content is known. None where it must wait for a way or for a MIR credit. A partial write that misses learns
its die from the fill (04 R122). -/
def applyWrite (s : State) (w : WaitW) (v : LineV) (filled : Bool) : Option State :=
  let mir := mirroring s && mirrors w.org
  if mir && s.pair.mir = 0 then none
  else match storeLine s w.dln v with
    | none => none
    | some s =>
      let s := if filled then
          match findWay s w.dln with
          | some (k, x) =>
            let (dk, die) := dieInfo s (ltnOf w.dln)
            if x.dk then s else setWay s k { x with dk := dk, die := die }
          | none => s
        else s
      let s := if isRepair w then s else voidRepairs s (fun d => decide (d = w.dln))
      let s := { s with cist := { s.cist with waits := s.cist.waits.map (fun x => if x.dln = w.dln then { x with fill := none } else x) } }
      let s := if marksBitmap s w.org then { s with pair := { s.pair with bitmap := sSet false s.pair.bitmap (ltnOf w.dln) true } } else s
      let s := if mir then mirrorLine s w.dln v w.org w.part w.waited else finishLocal s w.org w.part w.dln
      some (evalStop s)

/-! ## Merging (02 R76, R77) -/

/-- Enabled bytes take the written values; a full-line write takes only its own poison. -/
def mergeV (base : LineV) (w : WaitW) : LineV :=
  if w.be = BitVec.allOnes 64 then { data := w.data, p := w.poison, pcause := if w.poison then w.pcause else 0 }
  else
    { data := mergeLine base.data w.data w.be, p := w.poison || base.p,
      pcause := if w.poison then w.pcause else if base.p then base.pcause else 0 }

/-- READ_UNWRITTEN of the well that holds a line: true for ZERO (02 R65). -/
def zeroPolicy (s : State) (dln : Nat) : Bool :=
  match wellAt s.tabs.wells (dln * 64) with
  | some (_, w) => w.ruZero
  | none => false

/-- The base of a merge onto a never-written line: zero, poisoned under the POISON policy. -/
def unwrittenBase (s : State) (dln : Nat) : LineV := if zeroPolicy s dln then cleanLine 0 else poisonLine 1

/-- UNWRITTEN_MERGE under the POISON policy (02 R77). -/
def noteUnwrittenMerge (s : State) (dln p : Nat) : State := if zeroPolicy s dln then s else noteEv s (srcPort p) 0x0002 0 (dlnArg dln) 0

/-! ## Admission to a slice (04 R109, R134) -/

/-- The attributes of a write's Quartz events. -/
def wAttr (w : WaitW) : Attr :=
  match w.org with
  | .host p _ => attrHost p.val (ltnOf w.dln) 2
  | .peer _ p => { port := some (4 + p.val), priv := some 0, ltn := some (ltnOf w.dln), cls := some 2 }
  | .mirror _ p _ _ => { port := some (4 + p.val), priv := some 0, ltn := some (ltnOf w.dln), cls := some 7 }
  | .silent | .internal | .repair _ => attrInt (ltnOf w.dln) 2

/-- A write reads the arrays it needs: the tag alone where it replaces the whole line (05 R155). -/
def checkWrite (s : State) (w : WaitW) : State :=
  match findWay s w.dln with
  | some (k, _) => if w.be = BitVec.allOnes 64 then checkTag s k else checkWay s k
  | none => s

/-- The base of a merge for what a fill found (02 R77). -/
def fillBase (s : State) (dln : Nat) (f : FillRes) : LineV :=
  match f with
  | .line d p pc => { data := d, p := p, pcause := pc }
  | .never => unwrittenBase s dln
  | .bad _ => poisonLine 1

/-- Merge a partial write onto what its fill found. -/
def applyFill (s : State) (w : WaitW) (f : FillRes) : Option State :=
  (applyWrite s w (mergeV (fillBase s w.dln f) w) true).map (fun s => match f with
    | .never => noteUnwrittenMerge s w.dln (orgPort w.org).val
    | .line .. | .bad _ => s)

/-- Try to apply a write now: at once where its content is known, through a fill otherwise; behind the line's lock it waits for that. None
where it must wait in its slice. -/
def admitWrite (s : State) (w : WaitW) : Option State :=
  if lockHeld s w.dln then some (joinLock s w.dln (.partialWr w))
  else
    let s := checkWrite s w
    if w.be = BitVec.allOnes 64 then applyWrite s w (mergeV (cleanLine 0) w) false
    else match findWay s w.dln with
      | some (_, x) => applyWrite s w (mergeV { data := x.data, p := x.p, pcause := x.pcause } w) false
      | none => match findCis s w.dln, w.fill with
        | some e, _ => applyWrite (count s 90 (wAttr w)) w (mergeV { data := e.data, p := e.p, pcause := e.pcause } w) true
        | none, some f => applyFill s w f
        | none, none =>
          let (s, known) := lookMap s (ltnOf w.dln) (wAttr w)
          let fill : Option State :=
            if (victimWay s w.dln (evictOk s)).isSome then some (startSense s w.dln false [.partialWr w] known (wAttr w)) else none
          if !known then fill
          else match mapAns s w.dln with
            | .const d => applyWrite s w (mergeV (cleanLine d) w) false
            | .lost => applyWrite s w (mergeV (poisonLine 1) w) false
            | .refused => applyWrite s w (mergeV (poisonLine 2) w) false
            | .unwritten => (applyWrite s w (mergeV (unwrittenBase s w.dln) w) false).map (fun s => noteUnwrittenMerge s w.dln (orgPort w.org).val)
            | .medium => fill

/-- A write waits in its slice, at its place in arrival order, and is marked once (04 R109, R134). -/
def waitWrite (s : State) (w : WaitW) : State :=
  let s := if w.waited then s else match w.org with
    | .host p _ => markWaited s p.val (ltnOf w.dln)
    | .peer .. | .mirror .. | .silent | .internal | .repair _ => s
  parkWrite s { w with waited := true }

/-- Whether a write to the same line that arrived before waits (02 R55). -/
def behindWait (s : State) (w : WaitW) : Bool := s.cist.waits.any (fun x => decide (x.dln = w.dln) && decide (x.ord < w.ord))

/-- A write that has its place in arrival order acts or waits: behind an earlier write to its line that waits, and behind a CLONE of its tile, it
waits; a write with no byte enabled completes without change (02 R46, R55; 07 R236). -/
def retryWrite (s : State) (w : WaitW) : State :=
  if w.be = 0 then finishLocal s w.org w.part w.dln
  else if behindWait s w || s.cmds.hold.contains (ltnOf w.dln) then waitWrite s w
  else match admitWrite s w with
    | some s => s
    | none => waitWrite s w

/-- A write reaches its slice and takes its place in arrival order. -/
def sliceWrite (s : State) (w : WaitW) : State :=
  retryWrite { s with cist := { s.cist with nextOrd := s.cist.nextOrd + 1 } } { w with ord := s.cist.nextOrd }

/-- A write of the module's own, or of the resync, that no port waits for. -/
def ownWrite (dln : Nat) (org : Origin) (v : LineV) : WaitW :=
  { dln := dln, org := org, poison := v.p, pcause := v.pcause, be := BitVec.allOnes 64, data := v.data, part := false, waited := false,
    ord := 0, fill := none }

/-! ## Forwarding (10 R307) -/

/-- Forward a write to its home, keeping its data and enables. -/
def forwardWrite (s : State) (p : Port) (tag dln : Nat) (poison : Bool) (be : Enables) (data : Line) : State :=
  let (t, s) := takeMtag s
  let f : Fwd := { mtag := t, dln := dln, port := p, tag := tag, poison := poison, be := be, data := data }
  let s := { s with pair := { s.pair with fwds := s.pair.fwds ++ [f] } }
  if be = BitVec.allOnes 64 then send s (.fwdFull t p dln poison data) else send s (.fwdPart t p dln poison be data)

/-- Whether a handover holds a new write to this tile (10 R336): the giver holds those it is home for, the taker those it would
forward. -/
def handHolds (s : State) (ltn : Nat) : Bool :=
  match s.pair.hand with
  | .none => false
  | .giving _ => isHome s ltn
  | .taking => !isHome s ltn
  | .leaving => true

/-- Route a write past the well check: held by a handover, at its home here, or forwarded. -/
def routeWrite (s : State) (p : Port) (tag dln : Nat) (poison : Bool) (be : Enables) (data : Line) : State :=
  let ltn := ltnOf dln
  let part := decide (be ≠ BitVec.allOnes 64)
  if be = 0 then finishOrHold s p tag part ltn
  else if handHolds s ltn then
    { s with pair := { s.pair with heldW := s.pair.heldW ++ [{ port := p, tag := tag, dln := dln, poison := poison, be := be, data := data }] } }
  else if isHome s ltn then
    sliceWrite s { dln := dln, org := .host p tag, poison := poison, pcause := 0, be := be, data := data, part := part, waited := false,
                   ord := 0, fill := none }
  else forwardWrite s p tag dln poison be data

end Sys2Proof.Machine
end

