-- ==== Sys2Proof/Machine/ReadOps.lean ====
section
/-! DEFINITION. Reads from the arrival to the response (03 R80, R98 to R101), prefetches (05 R146, R147), and what the end of a sense
does for those who wait for it (05 R149; 02 R50, R65, R72, R77, R581). -/

namespace Sys2Proof.Machine

/-! ## Responses (03 R98 to R101) -/

/-- By which kind of path a read was served: refused at the port, from the cache, another miss, or the medium. -/
inductive Path where
  | refused | hit | miss | medium
deriving DecidableEq, Repr

/-- The increase of the bounds at the width and rate of a port (11 R357): flit time beyond 2 ns, at ingress and egress. -/
def widthNs (x : PortSt) : Nat :=
  let w := if x.width = 16 then 1 else if x.width = 8 then 2 else 4
  let r := if x.rate = 3 then 1 else if x.rate = 2 then 2 else 4
  (w * r - 1) * 4

/-- The bound that BOUND_MISS tests for a read that arrives now (03 R100); none outside WARM or with GUARD_SHORT set. -/
def boundNow (s : State) (p : Nat) : Option Nat := if s.pwr.warm && !s.zir.guardShort then some (250 + widthNs (portAt s p)) else none

/-- Whether no cause flag is set. -/
def noFlags (f : RdFlags) : Bool := !f.retry && !f.mapmiss && !f.overload && !f.forward && !f.preemptOff

/-- Whether the population of the port's histogram takes the read (03 R104). -/
def histTakes (sel : Nat) (path : Path) (f : RdFlags) : Bool :=
  match sel with
  | 0 => true
  | 1 => decide (path = .miss) || decide (path = .medium)
  | 2 => decide (path = .medium) && noFlags f
  | _ => f.retry

/-- A late read and its causes (03 R98 to R100). -/
def countLate (s : State) (p : Nat) (a : Attr) (f : RdFlags) : State :=
  let s := countPort s p 3 a
  let s := if f.retry then countPort s p 4 a else s
  let s := if f.mapmiss then countPort s p 5 a else s
  let s := if f.overload then countPort s p 6 a else s
  let s := if f.forward then countPort s p 7 a else s
  if f.preemptOff then countPort s p 8 a else s

/-- A port answers a read: data, Cmp for MemRd, its events, its latency and its credit (03 R98 to R101; 11 R342; 15 R445). -/
def answerHost (s : State) (p : Port) (tag : Nat) (cmp : Bool) (bound : Option Nat) (dln : Option Nat) (v : LineV) (lat : Nat) (f : RdFlags)
    (path : Path) : State :=
  let a : Attr := { port := some p.val, priv := some 0, ltn := dln.map ltnOf, cls := some 0 }
  let s := emit s (.drs p tag v.data v.p)
  let s := if cmp then emit s (.ndr p tag) else s
  let s := countPort s p.val 0 a
  let s := if v.p then countPort s p.val 10 a else s
  let s := if regF s .port p.val 24 9 0 < lat then countLate s p.val a f else s
  let s := if histTakes (regF s .port p.val 24 11 10) path f then addBin s (64 * p.val + if lat / 10 < 63 then lat / 10 else 63) else s
  let s := modPort s p.val (fun x => { x with rdOut := x.rdOut - 1 })
  match bound with
  | some b => if b < lat && noFlags f then report s (srcPort p.val) 0x0101 0 (match dln with
    | some d => dlnArg d
    | none => 0) lat else s
  | none => s

/-- The latency of a read that has waited and is answered by a step that no sense ends: the time since its arrival, at least what it would have
taken had it been served at once (03 R98). -/
def waitLat (s : State) (r : HostRd) : Nat := if now s - r.at_ < r.lat0 then r.lat0 else now s - r.at_

/-- Answer whoever waits with a line: a port, or the peer in RD_DATA with its UE bit (10 R317, R335). -/
def answer (s : State) (w : Waiter) (dln : Nat) (v : LineV) (ue : Bool) (lat : Nat) (f : RdFlags) (path : Path) : State :=
  match w with
  | .host r => answerHost s r.port r.tag r.cmp r.bound (some dln) v lat f path
  | .peerRd mtag _ => send s (.fwdRdData mtag ue v.p v.data)
  | .partialWr _ => s

/-- The port a read came from, and its attributes. -/
def rdPort (w : Waiter) : Nat :=
  match w with
  | .host r => r.port.val
  | .peerRd _ p => p.val
  | .partialWr x => (orgPort x.org).val

def rdAttr (w : Waiter) (dln : Nat) : Attr :=
  match w with
  | .host r => attrHost r.port.val (ltnOf dln) 0
  | .peerRd _ p => { port := some (4 + p.val), priv := some 0, ltn := some (ltnOf dln), cls := some 0 }
  | .partialWr x => wAttr x

/-! ## Never-written lines and LOST tiles (02 R65; 07 R204) -/

/-- Answer a read of a never-written line under the well's policy. -/
def answerNever (s : State) (w : Waiter) (dln : Nat) (lat : Nat) (f : RdFlags) (path : Path) : State :=
  let z := zeroPolicy s dln
  let s := count s 82 (rdAttr w dln)
  let s := if z then s else noteEv s (srcPort (rdPort w)) 0x0001 0 (dlnArg dln) 0
  answer s w dln { data := 0, p := !z, pcause := 0 } false lat f path

/-- Answer a read of a line in a LOST tile: poison and LOST_READ. -/
def answerLost (s : State) (w : Waiter) (dln : Nat) (lat : Nat) (f : RdFlags) (path : Path) : State :=
  answer (noteEv s srcMap 0x020E (ltnOf dln) (dlnArg dln) 0) w dln { data := 0, p := true, pcause := 0 } false lat f path

/-! ## Prefetch (05 R146, R147) -/

/-- Whether every condition of 05 R146 holds for prefetching a line. Besides them, the line's lock must be free and the entry known without a
demand map read (log entry 77). -/
def prefetchOk (s : State) (dln : Nat) : Bool :=
  let e := entryAt s (ltnOf dln)
  let n := sliceOf s.cache dln
  (e.st = .mapped || e.st = .shared)
    && (findWay s dln).isNone && decide (sGet 0 s.cist.filter (filterIx dln) = 0)
    && decide ((chanAt s (ptnChan e.ptn.toNat)).burst ≤ regF s .cache n 2 2 1)
    && decide (1024 + locksOf s n < 9216)
    && decide (s.pwr.st = .service) && decide (s.pair.role ≠ .fenced) && regB s .cache n 2 0
    && !lockHeld s dln && ((tlbWay s (ltnOf dln)).isSome || pageHere s (pageOf (ltnOf dln)))

/-- Issue or drop a prefetch; a dropped one counts PF_DROP. -/
def prefetch (s : State) (dln : Nat) (inTile : Bool) (a : Attr) : State :=
  if inTile && prefetchOk s dln then startSense s dln true [] true a else count s 80 a

/-- The prefetch of the next line after a demand read from the medium. -/
def prefetchNext (s : State) (dln : Nat) (a : Attr) : State := prefetch s (dln + 1) (decide (lineOf dln ≠ 255)) { a with priv := some 3 }

/-! ## Serving a read past the checks (03 R80) -/

/-- Serve a read along the first path that applies: behind the line's lock, from the cache, the Cistern, the map, or the medium. A write to the
line that waits under 04 R109 does not hold the lock: the read goes before it, since no read waits for a write (03 R87; log entry 77). -/
def serveRead (s : State) (dln : Nat) (w : Waiter) (env : RdEnv) : State :=
  if lockHeld s dln then joinLock s dln w
  else
    let s := checkLine (putUpset s dln env.arr) dln
    match findWay s dln with
    | some (k, x) =>
      let s := touchWay (if x.pf then setWay s k { x with pf := false } else s) k
      answer s w dln { data := x.data, p := x.p, pcause := x.pcause } false env.lat flags0 .hit
    | none => match findCis s dln with
      | some e =>
        let v : LineV := { data := e.data, p := e.p, pcause := e.pcause }
        answer (installClean (count s 90 (rdAttr w dln)) dln v false) w dln v false env.lat flags0 .miss
      | none =>
        let on := s.pwr.st
        let (s, reload) :=
          if env.mapUe && (tlbWay s (ltnOf dln)).isNone && pageHere s (pageOf (ltnOf dln)) then mapDramUe s (ltnOf dln) else (s, false)
        let (s, known) := if reload then (s, false) else lookMap s (ltnOf dln) (rdAttr w dln)
        if s.pwr.st ≠ on then s
        else if !known then startSense s dln false [w] false (rdAttr w dln)
        else match mapAns s dln with
          | .const d => answer s w dln (cleanLine d) false env.lat flags0 .miss
          | .refused => answer s w dln { data := 0, p := true, pcause := 2 } false env.lat flags0 .miss
          | .unwritten => answerNever s w dln env.lat flags0 .miss
          | .lost => answerLost s w dln env.lat flags0 .miss
          | .medium => startSense s dln false [w] true (rdAttr w dln)

/-! ## The end of a sense -/

/-- What a sense ends with for those who wait. -/
inductive Got where
  | line (v : LineV)
  | never
  /-- no line: ARG2 of MERGE_POISON (02 R77) -/
  | bad (arg2 : Nat)
  /-- the map holds the line's content, or says it has none -/
  | map (a : MapAns)
deriving DecidableEq, Repr

/-- What ended, from the class of the sense. -/
def gotOf (f : Sensed) : Got :=
  match f with
  | .line d p pc _ => .line { data := d, p := p, pcause := pc }
  | .never => .never
  | .interrupted => .bad 0x3D
  | .wZero => .bad 0x3C
  | .tagFault => .bad 0x3E
  | .uncorr | .again => .bad 0x3F

/-- What a partial write keeps of what ended, while it waits on; `none`: it looks the line up again. -/
def fillOf (g : Got) : Option FillRes :=
  match g with
  | .line v => some (.line v.data v.p v.pcause)
  | .never => some .never
  | .bad a => some (.bad a)
  | .map _ => none

/-- The base of a merge for what ended (02 R77). -/
def mergeBase (s : State) (dln : Nat) (g : Got) : LineV :=
  match g with
  | .line v => v
  | .never | .map .unwritten => unwrittenBase s dln
  | .map (.const d) => cleanLine d
  | .map .refused => poisonLine 2
  | .bad _ | .map .lost | .map .medium => poisonLine 1

/-- Answer a reading waiter by what ended; a line now in the cache is served from it. -/
def answerGot (s : State) (w : Waiter) (dln : Nat) (g : Got) (lat : Nat) (f : RdFlags) : State :=
  match findWay s dln, g with
  | some (k, x), _ => answer (touchWay (if x.pf then setWay s k { x with pf := false } else s) k) w dln
      { data := x.data, p := x.p, pcause := x.pcause } false lat f .medium
  | none, .line v => answer s w dln v false lat f .medium
  | none, .never => answerNever s w dln lat f .medium
  | none, .bad _ => answer s w dln { data := 0, p := true, pcause := 1 } true lat f .medium
  | none, .map (.const d) => answer s w dln (cleanLine d) false lat f .miss
  | none, .map .refused => answer s w dln { data := 0, p := true, pcause := 2 } false lat f .miss
  | none, .map .unwritten => answerNever s w dln lat f .miss
  | none, .map .lost => answerLost s w dln lat f .miss
  | none, .map .medium => answer s w dln { data := 0, p := true, pcause := 1 } true lat f .medium

/-- A write that waited for the line's lock acts on the line as the holder left it (05 R149). Where it must wait, it stays a partial write and
keeps what its fill found. -/
def mergeGot (s : State) (w : WaitW) (dln : Nat) (g : Got) : State :=
  if behindWait s w then waitWrite s w
  else
    let held := findWay s dln
    let base := match held with
      | some (_, x) => { data := x.data, p := x.p, pcause := x.pcause }
      | none => mergeBase s dln g
    match applyWrite s w (mergeV base w) true with
    | some t => (match held, g with
      | none, .never | none, .map .unwritten => if w.be = BitVec.allOnes 64 then t else noteUnwrittenMerge t dln (orgPort w.org).val
      | _, _ => t)
    | none => waitWrite s { w with fill := if w.be = BitVec.allOnes 64 then none else fillOf g }

/-- Serve those who wait for a fill, in the order in which they came (05 R149). -/
def serveWaiters (s : State) (dln : Nat) (g : Got) (lat : Nat) (f : RdFlags) : List Waiter → State
  | [] => s
  | w :: r =>
    let s := match w with
      | .partialWr x => mergeGot s x dln g
      | .host .. | .peerRd .. => answerGot s w dln g lat f
    serveWaiters s dln g lat f r

/-- Whether the first write that waits is a partial one: the sense is its fill (02 R77, R581). A full-line write replaces the line, and no later
write merges onto what the sense finds. -/
def isFill (ws : List Waiter) : Bool :=
  match writersOf ws with
  | w :: _ => decide (w.be ≠ BitVec.allOnes 64)
  | [] => false

/-- Those who waited for a lock that is free now act one after the other, as if they came now; each keeps its place (05 R149). -/
def restartWaiters (dln : Nat) : List Waiter → State → State
  | [], s => s
  | w :: r, s =>
    let s := match w with
      | .partialWr x => retryWrite s x
      | .host h => serveRead s dln w { lat := waitLat s h, arr := .none, mapUe := false }
      | .peerRd .. => serveRead s dln w { lat := 0, arr := .none, mapUe := false }
    restartWaiters dln r s

/-- Maintenance has done with a line: its lock is free (05 R148). -/
def freeLock (s : State) (dln : Nat) (maint : Bool) : State :=
  match findP (fun l => decide (l.dln = dln) && (l.maint == maint)) s.cache.locks with
  | some l =>
    restartWaiters dln l.waiters { s with cache := { s.cache with
      locks := dropFirst (fun l => decide (l.dln = dln) && (l.maint == maint)) s.cache.locks } }
  | none => s

/-- Whether someone reads. -/
def someReads (ws : List Waiter) : Bool :=
  !(readersOf ws).isEmpty

/-- Remove a sense. -/
def dropSense (s : State) (sid : Nat) : State :=
  { s with med := { s.med with senses := dropFirst (fun x => decide (x.sid = sid)) s.med.senses } }

/-- Replace a sense. -/
def putSense (s : State) (x : Sense) : State :=
  { s with med := { s.med with senses := modFirst (fun y => decide (y.sid = x.sid)) (fun _ => x) s.med.senses } }

/-- A sense ends: the line is installed unless it may not be, and those who wait are served. -/
def endSense (s : State) (x : Sense) (g : Got) (lat : Nat) : State :=
  let s := dropSense s x.sid
  let s := match g with
    | .line v => if x.stale then s else installClean s x.dln v (x.prefetch && x.waiters.isEmpty)
    | .never | .bad _ | .map _ => s
  serveWaiters s x.dln g lat x.flags x.waiters

/-- The attributes of a sense's events: those of the first who waits. -/
def senseAttr (x : Sense) : Attr :=
  match x.waiters with
  | w :: _ => rdAttr w x.dln
  | [] => attrInt (ltnOf x.dln) 0

/-- A sense of the medium has been classed and decoded for good (06 R180; 09 R283 to R287; 02 R50, R72, R581). -/
def finishFrame (s : State) (x : Sense) (f : Sensed) (retried : Bool) (lat : Nat) : State :=
  let ltn := ltnOf x.dln
  let ptn := x.ptn.toNat
  let fill := isFill x.waiters && !x.stale
  let by_ : SenseBy := { src := if x.prefetch && x.waiters.isEmpty then 1 else 0, attr := senseAttr x, dln := some x.dln, fill := fill }
  let s := account s ptn x.fslot (some ltn) by_ f retried
  let s := match gotOf f with
    | .bad a => if fill then report s (srcChan (ptnChan ptn)) 0x0203 (ptn * 256 + x.fslot) (dlnArg x.dln) a else s
    | .line _ | .never | .map _ => s
  let s := match f with
    | .interrupted => if x.stale then s else rewriteInterrupted s ltn ptn x.fslot x.gen
    | .wZero | .tagFault | .uncorr => if fill || x.stale then s else askRepair s x.dln
    | .never | .line .. | .again => s
  let s := endSense s x (gotOf f) lat
  if someReads x.waiters then prefetchNext s x.dln (senseAttr x) else s

/-! ## Answers without storing (10 R326) -/

/-- A host write completes although its data is discarded, and counts (10 R326). -/
def fenceHost (s : State) (p : Port) (tag : Nat) (part : Bool) (ltn : Nat) : State :=
  finishHost (modPort s p.val (fun x => { x with fenced := satAdd (2 ^ 40 - 1) x.fenced 1 })) p tag part ltn

/-- A waiting write whose port is here completes. -/
def fenceWait (s : State) (w : WaitW) : State :=
  match w.org with
  | .host p t => fenceHost s p t w.part (ltnOf w.dln)
  | .peer .. | .mirror .. | .silent | .internal | .repair _ => s

/-- A read admitted before answers with poisoned zero data, with the flags it has collected (03 R98 to R100). -/
def fenceRead (s : State) (dln : Nat) (r : HostRd) (f : RdFlags) : State :=
  answerHost (modPort s r.port.val (fun x => { x with fenced := satAdd (2 ^ 40 - 1) x.fenced 1 })) r.port r.tag r.cmp r.bound (some dln)
    { data := 0, p := true, pcause := 0 } (waitLat s r) f .refused

/-- A waiter for a line's lock: a host read answers, a host write completes. -/
def fenceWaiter (s : State) (dln : Nat) (f : RdFlags) (w : Waiter) : State :=
  match w with
  | .host r => fenceRead s dln r f
  | .partialWr x => fenceWait s x
  | .peerRd .. => s

/-- Every request that waits here or at the peer is answered: reads with poisoned zero data, writes with their completion (10 R326; 12 R386). -/
def answerAdmitted (s : State) : State :=
  let ws := s.cist.waits
  let fs := s.pair.fwds
  let hs := s.pair.heldW
  let rs := s.pair.fwdRds
  let ss := s.med.senses
  let ks := s.cache.locks
  let s := mapWaiters { s with cist := { s.cist with waits := [] }, pair := { s.pair with fwds := [], heldW := [], fwdRds := [] } } (fun _ _ => [])
  let s := ws.foldl fenceWait s
  let s := ss.foldl (fun s x => x.waiters.foldl (fun s w => fenceWaiter s x.dln x.flags w) s) s
  let s := ks.foldl (fun s x => x.waiters.foldl (fun s w => fenceWaiter s x.dln flags0 w) s) s
  let s := fs.foldl (fun s f => fenceHost s f.port f.tag (decide (f.be ≠ BitVec.allOnes 64)) (ltnOf f.dln)) s
  let s := hs.foldl (fun s w => fenceHost s w.port w.tag (decide (w.be ≠ BitVec.allOnes 64)) (ltnOf w.dln)) s
  rs.foldl (fun s r => fenceRead s r.dln r.rd { flags0 with forward := true }) s

end Sys2Proof.Machine
end

