-- ==== Sys2Proof/Machine/WellOps.lean ====
section
/-! DEFINITION. Wells as shared operations: the checks of R34 to R37, creating, destroying and modifying a well (02 R38 to R40; 07 R205; 12
R383), the extents that advertise it (11 R348, R349), unmapping a tile (08 R267), and the takeover of a well table at a join (10 R330). -/

namespace Sys2Proof.Machine

/-! ## Tiles that hold anything -/

/-- The tiles from `lo` up to `hi` with an entry or with a line held, ascending by entry. -/
def touchedTiles (s : State) (lo hi : Nat) : List Nat :=
  let inR (l : Nat) : Bool := decide (lo ≤ l) && decide (l < hi)
  dedup ((s.tabs.map.map (·.1)).filter inR ++ ((s.cache.ways.filter (fun x => x.2.v)).map (fun x => ltnOf x.2.dln)).filter inR
    ++ (s.cist.ents.map (fun e => ltnOf e.dln)).filter inR)

/-- Unmap a tile (08 R267): its move is abandoned, its lines are discarded, its entry becomes UNWRITTEN. -/
def unmapTile (s : State) (ltn : Nat) : State :=
  if (entryAt s ltn).st = .unwritten then discardLines (killMove s ltn) ltn else replaceTile s ltn .unwritten 0

/-- Unmap some tiles. -/
def unmapTiles (s : State) : List Nat → State
  | [] => s
  | l :: r => unmapTiles (unmapTile s l) r

/-- The first and one past the last tile of a well. -/
def wellLo (w : Well) : Nat := w.base * 16384
def wellHi (w : Well) : Nat := (w.base + w.size) * 16384

/-- Records appended one group each. -/
def jEach (s : State) : List JVal → State
  | [] => s
  | v :: r => jEach (jAppend s [v]) r

/-- The records that zero every entry of a well (07 R205). -/
def zeroVals (s : State) (w : Well) : List JVal :=
  (s.tabs.map.filter (fun x => decide (wellLo w ≤ x.1) && decide (x.1 < wellHi w))).map (fun x => .mapSet x.1 entryInit false)

/-! ## Attributes (02 R35; 12 R381) -/

/-- A well as WELL_CREATE gives it. -/
def wellFrom (base size attr : Nat) : Well :=
  { live := true, base := base / blockBytes, size := size / blockBytes, mask := BitVec.ofNat 4 attr, shared := bitOf attr 4,
    prot := bitOf attr 5, ruZero := bitOf attr 6, pin := bitOf attr 7, key := bitsOf attr 13 8 }

/-- A well with the attributes of WELL_MODIFY: base, size and key slot stay (02 R37). -/
def wellWith (w : Well) (attr : Nat) : Well :=
  { w with mask := BitVec.ofNat 4 attr, shared := bitOf attr 4, prot := bitOf attr 5, ruZero := bitOf attr 6, pin := bitOf attr 7 }

/-- Whether the owner mask suits SHARED (02 R35). -/
def attrOk (attr : Nat) : Bool :=
  let m := attr % 16
  decide (m ≠ 0) && (bitOf attr 4 || m = 1 || m = 2 || m = 4 || m = 8)

/-- Whether a range of bytes is a well's range: multiples of 256 MiB inside the logical capacity (02 R34). -/
def rangeOk (v : Variant) (base size : Nat) : Bool :=
  decide (base % blockBytes = 0) && decide (size % blockBytes = 0) && decide (0 < size) && decide (base + size ≤ capacity v)

/-! ## Extents (11 R348, R349) -/

/-- The extent of a well at a port. -/
def extAt (s : State) (p i : Nat) : Ext := sGet extInit (portAt s p).exts i

/-- Whether a host still holds a well's extent at a port. -/
def extHeld (s : State) (p i : Nat) : Bool := (extAt s p i).accepted

/-- Offer a well's extent at a port in an Add Capacity event. -/
def offerExt (s : State) (p i : Nat) : State :=
  dcRaise (modPort s p (fun x => { x with exts := sSet extInit x.exts i { offered := true, accepted := false, released := [] }, extGen := x.extGen + 1 }))
    (Fin.ofNat 4 p) 0 i []

/-- A well's extent leaves a port's list; `forced`: with a Release event although the host has not released it (10 R330). -/
def dropExt (s : State) (forced : Bool) (p i : Nat) : State :=
  let e := extAt s p i
  if e = extInit then s
  else
    let s := modPort s p (fun x => { x with exts := sSet extInit x.exts i extInit, extGen := x.extGen + 1 })
    if forced && e.accepted then dcRaise s (Fin.ofNat 4 p) 2 i [] else s

/-- The ports of an owner mask. -/
def maskPorts (m : BitVec 4) : List Nat := (List.range 4).filter (fun p => m.getLsbD p)

/-- The list's generation number rises where an extent's tag changes (11 R349). -/
def touchExt (s : State) (p : Nat) : State := modPort s p (fun x => { x with extGen := x.extGen + 1 })

/-! ## Well operations (12 R383) -/

/-- Whether two wells overlap (02 R34). -/
def overlaps (a b : Well) : Bool := decide (a.base < b.base + b.size) && decide (b.base < a.base + a.size)

/-- The well of a number. -/
def wellNo (s : State) (i : Nat) : Well := sGet wellInit s.tabs.wells i

/-- WELL_CREATE's own conditions: 7 NO_RESOURCE, 0x0A OVERLAP. -/
def createStatus (s : State) (i : Nat) (w : Well) : Nat :=
  if (wellNo s i).live || (keyAt s w.key).inUse || s.tabs.wells.any (fun x => x.2.live && decide (x.2.key = w.key)) then 7
  else if s.tabs.wells.any (fun x => x.2.live && overlaps x.2 w) then 0x0A else 0

/-- WELL_DESTROY's: 4 NOT_OWNER, 9 EXTENT_HELD. -/
def destroyStatus (s : State) (i : Nat) : Nat :=
  if !(wellNo s i).live then 4 else if (List.range 4).any (fun p => extHeld s p i) then 9 else 0

/-- WELL_MODIFY's. -/
def modifyStatus (s : State) (i attr : Nat) : Nat :=
  if !(wellNo s i).live then 4
  else if (maskPorts (wellNo s i).mask).any (fun p => !bitOf attr p && extHeld s p i) then 9 else 0

/-- KEY_ROTATE's: 4 NOT_OWNER, 8 BUSY. -/
def rotateStatus (s : State) (i : Nat) : Nat :=
  if !(wellNo s i).live then 4 else if (keyAt s (wellNo s i).key).rotating then 8 else 0

/-- Create a well: a new key in its slot, every entry zero, the table entry journaled, the extents offered (07 R205; 11 R349; 12 R383;
20 R544). -/
def createWell (s : State) (i : Nat) (w : Well) : State :=
  let s := setKey s w.key { inUse := true, rotating := false, lost := false, cur := Config.keyDraw s.freeCtr, new := 0 }
  let s := storeKey (bump s) w.key
  let s := jAppend (jEach s (zeroVals s w)) [.wellSet i w]
  (maskPorts w.mask).foldl (fun s p => offerExt s p i) s

/-- Destroy a well (02 R40; 07 R205; 12 R383). -/
def destroyWell (s : State) (i : Nat) (forced : Bool) : State :=
  let w := wellNo s i
  let s := unmapTiles s (touchedTiles s (wellLo w) (wellHi w))
  let s := jAppend (jEach s (zeroVals s w)) [.wellSet i wellInit]
  let s := { s with tabs := { s.tabs with cursor := sSet 0 s.tabs.cursor i 0 }, keys := { s.keys with deferred := s.keys.deferred.filter (fun k => k ≠ i) } }
  let s := storeKey (setKey s w.key keyInit) w.key
  (List.range 4).foldl (fun s p => dropExt s forced p i) s

/-- Modify a well's attributes (02 R37, R38; 11 R349). -/
def modifyWell (s : State) (i : Nat) (w : Well) (forced : Bool) : State :=
  let old := wellNo s i
  let s := jAppend s [.wellSet i w]
  (List.range 4).foldl (fun s p =>
    match old.mask.getLsbD p, w.mask.getLsbD p with
    | false, true => offerExt s p i
    | true, false => dropExt s forced p i
    | true, true => touchExt s p
    | false, false => s) s

/-! ## The takeover at a join (10 R330) -/

/-- Whether two wells have the same base, size and key slot. -/
def sameRange (a b : Well) : Bool := a.base = b.base && a.size = b.size && a.key = b.key

/-- Take the source's well of one number; the second component: the well was created or created again. -/
def takeWell (s : State) (i : Nat) (src : Well) : State × Bool :=
  let old := wellNo s i
  match src.live, old.live with
  | true, false => (createWell s i src, true)
  | true, true =>
    if sameRange src old then (if src = old then s else modifyWell s i src true, false)
    else (createWell (destroyWell s i true) i src, true)
  | false, true => (destroyWell s i true, false)
  | false, false => (s, false)

/-- Take the source's well table: first what the source does not hold, or holds elsewhere, is destroyed, so that no range overlaps. -/
def takeWells (s : State) (src : Store Well) : State :=
  let at_ (i : Nat) : Well := sGet wellInit src i
  let s := (List.range 64).foldl (fun s i =>
    if (wellNo s i).live && !((at_ i).live && sameRange (at_ i) (wellNo s i)) then destroyWell s i true else s) s
  (List.range 64).foldl (fun s i => (takeWell s i (at_ i)).1) s

end Sys2Proof.Machine
end

