-- ==== Sys2Proof/Machine/Tasks.lean ====
section
/-! DEFINITION. Commands that act on wells, tiles or lines while they run (12 R383 to R394): FILL (02 R67; 07 R232), CLONE (07 R235, R236),
POISON_CLEAR (12 R384), CAPACITY_RELEASE (08 R267), well operations, KEY_ROTATE (06 R199), SANITIZE (12 R386; 20 R557) and mirrored register
writes (10 R305), in the order of their state sequence numbers at both modules of a pair (10 R304). -/

namespace Sys2Proof.Machine

/-! ## Units of a command -/

/-- The opcode that carries a mirrored register write between the modules: ADDR0 the BAR2 offset, ADDR1 the value (10 R305; log entry 18). -/
def opReg : Nat := 0xFF

/-- The descriptor of a mirrored register write. -/
def regDesc (off v : Nat) : BitVec 512 := BitVec.ofNat 512 (opReg + off % 2 ^ 20 * 2 ^ 64 + v % 2 ^ 64 * 2 ^ 128)

def Task.op (t : Task) : Nat := (descOf t.desc).opcode

/-- The tiles of a byte range, ascending. -/
def tileRange (dpa len : Nat) : List Nat := (List.range (len / 16384)).map (· + dpa / 16384)

/-- The lines of a byte range, ascending. -/
def lineRange (dpa len : Nat) : List Nat := (List.range (len / 64)).map (· + dpa / 64)

/-- What a command treats one by one: tiles, of CLONE those of the destination, or lines. -/
def unitsOf (d : Desc) : List Nat :=
  if d.opcode = 0x04 ∨ d.opcode = 0x12 then tileRange d.addr0 d.len
  else if d.opcode = 0x05 then tileRange d.addr1 d.len
  else if d.opcode = 0x07 then lineRange d.addr0 d.len
  else []

/-- The tile whose home treats a unit. -/
def unitTile (op u : Nat) : Nat := if op = 0x07 then ltnOf u else u

/-- The source tile of a CLONE unit. -/
def cloneSrc (d : Desc) (u : Nat) : Nat := u + d.addr0 / 16384 - d.addr1 / 16384

/-- The tiles that a unit acts on. -/
def unitTiles (d : Desc) (u : Nat) : List Nat := if d.opcode = 0x05 then [u, cloneSrc d u] else [unitTile d.opcode u]

/-- The tiles a task has still to act on. -/
def Task.pendingTiles (t : Task) : List Nat :=
  (t.todo ++ t.theirs ++ t.inbox.map (·.1)).flatMap (unitTiles (descOf t.desc))

/-- Change a task. -/
def modTask (s : State) (q : Nat) (f : Task → Task) : State :=
  { s with cmds := { s.cmds with tasks := modFirst (fun t => decide (t.sseq = q)) f s.cmds.tasks } }

/-- The task of a number. -/
def taskAt (s : State) (q : Nat) : Option Task := findP (fun t => decide (t.sseq = q)) s.cmds.tasks

/-- Whether an earlier task has not finished with some tile (12 R388). -/
def earlierHas (ts : List Task) (q : Nat) (tiles : List Nat) : Bool :=
  ts.any (fun t => decide (t.sseq < q) && t.pendingTiles.any (fun x => tiles.contains x))

/-- Whether a CACHE_MAINT that started earlier still has a line of some tiles to treat (12 R388). -/
def maintHas (rs : List Running) (ord : Nat) (tiles : List Nat) : Bool :=
  rs.any (fun r => r.started && decide (r.ord < ord) && decide ((descOf r.desc).opcode = 0x06)
    && r.waitLines.any (fun x => decide (x % 2 = 0) && tiles.contains (ltnOf (x / 2))))

/-- Whether a task that started earlier has still to act on a tile (12 R388). -/
def taskHas (ts : List Task) (ord ltn : Nat) : Bool := ts.any (fun t => decide (t.ord < ord) && t.pendingTiles.contains ltn)

/-! ## One unit -/

/-- How an attempt at a unit ends. -/
inductive UnitRes where
  | done (s : State) (counted : Bool)
  | wait (s : State)
  | stop (s : State)

/-- Whether a tile is under a move that has not committed: FILL and CLONE wait for it (08 R255). -/
def underMove (s : State) (ltn : Nat) : Bool :=
  match moveOf s ltn with
  | some m => decide (m.kind = .move) && m.commitJ.isNone
  | none => false

/-- Clean the dirty lines of a tile whose die is known and has room (07 R236 step 1). -/
def cleanTile (s : State) (ltn : Nat) : State :=
  (s.cache.ways.filter (fun x => x.2.v && dirtyW x.2 && decide (ltnOf x.2.dln = ltn))).foldl (fun s x =>
    if canHandOff s (sGet wayInit s.cache.ways x.1) && !lockHeld s x.2.dln then cleanWay s x.1 else s) s

/-- Whether a tile has a line that is not yet in the medium. -/
def tileBusy (s : State) (ltn : Nat) : Bool :=
  s.cache.ways.any (fun x => x.2.v && dirtyW x.2 && decide (ltnOf x.2.dln = ltn)) || s.cist.ents.any (fun e => decide (ltnOf e.dln = ltn))
    || (moveOf s ltn).isSome

/-- Nodes of the clone table in use. -/
def cloneNodes (s : State) : Nat := s.tabs.nodes.length

/-- The group that makes the destination a copy of the source (07 R236 step 2): its old storage given up, its new entry, its refused lines cleared. -/
def cloneTile (s : State) (src dst : Nat) (vals : List JVal) (e : MapEntry) : State :=
  let s := killMove s dst
  let (vs, ret) := releaseVals s dst
  let s := jAppend s (vs ++ vals ++ [.mapSet dst e false] ++ (refusedOf s dst).map (fun d => .refuseClr d))
  let s := match ret with
    | some (p, c) => noteRetired s p c
    | none => s
  let s := if src = dst then s else discardLines s dst
  evalCapacity s

/-- One tile of a CLONE (07 R236). -/
def cloneUnit (s : State) (src dst : Nat) : UnitRes :=
  let s := if pageHere s (pageOf src) then s else convertEntry s src
  let s := cleanTile s src
  if tailFull s then .wait (flagTailStall s)
  else if underMove s dst || tileBusy s src then .wait s
  else
    let e := entryAt s src
    let p := e.ptn.toNat
    match e.st with
    | .unwritten | .const | .lost => .done (cloneTile s src dst [] e) true
    | .mapped =>
      if 2 ^ 27 ≤ s.tabs.clones.length ∨ 2 ^ 29 < cloneNodes s + 2 then .stop (flagCloneFull s)
      else
        let sh : MapEntry := { e with st := .shared }
        .done (cloneTile s src dst [.mapSet src sh false, .cloneAdd src p, .cloneAdd dst p] sh) true
    | .shared =>
      if 64 ≤ (sharersAt s.tabs p).length then .stop s
      else if 2 ^ 29 ≤ cloneNodes s then .stop (flagCloneFull s)
      else .done (cloneTile s src dst [.cloneAdd dst p] e) true
    | .refusing | .migrating => .stop s

/-- What a POISON_CLEAR reads at a line: whether it is poisoned, and the sense it needed (12 R384). `ue` names the lines whose sense does
not decode. -/
def clearRead (s : State) (dln : Nat) (ue : List Nat) : Bool × Option Sensed :=
  match findWay s dln, findCis s dln with
  | some (_, w), _ => (w.p, none)
  | none, some e => (e.p, none)
  | none, none => match mapAns s dln with
    | .const _ | .unwritten => (false, none)
    | .refused | .lost => (true, none)
    | .medium =>
      let e := entryAt s (ltnOf dln)
      let f := if ue.contains dln then Sensed.uncorr
        else senseFrame s e.ptn.toNat (fslotOf (lineOf dln) e.rot) { errs := 0, markerOk := true } true
      (match f with
        | .never => false
        | .line _ p _ _ => p
        | .interrupted | .wZero | .tagFault | .uncorr | .again => true, some f)

/-- One line of a POISON_CLEAR (12 R384). -/
def clearUnit (s : State) (dln : Nat) (ue : List Nat) : UnitRes :=
  let s := if pageHere s (pageOf (ltnOf dln)) then s else convertEntry s (ltnOf dln)
  if lockHeld s dln || s.cist.waits.any (fun w => decide (w.dln = dln)) || s.cmds.hold.contains (ltnOf dln) then .wait s
  else
    let s := checkLine s dln
    let (bad, sense) := clearRead s dln ue
    let e := entryAt s (ltnOf dln)
    let read (s : State) : State := match sense with
      | some f => account (noteSense s e.ptn.toNat) e.ptn.toNat (fslotOf (lineOf dln) e.rot) (some (ltnOf dln))
          { src := 0, attr := attrInt (ltnOf dln) 3, dln := some dln, fill := false } f false
      | none => s
    if sense.isSome && partBusy s e.ptn.toNat then .wait s
    else if !bad then .done (read s) false
    else match admitWrite s (ownWrite dln .silent (cleanLine 0)) with
      | some s => .done (read s) true
      | none => .wait s

/-- One unit of a command at this module. -/
def doUnit (s : State) (t : Task) (u : Nat) : UnitRes :=
  let d := descOf t.desc
  if d.opcode = 0x05 then cloneUnit s (cloneSrc d u) u
  else if d.opcode = 0x07 then clearUnit s u t.ue
  else if d.opcode = 0x04 then
    if tailFull s then .wait (flagTailStall s)
    else if underMove s u then .wait s
    else .done (replaceTile s u .const (BitVec.ofNat 32 (d.arg1 % 2 ^ 32))) true
  else if tailFull s then .wait (flagTailStall s)
  else .done (unmapTile s u) true

/-- A repair of a line of the tile that is under way is void (02 R72). -/
def voidTile (s : State) (ltn : Nat) : State := voidRepairs s (fun d => decide (ltnOf d = ltn))

/-- Whether a tile effect marks the resync bitmap: in SOLO, and at the source in RESYNC (10 R325, R337). -/
def marksTiles (s : State) : Bool :=
  match s.pair.role with
  | .solo => true
  | .resync => s.pair.syncSrc
  | .unpaired | .joining | .paired | .fenced => false

/-- What a tile's home does beside the effect: the bitmap, and STATE_OP TILE in the mirrored-write stream (10 R304, R325). -/
def afterHome (s : State) (t : Task) (u : Nat) : State :=
  if t.op = 0x07 then s
  else
    let s := voidTile s u
    let s := if marksTiles s then { s with pair := { s.pair with bitmap := sSet false s.pair.bitmap u true } } else s
    if mirroring s then
      let (g, s) := takeMtag s
      send { s with pair := { s.pair with opens := s.pair.opens ++ [.tileOp g u t.sseq] } } (.stateTile g u t.sseq)
    else s

/-- A tile effect needs a MIR credit where it is mirrored (10 R306). -/
def lacksMir (s : State) (t : Task) : Bool := mirroring s && decide (t.op ≠ 0x07) && decide (s.pair.mir = 0)

/-- The units this module treats, in ascending order, until one must wait. -/
def runUnits (q : Nat) : List Nat → State → State
  | [], s => s
  | u :: r, s =>
    match taskAt s q with
    | none => s
    | some t =>
      if t.theirs.any (fun x => decide (x < u)) || earlierHas s.cmds.tasks q (unitTiles (descOf t.desc) u)
          || maintHas s.cmds.run t.ord (unitTiles (descOf t.desc) u) || handHolds s (unitTile t.op u) || lacksMir s t then s
      else match doUnit s t u with
        | .wait s => s
        | .stop s => modTask s q (fun t => { t with todo := [], theirs := [], status := 0x0B })
        | .done s counted =>
          let s := modTask (afterHome s t u) q (fun t => { t with todo := r, count := t.count + b2n counted, waitJ := jLast s })
          runUnits q r s

/-- The peer's tile effects that have arrived: applied in order, then acknowledged (10 R304, R306). -/
def runInbox (q : Nat) : List (Nat × Nat) → State → State
  | [], s => s
  | (u, g) :: r, s =>
    match taskAt s q with
    | none => s
    | some t =>
      if earlierHas s.cmds.tasks q (unitTiles (descOf t.desc) u) || maintHas s.cmds.run t.ord (unitTiles (descOf t.desc) u) then s
      else match doUnit s t u with
        | .wait s | .stop s => s
        | .done s counted =>
          let s := modTask (voidTile s u) q (fun t =>
            { t with inbox := r, theirs := t.theirs.filter (fun x => x ≠ u), count := t.count + b2n counted, waitJ := jLast s })
          runInbox q r (ackMir s g)

/-- The tiles whose writes wait: those of tile effects that have not been applied, and the sources of CLONEs under way (07 R236). -/
def holdOf (s : State) : List Nat :=
  dedup (s.cmds.early.map (fun x => x.2.1)
    ++ s.cmds.tasks.flatMap (fun t => t.inbox.flatMap (fun x => unitTiles (descOf t.desc) x.1)
      ++ (if t.op = 0x05 then match t.todo with
          | u :: _ => if t.theirs.any (fun x => decide (x < u)) then [] else [cloneSrc (descOf t.desc) u]
          | [] => []
        else [])))

def setHold (s : State) : State := { s with cmds := { s.cmds with hold := holdOf s } }

/-! ## SANITIZE (12 R386; 20 R557) -/

/-- Write SAN_RUN in every key-slot page and store them; a task waits for the store. -/
def storeSan (s : State) (q : Nat) (run : Bool) : State :=
  let s := (List.range 64).foldl (fun s k => setPage s (pgKeys + k) (keyPage s k run)) s
  let n := s.beryl.nextOp
  startStore (modTask s q (fun t => { t with waitStore := some n })) 6 [(pgKeys, pgKeys + 63)] false

/-- Every key slot and the metadata key are drawn anew. -/
def redrawKeys (s : State) : State :=
  let s := bump { s with keys := { s.keys with meta_ := Config.keyDraw s.freeCtr, mkeyGen := s.keys.mkeyGen + 1 } }
  (List.range 64).foldl (fun s k =>
    bump (setKey s k { inUse := (keyAt s k).inUse, rotating := false, lost := false, cur := Config.keyDraw s.freeCtr, new := 0 })) s

/-- Step 2: every entry UNWRITTEN; the Cistern, the cache, the clone and refused-line tables empty; moves, senses and waiting writes
end, and every tile is queued for reset. -/
def emptyAll (s : State) : State :=
  let s := { s with
    tabs := { s.tabs with map := [], clones := [], nodes := [], refused := [], cursor := [] }
    cist := { s.cist with ents := [], heads := [], filter := [], waits := [] }
    cache := { s.cache with ways := [], plru := [], locks := [], upset := [] }
    med := { s.med with senses := [], ops := [], rewrites := [] }
    wear := { s.wear with moves := [], queue := [], restart := [], freeing := [] }
    drift := { s.drift with refq := [], sentLeft := [] } }
  queueAll s

/-- The mirrored installs that wait are acknowledged: their data would not stay (12 R386; log entry 83). -/
def ackInstalls (s : State) : State :=
  let ack (s : State) (w : WaitW) : State :=
    match w.org with
    | .mirror mtag _ _ _ => ackMir s mtag
    | .host .. | .peer .. | .silent | .internal | .repair _ => s
  let ws := s.cist.waits ++ s.med.senses.flatMap (fun x => writersOf x.waiters) ++ s.cache.locks.flatMap (fun x => writersOf x.waiters)
  ws.foldl ack s

/-- The commands that run beside a SANITIZE: EVENT_READ, HEALTH_REPORT, IDENTITY_READ (12 R386). -/
def sanFree (op : Nat) : Bool := op = 0x0A || op = 0x13 || op = 0x17

/-- The SANITIZE of this module advances; it starts once no other command runs. -/
def sanitizeAdvance (s : State) (t : Task) : State :=
  if t.waitStore.isSome then s
  else if s.cmds.sanStep = 0 && !s.cmds.sanitizing then
    if s.cmds.tasks.any (fun x => decide (x.sseq ≠ t.sseq)) || s.cmds.run.any (fun r => decide (r.sseq ≠ some t.sseq) && !sanFree (descOf r.desc).opcode) then s
    else
      let kept := (s.tabs.tile.filter (fun x => decide (x.2 = 3))).map (·.1)
      let s := { s with cmds := { s.cmds with sanitizing := true, sanStep := 1 }, sec := { s.sec with sanWells := s.tabs.wells, sanRetired := kept } }
      storeSan (answerAdmitted (ackInstalls (fencedEvents s true (portsOn s)))) t.sseq true
  else if s.cmds.sanStep = 1 then
    let s := redrawKeys (emptyAll s)
    storeSan { s with cmds := { s.cmds with sanStep := 2 } } t.sseq true
  else if s.cmds.sanStep = 2 then { s with cmds := { s.cmds with sanStep := 3 } }
  else s

/-- Tiles still to be reset. -/
def sanLeft (s : State) : Bool := s.tabs.tile.any (fun x => x.2 = 2) || s.med.ops.any (fun o => decide (o.kind = .reset))

/-- Steps 3 and 4 of a SANITIZE, also of one that a BOOT resumed: once every tile is reset, a checkpoint is written; once its anchor has
verified, SAN_RUN = 0 is stored, and SANITIZED recorded (20 R557, R558). -/
def sanitizeEnd (s : State) : State :=
  if s.cmds.sanStep = 3 && !sanLeft s then
    { s with mapu := { s.mapu with ckptReq := true }, cmds := { s.cmds with sanStep := 4 } }
  else if s.cmds.sanStep = 6 then
    let q := match findP (fun t => t.op = 0x10) s.cmds.tasks with
      | some t => t.sseq
      | none => 0
    let s := storeSan { s with cmds := { s.cmds with sanStep := 0, sanitizing := false } } q false
    let s := noteEv { s with sec := { s.sec with sanCount := s.sec.sanCount + 1 } } srcSec 0x01B3 0 0 0
    modTask (syncPersist s) q (fun t => { t with count := 1 })
  else s

/-! ## Starting, ending -/

/-- Apply a mirrored register write, without a check of this module's own unlock or EXPERT_EN (10 R305). -/
def applyRegTask (s : State) (d : Desc) : State :=
  match slotOf d.addr0 with
  | some (b, i, slot) => if mirroredReg b slot then putPend s b i slot (wrMask d.addr1) (d.addr1 % 2 ^ 20) else s
  | none => s

/-- The effect at the start of a command that acts at once, with its status. -/
def startEffect (s : State) (t : Task) : State :=
  let d := descOf t.desc
  let i := d.arg0 % 64
  let st (s : State) (x : Nat) (f : State → State) : State :=
    if x = 0 then f s else modTask s t.sseq (fun t => { t with status := x })
  if d.opcode = 0x01 then st s (createStatus s i (wellFrom d.addr0 d.len d.arg1)) (fun s => createWell s i (wellFrom d.addr0 d.len d.arg1))
  else if d.opcode = 0x02 then st s (destroyStatus s i) (fun s => destroyWell s i false)
  else if d.opcode = 0x03 then st s (modifyStatus s i d.arg1) (fun s => modifyWell s i (wellWith (wellNo s i) d.arg1) false)
  else if d.opcode = 0x16 then st s (rotateStatus s i) (fun s =>
    let n := s.beryl.nextOp
    startRotation (modTask s t.sseq (fun t => { t with waitStore := some n })) i (wellNo s i))
  else if d.opcode = opReg then applyRegTask s d
  else s

/-- The effect at the start takes place, or waits while the journal takes no update (07 R223). -/
def startIfRoom (s : State) (t : Task) : State :=
  if (t.op = 0x01 ∨ t.op = 0x02 ∨ t.op = 0x03) ∧ tailFull s = true then modTask (flagTailStall s) t.sseq (fun t => { t with startDue := true })
  else
    let s := startEffect (modTask s t.sseq (fun t => { t with startDue := false })) t
    modTask s t.sseq (fun t => { t with waitJ := jLast s })

/-- The peer has finished: its effects have all been acknowledged, so nothing of its part is still to come; a status other than success
ends the command here too (10 R304). -/
def peerEnds (t : Task) (status : Nat) : Task :=
  if status = 0 then { t with peerDone := true, theirs := [] }
  else { t with peerDone := true, status := if t.status = 0 then status else t.status, todo := [], theirs := [] }

/-- A command takes the next state sequence number or the given one and starts (10 R304; 12 R388). Outside PAIRED and RESYNC every unit is
this module's. -/
def startTask (s : State) (q : Nat) (desc : BitVec 512) (mine : Bool) (ue : List Nat) : State :=
  let d := descOf desc
  let us := unitsOf d
  let home (u : Nat) : Bool := isHome s (unitTile d.opcode u)
  let t : Task :=
    { sseq := q, ord := s.cmds.starts, desc := desc, mine := mine, todo := us.filter home, theirs := if d.opcode = 0x07 then [] else us.filter (fun u => !home u),
      inbox := [], count := 0, status := 0, ue := ue, waitJ := 0, waitStore := none, startDue := false, doneSent := false, peerDone := false }
  let mineEarly := s.cmds.early.filter (fun x => decide (x.2.2 % 2 ^ 26 = q % 2 ^ 26))
  let t := { t with inbox := mineEarly.map (fun x => (x.2.1, x.1)) }
  let t := match findP (fun x => decide (x.1 = q)) s.cmds.earlyDone with
    | some x => peerEnds t x.2
    | none => t
  let s := { s with cmds := { s.cmds with
    starts := s.cmds.starts + 1, tasks := s.cmds.tasks ++ [t], early := s.cmds.early.filter (fun x => decide (x.2.2 % 2 ^ 26 ≠ q % 2 ^ 26)),
    earlyDone := s.cmds.earlyDone.filter (fun x => decide (x.1 ≠ q)) } }
  startIfRoom s t

/-- Whether a task's own part is done. -/
def ownPartDone (s : State) (t : Task) : Bool :=
  !t.startDue && t.todo.isEmpty && t.theirs.isEmpty && t.inbox.isEmpty && t.waitStore.isNone && isDurable s t.waitJ
    && !s.pair.opens.any (fun o => match o with
      | .tileOp _ _ q => decide (q = t.sseq)
      | .write _ dln org _ => t.op = 0x07 && decide (org = .silent) && (lineRange (descOf t.desc).addr0 (descOf t.desc).len).contains dln
      | .entry .. => false)
    && (decide (t.op ≠ 0x10) || decide (t.status ≠ 0) || decide (0 < t.count))

/-- RESULT of a finished command (12 R382). -/
def taskResult (t : Task) : Nat :=
  if t.op = 0x04 ∨ t.op = 0x05 ∨ t.op = 0x07 ∨ t.op = 0x12 then t.count else 0

/-- A task advances: its units, its DONE, its end (10 R304). -/
def advanceTask (s : State) (q : Nat) : State :=
  match taskAt s q with
  | none => s
  | some t =>
    let s := if t.startDue then startIfRoom s t else s
    let s := runInbox q t.inbox s
    let s := runUnits q t.todo s
    let s := if t.op = 0x10 then sanitizeAdvance s t else s
    match taskAt s q with
    | none => s
    | some t =>
      let s := if !t.doneSent && ownPartDone s t then
          let s := modTask s q (fun t => { t with doneSent := true })
          if mirroring s then send s (.stateDone q t.status) else s
        else s
      match taskAt s q with
      | none => s
      | some t =>
        if t.doneSent && (t.peerDone || !mirroring s) then
          let s := { s with cmds := { s.cmds with tasks := dropFirst (fun x => decide (x.sseq = q)) s.cmds.tasks } }
          match (if t.mine then findP (fun r => decide (r.sseq = some q)) s.cmds.run else none) with
          | some r => completeRun s r t.status (taskResult t) []
          | none => s
        else s

/-- Whether tasks wait: before the end of the guard of SOLO no command is applied (10 R324). -/
def tasksHeld (s : State) : Bool := s.pair.role = .solo && s.pair.guardEnd.isSome

/-- Advance every task in SSEQ order. -/
def settleTasks (s : State) : State :=
  if tasksHeld s then s
  else
    let s := setHold s
    let s := (s.cmds.tasks.map (·.sseq)).foldl advanceTask s
    setHold (sanitizeEnd s)

/-! ## Commands that wait for lines (12 R383) -/

/-- One item a descriptor waits for; CACHE_MAINT waits for the lock of a line, and holds it while the line waits for Cistern room (05 R148, R153),
and it waits for a command on the line's tile that started before it, the `ord`th (12 R388):
2 × DLN, a line to treat; 2 × slot + 1, a Cistern slot to leave (02 R63; 05 R152, R153). The result
names what it still waits for. -/
def waitItem (s : State) (op arg0 ord x : Nat) : State × List Nat :=
  if op = 0x06 ∧ taskHas s.cmds.tasks ord (ltnOf (x / 2)) = true then (s, [x])
  else if x % 2 = 1 then (s, if s.cist.ents.any (fun e => decide (e.slot = x / 2)) then [x] else [])
  else
    let dln := x / 2
    let slotNow (s : State) : List Nat := match findCis s dln with
      | some e => if op = 0x09 then [2 * e.slot + 1] else []
      | none => []
    let maint : Bool := decide (op = 0x06)
    let mine : Bool := maint && maintHolds s dln true
    match findWay s dln with
    | none =>
      if lockHeld s dln && !mine then (s, [x])
      else
        let s := if mine then freeLock s dln true else s
        (s, slotNow s)
    | some (k, w) =>
      if lockHeld s dln && !mine then (s, [x])
      else if dirtyW w then
        if op = 0x06 ∧ arg0 % 4 = 2 then (s, [])
        else if canHandOff s w then
          let s := cleanWay s k
          let s := if op = 0x06 ∧ arg0 % 4 = 1 then setWay s k wayInit else s
          let s := if mine then freeLock s dln true else s
          (s, slotNow s)
        else (if maint then takeLock s dln true else s, [x])
      else if op = 0x06 then
        let s := checkTag s k
        let s := if arg0 % 4 = 1 ∨ (arg0 % 4 = 2 ∧ w.pf) then setWay s k wayInit else s
        (if mine then freeLock s dln true else s, [])
      else (s, slotNow s)

/-- Every item. -/
def waitItems (op arg0 ord : Nat) : List Nat → State → State × List Nat
  | [], s => (s, [])
  | x :: r, s =>
    let (s, l) := waitItem s op arg0 ord x
    let (s, k) := waitItems op arg0 ord r s
    (s, l ++ k)

/-- A descriptor that waits for lines advances. -/
def advanceRun (s : State) (r : Running) : State :=
  let d := descOf r.desc
  if !r.started || !(d.opcode = 0x06 || d.opcode = 0x09) then s
  else
    let (s, l) := waitItems d.opcode d.arg0 r.ord r.waitLines s
    if l.isEmpty then completeRun s r 0 r.result []
    else { s with cmds := { s.cmds with run := modFirst (fun x => x.src = r.src && x.desc = r.desc) (fun x => { x with waitLines := l }) s.cmds.run } }

/-- The target acknowledges the end of a synced tile once every LINE of it is installed or discarded; the tile leaves the sync set (10
R333). -/
def ackTile (s : State) : State :=
  match s.pair.syncing with
  | some l =>
    if s.pair.isTarget && !s.cist.waits.any (fun w => decide (ltnOf w.dln = l) && decide (w.org = .internal)) then
      send { s with pair := { s.pair with syncing := none, sync := sSet false s.pair.sync l false,
                                          fresh := s.pair.fresh.filter (fun d => ltnOf d ≠ l) } } (.tileAck l)
    else s
  | none => s

/-- Let every command go on that can, and end every rotation whose walker is through (06 R199). Nothing runs outside SERVICE. -/
def settle (s : State) : State :=
  if s.pwr.st ≠ .service then s
  else
    let s := settleTasks (ackTile s)
    endRotations (s.cmds.run.foldl advanceRun s)

/-- Entry to FENCED: every mirrored command that runs completes with ROLE_LOST (12 R394); so it does on entry to JOINING, for which the
manual gives no rule (log entry 20). -/
def tasksLost (s : State) : State :=
  let rs := s.cmds.run.filter (fun r => r.started && (r.sseq.isSome || (let o := (descOf r.desc).opcode
    o = 0x01 || o = 0x02 || o = 0x03 || o = 0x04 || o = 0x05 || o = 0x07 || o = 0x10 || o = 0x12 || o = 0x16)))
  let s := rs.foldl (fun s r => completeRun s r 0x0E 0 []) s
  { s with cmds := { s.cmds with tasks := s.cmds.tasks.filter (fun t => t.op = 0x10 && s.cmds.sanitizing), early := [], earlyDone := [], hold := [] } }

end Sys2Proof.Machine
end

