-- ==== Sys2Proof/Machine/BerylStore.lean ====
section
/-! DEFINITION. Programming and verifying Beryl pages (19 R529 to R537; 14 R441). -/

namespace Sys2Proof.Machine

/-! ## Page programs (19 R529, R530) -/

/-- The slot in force of a page, and the other. -/
def forceOf (s : State) (n : Nat) : Nat := sGet 0 s.beryl.force n

/-- Start programming a page: its image is copied and its dirty flag cleared (19 R529 step 1). -/
def beginPage (s : State) (n : Nat) : State :=
  { s with beryl := { s.beryl with prog := s.beryl.prog ++ [(n, pageAt s n, 0)], dirty := sSet false s.beryl.dirty n false } }

/-- BERYL_PAGE_PROGRAM: the next page of the running operation, or every page of it in DRAIN (19 R530; 16 R478). In DRAIN, step 4 begins
10 µs after the trigger although acknowledgements are missing (10 R321). -/
def berylPageProgramF (s : State) : State :=
  let late : Bool := match s.pwr.drain with
    | some d => decide (s.pwr.st = .drain) && !step4Begun s && decide (d.start + 10000 ≤ now s)
    | none => false
  let s := if late then drainStep4 s else s
  match s.beryl.ops with
  | [] => s
  | op :: rest =>
    if s.pwr.st = .drain then
      let s := { s with beryl := { s.beryl with ops := { op with pages := [] } :: rest } }
      op.pages.foldl beginPage s
    else if s.beryl.prog.isEmpty then
      match op.pages with
      | [] => s
      | n :: ps => beginPage { s with beryl := { s.beryl with ops := { op with pages := ps } :: rest } } n
    else s

def execBerylPageProgram (s : State) : Host.Outcome State Fault Refusal := .next (berylPageProgramF s)

/-- The new slot of a page comes into force (19 R529 step 4), with BERYL_WEAR once past the threshold (19 R537). -/
def pageStored (s : State) (n : Nat) (pg : Page) : State :=
  let k := forceOf s n
  let q := ((slotAt s n k).psq + 1) % 2 ^ 20
  let x := slotMade n q pg true false
  let s := { s with beryl := { s.beryl with
    slots := sSet (slotInit (2 * n + (1 - k))) s.beryl.slots (2 * n + (1 - k)) x
    force := sSet 0 s.beryl.force n (1 - k)
    defaulted := s.beryl.defaulted.filter (fun m => m ≠ n) } }
  if decide (regF s .beryl 0 13 6 0 * 1024 ≤ q) && !s.beryl.worn.contains n then
    flagBeryl (noteEv { s with beryl := { s.beryl with worn := s.beryl.worn ++ [n] } } srcBeryl 0x01A1 n q 0) 6
  else s

/-- A ring page fails its verify: it is marked bad, and its records are handled as records that cannot be kept (14 R441). -/
def ringPageBad (s : State) (n : Nat) : State :=
  let k := n - 512
  let s := flagAgate (pgPut s pgBadRing k k 1) 3
  let lost := (s.ag.buf.filter (fun x => decide (0 < x.2.1.repeats) && decide (x.2.1.seq % 16384 / 8 = k))).map (fun x => x.2.1)
  lost.foldl logMemFail s

/-- A page fails its second verify: its slot reads with an uncorrectable error (19 R529; log entry 89). -/
def pageFailed (s : State) (n : Nat) (pg : Page) : State :=
  let k := forceOf s n
  let q := ((slotAt s n k).psq + 1) % 2 ^ 20
  let x := slotMade n q pg true true
  let s := { s with beryl := { s.beryl with
    slots := sSet (slotInit (2 * n + (1 - k))) s.beryl.slots (2 * n + (1 - k)) x
    dirty := sSet false s.beryl.dirty n true
    failPage := some n
    ops := match s.beryl.ops with
      | op :: r => { op with fails := true } :: r
      | [] => [] } }
  let s := flagBeryl (noteEv s srcBeryl 0x02A1 n q 0) 1
  if 512 ≤ n ∧ n < 2560 then ringPageBad s n else s

/-- The running operation ends once its last page has verified; the next one starts (19 R529, R531). -/
def closeOp (s : State) (stuck : List Nat) : State :=
  match s.beryl.ops with
  | op :: r =>
    if op.begun && op.pages.isEmpty && s.beryl.prog.isEmpty then
      let s := opEnded { s with beryl := { s.beryl with ops := r } } op
      let s := promoteOps (r.length + 1) s
      if s.pwr.st = .drain then drainFinish s stuck else s
    else s
  | [] => s

/-- BERYL_PAGE_VERIFY: the page longest in program is read back; a first mismatch programs it once more (19 R529). -/
def berylPageVerifyF (s : State) (ok : Bool) (stuck : List Nat) : State :=
  match s.beryl.prog with
  | [] => s
  | (n, pg, f) :: r =>
    if ok then closeOp (pageStored { s with beryl := { s.beryl with prog := r } } n pg) stuck
    else if f = 0 then { s with beryl := { s.beryl with prog := (n, pg, 1) :: r } }
    else closeOp (pageFailed { s with beryl := { s.beryl with prog := r } } n pg) stuck

def execBerylPageVerify (ok : Bool) (stuck : List Nat) (s : State) : Host.Outcome State Fault Refusal := .next (settle (berylPageVerifyF s ok stuck))

end Sys2Proof.Machine
end

