-- ==== Sys2Proof/Machine/MapBits.lean ====
section
/-! DEFINITION. What the metadata tiles of the medium hold, line by line, and what a reader takes from them: map pages (07 R203, R206), clone
table (R235), tile-state map and well table (R207), refused-line table, ledgers (08 R242), the tree of locators (07 R208), journal records
(R217, R218) and anchors (R210). -/

namespace Sys2Proof.Machine

/-! ## Items packed in a tile -/

/-- Line `l` of a tile that holds `n` items of `w` bits from its first bit on. -/
def packLine (w n l : Nat) (f : Nat → Nat) : Line :=
  let first := 512 * l / w
  BitVec.ofNat 512 (sumOf (fun k =>
    let i := first + k
    if i < n then (if 512 * l ≤ w * i then f i % 2 ^ w * 2 ^ (w * i - 512 * l) else f i % 2 ^ w / 2 ^ (512 * l - w * i)) else 0)
    (List.range (512 / w + 2)))

/-- Item `i` of `w` bits, at most 512, of a tile. -/
def itemAt (w i : Nat) (line : Nat → Line) : Nat :=
  let l := w * i / 512
  ((line l).toNat + (line (l + 1)).toNat * 2 ^ 512) / 2 ^ (w * i % 512) % 2 ^ w

/-! ## Objects (07 R206, R207, R235; 08 R242) -/

/-- A map entry as a checkpoint writes it: a MIGRATING one with the state it had before its move (08 R252). -/
def ckptEntry (s : State) (ltn : Nat) : MapEntry :=
  let e := entryAt s ltn
  if e.st = .migrating then
    match findP (fun m => decide (m.ltn = ltn)) s.wear.moves with
    | some m => { e with st := m.prev.st }
    | none => e
  else e

def cloneVal (e : CloneEnt) : Nat := if e.v then e.ptn % 2 ^ 32 + e.refs % 128 * 2 ^ 32 + 2 ^ 39 + e.head % 2 ^ 32 * 2 ^ 40 else 0
def nodeVal (n : CloneNode) : Nat := if n.v then n.ltn % 2 ^ 31 + 2 ^ 31 + n.next % 2 ^ 32 * 2 ^ 32 else 0
def ledVal (l : Led) : Nat := l.wear % 2 ^ 20 + l.reads % 256 * 2 ^ 20 + l.adv % 16 * 2 ^ 28

/-- The code of a tile in the tile-state map: reserved tiles read 3 (07 R207). -/
def tileCode (s : State) (ptn : Nat) : Nat := if reservedPos (ptn % 2 ^ 24) then 3 else tileAt s ptn

/-- Line `l` of an object: of a map page, lines 0 to 239 hold entries and line 240 the header. The places of the rotation cursors in the well-table
object and the form of the refused-line table are the model's (log entry 8). -/
def objLine (s : State) (o l : Nat) : Line :=
  if o < objClone then
    if l = 240 then BitVec.ofNat 512 (o % 2 ^ 22 + (sGet 0 s.mapu.pageSeq o - 1) % 2 ^ 40 * 2 ^ 22)
    else packLine 60 2048 l (fun e => entryVal (ckptEntry s (o * 2048 + e)))
  else if o < objNode then packLine 128 1024 l (fun k => cloneVal (sGet cloneInit s.tabs.clones ((o - objClone) * 1024 + k)))
  else if o < objTile then packLine 64 2048 l (fun k => nodeVal (sGet nodeInit s.tabs.nodes ((o - objNode) * 2048 + k)))
  else if o < objWell then packLine 2 65536 l (fun k => tileCode s (ptnOfTix s.sec.variant ((o - objTile) * 65536 + k)))
  else if o = objWell then
    if l < 8 then packLine 60 64 l (fun i => wellVal (sGet wellInit s.tabs.wells i))
    else packLine 32 64 (l - 8) (fun i => sGet 0 s.tabs.cursor i)
  else if o < objLedger then
    packLine 64 2048 l (fun k => let x := sGet 0 s.tabs.refused ((o - objRefused) * 2048 + k)
      if x = 0 then 0 else (x - 1) % 2 ^ 39 + 2 ^ 39)
  else packLine 32 4096 l (fun k => ledVal (ledAt s (ptnOfTix s.sec.variant ((o - objLedger) * 4096 + k))))

/-! ## The tree (07 R208) -/

/-- The leaf of an object, the branch of an object, and the root. -/
def leafOf (o : Nat) : Nat := 2 ^ 22 + o / 1024
def branchOf (o : Nat) : Nat := 2 ^ 22 + 4096 + o / 2 ^ 20
def rootNode : Nat := 2 ^ 22 + 4100

/-- The level of a node: objects first, the root last (07 R225). -/
def levelOf (n : Nat) : Nat := if n < 2 ^ 22 then 0 else if n < 2 ^ 22 + 4096 then 1 else if n < rootNode then 2 else 3

/-- The node that locator `k` of a tree node names. -/
def childOf (n k : Nat) : Nat :=
  if n < 2 ^ 22 + 4096 then (n - 2 ^ 22) * 1024 + k else if n < rootNode then 2 ^ 22 + (n - 2 ^ 22 - 4096) * 1024 + k else 2 ^ 22 + 4096 + k

/-- The locators of a tree node. -/
def fanOf (n : Nat) : Nat := if n = rootNode then 4 else 1024

/-- Line `l` of an object or tree node, the locators by `loc`. -/
def nodeLine (s : State) (loc : Nat → Nat) (n l : Nat) : Line :=
  if n < 2 ^ 22 then objLine s n l else packLine 128 (fanOf n) l (fun k => loc (childOf n k))

/-! ## Reading them back -/

/-- A map entry from its 60 bits; a reserved STATE is handled as LOST (07 R203, R204). -/
def entryFrom (x : Nat) : MapEntry :=
  { st := match bitsOf x 51 48 with
      | 0 => .unwritten | 1 => .mapped | 2 => .const | 3 => .shared | 4 => .migrating | 5 => .refusing | _ => .lost
    ptn := BitVec.ofNat 32 x, rot := BitVec.ofNat 8 (bitsOf x 39 32), epoch := BitVec.ofNat 8 (bitsOf x 47 40), gen := BitVec.ofNat 8 (bitsOf x 59 52) }

def cloneFrom (x : Nat) : CloneEnt :=
  if bitOf x 39 then { v := true, ptn := bitsOf x 31 0, refs := bitsOf x 38 32, head := bitsOf x 71 40 } else cloneInit
def nodeFrom (x : Nat) : CloneNode := if bitOf x 31 then { v := true, ltn := bitsOf x 30 0, next := bitsOf x 63 32 } else nodeInit
def ledFrom (x : Nat) : Led := { wear := bitsOf x 19 0, reads := bitsOf x 27 20, adv := bitsOf x 31 28 }

/-- A well from its 60-bit value (07 R218). -/
def wellOfVal (x : Nat) : Well :=
  if bitOf x 48 then
    { live := true, base := bitsOf x 16 0, size := bitsOf x 33 17 + 1, mask := BitVec.ofNat 4 (bitsOf x 37 34), shared := bitOf x 38, prot := bitOf x 39,
      ruZero := bitOf x 40, pin := bitOf x 41, key := bitsOf x 47 42 }
  else wellInit

/-- A record as a reader finds it (07 R217, R218). -/
inductive RecRead where
  | nop
  | one (r : JRec)
  | reserved (seq : Nat)
deriving DecidableEq, Repr

/-- A journal record from its 160 bits. -/
def recFrom (x : Nat) : RecRead :=
  let ltn := bitsOf x 78 48
  let v := bitsOf x 139 80
  let ptn := v % 2 ^ 32
  let rd (val : JVal) : RecRead := .one { seq := bitsOf x 47 8, last := bitOf x 6, val := val }
  match bitsOf x 5 0 with
  | 0 => .nop
  | 1 => rd (.mapSet ltn (entryFrom v) (bitOf x 7))
  | 2 => rd (.tileTake ptn (bitsOf v 33 32) (bitsOf v 59 40))
  | 3 => rd (.tileFree ptn)
  | 4 => rd (.resetDone ptn)
  | 5 => rd (.cloneAdd ltn ptn)
  | 6 => rd (.cloneDel ltn ptn)
  | 7 => rd (.wellSet (ltn % 64) (wellOfVal v))
  | 8 => rd (.refuseSet (v % 2 ^ 39))
  | 9 => rd (.refuseClr (v % 2 ^ 39))
  | 10 => rd (.retire ptn)
  | _ => .reserved (bitsOf x 47 8)

/-- The three records of a journal line. -/
def recsOf (d : Line) : List RecRead := [0, 1, 2].map (fun i => recFrom (d.toNat / 2 ^ (160 * i) % 2 ^ 160))

/-- PTN and MSEQ of a locator (07 R208). -/
def locPtn (x : Nat) : Nat := x % 2 ^ 32
def locMseq (x : Nat) : Nat := bitsOf x 95 32

/-- What replay rebuilds from the objects. -/
structure Loaded where
  tabs : Tables
  led : Store Led
  pageSeq : Store Nat
deriving DecidableEq, Repr

/-- Take in an object, given by its lines. -/
def loadObj (v : Variant) (o : Nat) (line : Nat → Line) (x : Loaded) : Loaded :=
  let t := x.tabs
  if o < objClone then
    { x with
      tabs := { t with map := (List.range 2048).foldl (fun m e => sSet entryInit m (o * 2048 + e) (entryFrom (itemAt 60 e line))) t.map }
      pageSeq := sSet 0 x.pageSeq o (let h := bitsOf (line 240).toNat 61 22
        if h = 0 then 0 else h + 1) }
  else if o < objNode then
    { x with tabs := { t with clones := (List.range 1024).foldl (fun m k => sSet cloneInit m ((o - objClone) * 1024 + k) (cloneFrom (itemAt 128 k line))) t.clones } }
  else if o < objTile then
    { x with tabs := { t with nodes := (List.range 2048).foldl (fun m k => sSet nodeInit m ((o - objNode) * 2048 + k) (nodeFrom (itemAt 64 k line))) t.nodes } }
  else if o < objWell then
    { x with tabs := { t with tile := (List.range 65536).foldl (fun m k =>
        let p := ptnOfTix v ((o - objTile) * 65536 + k)
        if reservedPos (p % 2 ^ 24) then m else sSet 0 m p (itemAt 2 k line)) t.tile } }
  else if o = objWell then
    { x with tabs := { t with
        wells := (List.range 64).foldl (fun m i => sSet wellInit m i (wellOfVal (itemAt 60 i line))) t.wells
        cursor := (List.range 64).foldl (fun m i => sSet 0 m i (itemAt 32 i (fun l => line (l + 8)))) t.cursor } }
  else if o < objLedger then
    { x with tabs := { t with refused := (List.range 2048).foldl (fun m k =>
        let y := itemAt 64 k line
        sSet 0 m ((o - objRefused) * 2048 + k) (if bitOf y 39 then y % 2 ^ 39 + 1 else 0)) t.refused } }
  else
    { x with led := (List.range 4096).foldl (fun m k => sSet ledInit m (ptnOfTix v ((o - objLedger) * 4096 + k)) (ledFrom (itemAt 32 k line))) x.led }

/-- The fields of an anchor (07 R210). -/
structure AnchorF where
  aseq : Nat
  ckptNo : Nat
  root : Nat
  replay : Nat
  jtile : Nat
  jline : Nat
  ctrLimit : Nat
  y16 : Bool
deriving DecidableEq, Repr

def anchorFrom (d : Line) : AnchorF :=
  let x := d.toNat
  { aseq := bitsOf x 39 0, ckptNo := bitsOf x 79 40, root := bitsOf x 207 80, replay := bitsOf x 247 208, jtile := bitsOf x 375 248,
    jline := bitsOf x 383 376, ctrLimit := bitsOf x 447 384, y16 := bitOf x 448 }

end Sys2Proof.Machine
end

