-- ==== Sys2Proof/Machine/HostPort.lean ====
section
/-! DEFINITION. The host ports: training (11 R356, R361), IDE failures (R355), HDM decoders (R345), and the CXL.mem requests (R342) with
the checks at the port (02 R42 to R44; 10 R326; 11 R344, R354, R355, R359). -/

namespace Sys2Proof.Machine

/-! ## Training and decoders -/

/-- The width for a number of working lanes, and its code (11 R365). -/
def widthFor (lanes : Nat) : Nat := if 16 ≤ lanes then 3 else if 8 ≤ lanes then 2 else if 4 ≤ lanes then 1 else 0
def widthLanes (code : Nat) : Nat := if code = 3 then 16 else if code = 2 then 8 else if code = 1 then 4 else 0

/-- Whether a port can train: its domain is on and PERST_N[p] is deasserted. -/
def canTrain (s : State) (p : Nat) : Bool := domOn s (2 + p) && !s.pwr.perst.getLsbD p

/-- LINK_TRAINING: the widest width and highest rate that both partners support and LINK_CTL allows; a clocking mismatch, or fewer
than four lanes, leaves the port untrained. -/
def linkTrainingF (s : State) (p : Port) (lanes rate : Nat) (hostClk : Bool) : State :=
  if canTrain s p.val then
    let was := (portAt s p.val).linkUp
    let maxR := regF s .port p.val 1 2 1
    let maxW := regF s .port p.val 1 4 3
    let w := if widthFor lanes < maxW then widthFor lanes else maxW
    let r := if rate < maxR then rate else maxR
    let s := if was then flagPort s p.val 0 else s
    if hostClk ≠ regB s .port p.val 1 0 ∨ w = 0 ∨ r = 0 then modPort s p.val (fun x => { x with linkUp := false, width := 0, rate := 0, lanes := 0 })
    else
      let s := modPort s p.val (fun x => { x with
        linkUp := true, width := widthLanes w, rate := r, lanes := widthLanes w, memActive := decide (s.pwr.st = .service) })
      if w < maxW ∨ r < maxR then flagPort s p.val 1 else s
  else s

def execLinkTraining (p : Port) (lanes : Nat) (rate : Fin 4) (hostClk : Bool) (s : State) : Host.Outcome State Fault Refusal :=
  .next (linkTrainingF s p lanes rate.val hostClk)

/-- IDE_INTEGRITY_FAILURE on CXL.mem: the stream becomes insecure until its keys are programmed again; reported through AER. -/
def ideIntegrityFailureF (s : State) (p : Port) : State :=
  if (portAt s p.val).linkUp && (portAt s p.val).ideMem then
    emit (flagPort (modPort s p.val (fun x => { x with ideMem := false, ideFailed := true })) p.val 3) (.aer p 2)
  else s

def execIdeIntegrityFailure (p : Port) (s : State) : Host.Outcome State Fault Refusal := .next (ideIntegrityFailureF s p)

/-- The default of a decoder: uncommitted. -/
def hdmInit : Hdm := { committed := false, base := 0, size := 0, ways := 0, gran := 0, dpaBase := 0 }

/-- HDM_DECODER_COMMIT: at one instant the decoder takes its new setting. -/
def hdmDecoderCommitF (s : State) (p : Port) (i : Fin 4) (d : Hdm) : State :=
  if domOn s (2 + p.val) then modPort s p.val (fun x => { x with hdm := sSet hdmInit x.hdm i.val d }) else s

def execHdmDecoderCommit (p : Port) (i : Fin 4) (d : Hdm) (s : State) : Host.Outcome State Fault Refusal := .next (hdmDecoderCommitF s p i d)

/-! ## The checks at the port -/

/-- What the port decides about a request before the fabric (03 R80; 02 R44; 10 R326; 11 R344, R354, R355, R359). -/
inductive PortCheck where
  /-- goes on with its line -/
  | pass (dln : Nat)
  /-- WELL_VIOL: the DPA's line, if the address decodes, and the well or 0x7F -/
  | viol (dln : Option Nat) (well : Nat)
  /-- the role is FENCED or JOINING, or a SANITIZE runs -/
  | fenced (dln : Nat)
  /-- viral or an insecure stream: poison, nothing stored -/
  | poison
deriving DecidableEq, Repr

/-- Check a request. -/
def portCheck (s : State) (p : Nat) (hpa : Nat) : PortCheck :=
  let x := portAt s p
  if x.viral || x.ideFailed then .poison
  else if !x.memActive then .viol none 0x7F
  else match hdmDecode x.hdm hpa with
    | none => .viol none 0x7F
    | some dpa => match wellAt s.tabs.wells dpa with
      | none => .viol (some (dlnOf dpa)) 0x7F
      | some (i, w) =>
        if !w.mask.getLsbD p then .viol (some (dlnOf dpa)) i
        else if fencedRole s.pair.role || s.cmds.sanitizing then .fenced (dlnOf dpa)
        else .pass (dlnOf dpa)

/-- Record a request that fails the well check (02 R44). -/
def wellViol (s : State) (p : Nat) (dln : Option Nat) (well : Nat) : State :=
  let s := flagPort s p 2
  let s := countPort s p 11 { port := some p, priv := some 0, ltn := dln.map ltnOf, cls := none }
  noteEv s (srcPort p) 0x0208 0 (match dln with
    | some d => dlnArg d
    | none => 0) well

/-- One more request answered in the role FENCED or JOINING (10 R326). -/
def countFenced (s : State) (p : Nat) : State :=
  if fencedRole s.pair.role then modPort s p (fun x => { x with fenced := satAdd (2 ^ 40 - 1) x.fenced 1 }) else s

/-- Whether a port takes CXL.mem requests: its link is up, and the module admits requests or has signalled viral (03 R88; 11 R354). -/
def memOpen (s : State) (p : Nat) : Bool :=
  (portAt s p).linkUp && (match s.pwr.st with
    | .service | .boot => true
    | .drain => (portAt s p).viral
    | .off | .standby | .halt => false)

/-- The credit pools of a port (04 R130). -/
def rwdPool (s : State) (p : Nat) : Nat := 64 * regF s .port p 25 3 0
def reqPool (s : State) (p : Nat) : Nat := 1024 - rwdPool s p

/-! ## Reads -/

/-- Zero data with the poison bit, as the refused path answers. -/
def refusedData : LineV := { data := 0, p := true, pcause := 0 }

/-- A host read as it arrives (03 R98, R100). -/
def hostRd (s : State) (p : Port) (tag : Nat) (cmp : Bool) (lat : Nat) : HostRd :=
  { port := p, tag := tag, cmp := cmp, bound := boundNow s p.val, at_ := now s, lat0 := lat }

/-- A tile whose reads the resync target forwards (10 R335). -/
def forwards (s : State) (ltn : Nat) : Bool := s.pair.role = .resync && s.pair.isTarget && sGet false s.pair.sync ltn

/-- A host read (03 R80), forwarded where the tile is not synced (10 R335). -/
def hostRead (s : State) (p : Port) (tag hpa : Nat) (cmp : Bool) (env : RdEnv) : State :=
  if memOpen s p.val && decide ((portAt s p.val).rdOut < reqPool s p.val) then
    let s := modPort s p.val (fun x => { x with rdOut := x.rdOut + 1 })
    match portCheck s p.val hpa with
    | .poison => answerHost s p tag cmp (boundNow s p.val) none refusedData env.lat flags0 .refused
    | .viol d w => answerHost (wellViol s p.val d w) p tag cmp (boundNow s p.val) d refusedData env.lat flags0 .refused
    | .fenced d => answerHost (countFenced s p.val) p tag cmp (boundNow s p.val) (some d) refusedData env.lat flags0 .refused
    | .pass dln =>
      if forwards s (ltnOf dln) then
        let (t, s) := takeMtag s
        let s := { s with pair := { s.pair with fwdRds := s.pair.fwdRds ++ [{ mtag := t, dln := dln, rd := hostRd s p tag cmp env.lat }] } }
        send s (.fwdRd t p dln)
      else serveRead s dln (.host (hostRd s p tag cmp env.lat)) env
  else s

/-- MEMRD: answered with MemData and Cmp. -/
def execMemrd (p : Port) (tag hpa : Nat) (env : RdEnv) (s : State) : Host.Outcome State Fault Refusal := .next (hostRead s p tag hpa true env)

/-- MEMRDDATA: answered with MemData. -/
def execMemrddata (p : Port) (tag hpa : Nat) (env : RdEnv) (s : State) : Host.Outcome State Fault Refusal :=
  .next (hostRead s p tag hpa false env)

/-- MEMSPECRD: no response; after the checks, the line is prefetched, which the conditions of 05 R146 rule out in FENCED (11 R342); nothing is sensed
during a SANITIZE. -/
def memspecrdF (s : State) (p : Port) (hpa : Nat) : State :=
  if memOpen s p.val && decide ((portAt s p.val).rdOut < reqPool s p.val) then
    match portCheck s p.val hpa with
    | .poison => s
    | .viol d w => wellViol s p.val d w
    | .fenced dln => prefetch s dln (!s.cmds.sanitizing) (attrHost p.val (ltnOf dln) 0)
    | .pass dln => prefetch s dln (!forwards s (ltnOf dln)) (attrHost p.val (ltnOf dln) 0)
  else s

def execMemspecrd (p : Port) (hpa : Nat) (s : State) : Host.Outcome State Fault Refusal := .next (memspecrdF s p hpa)

/-- Cmp without data access, for the requests that only complete. -/
def cmpOnly (s : State) (p : Port) (tag : Nat) : State := if memOpen s p.val then emit s (.ndr p tag) else s

def execMeminv (p : Port) (tag : Nat) (s : State) : Host.Outcome State Fault Refusal := .next (cmpOnly s p tag)
def execMeminvnt (p : Port) (tag : Nat) (s : State) : Host.Outcome State Fault Refusal := .next (cmpOnly s p tag)
def execMemclnevct (p : Port) (tag : Nat) (s : State) : Host.Outcome State Fault Refusal := .next (cmpOnly s p tag)

/-- A request of host-only coherence that is not expected: dropped, with FWD_DROPPED. -/
def fwdDropped (s : State) (p : Port) (hpa : Nat) : State :=
  if memOpen s p.val then
    noteEv s (srcPort p.val) 0x020B 0 (match hdmDecode (portAt s p.val).hdm hpa with
      | some dpa => dlnArg (dlnOf dpa)
      | none => 0) 0
  else s

def execMemrdfwd (p : Port) (hpa : Nat) (s : State) : Host.Outcome State Fault Refusal := .next (fwdDropped s p hpa)
def execMemwrfwd (p : Port) (hpa : Nat) (s : State) : Host.Outcome State Fault Refusal := .next (fwdDropped s p hpa)

/-! ## Writes -/

/-- The LTN that a completion's event names, where the address decodes. -/
def hpaLtn (s : State) (p hpa : Nat) : Nat :=
  match hdmDecode (portAt s p).hdm hpa with
  | some dpa => ltnOf (dlnOf dpa)
  | none => 0

/-- A host write: a write credit, the checks, then its home (04 R105). A refused write completes and its data is discarded. -/
def hostWrite (s : State) (p : Port) (tag hpa : Nat) (poison : Bool) (be : Enables) (data : Line)
    (upset : List (Nat × ArrErr)) : State :=
  if memOpen s p.val && decide ((portAt s p.val).wrOut < rwdPool s p.val) then
    let s := modPort s p.val (fun x => { x with wrOut := x.wrOut + 1 })
    let part := decide (be ≠ BitVec.allOnes 64)
    let ltn := hpaLtn s p.val hpa
    match portCheck s p.val hpa with
    | .poison => finishHost s p tag part ltn
    | .viol d w => finishHost (wellViol s p.val d w) p tag part ltn
    | .fenced _ => finishHost (countFenced s p.val) p tag part ltn
    | .pass dln => routeWrite (putUpsets s upset) p tag dln poison be data
  else s

/-- MEMWR: a full line. -/
def execMemwr (p : Port) (tag hpa : Nat) (poison : Bool) (data : Line) (upset : List (Nat × ArrErr)) (s : State) :
    Host.Outcome State Fault Refusal :=
  .next (hostWrite s p tag hpa poison (BitVec.allOnes 64) data upset)

/-- MEMWRPTL: the enabled bytes. -/
def execMemwrptl (p : Port) (tag hpa : Nat) (poison : Bool) (be : Enables) (data : Line) (upset : List (Nat × ArrErr)) (s : State) :
    Host.Outcome State Fault Refusal :=
  .next (hostWrite s p tag hpa poison be data upset)

/-- GLOBAL_PERSISTENT_FLUSH: each phase completes as soon as it is received, without moving data (02 R62). -/
def globalPersistentFlushF (s : State) (p : Port) (phase2 : Bool) : State := if (portAt s p.val).linkUp then emit s (.gpf p phase2) else s

def execGlobalPersistentFlush (p : Port) (phase2 : Bool) (s : State) : Host.Outcome State Fault Refusal :=
  .next (globalPersistentFlushF s p phase2)

end Sys2Proof.Machine
end

