-- ==== Sys2Proof/Machine/MediumCmd.lean ====
section
/-! DEFINITION. The steps of the channel engines that serve reads: the ends of senses (06 R180; 03 R93), demand map reads (03 R95; 07 R231),
suspended operations (03 R90), the burst meter (R82) and the load window (R102, R103). -/

namespace Sys2Proof.Machine

/-- The sense of an id that is under way on the medium. -/
def senseAt (s : State) (sid : Nat) (retrying : Bool) : Option Sense :=
  findP (fun x => decide (x.sid = sid) && !x.waitPage && (x.retrying == retrying)) s.med.senses

/-- The MEDIA_ERR flag that a failed decode sets (06 R202): bit 1 interrupted, 2 tag fault, 3 W = 0. -/
def errFlag (f : Sensed) : Option Nat :=
  match f with
  | .interrupted => some 1
  | .tagFault => some 2
  | .wZero => some 3
  | .never | .line .. | .uncorr | .again => none

/-- A prefetch whose first pass fails delivers nothing and records no fault; those who waited for it act for themselves (05 R147, R149; 06
R202). -/
def prefetchFailed (s : State) (x : Sense) (f : Sensed) : State :=
  let s := match errFlag f with
    | some b => mediaErr s x.ptn.toNat x.fslot b
    | none => s
  restartWaiters x.dln x.waiters (dropSense s x.sid)

/-- Whether an operation of the partition of a tile is active: no sense runs there (06 R168). -/
def opActive (s : State) (ptn : Nat) : Bool :=
  s.med.ops.any (fun o => decide (o.die = ptnDieIx ptn) && decide (o.part = ptnPart ptn) && !o.suspended)

/-- Whether a sense can have run: not while an operation of its partition is active, as it stays under PREEMPT_DIS (03 R103); one that no host
read waits for, not while an operation of the partition has not ended (06 R168); none while its own frame is programmed (06 R173). -/
def senseRuns (s : State) (x : Sense) : Bool :=
  if s.med.ops.any (fun o => opOf o x.ptn.toNat x.fslot) then false
  else if x.prefetch && !someReads x.waiters then !partBusy s x.ptn.toNat
  else !opActive s x.ptn.toNat

/-- FRAME_SENSE_DONE: the first pass (03 R93; 06 R180). A retry takes its references from the flag byte of the first-pass data (09 R281;
log entry 45). -/
def frameSenseDoneF (s : State) (sid : Nat) (res : SenseRes) (lat : Nat) : State :=
  match senseAt s sid false with
  | none => s
  | some x =>
    let ptn := x.ptn.toNat
    let f := senseFrame s ptn x.fslot res false
    if !senseRuns s x then s
    else
    let s := bump s
    match f with
    | .again =>
      if x.prefetch then prefetchFailed s x (if (frameAt s ptn x.fslot).ptn = x.ptn then f else .tagFault)
      else
        let (s, ovl) := arriveRead (noteSense s ptn) (ptnChan ptn)
        putSense s { x with
          retrying := true
          refs := retryRefs s (ptnChan ptn) x.epoch.toNat (frameAt s ptn x.fslot)
          flags := flagsOr x.flags { flags0 with retry := true, overload := ovl } }
    | .interrupted | .wZero | .tagFault | .uncorr => if x.prefetch then prefetchFailed s x f else finishFrame s x f false lat
    | .never | .line .. => finishFrame s x f false lat

def execFrameSenseDone (sid : Nat) (res : SenseRes) (lat : Nat) (s : State) : Host.Outcome State Fault Refusal :=
  .next (frameSenseDoneF s sid res lat)

/-- RETRY_SENSE_DONE: the full decode; what it cannot decode is uncorrectable (03 R93, R94). -/
def retrySenseDoneF (s : State) (sid : Nat) (res : SenseRes) (lat : Nat) : State :=
  match senseAt s sid true with
  | none => s
  | some x =>
    let f := match senseFrame s x.ptn.toNat x.fslot res true with
      | .again => Sensed.uncorr
      | y => y
    if senseRuns s x then finishFrame (bump s) x f true lat else s

def execRetrySenseDone (sid : Nat) (res : SenseRes) (lat : Nat) (s : State) : Host.Outcome State Fault Refusal :=
  .next (retrySenseDoneF s sid res lat)

/-- A sense that waited for its page goes on, with the flags of the demand map read (03 R95, R99). -/
def continueSense (s : State) (x : Sense) (f : RdFlags) (lat : Nat) : State :=
  let ltn := ltnOf x.dln
  let s := tlbInstall (if s.pwr.warm then s else convertEntry s ltn) ltn
  let x := { x with flags := flagsOr x.flags f }
  match mapAns s x.dln with
  | .medium =>
    let (s, y) := dispatchSense s x
    putSense s y
  | .const d => endSense (putSense s x) x (.map (.const d)) lat
  | .refused => endSense (putSense s x) x (.map .refused) lat
  | .unwritten => endSense (putSense s x) x (.map .unwritten) lat
  | .lost => endSense (putSense s x) x (.map .lost) lat

/-- The frames of a demand map read, from frame `k` on: each is sensed and decoded; a retry re-senses it, which arrives at the channel as another
host frame read (03 R82, R93). The components: the flags collected, and the frames that are uncorrectable. -/
def demandFrames (s : State) (t : Nat) (res : List (Nat × SenseRes × SenseRes)) : Nat → Nat → State × RdFlags × List Nat
  | 0, _ => (s, flags0, [])
  | n + 1, k =>
    let (s, f, again) := senseMeta s t k (mseqAt s t) (resOf res k) 0 attrMeta
    let (s, o) := if again then arriveRead s (ptnChan t) else (s, false)
    let (s, fl, bad) := demandFrames s t res n (k + 1)
    (s, flagsOr { flags0 with retry := again, overload := o } fl, (if metaBad f then [k] else []) ++ bad)

/-- DEMAND_MAP_READ_DONE: the entry is installed, entries of an uncorrectable frame become LOST (07 R231), and the waiting reads go on. In WARM
the page enters the overflow pool (07 R213). While an operation of the frame's partition is active, nothing has been sensed (06 R168); what is uncorrectable waits while the journal takes no
update (07 R223). -/
def demandMapReadDoneF (s : State) (page : Nat) (res : List (Nat × SenseRes × SenseRes)) (lat : Nat) : State :=
  match demandOf s page with
  | none => s
  | some d =>
    let tile := findP (fun x => decide (x.1 = page)) s.mapu.ckptTiles
    let active : Bool := match tile with
      | some (_, t) => opActive s t || s.med.ops.any (fun o => opOf o t d.first || opOf o t (d.first + d.frames - 1))
      | none => false
    if active then s
    else if tailFull s && !res.isEmpty then flagTailStall s
    else
      let s := { s with mapu := { s.mapu with demand := dropFirst (fun d => decide (d.page = page)) s.mapu.demand } }
      let (s, f, bad) := match tile with
        | some (_, t) => demandFrames s t res d.frames d.first
        | none => (s, flags0, [])
      let s := mapLost s (bad.flatMap (frameEntries page))
      let s := if s.pwr.warm then installPage s page true else s
      (s.med.senses.filter (fun x => x.waitPage && decide (pageOf (ltnOf x.dln) = page))).foldl
        (fun s x => continueSense s x (flagsOr d.flags f) lat) s

def execDemandMapReadDone (page : Nat) (res : List (Nat × SenseRes × SenseRes)) (lat : Nat) (s : State) : Host.Outcome State Fault Refusal :=
  .next (demandMapReadDoneF s page res lat)

/-- Whether a host read, or a fill that counts as one, waits for a sense in a partition: of its line, or of the map frames of a demand map read
(03 R90; 06 R172). -/
def partitionRead (s : State) (die part : Nat) : Bool :=
  s.med.senses.any (fun x => !x.waitPage && (!x.prefetch || someReads x.waiters) && decide (ptnDieIx x.ptn.toNat = die)
    && decide (ptnPart x.ptn.toNat = part))
  || s.mapu.demand.any (fun d => match findP (fun x => decide (x.1 = d.page)) s.mapu.ckptTiles with
    | some (_, t) => decide (ptnDieIx t = die) && decide (ptnPart t = part)
    | none => false)

/-- PROGRAM_RESUME: a suspended operation resumes when no host read waits in its partition (03 R90; 06 R171). -/
def programResumeF (s : State) (die part : Nat) : State :=
  if partitionRead s die part then s
  else { s with med := { s.med with ops := s.med.ops.map (fun o => if o.die = die && o.part = part then { o with suspended := false } else o) } }

def execProgramResume (die part : Nat) (s : State) : Host.Outcome State Fault Refusal := .next (programResumeF s die part)

/-- BURST_METER_SLOT: the end of a 5 ns bus slot; B falls by one, never below zero (03 R82). -/
def burstMeterSlotF (s : State) (c : Nat) : State := modChan s c (fun x => { x with burst := x.burst - 1 })

def execBurstMeterSlot (c : Channel) (s : State) : Host.Outcome State Fault Refusal := .next (burstMeterSlotF s c.val)

/-- LOAD_WINDOW_END, at a multiple of 2 µs of TIME: RD_WIN takes the window's count; above LOAD_ALARM with ALARM_EN it counts an event (03 R102, R103). -/
def loadWindowEndF (s : State) (c : Nat) : State :=
  if now s % 2000 ≠ 0 then s
  else
  let n := if (chanAt s c).winCnt < 1023 then (chanAt s c).winCnt else 1023
  let s := modChan s c (fun x => { x with rdWin := n, winCnt := 0 })
  if regB s .channel c 9 10 && decide (regF s .channel c 9 9 0 < n) && !(chanAt s c).retired then count s (48 + c) attrNone else s

def execLoadWindowEnd (c : Channel) (s : State) : Host.Outcome State Fault Refusal := .next (loadWindowEndF s c.val)

end Sys2Proof.Machine
end

