-- ==== Sys2Proof/Machine/ProgOps.lean ====
section
/-! DEFINITION. Frame programs as shared operations: tokens and their order (04 R127, R128; 10 R332), places among the operations of a die and a
partition (06 R168, R169, R172), the start of a program and the end of an attempt (06 R170, R171, R174, R176). -/

namespace Sys2Proof.Machine

/-! ## Tokens and places (04 R127, R128; 06 R168, R169) -/

/-- Quarter-tokens of a die that a use other than refresh past deadline may take. -/
def freeTok (s : State) (die : Nat) : Nat := sGet 0 s.cist.tok die - 4 * (sGet 0 s.cist.share10 die / 40)

/-- Take a token for an operation, or none: the Drain takes no tokens. `past`: it is a refresh past deadline. -/
def takeTok (s : State) (die : Nat) (past : Bool) : Option State :=
  if s.pwr.st = .drain then some s
  else if past then
    if 4 ≤ sGet 0 s.cist.tok die then
      some { s with cist := { s.cist with tok := sMod 0 s.cist.tok die (· - 4), share10 := sMod 0 s.cist.share10 die (· - 40) } }
    else none
  else if 4 ≤ freeTok s die then some { s with cist := { s.cist with tok := sMod 0 s.cist.tok die (· - 4) } }
  else none

/-- Operations in progress in a die. -/
def opsOf (s : State) (die : Nat) : Nat := countP (fun o => decide (o.die = die)) s.med.ops
def resetsOf (s : State) (die : Nat) : Nat := countP (fun o => decide (o.die = die) && decide (o.kind = .reset)) s.med.ops

/-- The limits of a die's channel; 8 and 4 in DRAIN (06 R169). -/
def progLim (s : State) (die : Nat) : Nat := if s.pwr.st = .drain then 8 else regF s .channel (die / 8) 1 3 0
def resetLim (s : State) (die : Nat) : Nat :=
  if s.pwr.st = .drain then 4
  else
    let r := regF s .channel (die / 8) 1 6 4
    if r < progLim s die then r else progLim s die

/-- Whether an operation may start in the partition of a tile: nothing runs there, the die has room, and no host sense was ordered
first (06 R168, R169, R172). -/
def canStart (s : State) (ptn : Nat) : Bool :=
  !partBusy s ptn && decide (opsOf s (ptnDieIx ptn) < progLim s (ptnDieIx ptn)) && !partitionRead s (ptnDieIx ptn) (ptnPart ptn)

/-- The end of an operation. -/
def dropOp (s : State) (k : OpKind) : State := { s with med := { s.med with ops := dropFirst (fun o => decide (o.kind = k)) s.med.ops } }

/-! ## What is ready to be programmed -/

/-- Whether lines and copies are programmed: in SERVICE, and in step 2 of the Drain. -/
def programsRun (s : State) : Bool :=
  match s.pwr.st, s.pwr.drain with
  | .service, _ => true
  | .drain, some d => !d.linesDone
  | _, _ => false

/-- Whether the journal writer may program: in SERVICE, and in the Drain until its step 3 has ended. -/
def journalRuns (s : State) : Bool :=
  match s.pwr.st, s.pwr.drain with
  | .service, _ => true
  | .drain, some d => !d.recorded
  | _, _ => false

/-- Whether a line is dirty in the cache. -/
def dirtyLine (s : State) (dln : Nat) : Bool :=
  match findWay s dln with
  | some (_, w) => dirtyW w
  | none => false

/-- Whether an entry may be programmed: not held, its records durable, no older program of its frame running (04 R115; 07 R222, R234). A
failed frame waits for its tile's move, except in the Drain, which programs only the newest version of a line (04 R137). -/
def cisReady (s : State) (e : Cis) : Bool :=
  !e.prog && !e.held && isDurable s e.waitJ && (!e.failed || decide (s.pwr.st = .drain))
    && !s.cist.ents.any (fun x => x.prog && decide (x.dln = e.dln)) && !(decide (s.pwr.st = .drain) && dirtyLine s e.dln)

/-- Whether an earlier line of the die goes first: lines are programmed in the order in which they entered, subject to partition
availability (04 R116). -/
def earlierReady (s : State) (e : Cis) : Bool :=
  s.cist.ents.any (fun x => decide (x.slot < e.slot) && decide (ptnDieIx x.ptn.toNat = ptnDieIx e.ptn.toNat) && cisReady s x
    && canStart s x.ptn.toNat)

/-- The entry of a number. -/
def cisNo (s : State) (n : Nat) : Option Cis := findP (fun e => decide (e.slot = n)) s.cist.ents

/-- The move record of a tile's own cause. -/
def ownMove (s : State) (ltn : Nat) : Option Move := findP (fun m => decide (m.ltn = ltn)) s.wear.moves

/-- The content of a line of a move that waits for its program. -/
def gotAt (m : Move) (line : Nat) : Option (Line × Bool × BitVec 2) := (findP (fun x => decide (x.1 = line)) m.got).map (·.2)

/-- The tile that the running checkpoint writes for a node. -/
def ckptTile (s : State) (n : Nat) : Option CkptTile :=
  match s.mapu.ckpt with
  | some c => findP (fun t => decide (t.node = n)) c.tiles
  | none => none

/-- Whether every line of a checkpoint's tile has verified. -/
def tileDone (t : CkptTile) : Bool := t.done == BitVec.allOnes 256

/-- Whether a node's turn has come: its take is durable, and every node of a lower level has verified (07 R222, R225). -/
def nodeReady (s : State) (t : CkptTile) : Bool :=
  match s.mapu.ckpt with
  | some c =>
    isDurable s t.takeJ && !c.todo.any (fun n => decide (levelOf n < levelOf t.node))
      && !c.tiles.any (fun x => decide (levelOf x.node < levelOf t.node) && !tileDone x)
  | none => false

/-- The locator of a node's tile: that of the running checkpoint where it writes the node, else of the newest one; zero where it has none (07
R208). -/
def nodeLoc (s : State) (n : Nat) : Nat :=
  match ckptTile s n, nodeTile s n with
  | some t, _ => locator t.tile (mseqAt s t.tile)
  | none, some t => locator t (mseqAt s t)
  | none, none => 0

/-- The copy of the running checkpoint's anchor. -/
def anchorCopy (s : State) (k : Nat) : Option (AnchorW × Nat × Nat × Bool) :=
  match s.mapu.ckpt with
  | some c => match c.anchor with
    | some w => ((w.copies.drop k).head?).map (fun x => (w, x))
    | none => none
  | none => none

/-- The fixed pseudo-random pattern of a sentinel frame, which the manual does not give: FREE VALUE. -/
def sentinelLine (line : Nat) : Line := BitVec.ofNat 512 (Config.external 7 line)

/-- The physical tile of sentinel k of a die: tile slots 2 to 9 of partition 63 (09 R297). -/
def sentinelTile (die k : Nat) : Nat := die * 2 ^ 24 + 63 * 2 ^ 18 + 2 + k % 8

/-- Where a program goes and the frame that it leaves. -/
structure Target where
  tile : Nat
  slot : Nat
  frame : Frame
deriving DecidableEq, Repr

/-- The target of a program, if what it names is there. A sentinel frame takes the metadata key with ctr 0 and class 0, for which the manual
gives no rule (log entry 77). -/
def progTarget (s : State) (u : ProgRef) : Option Target :=
  match u with
  | .line n => (cisNo s n).map (fun e =>
      let p := e.ptn.toNat
      { tile := p, slot := e.fslot, frame := writtenFrame s p e.fslot e.gen (keyOf s (ltnOf e.dln) false) e.data e.p e.pcause })
  | .journal => (findP (fun l => !l.started) s.mapu.lines).map (fun l =>
      { tile := s.mapu.jtile, slot := l.line, frame := metaFrame s s.mapu.jtile l.line l.data })
  | .copy ltn line => match ownMove s ltn with
    | some m => (gotAt m line).map (fun v =>
        let f := fslotOf line m.rot
        { tile := m.dst, slot := f, frame := writtenFrame s m.dst f m.gen (keyOf s m.ltn m.walker) v.1 v.2.1 v.2.2 })
    | none => none
  | .rewrite ptn fslot => (findP (fun x => decide (x.2.1 = ptn) && decide (x.2.2.1 = fslot)) s.med.rewrites).map (fun x =>
      { tile := ptn, slot := fslot, frame := writtenFrame s ptn fslot x.2.2.2 (keyOf s x.1 false) 0 true 1 })
  | .node n line => (ckptTile s n).map (fun t =>
      { tile := t.tile, slot := line, frame := metaFrame s t.tile line (nodeLine s (nodeLoc s) n line) })
  | .anchor k => (anchorCopy s k).map (fun x => { tile := x.2.1, slot := x.2.2.1, frame := anchorFrameOf s x.2.1 x.2.2.1 x.1.data })
  | .sentinel die line =>
    let t := sentinelTile die (sGet 0 s.drift.sentinel die)
    some { tile := t, slot := line, frame := writtenFrame s t line 0 s.keys.meta_ (sentinelLine line) false 0 }

/-- Whether the rules of its own let a program start. -/
def progReady (s : State) (u : ProgRef) : Bool :=
  match u with
  | .line n => programsRun s && (match cisNo s n with
    | some e => cisReady s e && !earlierReady s e
    | none => false)
  | .journal => journalRuns s && isDurable s s.mapu.jtake && !s.med.ops.any (fun o => decide (o.kind = .program .journal))
  | .copy ltn _ => programsRun s && (match ownMove s ltn with
    | some m => m.commitJ.isNone && isDurable s m.takeJ
    | none => false)
  | .rewrite ptn _ => decide (s.pwr.st = .service) && (ltnOfPtn s ptn).isSome
  | .node n line => decide (s.pwr.st = .service) && (match ckptTile s n with
    | some t => nodeReady s t && !t.done.getLsbD line
    | none => false)
  | .anchor k => decide (s.pwr.st = .service) && (match anchorCopy s k with
    | some x => !x.2.2.2
    | none => false)
  | .sentinel die line => decide (s.pwr.st = .service) && (sGet 0 s.drift.sentLeft die).getLsbD line

/-- Whether a program can start now but for its token: it does not run, its die is live, its rules and its partition let it. -/
def startable (s : State) (u : ProgRef) : Bool :=
  match progTarget s u with
  | some t => !s.med.ops.any (fun o => decide (o.kind = .program u)) && dieLive s (ptnDieIx t.tile) && progReady s u && canStart s t.tile
  | none => false

/-! ## The order of grants (04 R128; 08 R248, R249; 09 R296; 10 R332) -/

/-- The rank of a move's programs: 2 refresh past deadline, 4 copy-on-write, 6 migration for wear, 8 refresh before deadline. -/
def rankMove (m : Move) : Nat :=
  if m.past then 2
  else match m.kind, m.cause with
    | .cow, _ | .materialise, _ | .move, .failedProgram => 4
    | .move, .wear | .move, .keyRotation | .move, .saturated | .move, .leaveConstrained => 6
    | .move, .age | .move, .readCount => 8

/-- Whether a line came from the resync source: at the target, a line of a tile still in the sync set (10 R332). -/
def resyncLine (s : State) (dln : Nat) : Bool :=
  decide (s.pair.role = .resync) && s.pair.isTarget && sGet false s.pair.sync (ltnOf dln)

/-- The rank of a program: 0 host-write programming, with journal lines, checkpoint tiles and anchors; 10 the lowest. Rewrites rank with refresh
past deadline (09 R296), sentinels last (log entry 61). -/
def rankOf (s : State) (u : ProgRef) : Nat :=
  match u with
  | .line n => match cisNo s n with
    | some e => if resyncLine s e.dln && decide (s.pwr.st = .service) then 4 else 0
    | none => 0
  | .journal | .node .. | .anchor _ => 0
  | .copy ltn _ => match ownMove s ltn with
    | some m => rankMove m
    | none => 0
  | .rewrite .. => 2
  | .sentinel .. => 10

/-- The rank of a die's resets: above migration for wear where free tiles are below the migration floor, else the lowest (04 R128; 08 R248). -/
def rankReset (s : State) (die : Nat) : Nat := if freeCount s die < migFloor s then 5 else 10

/-- Whether resets may start: in a SANITIZE only once its keys are stored (20 R557). -/
def resetsRun (s : State) : Bool := decide (s.pwr.st = .service) && (decide (s.cmds.sanStep = 0) || decide (3 ≤ s.cmds.sanStep))

/-- The reset that a die could start now but for its token. -/
def resetReady (s : State) (die : Nat) : Option Nat :=
  match sGet [] s.wear.resetq die with
  | [] => none
  | p :: _ =>
    if resetsRun s && dieLive s die && !tailFull s && canStart s p && decide (resetsOf s die < resetLim s die) then some p else none

/-- The programs that wait, one for every move and every tile of a checkpoint. -/
def waitingProgs (s : State) : List ProgRef :=
  s.cist.ents.map (fun e => .line e.slot) ++ [.journal]
    ++ s.wear.moves.filterMap (fun m => (m.got.head?).map (fun x => .copy m.ltn x.1))
    ++ s.med.rewrites.map (fun x => .rewrite x.2.1 x.2.2.1)
    ++ (match s.mapu.ckpt with
      | some c => c.tiles.filterMap (fun t => (findP (fun l => !t.done.getLsbD l) (List.range 256)).map (fun l => .node t.node l))
          ++ (List.range 4).map (fun k => .anchor k)
      | none => [])

/-- Whether something of a higher rank waits for a token of the die and could start. -/
def higherWaits (s : State) (die rank : Nat) : Bool :=
  (waitingProgs s).any (fun u => decide (rankOf s u < rank) && startable s u && (match progTarget s u with
    | some t => decide (ptnDieIx t.tile = die)
    | none => false))
  || (decide (rankReset s die < rank) && (resetReady s die).isSome)

/-- Take a token of a die for an operation of a rank: the highest rank that waits goes first; refresh past deadline takes its tenth before any other
use (04 R128). -/
def grantTok (s : State) (die rank : Nat) : Option State :=
  let tenth : Bool := decide (rank = 2) && decide (40 ≤ sGet 0 s.cist.share10 die)
  if decide (s.pwr.st ≠ .drain) && !tenth && higherWaits s die rank then none else takeTok s die (decide (rank = 2))

/-! ## Start and end of a program (06 R170 to R176) -/

/-- What the start of a program changes beside the medium: the entry is in program, the line of the journal has started. A rewrite of the frame of a
Cistern line is not needed any more. -/
def noteStart (s : State) (u : ProgRef) (t : Target) : State :=
  match u with
  | .line n =>
    let s := modSlot s n (fun x => { x with prog := true })
    { s with med := { s.med with rewrites := s.med.rewrites.filter (fun x => !(decide (x.2.1 = t.tile) && decide (x.2.2.1 = t.slot))) } }
  | .journal => { s with mapu := { s.mapu with lines := modFirst (fun l => !l.started) (fun l => { l with started := true }) s.mapu.lines } }
  | .copy .. | .rewrite .. | .node .. | .anchor _ | .sentinel .. => s

/-- A program starts: it takes a token and its place, and the frame's marker is OPEN (06 R170). -/
def beginProg (s : State) (u : ProgRef) (t : Target) : State :=
  let op : Op :=
    { kind := .program u, die := ptnDieIx t.tile, part := ptnPart t.tile, ptn := t.tile, fslot := t.slot, frame := t.frame, fails := 0, suspended := false }
  let s := noteStart { s with med := { s.med with ops := s.med.ops ++ [op] } } u t
  setFrame s t.tile t.slot { frameAt s t.tile t.slot with marker := .opened }

/-- Start a program if it can start; a refresh past deadline that finds no token is flagged (09 R299). -/
def startProg (s : State) (u : ProgRef) : State :=
  match progTarget s u with
  | none => s
  | some t =>
    if startable s u then
      match grantTok s (ptnDieIx t.tile) (rankOf s u) with
      | some s => beginProg s u t
      | none => if rankOf s u = 2 then flagRefPast s else s
    else s

/-- The most active time that a program may take, ns (06 R164, R174). -/
def maxProgNs : Nat := 2400

/-- A frame failed both attempts: PROG_FAIL (06 R174). -/
def progFail (s : State) (o : Op) (dln : Option Nat) : State :=
  report (mediaErr s o.ptn o.fslot 0) (srcChan (ptnChan o.ptn)) 0x0103 (o.ptn * 256 + o.fslot) (mediaArg1 dln) 0

/-- An attempt of a program ends. It verified within the time allowed: the frame holds what was programmed and `done` follows. Else it is attempted
once more, without a token and in its place; and then the frame has failed, and `failed` follows (06 R170, R174, R176; 08 R243). -/
def endProg (s : State) (u : ProgRef) (ok : Bool) (ns : Nat) (done failed : Op → State → State) : State :=
  match findP (fun o => decide (o.kind = .program u) && !o.suspended) s.med.ops with
  | none => s
  | some o =>
    let s := noteProgram s o.ptn
    let s := { s with cist := { s.cist with progSum := sMod (0, 0) s.cist.progSum o.die (fun x => (x.1 + ns, x.2 + 1)) } }
    if ok && decide (ns ≤ maxProgNs) then done o (setFrame (dropOp s o.kind) o.ptn o.fslot o.frame)
    else if o.fails = 0 then
      { s with med := { s.med with ops := modFirst (fun x => decide (x.kind = o.kind)) (fun x => { x with fails := 1 }) s.med.ops } }
    else failed o (dropOp s o.kind)

end Sys2Proof.Machine
end

