-- ==== Sys2Proof/Machine/WritePath.lean ====
section
/-! DEFINITION. The write path after completion (04): admission of waiting writes (R134), die resolution (R122; 07 R233 to R238), cleaning
(R125), the pacing epoch (R127 to R133), the ends of programs of Cistern lines (R105; 06 R174), and the filter (R113). -/

namespace Sys2Proof.Machine

/-! ## Admission (04 R134) -/

/-- The requester of a waiting write: local ports 0 to 3, peer ports 4 to 7; none for installs and the module's own writes. -/
def requesterOf (w : WaitW) : Option Nat :=
  match w.org with
  | .host p _ => some p.val
  | .peer _ p => some (4 + p.val)
  | .mirror .. | .silent | .internal | .repair _ => none

/-- The writes that wait in a slice, oldest first. -/
def sliceWaits (s : State) (n : Nat) : List WaitW := s.cist.waits.filter (fun w => decide (sliceOf s.cache w.dln = n))

/-- Try to admit a waiting write. -/
def tryAdmit (s : State) (w : WaitW) : Option State :=
  if s.cmds.hold.contains (ltnOf w.dln) then none
  else admitWrite { s with cist := { s.cist with waits := dropFirst (fun x => decide (x = w)) s.cist.waits } } w

/-- The first install or own write that can be admitted; those to one line keep their order. -/
def admitOwn (s : State) : List Nat → List WaitW → Option State
  | _, [] => none
  | seen, w :: r =>
    if (requesterOf w).isSome || seen.contains w.dln then admitOwn s seen r
    else match tryAdmit s w with
      | some s => some s
      | none => admitOwn s (w.dln :: seen) r

/-- WR_WEIGHT of a requester's port. -/
def rrWeight (s : State) (r : Nat) : Nat := regF s .port (r % 4) 25 7 4

/-- Weighted round robin from requester `turn`, which has had `used` admissions. -/
def admitRound (s : State) (n : Nat) : Nat → Nat → Nat → Option State
  | 0, _, _ => none
  | k + 1, turn, used =>
    let head := findP (fun w => decide (requesterOf w = some turn)) (sliceWaits s n)
    let next := admitRound s n k ((turn + 1) % 8) 0
    if rrWeight s turn ≤ used then next
    else match head with
      | none => next
      | some w => match tryAdmit s w with
        | some s => some { s with cist := { s.cist with rr := sSet (0, 0) s.cist.rr n (turn, used + 1) } }
        | none => next

/-- WRITE_ADMIT: the slice admits one waiting write. R134 orders the eight requesters; an install by MIRROR_WRITE or a write of the module's own
that can be admitted goes before them (log entry 78). -/
def writeAdmitF (s : State) (n : Nat) : State :=
  if s.pwr.st = .service then
    match admitOwn s [] (sliceWaits s n) with
    | some s => s
    | none =>
      let (turn, used) := sGet (0, 0) s.cist.rr n
      (admitRound s n 9 turn used).getD s
  else s

def execWriteAdmit (slice : Slice) (s : State) : Host.Outcome State Fault Refusal := .next (settle (writeAdmitF s slice.val))

/-! ## Die resolution (04 R122; 07 R233, R234, R237, R238; 08 R264, R265) -/

/-- Record the die of a dirty line. -/
def setDie (s : State) (dln die : Nat) : State :=
  match findWay s dln with
  | some (k, w) => evalStop (setWay s k { w with dk := true, die := die })
  | none => s

/-- Start a materialisation or a copy-on-write; the tile's dirty lines take the destination. Where no destination can be taken now, the
line stays as it is. -/
def resolveByMove (s : State) (ltn : Nat) (kind : MoveKind) : State :=
  if !mayTake s then s
  else match beginMove s ltn kind .wear false false with
    | some s => evalStop (evalCapacity s)
    | none => s

/-- The first write to an UNWRITTEN tile takes a reset tile (07 R234). -/
def allocate (s : State) (ltn dln : Nat) : State :=
  if !mayTake s then s
  else match takeTile s false none with
    | none => s
    | some (dst, s) =>
      let old := entryAt s ltn
      let gen := nextGen s ltn old.gen false
      let e : MapEntry := { st := .mapped, ptn := BitVec.ofNat 32 dst, rot := newRot s old.rot, epoch := epochNow s, gen := gen }
      let s := jAppend (bump s) [.tileTake dst 0 0, .mapSet ltn e false]
      afterPlacement (evalCapacity (setDie s dln (ptnDieIx dst))) ltn gen

/-- DIE_RESOLVE: the map unit resolves a written line's tile, and takes one if it must. A line of a SHARED tile waits while the shared physical tile
moves (07 R237, R239; 08 R250). -/
def dieResolveF (s : State) (dln : Nat) : State :=
  match findWay s dln with
  | none => s
  | some (_, w) =>
    let ltn := ltnOf dln
    if !dirtyW w || w.dk || !(s.pwr.st = .service || s.pwr.st = .drain) then s
    else if tailFull s then flagTailStall s
    else
      let s := if pageHere s (pageOf ltn) then s else convertEntry s ltn
      match carrierOf s ltn with
      | some m => setDie s dln (ptnDieIx m.dst)
      | none =>
        let e := entryAt s ltn
        match e.st with
        | .mapped | .refusing | .migrating => setDie s dln (ptnDieIx e.ptn.toNat)
        | .unwritten => allocate s ltn dln
        | .const | .lost => resolveByMove s ltn .materialise
        | .shared =>
          if (moveOf s ltn).isSome then s
          else if (sharersAt s.tabs e.ptn.toNat).length ≤ 1 then
            setDie (jAppend s [.cloneDel ltn e.ptn.toNat, .mapSet ltn { e with st := .mapped } false]) dln (ptnDieIx e.ptn.toNat)
          else resolveByMove s ltn .cow

def execDieResolve (dln : Nat) (s : State) : Host.Outcome State Fault Refusal := .next (settle (dieResolveF s dln))

/-! ## Cleaning (04 R125) -/

/-- The oldest dirty line of a die. -/
def oldestDirty (s : State) (die : Nat) : Option (Nat × WayT) :=
  (s.cache.ways.filter (fun x => x.2.v && dirtyW x.2 && x.2.dk && decide (x.2.die = die) && !lockHeld s x.2.dln)).foldl (fun b x => match b with
    | none => some x
    | some y => if x.2.stamp < y.2.stamp then some x else b) none

/-- The next dirty line of a die in the Drain's walk: each slice goes through its sets in ascending order (05 R161). -/
def nextDirty (s : State) (die : Nat) : Option (Nat × WayT) :=
  findP (fun x => x.2.v && dirtyW x.2 && x.2.dk && decide (x.2.die = die)) s.cache.ways

/-- Whether a write waits for a line bound for a die. -/
def waitsFor (s : State) (die : Nat) : Bool := s.cist.waits.any (fun w => decide (dieInfo s (ltnOf w.dln) = (true, die)))

/-- CLEANING: the die's oldest dirty line is copied to the Cistern while its count is at the stop level, or a write waits for a line
bound for it; in the Drain, each slice passes its dirty lines to the channel engine in ascending order of sets (05 R161). -/
def cleaningF (s : State) (die : Nat) : State :=
  if s.pwr.st = .drain then
    match nextDirty s die with
    | none => s
    | some (k, w) => freeLock (freeLock (cleanWay s k) w.dln true) w.dln false
  else if s.pwr.st = .service && hasRoom s die && (decide (stopLevel s ≤ dirtyOf s die) || waitsFor s die) then
    match oldestDirty s die with
    | none => s
    | some (k, _) => cleanWay s k
  else s

def execCleaning (die : Nat) (upset : List (Nat × ArrErr)) (s : State) : Host.Outcome State Fault Refusal :=
  .next (settle (cleaningF (putUpsets s upset) die))

/-! ## The pacing epoch (04 R121, R127 to R129, R132, R133; 18 R518) -/

/-- The effective level of a die: the higher of the Yelrid's and its channel's. -/
def dieLevel (s : State) (die : Nat) : Nat :=
  let c := chanLevel s (die / 8)
  if c < s.th.yelLvl then s.th.yelLvl else c

/-- L2_SKIP: 4 in Basic. -/
def l2Skip (s : State) : Nat := if expertEn s 12 then regF s .thermal 0 8 2 0 else 4

/-- The quarter-tokens kept of `q` received from offset `o` of the eight-token cycle: the first `k` tokens are skipped. -/
def keptQuarters (o q k : Nat) : Nat := countP (fun i => decide (k ≤ (o + i) / 4 % 8)) (List.range q)

/-- Whether refresh past deadline, or a rewrite of its rank, waits for a die's tokens (04 R128; 09 R296). -/
def refreshWaits (s : State) (die : Nat) : Bool :=
  s.wear.moves.any (fun m => m.past && decide (ptnDieIx m.dst = die) && !copyDone m)
    || s.med.rewrites.any (fun x => decide (ptnDieIx x.2.1 = die))

/-- One die receives its tokens for epoch `k`. -/
def tokenDie (s : State) (k die : Nat) : State :=
  let q := regF s .mapctl 0 32 5 0
  let lv := dieLevel s die
  let q := if 2 ≤ lv ∧ k % 2 = 1 then 0 else q
  let o := sGet 0 s.cist.skip8 die
  let kept := if 3 ≤ lv then keptQuarters o q (l2Skip s) else q
  let t := sGet 0 s.cist.tok die + kept
  { s with cist := { s.cist with
    tok := sSet 0 s.cist.tok die (if 32 < t then 32 else t)
    skip8 := if 3 ≤ lv then sSet 0 s.cist.skip8 die ((o + q) % 32) else s.cist.skip8
    share10 := sSet 0 s.cist.share10 die (if refreshWaits s die then sGet 0 s.cist.share10 die + kept else 0) } }

/-- Slots: the sum of the quotas of the live dies. -/
def slotTotal (s : State) : Nat := sumOf (quotaOf s) (liveDies s)

/-- The sum of WR_WEIGHT over the ports with writes outstanding: those that hold write credits, also where only withheld ones are left (R132; log
entry 78). -/
def activeWeight (s : State) : Nat := sumOf (fun p => if 0 < (portAt s p).wrOut then regF s .port p 25 7 4 else 0) (List.range 4)

/-- Whether fill f of z slots is at or above pc percent. -/
def fillAt (f z pc : Nat) : Bool := decide (0 < z) && decide (z * pc ≤ f * 100)

/-- The peer's fill and size in slots from its last HEARTBEAT, while writes are mirrored (R133). -/
def peerFill (s : State) : Option HbInfo := if mirroring s then s.pair.peerHb else none

/-- Pacing starts and ends (R132, R133). -/
def evalPacing (s : State) : State :=
  let hi := regF s .mapctl 0 33 6 0
  let lo := let l := regF s .mapctl 0 33 13 7
    if hi < l + 5 then hi - 5 else l
  let f := cisternCount s
  let z := slotTotal s
  let atPc (pc : Nat) : Bool := fillAt f z pc || (match peerFill s with
    | some h => fillAt h.fill h.size pc
    | none => false)
  let on := regB s .mapctl 0 32 6 && (if s.cist.pacing then atPc lo else atPc hi)
  { s with cist := { s.cist with pacing := on } }

/-- The write credits each port may get back in this epoch, rounded down for the module and for each port (R132, R133; log entry 78). -/
def setBudget (s : State) : State :=
  let own := s.cist.leftPrev
  let a := activeWeight s
  let share := match peerFill s with
    | some h =>
      let d := if h.drate < own then h.drate else own
      if a = 0 then 0 else d * a / (a + h.wact)
    | none => own
  let b := (List.range 4).foldl (fun m p =>
    let w := if 0 < (portAt s p).wrOut then regF s .port p 25 7 4 else 0
    sSet 0 m p (if a = 0 then 0 else share * w / a)) []
  { s with cist := { s.cist with budget := b } }

/-- Withheld credits go back to a port within its budget. -/
def payBudget (s : State) (p : Nat) : State :=
  let b := sGet 0 s.cist.budget p
  let n := if sGet 0 s.cist.owed p < b then sGet 0 s.cist.owed p else b
  payPort { s with cist := { s.cist with budget := sSet 0 s.cist.budget p (b - n) } } p n

/-- PACING_EPOCH: new quotas, tokens, pacing and credits, the time counted in the capacity condition (15 R445), the resync budget
(10 R332), CKPT_NOW (07 R241), and the loads of the ledger objects that updates wait for (08 R244). -/
def pacingEpochF (s : State) (res : List (Nat × SenseRes × SenseRes)) : State :=
  if s.pwr.st = .service then
    let k := now s / 1000
    let changed := s.cist.nextQuota.map (·.1)
    let s := { s with
      cist := { s.cist with
        quota := s.cist.nextQuota.foldl (fun m x => sSet 163840 m x.1 x.2) s.cist.quota, nextQuota := [], leftPrev := s.cist.left, left := 0 }
      mapu := { s.mapu with ckptReq := s.mapu.ckptReq || s.mapu.ckptNow, ckptNow := false } }
    let s := flagFull s changed
    let s := ((liveDies s).filter (fun d => domOn s (16 + d / 8))).foldl (fun s d => tokenDie s k d) s
    let s := count s (84 + capCode s.wear.cond) attrNone
    let s := setBudget (evalPacing s)
    let s := if s.cist.creditStop then s else if s.cist.pacing then (List.range 4).foldl payBudget s else payAll s
    loadLedgers { s with pair := { s.pair with resyncSent := 0 } } res
  else s

def execPacingEpoch (res : List (Nat × SenseRes × SenseRes)) (s : State) : Host.Outcome State Fault Refusal := .next (pacingEpochF s res)

/-! ## The ends of programs of Cistern lines (04 R105 steps 7 and 8; 06 R174; 08 R253, R270) -/

/-- Lines the refused-line table holds (08 R270). -/
def refusedMax : Nat := 522240

/-- The poison frame of a refused line failed (08 R270): the line enters the table, or the tile becomes LOST where the table is full. -/
def refusedFrameFailed (s : State) (e : Cis) : State :=
  let s := freeSlot s e.slot
  if s.tabs.refused.length < refusedMax then jAppend s [.refuseSet e.dln]
  else flagMove (replaceTile s (ltnOf e.dln) .lost 0) 13

/-- Whether a tile's lines are stored in a physical tile: by its entry, or by its move. -/
def tileUses (s : State) (ltn ptn : Nat) : Bool :=
  (inUse (entryAt s ltn) && decide ((entryAt s ltn).ptn.toNat = ptn)) || (match moveOf s ltn with
    | some m => decide (m.dst = ptn)
    | none => false)

/-- An entry follows its tile's move (08 R253). -/
def followMove (s : State) (e : Cis) : State :=
  let pl := placeOf s e.dln
  flagFull (modSlot s e.slot (fun x =>
    { x with ptn := pl.ptn, fslot := pl.fslot, gen := pl.gen, held := pl.held, also := pl.also, waitJ := pl.waitJ, failed := false }))
    (ptnDieIx pl.ptn.toNat :: pl.also.toList)

/-- The failed frame lies in the source of a move that is under way: the source is then retired when the move commits (08 R260). -/
def markSource (s : State) (ltn ptn : Nat) : State :=
  modMove s ltn (fun m => if m.prev.ptn.toNat = ptn ∧ m.commitJ = none then { m with cause := .failedProgram } else m)

/-- A frame of a Cistern line failed both attempts (06 R174): PROG_FAIL, the entry stays valid, and the tile moves at copy-on-write priority. An
entry that a newer one supersedes, or whose line was discarded, only releases its slot (04 R115, R117); the newer entry waits for the move as this
one would. The poison frame of a refused line waits while the journal takes no update (07 R223), and is then programmed again. -/
def frameFailed (e : Cis) (o : Op) (s : State) : State :=
  let ptn := e.ptn.toNat
  let ltn := ltnOf e.dln
  let s := modSlot s e.slot (fun x => { x with prog := false, failed := true })
  let s := progFail s o (some e.dln)
  let moving := (placeOf s e.dln).ptn ≠ e.ptn
  let s := if moving then markSource s ltn ptn else if tileUses s ltn ptn then queueMove s ltn .failedProgram else s
  if e.super then
    let s := freeSlot s e.slot
    match findCis s e.dln with
    | some n => if n.ptn = e.ptn ∧ n.fslot = e.fslot then modSlot s n.slot (fun x => { x with failed := true }) else s
    | none => s
  else
    let s := if moving then followMove s e else s
    if e.p && decide (e.pcause = 2) && decide ((entryAt s ltn).st = .refusing) then
      if tailFull s then modSlot (flagTailStall s) e.slot (fun x => { x with failed := false }) else refusedFrameFailed s e
    else s

/-- The end of an attempt of a Cistern line's program: the frame holds the line and the slot is free (04 R105 steps 7 and 8). -/
def lineEnd (s : State) (n : Nat) (ok : Bool) (ns : Nat) : State :=
  match cisNo s n with
  | none => s
  | some e => endProg s (.line n) ok ns (fun _ s => countLeft (freeSlot s n)) (frameFailed e)

/-! ## The presence filter (04 R113) -/

/-- Counters at 15. -/
def fullCounters (s : State) : Nat := countP (fun x => decide (x.2 = 15)) s.cist.filter

/-- FILTER_REBUILD: with more than 65,536 counters at 15, the filter is built anew from the index. -/
def filterRebuildF (s : State) : State :=
  if 65536 < fullCounters s then { s with cist := { s.cist with filter := s.cist.ents.foldl (fun m e => filterUp m e.dln) [] } } else s

def execFilterRebuild (s : State) : Host.Outcome State Fault Refusal := .next (filterRebuildF s)

end Sys2Proof.Machine
end

