-- ==== Sys2Proof/Machine/CacheCmd.lean ====
section
/-! DEFINITION. Way disabling and slice retirement (05 R142, R157 to R163). -/

namespace Sys2Proof.Machine

/-- Ways neither disabled nor being disabled. -/
def enabledWays (s : State) (n : Nat) : List Nat := (List.range 16).filter (fun w => wayUsable s n w)

/-- The way's next valid line at or after a set: its index and content. -/
def nextOfWay (s : State) (n w set : Nat) : Option (Nat × WayT) :=
  findP (fun x => x.2.v && decide (x.1 / 2 ^ 18 = n) && decide (x.1 % 16 = w) && decide (set ≤ x.1 / 16 % 16384)) s.cache.ways

/-- The slice is retired: steering leaves it, and its domain is switched off (05 R159). -/
def retireSlice (s : State) (n : Nat) : State :=
  let s := offDom (putSliceRetired (dropSlice s n) n) (8 + n) 0
  replanCause (startStore s 6 [(pgRetire, pgRetire)] false) 5

/-- No line of the way is valid: the disable is written down; too few ways retire the slice, and the last slice may lose its last way (05
R158 to R160). -/
def wayDone (s : State) (n w : Nat) : State :=
  let s := modSlice s n (fun x => { x with disabling := x.disabling.filter (fun y => decide (y.1 ≠ w)) })
  let s := pgPut (putBoth s .cache n 1 (2 ^ w) (2 ^ w)) pgRetire (16 * n + w) (16 * n + w) 1
  let s := startStore s 6 [(pgRetire, pgRetire)] false
  let s := noteEv s (srcSlice n) 0x0004 0 0 w
  let left := openWays s n
  if liveSlices s = [n] then (if left = 0 then fatal s (srcSlice n) 0x0306 0 0 0 else s)
  else if left = 0 then retireSlice s n
  else if left < 12 then (enabledWays s n).foldl (fun s w => startDisable s n w) s
  else s

/-- WAY_DISABLE: the slice treats the next line of the way longest in disable: it is cleaned and invalidated under its lock, which is held while
the line waits for its die's room (05 R148, R158). -/
def wayDisableF (s : State) (n : Nat) : State :=
  match (sliceAt s n).disabling with
  | [] => s
  | (w, set) :: _ =>
    if s.pwr.st ≠ .service then s
    else match nextOfWay s n w set with
      | none => wayDone s n w
      | some (k, x) =>
        let mine := maintHolds s x.dln false
        if lockHeld s x.dln && !mine then s
        else if dirtyW x && !canHandOff s x then takeLock s x.dln false
        else
          let s := if dirtyW x then cleanWay s k else checkTag s k
          let s := setWay s k wayInit
          let s := if mine then freeLock s x.dln false else s
          let s := modSlice s n (fun y => { y with disabling := modFirst (fun z => decide (z.1 = w)) (fun z => (z.1, k / 16 % 16384)) y.disabling })
          match nextOfWay s n w set with
          | none => wayDone s n w
          | some _ => s

def execWayDisable (slice : Slice) (upset : List (Nat × ArrErr)) (s : State) : Host.Outcome State Fault Refusal :=
  .next (settle (wayDisableF (putUpsets s upset) slice.val))

/-- A write of WAY_DIS that the guard has let pass: `m` the bits selected, `v` their values. It is refused for a retired slice, and where it
would leave fewer than 12 enabled ways (05 R163). -/
def writeWayDis (s : State) (n m v : Nat) : State :=
  let dis (w : Nat) : Bool := if bitOf m w then bitOf v w else !wayUsable s n w
  if (sliceAt s n).retired || decide (countP (fun w => !dis w) (List.range 16) < 12) then noteEv s (srcSlice n) 0x000B 0 0 0
  else (List.range 16).foldl (fun s w =>
    if !bitOf m w then s
    else if bitOf v w then startDisable s n w
    else
      let s := modSlice s n (fun x => { x with disabling := x.disabling.filter (fun y => decide (y.1 ≠ w)), ce := sSet [] x.ce w [] })
      if regB s .cache n 1 w then pgPut (putBoth s .cache n 1 (2 ^ w) 0) pgRetire (16 * n + w) (16 * n + w) 0 else s) s

end Sys2Proof.Machine
end

