-- ==== Sys2Proof/Machine/MapCmd.lean ====
section
/-! DEFINITION. The journal writer (07 R220 to R224, R229) and checkpoints (07 R208 to R211, R225 to R227, R290; 20 R545, R557). -/

namespace Sys2Proof.Machine

/-! ## What durable records release (07 R222; 03 R92) -/

/-- Whether a sense is under way on a physical tile. -/
def sensed (s : State) (ptn : Nat) : Bool := s.med.senses.any (fun x => !x.waitPage && decide (x.ptn.toNat = ptn))

/-- Freed tiles whose records are durable enter the reset queues of their dies, once no sense is under way on them. -/
def releaseFreed (s : State) : State :=
  let ready (x : Nat × Nat) : Bool := isDurable s x.2 && !sensed s x.1
  let out := s.wear.freeing.filter ready
  { s with wear := { s.wear with
      freeing := s.wear.freeing.filter (fun x => !ready x)
      resetq := out.foldl (fun m x => sMod [] m (ptnDieIx x.1) (fun l => l ++ [x.1])) s.wear.resetq } }

/-- A move ends once its commit group is durable; the causes that arose meanwhile are evaluated (08 R250, R251). -/
def endMoves (s : State) : State :=
  let done := s.wear.moves.filter (fun m => match m.commitJ with
    | some j => isDurable s j
    | none => false)
  done.foldl (fun s m => ledCauses (ledCauses (dropMove s m.ltn) m.dst true) m.dst false) s

/-- What follows when records have become durable. -/
def afterDurable (s : State) : State := evalCapacity (endMoves (releaseFreed s))

/-! ## Journal tiles (07 R220, R221) -/

/-- A metadata tile is taken: its TILE_TAKE is appended, and it gets the next MSEQ (07 R208, R209). -/
def takeMeta (s : State) (purpose ckpt : Nat) : Option (Nat × State) :=
  if s.mapu.ctrLimit ≤ s.mapu.mseq then none
  else match takeTile s false none with
    | none => none
    | some (t, s) =>
      let s := jAppend s [.tileTake t purpose ckpt]
      some (t, { s with mapu := { s.mapu with mseqOf := sSet 0 s.mapu.mseqOf t (s.mapu.mseq + 1), mseq := s.mapu.mseq + 1 } })

/-- JSEQ of the first record of the tail. -/
def tailFirst (s : State) : Nat := s.mapu.jnext - s.mapu.tail.length

/-- Take the next journal tile (R220, PURPOSE 3). -/
def takeNext (s : State) : Option State :=
  (takeMeta s 3 0).map (fun x => { x.2 with mapu := { x.2.mapu with jtileNext := x.1, jnextTake := jLast x.2 } })

/-- The present journal tile is closed and tile `t` opened for records from `first` on: its own successor is taken, and its header is the first
line to be programmed. Its programs wait for the record before `take` (R222). None while no successor can be taken. -/
def openTile (s : State) (t take first : Nat) : Option State :=
  let old := s.mapu.jtile
  match takeNext { s with mapu := { s.mapu with
    jclosed := if old = 0 then s.mapu.jclosed else s.mapu.jclosed ++ [(old, first - 1)], jtile := t, jtake := take, jline := 1 } } with
  | none => none
  | some s =>
    let nx := s.mapu.jtileNext
    some { s with mapu := { s.mapu with
      lines := { line := 0, recs := [], data := journalHeader first (locator nx (mseqAt s nx)), started := false } :: s.mapu.lines } }

/-- Open the next journal tile for the records of the tail. Where none has been taken (no journal was replayed) one is: its own programs cannot
wait for its TILE_TAKE, which is among the records it holds (log entry 82). -/
def openJournal (s : State) : Option State :=
  if s.mapu.jtileNext ≠ 0 then openTile s s.mapu.jtileNext s.mapu.jnextTake (tailFirst s)
  else (takeNext s).bind (fun s => openTile s s.mapu.jtileNext 0 (tailFirst s))

/-- Whether something in the Drain waits for a record of the tail: a line, a copy, the end of a move, or the next journal tile (R224). -/
def tailWanted (s : State) : Bool :=
  let want (j : Nat) : Bool := decide (tailFirst s < j)
  s.cist.ents.any (fun e => want e.waitJ) || s.wear.moves.any (fun m => want (m.commitJ.getD m.takeJ)) || want s.mapu.jtake

/-- Whether a line is due: three records, or the oldest has waited FLUSH_US; in the Drain, a record that something waits for, and at its step 3
what remains (R221, R224). -/
def lineDue (s : State) : Bool :=
  match s.mapu.tailAt with
  | [] => false
  | t :: _ =>
    decide (3 ≤ s.mapu.tail.length)
      || (match s.pwr.drain with
        | some d => d.linesDone || tailWanted s
        | none => decide (t + regF s .mapctl 0 2 6 0 * 1000 ≤ now s))

/-- The journal tile has room for a line; opening another waits until every line of the present one has verified. -/
def journalRoom (s : State) : Option State :=
  if s.mapu.jtile ≠ 0 ∧ s.mapu.jline < 256 then some s
  else if s.mapu.lines.isEmpty then openJournal s
  else none

/-- Up to three records of the tail form a line (R220, R221). -/
def formLine (s : State) : State :=
  if journalRuns s && lineDue s && decide (s.mapu.lines.length < 8) then
    match journalRoom s with
    | none => s
    | some s =>
      let l := s.mapu.jline
      let recs := s.mapu.tail.take 3
      { s with mapu := { s.mapu with
          jmap := s.mapu.jmap ++ [(tailFirst s, s.mapu.jtile, l)], jline := l + 1
          lines := s.mapu.lines ++ [{ line := l, recs := recs, data := journalLine recs, started := false }]
          tail := s.mapu.tail.drop 3, tailAt := s.mapu.tailAt.drop 3 } }
  else s

/-- JOURNAL_LINE_PROGRAM: a line that is due is formed, and the oldest line in turn starts its program, at the rank of host-write programming. -/
def journalLineProgramF (s : State) : State := startProg (formLine s) .journal

def execJournalLineProgram (s : State) : Host.Outcome State Fault Refusal := .next (journalLineProgramF s)

/-- Lines take the places from `k` on of a tile. -/
def renumber : Nat → List JLine → List JLine
  | _, [] => []
  | k, l :: r => { l with line := k, started := false } :: renumber (k + 1) r

/-- A line failed both attempts: the tile is closed there, and its records and those of every later line go to the next tile, whose programs wait
for no TILE_TAKE (R221). A header, which holds no record, is programmed again, as is a line while no successor can be taken (log entry 82). -/
def journalFailed (o : Op) (s : State) : State :=
  let s := progFail s o none
  let again := { s with mapu := { s.mapu with lines := modFirst (fun l => l.started) (fun l => { l with started := false }) s.mapu.lines } }
  match s.mapu.lines with
  | [] => s
  | l :: r =>
    if l.line = 0 then again
    else
      let ls := renumber 1 (l :: r)
      match openTile { s with mapu := { s.mapu with lines := ls } } s.mapu.jtileNext 0 s.mapu.durable with
      | none => again
      | some t =>
        { t with mapu := { t.mapu with
            jbad := t.mapu.jbad ++ [s.mapu.jtile], jline := 1 + ls.length
            jmap := t.mapu.jmap.filter (fun x => decide (x.1 < s.mapu.durable))
              ++ ls.map (fun x => ((x.recs.map (·.seq)).headD 0, t.mapu.jtile, x.line)) } }

/-- The oldest line verified, as every earlier one did: its records are durable (R221). -/
def headDurable (s : State) : State :=
  match s.mapu.lines with
  | [] => s
  | l :: r => settle (afterDurable { s with mapu := { s.mapu with lines := r, durable := s.mapu.durable + l.recs.length } })

/-- JOURNAL_LINE_VERIFY: an attempt of the journal line in program ends. -/
def journalEnd (s : State) (ok : Bool) (ns : Nat) : State := endProg s .journal ok ns (fun _ s => headDurable s) journalFailed

def execJournalLineVerify (ok : Bool) (ns : Nat) (s : State) : Host.Outcome State Fault Refusal := .next (journalEnd s ok ns)

/-! ## Checkpoints (07 R225) -/

/-- The nodes that a checkpoint writes: the dirty objects, their leaves, their branches, and the root. -/
def ckptNodes (s : State) : List Nat :=
  let os := tilesOf s.mapu.dirty
  os ++ dedup (os.map leafOf) ++ dedup (os.map branchOf) ++ [rootNode]

/-- Whether a checkpoint is due: the period, the records appended, a request, or MSEQ near its limit (R209, R225, R227, R229). -/
def ckptDue (s : State) : Bool :=
  s.mapu.ckptReq || decide (s.mapu.ckptAt + regF s .mapctl 0 1 9 0 * 1000000000 ≤ now s)
    || decide (s.mapu.ckptJ + regF s .mapctl 0 1 14 10 * 2 ^ 20 ≤ s.mapu.jnext) || decide (s.mapu.ctrLimit < s.mapu.mseq + 2 ^ 31)

/-- Change the running checkpoint. -/
def modCkpt (s : State) (f : Ckpt → Ckpt) : State := { s with mapu := { s.mapu with ckpt := s.mapu.ckpt.map f } }

/-- Take a tile for a node (R225 steps 2 and 3); where none can be taken now, the node waits. -/
def takeNode (s : State) (n : Nat) : State :=
  match s.mapu.ckpt with
  | none => s
  | some c =>
    if tailFull s then flagTailStall s
    else match takeMeta s 2 c.no with
      | none => s
      | some (t, s) =>
        modCkpt s (fun c => { c with
          todo := c.todo.filter (fun x => decide (x ≠ n)), tiles := c.tiles ++ [{ node := n, tile := t, takeJ := jLast s, done := 0 }] })

/-- A tile of the checkpoint lies on a die that has failed meanwhile: its node, and every node of a higher level, is written anew. -/
def ckptDead (s : State) : State :=
  match s.mapu.ckpt with
  | none => s
  | some c =>
    match c.anchor, findP (fun x => !dieLive s (ptnDieIx x.tile)) c.tiles with
    | none, some d =>
      let out (x : CkptTile) : Bool := decide (levelOf d.node < levelOf x.node) || !dieLive s (ptnDieIx x.tile)
      let back := c.tiles.filter out
      let s := modCkpt s (fun c => { c with todo := c.todo ++ back.map (·.node), tiles := c.tiles.filter (fun x => !out x) })
      { s with mapu := { s.mapu with superseded := s.mapu.superseded ++ (back.map (·.tile)).filter (fun t => dieLive s (ptnDieIx t)) } }
    | _, _ => s

/-- Take tiles for the nodes that have none. -/
def takeNodes (s : State) : State :=
  let s := ckptDead s
  match s.mapu.ckpt with
  | some c => c.todo.foldl takeNode s
  | none => s

/-- The instant C (R225 step 1). -/
def startCkpt (s : State) : State :=
  { s with
    mapu := { s.mapu with
      ckpt := some { no := s.mapu.ckptNo + 1, jc := s.mapu.jnext, todo := ckptNodes s, tiles := [], bad := [], anchor := none }
      dirty := [], ckptReq := false, ckptAt := now s, ckptJ := s.mapu.jnext }
    cmds := { s.cmds with sanStep := if s.cmds.sanStep = 4 then 5 else s.cmds.sanStep } }

/-- CHECKPOINT_START: the instant C of a checkpoint that is due, and the takes of its tiles; where one runs, the takes that it still lacks. -/
def checkpointStartF (s : State) : State :=
  if s.pwr.st ≠ .service then s
  else if s.mapu.ckpt.isSome then takeNodes s
  else if ckptDue s then takeNodes (startCkpt s) else s

def execCheckpointStart (s : State) : Host.Outcome State Fault Refusal := .next (checkpointStartF s)

/-- The tile and line of the journal that hold a record, or will hold it (R225 step 5). -/
def journalPlace (s : State) (j : Nat) : Nat × Nat :=
  let next : Nat × Nat := if s.mapu.jtile ≠ 0 ∧ s.mapu.jline < 256 then (s.mapu.jtile, s.mapu.jline) else (s.mapu.jtileNext, 1)
  match findP (fun (x : Nat × Nat × Nat) => decide (x.1 ≤ j)) s.mapu.jmap.reverse with
  | some x => if j < tailFirst s then (x.2.1, x.2.2) else next
  | none => next

/-- The copies of an anchor: the tile and the frame on the lowest live die of each of its channels that has one (R211). -/
def anchorCopies (s : State) (aseq : Nat) : List (Nat × Nat × Bool) :=
  let (slot, fr) := anchorFrame aseq
  (anchorChans aseq).filterMap (fun c =>
    (findP (fun d => dieLive s (c * 8 + d)) (List.range 6)).map (fun d => ((c * 8 + d) * 2 ^ 24 + slot, fr, false)))

/-- ASEQ of the next anchor: the next number of which a copy can be programmed (log entry 82). -/
def nextAseq (s : State) : Nat :=
  (findP (fun a => !(anchorCopies s a).isEmpty) ((List.range 8).map (fun k => s.mapu.aseq + 1 + k))).getD (s.mapu.aseq + 1)

/-- The anchor of a checkpoint (R210, R225 step 5). -/
def newAnchor (s : State) (c : Ckpt) : AnchorW :=
  let lim := s.mapu.mseq + 2 ^ 32
  let a := nextAseq s
  let (jt, jl) := journalPlace s c.jc
  { aseq := a, ctrLimit := lim, copies := anchorCopies s a
    data := anchorLine a c.no (nodeLoc s rootNode) c.jc (if jt = 0 then 0 else locator jt (mseqAt s jt)) jl lim s.sec.variant }

/-- CHECKPOINT_ANCHOR: every tile has verified and every record up to JSEQ_C is durable: the copies of the next anchor may be programmed. -/
def checkpointAnchorF (s : State) : State :=
  match s.mapu.ckpt with
  | none => s
  | some c =>
    if s.pwr.st = .service && c.anchor.isNone && c.todo.isEmpty && c.tiles.all tileDone && isDurable s c.jc then
      modCkpt s (fun c => { c with anchor := some (newAnchor s c) })
    else s

def execCheckpointAnchor (s : State) : Host.Outcome State Fault Refusal := .next (checkpointAnchorF s)

/-- Whether the warmer has loaded every map page of a well. -/
def wellLoaded (s : State) (w : Well) : Bool :=
  s.pwr.warm || (List.range (w.size * 8)).all (fun p => sGet false s.mapu.loaded (w.base * 8 + p) || decide (w.base * 8 + p < s.mapu.warmNext))

/-- KEY_LOST is cleared for the wells whose pages have been loaded (20 R545). -/
def clearLost (s : State) : State :=
  s.tabs.wells.foldl (fun s x =>
    let k := keyAt s x.2.key
    if x.2.live && k.lost && wellLoaded s x.2 then storeKey (setKey s x.2.key { k with lost := false }) x.2.key else s) s

/-- Once every copy on a live die has verified, the anchor is the newest one, and its checkpoint the one that stands (R211, R225 step 6). -/
def adoptAnchor (s : State) : State :=
  match s.mapu.ckpt with
  | none => s
  | some c => match c.anchor with
    | none => s
    | some w =>
      if s.mapu.aseq < w.aseq && w.copies.all (fun x => x.2.2 || !dieLive s (ptnDieIx x.1)) then
        let old := (c.tiles.map (fun x => sGet 0 s.mapu.ckptTiles x.node)).filter (fun t => t ≠ 0)
        settle (clearLost { s with
          mapu := { s.mapu with
            aseq := w.aseq, ckptNo := c.no, ctrLimit := w.ctrLimit, superseded := s.mapu.superseded ++ old
            ckptTiles := c.tiles.foldl (fun m x => sSet 0 m x.node x.tile) s.mapu.ckptTiles }
          cmds := { s.cmds with sanStep := if s.cmds.sanStep = 5 then 6 else s.cmds.sanStep } })
      else s

/-- Give up a metadata tile: TILE_FREE, or RETIRE where one of its frames failed (R221; 08 R260). -/
def freeMeta (s : State) (bad : List Nat) (t : Nat) : State :=
  if bad.contains t then noteRetired (jAppend s [.retire t]) t 1
  else
    let (v, c) := vacateVal s t none
    noteVacated (jAppend s [v]) t c

/-- CHECKPOINT_FREE: what the checkpoint superseded, and the journal tiles below its first record, are freed; the checkpoint ends (R225 step 6).
-/
def checkpointFreeF (s : State) : State :=
  let s := adoptAnchor s
  match s.mapu.ckpt with
  | none => s
  | some c =>
    if s.pwr.st = .service && (match c.anchor with
      | some w => decide (s.mapu.aseq = w.aseq)
      | none => false) then
      if tailFull s then flagTailStall s
      else
        let js := (s.mapu.jclosed.filter (fun x => decide (x.2 < c.jc))).map (·.1)
        let out := s.mapu.superseded ++ c.bad ++ js
        let s := out.foldl (fun s t => freeMeta s (c.bad ++ s.mapu.jbad) t) s
        evalCapacity { s with mapu := { s.mapu with
          superseded := [], ckpt := none
          jclosed := s.mapu.jclosed.filter (fun x => !js.contains x.1)
          jbad := s.mapu.jbad.filter (fun t => !js.contains t)
          jmap := s.mapu.jmap.filter (fun x => !js.contains x.2.1)
          mseqOf := out.foldl (fun m t => sSet 0 m t 0) s.mapu.mseqOf } }
    else s

def execCheckpointFree (s : State) : Host.Outcome State Fault Refusal := .next (checkpointFreeF s)

end Sys2Proof.Machine
end

