-- ==== Sys2Proof/Machine/Moves.lean ====
section
/-! DEFINITION. The steps of a move (08 R249 to R257, R264) and tile resets (06 R175; 08 R248, R260). -/

namespace Sys2Proof.Machine

/-! ## Starting (08 R249 to R251, R264) -/

/-- The rotation walker's next tile of a well (06 R199). -/
def isWalkerTile (s : State) (ltn : Nat) : Bool :=
  match wellOfLtn s.tabs.wells ltn with
  | some (i, w) => (keyAt s w.key).rotating && decide (walkerNext s i w = some ltn)
  | none => false

/-- Whether a refresh move is the first of its source die's queue (09 R288). -/
def refreshFirst (s : State) (ltn : Nat) : Bool :=
  let die := ptnDieIx (entryAt s ltn).ptn.toNat
  match findP (fun (x : Nat × Bool × Nat) => decide (ptnDieIx (entryAt s x.1).ptn.toNat = die)) s.drift.refq with
  | some x => decide (x.1 = ltn)
  | none => false

/-- How a move is to start: its kind and cause, whether it is the walker's, and whether it is a refresh past deadline. -/
structure Queued where
  kind : MoveKind
  cause : MoveCause
  walker : Bool
  past : Bool
deriving DecidableEq, Repr

/-- Whether a tile is queued for a cause. -/
def inQueue (s : State) (ltn : Nat) (c : MoveCause) : Bool := s.wear.queue.contains (ltn, c)

/-- Whether a tile in REFUSING waits for its move: those go first among the wear moves, in ascending LTN order (R271). -/
def refusingFirst (s : State) (ltn : Nat) (c : MoveCause) : Bool :=
  match findP (fun x => decide (x.2 = .leaveConstrained)) s.wear.queue with
  | some x => decide (c = .leaveConstrained) && decide (x.1 = ltn)
  | none => true

/-- Whether a tile is queued as a refresh past deadline. -/
def refPastQueued (s : State) (ltn : Nat) : Bool := s.drift.refq.any (fun x => decide (x.1 = ltn) && x.2.1)

/-- Whether the turn of a queued cause has come. -/
def causeTurn (s : State) (ltn : Nat) (c : MoveCause) : Bool :=
  match c with
  | .age | .readCount => s.drift.refq.any (fun x => decide (x.1 = ltn)) && refreshFirst s ltn
  | .keyRotation => isWalkerTile s ltn && refusingFirst s ltn c
  | .wear | .saturated | .leaveConstrained => inQueue s ltn c && refusingFirst s ltn c
  | .failedProgram => inQueue s ltn c

/-- The move that starts for a cause, if one may: one that was abandoned for a failed destination frame (R256), or one that is queued, in SERVICE.
A tile with a failed frame moves as one whatever starts its move: its source is retired (R260). -/
def queuedFor (s : State) (ltn : Nat) (c : MoveCause) : Option Queued :=
  match findP (fun x => decide (x.1 = ltn) && decide (x.2.2.1 = c)) s.wear.restart with
  | some x => some { kind := x.2.1, cause := c, walker := x.2.2.2.1, past := x.2.2.2.2 }
  | none =>
    if s.pwr.st = .service && causeTurn s ltn c then
      some { kind := .move, cause := if inQueue s ltn .failedProgram then .failedProgram else c, walker := decide (c = .keyRotation), past := refPastQueued s ltn }
    else none

/-- MOVE_START: a move whose source die has room takes a destination; a move that finds none keeps its place (R250). A tile that no longer holds
anything to move leaves its queue. -/
def moveStartF (s : State) (ltn : Nat) (c : MoveCause) : State :=
  if (decide (s.pwr.st = .service) || decide (s.pwr.st = .drain)) && decide (s.cmds.sanStep = 0) then
    match queuedFor s ltn c with
    | none => s
    | some q =>
      if tailFull s then flagTailStall s
      else
        let s := if pageHere s (pageOf ltn) then s else convertEntry s ltn
        if q.kind = .move && !inUse (entryAt s ltn) then unqueue s ltn
        else if !causeTakes s q.kind q.cause then s
        else match beginMove s ltn q.kind q.cause q.walker q.past with
          | none => s
          | some s => evalCapacity (dequeue s ltn)
  else s

def execMoveStart (ltn : Nat) (cause : MoveCause) (s : State) : Host.Outcome State Fault Refusal := .next (moveStartF s ltn cause)

/-! ## Copying (08 R254; 07 R233, R237) -/

/-- What a destination frame takes. -/
inductive CopyRes where
  /-- programmed with a line -/
  | put (v : LineV)
  /-- nothing is programmed -/
  | skip
  /-- the peer is asked for the line -/
  | ask
deriving DecidableEq, Repr

/-- The outcome of the copier's sense of a source frame. -/
def copyOf (s : State) (f : Sensed) : CopyRes :=
  match f with
  | .never => .skip
  | .line d p pc _ => .put { data := d, p := p, pcause := pc }
  | .interrupted => .put (poisonLine 1)
  | .wZero | .tagFault | .uncorr | .again => if s.pair.role = .paired then .ask else .put (poisonLine 1)

/-- The copier treats one line: what it senses and what the destination frame takes. -/
def copySource (s : State) (m : Move) (line : Nat) (res retry : SenseRes) : State × CopyRes :=
  let dln := m.ltn * 256 + line
  if s.cist.ents.any (fun e => decide (e.dln = dln) && e.held) then (s, .skip)
  else if isRefused s.tabs dln then (s, .put (poisonLine 2))
  else match m.kind, m.prev.st with
    | .materialise, .const => (s, .put (cleanLine (patternLine m.prev.ptn)))
    | .materialise, _ => (s, .put (poisonLine 1))
    | .move, _ | .cow, _ =>
      let ptn := m.prev.ptn.toNat
      let f := fslotOf line m.prev.rot
      let (s, r, again) := senseBoth s ptn f res retry
      let s := account s ptn f (some m.ltn) { src := 2, attr := attrInt m.ltn 4, dln := some dln, fill := false } r again
      (s, copyOf s r)

/-- A line of the move is treated. -/
def markCopied (s : State) (ltn line : Nat) : State :=
  modMove s ltn (fun m => { m with copied := m.copied ||| BitVec.ofNat 256 (2 ^ line), got := m.got.filter (fun x => decide (x.1 ≠ line)) })

/-- Whether the copier has come to a line: it is treated, asked of the peer, or waits for its program. -/
def copyReached (m : Move) (line : Nat) : Bool := m.copied.getLsbD line || m.asked.contains line || (gotAt m line).isSome

/-- Whether the copier reaches a line now: it has come to every frame slot below, its take is durable, no program of its source frame runs, and
none in the source's partition (06 R168, R173; 08 R251). -/
def copyTurn (s : State) (m : Move) (line : Nat) : Bool :=
  let lineAt (k : Nat) : Nat := (k + 256 - m.prev.rot.toNat) % 256
  m.commitJ.isNone && isDurable s m.takeJ && !copyReached m line
    && (List.range (fslotOf line m.prev.rot)).all (fun k => copyReached m (lineAt k))
    && !s.cist.ents.any (fun e => e.prog && decide (e.dln = m.ltn * 256 + line) && decide (e.ptn = m.prev.ptn))
    && (decide (m.kind = .materialise) || !partBusy s m.prev.ptn.toNat)

/-- MOVE_COPY: the copier senses one line of the tile. What the destination frame takes waits for its program, which starts now if it can. -/
def moveCopyF (s : State) (ltn line : Nat) (res retry : SenseRes) : State :=
  match moveOf s ltn with
  | none => s
  | some m =>
    if !programsRun s || !copyTurn s m line then s
    else
      let (s, r) := copySource s m line res retry
      match r with
      | .skip => settle (markCopied s m.ltn line)
      | .ask =>
        let (g, s) := takeMtag s
        send (modMove s m.ltn (fun m => { m with asked := m.asked ++ [line] })) (.lineReq g (m.ltn * 256 + line))
      | .put v => startProg (gotLine s m.ltn line v.data v.p v.pcause) (.copy m.ltn line)

def execMoveCopy (ltn : Nat) (line : Fin 256) (res retry : SenseRes) (s : State) : Host.Outcome State Fault Refusal :=
  .next (moveCopyF s ltn line.val res retry)

/-- MOVE_COMMIT: every destination program has verified, and the commit group is appended (08 R251). -/
def moveCommitF (s : State) (ltn : Nat) : State :=
  match moveOf s ltn with
  | none => s
  | some m =>
    if copyDone m && m.commitJ.isNone && (s.pwr.st = .service || s.pwr.st = .drain) then
      if tailFull s then flagTailStall s else settle (evalCapacity (commitMove s m))
    else s

def execMoveCommit (ltn : Nat) (s : State) : Host.Outcome State Fault Refusal := .next (moveCommitF s ltn)

/-! ## Tile resets (06 R168, R169, R175; 08 R248, R260) -/

/-- TILE_RESET_START: the head of the die's reset queue. -/
def tileResetStartF (s : State) (die : Nat) : State :=
  let s := releaseFreed s
  let s := if tailFull s && !(sGet [] s.wear.resetq die).isEmpty then flagTailStall s else s
  match resetReady s die with
  | none => s
  | some p => match grantTok s die (rankReset s die) with
    | none => s
    | some s =>
      { s with
        wear := { s.wear with resetq := sMod [] s.wear.resetq die (fun l => l.drop 1) }
        med := { s.med with ops := s.med.ops ++
          [{ kind := .reset, die := die, part := ptnPart p, ptn := p, fslot := 0, frame := frameInit, fails := 0, suspended := false }] } }

def execTileResetStart (die : Nat) (s : State) : Host.Outcome State Fault Refusal := .next (tileResetStartF s die)

/-- The frames of a tile are BLANK (06 R175). -/
def blankTile (s : State) (ptn : Nat) : State :=
  { s with med := { s.med with frames := s.med.frames.filter (fun x => decide (x.1 / 256 ≠ ptn)) } }

/-- A reset that failed: the tile is reset again, or retired in place of a fourth reset (08 R260). -/
def resetFailed (s : State) (ptn : Nat) : State :=
  let n := sGet 0 s.wear.rfail ptn + 1
  if 3 ≤ n then
    evalCapacity (noteRetired (jAppend { s with wear := { s.wear with rfail := sSet 0 s.wear.rfail ptn 0 } } [.retire ptn]) ptn 3)
  else
    { s with wear := { s.wear with rfail := sSet 0 s.wear.rfail ptn n, resetq := sMod [] s.wear.resetq (ptnDieIx ptn) (fun l => ptn :: l) } }

/-- RESET_DONE: the die reports the end of a tile reset. It waits while the journal takes no update (07 R223). -/
def resetDoneF (s : State) (ptn : Nat) (ok : Bool) : State :=
  match findP (fun o => decide (o.kind = .reset) && decide (o.ptn = ptn) && !o.suspended) s.med.ops with
  | none => s
  | some _ =>
    if tailFull s then flagTailStall s
    else
      let s := { s with med := { s.med with ops := dropFirst (fun o => decide (o.kind = .reset) && decide (o.ptn = ptn)) s.med.ops } }
      let s := noteReset s ptn
      if ok then
        let s := blankTile s ptn
        settle (evalCapacity (jAppend { s with wear := { s.wear with rfail := sSet 0 s.wear.rfail ptn 0 } } [.resetDone ptn]))
      else settle (resetFailed s ptn)

def execResetDone (ptn : Nat) (ok : Bool) (s : State) : Host.Outcome State Fault Refusal := .next (resetDoneF s ptn ok)

end Sys2Proof.Machine
end

