-- ==== Sys2Proof/Machine/DriftCmd.lean ====
section
/-! DEFINITION. Epoch units (09 R273, R275), the refresh scanner (R287, R288), scrub (R292 to R295) and the sentinels (R297). -/

namespace Sys2Proof.Machine

/-! ## Epoch units -/

/-- Four hours in ns. -/
def unitNs : Nat := 14400000000000

/-- EPOCH_UNIT_START: four hours of TIME after the current unit started (R273). The start at BOOT is a part of the entry to BOOT; in the STANDBY after OFF no
unit runs, EC being known only from BOOT on (R276). -/
def epochUnitStartF (s : State) : State :=
  if s.pwr.st ≠ .off && !(decide (s.pwr.st = .standby) && decide (s.pwr.bootStep = 0)) && decide (s.drift.unitStart + unitNs ≤ now s) then startUnit s else s

def execEpochUnitStart (s : State) : Host.Outcome State Fault Refusal := .next (epochUnitStartF s)

/-- REFRESH_SCAN: the scanner evaluates one map entry. -/
def refreshScanF (s : State) (ltn : Nat) : State :=
  if s.pwr.st = .service && decide (ltn < logicalTiles s.sec.variant) then
    scanEntry (if pageHere s (pageOf ltn) then s else convertEntry s ltn) ltn
  else s

def execRefreshScan (ltn : Nat) (s : State) : Host.Outcome State Fault Refusal := .next (refreshScanF s ltn)

/-! ## Scrub (R292 to R295) -/

/-- The tiles a pass senses: those in use, a shared one through its first sharer. -/
def scrubTiles (s : State) : List Nat := (s.tabs.map.filter (fun x => inUse x.2 && decide (refreshRep s x.1 = x.1))).map (·.1)

/-- The metadata tiles named in the newest checkpoint. -/
def metaTiles (s : State) : List Nat := s.mapu.ckptTiles.map (·.2)

/-- The frame at or after a cursor position: the position, or none at the end of the pass. -/
def scrubAt (s : State) (cur line : Nat) : Option (Nat × Nat) :=
  let m := (metaTiles s).length
  let metaFrom (k : Nat) : Option (Nat × Nat) := if k < m then some (2 ^ 31 + k, if k + 2 ^ 31 = cur then line else 0) else none
  if cur < 2 ^ 31 then
    match findP (fun l => decide (cur ≤ l)) (scrubTiles s) with
    | some l => some (l, if l = cur then line else 0)
    | none => metaFrom 0
  else metaFrom (cur - 2 ^ 31)

/-- The position after a frame. -/
def scrubNext (cur line : Nat) : Nat × Nat := if line < 255 then (cur, line + 1) else (cur + 1, 0)

/-- Put the walker's position. -/
def putCursor (s : State) (cur line : Nat) : State := { s with drift := { s.drift with cursor := cur, line := line } }

/-- Sense a frame of a user tile and act on the result (R293). None where the sense must wait (06 R168, R173). -/
def scrubUser (s : State) (ltn line : Nat) (res retry : SenseRes) : Option State :=
  let e := entryAt s ltn
  let ptn := e.ptn.toNat
  let dln := ltn * 256 + line
  let f := fslotOf line e.rot
  if partBusy s ptn then none
  else
    let (s, r, again) := senseBoth s ptn f res retry
    let s := account s ptn f (some ltn) { src := 3, attr := attrInt ltn 6, dln := some dln, fill := false } r again
    match r with
    | .interrupted => some (rewriteInterrupted s ltn ptn f e.gen)
    | .wZero | .tagFault | .uncorr | .again => some (askRepair s dln)
    | .never | .line .. => some s

/-- Whether a decode calls for a refresh (R287). -/
def decodeWorn (s : State) (r : Sensed) (again : Bool) : Bool :=
  again || (match r with
    | .line _ _ _ n => decide (0 < n) && decide (regF s .mapctl 0 40 8 7 ≤ n)
    | .never => false
    | .interrupted | .wZero | .tagFault | .uncorr | .again => true)

/-- Sense a frame of a metadata tile. An object that decodes badly becomes dirty, and the next checkpoint, which does not wait for its period, rewrites
it (07 R227). -/
def scrubMeta (s : State) (k line : Nat) (res retry : SenseRes) : Option State :=
  let t := nth 0 (metaTiles s) k
  if partBusy s t then none
  else
    let (s, r, again) := senseMeta s t line (mseqAt s t) (res, retry) 3 { attrMeta with cls := some 6 }
    match decodeWorn s r again, findP (fun x => decide (x.2 = t)) s.mapu.ckptTiles with
    | true, some (n, _) =>
      some (if n < 2 ^ 22 then { s with mapu := { s.mapu with dirty := sSet false s.mapu.dirty n true, ckptReq := true } } else s)
    | _, _ => some s

/-- The run that a RANGE belongs to. -/
def rangeRun (s : State) (g : ScrubRange) : Option Running :=
  findP (fun r => decide (r.src = g.src) && decide ((descOf r.desc).tag = g.tag) && decide ((descOf r.desc).opcode = 0x15) && r.started) s.cmds.run

/-- End a RANGE with a status; RESULT is the tiles sensed (12 R382). -/
def endRange (s : State) (status : Nat) : State :=
  match s.drift.range with
  | none => s
  | some g =>
    let s := { s with drift := { s.drift with range := none } }
    match rangeRun s g with
    | some r => completeRun s r status g.sensed []
    | none => s

/-- The next line of a RANGE at or after its position. -/
def rangeAt (s : State) (g : ScrubRange) : Option (Nat × Nat) :=
  match findP (fun (x : Nat × MapEntry) => decide (g.next / 256 ≤ x.1) && decide (x.1 < g.last) && inUse x.2) s.tabs.map with
  | some x => some (x.1, if x.1 = g.next / 256 then g.next % 256 else 0)
  | none => none

/-- A RANGE ends when no tile of it is left. -/
def settleRange (s : State) : State :=
  match s.drift.range with
  | none => s
  | some g => if (rangeAt s g).isNone then endRange s 0 else s

/-- A pass cannot end in time (R294). -/
def scrubLate (s : State) : State := noteEv (count (flagScrub s 9) 83 attrNone) srcMap 0x0009 0 0 0

/-- The walker has passed a frame; at the end of a pass PASS_DONE is set and the next begins. -/
def walkOn (s : State) (cur line : Nat) : State :=
  let p := scrubNext cur line
  match scrubAt s p.1 p.2 with
  | some q => putCursor s q.1 q.2
  | none => flagScrub (putCursor s 0 0) 10

/-- SCRUB_SENSE: the frame `line` of the tile that is due: of the RANGE if one runs, else of the walker unless it is paused. -/
def scrubSenseF (s : State) (line : Nat) (res retry : SenseRes) (late : Bool) : State :=
  if s.pwr.st ≠ .service || s.cmds.sanitizing then s
  else match s.drift.range with
    | some g => match rangeAt s g with
      | none => endRange s 0
      | some (l, k) =>
        if k ≠ line then s
        else match scrubUser s l k res retry with
          | none => s
          | some s =>
            let g := { g with next := l * 256 + k + 1, sensed := g.sensed + (if k = 255 then 1 else 0) }
            settleRange { s with drift := { s.drift with range := some g } }
    | none =>
      if s.drift.pausedAt.isSome then s
      else match scrubAt s s.drift.cursor s.drift.line with
        | none => flagScrub (putCursor s 0 0) 10
        | some (cur, k) =>
          if k ≠ line then s
          else
            let r := if cur < 2 ^ 31 then scrubUser s cur k res retry else scrubMeta s (cur - 2 ^ 31) k res retry
            match r with
            | none => s
            | some s => walkOn (if late then scrubLate s else s) cur k

def execScrubSense (line : Fin 256) (res retry : SenseRes) (late : Bool) (s : State) : Host.Outcome State Fault Refusal :=
  .next (scrubSenseF s line.val res retry late)

/-- SCRUB_AUTO_RESUME: 24 h after the pause began (R295). -/
def scrubAutoResumeF (s : State) : State :=
  match s.drift.pausedAt with
  | some t => if t + dayNs ≤ now s then { s with drift := { s.drift with pausedAt := none } } else s
  | none => s

def execScrubAutoResume (s : State) : Host.Outcome State Fault Refusal := .next (scrubAutoResumeF s)

/-! ## Sentinels (R297) -/

/-- Whether a die's next sentinel is due: deadline / 8 equivalent hours after the last. -/
def sentinelDue (s : State) (die : Nat) : Bool :=
  let last := sGet 0 s.drift.sentAt die
  let ch := chanAt s (die / 8)
  decide (last = 0) || decide (last - 1 + ch.deadline * hourUnits / 8 ≤ ch.tac)

/-- The lowest line of a die's sentinel that has not verified. -/
def sentinelNext (s : State) (die : Nat) : Option Nat := findP (fun l => (sGet 0 s.drift.sentLeft die).getLsbD l) (List.range 256)

/-- SENTINEL_PROGRAM: the die's next sentinel, once due, is programmed with the fixed pattern, line by line. -/
def sentinelProgramF (s : State) (die : Nat) : State :=
  if s.pwr.st = .service && dieLive s die then
    let s := if (sentinelNext s die).isNone && sentinelDue s die then
        { s with drift := { s.drift with sentLeft := sSet 0 s.drift.sentLeft die (BitVec.allOnes 256) } } else s
    match sentinelNext s die with
    | some l => startProg s (.sentinel die l)
    | none => s
  else s

def execSentinelProgram (die : Nat) (s : State) : Host.Outcome State Fault Refusal := .next (sentinelProgramF s die)

end Sys2Proof.Machine
end

