-- ==== Sys2Proof/Machine/QuartzCmd.lean ====
section
/-! DEFINITION. Quartz dumps, snapshots, freezes and clears (15 R446, R448 to R454). -/

namespace Sys2Proof.Machine

/-! ## The record (15 R454) -/

/-- Eight bytes an entry. -/
def entryBytes : List Nat → List (BitVec 8)
  | [] => []
  | v :: r => leBytes 8 v ++ entryBytes r

/-- The 4416 bytes of a record taken now. -/
def dumpRecord (s : State) (snap fchg : Bool) : List (BitVec 8) :=
  let z := s.qz
  let head := now s % 2 ^ 64 + z.dseq % 2 ^ 40 * 2 ^ 64 + b2n snap * 2 ^ 104 + b2n fchg * 2 ^ 105
    + (if 255 < z.lostSince then 255 else z.lostSince) * 2 ^ 106
  let ctr (i : Nat) : Nat := sGet 0 z.ctr i + b2n (sGet false z.ovf i) * 2 ^ 40 + (sGet (0, 0) z.fset i).1 % 16 * 2 ^ 41
  let bin (i : Nat) : Nat := sGet 0 z.hist i + b2n (sGet false z.histOvf i) * 2 ^ 40
  leBytes 64 head ++ entryBytes ((List.range 288).map ctr) ++ entryBytes ((List.range 256).map bin)

/-- The next sequence number (15 R452). -/
def nextDseq (s : State) : State := { s with qz := { s.qz with dseq := (s.qz.dseq + 1) % 2 ^ 40 } }

/-! ## Pending settings (15 R448) -/

/-- A filter register with its pending word in force. -/
def fsApplied (c : RegCell) : RegCell := { c with act := c.pend }

/-- Whether a filter or FSET change waits. -/
def filterWaits (s : State) : Bool :=
  s.qz.fs.any (fun x => decide (x.2.act ≠ x.2.pend)) || s.qz.fset.any (fun x => decide (x.2.1 ≠ x.2.2))

/-- The settings that wait for a dump boundary take effect; EN changing to 1 zeroes both indexes (15 R448, R452). -/
def applyDump (s : State) : State :=
  let en := regB s .quartz 0 11 0
  let s := { s with qz := { s.qz with
    fs := sMap fsDefault fsApplied s.qz.fs, fset := sMap (fun _ => (0, 0)) (fun x => (x.2, x.2)) s.qz.fset } }
  let s := [11, 12, 13, 14, 15].foldl (fun s k => applySlot s .quartz 0 k .dump) s
  if !en && regB s .quartz 0 11 0 then putBoth { s with qz := { s.qz with dumpTail := 0 } } .quartz 0 16 0xFF 0 else s

/-! ## Dumps (15 R451 to R453) -/

/-- Slots of the dump ring. -/
def dumpSlots (s : State) : Nat := 2 ^ regF s .quartz 0 11 10 7

/-- Ring address of the dump ring. -/
def dumpBase (s : State) : Nat :=
  regF s .quartz 0 13 19 0 * 2 ^ 12 + regF s .quartz 0 14 19 0 * 2 ^ 32 + regF s .quartz 0 15 11 0 * 2 ^ 52

/-- One snapshot at a boundary: written, or lost to a full ring or to a failed write. -/
def dumpWrite (s : State) (fchg dmaOk : Bool) : State :=
  let tail := s.qz.dumpTail
  if (tail + 1) % dumpSlots s = regF s .quartz 0 16 7 0 % dumpSlots s then
    flagDump (nextDseq { s with qz := { s.qz with lost := satAdd 0xFFFFF s.qz.lost 1, lostSince := satAdd 255 s.qz.lostSince 1 } }) 1
  else if dmaOk then
    let p := regF s .quartz 0 11 2 1
    let s := emit s (.dma p (dumpBase s + tail * 4416) (dumpRecord s false fchg))
    let s := nextDseq { s with qz := { s.qz with dumpTail := (tail + 1) % dumpSlots s, lostSince := 0 } }
    emit s (.msix p (regF s .quartz 0 11 6 3))
  else
    let s := flagDump (nextDseq { s with qz := { s.qz with lostSince := satAdd 255 s.qz.lostSince 1 } }) 0
    putBoth s .quartz 0 11 1 0

/-- DUMP_BOUNDARY: TIME is a multiple of the period in force while dumps run. What waits for the boundary takes effect first, and the record of
that boundary says whether a filter changed (log entry 29). -/
def dumpBoundaryF (s : State) (dmaOk : Bool) : State :=
  if s.pwr.st = .service && regB s .quartz 0 11 0 && decide (now s % (regF s .quartz 0 12 9 0 * 1000000) = 0) then
    let f := filterWaits s
    let s := applyDump s
    if regB s .quartz 0 11 0 then dumpWrite s f dmaOk else s
  else s

def execDumpBoundary (dmaOk : Bool) (s : State) : Host.Outcome State Fault Refusal := .next (dumpBoundaryF s dmaOk)

/-! ## Freeze, thaw, clear, read (15 R446, R449, R450) -/

/-- FREEZE: the channel counters go to the shadow. -/
def freezeQ (s : State) : State :=
  { s with qz := { s.qz with frozen := true, frzTime := now s, shadow := s.qz.ctr.filter (fun x => decide (96 ≤ x.1)) } }

/-- THAW. -/
def thawQ (s : State) : State := { s with qz := { s.qz with frozen := false, shadow := [] } }

/-- CLEAR. -/
def clearQ (s : State) : State := { s with qz := { s.qz with ctr := [], ovf := [], hist := [], histOvf := [] } }

/-- The value that CTR_LO and CTR_HI show of a counter. -/
def shownCtr (s : State) (ix : Nat) : Nat :=
  if 288 ≤ ix then 0 else if s.qz.frozen && decide (96 ≤ ix) then sGet 0 s.qz.shadow ix else sGet 0 s.qz.ctr ix

/-- The counter that CTR_SEL names. -/
def ctrSel (s : State) : Nat := regF s .quartz 0 7 8 0

end Sys2Proof.Machine
end

