-- ==== Sys2Proof/Machine/SpinelLink.lean ====
section
/-! DEFINITION. The Spinel link layer (10 R310 to R315): training, flits, replay and credits, heartbeats as sent (R318, R319) and the witness
(R320). -/

namespace Sys2Proof.Machine

/-! ## Flits (10 R312 to R314; one message per flit, log entry 15) -/

/-- Positions from `a` to `b` in the sequence modulo 1024. -/
def fDist (a b : Nat) : Nat := (b + 1024 - a) % 1024

/-- The outstanding flits after one acknowledged: those up to and including it leave. -/
def flitsAfter (fl : List (Nat × Nat × Nat)) (ack : Nat) : List (Nat × Nat × Nat) :=
  match fl with
  | [] => []
  | (q, _) :: _ => if fDist q ack < 512 then fl.filter (fun x => decide (fDist q ack < fDist q x.1)) else fl

/-- Replay every outstanding flit; one replayed 8 times without acknowledgement starts a retrain (10 R313). -/
def replayAll (s : State) : State :=
  match s.pair.flits with
  | [] => s
  | (q, _) :: _ =>
    let fl := s.pair.flits.map (fun x => (x.1, now s, x.2.2 + 1))
    let s := flagPair (emit { s with pair := { s.pair with flits := fl } } (.replay q)) 3
    if fl.any (fun x => decide (8 ≤ x.2.2)) then
      emit { s with pair := { s.pair with flits := fl.map (fun x => (x.1, x.2.1, 0)) } } .retrain
    else s

/-- FLIT_CRC_ERROR: the flit and every later one are discarded until the replay arrives; NAK names the last flit in order. -/
def flitCrcErrorF (s : State) : State :=
  if s.pair.linkUp then
    emit { s with pair := { s.pair with rxDiscard := true } } (.nak s.pair.rxSeq)
  else s

def execFlitCrcError (s : State) : Host.Outcome State Fault Refusal := .next (flitCrcErrorF s)

/-- REPLAY_TIMEOUT: the oldest outstanding flit has waited 4 µs. -/
def replayTimeoutF (s : State) : State :=
  match s.pair.flits with
  | [] => s
  | (_, t, _) :: _ => if s.pair.linkUp && decide (t + 4000 ≤ now s) then replayAll s else s

def execReplayTimeout (s : State) : Host.Outcome State Fault Refusal := .next (replayTimeoutF s)

/-- FLIT_NAK: the transmitter replays from ACKSEQ + 1. -/
def flitNakF (s : State) (ackseq : Nat) : State :=
  if s.pair.linkUp then
    settle (replayAll (pumpTx { s with pair := { s.pair with flits := flitsAfter s.pair.flits ackseq } }))
  else s

def execFlitNak (ackseq : Fin 1024) (s : State) : Host.Outcome State Fault Refusal := .next (flitNakF s ackseq.val)

/-- Credits return, up to the pool of each class (10 R314). -/
def addCredits (p : Pair) (mir req bulk : Nat) : Pair :=
  { p with mir := if 2048 < p.mir + mir then 2048 else p.mir + mir, req := if 2048 < p.req + req then 2048 else p.req + req,
           bulk := if 512 < p.bulk + bulk then 512 else p.bulk + bulk }

/-- FLIT_ACK: flits up to ACKSEQ are acknowledged, and the header's credits return; a MIR credit that came with its MIRROR_ACK is not
counted here again (log entry 15). Messages that waited leave. -/
def flitAckF (s : State) (ackseq mir req bulk : Nat) : State :=
  if s.pair.linkUp then
    settle (pumpTx { s with pair := addCredits { s.pair with flits := flitsAfter s.pair.flits ackseq } mir req bulk })
  else s

def execFlitAck (ackseq : Fin 1024) (mir req bulk : BitVec 8) (s : State) : Host.Outcome State Fault Refusal :=
  .next (flitAckF s ackseq.val mir.toNat req.toNat bulk.toNat)

/-- A message arrives in order; the receiver's slot of a credit class is free again as soon as the message is taken. -/
def arrive (s : State) (cls : Nat) : State :=
  let s := { s with pair := { s.pair with rxSeq := (s.pair.rxSeq + 1) % 1024, rxDiscard := false } }
  if cls = 1 then emit s (.cret 0 1 0) else if cls = 2 then emit s (.cret 0 0 1) else s

/-- The window of 10 µs that an instant lies in (10 R319; 01 R19). -/
def hbWindow (t : Nat) : Nat := t / 10000

/-- Whether the link is ACTIVE and the module in SERVICE: what changes a role or a line is taken then alone (01 R25; 04 R136). -/
def works (s : State) : Bool := s.pair.linkUp && decide (s.pwr.st = .service)

/-- Whether the link carries messages to this module: ACTIVE, and the module in SERVICE or draining. -/
def hears (s : State) : Bool :=
  s.pair.linkUp && (match s.pwr.st with
    | .service | .drain => true
    | .off | .standby | .boot | .halt => false)

/-! ## Heartbeats (10 R318, R319) -/

/-- Slots of the array in units of 32 lines. -/
def sizeUnits (s : State) : Nat := slotTotal s / 32
where
  /-- The sum of the quotas of the live dies. -/
  slotTotal (s : State) : Nat := sumOf (quotaOf s) (liveDies s)

/-- The fields of this module's HEARTBEAT. -/
def hbOf (s : State) : HbInfo :=
  { time := now s, epoch := pairEpoch s, role := roleCode s.pair.role, seat := s.pwr.seat, warm := s.pwr.warm, fill := cisternCount s / 32,
    drate := s.cist.leftPrev, hseq := s.pair.hseq, remain := (tilesOf s.pair.sync).length / 4096, size := sizeUnits s,
    wact := sumOf (fun p => if 0 < (portAt s p).wrOut then regF s .port p 25 7 4 else 0) (List.range 4) }

/-- HEARTBEAT_SEND: one in each window, ahead of any other message, in SERVICE with the link ACTIVE. -/
def heartbeatSendF (s : State) : State :=
  if works s && decide (s.pair.hbSent ≤ hbWindow (now s)) then
    sendNow { s with pair := { s.pair with hbSent := hbWindow (now s) + 1, hseq := (s.pair.hseq + 1) % 2 ^ 32 } } (.heartbeat (hbOf s))
  else s

def execHeartbeatSend (s : State) : Host.Outcome State Fault Refusal := .next (heartbeatSendF s)

/-! ## The witness (10 R320) -/

/-- Whether WIT_OUT toggles in a power state. -/
def witRuns (st : PState) : Bool :=
  match st with
  | .standby | .boot | .service => true
  | .drain | .halt | .off => false

/-- WIT_OUT_TOGGLE: every 2 µs. -/
def witOutToggleF (s : State) : State :=
  if witRuns s.pwr.st then { s with pwr := { s.pwr with witOut := !s.pwr.witOut } } else s

def execWitOutToggle (s : State) : Host.Outcome State Fault Refusal := .next (witOutToggleF s)

/-- WITNESS_LOST: TIME reaches e + 20 µs with no later edge. It changes no role. -/
def witnessLostF (s : State) : State :=
  if decide (s.pwr.st ≠ .off) && s.pair.witOk && decide (s.pair.witLast + 20000 ≤ now s) then
    noteEv (flagPair { s with pair := { s.pair with witOk := false } } 1) srcSpinel 0x0006 0 0 0
  else s

def execWitnessLost (s : State) : Host.Outcome State Fault Refusal := .next (witnessLostF s)

/-- WIT_IN_EDGE: an edge on WIT_IN. One at e + 20 µs or later comes after the declaration, and starts the witness anew (log entry 80). -/
def witInEdgeF (s : State) : State :=
  if s.pwr.st = .off then s
  else
    let s := witnessLostF s
    { s with pair := { s.pair with witOk := true, witLast := now s } }

def execWitInEdge (s : State) : Host.Outcome State Fault Refusal := .next (witInEdgeF s)

/-! ## Losing the link -/

/-- Flits, waiting messages and credits of a link that is gone. -/
def clearTx (s : State) : State :=
  { s with pair := { s.pair with flits := [], rxDiscard := false, owedMir := 0, owedReq := 0, owedBulk := 0, txq := [], mir := 0, req := 0, bulk := 0 } }

/-- The link is down. In PAIRED and RESYNC what was sent and what waits is kept for the replay, until the loss is declared; the heartbeat
count goes on (10 R313, R319). What a join had received and decided is void: the exchange begins again with the link (log entry 17). -/
def dropLink (s : State) : State :=
  let s := if s.pair.role = .joining then
      { s with pair := { s.pair with decided := false, isTarget := false, syncSrc := false, allInUse := false, sync := [], hand := .none } }
    else s
  let s := { s with pair := { s.pair with
    linkUp := false, lanes := 0, peerPage := if keepsTx s then s.pair.peerPage else [], peerOpen := if keepsTx s then s.pair.peerOpen else [],
    peerOpenEnd := s.pair.peerOpenEnd && keepsTx s, peerWells := [], peerWellsEnd := false, peerInuse := [], peerInuseEnd := false } }
  if keepsTx s then s else clearTx s

/-- SPINEL_LINK_DOWN: lanes fail or the cable leaves. With eight lanes or more the link trains again at a width it supports; otherwise it
is down. Roles change at the declaration of R319 alone (10 R310; 21 R564). -/
def spinelLinkDownF (s : State) (lanes : Nat) (cable : Bool) : State :=
  if !s.pair.linkUp then s
  else if cable || decide (lanes < 8) then dropLink s
  else emit { s with pair := { s.pair with lanes := if 16 ≤ lanes then 16 else 8 } } .retrain

def execSpinelLinkDown (lanes : Nat) (cable : Bool) (s : State) : Host.Outcome State Fault Refusal := .next (spinelLinkDownF s lanes cable)

end Sys2Proof.Machine
end

