-- ==== Sys2Proof/Machine/SpinelRole.lean ====
section
/-! DEFINITION. Changes of the pair role (10 R321 to R326, R334, R337): entry to SOLO with its guard and its held completions, entry to FENCED,
the declaration of link loss, and PROMOTE_NOTE. -/

namespace Sys2Proof.Machine

/-! ## Leaving PAIRED and RESYNC -/

/-- What ends with the pairing: repairs and lines asked of the peer. -/
def endRepairs (s : State) : State :=
  let s := poisonAsked s
  { s with pair := { s.pair with repairs := [] } }

/-- Add tiles to the resync bitmap. -/
def bitmapAdd (s : State) (tiles : List Nat) : State :=
  { s with pair := { s.pair with bitmap := tiles.foldl (fun m l => sSet false m l true) s.pair.bitmap } }

/-! ## SOLO (10 R324) -/

/-- The writes held by a handover go to their slices under the homes as they now are (10 R336). -/
def releaseHeld (s : State) : State :=
  let ws := s.pair.heldW
  ws.foldl (fun s w => routeWrite s w.port w.tag w.dln w.poison w.be w.data) { s with pair := { s.pair with heldW := [] } }

/-- A task goes on alone: what the peer was to treat is treated here (10 R324 step 3). -/
def aloneTask (t : Task) : Task :=
  let left := (unitsOf (descOf t.desc)).filter (fun u => (t.todo.contains u || t.theirs.contains u) && !t.inbox.any (fun x => x.1 = u))
  { t with todo := if t.op = 0x07 then t.todo else left, theirs := [], peerDone := true }

/-- Descriptors that waited for a state sequence number take one here. -/
def startWaiting (s : State) : State :=
  s.cmds.run.foldl (fun s r =>
    let o := (descOf r.desc).opcode
    if r.started && r.sseq.isNone && (o = 0x01 || o = 0x02 || o = 0x03 || o = 0x04 || o = 0x05 || o = 0x07 || o = 0x10 || o = 0x12 || o = 0x16) then
      let q := s.pair.sseq
      let s := { s with
        pair := { s.pair with sseq := (q + 1) % 2 ^ 40 }
        cmds := { s.cmds with run := modFirst (fun x => x.src = r.src && x.desc = r.desc) (fun x => { x with sseq := some q }) s.cmds.run } }
      startTask s q r.desc true r.waitLines
    else s) s

/-- The end of the guard: home for every tile; the kept copies of forwarded writes are applied, waiting commands go on (10 R324 step 3). -/
def takeAllHomes (s : State) : State :=
  let fs := s.pair.fwds
  let s := { s with
    pair := { s.pair with guardEnd := none, home := .all, fwds := [], hand := .none }
    cmds := { s.cmds with tasks := s.cmds.tasks.map aloneTask, early := [], earlyDone := [], hold := [] } }
  let s := fs.foldl (fun s f => sliceWrite s
    { dln := f.dln, org := .host f.port f.tag, poison := f.poison, pcause := 0, be := f.be, data := f.data,
      part := decide (f.be ≠ BitVec.allOnes 64), waited := false, ord := 0, fill := none }) s
  settle (startWaiting (releaseHeld s))

/-- The host completions of open writes wait for the pairing page (10 R324 step 4). -/
def heldOf (o : OpenW) : List (Port × Nat × Bool × Nat) :=
  match o with
  | .write _ dln (.host p t) part => [(p, t, part, ltnOf dln)]
  | .write .. | .tileOp .. | .entry .. => []

/-- Enter SOLO at this instant, with a guard in ns. `more`: tiles of a stored open list (PROMOTE); `lost`: the bitmap is recorded as lost. -/
def enterSolo (s : State) (guard : Nat) (more : List Nat) (lost : Bool) : State :=
  let keep : Bool := decide (s.pair.role = .resync)
  let tiles := s.pair.opens.map OpenW.ltn ++ s.pair.fwds.map (fun f => ltnOf f.dln) ++ (if keep then tilesOf s.pair.sync else []) ++ more
  let held := s.pair.opens.flatMap heldOf
  let s := endRepairs s
  let s := enterRole s .solo
  let s := { s with pair := { s.pair with
    bitmap := if keep then s.pair.bitmap else [], opens := [], soloDurable := false, soloHeld := s.pair.soloHeld ++ held, guardEnd := some (now s + guard),
    promoteWait := false, syncSrc := false, isTarget := false, sync := [], syncing := none, syncLines := [], fresh := [] } }
  let s := bitmapAdd s tiles
  let s := pgPut (pgPut s pgPairing 167 128 ((pairEpoch s + 1) % 2 ^ 40)) pgPairing 208 208 1
  let s := if lost then pgPut s pgPairing 210 210 1 else s
  let s := storePairing s true
  if guard = 0 then takeAllHomes s else s

/-- SOLO_GUARD_END: the guard's end comes (10 R324 step 3). -/
def soloGuardEndF (s : State) : State :=
  match s.pair.guardEnd with
  | some t => if s.pair.role = .solo && decide (t ≤ now s) then takeAllHomes s else s
  | none => s

def execSoloGuardEnd (s : State) : Host.Outcome State Fault Refusal := .next (soloGuardEndF s)

/-- Whether the pairing page's store is still on its way. -/
def pairingBusy (s : State) : Bool :=
  sGet false s.beryl.dirty pgPairing || s.beryl.prog.any (fun x => x.1 = pgPairing)

/-- SOLO_PAGE_DURABLE: the completions of the writes applied since S return (10 R324 step 4). -/
def soloPageDurableF (s : State) : State :=
  if s.pair.role = .solo && !s.pair.soloDurable && !pairingBusy s then
    let l := s.pair.soloHeld
    l.foldl (fun s x => finishHost s x.1 x.2.1 x.2.2.1 x.2.2.2) { s with pair := { s.pair with soloDurable := true, soloHeld := [] } }
  else s

def execSoloPageDurable (s : State) : Host.Outcome State Fault Refusal := .next (soloPageDurableF s)

/-! ## FENCED (10 R322, R326, R328) -/

/-- Every request admitted and not completed is answered (10 R326). Writes applied as home stay in the cache. -/
def fenceAll (s : State) : State :=
  let ls := s.pair.soloHeld ++ s.pair.opens.flatMap heldOf
  let s := answerAdmitted { s with pair := { s.pair with soloHeld := [], opens := [], hand := .none } }
  ls.foldl (fun s x => fenceHost s x.1 x.2.1 x.2.2.1 x.2.2.2) s

/-- Enter FENCED. From PAIRED and RESYNC the open list is written; from JOINING it stays (10 R328). Mirrored commands end (12 R394). -/
def enterFenced (s : State) (wait : Bool) : State :=
  let list : Bool := decide (s.pair.role = .paired) || decide (s.pair.role = .resync)
  let tiles := openTiles s
  let s := if list then endRepairs s else s
  let s := enterRole s .fenced
  let s := fenceAll s
  let s := if list then storePairing (writeOpenList s tiles true) false else s
  let s := { s with pair := { s.pair with
    home := .peer, promoteWait := wait, syncSrc := false, isTarget := false, sync := [], syncing := none, syncLines := [], fresh := [], guardEnd := none,
    decided := false } }
  tasksLost s

/-! ## Leaving on purpose (10 R321, R328) -/

/-- A LEAVE ends: the note goes if every MIRROR_WRITE is acknowledged, then the role is FENCED. -/
def leavePair (s : State) : State :=
  if s.pair.role = .paired then
    let s := sendNote s .leave
    enterFenced { s with pair := { s.pair with hand := .none } } false
  else s

/-- The LEAVE that waits, if any. -/
def leaveRun (s : State) : Option Running :=
  findP (fun r => r.started && decide ((descOf r.desc).opcode = 0x11) && decide ((descOf r.desc).arg0 % 8 = 1)) s.cmds.run

/-- A LEAVE goes on: when every MIRROR_WRITE is acknowledged, or 10 µs after it began. `prog` holds its first instant. -/
def leaveGoesOn (s : State) : State :=
  match leaveRun s with
  | none => s
  | some r =>
    if s.pair.role ≠ .paired then completeRun s r 0 (roleCode s.pair.role) []
    else if writesAcked s || decide (r.prog + 10000 ≤ now s) then
      let s := leavePair s
      completeRun s r 0 (roleCode s.pair.role) []
    else s

/-! ## Heartbeats as received, and link loss (10 R318 to R322) -/

/-- The guard of SOLO in ns (10 R324, R339). -/
def soloGuard (s : State) : Nat := (10 * regF s .spinel 0 2 10 7 - 5) * 1000

/-- The link is declared lost (10 R319, R322, R323, R337; log entry 96). -/
def declareLost (s : State) : State :=
  let s := clearTx (flagPair { s with pair := { s.pair with counting := none, seen := [], misses := 0 } } 0)
  match s.pair.role with
  | .paired =>
    if s.pair.note then enterSolo s 0 [] false
    else if !s.pwr.seat then enterSolo s (soloGuard s) [] false
    else enterFenced s (!s.pair.witOk)
  | .resync => if s.pair.syncSrc then enterSolo s (if s.pair.note then 0 else soloGuard s) [] false else enterFenced s (!s.pair.witOk)
  | .unpaired | .joining | .solo | .fenced => s

/-- HEARTBEAT: the window its arrival lies in has one; counting starts with the window of the first (10 R318, R319). -/
def heartbeatF (s : State) (h : HbInfo) : State :=
  if hears s then
    let s := arrive s 3
    let k := hbWindow (now s)
    let start : Option Nat := match s.pair.counting with
      | some c => some c
      | none => if s.pwr.st = .service then some k else none
    { s with pair := { s.pair with seen := k :: s.pair.seen.filter (fun x => x ≠ k), counting := start, peerHb := some h, note := false } }
  else s

def execHeartbeat (h : HbInfo) (s : State) : Host.Outcome State Fault Refusal := .next (heartbeatF s h)

/-- HB_WINDOW_END: the end of a window [10k, 10k + 10) µs, at a multiple of 10 µs; a HEARTBEAT that came at this instant belongs to the next
window (01 R19). HB_MISS empty ones in a row declare the link lost (10 R319, R339). A LEAVE whose 10 µs have passed goes on (10 R321). -/
def hbWindowEndF (s : State) : State :=
  if s.pwr.st = .service && decide (now s % 10000 = 0) then
    let p := s.pair
    let w := hbWindow (now s)
    let counts : Bool := match p.counting with
      | some c => decide (c < w)
      | none => false
    let s := { s with pair := { p with
      seen := p.seen.filter (fun x => decide (w ≤ x)), misses := if counts && !p.seen.contains (w - 1) then p.misses + 1 else 0 } }
    let s := if counts && decide (regF s .spinel 0 2 10 7 ≤ s.pair.misses) then declareLost s else s
    leaveGoesOn s
  else s

def execHbWindowEnd (s : State) : Host.Outcome State Fault Refusal := .next (hbWindowEndF s)

/-- PROMOTE_NOTE (10 R321 to R323, R337). -/
def promoteNoteF (s : State) : State :=
  if works s then
    let s := { arrive s 4 with pair := { (arrive s 4).pair with note := true } }
    match s.pair.role with
    | .paired => enterSolo s 0 [] false
    | .resync => if s.pair.syncSrc then enterSolo s 0 [] false else enterFenced s (!s.pair.witOk)
    | .unpaired | .joining | .solo | .fenced => s
  else s

def execPromoteNote (_cause : NoteCause) (s : State) : Host.Outcome State Fault Refusal := .next (promoteNoteF s)

end Sys2Proof.Machine
end

