-- ==== Sys2Proof/Machine/JoinOps.lean ====
section
/-! DEFINITION. Joins (10 R323, R327 to R331; 17 R490): the decision from the two pairing pages, the takeover of the wells, the sync set, and
what the completion of a join stores. -/

namespace Sys2Proof.Machine

/-! ## The peer's page -/

/-- Pairing page 0 of the peer, once its four parts have come. -/
def peerPageNat (s : State) : Option Nat :=
  if (List.range 4).all (fun i => s.pair.peerPage.any (fun x => x.1 = i)) then
    some (sumOf (fun i => match findP (fun x => decide (x.1 = i)) s.pair.peerPage with
      | some x => x.2.toNat * 2 ^ (512 * i)
      | none => 0) (List.range 4))
  else none

/-- The peer's open list: its first OPEN_COUNT entries (10 R327). -/
def peerList (s : State) (n : Nat) : List Nat :=
  (s.pair.peerOpen.filter (fun x => decide (x.1 < n) && decide (x.2 ≠ 0))).map (fun x => x.2 - 1)

/-- The tiles that are not UNWRITTEN, or hold a written line. -/
def usedTiles (s : State) : List Nat :=
  dedup ((s.tabs.map.filter (fun x => decide (x.2.st ≠ .unwritten))).map (·.1)
    ++ (s.cache.ways.filter (fun x => x.2.v && dirtyW x.2)).map (fun x => ltnOf x.2.dln) ++ s.cist.ents.map (fun e => ltnOf e.dln))

/-! ## Decision (10 R329) -/

/-- What the two pages decide. -/
inductive Decision where
  | refused
  | diverged
  /-- this module is the source; the set so far is `some` tiles, or all in use -/
  | join (source : Bool) (set : Option (List Nat))
deriving DecidableEq, Repr

/-- The decision of this module on the peer's page. -/
def decideJoin (s : State) (p : Nat) : Decision :=
  let me := pairPeer s
  let other := bitsOf p 127 0
  let advM := decide (pairCommon s < pairEpoch s)
  let advP := decide (bitsOf p 207 168 < bitsOf p 167 128)
  let pl := peerList s (bitsOf p 222 211)
  let seatA := !s.pwr.seat
  if s.pair.peerVariant ≠ s.sec.variant ∨ s.pair.peerSeat = s.pwr.seat then .refused
  else if (me ≠ 0 ∧ me ≠ s.pair.peerSerial.toNat) ∨ (other ≠ 0 ∧ other ≠ s.sec.serial.toNat) then .refused
  else if me = 0 ∧ other = 0 then
    if s.pwr.seat && s.tabs.wells.any (fun x => x.2.live) then .refused else .join seatA none
  else if advM && advP then .diverged
  else if advM then
    .join true (if pairBitmapLost s || !bitOf p 209 then none else some (dedup (tilesOf s.pair.bitmap ++ pl)))
  else if advP then .join false (if bitOf p 210 || !pairOpenValid s then none else some [])
  else .join seatA (if pairOpenValid s && bitOf p 209 then some (dedup (storedOpen s ++ pl)) else none)

/-! ## The end of JOINING -/

/-- What a join received is dropped. -/
def clearJoin (s : State) : State :=
  { s with pair := { s.pair with peerPage := [], peerOpen := [], peerOpenEnd := false, peerWells := [], peerWellsEnd := false, peerInuse := [],
                                 peerInuseEnd := false } }

/-- JOINING ends: step 9 may be reached, and every TWIN_CONTROL JOIN completes with the role as RESULT (12 R382, R383). -/
def joinEnded (s : State) : State :=
  let s := reachJoined { s with pair := { s.pair with joinCmd := false } }
  (s.cmds.run.filter (fun r => r.started && decide ((descOf r.desc).opcode = 0x11) && decide ((descOf r.desc).arg0 % 8 = 0))).foldl
    (fun s r => completeRun s r 0 (roleCode s.pair.role) []) s

/-- A join is refused, or no decision came in time (10 R323). -/
def joinFails (s : State) (div : Bool) : State :=
  let s := clearJoin (flagPair { s with pair := { s.pair with diverged := div, hand := .none } } 4)
  let s := if hasIdentity s then enterFenced s false
    else
      let s := enterRole s .unpaired
      { s with pair := { s.pair with home := .all, syncSrc := false, isTarget := false, sync := [] } }
  joinEnded s

/-- A join completes as PAIRED: OPEN_VALID, SOLO and BITMAP_LOST clear, COMMON and EPOCH take the larger EPOCH plus 1 (10 R328). A
module that became target by losing a tile only takes the role. -/
def pairUp (s : State) : State :=
  let fromJoin := s.pair.decided
  let wasJoining := decide (s.pair.role = .joining)
  let s := enterRole s .paired
  let s := if fromJoin then
      let pe := match peerPageNat s with
        | some p => bitsOf p 167 128
        | none => 0
      let e := ((if pairEpoch s < pe then pe else pairEpoch s) + 1) % 2 ^ 40
      let s := pgPut (pgPut s pgPairing 167 128 e) pgPairing 207 168 e
      let s := pgPut (pgPut s pgPairing 210 208 0) pgPairing 127 0 s.pair.peerSerial.toNat
      storePairing { s with mapu := { s.mapu with convertedLtns := [] } } false
    else s
  let s := clearJoin { s with pair := { s.pair with
    decided := false, syncSrc := false, isTarget := false, allInUse := false, sync := [], syncing := none, syncLines := [], fresh := [], bitmap := [],
    promoteWait := false, diverged := false } }
  if wasJoining then joinEnded s else s

/-! ## Exchange after the decision (10 R329, R330) -/

/-- Ranges of consecutive LTNs. -/
def rangesOf (l : List Nat) : List (Nat × Nat) :=
  (l.foldl (fun (a : List (Nat × Nat)) x => match a with
    | (b, n) :: r => if x = b + n then (b, n + 1) :: r else (x, 1) :: a
    | [] => [(x, 1)]) []).reverse

/-- JOIN INUSE messages of eight ranges each, and their END (10 R317, R329). -/
def sendRanges (s : State) : Nat → Nat → List (Nat × Nat) → State
  | 0, k, _ => send s (.joinEnd 2 k)
  | n + 1, k, l => match l with
    | [] => send s (.joinEnd 2 k)
    | _ => sendRanges (send s (.joinInuse (l.take 8))) n (k + 1) (l.drop 8)

/-- The source sends its well table, and the mirrored registers (10 R305, R329; log entry 18). -/
def sendWells (s : State) : State :=
  let s := (List.range 8).foldl (fun s i => send s (.joinWells i ((List.range 8).map (fun j => wellNo s (8 * i + j))))) s
  let s := send s (.joinEnd 1 8)
  let regs : List (Nat × Nat) := (List.range 4).flatMap (fun p => [
    ((2 + p) * 0x1000 + 24 * 8, (cellAt s .port p 24).pend.toNat), ((2 + p) * 0x1000 + 25 * 8, (cellAt s .port p 25).pend.toNat)])
    ++ [(0xB000 + 32 * 8, (cellAt s .mapctl 0 32).pend.toNat), (0xB000 + 33 * 8, (cellAt s .mapctl 0 33).pend.toNat)]
  regs.foldl (fun s x =>
    let (g, s) := takeMtag s
    send s (.stateCmd g none (regDesc x.1 x.2))) s

/-- Whether a range list holds a tile. -/
def inRanges (l : List (Nat × Nat)) (x : Nat) : Bool := l.any (fun r => decide (r.1 ≤ x) && decide (x < r.1 + r.2))

/-- Decide once the peer's page and open list are in (10 R329). The source sends its wells; the target waits for them. -/
def tryDecide (s : State) : State :=
  if s.pair.role ≠ .joining ∨ s.pwr.st ≠ .service ∨ s.pair.syncSrc = true ∨ s.pair.isTarget = true then s
  else match peerPageNat s with
    | none => s
    | some p =>
      if !s.pair.peerOpenEnd then s
      else match decideJoin s p with
        | .refused => joinFails s false
        | .diverged => joinFails s true
        | .join true set =>
          sendWells { s with pair := { s.pair with
            syncSrc := true, allInUse := set.isNone, sync := (set.getD []).foldl (fun m l => sSet false m l true) [] } }
        | .join false set => { s with pair := { s.pair with isTarget := true, allInUse := set.isNone } }

/-- The sync set is known: RESYNC, or for an empty set the handover of a join (10 R329, R336). -/
def beginSync (s : State) : State :=
  let s := { s with pair := { s.pair with decided := true } }
  if s.pair.sync.isEmpty then
    if s.pair.syncSrc then send { s with pair := { s.pair with hand := .giving false } } .doneReq else s
  else
    let s := enterRole s .resync
    let s := { s with pair := { s.pair with home := if s.pair.syncSrc then .all else .peer } }
    joinEnded s

/-- The source forms the set from its own, the target's ranges and its own tiles in use, and announces it to the target, which the manual
leaves without a message (10 R329, R330; log entry 17). -/
def formSet (s : State) : State :=
  if works s && s.pair.role = .joining && s.pair.syncSrc && !s.pair.decided && s.pair.peerInuseEnd then
    let rs := s.pair.peerInuse
    let own := usedTiles s
    let more := if s.pair.allInUse then own ++ rs.flatMap (fun r => (List.range r.2).map (· + r.1)) else own.filter (inRanges rs)
    let s := { s with pair := { s.pair with sync := more.foldl (fun m l => sSet false m l true) s.pair.sync } }
    let l := rangesOf (tilesOf s.pair.sync)
    beginSync (sendRanges s (l.length + 1) 0 l)
  else s

/-- The wells the source's table makes the target create anew, as tile ranges. -/
def createdRanges (s : State) (src : Store Well) : List (Nat × Nat) :=
  ((List.range 64).filter (fun i =>
    let w := sGet wellInit src i
    w.live && !((wellNo s i).live && sameRange w (wellNo s i)))).map (fun i =>
      let w := sGet wellInit src i
      (wellLo w, wellHi w - wellLo w))

/-- The target takes the wells, and answers with its tiles in use, or with the ranges of the wells it created (10 R329, R330; log
entry 17). -/
def takeOver (s : State) : State :=
  if works s && s.pair.role = .joining && s.pair.isTarget && s.pair.peerWellsEnd then
    let rs := createdRanges s s.pair.peerWells
    let s := takeWells { s with pair := { s.pair with peerWellsEnd := false } } s.pair.peerWells
    let l := if s.pair.allInUse then rangesOf (usedTiles s) ++ rs else rs
    sendRanges s (l.length + 1) 0 l
  else s

/-- The target takes the announced set. -/
def takeSet (s : State) : State :=
  if works s && s.pair.role = .joining && s.pair.isTarget && !s.pair.decided && s.pair.peerInuseEnd then
    let tiles := s.pair.peerInuse.flatMap (fun r => (List.range r.2).map (· + r.1))
    beginSync { s with pair := { s.pair with sync := tiles.foldl (fun m l => sSet false m l true) [] } }
  else s

end Sys2Proof.Machine
end

