-- ==== Sys2Proof/Machine/SpinelMsg.lean ====
section
/-! DEFINITION. Messages of the pair in service (10 R303 to R308, R317, R335, R338, R440): mirrored writes and their acknowledgements, forwarded
writes and reads, mirrored commands, and the repair of a line. -/

namespace Sys2Proof.Machine

/-! ## The end of an open write -/

/-- The open write or tile message of a tag is acknowledged: its origin completes (02 R59; 04 R105; 10 R306). -/
def ackOne (s : State) (g : Nat) : State :=
  match findP (fun o => decide (o.tag = g)) s.pair.opens with
  | none => s
  | some o =>
    let s := { s with pair := { s.pair with opens := dropFirst (fun o => decide (o.tag = g)) s.pair.opens } }
    match o with
    | .write _ dln (.host p t) part => finishOrHold s p t part (ltnOf dln)
    | .write .. | .tileOp .. | .entry .. => s

/-- The giver of a handover sends SWITCH once ACK has come and nothing is open; both take the homes of R302 (10 R336). -/
def switchHomes (s : State) (giver : Bool) : State :=
  let mode : HomeMode := if s.pair.role = .resync then (if giver then .peer else .all) else .bySeat
  let split (t : Task) : Task :=
    let us := (unitsOf (descOf t.desc)).filter (fun u => t.todo.contains u || t.theirs.contains u)
    let home (u : Nat) : Bool := match mode with
      | .bySeat => s.pwr.seat == seatOf (unitTile t.op u)
      | .all => true
      | .peer => false
    if t.op = 0x07 then { t with todo := t.todo.filter home } else { t with todo := us.filter home, theirs := us.filter (fun u => !home u) }
  let s := { s with
    pair := { s.pair with home := mode, hand := .none }
    cmds := { s.cmds with tasks := s.cmds.tasks.map split } }
  releaseHeld s

/-- Whether a write is one that this module applies as its line's home. -/
def homeWrite (w : WaitW) : Bool :=
  match w.org with
  | .host .. | .peer .. | .silent => true
  | .mirror .. | .internal | .repair _ => false

/-- Whether a write taken as home still waits: in its slice, for a fill or for a lock (10 R336 step 3). -/
def homeWaits (s : State) : Bool :=
  let any (l : List Waiter) : Bool := l.any (fun x => match x with
    | .partialWr w => homeWrite w
    | .host _ | .peerRd .. => false)
  s.cist.waits.any homeWrite || s.med.senses.any (fun x => any x.waiters) || s.cache.locks.any (fun x => any x.waiters)

/-- What follows once this side has given its homes up at the end of RESYNC or of a join: every write it took as home is applied and
acknowledged (10 R336 step 3). Roles change in SERVICE alone (01 R25). -/
def giveSwitch (s : State) : State :=
  match s.pair.hand with
  | .giving true => if s.pair.opens.isEmpty && !homeWaits s && decide (s.pwr.st = .service) then switchHomes (send (afterSync s) .doneSwitch) true else s
  | .giving false | .none | .taking | .leaving => s
where
  /-- The source of a resync is PAIRED from SWITCH on; a target by loss stays in RESYNC. -/
  afterSync (s : State) : State := if s.pair.role = .resync && s.pair.syncSrc then toPaired s else if s.pair.role = .joining then toPaired s else s
  /-- The role becomes PAIRED: the pairing page of a completed join is stored (10 R328). -/
  toPaired (s : State) : State := pairUp s

/-- What waits for acknowledgements: a handover, a LEAVE, the Drain. -/
def afterAcks (s : State) : State :=
  let s := leaveGoesOn (giveSwitch s)
  match s.pwr.st, s.pwr.drain with
  | .drain, some d =>
    let s := if hasIdentity s && !fencedRole s.pair.role && !d.recorded then writeOpenList s (openTiles s) (!d.lost) else s
    if writesAcked s && !step4Begun s then
      drainStep4 (if decide (now s ≤ d.start + 10000) then sendNote s (noteOf d.thermal) else s)
    else s
  | _, _ => s

/-- MIRROR_ACK: the tags it acknowledges; their MIR credits return with it unless the peer withholds them. -/
def mirrorAckF (s : State) (mtags : List Nat) (withheld : Bool) : State :=
  if hears s then
    let s := mtags.foldl ackOne (arrive s 3)
    let s := if withheld then s else { s with pair := addCredits s.pair mtags.length 0 0 }
    settle (pumpTx (afterAcks s))
  else s

def execMirrorAck (mtags : List Nat) (withheld : Bool) (s : State) : Host.Outcome State Fault Refusal := .next (mirrorAckF s mtags withheld)

/-! ## Mirrored and forwarded writes -/

/-- Whether a line written now counts as written since its tile's ENTRY (10 R333 rule 3). -/
def noteFresh (s : State) (dln : Nat) : State :=
  if s.pair.isTarget && sGet false s.pair.sync (ltnOf dln) then { s with pair := { s.pair with fresh := dln :: s.pair.fresh } } else s

/-- MIRROR_WRITE: installed as a write of its own line, in order, and acknowledged then (04 R135; 10 R306); in a SANITIZE nothing is stored (12
R386; log entry 83). -/
def mirrorWriteF (s : State) (mtag : Nat) (p : Bool) (pcause : BitVec 2) (port : Port) (dln : Nat) (ftag : Option Nat) (waited : Bool) (data : Line) :
    State :=
  if works s && mirroring s && s.cmds.sanitizing then ackMir (arrive s 0) mtag
  else if works s && mirroring s then
    settle (sliceWrite (noteFresh (arrive s 0) dln)
      { dln := dln, org := .mirror mtag port ftag waited, poison := p, pcause := pcause, be := BitVec.allOnes 64, data := data, part := false,
        waited := false, ord := 0, fill := none })
  else s

def execMirrorWrite (mtag : Nat) (p : Bool) (pcause : BitVec 2) (port : Port) (dln : Nat) (ftag : Option Nat) (waited : Bool) (data : Line)
    (s : State) : Host.Outcome State Fault Refusal := .next (mirrorWriteF s mtag p pcause port dln ftag waited data)

/-- Whether a forwarded write is applied here: this module is the home now (10 R307). -/
def fwdHere (s : State) (dln : Nat) : Bool := mirroring s && isHome s (ltnOf dln)

/-- A forwarded write; at a module that is not the home it is discarded, as in a SANITIZE, where its own port answers it (12 R386). -/
def homeFwdWr (s : State) (mtag : Nat) (port : Port) (dln : Nat) (poison : Bool) (be : Enables) (data : Line) : State :=
  if works s then
    let s := arrive s 1
    if fwdHere s dln && !s.cmds.sanitizing then
      settle (sliceWrite s { dln := dln, org := .peer mtag port, poison := poison, pcause := 0, be := be, data := data,
                             part := decide (be ≠ BitVec.allOnes 64), waited := false, ord := 0, fill := none })
    else s
  else s

/-- HOME_FWD WR_FULL. -/
def execHomeFwdWrFull (mtag : Nat) (port : Port) (dln : Nat) (poison : Bool) (data : Line) (s : State) : Host.Outcome State Fault Refusal :=
  .next (homeFwdWr s mtag port dln poison (BitVec.allOnes 64) data)

/-- HOME_FWD WR_PART: merged at the home alone. -/
def execHomeFwdWrPart (mtag : Nat) (port : Port) (dln : Nat) (poison : Bool) (be : Enables) (data : Line) (s : State) :
    Host.Outcome State Fault Refusal := .next (homeFwdWr s mtag port dln poison be data)

/-- HOME_FWD REFUSE: the home orders the refusal as a poisoned full-line write, unless a later write to the line stands (08 R269). Its write
is later where the peer had not installed it when it sent the refusal: it is open or waits still, or `overtaken`: its acknowledgement came
before the refusal sent ahead of it, since RSP may overtake REQ (10 R315; log entry 55). -/
def homeFwdRefuseF (s : State) (dln : Nat) (overtaken : Bool) : State :=
  if works s then
    let s := arrive s 1
    let later := overtaken || s.pair.opens.any (fun o => match o with
      | .write _ d _ _ => decide (d = dln)
      | .tileOp .. | .entry .. => false) || s.cist.waits.any (fun w => decide (w.dln = dln))
    if fwdHere s dln && !later then settle (sliceWrite s (ownWrite dln .silent (poisonLine 2))) else s
  else s

def execHomeFwdRefuse (_mtag dln : Nat) (overtaken : Bool) (s : State) : Host.Outcome State Fault Refusal :=
  .next (homeFwdRefuseF s dln overtaken)

/-- HOME_FWD RD: the source serves it as a local demand read (10 R335); none is admitted outside SERVICE (03 R88). -/
def homeFwdRdF (s : State) (mtag : Nat) (port : Port) (dln : Nat) : State :=
  if works s then
    let s := arrive s 1
    if s.pair.role = .resync && s.pair.syncSrc then serveRead s dln (.peerRd mtag port) { lat := 0, arr := .none, mapUe := false } else s
  else s

def execHomeFwdRd (mtag : Nat) (port : Port) (dln : Nat) (s : State) : Host.Outcome State Fault Refusal := .next (homeFwdRdF s mtag port dln)

/-- HOME_FWD RD_DATA: the port answers with the line, the FORWARD flag set (10 R335; 03 R99). -/
def homeFwdRdDataF (s : State) (mtag : Nat) (p : Bool) (data : Line) (lat : Nat) : State :=
  if hears s then
    let s := arrive s 3
    match findP (fun r => decide (r.mtag = mtag)) s.pair.fwdRds with
    | none => s
    | some r =>
      let s := { s with pair := { s.pair with fwdRds := dropFirst (fun r => decide (r.mtag = mtag)) s.pair.fwdRds } }
      answerHost s r.rd.port r.rd.tag r.rd.cmp r.rd.bound (some r.dln) { data := data, p := p, pcause := 0 } lat { flags0 with forward := true } .miss
  else s

def execHomeFwdRdData (mtag : Nat) (_ue p : Bool) (data : Line) (lat : Nat) (s : State) : Host.Outcome State Fault Refusal :=
  .next (homeFwdRdDataF s mtag p data lat)

/-! ## Mirrored commands (10 R304, R305) -/

/-- Change a running descriptor. -/
def modRun (s : State) (r : Running) (f : Running → Running) : State :=
  { s with cmds := { s.cmds with run := modFirst (fun x => x.src = r.src && x.desc = r.desc) f s.cmds.run } }

/-- Seat A gives the next number to a command and sends it to the peer; `mine` names the descriptor here, if any. -/
def sequence (s : State) (desc : BitVec 512) (r : Option Running) (mine : Bool) (ue : List Nat) : State :=
  let q := s.pair.sseq
  let s := { s with pair := { s.pair with sseq := (q + 1) % 2 ^ 40 } }
  let s := match r with
    | some r => modRun s r (fun x => { x with sseq := some q })
    | none => s
  let s := if mirroring s then
      let (g, s) := takeMtag s
      send s (.stateCmd g (some q) desc)
    else s
  startTask s q desc mine ue

/-- Whether the peer gives the numbers: this module is seat B of a pair that mirrors. -/
def peerSequences (s : State) : Bool := mirroring s && s.pwr.seat

/-- Issue a command that is mirrored while paired: seat B sends it to seat A first (10 R304). -/
def issue (s : State) (desc : BitVec 512) (r : Option Running) (ue : List Nat) : State :=
  if peerSequences s then
    let (g, s) := takeMtag s
    let s := match r with
      | some r => modRun s r (fun x => { x with waitLines := ue })
      | none => s
    send s (.stateCmd g none desc)
  else sequence s desc r true ue

/-- STATE_OP CMD: at seat A a command of the peer takes its number; at seat B the command of that number starts (10 R304). -/
def stateOpCmdF (s : State) (sseq : Nat) (desc : BitVec 512) (ue : List Nat) : State :=
  if works s then
    let s := arrive s 1
    if !mirroring s then
      (if s.pair.role = .joining && s.pair.isTarget && decide ((descOf desc).opcode = opReg) then applyRegTask s (descOf desc) else s)
    else if !s.pwr.seat then settle (sequence s desc none false ue)
    else
      let own := findP (fun r => r.started && r.sseq.isNone && decide (r.desc = desc)) s.cmds.run
      let s := { s with pair := { s.pair with sseq := (sseq + 1) % 2 ^ 40 } }
      let s := match own with
        | some r => modRun s r (fun x => { x with sseq := some sseq })
        | none => s
      settle (startTask s sseq desc own.isSome ue)
  else s

def execStateOpCmd (_mtag sseq : Nat) (desc : BitVec 512) (ue : List Nat) (s : State) : Host.Outcome State Fault Refusal :=
  .next (stateOpCmdF s sseq desc ue)

/-- STATE_OP TILE: the peer has applied a command's effect on a tile; it is applied here in order with the mirrored writes (10 R304). -/
def stateOpTileF (s : State) (mtag ltn sseq : Nat) : State :=
  if works s && mirroring s then
    let s := arrive s 0
    match findP (fun t => decide (t.sseq % 2 ^ 26 = sseq % 2 ^ 26)) s.cmds.tasks with
    | some t => settle (modTask s t.sseq (fun t => { t with inbox := t.inbox ++ [(ltn, mtag)] }))
    | none => settle { s with cmds := { s.cmds with early := s.cmds.early ++ [(mtag, ltn, sseq)] } }
  else s

def execStateOpTile (mtag ltn sseq : Nat) (s : State) : Host.Outcome State Fault Refusal := .next (stateOpTileF s mtag ltn sseq)

/-- STATE_OP DONE: the peer has finished a command (10 R304). -/
def stateOpDoneF (s : State) (sseq status : Nat) : State :=
  if works s && mirroring s then
    let s := arrive s 3
    match taskAt s sseq with
    | some _ => settle (modTask s sseq (fun t => peerEnds t status))
    | none => { s with cmds := { s.cmds with earlyDone := s.cmds.earlyDone ++ [(sseq, status)] } }
  else s

def execStateOpDone (sseq status : Nat) (s : State) : Host.Outcome State Fault Refusal := .next (stateOpDoneF s sseq status)

/-! ## Reading one line for the peer (10 R333, R338) -/

/-- What a read through the cache, the Cistern and the medium finds; nothing is allocated or prefetched. -/
inductive Raw where
  | line (v : LineV)
  | never
  | bad
deriving DecidableEq, Repr

/-- Read one line so. The arrays of a way that holds it show their errors (05 R155). -/
def readRaw (s : State) (dln : Nat) (res retry : SenseRes) : State × Raw :=
  let ltn := ltnOf dln
  let s := checkLine s dln
  match findWay s dln, findCis s dln with
  | some (_, w), _ => (s, .line { data := w.data, p := w.p, pcause := w.pcause })
  | none, some e => (s, .line { data := e.data, p := e.p, pcause := e.pcause })
  | none, none =>
    let s := if pageHere s (pageOf ltn) then s else convertEntry s ltn
    match mapAns s dln with
    | .const d => (s, .line (cleanLine d))
    | .refused => (s, .line (poisonLine 2))
    | .unwritten => (s, .never)
    | .lost => (s, .bad)
    | .medium =>
      let e := entryAt s ltn
      let ptn := e.ptn.toNat
      let fs := fslotOf (lineOf dln) e.rot
      let (s, f, again) := senseBoth s ptn fs res retry
      let s := account s ptn fs (some ltn) { src := 0, attr := attrInt ltn 7, dln := some dln, fill := false } f again
      let s := match f with
        | .interrupted => rewriteInterrupted s ltn ptn fs e.gen
        | .never | .line .. | .wZero | .tagFault | .uncorr | .again => s
      (s, match f with
        | .line d p c _ => .line { data := d, p := p, pcause := c }
        | .never => .never
        | .interrupted | .wZero | .tagFault | .uncorr | .again => .bad)

/-- RESYNC_TILE LINE_REQ: OK only if the copy decodes without error (10 R338). -/
def lineReqF (s : State) (mtag dln : Nat) (res retry : SenseRes) : State :=
  if works s then
    let (s, r) := readRaw (arrive s 1) dln res retry
    match r with
    | .line v => send s (.lineRsp mtag dln true v.p v.pcause v.data)
    | .never | .bad => send s (.lineRsp mtag dln false false 0 0)
  else s

def execLineReq (mtag dln : Nat) (res retry : SenseRes) (s : State) : Host.Outcome State Fault Refusal := .next (lineReqF s mtag dln res retry)

/-- RESYNC_TILE LINE_RSP: for a move that waits for the line, or the repair of a frame that has not been written since (02 R72; 10 R338). -/
def lineRspF (s : State) (mtag dln : Nat) (ok p : Bool) (pcause : BitVec 2) (data : Line) : State :=
  if works s then
    let s := arrive s 3
    let v : LineV := { data := data, p := p, pcause := pcause }
    match findP (fun x => decide (x.1 = mtag)) s.pair.repairs with
    | some x =>
      let s := { s with pair := { s.pair with repairs := dropFirst (fun x => decide (x.1 = mtag)) s.pair.repairs } }
      if ok && !x.2.2 && decide (s.pair.role = .paired) then settle (sliceWrite s (ownWrite x.2.1 (.repair mtag) v)) else s
    | none => match moveOf s (ltnOf dln) with
      | some m =>
        if m.asked.contains (lineOf dln) then
          let v := if ok then v else poisonLine 1
          settle (gotLine s m.ltn (lineOf dln) v.data v.p v.pcause)
        else s
      | none => s
  else s

def execLineRsp (mtag dln : Nat) (ok p : Bool) (pcause : BitVec 2) (data : Line) (s : State) : Host.Outcome State Fault Refusal :=
  .next (lineRspF s mtag dln ok p pcause data)

/-- AGATE_COPY: the peer's records, with PEER = 1, the sender's TIME, and a SEQ of this module (14 R440). Each opens a record of its
own and keeps the REPEAT sent (log entry 88). -/
def agateCopyF (s : State) (recs : List AgRec) : State :=
  if hears s then
    recs.foldl (fun s r =>
      let seq := s.ag.next
      let s := lostRec (agAdd.agOpen s { r with peer := true }).1 { r with seq := seq }
      { s with ag := { s.ag with peerCnt := satAdd 0xFFFFF s.ag.peerCnt 1 } }) (arrive s 2)
  else s

def execAgateCopy (recs : List AgRec) (s : State) : Host.Outcome State Fault Refusal := .next (agateCopyF s recs)

end Sys2Proof.Machine
end

