-- ==== Sys2Proof/Machine/Rings.lean ====
section
/-! DEFINITION. Command rings (12 R366 to R377, R387, R391 to R397), violations of the lock (13 R424) and the checks that every descriptor
meets at its start (12 R377 to R380, R395). -/

namespace Sys2Proof.Machine

/-! ## Violations (13 R424; 12 R380) -/

/-- A violation: bit 0 LOCK_VIOL, 1 EXPERT_VIOL, 2 ACC_ERR. The first latches REQ and VIOL_ADDR; a later one sets OVF too. -/
def violation (s : State) (bit req addr : Nat) : State :=
  match s.req.viol with
  | none => setRC { s with req := { s.req with viol := some (req, addr % 2 ^ 20) } } .global 0 16 (2 ^ bit + req * 2 ^ 4)
  | some _ => setRC s .global 0 16 (2 ^ bit ||| 8)

/-- Whether a requester's unlock is armed: window [t, t + 100 ms) (13 R415). -/
def isArmed (s : State) (r : Nat) : Bool := decide (now s + 1 < sGet 0 s.req.armed r)

/-- Disarm a requester's unlock. -/
def disarm (s : State) (r : Nat) : State := { s with req := { s.req with armed := sSet 0 s.req.armed r 0 } }

/-! ## Rings -/

def cmdSize (s : State) (p : Nat) : Nat := 2 ^ regF s .ring p 6 3 0

/-- Base of the completion ring. -/
def cplBase (s : State) (p : Nat) : Nat :=
  regF s .ring p 3 19 0 * 2 ^ 12 + regF s .ring p 4 19 0 * 2 ^ 32 + regF s .ring p 5 11 0 * 2 ^ 52

/-- Running limit (12 R370). -/
def maxRun (s : State) (p : Nat) : Nat := if regF s .ring p 7 14 9 = 0 then 64 else regF s .ring p 7 14 9

/-- Descriptors of a source whose completion has not been written. -/
def runCount (s : State) (src : Nat) : Nat :=
  countP (fun r => decide (r.src = src) || decide (r.src = 8 + src)) s.cmds.run + (if src < 4 then (ringAt s src).wait.length else 0)

/-- Whether a tag is outstanding at a source (12 R374). -/
def tagBusy (s : State) (src : Nat) (tag : BitVec 16) : Bool :=
  s.cmds.run.any (fun r => decide (r.src = src) && decide ((descOf r.desc).tag = tag))
    || (decide (src < 4) && (ringAt s src).wait.any (fun c => decide (c.tag = tag)))

/-- EN changes from 0 to 1 (12 R369). -/
def ringOn (s : State) (p : Nat) : State :=
  modRing s p (fun r => { r with head := 0, tail := 0, cplHead := 0, cplTail := 0, ph := true, enabled := true })

/-- EN becomes 0: no further fetch; running descriptors finish (12 R391). -/
def ringOff (s : State) (p : Nat) : State := modRing s p (fun r => { r with enabled := false })

/-- What a change of the active EN does. -/
def ringEdge (s : State) (p : Nat) (was : Bool) : State :=
  let is := regB s .ring p 7 0
  if is && !was then ringOn s p else if !is && was then ringOff s p else s

/-- A port quiet point of a ring: bases and sizes only where EN in force is 0, then RING_CTL (12 R369). -/
def ringQuiet (s : State) (p : Nat) : State :=
  let was := regB s .ring p 7 0
  let s := if was then s else [0, 1, 2, 3, 4, 5, 6].foldl (fun s k => applySlot s .ring p k .quiet) s
  ringEdge (applySlot s .ring p 7 .quiet) p was

/-- RING_ENABLE: a quiet point at which a pending EN of 1 becomes active. -/
def ringEnableF (s : State) (p : Nat) : State :=
  if domOn s (2 + p) && !regB s .ring p 7 0 && bitOf (cellAt s .ring p 7).pend.toNat 0 then ringQuiet s p else s

def execRingEnable (p : Port) (s : State) : Host.Outcome State Fault Refusal := .next (ringEnableF s p.val)

/-- RING_DISABLE: a quiet point at which a pending EN of 0 becomes active. -/
def ringDisableF (s : State) (p : Nat) : State :=
  if domOn s (2 + p) && regB s .ring p 7 0 && !bitOf (cellAt s .ring p 7).pend.toNat 0 then ringQuiet s p else s

def execRingDisable (p : Port) (s : State) : Host.Outcome State Fault Refusal := .next (ringDisableF s p.val)

/-- A failed fetch or completion write: its flag, ERR_VEC and a record; EN becomes 0, and completions are discarded (12 R397). -/
def ringError (s : State) (p bit : Nat) : State :=
  let s := putBoth (flagRing s p bit) .ring p 7 1 0
  let s := modRing (orphan s p) p (fun r => { r with enabled := false, wait := [] })
  noteEv (emit s (.msix (Fin.ofNat 4 p) (regF s .ring p 7 4 1))) (srcRing p) 0x0008 0 0 0

/-- Write CMD_TAIL, the doorbell: an index at or above the size is ignored (12 R367). -/
def writeTail (s : State) (p m v : Nat) : State :=
  let t := mergeBits (ringAt s p).tail (m &&& 0xFFF) v
  if cmdSize s p ≤ t then flagRing s p 3 else modRing s p (fun r => { r with tail := t })

/-- Write CPL_HEAD (12 R368). -/
def writeCplHead (s : State) (p m v : Nat) : State := modRing s p (fun r => { r with cplHead := mergeBits r.cplHead (m &&& 0xFFF) v })

/-! ## Descriptors in (12 R367, R374, R377, R393, R395) -/

/-- Whether an opcode is in 12 R382. -/
def opKnown (op : Nat) : Bool := decide (1 ≤ op) && decide (op ≤ 0x18)

/-- Whether a SANITIZE runs here. -/
def sanBusy (s : State) : Bool :=
  s.cmds.sanitizing || s.cmds.run.any (fun r => decide ((descOf r.desc).opcode = 0x10)) || s.cmds.tasks.any (fun t => decide (t.op = 0x10))

/-- A descriptor arrives: TAG_BUSY and BAD_OPCODE complete it at once, as BUSY does while a SANITIZE runs; else it is running. -/
def takeDesc (s : State) (src : Nat) (desc : BitVec 512) (payload : List (BitVec 8)) : State :=
  let d := descOf desc
  if tagBusy s src d.tag then postCpl s src d 3 0 []
  else if !opKnown d.opcode then postCpl s src d 1 0 []
  else if sanBusy s && !sanFree d.opcode then postCpl s src d 8 0 []
  else
    let r : Running :=
      { src := src, desc := desc, payload := payload, started := false, ord := 0, prog := 0, waitJ := none, waitLines := [], sseq := none,
        waitStore := none, status := 0, result := 0 }
    { s with cmds := { s.cmds with run := s.cmds.run ++ [r] } }

/-- DESCRIPTOR_FETCH. -/
def descriptorFetchF (s : State) (p : Nat) (desc : Option (BitVec 512)) : State :=
  let r := ringAt s p
  let up : Bool := match s.pwr.st with
    | .boot | .service => true
    | .off | .standby | .drain | .halt => false
  if up && domOn s (2 + p) && r.enabled && decide (r.head ≠ r.tail) && decide (runCount s p < maxRun s p) then
    match desc with
    | none => ringError s p 1
    | some d => takeDesc (modRing s p (fun r => { r with head := (r.head + 1) % cmdSize s p })) p d []
  else s

def execDescriptorFetch (p : Port) (desc : Option (BitVec 512)) (s : State) : Host.Outcome State Fault Refusal :=
  .next (descriptorFetchF s p.val desc)

/-- SIDEBAND_DESCRIPTOR: in STANDBY and HALT only EVENT_READ and HEALTH_REPORT run; in DRAIN none is taken (11 R363; 12 R393, R395; log entry
32). -/
def sidebandDescriptorF (s : State) (desc : BitVec 512) (payload : List (BitVec 8)) : State :=
  let d := descOf desc
  match s.pwr.st with
  | .off | .drain => s
  | .standby | .halt =>
    if tagBusy s 4 d.tag then postCpl s 4 d 3 0 []
    else if !opKnown d.opcode then postCpl s 4 d 1 0 []
    else if d.opcode = 0x0A ∨ d.opcode = 0x13 then takeDesc s 4 desc payload
    else postCpl s 4 d 8 0 []
  | .boot | .service => if 64 ≤ runCount s 4 then postCpl s 4 d 8 0 [] else takeDesc s 4 desc payload

def execSidebandDescriptor (desc : BitVec 512) (payload : List (BitVec 8)) (s : State) : Host.Outcome State Fault Refusal :=
  .next (sidebandDescriptorF s desc payload)

/-! ## Completions out (12 R368, R371, R373) -/

/-- The 16 bytes of a completion. -/
def cplBits (c : Cpl) (head : Nat) (ph : Bool) : Nat :=
  c.tag.toNat + c.status % 256 * 2 ^ 16 + c.opcode % 256 * 2 ^ 24 + head % 4096 * 2 ^ 32 + c.result % 2 ^ 63 * 2 ^ 64 + b2n ph * 2 ^ 127

/-- Make a vector pending, and send its message at once without coalescing (12 R371). -/
def raiseVec (s : State) (p : Port) (vec : Nat) : State :=
  let c := regF s .ring p.val 7 8 5
  if c = 0 then emit s (.msix p vec)
  else if sGet 0 (ringAt s p.val).vecs vec = 0 then
    modRing s p.val (fun r => { r with vecs := sSet 0 r.vecs vec (now s + c * 1000 + 1) })
  else s

/-- COMPLETION_WRITE: the completion that waits longest is written, if the ring has room. -/
def completionWriteF (s : State) (p : Port) (dmaOk : Bool) : State :=
  let r := ringAt s p.val
  let up : Bool := domOn s (2 + p.val) && (match s.pwr.st with
    | .boot | .service => true
    | .off | .standby | .drain | .halt => false)
  match r.wait with
  | [] => s
  | c :: rest =>
    if !up then s
    else
      let n := cplSize s p.val
      let t := (r.cplTail + 1) % n
      if t = r.cplHead then flagRing s p.val 4
      else if !dmaOk then ringError s p.val 2
      else
        let s := emit s (.dma p.val (cplBase s p.val + r.cplTail * 16) (leBytes 16 (cplBits c r.head r.ph)))
        let s := modRing s p.val (fun r => { r with wait := rest, cplTail := t, ph := if t = 0 then !r.ph else r.ph })
        if c.noirq then s else raiseVec s p c.vec

def execCompletionWrite (p : Port) (dmaOk : Bool) (s : State) : Host.Outcome State Fault Refusal := .next (completionWriteF s p dmaOk)

/-- COAL_WINDOW_END: the window of a pending vector has passed. -/
def coalWindowEndF (s : State) (p : Port) (vec : Nat) : State :=
  let t := sGet 0 (ringAt s p.val).vecs vec
  if decide (t ≠ 0) && decide (t ≤ now s + 1) then
    emit (modRing s p.val (fun r => { r with vecs := sSet 0 r.vecs vec 0 })) (.msix p vec)
  else s

def execCoalWindowEnd (p : Port) (vec : Fin 16) (s : State) : Host.Outcome State Fault Refusal := .next (coalWindowEndF s p vec.val)

/-! ## The start of a descriptor (12 R377, R387, R395) -/

/-- Whether descriptor `r` comes from a source that a row names; a descriptor whose completion is discarded is named by its port. -/
def fromSrc (src : Nat) (r : Running) : Bool := decide (r.src = src) || decide (r.src = 8 + src)

/-- The running descriptor that a row names: its source, tag, opcode and what its operands select. -/
def runOf (s : State) (src : Nat) (tag : BitVec 16) (op : Nat) (sel : Desc → Bool) : Option Running :=
  findP (fun r => fromSrc src r && decide ((descOf r.desc).tag = tag) && decide ((descOf r.desc).opcode = op) && sel (descOf r.desc)) s.cmds.run

/-- The descriptors fetched before `r` from its source. -/
def earlier (r : Running) : List Running → List Running
  | [] => []
  | x :: l => if x.src = r.src ∧ x.desc = r.desc then [] else if fromSrc (r.src % 8) x then x :: earlier r l else earlier r l

/-- Whether a descriptor may take its start instant: descriptors of a source start in order, and FENCE waits for every earlier completion. -/
def mayStart (s : State) (r : Running) : Bool :=
  let es := earlier r s.cmds.run
  es.all (fun x => x.started) && (!(descOf r.desc).fence || (es.isEmpty && (decide (4 ≤ r.src) || (ringAt s r.src).wait.isEmpty)))

/-- Where a command is accepted (12 R383). -/
inductive Accept where
  /-- SERVICE -/
  | service
  /-- SERVICE with a pair role other than FENCED and JOINING -/
  | active
  /-- BOOT and SERVICE -/
  | boot
  /-- BOOT, SERVICE, and STANDBY and HALT over the sideband -/
  | always
deriving DecidableEq, Repr

/-- Whether the state permits a command. -/
def accepted (s : State) (a : Accept) (src : Nat) : Bool :=
  match a with
  | .service => decide (s.pwr.st = .service)
  | .active => decide (s.pwr.st = .service) && !fencedRole s.pair.role
  | .boot => decide (s.pwr.st = .boot) || decide (s.pwr.st = .service)
  | .always => decide (s.pwr.st = .boot) || decide (s.pwr.st = .service)
      || (decide (src = 4) && (decide (s.pwr.st = .standby) || decide (s.pwr.st = .halt)))

/-- What every descriptor of a command is checked for, in the order of 12 R377. -/
structure Checks where
  badField : Bool
  sbOnly : Bool
  accept : Accept
  /-- the command's own conditions on the state, of the WRONG_STATE check -/
  wrongState : Bool
  /-- an Expert value without its EXPERT_EN bit -/
  expert : Bool
  /-- the command needs an armed unlock -/
  unlock : Bool
  notOwner : Bool
  /-- status of the command's own conditions -/
  own : Nat

/-- The status of the first failing check; 0 where none fails. -/
def checkStatus (s : State) (src : Nat) (c : Checks) : Nat :=
  if c.badField then 2
  else if c.sbOnly && src ≠ 4 then 0x12
  else if !accepted s c.accept src || c.wrongState then 6
  else if c.expert || (c.unlock && !isArmed s (src % 8)) then 5
  else if c.notOwner then 4
  else c.own

/-- Start a descriptor: refused with the status of its first failing check and no other effect, or started (12 R377, R380). -/
def startRun (s : State) (r : Running) (c : Checks) (f : State → Running → Desc → State) : State :=
  let d := descOf r.desc
  let x := checkStatus s r.src c
  if x = 0 then
    let s := if c.unlock then disarm s (r.src % 8) else s
    let r' := { r with started := true, ord := s.cmds.starts }
    f (modRun { s with cmds := { s.cmds with starts := s.cmds.starts + 1 } } r (fun _ => r')) r' d
  else
    let s := if x = 5 && !c.expert then violation s 0 (if r.src % 8 = 4 then 4 else 6) (0xFFF00 + d.opcode) else s
    completeRun s r x 0 []

/-- A row of a ring command: it starts its descriptor, or lets a started one go on. -/
def cmdRow (s : State) (src : Nat) (tag : BitVec 16) (op : Nat) (sel : Desc → Bool) (c : State → Running → Desc → Checks)
    (f : State → Running → Desc → State) : State :=
  match runOf s src tag op sel with
  | none => s
  | some r =>
    if r.started then settle s
    else if mayStart s r then settle (startRun s r (c s r (descOf r.desc)) f)
    else s

/-- Every descriptor of an opcode. -/
def anyDesc (_ : Desc) : Bool := true

/-- Whether a reserved bit of the header is set, or a field that a command leaves unused is not zero (12 R372). The bits of ARG0 and ARG1
below `a0` and `a1` are in use. -/
def unused (desc : BitVec 512) (a0 : Nat) (addr0 addr1 len : Bool) (a1 : Nat) : Bool :=
  let d := descOf desc
  decide (bitsOf desc.toNat 11 10 ≠ 0) || decide (2 ^ a0 ≤ d.arg0) || (!addr0 && decide (d.addr0 ≠ 0)) || (!addr1 && decide (d.addr1 ≠ 0))
    || (!len && decide (d.len ≠ 0)) || decide (2 ^ a1 ≤ d.arg1)

/-- Whether a buffer cannot take at least `n` bytes of output: over the sideband ADDR0 is zero and LEN at most 896 (12 R395). -/
def badBuffer (r : Running) (d : Desc) (n : Nat) : Bool :=
  decide (d.len < n) || (decide (r.src % 8 = 4) && (decide (d.addr0 ≠ 0) || decide (896 < d.len)))

/-- Output of a command: to the host buffer, or with the completion (12 R375, R395). -/
def finishOut (s : State) (r : Running) (d : Desc) (bytes : List (BitVec 8)) (result : Nat) (dmaOk : Bool) : State :=
  if r.src % 8 = 4 then completeRun s r 0 result bytes
  else if dmaOk then completeRun (emit s (.dma (r.src % 8) d.addr0 bytes)) r 0 result []
  else completeRun s r 0x0D 0 []

end Sys2Proof.Machine
end

