-- ==== Sys2Proof/Machine/SecurityCmd.lean ====
section
/-! DEFINITION. The security block (20): rollback fuses (R550 to R552), entropy health (R546), SPDM (R553, R554), IDE key management (R556),
JTAG (R559), and the sideband's endpoint ID (11 R362). Bodies that another standard encodes carry only what the manual states, and digests,
signatures and keys are free values (log entry 31). -/

namespace Sys2Proof.Machine

/-! ## Fuses and entropy -/

/-- FUSE_BLOW: the fuse in turn, 200 µs (20 R551, R552). -/
def fuseBlowF (s : State) (ok : Bool) : State :=
  if s.pwr.st = .service && s.sec.blowing && decide (s.sec.f < s.sec.active.svn) then
    if ok then
      let s := { s with sec := { s.sec with f := s.sec.f + 1 } }
      if s.sec.active.svn ≤ s.sec.f then
        flagSec (noteEv { s with sec := { s.sec with blowing := false } } srcSec 0x01B1 0 0 0) 1
      else s
    else flagSec (noteEv { s with sec := { s.sec with blowing := false } } srcSec 0x02B2 0 0 0) 4
  else s

def execFuseBlow (ok : Bool) (s : State) : Host.Outcome State Fault Refusal := .next (fuseBlowF s ok)

/-- A write of 1 to ADV_NOW starts a held advance (20 R551). -/
def startHeld (s : State) : State :=
  if s.sec.advPending then { s with sec := { s.sec with advPending := false, blowing := true } } else s

/-- ENTROPY_TEST_FAIL (20 R546). -/
def entropyTestFailF (s : State) : State :=
  if domOn s 1 then
    flagSec (noteEv { s with sec := { s.sec with entropyOk := false, fails := satAdd 0xFFFFF s.sec.fails 1 } } srcSec 0x02B0 0 0 0) 3
  else s

def execEntropyTestFail (s : State) : Host.Outcome State Fault Refusal := .next (entropyTestFailF s)

/-- The deferred rotation of a well starts (06 R198; 20 R546). -/
def startDeferred (s : State) (i : Nat) : State :=
  let w := wellNo s i
  if w.live then endRotation (startRotation s i w) i w else s

/-- ENTROPY_TEST_PASS. -/
def entropyTestPassF (s : State) : State :=
  if !domOn s 1 then s
  else
    let s := { s with sec := { s.sec with entropyOk := true } }
    if s.pwr.st = .service then
      let l := s.keys.deferred
      l.foldl startDeferred { s with keys := { s.keys with deferred := [] } }
    else s

def execEntropyTestPass (s : State) : Host.Outcome State Fault Refusal := .next (entropyTestPassF s)

/-! ## SPDM (20 R553, R554; 11 R363) -/

/-- Whether a message can arrive: the port's link is up, or the sideband has power. -/
def viaOpen (s : State) (v : SpdmVia) : Bool :=
  match v with
  | .doe p => (portAt s p.val).linkUp
  | .sideband => decide (s.pwr.st ≠ .off)

/-- Bytes that only the security block can make. -/
def secretBytes (kind ctr n : Nat) : List (BitVec 8) := (List.range n).map (Config.secretByte kind ctr)

/-- The signature of a message with the identity key (20 R543). -/
def signBytes (s : State) (msg : List (BitVec 8)) : List (BitVec 8) := (List.range 512).map (Config.signByte s.sec.idKey msg s.freeCtr)

/-- Responses; the codes are those of SPDM 1.2 (PRESUMED, log entry 31). -/
def spdmOk (s : State) (v : SpdmVia) (kind : Nat) (bytes : List (BitVec 8)) : State := emit s (.spdm v true kind bytes)
def spdmErr (s : State) (v : SpdmVia) (code : Nat) : State := emit s (.spdm v false code [])

/-- Error codes: invalid request, no such session, busy. -/
def errInvalid : Nat := 1
def errSession : Nat := 2
def errBusy : Nat := 3

/-- A request that needs the identity key: Busy while D01 is off (11 R363). -/
def withKey (s : State) (v : SpdmVia) (f : State → State) : State :=
  if !viaOpen s v then s else if domOn s 1 then f s else spdmErr s v errBusy

/-- GET_VERSION: version 1.2. -/
def getVersionF (s : State) (v : SpdmVia) : State := if viaOpen s v then spdmOk s v 0x84 [0x12] else s

def execGetVersion (via : SpdmVia) (s : State) : Host.Outcome State Fault Refusal := .next (getVersionF s via)

/-- GET_CAPABILITIES: CERT, CHAL, MEAS with signature, ENCRYPT, MAC, KEY_EX. -/
def getCapabilitiesF (s : State) (v : SpdmVia) : State := if viaOpen s v then spdmOk s v 0xE1 (leBytes 4 0x2D6) else s

def execGetCapabilities (via : SpdmVia) (s : State) : Host.Outcome State Fault Refusal := .next (getCapabilitiesF s via)

/-- NEGOTIATE_ALGORITHMS: one set is supported. -/
def negotiateAlgorithmsF (s : State) (v : SpdmVia) (offers : Bool) : State :=
  if !viaOpen s v then s else if offers then spdmOk s v 0xE3 [] else spdmErr s v errInvalid

def execNegotiateAlgorithms (via : SpdmVia) (offers : Bool) (s : State) : Host.Outcome State Fault Refusal := .next (negotiateAlgorithmsF s via offers)

/-- GET_DIGESTS: the digest of the chain in slot 0. -/
def getDigestsF (s : State) (v : SpdmVia) : State := if viaOpen s v then spdmOk s v 0x81 (secretBytes 1 0 64) else s

def execGetDigests (via : SpdmVia) (s : State) : Host.Outcome State Fault Refusal := .next (getDigestsF s via)

/-- The bytes of the certificate chain. -/
def chainBytes (off len : Nat) : List (BitVec 8) :=
  let n := if Config.chainLen - off < len then Config.chainLen - off else len
  (List.range n).map (fun i => Config.secretByte 2 0 (off + i))

/-- GET_CERTIFICATE: slot 0 alone is provisioned (20 R543). -/
def getCertificateF (s : State) (v : SpdmVia) (slot off len : Nat) : State :=
  if !viaOpen s v then s else if slot = 0 then spdmOk s v 0x82 (chainBytes off len) else spdmErr s v errInvalid

def execGetCertificate (via : SpdmVia) (slot : Fin 8) (off len : Nat) (s : State) : Host.Outcome State Fault Refusal :=
  .next (getCertificateF s via slot.val off len)

/-- CHALLENGE: signed with the identity key. -/
def challengeF (s : State) (v : SpdmVia) (slot : Nat) (nonce : BitVec 256) : State :=
  withKey s v (fun s => if slot = 0 then bump (spdmOk s v 0x83 (signBytes s (leBytes 32 nonce.toNat))) else spdmErr s v errInvalid)

def execChallenge (via : SpdmVia) (slot : Fin 8) (nonce : BitVec 256) (s : State) : Host.Outcome State Fault Refusal :=
  .next (challengeF s via slot.val nonce)

/-- The SVN of the staged image, 0xFFFF for none (20 R554, R562). -/
def stagedSvn (s : State) : Nat :=
  match s.sec.staged with
  | .verified i => i.svn
  | .incomplete _ | .nothing => 0xFFFF

/-- What block 4 digests, as it stands: EXPERT_EN, the 64 WELL_SET values, and the settings pages but the shutdown page and the page of the scrub
cursor (20 R554). -/
def settingsBytes (s : State) : List (BitVec 8) :=
  leBytes 3 (regF s .global 0 18 19 0) ++ (List.range 64).flatMap (fun i => leBytes 8 (wellVal (wellNo s i)))
    ++ ((List.range 512).filter (fun n => decide (n ≠ pgShutdown) && decide (n ≠ pgScrub))).flatMap (fun n => leBytes 256 (pageAt s n).toNat)

/-- A measurement block: 1 and 2 digests of the boot ROM and the active image, 3 raw, 4 a digest of the settings as they stand, 5 raw. -/
def measurement (s : State) (i : Nat) : List (BitVec 8) :=
  if i = 1 then secretBytes 4 0 64
  else if i = 2 then leBytes 64 s.sec.active.sha.toNat
  else if i = 3 then leBytes 1 s.sec.f ++ leBytes 1 s.sec.lifecycle ++ leBytes 1 s.sec.revoked.toNat ++ leBytes 2 (stagedSvn s)
  else if i = 4 then leBytes 64 (Config.sha512 (settingsBytes s)).toNat
  else leBytes 1 (roleCode s.pair.role) ++ leBytes 1 (b2n s.pwr.seat) ++ leBytes 16 (pairPeer s) ++ leBytes 5 (pairEpoch s)

/-- The signed MEASUREMENTS response for an index: 0 the number of blocks, 0xFF all of them. The signature covers the request, of version 0x12 with
param1 0x01, the index and the nonce, and the response (20 R555). -/
def measurements (s : State) (i nonce : Nat) : Option (List (BitVec 8)) :=
  let signed (b : List (BitVec 8)) : Option (List (BitVec 8)) := some (b ++ signBytes s ([0x12, 1, BitVec.ofNat 8 i] ++ leBytes 32 nonce ++ b))
  if i = 0 then signed (leBytes 1 5)
  else if i = 0xFF then signed ([1, 2, 3, 4, 5].flatMap (measurement s))
  else if i ≤ 5 then signed (measurement s i)
  else none

/-- GET_MEASUREMENTS. -/
def getMeasurementsF (s : State) (v : SpdmVia) (i : Nat) (nonce : BitVec 256) : State :=
  withKey s v (fun s => match measurements s i nonce.toNat with
    | some b => bump (spdmOk s v 0xE0 b)
    | none => spdmErr s v errInvalid)

def execGetMeasurements (via : SpdmVia) (index : BitVec 8) (nonce : BitVec 256) (s : State) : Host.Outcome State Fault Refusal :=
  .next (getMeasurementsF s via index.toNat nonce)

/-- The sessions of a transport. -/
def sessionsAt (s : State) (v : SpdmVia) : List Session :=
  match v with
  | .doe p => (portAt s p.val).sessions
  | .sideband => s.sec.sbSessions

/-- Change the sessions of a transport. -/
def setSessions (s : State) (v : SpdmVia) (l : List Session) : State :=
  match v with
  | .doe p => modPort s p.val (fun x => { x with sessions := l })
  | .sideband => { s with sec := { s.sec with sbSessions := l } }

/-- Sessions a transport may hold. -/
def sessionMax (v : SpdmVia) : Nat :=
  match v with
  | .doe _ => 4
  | .sideband => 2

/-- KEY_EXCHANGE: Busy beyond the limit, and while entropy health has failed. -/
def keyExchangeF (s : State) (v : SpdmVia) (id : Nat) : State :=
  withKey s v (fun s =>
    let l := sessionsAt s v
    if sessionMax v ≤ l.length || !s.sec.entropyOk then spdmErr s v errBusy
    else if l.any (fun x => decide (x.id = id)) then spdmErr s v errInvalid
    else bump (spdmOk (setSessions s v (l ++ [{ id := id, established := false, keyGen := 0 }])) v 0xE4 (secretBytes 7 s.freeCtr 608)))

def execKeyExchange (via : SpdmVia) (session : Nat) (s : State) : Host.Outcome State Fault Refusal := .next (keyExchangeF s via session)

/-- The session of an id. -/
def sessionOf (s : State) (v : SpdmVia) (id : Nat) : Option Session := findP (fun x => decide (x.id = id)) (sessionsAt s v)

/-- Change a session. -/
def modSession (s : State) (v : SpdmVia) (id : Nat) (f : Session → Session) : State :=
  setSessions s v (modFirst (fun x => decide (x.id = id)) f (sessionsAt s v))

/-- FINISH: the session is established when its verify data check. -/
def finishF (s : State) (v : SpdmVia) (id : Nat) (ok : Bool) : State :=
  withKey s v (fun s => match sessionOf s v id with
    | some x =>
      if x.established then spdmErr s v errInvalid
      else if ok then spdmOk (modSession s v id (fun x => { x with established := true })) v 0xE5 []
      else spdmErr s v errInvalid
    | none => spdmErr s v errSession)

def execFinish (via : SpdmVia) (session : Nat) (ok : Bool) (s : State) : Host.Outcome State Fault Refusal := .next (finishF s via session ok)

/-- Whether a session is established. -/
def secured (s : State) (v : SpdmVia) (id : Nat) : Bool :=
  match sessionOf s v id with
  | some x => x.established
  | none => false

/-- END_SESSION. -/
def endSessionF (s : State) (v : SpdmVia) (id : Nat) : State :=
  withKey s v (fun s =>
    if secured s v id then spdmOk (setSessions s v ((sessionsAt s v).filter (fun x => decide (x.id ≠ id)))) v 0xEC [] else spdmErr s v errSession)

def execEndSession (via : SpdmVia) (session : Nat) (s : State) : Host.Outcome State Fault Refusal := .next (endSessionF s via session)

/-- KEY_UPDATE: the next generation of the session's keys. -/
def keyUpdateF (s : State) (v : SpdmVia) (id : Nat) : State :=
  withKey s v (fun s =>
    if secured s v id then spdmOk (modSession s v id (fun x => { x with keyGen := x.keyGen + 1 })) v 0xE9 [] else spdmErr s v errSession)

def execKeyUpdate (via : SpdmVia) (session : Nat) (s : State) : Host.Outcome State Fault Refusal := .next (keyUpdateF s via session)

/-! ## IDE key management (20 R556) -/

/-- An IDE_KM message inside a secured session of its port's own DOE mailbox; an error over the sideband. -/
def ideKm (s : State) (v : SpdmVia) (id : Nat) (f : State → Port → State) : State :=
  if !viaOpen s v then s
  else match v with
    | .sideband => spdmErr s v errInvalid
    | .doe p => if secured s v id then f s p else spdmErr s v errSession

/-- Place of a key: stream, direction, key set. -/
def ideIx (mem tx kset : Bool) : Nat := b2n mem * 4 + b2n tx * 2 + b2n kset

/-- QUERY: which streams are secure and the key set in force of each. -/
def queryF (s : State) (v : SpdmVia) (id : Nat) : State :=
  ideKm s v id (fun s p =>
    let x := portAt s p.val
    spdmOk s v 0xFE (leBytes 1 (b2n x.ideIo + b2n x.ideMem * 2 + b2n x.ksetIo * 4 + b2n x.ksetMem * 8)))

def execQuery (via : SpdmVia) (session : Nat) (s : State) : Host.Outcome State Fault Refusal := .next (queryF s via session)

/-- KEY_PROG: one key of a stream, direction and key set. -/
def keyProgF (s : State) (v : SpdmVia) (id : Nat) (mem tx kset : Bool) (key : BitVec 256) : State :=
  ideKm s v id (fun s p =>
    spdmOk (modPort s p.val (fun x => { x with ideKeys := sSet 0 x.ideKeys (ideIx mem tx kset) (key.toNat + 1) })) v 0xFE [])

def execKeyProg (via : SpdmVia) (session : Nat) (mem tx kset : Bool) (key : BitVec 256) (s : State) : Host.Outcome State Fault Refusal :=
  .next (keyProgF s via session mem tx kset key)

/-- Whether both directions of a stream's key set hold keys. -/
def keysReady (x : PortSt) (mem kset : Bool) : Bool :=
  decide (sGet 0 x.ideKeys (ideIx mem false kset) ≠ 0) && decide (sGet 0 x.ideKeys (ideIx mem true kset) ≠ 0)

/-- K_SET_GO: the stream is secure under the key set from the next flit boundary; a failed CXL.mem stream answers again (11 R355). -/
def kSetGoF (s : State) (v : SpdmVia) (id : Nat) (mem kset : Bool) : State :=
  ideKm s v id (fun s p =>
    if keysReady (portAt s p.val) mem kset then
      spdmOk (modPort s p.val (fun x =>
        if mem then { x with ideMem := true, ksetMem := kset, ideFailed := false } else { x with ideIo := true, ksetIo := kset })) v 0xFE []
    else spdmErr s v errInvalid)

def execKSetGo (via : SpdmVia) (session : Nat) (mem kset : Bool) (s : State) : Host.Outcome State Fault Refusal :=
  .next (kSetGoF s via session mem kset)

/-- K_SET_STOP: a stream whose key set in force is stopped is insecure (log entry 31). -/
def kSetStopF (s : State) (v : SpdmVia) (id : Nat) (mem kset : Bool) : State :=
  ideKm s v id (fun s p =>
    spdmOk (modPort s p.val (fun x =>
      if mem then { x with ideMem := x.ideMem && (x.ksetMem != kset) } else { x with ideIo := x.ideIo && (x.ksetIo != kset) })) v 0xFE [])

def execKSetStop (via : SpdmVia) (session : Nat) (mem kset : Bool) (s : State) : Host.Outcome State Fault Refusal :=
  .next (kSetStopF s via session mem kset)

/-- GET_KEY: a key from the DRBG; Busy while entropy health has failed (20 R546). -/
def getKeyF (s : State) (v : SpdmVia) (id : Nat) : State :=
  ideKm s v id (fun s _ => if s.sec.entropyOk then bump (spdmOk s v 0xFE (secretBytes 9 s.freeCtr 32)) else spdmErr s v errBusy)

def execGetKey (via : SpdmVia) (session : Nat) (s : State) : Host.Outcome State Fault Refusal := .next (getKeyF s via session)

/-! ## JTAG (20 R559; 16 R472) -/

/-- The line a JTAG read shows: zero where nothing decodes. -/
def rawData (r : Raw) : Line :=
  match r with
  | .line v => v.data
  | .never | .bad => 0

/-- A JTAG access outside every well, or in a PROTECTED one: blocked, flagged and recorded. -/
def jtagBlocked (s : State) (op : JtagOp) : State :=
  let s := flagSec (noteEv s srcSec 0x01B2 0 0 0) 2
  match op with
  | .read => emit s (.jtag 0)
  | .write => s

/-- A JTAG write is applied as the module's own, and mirrored; at a tile whose home is the peer it is forwarded (log entry 30). -/
def jtagWrite (s : State) (dln : Nat) (data : Line) : State :=
  if isHome s (ltnOf dln) then
    let w := ownWrite dln .silent (cleanLine data)
    if handHolds s (ltnOf dln) then waitWrite s w else sliceWrite s w
  else
    let (t, s) := takeMtag s
    send s (.fwdFull t 0 dln false data)

/-- A JTAG access that is not allowed now: it reads zero and writes nothing. -/
def jtagNothing (s : State) (op : JtagOp) : State :=
  match op with
  | .read => if s.pwr.st = .off then s else emit s (.jtag 0)
  | .write => s

/-- JTAG_MEM_ACCESS. A PROTECTED well, or no well, blocks it whatever JTAG_MEM holds. Without JTAG_MEM, outside SERVICE, where no well table stands,
and where ports do not store (10 R326), it reads zero and writes nothing (log entry 30). -/
def jtagMemAccessF (s : State) (op : JtagOp) (dpa : Nat) (data : Line) (res : SenseRes) : State :=
  if s.pwr.st ≠ .service then jtagNothing s op
  else match wellAt s.tabs.wells dpa with
    | none => jtagBlocked s op
    | some (_, w) =>
      if w.prot then jtagBlocked s op
      else if !regB s .security 0 7 0 || fencedRole s.pair.role || s.cmds.sanitizing then jtagNothing s op
      else match op with
        | .read =>
          let (s, r) := readRaw s (dlnOf dpa) res res
          emit s (.jtag (rawData r))
        | .write => jtagWrite s (dlnOf dpa) data

def execJtagMemAccess (op : JtagOp) (dpa : Nat) (data : Line) (res : SenseRes) (s : State) : Host.Outcome State Fault Refusal :=
  .next (jtagMemAccessF s op dpa data res)

/-- JTAG_TEST_MODE: allowed in STANDBY with JTAG_TEST set; leaving it opens every switch. -/
def jtagTestModeF (s : State) (t : JtagTest) : State :=
  if !(decide (s.pwr.st = .standby) && regB s .security 0 7 1) then (if s.pwr.st = .off then s else emit s (.jtagTest false))
  else match t with
    | .enter => emit { s with pwr := { s.pwr with testMode := true } } (.jtagTest true)
    | .drive d on =>
      if s.pwr.testMode && decide (d.val ≠ 0) then emit (modDom s d.val (fun x => { x with st := if on then 2 else 0, cause := 0 })) (.jtagTest true)
      else emit s (.jtagTest false)
    | .leave =>
      let s := (upDoms s).foldl (fun s d => offDom s d 0) s
      emit { s with pwr := { s.pwr with testMode := false } } (.jtagTest true)

def execJtagTestMode (t : JtagTest) (s : State) : Host.Outcome State Fault Refusal := .next (jtagTestModeF s t)

/-! ## The sideband's endpoint (11 R362) -/

/-- SET_ENDPOINT_ID. -/
def setEndpointIdF (s : State) (eid : BitVec 8) : State :=
  if s.pwr.st = .off then s else emit { s with pwr := { s.pwr with eid := eid } } (.sbControl eid)

def execSetEndpointId (eid : BitVec 8) (s : State) : Host.Outcome State Fault Refusal := .next (setEndpointIdF s eid)

end Sys2Proof.Machine
end

