-- ==== Sys2Proof/Machine/ZirconCmd.lean ====
section
/-! DEFINITION. Zircon (18 R500 to R513): re-plans, their plan instant, canaries, eye margins and bank tests; the quotas of 04 R119 to R121,
the deadlines of 09 R291 and M of 09 R290. -/

namespace Sys2Proof.Machine

/-! ## Re-plans (18 R501, R502) -/

/-- Decodes of a class on a channel since the last plan (09 R283). -/
def decOf (ch : Chan) (k : Nat) : Nat := nth 0 ch.dec k

/-- p_est of a channel as a fraction (09 R291). -/
def pEstOf (ch : Chan) : Nat × Nat :=
  let h2 := if decOf ch 2 = 0 then 1 else decOf ch 2
  let n := if ch.dec = [] ∨ sumOf id ch.dec = 0 then 1 else sumOf id ch.dec
  ((decOf ch 4 + decOf ch 5) * h2 + decOf ch 3 * decOf ch 3, h2 * n)

/-- Whether p_est exceeds the target 1e-9 on some channel. -/
def pEstHigh (s : State) : Bool := (liveChans s).any (fun c => let p := pEstOf (chanAt s c); decide (p.2 < p.1 * 1000000000))

/-- Whether a cause holds now (18 R501): those that wait, the period, and p_est (over the decodes since the last plan, log entry 23). -/
def causeHolds (s : State) (c : Nat) : Bool :=
  if c = 1 then decide (s.zir.lastStart + regF s .zircon 0 2 4 0 * hourNs ≤ now s)
  else if c = 2 then pEstHigh s
  else s.zir.waiting.contains c

/-- Whether the 10 minutes of 18 R501 let a cause start a re-plan. -/
def causeReady (s : State) (c : Nat) : Bool :=
  !(c = 3 || c = 5 || c = 6 || c = 7) || decide (s.zir.lastStart = 0) || decide (s.zir.lastStart + 600000000000 ≤ now s)

/-- REPLAN_START. -/
def replanStartF (s : State) (c : Nat) : State :=
  if s.pwr.st = .service && s.zir.forming.isNone && causeHolds s c && causeReady s c then
    { s with zir := { s.zir with forming := some (c, now s), lastStart := now s, cause := c, waiting := [] } }
  else s

def execReplanStart (cause : Fin 8) (s : State) : Host.Outcome State Fault Refusal := .next (replanStartF s cause.val)

/-! ## VCORE (18 R507) -/

/-- `req` in units of 0.025 ns: the temperatures are in °C × 4. -/
def reqOf (s : State) : Nat := 1200 + (460 - (if s.th.yel < 460 then s.th.yel else 460)).toNat

/-- The upper limit of the setpoint. -/
def vcoreTop (s : State) : Nat := if regF s .zircon 0 4 10 0 < 1100 then regF s .zircon 0 4 10 0 else 1100

/-- The lowest slack of the samples in the 10 s before this instant, in 0.1 ns; 0x3FF where there is none (log entry 28). -/
def slack10 (s : State) : Nat :=
  (s.zir.slacks.filter (fun x => decide (now s ≤ x.1 + 10000000000) && decide (x.1 < now s))).foldl (fun a x => if x.2 < a then x.2 else a) 0x3FF

/-- The planned setpoint for the lowest slack of the last 10 s. -/
def planVcore (s : State) : Nat :=
  let v := s.pwr.vcore
  let req := reqOf s
  let sl := 4 * slack10 s
  let w := if sl < req then v + 5 * ((req - sl + 4 * s.zir.sens - 1) / (4 * s.zir.sens)) else if req + 200 < sl then v - 5 else v
  clampTo 700 (if vcoreTop s < 700 then 700 else vcoreTop s) w

/-- A setpoint change; the next sample measures what it gained. -/
def setVcore (s : State) (v : Nat) : State :=
  if v = s.pwr.vcore then s
  else { s with pwr := { s.pwr with vcore := v }, zir := { s.zir with sensFrom := some (s.zir.slackNow, (v : Int) - (s.pwr.vcore : Int)) } }

/-- A planned setpoint applies; a lowering is a single step of 5 mV, checked on the next sample. -/
def applyVcore (s : State) (v : Nat) : State :=
  if v < s.pwr.vcore then
    let s := setVcore s (if v < s.pwr.vcore - 5 then s.pwr.vcore - 5 else v)
    { s with zir := { s.zir with checkReq := some (reqOf s) } }
  else setVcore s v

/-! ## Drift tables and M (09 R290, R298) -/

/-- The smallest deadline of the channels in service. -/
def minDeadline (s : State) : Nat :=
  (liveChans s).foldl (fun m c => if (chanAt s c).deadline < m then (chanAt s c).deadline else m) 960

/-- M: the largest of 1, 2, 4, 8 and 16 with M × 4 h × A / 64 at most 0.75 × the smallest deadline; 1 where none is (log entry 24). -/
def planM (s : State) (minDl : Nat) : Nat :=
  match findP (fun m => decide (m * ageFactor s.drift.hiBin ≤ 12 * minDl)) [16, 8, 4, 2] with
  | some m => m
  | none => 1

/-- The tables of each channel in service: those measured, else those in force, with MDC the age class of M × 2 h at the highest bin. -/
def planTables (s : State) (m : Measured) (k : Nat) : List (Nat × List Nat × List Nat × List Nat × List Nat × Nat) :=
  (liveChans s).map (fun c =>
    let ch := chanAt s c
    let t := match findP (fun x => x.1 = c) m.tables with
      | some x => x.2
      | none => (ch.bnd, ch.fpt, ch.rt, ch.ru)
    (c, t.1, t.2.1, t.2.2.1, t.2.2.2, ageClass { ch with bnd := t.1 } (k * 2 * ageFactor s.drift.hiBin * (hourUnits / 64))))

/-- The tables take effect. -/
def applyTables (s : State) (ts : List (Nat × List Nat × List Nat × List Nat × List Nat × Nat)) (m : Option Nat) : State :=
  match m with
  | none => s
  | some m =>
    let s := { s with drift := { s.drift with m := m } }
    ts.foldl (fun s t => modChan s t.1 (fun ch =>
      { ch with bnd := t.2.1, fpt := t.2.2.1, rt := t.2.2.2.1, ru := t.2.2.2.2.1, mdc := t.2.2.2.2.2, tblGen := (ch.tblGen + 1) % 256 })) s

/-! ## Deadlines (09 R291) -/

/-- A channel's new deadline and count of quiet plans. -/
def planDeadline (s : State) (c : Nat) : Nat × Nat :=
  let ch := chanAt s c
  let p := pEstOf ch
  let cap := regF s .channel c 10 17 10
  let d := ch.deadline
  let r : Nat × Nat :=
    if p.2 < p.1 * 2000000000 then (if d * 8 / 10 < 24 then 24 else d * 8 / 10, 0)
    else if p.1 * 20000000000 < p.2 ∧ decOf ch 4 + decOf ch 5 = 0 then
      if 3 ≤ ch.quiet + 1 then (if 960 < d * 11 / 10 then 960 else d * 11 / 10, 0) else (d, ch.quiet + 1)
    else (d, 0)
  (if cap = 0 then r.1 else (let x := if 4 * cap < r.1 then 4 * cap else r.1; if x < 24 then 24 else x), r.2)

/-! ## Quotas (04 R119, R120) -/

/-- t_plan of a die: the mean of its program times since the last plan plus 600 ns, never below 1600; the one in force where it has not
programmed (log entry 25). -/
def planTime (s : State) (d : Nat) : Nat :=
  let x := sGet (0, 0) s.cist.progSum d
  if x.2 = 0 then sGet 1600 s.cist.tplan d else (let t := x.1 / x.2 + 600; if t < 1600 then 1600 else t)

/-- The quota of a die. -/
def planQuota (s : State) (dirty d : Nat) : Nat := quotaFor s dirty (planTime s d)

/-- The quota a die has or gets at the next pacing epoch. -/
def quotaSet (s : State) (d : Nat) : Nat :=
  match findP (fun x => x.1 = d) s.cist.nextQuota with
  | some x => x.2
  | none => quotaOf s d

/-- Quotas that apply at the next pacing epoch (04 R121). -/
def applyQuotas (s : State) (qs : List (Nat × Nat)) : State :=
  { s with cist := { s.cist with
    nextQuota := s.cist.nextQuota.filter (fun x => !qs.any (fun y => y.1 = x.1)) ++ qs } }


/-! ## The plan instant (18 R502 to R506) -/

/-- The migration floor in units of 4096 tiles (18 R506). -/
def planFloor (peak : Nat) : Nat :=
  let x := (peak * 60 + 4095) / 4096
  clampTo 16 255 x

/-- Everything a plan holds. -/
def formPlan (s : State) (m : Measured) : Plan :=
  let dls := (liveChans s).map (fun c => (c, (planDeadline s c).1))
  let minDl := dls.foldl (fun a x => if x.2 < a then x.2 else a) 960
  let k := planM s minDl
  let dirty := planDirty s
  { vcore := some (planVcore s), tables := planTables s m k, mNew := some k, deadlines := dls,
    quotas := (liveDies s).map (fun d => (d, planQuota s dirty d)), floor := some (planFloor s.zir.takePeak) }

/-- The parts of a plan that change what is in force. -/
def changes (s : State) (p : Plan) : Plan :=
  { p with
    vcore := match p.vcore with
      | some v => if v = s.pwr.vcore then none else some v
      | none => none
    deadlines := p.deadlines.filter (fun x => decide (x.2 ≠ (chanAt s x.1).deadline))
    quotas := p.quotas.filter (fun x => decide (x.2 ≠ quotaSet s x.1))
    floor := match p.floor with
      | some f => if f = s.zir.floor then none else some f
      | none => none }

/-- The parts in the protective direction (18 R504). -/
def protective (s : State) (p : Plan) : Plan :=
  { vcore := match p.vcore with
      | some v => if s.pwr.vcore < v then some v else none
      | none => none
    tables := []
    mNew := none
    deadlines := p.deadlines.filter (fun x => decide (x.2 < (chanAt s x.1).deadline))
    quotas := p.quotas.filter (fun x => decide (x.2 < quotaSet s x.1))
    floor := match p.floor with
      | some f => if s.zir.floor < f then some f else none
      | none => none }

/-- What is left of a plan without its protective parts and its pinned items (18 R505). -/
def leftPending (s : State) (p : Plan) (pin : Nat) : Plan :=
  { vcore := match p.vcore with
      | some v => if s.pwr.vcore < v ∨ bitOf pin 0 = true then none else some v
      | none => none
    tables := if bitOf pin 1 then [] else p.tables
    mNew := if bitOf pin 1 then none else p.mNew
    deadlines := if bitOf pin 2 then [] else p.deadlines.filter (fun x => decide ((chanAt s x.1).deadline < x.2))
    quotas := if bitOf pin 3 then [] else p.quotas.filter (fun x => decide (quotaSet s x.1 < x.2))
    floor := match p.floor with
      | some f => if s.zir.floor < f ∨ bitOf pin 4 = true then none else some f
      | none => none }

/-- Items of a plan, bit per item of 18 R504. -/
def planBits (p : Plan) : Nat :=
  b2n p.vcore.isSome + b2n p.mNew.isSome * 2 + b2n (!p.deadlines.isEmpty) * 4 + b2n (!p.quotas.isEmpty) * 8 + b2n p.floor.isSome * 16

/-- A plan or its parts take effect. -/
def applyPlan (s : State) (p : Plan) : State :=
  let s := match p.vcore with
    | some v => applyVcore s v
    | none => s
  let s := applyTables s p.tables p.mNew
  let s := p.deadlines.foldl (fun s x => modChan s x.1 (fun ch => { ch with deadline := x.2 })) s
  let s := applyQuotas s p.quotas
  match p.floor with
  | some f => { s with zir := { s.zir with floor := f } }
  | none => s

/-- The items whose bits are set. -/
def pickPlan (p : Plan) (bits : Nat) : Plan :=
  { vcore := if bitOf bits 0 then p.vcore else none
    tables := if bitOf bits 1 then p.tables else []
    mNew := if bitOf bits 1 then p.mNew else none
    deadlines := if bitOf bits 2 then p.deadlines else []
    quotas := if bitOf bits 3 then p.quotas else []
    floor := if bitOf bits 4 then p.floor else none }

/-- A plan without the items whose bits are set. -/
def dropItems (p : Plan) (bits : Nat) : Plan := pickPlan p (0x1F - bits % 32)

/-- A write of ACCEPT: the pending items named apply at once (18 R505). -/
def acceptItems (s : State) (bits : Nat) : State :=
  let p := pickPlan s.zir.pend bits
  putPlan (applyPlan { s with zir := { s.zir with pend := dropItems s.zir.pend bits } } p)

/-- Basic and Expert rules of 18 R505. -/
def takePlan (s : State) (p : Plan) : State :=
  if expertEn s 11 then
    let left := leftPending s p (regF s .zircon 0 3 9 5)
    applyPlan { s with zir := { s.zir with pend := left } } (protective s p)
  else applyPlan { s with zir := { s.zir with pend := planInit } } p

/-! ## Remaining life (18 R511, R512) -/

/-- num / den cut to 0 to 1, as a fraction. A zero denominator, for which the manual gives no value: FREE VALUE (log entry 26). -/
def cutFrac (s : State) (c : Nat) (num den : Int) : Nat × Nat :=
  if den = 0 then (Config.external (20 + c) s.freeCtr % 1000001, 1000000)
  else
    let n := if den < 0 then -num else num
    let d := if den < 0 then -den else den
    if n ≤ 0 then (0, d.toNat) else if d ≤ n then (1, 1) else (n.toNat, d.toNat)

/-- Physical tiles in use. -/
def tilesInUse (s : State) : Nat := countP (fun x => decide (x.2 = 1)) s.tabs.tile

/-- e_fail in nJ (18 R510): 1.15 × (1 J + 180 nJ × lines). -/
def eFail (s : State) : Nat := 1150000000 + 207 * (liveDies s).length * (4096 + s.cist.dirtyLim)

/-- The five used values. -/
def usedLife (s : State) : List (Nat × Nat) :=
  let z := s.zir
  let p := p0 s.sec.variant
  [ cutFrac s 0 (s.wear.wearSum : Int) ((tilesInUse s * 625000 : Nat) : Int),
    cutFrac s 1 (s.wear.retired : Int) ((p - logicalTiles s.sec.variant - p * 25 / 1000 : Nat) : Int),
    cutFrac s 2 (((z.bankE0 : Int) - (z.bankE : Int)) * 1000000) ((z.bankE0 : Int) * 1000000 - (eFail s : Int)),
    cutFrac s 3 ((s.pwr.vcore : Int) - (z.vcore0 : Int)) (1100 - (z.vcore0 : Int)),
    cutFrac s 4 (z.hours : Int) 350640 ]

/-- Whether a fraction is above another. -/
def fracLt (a b : Nat × Nat) : Bool := decide (a.1 * b.2 < b.1 * a.2)

/-- The lowest component with the highest used value. -/
def limiterOf (us : List (Nat × Nat)) : Nat :=
  (List.range 5).foldl (fun l c => if fracLt (nth (0, 1) us l) (nth (0, 1) us c) then c else l) 0

/-- A used value × 10^6, rounded down. -/
def ppm (u : Nat × Nat) : Nat := u.1 * 1000000 / (if u.2 = 0 then 1 else u.2)

/-- The plan-log entry nearest 365 days back: 2190 epoch units of 4 hours (log entry 26). -/
def nearestYear (ec : Nat) : List (Nat × List Nat) → Option (Nat × List Nat)
  | [] => none
  | x :: r =>
    let far (e : Nat) : Nat := if e + 2190 < ec then ec - (e + 2190) else e + 2190 - ec
    match nearestYear ec r with
    | none => some x
    | some y => if far y.1 < far x.1 then some y else some x

/-- Remaining years of a component in 0.1 year, at most 102.3. -/
def yearsOf (u : Nat × Nat) (old span : Nat) : Nat :=
  if ppm u ≤ old then 1023
  else
    let den := 2190 * (u.1 * 1000000 - old * u.2)
    let y := 10 * (u.2 - u.1) * span * 1000000 / (if den = 0 then 1 else den)
    if 1023 < y then 1023 else y

/-- YEARS: 102.3 until the log spans 30 days, 180 units. -/
def planYears (s : State) (us : List (Nat × Nat)) : Nat :=
  match s.zir.planLog, nearestYear s.drift.ec s.zir.planLog with
  | first :: _, some old =>
    if s.drift.ec < first.1 + 180 then 1023
    else (List.range 5).foldl (fun y c =>
      let z := yearsOf (nth (0, 1) us c) (nth 0 old.2 c) (s.drift.ec - old.1)
      if z < y then z else y) 1023
  | _, _ => 1023

/-- Mean WEAR of the tiles in use. -/
def meanWear (s : State) : Nat :=
  let ts := s.tabs.tile.filter (fun x => decide (x.2 = 1))
  if ts.isEmpty then 0 else sumOf (fun x => (ledAt s x.1).wear) ts / ts.length

/-- Form the remaining life, with LIFE_ALERT at each fall below its threshold (18 R511, R512). -/
def formLife (s : State) : State :=
  let s := creditHours s
  let us := usedLife s
  let l := limiterOf us
  let u := nth (0, 1) us l
  let rem := 100 * (u.2 - u.1) / (if u.2 = 0 then 1 else u.2)
  let low : Bool := decide (rem < regF s .zircon 0 2 11 7)
  let s := bump { s with zir := { s.zir with
    limiter := l, remPct := rem, years := planYears s us, wearMean := meanWear s,
    retires := s.zir.retires.filter (fun e => decide (s.drift.ec < e.1 + 180)) } }
  let s := if low && !s.zir.lifeLow then flagZircon (noteEv s srcZircon 0x0294 0 0 0) 4 else s
  { s with zir := { s.zir with lifeLow := low } }

/-- The plan summary goes to the log: its page holds EC, the used values, VCORE, the cause and the pending items (18 R502, R503; log entry 7). -/
def logPlan (s : State) : State :=
  let us := (usedLife s).map ppm
  let i := s.zir.planIx % 512
  let v := 1 + s.drift.ec % 2 ^ 32 * 2 + sumOf (fun c => nth 0 us c % 2 ^ 20 * 2 ^ (33 + 20 * c)) (List.range 5) + s.pwr.vcore % 2 ^ 11 * 2 ^ 133
    + s.zir.cause % 8 * 2 ^ 144 + planBits s.zir.pend * 2 ^ 147
  let s := pgPut s (pgHistory + 424 + i / 8) (256 * (i % 8) + 255) (256 * (i % 8)) v
  let l := s.zir.planLog ++ [(s.drift.ec, us)]
  { s with zir := { s.zir with planIx := (i + 1) % 512, planLog := l.drop (l.length - 512) } }

/-- The plan, log and life pages are stored at most once in 24 hours, six epoch units (18 R503; log entry 26). -/
def storePlan (s : State) : State :=
  let s := putPage (putPlan s) pgZircon (zirconPage s)
  let due : Bool := match s.zir.storedAt with
    | some e => decide (e + 6 ≤ s.drift.ec)
    | none => true
  if due then startStore { s with zir := { s.zir with storedAt := some s.drift.ec } } 6 [(pgHistory + 416, pgHistory + 511)] false else s

/-! ## PLAN_INSTANT -/

/-- The channels' counts of the interval end with the plan; P_EST is the highest p_est in 1e-12. -/
def closeInterval (s : State) (pEst tmax : Nat) : State :=
  let s := (liveChans s).foldl (fun s c => modChan s c (fun ch => { ch with dec := [] })) s
  { s with
    zir := { s.zir with pEst := pEst, tplanMax := tmax, takes := [], takePeak := 0 }
    drift := { s.drift with hiBin := 0 }
    cist := { s.cist with progSum := [] } }

/-- Every ZIRCON and MAPCTL field that waits for the next re-plan applies (13 R405). -/
def applyReplan (s : State) : State :=
  let s := (slotsFor .zircon .replan).foldl (fun s k => applySlot s .zircon 0 k .replan) s
  (slotsFor .mapctl .replan).foldl (fun s k => applySlot s .mapctl 0 k .replan) s

/-- The CHANNEL_FAIL record of a conversion, with the tiles converted in ARG1 (17 R489; log entry 27). -/
def convertedRec (s : State) : State :=
  if s.mapu.converted = 0 then s
  else
    let n := s.mapu.converted
    noteEv { s with mapu := { s.mapu with converted := 0 } } srcMap 0x0281 0 n 0

/-- What the plan instant does to the plan's items. ENERGY_BOUND: some quota is q_energy (04 R139). -/
def planItems (s : State) (m : Measured) : State :=
  let p := changes s (formPlan s m)
  let dirty := planDirty s
  let bound : Bool := match energyUnits s dirty with
    | some e => decide (e < (regF s .mapctl 0 34 7 0 : Int)) && (liveDies s).any (fun d => decide (e < timeUnits (planTime s d) dirty))
    | none => false
  let times := (liveDies s).map (fun d => (d, planTime s d))
  let quiets := (liveChans s).map (fun c => (c, (planDeadline s c).2))
  let pMax := maxOf (fun c => let x := pEstOf (chanAt s c); satAdd 0xFFFFF (x.1 * 1000000000000 / x.2) 0) 0 (liveChans s)
  let s := takePlan s p
  let s := quiets.foldl (fun s x => modChan s x.1 (fun ch => { ch with quiet := x.2 })) s
  let s := { s with cist := { s.cist with
    dirtyLim := dirty, energyBound := bound, tplan := times.foldl (fun t x => sSet 1600 t x.1 x.2) s.cist.tplan } }
  let s := evalStop (lowEnergy s dirty)
  closeInterval s pMax (maxOf (fun x => x.2) 1600 times)

/-- PLAN_INSTANT. -/
def planInstantF (s : State) (m : Measured) : State :=
  match s.zir.forming with
  | none => s
  | some _ =>
    if s.pwr.st ≠ .service then s
    else
      let s := applyReplan s
      let s := { s with zir := { s.zir with sweepLate := satAdd 255 m.lateDies.length 0 } }
      let s := m.lateDies.foldl (fun s _ => noteEv s srcZircon 0x0195 0 0 0) s
      let s := planItems s m
      let s := { s with zir := { s.zir with forming := none, planGen := (s.zir.planGen + 1) % 2 ^ 20 } }
      let s := formLife s
      let s := if planBits s.zir.pend = 0 then flagZircon (noteEv s srcZircon 0x0193 0 0 0) 0
        else flagZircon (flagZircon (noteEv s srcZircon 0x0194 0 0 0) 0) 1
      let s := convertedRec s
      let s := if s.wear.cond = .normal then s else releaseRequest s
      storePlan (storeCursor (logPlan s))

def execPlanInstant (m : Measured) (s : State) : Host.Outcome State Fault Refusal := .next (planInstantF s m)

/-! ## Canaries (18 R507, R508) -/

/-- The slacks of a sample: each group's last and lowest. -/
def takeSlacks (s : State) : Nat → List Nat → State
  | _, [] => s
  | g, x :: r =>
    if 12 ≤ g then s
    else
      let v := if 0x3FF < x then 0x3FF else x
      let old := sGet (0x3FF, 0x3FF) s.zir.can g
      takeSlacks { s with zir := { s.zir with can := sSet (0x3FF, 0x3FF) s.zir.can g (v, if v < old.2 then v else old.2) } } (g + 1) r

/-- What the last change gained per 5 mV, never below 0.2 ns. -/
def measureSens (s : State) (low : Nat) : State :=
  match s.zir.sensFrom with
  | some (before, dv) =>
    let g : Int := ((low : Int) - (before : Int)) * 5 / dv
    { s with zir := { s.zir with sensFrom := none, sens := if g < 2 then 2 else if 1023 < g then 1023 else g.toNat } }
  | none => s

/-- A planned lowering that falls below `req` is reverted. -/
def checkLowered (s : State) (low : Nat) : State :=
  match s.zir.checkReq with
  | some req =>
    let s := { s with zir := { s.zir with checkReq := none } }
    if 4 * low < req then setVcore s (if s.pwr.vcore + 5 < 1100 then s.pwr.vcore + 5 else 1100) else s
  | none => s

/-- The emergency raise, or GUARD_SHORT at the limit. The guard counts as short while the slack is below 30 ns at the limit (log entry
28). -/
def emergency (s : State) (low : Nat) : State :=
  if low < 300 then
    if s.pwr.vcore < vcoreTop s then
      let v := if vcoreTop s < s.pwr.vcore + 10 then vcoreTop s else s.pwr.vcore + 10
      let s := setVcore s v
      replanCause (flagZircon (noteEv s srcZircon 0x0192 0 0 0) 2) 3
    else if s.zir.guardShort then s
    else noteEv { s with zir := { s.zir with guardShort := true } } srcZircon 0x0292 0 0 0
  else { s with zir := { s.zir with guardShort := false } }

/-- CANARY_SAMPLE, every 1 ms in SERVICE. -/
def canarySampleF (s : State) (slacks : List Nat) : State :=
  if s.pwr.st = .service && !slacks.isEmpty then
    let low := (slacks.take 12).foldl (fun a x => if x < a then x else a) 0x3FF
    let s := takeSlacks s 0 slacks
    let s := { s with zir := { s.zir with
      slackNow := low, slackMin := if low < s.zir.slackMin then low else s.zir.slackMin,
      slacks := s.zir.slacks.filter (fun x => decide (now s ≤ x.1 + 10000000000)) ++ [(now s, low)] } }
    emergency (checkLowered (measureSens s low) low) low
  else s

def execCanarySample (slacks : List Nat) (s : State) : Host.Outcome State Fault Refusal := .next (canarySampleF s slacks)

/-! ## Eye margins (18 R500) -/

/-- Whether a port's link is up: ports 0 to 3, then the Spinel port. -/
def eyeUp (s : State) (i : Nat) : Bool := if i < 4 then (portAt s i).linkUp else s.pair.linkUp

/-- The margins of each port whose lanes are live; EYE_LOW when a port falls below 0.050 UI (log entry 27). -/
def takeEyes (s : State) : Nat → List (Nat × Nat) → State
  | _, [] => s
  | i, x :: r =>
    if 5 ≤ i then s
    else if !eyeUp s i then takeEyes s (i + 1) r
    else
      let old := sGet (0, 0) s.zir.eyes i
      let v := (satAdd 0x3FF x.1 0, satAdd 0x3FF x.2 0)
      let s := { s with zir := { s.zir with eyes := sSet (0, 0) s.zir.eyes i v } }
      let s := if x.1 < 50 ∧ (50 ≤ old.1 ∨ old = (0, 0)) then noteEv s srcZircon 0x0196 i 0 0 else s
      takeEyes s (i + 1) r

/-- EYE_MARGIN_SAMPLE, every 10 s in SERVICE. -/
def eyeMarginSampleF (s : State) (eyes : List (Nat × Nat)) : State := if s.pwr.st = .service then takeEyes s 0 eyes else s

def execEyeMarginSample (eyes : List (Nat × Nat)) (s : State) : Host.Outcome State Fault Refusal := .next (eyeMarginSampleF s eyes)

/-! ## Bank tests (18 R509, R510) -/

/-- Whether a test is due: the first WARM after manufacture, 180 units after the last test, or TEST_NOW. -/
def testDue (s : State) : Bool :=
  s.zir.testReq || (match s.zir.testEc with
    | none => s.pwr.warm
    | some e => decide (e + 180 ≤ s.drift.ec))

/-- Whether the conditions of a test hold. -/
def testAllowed (s : State) : Bool :=
  decide (s.pwr.st = .service) && decide (35000 ≤ s.pwr.vbankMv) && !s.pwr.pwrFail && decide (regF s .power 0 88 13 0 ≤ s.pwr.vinMv)
    && (decide (s.th.cond = .nominal) || decide (s.th.cond = .warn))

/-- BANK_TEST_START: a test that is due starts where its conditions hold, else it is tried again an hour later. -/
def bankTestStartF (s : State) (stepMv : Nat) : State :=
  if s.zir.testing || !testDue s || decide (s.pwr.st ≠ .service) || decide (now s < s.zir.testNext) then s
  else if testAllowed s then { s with zir := { s.zir with testing := true, testStepMv := stepMv, testReq := false, testNext := 0 } }
  else { s with zir := { s.zir with testNext := now s + hourNs } }

def execBankTestStart (stepMv : Nat) (s : State) : Host.Outcome State Fault Refusal := .next (bankTestStartF s stepMv)

/-- The entry of a test in the bank-test log: C, ESR, e_meas and EC, 32 bits each in 128 (18 R503; log entry 7). -/
def logBank (s : State) : State :=
  let i := s.zir.bankIx % 128
  let v := s.zir.bankC % 2 ^ 32 + s.zir.bankEsr % 2 ^ 32 * 2 ^ 32 + s.zir.bankE % 2 ^ 32 * 2 ^ 64 + s.drift.ec % 2 ^ 32 * 2 ^ 96
  let s := pgPut s (pgHistory + 488 + i / 8) (256 * (i % 8) + 255) (256 * (i % 8)) v
  { s with zir := { s.zir with bankIx := (i + 1) % 128 } }

/-- BANK_TEST_END: C in µF equals the discharge time in µs, ESR is the step over 2 A, e_meas is 514.5 V² × C. -/
def bankTestEndF (s : State) (us : Nat) (reached33 recharged : Bool) : State :=
  if s.zir.testing && decide (s.pwr.st = .service) then
    let e := 5145 * us / 10000
    let esr := s.zir.testStepMv / 2
    let s := { s with zir := { s.zir with
      testing := false, bankC := us, bankEsr := esr, bankE := e, bankE0 := if s.zir.bankE0 = 0 then e else s.zir.bankE0,
      testEc := some s.drift.ec } }
    let bad := decide (5145 * us * 100 < eFail s) || decide (400 < s.zir.testStepMv) || !reached33 || decide (100000 < us) || !recharged
    let s := if bad then failBank s else { s with pwr := { s.pwr with bankFailed := false } }
    let s := putPage (logBank s) pgZircon (zirconPage (logBank s))
    replanCause (flagZircon s 3) 4
  else s

def execBankTestEnd (us : Nat) (reached33 recharged : Bool) (s : State) : Host.Outcome State Fault Refusal :=
  .next (bankTestEndF s us reached33 recharged)

end Sys2Proof.Machine
end

