-- ==== Sys2Proof/Machine/RegView.lean ====
section
/-! DEFINITION. What a read of a register shows (13 R402, R403, R413, R414, R419 to R424): the read-only fields as views of the units (R102,
R138, R139, R163, R202, R241, R272, R299, R300, R339, R365, R397, R421, R442 to R444, R455, R483, R484, R522, R523, R540, R562), beside the
held words and flags. -/

namespace Sys2Proof.Machine

/-! ## Helpers -/

/-- Saturate at the top of a field of `w` bits. -/
def sat (w x : Nat) : Nat := if 2 ^ w ≤ x then 2 ^ w - 1 else x

/-- Word i of a value cut into 20-bit words. -/
def word20 (x i : Nat) : Nat := x / 2 ^ (20 * i) % 2 ^ 20

/-- Powered hours in SERVICE up to now (18 R522). -/
def hoursNow (s : State) : Nat := if s.pwr.st = .service then s.zir.hours + (s.zir.svcNs + (now s - s.zir.svcAt)) / hourNs else s.zir.hours

/-- Live lanes of a port. -/
def lanesOf (s : State) (p : Nat) : Nat := if (portAt s p).linkUp then (portAt s p).lanes else 0

/-- Enabled ways of a slice; none of a retired one. A way whose disable is still in progress takes no new line and counts as no longer enabled (05
R163; log entry 91). -/
def waysOf (s : State) (n : Nat) : Nat := if (sliceAt s n).retired then 0 else (enabledWays s n).length

/-- Whether an RC field is set in some instance of a block whose domain is on. -/
def rcSet (s : State) (b : Blk) : Bool :=
  s.regs.any (fun x => decide (blkIdx b ≤ x.1 / 128) && decide (x.1 / 128 < blkIdx b + blkCount b) && decide (x.2.rc ≠ 0))

/-- EVT_SUM. -/
def evtSum (s : State) : Nat :=
  let bs : List Blk := [.port, .ring, .spinel, .mapctl, .zircon, .thermal, .fault, .agate, .beryl, .quartz, .security, .power, .cache, .channel,
    .global]
  sumOf (fun x => b2n (rcSet s x.2) * 2 ^ x.1) ((List.range 15).zip bs)

/-! ## Records that Agate keeps (14 R437, R439, R444) -/

/-- The records of the NV ring: a slot of a good page holds a record of its own number. -/
def ringRecs (s : State) : List AgRec :=
  (s.beryl.image.filter (fun x => decide (512 ≤ x.1) && decide (x.1 < 2560) && !ringBad s x.1)).flatMap (fun x =>
    ((List.range 8).map (fun j => agOf (bitsOf x.2.toNat (256 * j + 255) (256 * j)))).filter (fun r =>
      decide (0 < r.repeats) && decide (r.seq % 16384 / 8 = x.1 - 512)))

/-- The records of the buffer. -/
def bufRecs (s : State) : List AgRec := (s.ag.buf.map (fun x => x.2.1)).filter (fun r => decide (0 < r.repeats))

/-- The record of a number, from the buffer where it is there, else from the NV ring. -/
def agKept (s : State) (q : Nat) : Option AgRec :=
  match findP (fun r => decide (r.seq = q)) (bufRecs s) with
  | some r => some r
  | none => findP (fun r => decide (r.seq = q)) (ringRecs s)

/-- The lowest number kept, at or above `q`. -/
def keptFrom (s : State) (q : Nat) : Option Nat :=
  ((bufRecs s ++ ringRecs s).map (·.seq)).foldl (fun a x => if x < q then a else match a with
    | none => some x
    | some y => some (if x < y then x else y)) none

/-- NEW_SEQ, OLD_SEQ and FL_SEQ as they stand; zero where there is no such record. -/
def agSeqs (s : State) : Nat × Nat × Nat := (s.ag.next - 1, (keptFrom s 0).getD 0, s.ag.flushed - 1)

/-! ## Read-only fields by block -/

/-- GLOBAL, for a requester (R421). -/
def roGlobal (s : State) (r slot : Nat) : Nat :=
  if slot = 0 then (match s.sec.variant with | .y32 => 0 | .y16 => 1) + 0xB * 2 ^ 4
  else if slot = 1 then s.sec.active.version % 2 ^ 20
  else if slot = 2 then s.sec.active.svn % 2 ^ 16
  else if slot = 3 then
    powerCode s.pwr.st + b2n (decide (s.pwr.st = .service) && s.pwr.warm) * 2 ^ 3 + capCode s.wear.cond * 2 ^ 4 + thermCode s.th.cond * 2 ^ 6
      + roleCode s.pair.role * 2 ^ 9 + s.pwr.bootStep % 16 * 2 ^ 12
  else if slot = 4 then (liveChans s).length + (liveSlices s).length * 2 ^ 6 + lanesOf s 0 * 2 ^ 10 + lanesOf s 1 * 2 ^ 15
  else if slot = 5 then lanesOf s 2 + lanesOf s 3 * 2 ^ 5 + s.pair.lanes * 2 ^ 10
  else if slot = 6 ∨ slot = 7 then sumOf (fun j => waysOf s (4 * (slot - 6) + j) * 2 ^ (5 * j)) (List.range 4)
  else if slot = 8 then sumOf (fun c => b2n (!(chanAt s c).retired) * 2 ^ c) (List.range 20)
  else if slot = 9 then sumOf (fun c => b2n (!(chanAt s (20 + c)).retired) * 2 ^ c) (List.range 12)
  else if slot = 10 then now s % 2 ^ 20
  else if 11 ≤ slot ∧ slot ≤ 13 then word20 (sGet 0 s.req.time r % 2 ^ 64) (slot - 10)
  else if slot = 15 then sumOf (fun q => b2n (isArmed s q) * 2 ^ q) (List.range 6)
  else if slot = 17 then (match s.req.viol with
    | some (_, a) => a % 2 ^ 20
    | none => 0)
  else if slot = 19 then evtSum s
  else if 20 ≤ slot ∧ slot ≤ 32 then
    let x := match s.req.gasp with
      | some g => agBits g
      | none => 0
    if slot = 32 then word20 x 12 + b2n s.req.gaspValid * 2 ^ 16 else word20 x (slot - 20)
  else if 33 ≤ slot ∧ slot ≤ 39 then word20 s.sec.serial.toNat (slot - 33)
  else 0

/-- Encoding of a width in lanes (R365). -/
def widthCode (n : Nat) : Nat := if n = 4 then 1 else if n = 8 then 2 else if n = 16 then 3 else 0

/-- PORT (R365). -/
def roPort (s : State) (p slot : Nat) : Nat :=
  let x := portAt s p
  if slot = 0 then
    lanesOf s p + widthCode x.width * 2 ^ 5 + x.rate % 4 * 2 ^ 7 + b2n x.memActive * 2 ^ 9 + b2n x.ideMem * 2 ^ 10 + b2n x.ideIo * 2 ^ 11
      + b2n x.viral * 2 ^ 12
  else 0

/-- RING (R397). -/
def roRing (s : State) (p slot : Nat) : Nat :=
  let r := ringAt s p
  if slot = 9 then r.head % 2 ^ 12
  else if slot = 11 then b2n (r.enabled || decide (0 < runCount s p)) + runCount s p % 128 * 2 ^ 5
  else 0

/-- SPINEL (R339). -/
def roSpinel (s : State) (slot : Nat) : Nat :=
  let p := s.pair
  if slot = 0 then
    roleCode p.role + b2n s.pwr.seat * 2 ^ 3 + b2n p.linkUp * 2 ^ 4 + b2n p.witOk * 2 ^ 5 + b2n p.syncSrc * 2 ^ 6 + b2n p.diverged * 2 ^ 7
      + b2n p.promoteWait * 2 ^ 8 + p.lanes * 2 ^ 9
  else if slot = 4 then (tilesOf p.sync).length / 4096
  else if slot = 5 then word20 (pairEpoch s) 0
  else if slot = 6 then word20 (pairEpoch s) 1
  else 0

/-- The die with the highest Cistern charge relative to its quota, the lowest where several have it (R139). -/
def hotDieOf (s : State) : Nat :=
  ((liveDies s).foldl (fun (a : Nat × Nat × Nat) d =>
    let c := chargeOf s d
    let q := quotaOf s d
    if decide (a.2.1 * q < c * a.2.2) || (decide (a.2.1 * q = c * a.2.2) && decide (d < a.1)) then (d, c, q) else a) (256, 0, 1)).1 % 256

/-- PASS_PCT: frames passed of the frames of the pass (R300). -/
def passPct (s : State) : Nat :=
  let us := scrubTiles s
  let m := (metaTiles s).length
  let n := us.length + m
  let cur := s.drift.cursor
  let done := if cur < 2 ^ 31 then countP (fun l => decide (l < cur)) us else us.length + (cur - 2 ^ 31)
  if n = 0 then 0 else (done * 256 + s.drift.line) * 100 / (n * 256)

/-- Retired tiles: those in state 3 on live dies, and every tile of a die that is not live, anchors and sentinels excluded (08 R260, R272). -/
def retiredTiles (s : State) : Nat :=
  let dies := match s.sec.variant with
    | .y32 => 192
    | .y16 => 96
  countP (fun x => decide (x.2 = 3) && dieLive s (ptnDieIx x.1)) s.tabs.tile + (dies - (liveDies s).length) * (2 ^ 24 - reservedPerDie)

/-- MAPCTL (R139, R241, R272, R300). -/
def roMapctl (s : State) (slot : Nat) : Nat :=
  if slot = 0 then
    b2n (decide (s.pwr.st = .service) && s.pwr.warm) + b2n s.mapu.ckpt.isSome * 2 + (tilesOf s.mapu.resident).length / 128 % 2 ^ 14 * 2 ^ 2
  else if slot = 3 then sat 10 (tailCount s / 1024)
  else if slot = 4 then s.mapu.ckptNo % 2 ^ 20
  else if slot = 5 then s.tabs.clones.length / 1024 % 2 ^ 18
  else if slot = 35 then cisternCount s / 32 % 2 ^ 20
  else if slot = 36 then slotTotal s / 32 % 2 ^ 20
  else if slot = 37 then b2n s.cist.pacing + b2n s.cist.energyBound * 2 ^ 3 + hotDieOf s * 2 ^ 4
  else if slot = 39 then
    let d := regF s .mapctl 0 38 7 0
    quotaOf s d / 4096 % 2 ^ 8 + sat 8 (dirtyOf s d / 128) * 2 ^ 8
  else if slot = 42 then passPct s + b2n s.drift.pausedAt.isSome * 2 ^ 7 + b2n s.drift.range.isSome * 2 ^ 8
  else if slot = 43 then sat 16 (s.drift.refq.length / 16)
  else if slot = 50 then capCode s.wear.cond + spareCount s / 16384 % 2 ^ 18 * 2 ^ 2
  else if slot = 51 then retiredTiles s / 4096 % 2 ^ 20
  else if slot = 52 then sat 9 s.wear.moves.length
  else if slot = 53 then sumOf (fun x => x.2.length) s.wear.resetq / 1024 % 2 ^ 20
  else if slot = 54 then sat 10 (refusingTiles s).length + s.tabs.refused.length / 1024 % 2 ^ 10 * 2 ^ 10
  else 0

/-- BANK_AGE: hours since the last test, from the epoch count; zero before any test (R522). -/
def bankAge (s : State) : Nat :=
  match s.zir.testEc with
  | some e => sat 20 ((s.drift.ec + 2 ^ 32 - e) % 2 ^ 32 * 4)
  | none => 0

/-- NEXT_REPLAN: minutes to the next scheduled re-plan (R522). -/
def nextReplan (s : State) : Nat := sat 20 ((s.zir.lastStart + regF s .zircon 0 2 4 0 * hourNs - now s) / 60000000000)

/-- ZIRCON (R522). -/
def roZircon (s : State) (slot : Nat) : Nat :=
  let z := s.zir
  if slot = 0 then b2n z.forming.isSome + b2n z.testing * 2 + b2n z.guardShort * 2 ^ 2 + planBits z.pend * 2 ^ 3
  else if slot = 5 then sat 10 z.slackNow + sat 10 z.slackMin * 2 ^ 10
  else if 6 ≤ slot ∧ slot ≤ 17 then
    let x := sGet (0x3FF, 0x3FF) z.can (slot - 6)
    sat 10 x.1 + sat 10 x.2 * 2 ^ 10
  else if 18 ≤ slot ∧ slot ≤ 22 then
    let x := sGet (0, 0) z.eyes (slot - 18)
    sat 10 x.1 + sat 10 x.2 * 2 ^ 10
  else if slot = 23 then z.bankC % 2 ^ 20
  else if slot = 24 then z.bankEsr % 2 ^ 20
  else if slot = 25 then z.bankE % 2 ^ 20
  else if slot = 26 then bankAge s
  else if slot = 27 then z.bankE0 % 2 ^ 20
  else if slot = 28 then z.remPct % 2 ^ 7 + z.limiter % 8 * 2 ^ 7 + z.years % 2 ^ 10 * 2 ^ 10
  else if slot = 29 then z.wearMean % 2 ^ 20
  else if slot = 30 then sat 20 (sumOf (fun e => if s.drift.ec < e.1 + 180 then e.2 else 0) z.retires)
  else if slot = 31 then sat 20 z.pEst
  else if slot = 32 then z.floor % 2 ^ 8
  else if slot = 33 then z.planGen % 2 ^ 20
  else if slot = 34 then sat 8 z.sweepLate
  else if slot = 35 then word20 (hoursNow s) 0
  else if slot = 36 then word20 (hoursNow s) 1
  else if slot = 37 then z.cause % 8
  else if slot = 38 then nextReplan s
  else if slot = 39 then z.tplanMax % 2 ^ 20
  else 0

/-- A threshold in °C. -/
def degC (t4 : Int) : Nat := (t4 / 4).toNat % 128

/-- THERMAL (R523). -/
def roThermal (s : State) (slot : Nat) : Nat :=
  let t := thermTime s.th (now s)
  if slot = 0 then
    thermCode t.cond + t.yelLvl % 4 * 2 ^ 3 + t.hotCh % 32 * 2 ^ 5 + t.hotDie % 8 * 2 ^ 10 + b2n s.pwr.haltTh * 2 ^ 13 + b2n s.pwr.restartBlk * 2 ^ 14
      + b2n t.yelFail * 2 ^ 15
  else if slot = 2 then tempCode t.yel + tempCode t.yelPeak * 2 ^ 10
  else if slot = 3 then tempCode t.media + tempCode t.mediaPeak * 2 ^ 10
  else if 4 ≤ slot ∧ slot ≤ 7 then
    sumOf (fun j => if 10 * (slot - 4) + j < 32 then chanLevel s (10 * (slot - 4) + j) % 4 * 2 ^ (2 * j) else 0) (List.range 10)
  else if slot = 9 then sat 8 (sumOf (fun c => (chanAt s c).sensBad.length) (List.range 32))
  else if slot = 10 then sat 20 (t.warnNs / 1000000000)
  else if slot = 11 then sat 20 (t.t1Ns / 1000000000)
  else if slot = 12 then sat 20 (t.t2Ns / 1000000000)
  else if slot = 13 then t.shutCnt % 2 ^ 20
  else if slot = 14 then t.lastShut % 2 ^ 19
  else if slot = 15 then t.restarts % 2 ^ 20
  else if slot = 16 then degC (thrYel s 1) + degC (thrYel s 2) * 2 ^ 7
  else if slot = 17 then degC (thrMedia s 1) + degC (thrMedia s 2) * 2 ^ 7
  else 0

/-- A latch group (R442). -/
def roLatch (l : Latch) (k : Nat) : Nat :=
  if k = 0 then b2n l.valid + b2n l.urgent * 2 + b2n (decide (l.count ≠ 0)) * 2 ^ 2 + l.count % 2 ^ 13 * 2 ^ 3
  else if k = 1 then l.source % 2 ^ 16
  else if k = 2 then l.code % 2 ^ 16
  else if k ≤ 6 then word20 (l.time % 2 ^ 64) (k - 3)
  else if k = 7 then word20 l.arg0 0
  else if k = 8 then word20 l.arg0 1
  else if k = 9 then word20 l.arg1 0
  else if k = 10 then word20 l.arg1 1
  else l.arg2 % 2 ^ 16

/-- FAULT (R442, R443). -/
def roFault (s : State) (slot : Nat) : Nat :=
  if slot < 12 then roLatch s.flt.ce slot
  else if slot < 24 then roLatch s.flt.uc (slot - 12)
  else if slot < 36 then roLatch s.flt.ft (slot - 24)
  else if slot = 36 then b2n s.flt.ce.valid + b2n s.flt.uc.valid * 2 + b2n s.flt.ft.valid * 4
  else if slot = 38 then s.flt.ceTotal % 2 ^ 20
  else if slot = 39 then s.flt.ucTotal % 2 ^ 20
  else if slot = 40 then s.flt.escTotal % 2 ^ 20
  else if slot = 41 then b2n s.pwr.aliveRun
  else 0

/-- AGATE, for a requester (R444). -/
def roAgate (s : State) (r slot : Nat) : Nat :=
  let l := sGet (0, 0, 0) s.req.seqs r
  if slot = 0 then b2n s.ag.busy
  else if slot = 1 then word20 (agSeqs s).1 0
  else if slot = 2 then word20 l.1 1
  else if slot = 3 then word20 l.2.1 0
  else if slot = 4 then word20 l.2.1 1
  else if slot = 5 then word20 l.2.2 0
  else if slot = 6 then word20 l.2.2 1
  else if slot = 8 then s.ag.badSlots.length % 2 ^ 12
  else if slot = 9 then countP (fun k => (pageAt s pgBadRing).getLsbD k) (List.range 2048)
  else if slot = 10 then s.ag.lost % 2 ^ 20
  else if slot = 11 then s.ag.peerCnt % 2 ^ 20
  else 0

/-- The stored page with the highest PSEQ, the lowest where several have it, and that PSEQ (R540). -/
def wornPage (s : State) : Nat × Nat :=
  s.beryl.slots.foldl (fun (a : Nat × Nat) x =>
    if decide (x.1 % 2 = sGet 0 s.beryl.force (x.1 / 2)) && decide (x.1 / 2 < 3456) && decide (a.2 < x.2.psq) then (x.1 / 2, x.2.psq) else a) (0, 0)

/-- BERYL (R540). -/
def roBeryl (s : State) (slot : Nat) : Nat :=
  let b := s.beryl
  let n := regF s .beryl 0 2 11 0
  let k := sGet 0 b.force n
  if slot = 0 then
    b2n (b.ops.any (fun o => o.begun)) + (match b.prog with
      | x :: _ => x.1 % 2 ^ 12
      | [] => 0) * 2 + b2n (b.ops.any (fun o => !o.begun)) * 2 ^ 13 + b2n b.restored * 2 ^ 14
  else if slot = 3 then
    let w := regF s .beryl 0 2 18 12
    if 3392 ≤ n ∧ n < 3456 then 0 else pgGet s n (16 * w + 15) (16 * w)
  else if slot = 4 then (slotAt s n k).psq % 2 ^ 20
  else if slot = 5 then
    k % 2 + b2n (slotValid n (slotAt s n (1 - k))) * 2 + b2n (sGet false b.dirty n) * 2 ^ 2 + b2n (b.prog.any (fun x => decide (x.1 = n))) * 2 ^ 3
      + b2n (ringBad s n) * 2 ^ 4 + b2n (b.defaulted.contains n) * 2 ^ 5
  else if slot = 6 then b.dirty.length % 2 ^ 13
  else if slot = 7 then b.lostCnt % 2 ^ 13
  else if slot = 8 then b.rollCnt % 2 ^ 13
  else if slot = 9 then (wornPage s).1 % 2 ^ 12
  else if slot = 10 then (wornPage s).2 % 2 ^ 20
  else if slot = 11 then (match b.failPage with
    | some p => p % 2 ^ 12 + 2 ^ 12
    | none => 0)
  else 0

/-- QUARTZ, for a requester (R450, R455). -/
def roQuartz (s : State) (r slot : Nat) : Nat :=
  let z := s.qz
  if slot = 0 then b2n z.frozen
  else if slot = 8 then b2n (sGet false z.ovf (ctrSel s)) * 2 ^ 4
  else if slot = 9 then word20 (shownCtr s (ctrSel s)) 0
  else if slot = 10 then sGet 0 s.req.ctrHi r % 2 ^ 20
  else if slot = 17 then z.dumpTail % 2 ^ 8
  else if slot = 18 then word20 z.dseq 0
  else if slot = 19 then word20 z.dseq 1
  else if 21 ≤ slot ∧ slot ≤ 24 then word20 (z.frzTime % 2 ^ 64) (slot - 21)
  else if slot = 25 then z.ovf.length % 2 ^ 9
  else if slot = 27 then z.lost % 2 ^ 20
  else 0

/-- The VERSION of the staged image. -/
def stagedVer (s : State) : Nat :=
  match s.sec.staged with
  | .verified i => i.version
  | .incomplete _ | .nothing => 0

/-- Progress of a sanitize in percent: tiles not in the reset queue, of those of the live dies (the manual gives no measure; DESIGN CHOICE, log
entry 34). -/
def sanPct (s : State) : Nat :=
  let all := (liveDies s).length * 2 ^ 24
  if s.cmds.sanitizing && decide (0 < all) then (all - countP (fun x => decide (x.2 = 2)) s.tabs.tile) * 100 / all else 0

/-- SECURITY (R562). -/
def roSecurity (s : State) (slot : Nat) : Nat :=
  let x := s.sec
  let die := sGet 0 x.dies (regF s .security 0 12 7 0)
  if slot = 0 then
    x.lifecycle % 4 + b2n x.entropyOk * 2 ^ 2 + b2n (match x.staged with
      | .verified _ => true
      | .incomplete _ | .nothing => false) * 2 ^ 3 + b2n x.selected * 2 ^ 4 + b2n x.advPending * 2 ^ 5 + b2n s.cmds.sanitizing * 2 ^ 6
  else if slot = 2 then x.f % 2 ^ 7
  else if slot = 4 then stagedVer s % 2 ^ 20
  else if slot = 5 then stagedSvn s % 2 ^ 16
  else if slot = 6 then x.revoked.toNat + x.active.keyIdx % 4 * 2 ^ 4
  else if slot = 8 then bitsOf x.lot.toNat 17 0
  else if slot = 9 then bitsOf x.lot.toNat 35 18
  else if slot = 10 then x.x.toNat + x.y.toNat * 2 ^ 8
  else if slot = 11 then x.wafer.toNat
  else if slot = 13 then bitsOf die 17 0
  else if slot = 14 then bitsOf die 35 18
  else if slot = 15 then bitsOf die 56 41
  else if slot = 16 then bitsOf die 40 36 + b2n (dieFailedPg s (regF s .security 0 12 7 0)) * 2 ^ 5
  else if slot = 17 then
    sumOf (fun p => b2n (portAt s p).ideIo * 2 ^ (2 * p) + b2n (portAt s p).ideMem * 2 ^ (2 * p + 1) + b2n (portAt s p).ksetIo * 2 ^ (8 + 2 * p)
      + b2n (portAt s p).ksetMem * 2 ^ (9 + 2 * p)) (List.range 4)
  else if slot = 18 then sat 5 (x.sbSessions.length + sumOf (fun p => (portAt s p).sessions.length) (List.range 4))
  else if slot = 19 then x.fails % 2 ^ 20
  else if slot = 20 then sanPct s + sat 13 x.sanCount * 2 ^ 7
  else if slot = 21 then
    countP (fun k => (keyAt s k).inUse) (List.range 64) + countP (fun k => (keyAt s k).rotating) (List.range 64) * 2 ^ 7
  else 0

/-- POWER (R483, R484). -/
def roPower (s : State) (slot : Nat) : Nat :=
  let p := s.pwr
  if slot < 80 then
    let d := domAt s slot
    (if slot = 0 then 2 else d.st % 4) + d.attempts % 4 * 2 ^ 2 + d.cause % 8 * 2 ^ 4 + sat 7 d.glitches * 2 ^ 9
  else if slot = 80 then
    b2n (decide (10800 ≤ p.vinMv) && decide (p.vinMv ≤ 13200)) + b2n p.pwrFail * 2 + b2n p.auxOn * 2 ^ 2 + b2n (decide (34000 ≤ p.vbankMv)) * 2 ^ 3
      + b2n p.bankFailed * 2 ^ 4 + b2n p.onBank * 2 ^ 5
  else if slot = 82 then p.vinMv % 2 ^ 20
  else if slot = 83 then p.vauxMv % 2 ^ 20
  else if slot = 84 then p.vbankMv % 2 ^ 20
  else if slot = 85 then p.vcore % 2 ^ 11
  else if slot = 86 then p.pinCw % 2 ^ 20
  else if slot = 90 then dsCount s % 2 ^ 20
  else if slot = 91 then dsCount s / 2 ^ 20 % 2 ^ 12
  else if slot = 92 then shutCode s + lastDrainUs s * 2 ^ 2
  else if slot = 93 then p.seqStep % 2 ^ 5 + b2n p.testMode * 2 ^ 5
  else if slot = 94 then countP (fun d => decide ((domAt s d).st = 3)) (List.range 80)
  else if slot = 95 then b2n p.gasp.isSome
  else 0

/-- Whether a CACHE_MAINT runs with lines of a slice still to treat. -/
def maintBusy (s : State) (n : Nat) : Bool :=
  s.cmds.run.any (fun r => r.started && decide ((descOf r.desc).opcode = 0x06)
    && r.waitLines.any (fun x => decide (x % 2 = 0) && decide (sliceOf s.cache (x / 2) = n)))

/-- CACHE (R163). -/
def roCache (s : State) (n slot : Nat) : Nat :=
  let x := sliceAt s n
  if slot = 0 then waysOf s n + b2n x.retired * 2 ^ 5 + b2n (!x.disabling.isEmpty) * 2 ^ 6 + b2n (maintBusy s n) * 2 ^ 7
  else if slot = 5 then x.errSet.getD 0 % 2 ^ 14
  else 0

/-- CHANNEL (R102, R202, R299). While no error is latched, ERR_PTN_LO and ERR_PTN_HI read zero (log entry 91). -/
def roChannel (s : State) (c slot : Nat) : Nat :=
  let x := chanAt s c
  let onCh (o : Op) : Bool := decide (o.die / 8 = c)
  if slot = 0 then
    b2n (mediaBusy s c) + b2n x.retired * 2 + x.live.toNat * 2 ^ 2 + countP (fun o => onCh o && decide (o.kind ≠ .reset)) s.med.ops % 2 ^ 6 * 2 ^ 8
      + countP (fun o => onCh o && decide (o.kind = .reset)) s.med.ops % 2 ^ 5 * 2 ^ 14
  else if slot = 3 then (match x.latch with
    | some (_, t, _) => t % 2 ^ 20
    | none => 0)
  else if slot = 4 then (match x.latch with
    | some (_, t, f) => t / 2 ^ 20 % 2 ^ 12 + f % 2 ^ 8 * 2 ^ 12
    | none => 0)
  else if slot = 5 then sat 20 x.ceCnt
  else if slot = 6 then sat 12 x.ueCnt
  else if slot = 7 then sat 20 (x.tac / (4 * hourUnits))
  else if slot = 8 then x.rdWin % 2 ^ 10
  else if slot = 10 then x.deadline % 2 ^ 10
  else if slot = 11 then x.tblGen % 2 ^ 8 + x.maxClass % 16 * 2 ^ 8
  else 0

/-! ## A slot as read (13 R402, R403, R414) -/

/-- The domain of a block instance (R419). -/
def blkDom (b : Blk) (i : Nat) : Nat :=
  match b with
  | .global | .agate | .beryl | .power => 0
  | .port | .ring => 2 + i
  | .spinel => 6
  | .mapctl | .zircon | .thermal | .fault | .quartz | .security => 1
  | .cache => 8 + i
  | .channel => 16 + i

/-- The read-only bits of a slot. -/
def roWord (s : State) (r : Nat) (b : Blk) (i slot : Nat) : Nat :=
  match b with
  | .global => roGlobal s r slot
  | .port => roPort s i slot
  | .ring => roRing s i slot
  | .spinel => roSpinel s slot
  | .mapctl => roMapctl s slot
  | .zircon => roZircon s slot
  | .thermal => roThermal s slot
  | .fault => roFault s slot
  | .agate => roAgate s r slot
  | .beryl => roBeryl s slot
  | .quartz => roQuartz s r slot
  | .security => roSecurity s slot
  | .power => roPower s slot
  | .cache => roCache s i slot
  | .channel => roChannel s i slot

/-- The read-only bits of the pending word: what a pending Zircon plan will apply, else the value in force (R403). -/
def roPend (s : State) (r : Nat) (b : Blk) (i slot : Nat) : Nat :=
  match b, slot with
  | .power, 85 => (s.zir.pend.vcore.getD s.pwr.vcore) % 2 ^ 11
  | .zircon, 32 => (s.zir.pend.floor.getD s.zir.floor) % 2 ^ 8
  | .channel, 10 => (match findP (fun x => decide (x.1 = i)) s.zir.pend.deadlines with
    | some x => x.2 % 2 ^ 10
    | none => (chanAt s i).deadline % 2 ^ 10)
  | _, _ => roWord s r b i slot

/-- Whether the slot is a status register: no field is writable (R402). -/
def isStatus (b : Blk) (slot : Nat) : Bool :=
  (slotFields b slot).all (fun f => decide (f.acc = .rc)) && !(decide (b = .power) && decide (slot = 85)) && !(decide (b = .zircon) && decide (slot = 32))

/-- The held words of a slot: the indexes of a ring are the ring's own (12 R367, R368), and Quartz shows what its selectors name (15 R455). -/
def heldCell (s : State) (b : Blk) (i slot : Nat) : RegCell :=
  match b, slot with
  | .ring, 8 => cellOf (BitVec.ofNat 20 (ringAt s i).tail)
  | .ring, 10 => cellOf (BitVec.ofNat 20 (ringAt s i).cplHead)
  | .quartz, 3 => fsAt s (regF s .quartz 0 2 2 0) 0
  | .quartz, 4 => fsAt s (regF s .quartz 0 2 2 0) 1
  | .quartz, 5 => fsAt s (regF s .quartz 0 2 2 0) 2
  | .quartz, 6 => fsAt s (regF s .quartz 0 2 2 0) 3
  | .quartz, 8 =>
    let x := sGet (0, 0) s.qz.fset (ctrSel s)
    { act := BitVec.ofNat 20 x.1, pend := BitVec.ofNat 20 x.2, rc := 0 }
  | _, _ => cellAt s b i slot

/-- The slot's 40 bits with its domain on. -/
def slotWord (s : State) (r : Nat) (b : Blk) (i slot : Nat) : Nat :=
  let c := heldCell s b i slot
  let h := heldMask b slot
  let act := roWord s r b i slot ||| (c.act.toNat &&& h) ||| (c.rc.toNat &&& rcMask b slot)
  let pend := if isStatus b slot then 0 else roPend s r b i slot ||| (c.pend.toNat &&& h)
  act % 2 ^ 20 + pend % 2 ^ 20 * 2 ^ 20

/-- Whether a slot answers: its domain is on, or it is an exception of R414: slot 0 of a retired channel or slice while D01 is on, and
SECURITY.DBG_CTL in every state but OFF. -/
def slotAnswers (s : State) (b : Blk) (i slot : Nat) : Bool :=
  domOn s (blkDom b i)
    || (domOn s 1 && decide (slot = 0) && ((decide (b = .cache) && (sliceAt s i).retired) || (decide (b = .channel) && (chanAt s i).retired)))
    || (decide (b = .security) && decide (slot = 7) && decide (s.pwr.st ≠ .off))

/-- The value that a read returns to a requester (R402, R414). -/
def regRead (s : State) (r : Nat) (b : Blk) (i slot : Nat) : Nat := if slotAnswers s b i slot then slotWord s r b i slot else 0

/-! ## Every register (12 R385; 13 R419) -/

/-- The slots a block occupies. -/
def slotsOf (b : Blk) : List Nat :=
  match b with
  | .global | .zircon => List.range 40
  | .port => List.range 32
  | .ring | .channel | .agate => List.range 12
  | .spinel => List.range 36
  | .mapctl => List.range 24 ++ (List.range 13).map (· + 32) ++ (List.range 7).map (· + 48)
  | .thermal => List.range 18
  | .fault => List.range 44
  | .beryl => List.range 14
  | .quartz => List.range 28
  | .security => List.range 22
  | .power => List.range 96
  | .cache => List.range 10

/-- The 1,034 registers in ascending block and offset order. -/
def allRegs : List (Blk × Nat × Nat) :=
  (List.range 128).flatMap (fun x => match blkOf x with
    | some (b, i) => (slotsOf b).map (fun k => (b, i, k))
    | none => [])

end Sys2Proof.Machine
end

