-- ==== Sys2Proof/Machine/SpinelJoin.lean ====
section
/-! DEFINITION. The commands of joins and resync (10 R323, R329 to R333, R336): the link becoming ACTIVE, JOIN messages, the sync of a tile at
the source and at the target, and the handover of homes. -/

namespace Sys2Proof.Machine

/-! ## The link becomes ACTIVE (10 R310, R314, R323) -/

/-- JOINING from a role that served: requests admitted are answered, mirrored commands end (10 R326; log entry 20). -/
def startJoining (s : State) : State := tryDecide (fenceAll (enterJoining (tasksLost s)))

/-- SPINEL_LINK_ACTIVE: full pools of credits, or after a retrain in PAIRED or RESYNC the replay of what was kept. In SERVICE the role may
become JOINING. -/
def spinelLinkActiveF (s : State) (lanes : Nat) (pv : Variant) (ps : Bool) (serial : BitVec 128) : State :=
  if !domOn s 6 || decide (lanes < 8) then s
  else
    let again := keepsTx s
    let s := { s with pair := { s.pair with
      linkUp := true, lanes := if 16 ≤ lanes then 16 else 8, peerVariant := pv, peerSeat := ps, peerSerial := serial, linkAt := now s } }
    if again then settle (pumpTx (replayAll s))
    else
      let s := { s with pair := { s.pair with fseq := 0, rxSeq := 1023, mir := 2048, req := 2048, bulk := 512 } }
      if s.pwr.st ≠ .service then s
      else match s.pair.role with
        | .unpaired => if regB s .spinel 0 2 0 || s.pair.joinCmd then startJoining s else s
        | .fenced | .solo => startJoining s
        | .joining => tryDecide (sendJoin s)
        | .paired | .resync => s

def execSpinelLinkActive (lanes : Nat) (peer : Variant) (peerSeat : Bool) (peerSerial : BitVec 128) (s : State) :
    Host.Outcome State Fault Refusal := .next (spinelLinkActiveF s lanes peer peerSeat peerSerial)

/-- JOIN_TIMEOUT: no decision within JOIN_TO seconds of entering JOINING, or without an identity within 100 ms of the link becoming ACTIVE
(10 R323). -/
def joinTimeoutF (s : State) : State :=
  if s.pair.role = .joining && s.pwr.st = .service && !s.pair.decided then
    if hasIdentity s then
      (if s.pair.joinAt + regF s .spinel 0 2 6 1 * 1000000000 ≤ now s then joinFails s false else s)
    else if s.pair.linkUp && decide (s.pair.linkAt + 100000000 ≤ now s) then joinFails s false else s
  else s

def execJoinTimeout (s : State) : Host.Outcome State Fault Refusal := .next (joinTimeoutF s)

/-! ## JOIN messages (10 R317, R329) -/

/-- JOIN PAGE: a part of the peer's pairing page 0. -/
def joinPageF (s : State) (part : Nat) (data : Line) : State :=
  if s.pair.linkUp then
    let s := arrive s 1
    tryDecide { s with pair := { s.pair with peerPage := s.pair.peerPage.filter (fun x => x.1 ≠ part) ++ [(part, data)] } }
  else s

def execJoinPage (part : Fin 4) (data : Line) (s : State) : Host.Outcome State Fault Refusal := .next (joinPageF s part.val data)

/-- JOIN OPEN: 16 entries of the peer's open list. -/
def joinOpenF (s : State) (index : Nat) (ltns : List Nat) : State :=
  if s.pair.linkUp then
    let s := arrive s 1
    let base := if index = 0 then [] else s.pair.peerOpen
    { s with pair := { s.pair with
      peerOpen := ((List.range ltns.length).zip ltns).foldl (fun m x => sSet 0 m (16 * index + x.1) (x.2 + 1)) base } }
  else s

def execJoinOpen (index : Nat) (ltns : List Nat) (s : State) : Host.Outcome State Fault Refusal := .next (joinOpenF s index ltns)

/-- JOIN WELLS: eight WELL_SET values of the source. -/
def joinWellsF (s : State) (index : Nat) (wells : List Well) : State :=
  if s.pair.linkUp then
    let s := arrive s 1
    { s with pair := { s.pair with
      peerWells := ((List.range 8).zip wells).foldl (fun m x => sSet wellInit m (8 * (index % 8) + x.1) x.2) s.pair.peerWells } }
  else s

def execJoinWells (index : Nat) (wells : List Well) (s : State) : Host.Outcome State Fault Refusal := .next (joinWellsF s index wells)

/-- JOIN INUSE: ranges of tiles. -/
def joinInuseF (s : State) (ranges : List (Nat × Nat)) : State :=
  if s.pair.linkUp then
    let s := arrive s 2
    { s with pair := { s.pair with peerInuse := s.pair.peerInuse ++ ranges } }
  else s

def execJoinInuse (ranges : List (Nat × Nat)) (s : State) : Host.Outcome State Fault Refusal := .next (joinInuseF s ranges)

/-- The tiles a target by loss has named join the sync set of the source (log entry 12). -/
def addLost (s : State) : State :=
  let l := peerList s (16 * 128)
  { s with pair := { s.pair with sync := l.foldl (fun m x => sSet false m x true) s.pair.sync, peerOpen := [], peerOpenEnd := false } }

/-- JOIN END: a list is complete. -/
def joinEndF (s : State) (list : Nat) : State :=
  if s.pair.linkUp then
    let s := arrive s 1
    if list = 0 then
      let s := { s with pair := { s.pair with peerOpenEnd := true } }
      if s.pair.role = .resync && s.pair.syncSrc && works s then addLost s else tryDecide s
    else if list = 1 then takeOver { s with pair := { s.pair with peerWellsEnd := true } }
    else
      let s := { s with pair := { s.pair with peerInuseEnd := true } }
      if s.pair.syncSrc then formSet s else takeSet s
  else s

def execJoinEnd (list : Fin 3) (_count : Nat) (s : State) : Host.Outcome State Fault Refusal := .next (joinEndF s list.val)

/-! ## The sync of a tile at the source (10 R332, R333) -/

/-- The next tile: those of PIN wells first, each group in ascending LTN. -/
def nextSync (s : State) : Option Nat :=
  let l := tilesOf s.pair.sync
  let pin (x : Nat) : Bool := match wellOfLtn s.tabs.wells x with
    | some (_, w) => w.pin
    | none => false
  match findP pin l with
  | some x => some x
  | none => l.head?

/-- CLASS and pattern of a tile, and the lines to send: every line of a DATA tile, else those written and not yet programmed. -/
def syncClass (s : State) (ltn : Nat) : TileClass × BitVec 32 × List Nat :=
  let e := entryAt s ltn
  let all := (List.range 256).map (· + ltn * 256)
  let held := all.filter (fun d => (match findWay s d with
    | some (_, w) => dirtyW w
    | none => false) || (findCis s d).isSome)
  match e.st with
  | .unwritten => (.unwritten, 0, held)
  | .const => (.const, e.ptn, held)
  | .lost => (.lost, 0, held)
  | .mapped | .shared | .migrating | .refusing => (.data, 0, all)

/-- Lines of 64 bytes that RATE GB/s allows in an epoch (10 R332). -/
def rateLines (s : State) : Nat := regF s .spinel 0 3 5 0 * 1000 / 64

/-- Send lines of the tile under sync while the rate allows; the first component tells how often it may go on. -/
def sendLines (bad : List (Nat × SenseRes × SenseRes)) : List Nat → State → State
  | [], s =>
    (match s.pair.syncing with
      | some l => { send s (.tileEnd l s.pair.syncSent) with pair := { (send s (.tileEnd l s.pair.syncSent)).pair with syncLines := [] } }
      | none => s)
  | d :: r, s =>
    if rateLines s ≤ s.pair.resyncSent then { s with pair := { s.pair with syncLines := d :: r } }
    else
      let clean : SenseRes := { errs := 0, markerOk := true }
      let (x, y) := match findP (fun b => decide (b.1 = d)) bad with
        | some b => b.2
        | none => (clean, clean)
      let (s, v) := readRaw s d x y
      match v with
      | .never => sendLines bad r s
      | .line v => sendLines bad r (sent (send s (.line d v.p v.pcause v.data)))
      | .bad => sendLines bad r (sent (send s (.line d true 1 0)))
where
  /-- One LINE more. -/
  sent (s : State) : State := { s with pair := { s.pair with resyncSent := s.pair.resyncSent + 1, syncSent := s.pair.syncSent + 1 } }

/-- RESYNC_TILE_START: ENTRY goes in the mirrored-write stream, then the tile's lines at the rate of R332, then TILE_END. -/
def resyncTileStartF (s : State) (bad : List (Nat × SenseRes × SenseRes)) : State :=
  if s.pair.role = .resync && s.pair.syncSrc && s.pair.linkUp && s.pwr.st = .service && decide (s.pair.hand = .none) then
    match s.pair.syncing with
    | some _ => if s.pair.syncLines.isEmpty then s else sendLines bad s.pair.syncLines s
    | none => match nextSync s with
      | none => s
      | some l =>
        if s.pair.mir = 0 then s
        else
          let s := if pageHere s (pageOf l) then s else convertEntry s l
          let (c, pat, lines) := syncClass s l
          let (g, s) := takeMtag s
          let s := send { s with pair := { s.pair with
            opens := s.pair.opens ++ [.entry g l], syncing := some l, syncSent := 0, syncLines := lines } } (.entry g l c pat)
          sendLines bad lines s
  else s

def execResyncTileStart (bad : List (Nat × SenseRes × SenseRes)) (s : State) : Host.Outcome State Fault Refusal :=
  .next (resyncTileStartF s bad)

/-- RESYNC_TILE TILE_ACK: the tile leaves the sync set; after the last the source gives up homes (10 R333, R336). -/
def tileAckF (s : State) (ltn : Nat) : State :=
  if works s then
    let s := arrive s 3
    if s.pair.role = .resync && s.pair.syncSrc && decide (s.pair.syncing = some ltn) then
      let s := { s with pair := { s.pair with syncing := none, syncLines := [], sync := sSet false s.pair.sync ltn false } }
      if s.pair.sync.isEmpty then send { s with pair := { s.pair with hand := .giving false } } .doneReq else s
    else s
  else s

def execTileAck (ltn : Nat) (s : State) : Host.Outcome State Fault Refusal := .next (tileAckF s ltn)

/-! ## The sync of a tile at the target (10 R333) -/

/-- RESYNC_TILE ENTRY: the tile's lines and moves are discarded, and it becomes UNWRITTEN, CONST or LOST. -/
def resyncTileEntryF (s : State) (mtag ltn : Nat) (cls : TileClass) (pattern : BitVec 32) : State :=
  if works s && decide (s.pair.role = .resync) && s.pair.isTarget then
    let s := arrive s 0
    let s := match cls with
      | .unwritten | .data => replaceTile s ltn .unwritten 0
      | .const => replaceTile s ltn .const pattern
      | .lost => replaceTile s ltn .lost 0
    let s := { s with
      cist := { s.cist with waits := s.cist.waits.filter (fun w => !(decide (ltnOf w.dln = ltn) && decide (w.org = .internal))) }
      pair := { s.pair with fresh := s.pair.fresh.filter (fun d => ltnOf d ≠ ltn) } }
    settle (ackMir s mtag)
  else s

def execResyncTileEntry (mtag ltn : Nat) (cls : TileClass) (pattern : BitVec 32) (s : State) : Host.Outcome State Fault Refusal :=
  .next (resyncTileEntryF s mtag ltn cls pattern)

/-- RESYNC_TILE LINE: installed, unless a MIRROR_WRITE to the line has come since the ENTRY. -/
def resyncTileLineF (s : State) (dln : Nat) (p : Bool) (pcause : BitVec 2) (data : Line) : State :=
  if works s && decide (s.pair.role = .resync) && s.pair.isTarget then
    let s := arrive s 2
    if s.pair.fresh.contains dln then s
    else settle (sliceWrite s (ownWrite dln .internal { data := data, p := p, pcause := pcause }))
  else s

def execResyncTileLine (dln : Nat) (p : Bool) (pcause : BitVec 2) (data : Line) (s : State) : Host.Outcome State Fault Refusal :=
  .next (resyncTileLineF s dln p pcause data)

/-- RESYNC_TILE TILE_END: acknowledged once every LINE is installed or discarded. -/
def tileEndF (s : State) (ltn : Nat) : State :=
  if works s && decide (s.pair.role = .resync) && s.pair.isTarget then
    let s := arrive s 2
    settle { s with pair := { s.pair with syncing := some ltn } }
  else s

def execTileEnd (ltn _lines : Nat) (s : State) : Host.Outcome State Fault Refusal := .next (tileEndF s ltn)

/-! ## The handover (10 R336) -/

/-- RESYNC_DONE REQ: this module will take homes; it holds what it would forward, and answers after what it has forwarded. In PAIRED the
peer has lost tiles: this module becomes their source. -/
def resyncDoneReqF (s : State) : State :=
  if works s then
    let s := arrive s 1
    let take (s : State) : State := send { s with pair := { s.pair with hand := .taking } } .doneAck
    match s.pair.role with
    | .paired =>
      let s := addLost { s with pair := { s.pair with sync := [], bitmap := [] } }
      take (let s := poisonAsked (evalStop (roleTo s .resync)); { s with pair := { s.pair with syncSrc := true, isTarget := false } })
    | .resync => if s.pair.isTarget then take s else s
    | .joining => if s.pair.isTarget && s.pair.decided then take s else s
    | .unpaired | .solo | .fenced => s
  else s

def execResyncDoneReq (s : State) : Host.Outcome State Fault Refusal := .next (resyncDoneReqF s)

/-- RESYNC_DONE ACK: the giver sends SWITCH once nothing of its own is open. -/
def resyncDoneAckF (s : State) : State :=
  if works s then
    let s := arrive s 1
    match s.pair.hand with
    | .giving _ => settle (afterAcks { s with pair := { s.pair with hand := .giving true } })
    | .none | .taking | .leaving => s
  else s

def execResyncDoneAck (s : State) : Host.Outcome State Fault Refusal := .next (resyncDoneAckF s)

/-- RESYNC_DONE SWITCH: the new homes hold, and the held writes go to them. -/
def resyncDoneSwitchF (s : State) : State :=
  if works s then
    let s := arrive s 1
    match s.pair.hand with
    | .taking =>
      let s := if s.pair.isTarget then pairUp s else s
      settle (switchHomes s false)
    | .none | .giving _ | .leaving => s
  else s

def execResyncDoneSwitch (s : State) : Host.Outcome State Fault Refusal := .next (resyncDoneSwitchF s)

end Sys2Proof.Machine
end

