-- ==== Sys2Proof/Machine/RingCmds.lean ====
section
/-! DEFINITION. Ring commands that return no buffer (12 R381 to R384, R386): wells, FILL, CLONE, CACHE_MAINT, POISON_CLEAR, PIN_MAP,
FLUSH_TO_MEDIA, SETTINGS_STORE, FW_ACTIVATE, SANITIZE, TWIN_CONTROL, CAPACITY_RELEASE, SCRUB_CONTROL and KEY_ROTATE. Each row starts its
descriptor, or lets it go on. -/

namespace Sys2Proof.Machine

/-! ## Checks -/

/-- Checks that all pass, of a command accepted in some states. -/
def checksOf (a : Accept) (badField : Bool) : Checks :=
  { badField := badField, sbOnly := false, accept := a, wrongState := false, expert := false, unlock := false, notOwner := false, own := 0 }

/-- The live well that holds a whole range (12 R378). -/
def rangeWell (s : State) (dpa len : Nat) : Option Well :=
  match findP (fun (x : Nat × Well) => x.2.live && decide (x.2.base * blockBytes ≤ dpa) && decide (dpa + len ≤ (x.2.base + x.2.size) * blockBytes))
      s.tabs.wells with
  | some x => some x.2
  | none => none

/-- Whether a source is refused a range: not one live well, or, where `prot` says that the command asks, a PROTECTED well of other ports (12
R378, R379). -/
def notOwnerOf (s : State) (src dpa len : Nat) (prot : Bool) : Bool :=
  match rangeWell s dpa len with
  | none => true
  | some w => prot && w.prot && !(decide (src % 8 < 4) && w.mask.getLsbD (src % 8))

/-- Whether a range misses a multiple, or the logical capacity (12 R376). -/
def badRange (s : State) (k dpa len : Nat) : Bool :=
  decide (dpa % k ≠ 0) || decide (len % k ≠ 0) || decide (capacity s.sec.variant < dpa + len)

/-- Start a mirrored command. -/
def issueRun (s : State) (r : Running) (_ : Desc) : State := issue s r.desc (some r) []

/-! ## Wells (02 R34 to R40) -/

def wellCreateChecks (s : State) (r : Running) (d : Desc) : Checks :=
  { checksOf .active (unused r.desc 6 true false true 14 || !attrOk d.arg1 || !rangeOk s.sec.variant d.addr0 d.len) with
    expert := bitOf d.arg1 6 && !expertEn s 0
    wrongState := !s.sec.entropyOk
    own := createStatus s (d.arg0 % 64) (wellFrom d.addr0 d.len d.arg1) }

/-- WELL_CREATE (12 R383). -/
def wellCreateF (s : State) (src : Nat) (tag : BitVec 16) : State := cmdRow s src tag 0x01 anyDesc wellCreateChecks issueRun

def execWellCreate (src : Src) (tag : BitVec 16) (s : State) : Host.Outcome State Fault Refusal := .next (wellCreateF s src.val tag)

def wellDestroyChecks (s : State) (r : Running) (d : Desc) : Checks :=
  { checksOf .active (unused r.desc 6 false false false 0) with own := destroyStatus s (d.arg0 % 64) }

/-- WELL_DESTROY (02 R40). -/
def wellDestroyF (s : State) (src : Nat) (tag : BitVec 16) : State := cmdRow s src tag 0x02 anyDesc wellDestroyChecks issueRun

def execWellDestroy (src : Src) (tag : BitVec 16) (s : State) : Host.Outcome State Fault Refusal := .next (wellDestroyF s src.val tag)

def wellModifyChecks (s : State) (r : Running) (d : Desc) : Checks :=
  { checksOf .active (unused r.desc 6 false false false 14 || !attrOk d.arg1) with
    expert := bitOf d.arg1 6 && !expertEn s 0
    own := modifyStatus s (d.arg0 % 64) d.arg1 }

/-- WELL_MODIFY (02 R37). -/
def wellModifyF (s : State) (src : Nat) (tag : BitVec 16) : State := cmdRow s src tag 0x03 anyDesc wellModifyChecks issueRun

def execWellModify (src : Src) (tag : BitVec 16) (s : State) : Host.Outcome State Fault Refusal := .next (wellModifyF s src.val tag)

/-! ## Tiles and lines (02 R67; 07 R236; 08 R267; 12 R384) -/

def fillChecks (s : State) (r : Running) (d : Desc) : Checks :=
  { checksOf .active (unused r.desc 0 true false true 32 || badRange s 16384 d.addr0 d.len || decide (d.len = 0)) with
    notOwner := notOwnerOf s r.src d.addr0 d.len true }

/-- FILL (02 R67). -/
def fillF (s : State) (src : Nat) (tag : BitVec 16) : State := cmdRow s src tag 0x04 anyDesc fillChecks issueRun

def execFill (src : Src) (tag : BitVec 16) (s : State) : Host.Outcome State Fault Refusal := .next (fillF s src.val tag)

/-- Whether two ranges of one length overlap. -/
def rangesMeet (a b len : Nat) : Bool := decide (a < b + len) && decide (b < a + len)

/-- The status of a CLONE between wells of different READ_UNWRITTEN policies, which R236 refuses without naming one: FREE VALUE, never
SUCCESS (log entry 8). -/
def cloneRefusal : Nat := 1 + Config.external 50 0 % 18

/-- CLONE's own conditions: 0x0A OVERLAP, the policies, 7 NO_RESOURCE. -/
def cloneStatus (s : State) (d : Desc) : Nat :=
  let ru (dpa : Nat) : Bool := match rangeWell s dpa d.len with
    | some w => w.ruZero
    | none => false
  if rangesMeet d.addr0 d.addr1 d.len then 0x0A
  else if ru d.addr0 != ru d.addr1 then cloneRefusal
  else if 2 ^ 27 ≤ s.tabs.clones.length ∨ 2 ^ 29 ≤ cloneNodes s then 7
  else 0

def cloneChecks (s : State) (r : Running) (d : Desc) : Checks :=
  { checksOf .active (unused r.desc 0 true true true 0 || badRange s 16384 d.addr0 d.len || badRange s 16384 d.addr1 d.len || decide (d.len = 0)) with
    notOwner := notOwnerOf s r.src d.addr0 d.len true || notOwnerOf s r.src d.addr1 d.len true
    own := cloneStatus s d }

/-- CLONE (07 R236). -/
def cloneF (s : State) (src : Nat) (tag : BitVec 16) : State := cmdRow s src tag 0x05 anyDesc cloneChecks issueRun

def execClone (src : Src) (tag : BitVec 16) (s : State) : Host.Outcome State Fault Refusal := .next (cloneF s src.val tag)

def poisonClearChecks (s : State) (r : Running) (d : Desc) : Checks :=
  { checksOf .active (unused r.desc 0 true false true 0 || badRange s 64 d.addr0 d.len) with
    notOwner := notOwnerOf s r.src d.addr0 d.len true }

/-- POISON_CLEAR (12 R384). -/
def poisonClearF (s : State) (src : Nat) (tag : BitVec 16) (ue : List Nat) : State :=
  cmdRow s src tag 0x07 anyDesc poisonClearChecks (fun s r _ => issue s r.desc (some r) ue)

def execPoisonClear (src : Src) (tag : BitVec 16) (ueLines : List Nat) (s : State) : Host.Outcome State Fault Refusal :=
  .next (poisonClearF s src.val tag ueLines)

def capacityReleaseChecks (s : State) (r : Running) (d : Desc) : Checks :=
  { checksOf .active (unused r.desc 0 true false true 0 || badRange s blockBytes d.addr0 d.len) with
    unlock := true
    notOwner := notOwnerOf s r.src d.addr0 d.len true }

/-- CAPACITY_RELEASE (08 R267). -/
def capacityReleaseF (s : State) (src : Nat) (tag : BitVec 16) : State := cmdRow s src tag 0x12 anyDesc capacityReleaseChecks issueRun

def execCapacityRelease (src : Src) (tag : BitVec 16) (s : State) : Host.Outcome State Fault Refusal := .next (capacityReleaseF s src.val tag)

def sanitizeChecks (s : State) (r : Running) (_ : Desc) : Checks :=
  { checksOf .active (unused r.desc 0 false false false 0) with unlock := true, wrongState := !s.sec.entropyOk }

/-- SANITIZE (12 R386). -/
def sanitizeF (s : State) (src : Nat) (tag : BitVec 16) : State := cmdRow s src tag 0x10 anyDesc sanitizeChecks issueRun

def execSanitize (src : Src) (tag : BitVec 16) (s : State) : Host.Outcome State Fault Refusal := .next (sanitizeF s src.val tag)

def keyRotateChecks (s : State) (r : Running) (d : Desc) : Checks :=
  { checksOf .active (unused r.desc 6 false false false 0) with wrongState := !s.sec.entropyOk, own := rotateStatus s (d.arg0 % 64) }

/-- KEY_ROTATE (06 R199). -/
def keyRotateF (s : State) (src : Nat) (tag : BitVec 16) : State := cmdRow s src tag 0x16 anyDesc keyRotateChecks issueRun

def execKeyRotate (src : Src) (tag : BitVec 16) (s : State) : Host.Outcome State Fault Refusal := .next (keyRotateF s src.val tag)

/-! ## Cache, map pages, medium (05 R152, R153; 03 R97; 02 R63) -/

/-- The lines that a CACHE_MAINT treats: those of its range that are valid, and those whose lock is held at its start, which it takes in turn (05
R148, R149, R153). -/
def maintLines (s : State) (d : Desc) : List Nat :=
  let inRange (x : Nat) : Bool := bitOf d.arg0 4 || (decide (dlnOf d.addr0 ≤ x) && decide (x < dlnOf (d.addr0 + d.len)))
  let held := (s.med.senses.filter (fun x => !x.stale)).map (·.dln) ++ s.cache.locks.map (·.dln)
  (dedup ((s.cache.ways.filter (fun x => x.2.v)).map (·.2.dln) ++ held)).filterMap (fun x => if inRange x then some (2 * x) else none)

def cacheMaintChecks (s : State) (r : Running) (d : Desc) : Checks :=
  let all := bitOf d.arg0 4
  { checksOf .service (unused r.desc 5 true false true 0 || decide (bitsOf d.arg0 3 2 ≠ 0) || decide (d.arg0 % 4 = 3)
      || (!all && badRange s 64 d.addr0 d.len)) with
    notOwner := !all && notOwnerOf s r.src d.addr0 d.len false }

/-- CACHE_MAINT (05 R152, R153). -/
def cacheMaintF (s : State) (src : Nat) (tag : BitVec 16) : State :=
  cmdRow s src tag 0x06 anyDesc cacheMaintChecks (fun s r d => modRun s r (fun x => { x with waitLines := maintLines s d }))

def execCacheMaint (src : Src) (tag : BitVec 16) (upset : List (Nat × ArrErr)) (s : State) : Host.Outcome State Fault Refusal :=
  .next (cacheMaintF (putUpsets s upset) src.val tag)

/-- What a FLUSH_TO_MEDIA waits for: the dirty cache lines and the Cistern lines of its instant. -/
def flushItems (s : State) : List Nat :=
  (s.cache.ways.filter (fun x => x.2.v && dirtyW x.2)).map (fun x => 2 * x.2.dln) ++ s.cist.ents.map (fun e => 2 * e.slot + 1)

/-- FLUSH_TO_MEDIA (02 R63). -/
def flushToMediaF (s : State) (src : Nat) (tag : BitVec 16) : State :=
  cmdRow s src tag 0x09 anyDesc (fun _ r _ => checksOf .service (unused r.desc 0 false false false 0))
    (fun s r _ => modRun s r (fun x => { x with waitLines := flushItems s, result := (flushItems s).length }))

def execFlushToMedia (src : Src) (tag : BitVec 16) (s : State) : Host.Outcome State Fault Refusal := .next (flushToMediaF s src.val tag)

/-- One page that PIN_MAP loads, as a demand map read does: what runs in its partition is suspended. `res` gives what the senses return, by page × 256 +
frame (07 R231). -/
def pinLoad (res : List (Nat × SenseRes × SenseRes)) (s : State) (p : Nat) : State :=
  let (s, bad) := match nodeTile s p with
    | some t => senseTile (suspendOps s t 256) t (mseqAt s t) (p * 256) res 256 0
    | none => (s, [])
  let s := mapLost s (bad.flatMap (frameEntries p))
  (pageTiles s p).foldl scanEntry (markLoaded (installPage s p true) p)

/-- Load the non-resident pages of the range, and keep all of it with PIN-well priority (07 R213; 12 R383). -/
def pinPagesF (s : State) (r : Running) (d : Desc) (res : List (Nat × SenseRes × SenseRes)) : State :=
  let ps := (List.range (d.len / 2 ^ 25)).map (· + d.addr0 / 2 ^ 25)
  let load := ps.filter (fun p => !pageHere s p)
  let s := { s with mapu := { s.mapu with pinPages := dedup (s.mapu.pinPages ++ ps) } }
  let s := load.foldl (pinLoad res) s
  let s := if !s.pwr.warm && decide (s.pwr.st = .service) && (warmerPage s).isNone then enterWarm s else s
  completeRun s r 0 load.length []

def pinMapChecks (s : State) (r : Running) (d : Desc) : Checks :=
  { checksOf .service (unused r.desc 0 true false true 0 || badRange s (2 ^ 25) d.addr0 d.len) with
    notOwner := notOwnerOf s r.src d.addr0 d.len false }

/-- PIN_MAP (12 R383). What is uncorrectable waits while the journal takes no update (07 R223). -/
def pinMapF (s : State) (src : Nat) (tag : BitVec 16) (res : List (Nat × SenseRes × SenseRes)) : State :=
  if tailFull s && !res.isEmpty then flagTailStall s
  else cmdRow s src tag 0x08 anyDesc pinMapChecks (fun s r d => pinPagesF s r d res)

def execPinMap (src : Src) (tag : BitVec 16) (res : List (Nat × SenseRes × SenseRes)) (s : State) : Host.Outcome State Fault Refusal :=
  .next (pinMapF s src.val tag res)

/-! ## Stores and firmware (19 R528; 20 R549) -/

/-- The pages that a SETTINGS_STORE names. -/
def storeRange (d : Desc) : Nat × Nat :=
  if bitOf d.arg0 0 then (0, 4095)
  else if bitsOf d.arg0 24 13 = 0 then (1, 0)
  else (bitsOf d.arg0 12 1, bitsOf d.arg0 12 1 + bitsOf d.arg0 24 13 - 1)

/-- SETTINGS_STORE (19 R528). It completes when its store operation ends. -/
def settingsStoreF (s : State) (src : Nat) (tag : BitVec 16) : State :=
  cmdRow s src tag 0x0D anyDesc
    (fun _ r d => checksOf .boot (unused r.desc 25 false false false 0
      || (!bitOf d.arg0 0 && decide (4096 < bitsOf d.arg0 12 1 + bitsOf d.arg0 24 13))))
    (fun s r d => startStore (modRun s r (fun x => { x with waitStore := some s.beryl.nextOp })) 0 [storeRange d] false)

def execSettingsStore (src : Src) (tag : BitVec 16) (s : State) : Host.Outcome State Fault Refusal := .next (settingsStoreF s src.val tag)

/-- Whether the staging slot holds a verified image. -/
def isVerified (x : Staged) : Bool :=
  match x with
  | .verified _ => true
  | .incomplete _ | .nothing => false

/-- FW_ACTIVATE (20 R549). -/
def fwActivateF (s : State) (src : Nat) (tag : BitVec 16) : State :=
  cmdRow s src tag 0x0F anyDesc
    (fun s r d => { checksOf .boot (unused r.desc 1 false false false 0) with wrongState := !bitOf d.arg0 0 && !isVerified s.sec.staged })
    (fun s r d => completeRun { s with sec := { s.sec with selected := !bitOf d.arg0 0 } } r 0 0 [])

def execFwActivate (src : Src) (tag : BitVec 16) (s : State) : Host.Outcome State Fault Refusal := .next (fwActivateF s src.val tag)

/-! ## TWIN_CONTROL (10 R321, R323, R331, R334) -/

/-- The action of a descriptor. Values 4 to 7 are out of range; the row of JOIN refuses them. -/
def twinIs (k : Nat) (d : Desc) : Bool := if 4 ≤ d.arg0 % 8 then decide (k = 0) else decide (d.arg0 % 8 = k)

/-- Whether the fields that TWIN_CONTROL leaves unused are zero, and its action is one of the four. -/
def twinBad (r : Running) (d : Desc) : Bool := unused r.desc 3 false false false 0 || decide (4 ≤ d.arg0 % 8)

def twinJoinChecks (s : State) (r : Running) (d : Desc) : Checks :=
  { checksOf .service (twinBad r d) with wrongState := match s.pair.role with
      | .unpaired | .solo | .fenced => false
      | .joining | .paired | .resync => true }

/-- TWIN_CONTROL JOIN: JOINING at once if the link is ACTIVE, else when it becomes so. It completes when JOINING ends. -/
def twinJoinF (s : State) (src : Nat) (tag : BitVec 16) : State :=
  cmdRow s src tag 0x11 (twinIs 0) twinJoinChecks (fun s _ _ =>
    let s := { s with pair := { s.pair with joinCmd := true } }
    if s.pair.linkUp then startJoining s else s)

def execTwinControlJoin (src : Src) (tag : BitVec 16) (s : State) : Host.Outcome State Fault Refusal := .next (twinJoinF s src.val tag)

/-- TWIN_CONTROL LEAVE: admission stops; the role becomes FENCED once every MIRROR_WRITE is acknowledged, or after 10 µs. -/
def twinLeaveF (s : State) (src : Nat) (tag : BitVec 16) : State :=
  leaveGoesOn (cmdRow s src tag 0x11 (twinIs 1)
    (fun s r d => { checksOf .service (twinBad r d) with wrongState := decide (s.pair.role ≠ .paired) })
    (fun s r _ => modRun { s with pair := { s.pair with hand := .leaving } } r (fun x => { x with prog := now s })))

def execTwinControlLeave (src : Src) (tag : BitVec 16) (s : State) : Host.Outcome State Fault Refusal := .next (twinLeaveF s src.val tag)

def twinPromoteChecks (s : State) (r : Running) (d : Desc) : Checks :=
  { checksOf .service (twinBad r d) with
    sbOnly := true, unlock := true, wrongState := decide (s.pair.role ≠ .fenced) || s.pair.linkUp || s.pair.witOk }

/-- TWIN_CONTROL PROMOTE: SOLO without the guard. Without a valid open list the bitmap is recorded as lost. -/
def twinPromoteF (s : State) (src : Nat) (tag : BitVec 16) : State :=
  cmdRow s src tag 0x11 (twinIs 2) twinPromoteChecks (fun s r _ =>
    let s := enterSolo s 0 (if pairOpenValid s then storedOpen s else []) (!pairOpenValid s)
    completeRun s r 0 (roleCode s.pair.role) [])

def execTwinControlPromote (src : Src) (tag : BitVec 16) (s : State) : Host.Outcome State Fault Refusal := .next (twinPromoteF s src.val tag)

/-- TWIN_CONTROL DISCARD: this module gives up what it alone holds. -/
def twinDiscardF (s : State) (src : Nat) (tag : BitVec 16) : State :=
  cmdRow s src tag 0x11 (twinIs 3)
    (fun s r d => { checksOf .service (twinBad r d) with unlock := true, wrongState := !s.pair.diverged })
    (fun s r _ =>
      let s := pgPut (pgPut s pgPairing 207 168 (pairEpoch s)) pgPairing 209 208 0
      let s := storePairing { s with pair := { s.pair with diverged := false } } false
      completeRun s r 0 (roleCode s.pair.role) [])

def execTwinControlDiscard (src : Src) (tag : BitVec 16) (s : State) : Host.Outcome State Fault Refusal := .next (twinDiscardF s src.val tag)

/-! ## SCRUB_CONTROL (09 R295) -/

/-- The action of a descriptor. -/
def scrubIs (k : Nat) (d : Desc) : Bool := decide (d.arg0 % 4 = k)

/-- SCRUB_CONTROL PAUSE. A pause that runs keeps its beginning. -/
def scrubPauseF (s : State) (src : Nat) (tag : BitVec 16) : State :=
  cmdRow s src tag 0x15 (scrubIs 0) (fun _ r _ => checksOf .service (unused r.desc 2 false false false 0))
    (fun s r _ => completeRun { s with drift := { s.drift with pausedAt := some (s.drift.pausedAt.getD (now s)) } } r 0 0 [])

def execScrubControlPause (src : Src) (tag : BitVec 16) (s : State) : Host.Outcome State Fault Refusal := .next (scrubPauseF s src.val tag)

/-- SCRUB_CONTROL RESUME. -/
def scrubResumeF (s : State) (src : Nat) (tag : BitVec 16) : State :=
  cmdRow s src tag 0x15 (scrubIs 1) (fun _ r _ => checksOf .service (unused r.desc 2 false false false 0))
    (fun s r _ => completeRun { s with drift := { s.drift with pausedAt := none } } r 0 0 [])

def execScrubControlResume (src : Src) (tag : BitVec 16) (s : State) : Host.Outcome State Fault Refusal := .next (scrubResumeF s src.val tag)

def scrubRangeChecks (s : State) (r : Running) (d : Desc) : Checks :=
  { checksOf .service (unused r.desc 2 true false true 0 || badRange s 16384 d.addr0 d.len) with
    notOwner := notOwnerOf s r.src d.addr0 d.len false
    own := if s.drift.range.isSome then 8 else 0 }

/-- SCRUB_CONTROL RANGE: it completes when the range is done, or with ABORTED. -/
def scrubRangeF (s : State) (src : Nat) (tag : BitVec 16) : State :=
  cmdRow s src tag 0x15 (scrubIs 2) scrubRangeChecks (fun s r d =>
    settleRange { s with drift := { s.drift with
      range := some { src := r.src, tag := d.tag, next := dlnOf d.addr0, last := (d.addr0 + d.len) / 16384, sensed := 0 } } })

def execScrubControlRange (src : Src) (tag : BitVec 16) (s : State) : Host.Outcome State Fault Refusal := .next (scrubRangeF s src.val tag)

/-- SCRUB_CONTROL ABORT_RANGE. -/
def scrubAbortF (s : State) (src : Nat) (tag : BitVec 16) : State :=
  cmdRow s src tag 0x15 (scrubIs 3)
    (fun s r _ => { checksOf .service (unused r.desc 2 false false false 0) with wrongState := s.drift.range.isNone })
    (fun s r _ => completeRun (endRange s 0x0C) r 0 0 [])

def execScrubControlAbortRange (src : Src) (tag : BitVec 16) (s : State) : Host.Outcome State Fault Refusal := .next (scrubAbortF s src.val tag)

end Sys2Proof.Machine
end

