-- ==== Sys2Proof/Machine/BufferCmd.lean ====
section
/-! DEFINITION. Ring commands that move a host buffer (12 R375, R382, R383, R385, R395): EVENT_READ (14 R439), COUNTER_SNAPSHOT (15 R454),
DUMP_CONFIG, FW_STAGE (20 R547 to R549), HEALTH_REPORT (18 R513), ERROR_TABLE_READ (09 R284), IDENTITY_READ (20 R542) and ATTEST (20 R555). -/

namespace Sys2Proof.Machine

/-- The checks of a command that writes a buffer of at least `n` bytes. -/
def outChecks (a : Accept) (r : Running) (d : Desc) (a0 a1 n : Nat) : Checks :=
  checksOf a (unused r.desc a0 true false true a1 || badBuffer r d n)

/-! ## EVENT_READ (14 R439; 12 R383) -/

/-- The consecutive records kept from SEQ `q` on, at most `n`. -/
def keptRun (s : State) : Nat → Nat → List AgRec
  | 0, _ => []
  | n + 1, q => match agKept s q with
    | some r => r :: keptRun s n (q + 1)
    | none => []

/-- The records that EVENT_READ returns from a START_SEQ for a buffer of `n` records, the next sequence and GAP. Where nothing at or above
START_SEQ is kept, the next sequence is one past the newest (log entry 35). -/
def eventOut (s : State) (start n : Nat) : List AgRec × Nat × Bool :=
  if s.ag.next ≤ start then ([], start, false)
  else
    let gap := (agKept s start).isNone
    match keptFrom s start with
    | none => ([], s.ag.next, gap)
    | some q =>
      let rs := keptRun s n q
      (rs, q + rs.length, gap)

def eventReadChecks (_ : State) (r : Running) (d : Desc) : Checks :=
  let c := outChecks .always r d 0 40 32
  { c with badField := c.badField || decide (d.len % 32 ≠ 0) || decide (2 ^ 19 < d.len) }

/-- The effect of EVENT_READ. -/
def eventReadRun (dmaOk : Bool) (s : State) (r : Running) (d : Desc) : State :=
  let x := eventOut s (d.arg1 % 2 ^ 40) (d.len / 32)
  finishOut s r d (x.1.flatMap (fun a => leBytes 32 (agBits a))) (x.2.1 % 2 ^ 40 + x.1.length * 2 ^ 40 + b2n x.2.2 * 2 ^ 55) dmaOk

/-- EVENT_READ. -/
def eventReadF (s : State) (src : Nat) (tag : BitVec 16) (dmaOk : Bool) : State :=
  cmdRow s src tag 0x0A anyDesc eventReadChecks (eventReadRun dmaOk)

def execEventRead (src : Src) (tag : BitVec 16) (dmaOk : Bool) (s : State) : Host.Outcome State Fault Refusal :=
  .next (eventReadF s src.val tag dmaOk)

/-! ## COUNTER_SNAPSHOT (15 R454) -/

/-- The effect of COUNTER_SNAPSHOT: a snapshot whose write fails takes no DSEQ (12 R375); one that is written is the previous record for the
losses that the next one counts (15 R454). -/
def snapshotRun (dmaOk : Bool) (s : State) (r : Running) (d : Desc) : State :=
  let bytes := dumpRecord s true false
  let q := s.qz.dseq
  finishOut (if dmaOk || decide (r.src % 8 = 4) then nextDseq { s with qz := { s.qz with lostSince := 0 } } else s) r d bytes (q % 2 ^ 40) dmaOk

/-- COUNTER_SNAPSHOT. -/
def counterSnapshotF (s : State) (src : Nat) (tag : BitVec 16) (dmaOk : Bool) : State :=
  cmdRow s src tag 0x0B anyDesc (fun _ r d => outChecks .boot r d 0 0 4416) (snapshotRun dmaOk)

def execCounterSnapshot (src : Src) (tag : BitVec 16) (dmaOk : Bool) (s : State) : Host.Outcome State Fault Refusal :=
  .next (counterSnapshotF s src.val tag dmaOk)

/-! ## DUMP_CONFIG (12 R385) -/

/-- The latches that reads of TIME_0, NEW_SEQ_LO and CTR_LO leave for a requester (13 R422; 14 R444; 15 R450). -/
def latchReads (s : State) (r : Nat) : State :=
  { s with req := { s.req with
      time := sSet 0 s.req.time r (now s)
      seqs := sSet (0, 0, 0) s.req.seqs r (agSeqs s)
      ctrHi := sSet 0 s.req.ctrHi r (shownCtr s (ctrSel s) / 2 ^ 20) } }

/-- A register entry of the dump. -/
def dumpEntry (s : State) (q : Nat) (x : Blk × Nat × Nat) : Nat :=
  regRead s q x.1 x.2.1 x.2.2 % 2 ^ 40 + (blkIdx x.1 + x.2.1) * 2 ^ 40 + x.2.2 * 2 ^ 47

/-- The bytes of the dump: header, registers, wells. -/
def configBytes (s : State) (q : Nat) : List (BitVec 8) :=
  leBytes 64 (now s % 2 ^ 64 + 1098 * 2 ^ 64) ++ entryBytes (allRegs.map (dumpEntry s q))
    ++ entryBytes ((List.range 64).map (fun i => wellVal (wellNo s i)))

/-- The effect of DUMP_CONFIG: its reads latch for the requester, and clear nothing (log entry 36). -/
def configRun (dmaOk : Bool) (s : State) (r : Running) (d : Desc) : State :=
  let s' := latchReads s (r.src % 8)
  finishOut (if dmaOk then s' else s) r d (configBytes s' (r.src % 8)) 1098 dmaOk

/-- DUMP_CONFIG. -/
def dumpConfigF (s : State) (src : Nat) (tag : BitVec 16) (dmaOk : Bool) : State :=
  cmdRow s src tag 0x0C anyDesc (fun _ r d => outChecks .boot r d 0 0 8848) (configRun dmaOk)

def execDumpConfig (src : Src) (tag : BitVec 16) (dmaOk : Bool) (s : State) : Host.Outcome State Fault Refusal :=
  .next (dumpConfigF s src.val tag dmaOk)

/-! ## FW_STAGE (20 R547 to R549) -/

/-- Offset of a chunk in bytes. -/
def stageOff (d : Desc) : Nat := bitsOf d.arg0 25 2 * 64

/-- The offset that the slot expects next; none where no image is incomplete. -/
def stageNext (s : State) : Option Nat :=
  match s.sec.staged with
  | .incomplete b => some b.length
  | .nothing | .verified _ => none

/-- Checks of FW_STAGE: chunks without gaps, multiples of 64 bytes unless LAST, 1 MiB at most, in a slot of 8 MiB (log entry 33). -/
def fwStageChecks (s : State) (r : Running) (d : Desc) : Checks :=
  let first := bitOf d.arg0 0
  let gap : Bool := if first then decide (stageOff d ≠ 0) else match stageNext s with
    | some n => decide (stageOff d ≠ n)
    | none => false
  { checksOf .boot (unused r.desc 26 true false true 0 || badBuffer r d 0 || gap || (!bitOf d.arg0 1 && decide (d.len % 64 ≠ 0))
      || decide (2 ^ 20 < d.len) || decide (2 ^ 23 < stageOff d + d.len) || (decide (r.src % 8 = 4) && decide (r.payload.length ≠ d.len))) with
    wrongState := !first && (stageNext s).isNone }

/-- Exactly `n` bytes of a list, with zeros for those it lacks. -/
def fitBytes (n : Nat) (l : List (BitVec 8)) : List (BitVec 8) := l.take n ++ List.replicate (n - l.length) 0

/-- Bytes [i, i + n) of an image. -/
def imgBytes (l : List (BitVec 8)) (i n : Nat) : List (BitVec 8) := (l.drop i).take n

/-- Whether the bytes of a header that hold nothing are zero (20 R547). -/
def imgZeros (l : List (BitVec 8)) : Bool :=
  [(6, 2), (11, 1), (17, 47), (1088, 3008)].all (fun x => (imgBytes l x.1 x.2).all (fun b => decide (b = 0)))

/-- What verification reads of a whole image (20 R547, R548). -/
def imageOf (s : State) (l : List (BitVec 8)) : Image :=
  let at_ (i n : Nat) : Nat := ofLeBytes (imgBytes l i n)
  let modulus := imgBytes l 576 512
  { wellFormed := decide (at_ 0 4 = 0x5746444B) && decide (l.length = 4096 + at_ 12 4) && decide (l.length ≤ 2 ^ 23) && decide (at_ 16 1 ≤ 3)
      && imgZeros l
    svn := at_ 4 2, version := at_ 8 3, keyIdx := at_ 16 1
    digestOk := decide (Config.sha512 modulus = sGet 0 s.sec.keyDigests (at_ 16 1))
    sigOk := Config.pssVerify modulus (imgBytes l 0 64 ++ l.drop 4096) (imgBytes l 64 512)
    sha := Config.sha512 l }

/-- The staged image is verified, or discarded with the status of its first failing check (20 R548). -/
def stageLast (l : List (BitVec 8)) (s : State) (r : Running) : State :=
  let img := imageOf s l
  let k := imageFault s img
  if k = 0 then completeRun { s with sec := { s.sec with staged := .verified img } } r 0 img.svn []
  else completeRun (imageFailed { s with sec := { s.sec with staged := .nothing } } 1 img) r (if k = 1 then 0x0F else 0x10) 0 []

/-- What the slot holds before a chunk: nothing where FIRST discards it (20 R549). -/
def stagedBytes (s : State) (first : Bool) : List (BitVec 8) :=
  if first then [] else match s.sec.staged with
    | .incomplete b => b
    | .nothing | .verified _ => []

/-- The effect of FW_STAGE. -/
def fwStageRun (dmaOk : Bool) (chunk : List (BitVec 8)) (s : State) (r : Running) (d : Desc) : State :=
  if !dmaOk && decide (r.src % 8 ≠ 4) then completeRun s r 0x0D 0 []
  else
    let l := stagedBytes s (bitOf d.arg0 0) ++ fitBytes d.len (if r.src % 8 = 4 then r.payload else chunk)
    let s := if bitOf d.arg0 0 then { s with sec := { s.sec with selected := false } } else s
    if bitOf d.arg0 1 then stageLast l s r
    else completeRun { s with sec := { s.sec with staged := .incomplete l } } r 0 0 []

/-- FW_STAGE. -/
def fwStageF (s : State) (src : Nat) (tag : BitVec 16) (dmaOk : Bool) (chunk : List (BitVec 8)) : State :=
  cmdRow s src tag 0x0E anyDesc fwStageChecks (fwStageRun dmaOk chunk)

def execFwStage (src : Src) (tag : BitVec 16) (dmaOk : Bool) (chunk : List (BitVec 8)) (s : State) : Host.Outcome State Fault Refusal :=
  .next (fwStageF s src.val tag dmaOk chunk)

/-! ## HEALTH_REPORT (18 R513) -/

/-- Bytes 0 to 14: TIME, the state variables, live channels and slices. -/
def healthHead (s : State) : List (BitVec 8) :=
  leBytes 8 (now s) ++ [BitVec.ofNat 8 (powerCode s.pwr.st), BitVec.ofNat 8 (b2n (decide (s.pwr.st = .service) && s.pwr.warm)),
    BitVec.ofNat 8 (roleCode s.pair.role), BitVec.ofNat 8 (capCode s.wear.cond), BitVec.ofNat 8 (thermCode s.th.cond),
    BitVec.ofNat 8 (liveChans s).length, BitVec.ofNat 8 (liveSlices s).length]

/-- Days since the last bank test. -/
def testDays (s : State) : Nat := bankAge s / 24

/-- The report with D01 on. -/
def healthFull (s : State) : List (BitVec 8) :=
  let z := s.zir
  healthHead s ++ leBytes 1 0 ++ (List.range 8).flatMap (fun n => leBytes 1 (waysOf s n))
    ++ (List.range 4).flatMap (fun p => leBytes 1 (lanesOf s p)) ++ leBytes 1 s.pair.lanes ++ leBytes 3 0
    ++ leBytes 1 z.remPct ++ leBytes 1 z.limiter ++ leBytes 2 z.years
    ++ leBytes 4 z.wearMean ++ leBytes 4 (countP (fun x => decide (x.2 = 3)) s.tabs.tile) ++ leBytes 4 (spareCount s)
    ++ leBytes 2 (sat 16 z.bankE) ++ leBytes 2 (sat 16 z.bankC) ++ leBytes 2 (sat 16 z.bankEsr) ++ leBytes 2 (sat 16 (testDays s))
    ++ leBytes 2 s.pwr.vcore ++ leBytes 2 z.slackMin
    ++ leBytes 2 (tempCode s.th.yel) ++ leBytes 2 (tempCode s.th.media) ++ leBytes 1 s.th.hotCh ++ leBytes 1 s.th.hotDie
    ++ (List.range 5).flatMap (fun i => leBytes 2 (sGet (0, 0) z.eyes i).1)
    ++ (List.range 32).flatMap (fun c => leBytes 2 (chanAt s c).deadline)
    ++ (List.range 32).flatMap (fun c => leBytes 1 (if (chanAt s c).retired then 0xFF else chanLevel s c))
    ++ leBytes 4 z.pEst ++ leBytes 4 (dsCount s) ++ leBytes 4 z.planGen ++ leBytes 1 (planBits z.pend) ++ leBytes 1 (regF s .zircon 0 3 9 5)
    ++ leBytes 70 0

/-- The report from D00, with D01 off. -/
def healthShort (s : State) : List (BitVec 8) :=
  let z := pgGet s pgZircon
  healthHead s ++ leBytes 17 0 ++ leBytes 1 (z 86 80) ++ leBytes 1 (z 89 87) ++ leBytes 2 (z 99 90) ++ leBytes 12 0
    ++ leBytes 2 (sat 16 (z 59 40)) ++ leBytes 2 (sat 16 (z 19 0)) ++ leBytes 2 (sat 16 (z 39 20)) ++ leBytes 2 (sat 16 (testDays s))
    ++ leBytes 4 0 ++ leBytes 2 (tempCode s.th.yel) ++ leBytes 114 0 ++ leBytes 4 (dsCount s) ++ leBytes 4 (z 219 200) ++ leBytes 72 0

/-- The report. -/
def healthBytes (s : State) : List (BitVec 8) := if domOn s 1 then healthFull s else healthShort s

/-- RESULT of HEALTH_REPORT (12 R382). -/
def healthResult (s : State) : Nat :=
  (liveChans s).length % 2 ^ 6 + (liveSlices s).length % 2 ^ 4 * 2 ^ 6 + capCode s.wear.cond * 2 ^ 10 + thermCode s.th.cond * 2 ^ 12
    + s.zir.remPct % 2 ^ 7 * 2 ^ 15

/-- HEALTH_REPORT. -/
def healthReportF (s : State) (src : Nat) (tag : BitVec 16) (dmaOk : Bool) : State :=
  cmdRow s src tag 0x13 anyDesc (fun _ r d => outChecks .always r d 0 0 256) (fun s r d => finishOut s r d (healthBytes s) (healthResult s) dmaOk)

def execHealthReport (src : Src) (tag : BitVec 16) (dmaOk : Bool) (s : State) : Host.Outcome State Fault Refusal :=
  .next (healthReportF s src.val tag dmaOk)

/-! ## ERROR_TABLE_READ (09 R284) -/

/-- The 128 bits of an entry. -/
def errVal (e : ErrEnt) : Nat :=
  e.ptn % 2 ^ 32 + e.fslot % 2 ^ 8 * 2 ^ 32 + e.count % 2 ^ 12 * 2 ^ 40 + e.maxSym % 8 * 2 ^ 52 + e.src % 4 * 2 ^ 55 + 2 ^ 57
    + e.last % 2 ^ 64 * 2 ^ 64

/-- The entries of the selection. -/
def errEntries (s : State) (d : Desc) : List ErrEnt :=
  if bitOf d.arg0 5 then (List.range 32).flatMap (fun c => (chanAt s c).errs) else (chanAt s (d.arg0 % 32)).errs

/-- ERROR_TABLE_READ. -/
def errorTableReadF (s : State) (src : Nat) (tag : BitVec 16) (dmaOk : Bool) : State :=
  cmdRow s src tag 0x14 anyDesc (fun _ r d => outChecks .service r d 6 0 (if bitOf d.arg0 5 then 8192 else 256))
    (fun s r d => finishOut s r d ((errEntries s d).flatMap (fun e => leBytes 16 (errVal e))) (errEntries s d).length dmaOk)

def execErrorTableRead (src : Src) (tag : BitVec 16) (dmaOk : Bool) (s : State) : Host.Outcome State Fault Refusal :=
  .next (errorTableReadF s src.val tag dmaOk)

/-! ## IDENTITY_READ (20 R542) -/

/-- Length of the device certificate: FREE VALUE, at most 2496 bytes (20 R542; log entry 2). -/
def certLen : Nat := Config.external 30 0 % 2497

/-- The certificate, padded with zeros. -/
def certBytes : List (BitVec 8) := (List.range 2496).map (fun i => if i < certLen then Config.secretByte 10 0 i else 0)

/-- A die entry. -/
def dieEntry (s : State) (i : Nat) : Nat :=
  let k := i / 6 * 8 + i % 6
  sGet 0 s.sec.dies k % 2 ^ 57 + b2n (dieFailedPg s k) * 2 ^ 63

/-- The identity record. -/
def identityBytes (s : State) : List (BitVec 8) :=
  let x := s.sec
  leBytes 16 x.serial.toNat ++ leBytes 1 (roGlobal s 0 0 % 16) ++ leBytes 1 (roGlobal s 0 0 / 16) ++ leBytes 6 0
    ++ leBytes 8 (x.lot.toNat + x.wafer.toNat * 2 ^ 36 + x.x.toNat * 2 ^ 41 + x.y.toNat * 2 ^ 49)
    ++ leBytes 1 x.f ++ leBytes 1 0 ++ leBytes 2 x.active.svn ++ leBytes 2 certLen ++ leBytes 26 0
    ++ entryBytes ((List.range 192).map (dieEntry s)) ++ certBytes

/-- IDENTITY_READ. -/
def identityReadF (s : State) (src : Nat) (tag : BitVec 16) (dmaOk : Bool) : State :=
  cmdRow s src tag 0x17 anyDesc (fun _ r d => outChecks .boot r d 0 0 4096) (fun s r d => finishOut s r d (identityBytes s) 4096 dmaOk)

def execIdentityRead (src : Src) (tag : BitVec 16) (dmaOk : Bool) (s : State) : Host.Outcome State Fault Refusal :=
  .next (identityReadF s src.val tag dmaOk)

/-! ## ATTEST (20 R555) -/

/-- The length and the response; nothing for an index without a block. -/
def attestBytes (s : State) (d : Desc) : List (BitVec 8) :=
  match measurements s (d.arg0 % 256) d.arg1 with
  | some b => leBytes 2 b.length ++ b
  | none => []

/-- The effect of ATTEST. -/
def attestRun (dmaOk : Bool) (s : State) (r : Running) (d : Desc) : State :=
  finishOut (bump s) r d (attestBytes s d) (attestBytes s d).length dmaOk

def attestChecks (s : State) (r : Running) (d : Desc) : Checks :=
  let c := outChecks .boot r d 8 256 4096
  { c with badField := c.badField || (measurements s (d.arg0 % 256) d.arg1).isNone }

/-- ATTEST. -/
def attestF (s : State) (src : Nat) (tag : BitVec 16) (dmaOk : Bool) : State :=
  cmdRow s src tag 0x18 anyDesc attestChecks (attestRun dmaOk)

def execAttest (src : Src) (tag : BitVec 16) (dmaOk : Bool) (s : State) : Host.Outcome State Fault Refusal :=
  .next (attestF s src.val tag dmaOk)

end Sys2Proof.Machine
end

