-- ==== Sys2Proof/Machine/Mailbox.lean ====
section
/-! DEFINITION. The component mailbox of each port (11 R346 to R353, R358; 14 R430; 16 R481). A response carries a return code, 0 success, 1
Busy, 2 Unsupported, 3 Invalid Input, and the fields that the module gives (log entry 38). -/

namespace Sys2Proof.Machine

/-! ## Requests -/

/-- A response. -/
def mboxAns (s : State) (p : Port) (code : Nat) (l : List Nat) : State := emit s (.mbox p code l)

/-- A command of the mailbox: in BOOT those of R346 that are available there run, and the others answer Busy; the mailbox needs the port's link. -/
def mboxCmd (s : State) (p : Port) (inBoot : Bool) (f : State → State) : State :=
  if !(portAt s p.val).linkUp then s
  else match s.pwr.st with
    | .service => f s
    | .boot => if inBoot then f s else mboxAns s p 1 []
    | .off | .standby | .drain | .halt => s

/-! ## Events (11 R353; 14 R430) -/

/-- GET_EVENT_RECORDS: the Agate record that each record carries, oldest first. -/
def getEventRecordsF (s : State) (p : Port) (log : Nat) : State :=
  mboxCmd s p true (fun s => mboxAns s p 0 (((portAt s p.val).logs.filter (fun x => decide (x.1 = log))).map (fun x => agBits x.2)))

def execGetEventRecords (p : Port) (log : Fin 5) (s : State) : Host.Outcome State Fault Refusal := .next (getEventRecordsF s p log.val)

/-- Whether a record is of the fault that a latch holds: same fault, opened by the latch's instant. -/
def ofLatch (l : Latch) (r : AgRec) : Bool :=
  l.valid && decide (r.cls = 2) && decide (r.source = l.source % 2 ^ 16) && decide (r.code = l.code % 2 ^ 16) && decide (r.arg0 = l.arg0 % 2 ^ 40)
    && decide (r.arg1 = l.arg1 % 2 ^ 40) && decide (r.arg2 = l.arg2 % 2 ^ 16) && decide (r.time ≤ l.time)

/-- Whether a record is the newest one of the latched contained fault in a log. -/
def isLatched (s : State) (all : List (Nat × AgRec)) (r : AgRec) : Bool :=
  ofLatch s.flt.uc r && !all.any (fun x => ofLatch s.flt.uc x.2 && decide (r.seq < x.2.seq))

/-- CLEAR_EVENT_RECORDS: the records named leave the log; the record of the latched contained fault acknowledges it. -/
def clearEventRecordsF (s : State) (p : Port) (log : Nat) (seqs : List Nat) : State :=
  mboxCmd s p true (fun s =>
    let all := (portAt s p.val).logs
    let gone (x : Nat × AgRec) : Bool := decide (x.1 = log) && seqs.contains x.2.seq
    let hit := log ≠ 4 ∧ all.any (fun x => gone x && isLatched s all x.2) = true
    let s := modPort s p.val (fun x => { x with logs := x.logs.filter (fun y => !gone y) })
    mboxAns (if hit then ackGroup s 1 else s) p 0 [])

def execClearEventRecords (p : Port) (log : Fin 5) (seqs : List Nat) (s : State) : Host.Outcome State Fault Refusal :=
  .next (clearEventRecordsF s p log.val seqs)

/-- GET_EVENT_INTERRUPT_POLICY. -/
def getEventInterruptPolicyF (s : State) (p : Port) : State := mboxCmd s p true (fun s => mboxAns s p 0 [(portAt s p.val).evVec])

def execGetEventInterruptPolicy (p : Port) (s : State) : Host.Outcome State Fault Refusal := .next (getEventInterruptPolicyF s p)

/-- SET_EVENT_INTERRUPT_POLICY. -/
def setEventInterruptPolicyF (s : State) (p : Port) (vec : Nat) : State :=
  mboxCmd s p true (fun s => mboxAns (modPort s p.val (fun x => { x with evVec := vec })) p 0 [])

def execSetEventInterruptPolicy (p : Port) (vec : Fin 16) (s : State) : Host.Outcome State Fault Refusal :=
  .next (setEventInterruptPolicyF s p vec.val)

/-! ## Firmware, time, logs -/

/-- GET_FW_INFO: two slots, the active one first; whether the staged one holds a verified image and is selected; both versions. -/
def getFwInfoF (s : State) (p : Port) : State :=
  mboxCmd s p true (fun s => mboxAns s p 0 [2, b2n (isVerified s.sec.staged), b2n s.sec.selected, s.sec.active.version, stagedVer s])

def execGetFwInfo (p : Port) (s : State) : Host.Outcome State Fault Refusal := .next (getFwInfoF s p)

/-- GET_TIMESTAMP: TIME with the port's offset. -/
def getTimestampF (s : State) (p : Port) : State := mboxCmd s p true (fun s => mboxAns s p 0 [(now s + (portAt s p.val).tsOff) % 2 ^ 64])

def execGetTimestamp (p : Port) (s : State) : Host.Outcome State Fault Refusal := .next (getTimestampF s p)

/-- SET_TIMESTAMP: the port's offset; TIME stays. -/
def setTimestampF (s : State) (p : Port) (ts : Nat) : State :=
  mboxCmd s p true (fun s => mboxAns (modPort s p.val (fun x => { x with tsOff := (ts + 2 ^ 64 - now s % 2 ^ 64) % 2 ^ 64 })) p 0 [])

def execSetTimestamp (p : Port) (ts : BitVec 64) (s : State) : Host.Outcome State Fault Refusal := .next (setTimestampF s p ts.toNat)

/-- The commands of R346 by opcode. -/
def mboxOps : List Nat :=
  [0x0100, 0x0101, 0x0102, 0x0103, 0x0200, 0x0300, 0x0301, 0x0400, 0x0401, 0x4000, 0x4100, 0x4200, 0x4201, 0x4202, 0x4203, 0x4204, 0x4800, 0x4801,
    0x4802, 0x4803]

/-- GET_SUPPORTED_LOGS: the Command Effects Log alone, with its size of four bytes a command. -/
def getSupportedLogsF (s : State) (p : Port) : State := mboxCmd s p true (fun s => mboxAns s p 0 [1, 4 * mboxOps.length])

def execGetSupportedLogs (p : Port) (s : State) : Host.Outcome State Fault Refusal := .next (getSupportedLogsF s p)

/-- GET_LOG: the Command Effects Log, an opcode and its effects an entry; the effects are the CXL standard's: FREE VALUE (log entry 38). -/
def getLogF (s : State) (p : Port) (cel : Bool) : State :=
  mboxCmd s p true (fun s =>
    if cel then mboxAns s p 0 (mboxOps.map (fun o => o + Config.external 40 o % 2 ^ 16 * 2 ^ 16)) else mboxAns s p 3 [])

def execGetLog (p : Port) (cel : Bool) (s : State) : Host.Outcome State Fault Refusal := .next (getLogF s p cel)

/-! ## Device, health, alerts -/

/-- IDENTIFY_MEMORY_DEVICE: the firmware version, total capacity in bytes; volatile-only, persistent-only, partition alignment and poison list zero. -/
def identifyMemoryDeviceF (s : State) (p : Port) : State :=
  mboxCmd s p true (fun s => mboxAns s p 0 [s.sec.active.version, capacity s.sec.variant, 0, 0, 0, 0])

def execIdentifyMemoryDevice (p : Port) (s : State) : Host.Outcome State Fault Refusal := .next (identifyMemoryDeviceF s p)

/-- GET_PARTITION_INFO: all zero. -/
def getPartitionInfoF (s : State) (p : Port) : State := mboxCmd s p true (fun s => mboxAns s p 0 [0, 0, 0, 0])

def execGetPartitionInfo (p : Port) (s : State) : Host.Outcome State Fault Refusal := .next (getPartitionInfoF s p)

/-- Sum of CE_CNT over the channels. -/
def ceSum (s : State) : Nat := sumOf (fun c => (chanAt s c).ceCnt) (List.range 32)

/-- The device temperature, °C × 4. -/
def devTemp (s : State) : Int := if s.th.media < s.th.yel then s.th.yel else s.th.media

/-- Health status: maintenance needed, performance degraded, replacement needed (11 R358). -/
def healthStatus (s : State) : Nat :=
  b2n (decide (s.wear.cond = .lowSpare) || decide ((liveChans s).length < 32))
    + b2n (decide (s.th.cond = .throttle1) || decide (s.th.cond = .throttle2) || decide (s.wear.cond = .constrained)) * 2
    + b2n (decide (s.wear.cond = .constrained) || decide (s.zir.remPct < 10)) * 4

/-- Media status: 0 normal, 1 not ready, 2 write persistency lost. -/
def mediaStatus (s : State) : Nat := if s.pwr.st ≠ .service then 1 else if s.pwr.bankFailed && decide (s.pair.role = .unpaired) then 2 else 0

/-- Additional status: 2 in [1:0] life used critical, 2 in [3:2] temperature critical, bit 5 the corrected-error warning. A threshold of 0 gives no
alert (log entry 39). -/
def addStatus (s : State) (p : Nat) : Nat :=
  let x := portAt s p
  (if x.alertLife ≠ 0 ∧ x.alertLife ≤ 100 - s.zir.remPct then 2 else 0)
    + (if x.alertTemp ≠ 0 ∧ (x.alertTemp : Int) * 4 ≤ devTemp s then 8 else 0) + b2n (decide (x.alertCe ≠ 0) && decide (x.alertCe < ceSum s)) * 32

/-- GET_HEALTH_INFO: health, media and additional status, life used, temperature (16 bits), dirty shutdown count, corrected volatile and
persistent error counts. -/
def getHealthInfoF (s : State) (p : Port) : State :=
  mboxCmd s p true (fun s => mboxAns s p 0
    [healthStatus s, mediaStatus s, addStatus s p.val, 100 - s.zir.remPct, (devTemp s / 4 + 65536).toNat % 65536, dsCount s,
      sumOf (fun n => (sliceAt s n).ceTotal) (List.range 8), ceSum s])

def execGetHealthInfo (p : Port) (s : State) : Host.Outcome State Fault Refusal := .next (getHealthInfoF s p)

/-- GET_ALERT_CONFIGURATION. -/
def getAlertConfigurationF (s : State) (p : Port) : State :=
  mboxCmd s p true (fun s => let x := portAt s p.val
    mboxAns s p 0 [x.alertLife, x.alertTemp, x.alertCe])

def execGetAlertConfiguration (p : Port) (s : State) : Host.Outcome State Fault Refusal := .next (getAlertConfigurationF s p)

/-- SET_ALERT_CONFIGURATION. -/
def setAlertConfigurationF (s : State) (p : Port) (life temp ce : Nat) : State :=
  mboxCmd s p true (fun s => mboxAns (modPort s p.val (fun x => { x with alertLife := life, alertTemp := temp, alertCe := ce })) p 0 [])

def execSetAlertConfiguration (p : Port) (life temp ce : Nat) (s : State) : Host.Outcome State Fault Refusal :=
  .next (setAlertConfigurationF s p life temp ce)

/-! ## Shutdown state (11 R346; 16 R481) -/

/-- GET_SHUTDOWN_STATE: 1 clean, only when SHUT is CLEAN and no host has set dirty since. -/
def getShutdownStateF (s : State) (p : Port) : State :=
  mboxCmd s p false (fun s => mboxAns s p 0 [b2n (decide (shutCode s = 0) && decide (pgGet s pgShutdown 54 54 = 0))])

def execGetShutdownState (p : Port) (s : State) : Host.Outcome State Fault Refusal := .next (getShutdownStateF s p)

/-- SET_SHUTDOWN_STATE: the state a host sets is stored in the shutdown page, beside SHUT, which it does not change (log entry 37). -/
def setShutdownStateF (s : State) (p : Port) (clean : Bool) : State :=
  mboxCmd s p false (fun s => mboxAns (storeShut (pgPut s pgShutdown 54 54 (b2n (!clean)))) p 0 [])

def execSetShutdownState (p : Port) (clean : Bool) (s : State) : Host.Outcome State Fault Refusal := .next (setShutdownStateF s p clean)

/-! ## Dynamic capacity (11 R347 to R351) -/

/-- GET_DYNAMIC_CAPACITY_CONFIGURATION: one region, its base, length and block size, and its non-volatile mark. -/
def getDynamicCapacityConfigurationF (s : State) (p : Port) : State :=
  mboxCmd s p false (fun s => mboxAns s p 0 [1, 0, capacity s.sec.variant, blockBytes, 1])

def execGetDynamicCapacityConfiguration (p : Port) (s : State) : Host.Outcome State Fault Refusal := .next (getDynamicCapacityConfigurationF s p)

/-- Bytes 0 and 1 of an extent's tag: the well and its attributes. -/
def extTag (i : Nat) (w : Well) : Nat := i + (b2n w.shared + b2n w.prot * 2 + b2n w.ruZero * 4 + b2n w.pin * 8) * 256

/-- GET_DYNAMIC_CAPACITY_EXTENT_LIST: the generation, the count, and of each extent its DPA, length, tag and whether the host holds it. -/
def getDynamicCapacityExtentListF (s : State) (p : Port) : State :=
  mboxCmd s p false (fun s =>
    let x := portAt s p.val
    mboxAns s p 0 ([x.extGen, x.exts.length] ++ x.exts.flatMap (fun e =>
      let w := wellNo s e.1
      [w.base * blockBytes, w.size * blockBytes, extTag e.1 w, b2n e.2.accepted])))

def execGetDynamicCapacityExtentList (p : Port) (s : State) : Host.Outcome State Fault Refusal := .next (getDynamicCapacityExtentListF s p)

/-- ADD_DYNAMIC_CAPACITY_RESPONSE: the host holds the extent; a decline changes nothing. -/
def addDynamicCapacityResponseF (s : State) (p : Port) (i : Nat) (accept : Bool) : State :=
  mboxCmd s p false (fun s =>
    let e := extAt s p.val i
    if !e.offered || e.accepted then mboxAns s p 3 []
    else if accept then
      mboxAns (modPort s p.val (fun x => { x with exts := sSet extInit x.exts i { e with accepted := true, released := [] } })) p 0 []
    else mboxAns s p 0 [])

def execAddDynamicCapacityResponse (p : Port) (well : Fin 64) (accept : Bool) (s : State) : Host.Outcome State Fault Refusal :=
  .next (addDynamicCapacityResponseF s p well.val accept)

/-- Whether no host of an owner port holds block `b` of well `i` (a port whose host never accepted the extent holds none; log entry 40). -/
def blockFree (s : State) (i : Nat) (w : Well) (b : Nat) : Bool :=
  (maskPorts w.mask).all (fun p => !(extAt s p i).accepted || (extAt s p i).released.contains b)

/-- The descriptor of an unmapping of one block, mirrored as CAPACITY_RELEASE is (08 R267; 10 R303). -/
def blockDesc (b : Nat) : BitVec 512 := BitVec.ofNat 512 (0x12 + b * blockBytes * 2 ^ 64 + blockBytes * 2 ^ 192)

/-- A port's host releases blocks of a well; the ones that no owner port holds any more are unmapped (11 R351). -/
def releaseBlocks (s : State) (p i : Nat) (w : Well) (bs : List Nat) : State :=
  let e := extAt s p i
  let fresh := bs.filter (fun b => !e.released.contains b)
  let rel := e.released ++ fresh
  let e' : Ext := if (List.range w.size).all (fun k => rel.contains (w.base + k)) then extInit else { e with released := rel }
  let s := modPort s p (fun x => { x with exts := sSet extInit x.exts i e', extGen := x.extGen + 1 })
  settle ((fresh.filter (fun b => blockFree s i w b)).foldl (fun s b => issue s (blockDesc b) none []) s)

/-- RELEASE_DYNAMIC_CAPACITY: whole blocks of one extent that the host holds. -/
def releaseDynamicCapacityF (s : State) (p : Port) (dpa len : Nat) : State :=
  mboxCmd s p false (fun s =>
    let bad := mboxAns s p 3 []
    if dpa % blockBytes ≠ 0 ∨ len % blockBytes ≠ 0 ∨ len = 0 then bad
    else match findP (fun (x : Nat × Well) => x.2.live && decide (x.2.base * blockBytes ≤ dpa) && decide (dpa + len ≤ (x.2.base + x.2.size) * blockBytes))
        s.tabs.wells with
      | none => bad
      | some (i, w) =>
        if (extAt s p.val i).accepted then
          mboxAns (releaseBlocks s p.val i w ((List.range (len / blockBytes)).map (· + dpa / blockBytes))) p 0 []
        else bad)

def execReleaseDynamicCapacity (p : Port) (dpa len : Nat) (s : State) : Host.Outcome State Fault Refusal :=
  .next (releaseDynamicCapacityF s p dpa len)

end Sys2Proof.Machine
end

