-- ==== Sys2Proof/Machine/ProgCmd.lean ====
section
/-! DEFINITION. The commands that start and end frame programs (04 R105 steps 6 to 8; 06 R170 to R176). -/

namespace Sys2Proof.Machine

/-! ## Ends of programs, by what was programmed -/

/-- A program of the copier ends: its line is treated; where it failed, the move takes a new destination (06 R174; 08 R256). A move that has been
abandoned meanwhile takes no notice. -/
def copyEnd (s : State) (ltn line : Nat) (ok : Bool) (ns : Nat) : State :=
  let of (o : Op) (s : State) : Option Move := (ownMove s ltn).filter (fun m => decide (m.dst = o.ptn))
  endProg s (.copy ltn line) ok ns
    (fun o s => if (of o s).isSome then markCopied s ltn line else s)
    (fun o s =>
      let s := progFail s o (some (ltn * 256 + line))
      match of o s with
      | some m => restartMove s m
      | none => s)

/-- A rewrite ends: the frame waits no more; where it failed, its tile moves (06 R174). -/
def rewriteEnd (s : State) (ptn fslot : Nat) (ok : Bool) (ns : Nat) : State :=
  let out (s : State) : State := { s with med := { s.med with
    rewrites := s.med.rewrites.filter (fun x => !(decide (x.2.1 = ptn) && decide (x.2.2.1 = fslot))) } }
  endProg s (.rewrite ptn fslot) ok ns (fun _ s => out s) (fun o s =>
    let s := out (progFail s o none)
    match ltnOfPtn s ptn with
    | some l => queueMove s l .failedProgram
    | none => s)

/-- A program of a checkpoint's tile ends; where it failed, the tile is given up and its node takes another one (06 R174; 08 R260; log entry 82). -/
def nodeEnd (s : State) (n line : Nat) (ok : Bool) (ns : Nat) : State :=
  let is_ (o : Op) (t : CkptTile) : Bool := decide (t.node = n) && decide (t.tile = o.ptn)
  endProg s (.node n line) ok ns
    (fun o s => modCkpt s (fun c => { c with tiles := modFirst (is_ o) (fun t => { t with done := t.done ||| BitVec.ofNat 256 (2 ^ line) }) c.tiles }))
    (fun o s => modCkpt (progFail s o none) (fun c =>
      if c.tiles.any (is_ o) then { c with todo := c.todo ++ [n], bad := c.bad ++ [o.ptn], tiles := dropFirst (is_ o) c.tiles } else c))

/-- A program of an anchor copy ends; once every copy has verified, the anchor is the newest one (07 R211). A copy that failed is programmed again (log
entry 82). -/
def anchorEnd (s : State) (k : Nat) (ok : Bool) (ns : Nat) : State :=
  let mark (w : AnchorW) : AnchorW := { w with copies := modNth (fun x => (x.1, x.2.1, true)) w.copies k }
  endProg s (.anchor k) ok ns (fun _ s => adoptAnchor (modCkpt s (fun c => { c with anchor := c.anchor.map mark }))) (fun o s => progFail s o none)

/-- A program of a sentinel's line ends; with the last one, the sentinel has its age (09 R297). A frame that failed is left (log entry 61). -/
def sentinelEnd (s : State) (die line : Nat) (ok : Bool) (ns : Nat) : State :=
  let fin (s : State) : State :=
    let left := sGet 0 s.drift.sentLeft die &&& ~~~ (BitVec.ofNat 256 (2 ^ line))
    let s := { s with drift := { s.drift with sentLeft := sSet 0 s.drift.sentLeft die left } }
    if left = 0 then
      { s with drift := { s.drift with
          sentinel := sMod 0 s.drift.sentinel die (fun k => (k + 1) % 8)
          sentAt := sSet 0 s.drift.sentAt die ((chanAt s (die / 8)).tac + 1) } }
    else s
  endProg s (.sentinel die line) ok ns (fun _ s => fin s) (fun o s => fin (progFail s o none))

/-! ## The commands -/

/-- PROGRAM_DISPATCH: a waiting program starts, if its turn has come. -/
def execProgramDispatch (u : ProgRef) (s : State) : Host.Outcome State Fault Refusal := .next (startProg s u)

/-- PROGRAM_VERIFY_DONE: an attempt of a program ends. -/
def programVerifyDoneF (s : State) (u : ProgRef) (ok : Bool) (ns : Nat) : State :=
  settle (match u with
    | .line n => lineEnd s n ok ns
    | .journal => journalEnd s ok ns
    | .copy ltn line => copyEnd s ltn line ok ns
    | .rewrite ptn fslot => rewriteEnd s ptn fslot ok ns
    | .node n line => nodeEnd s n line ok ns
    | .anchor k => anchorEnd s k ok ns
    | .sentinel die line => sentinelEnd s die line ok ns)

def execProgramVerifyDone (u : ProgRef) (ok : Bool) (ns : Nat) (s : State) : Host.Outcome State Fault Refusal :=
  .next (programVerifyDoneF s u ok ns)

end Sys2Proof.Machine
end

