-- ==== Sys2Proof/Machine/RegCmds.lean ====
section
/-! DEFINITION. Accesses to the register file (13 R398 to R424): reads with their latches and clears, guarded writes, the fields whose write
acts, apply points, and the rows of the opcode table that name one register. -/

namespace Sys2Proof.Machine

/-! ## Requesters (13 R399, R400) -/

/-- Whether a requester reaches the register file: a port over its link, the sideband and JTAG in every state but OFF. -/
def reqReaches (s : State) (r : Nat) : Bool :=
  if r < 4 then domOn s (2 + r) && (portAt s r).linkUp else decide (s.pwr.st ≠ .off)

/-- How an access covers a slot (13 R400). -/
inductive Cover where
  | whole
  | lower
  | upper
  | other
deriving DecidableEq, Repr

/-- The cover of an access; the sideband and JTAG always move a whole slot. -/
def coverOf (r off size : Nat) : Cover :=
  if 4 ≤ r then .whole
  else if size = 8 ∧ off % 8 = 0 then .whole
  else if size = 4 ∧ off % 8 = 0 then .lower
  else if size = 4 ∧ off % 8 = 4 then .upper
  else .other

/-! ## Reads (13 R402, R410, R422; 14 R444; 15 R450) -/

/-- What a read of a slot latches for its requester. -/
def latchSlot (s : State) (r : Nat) (b : Blk) (slot : Nat) : State :=
  match b, slot with
  | .global, 10 => { s with req := { s.req with time := sSet 0 s.req.time r (now s) } }
  | .agate, 1 => { s with req := { s.req with seqs := sSet (0, 0, 0) s.req.seqs r (agSeqs s) } }
  | .quartz, 9 => { s with req := { s.req with ctrHi := sSet 0 s.req.ctrHi r (shownCtr s (ctrSel s) / 2 ^ 20) } }
  | _, _ => s

/-- The latches that a clearing read of a slot releases: LOCK_VIOL, MEDIA_ERR, ERR_STAT (13 R424; 06 R202; 05 R163). -/
def releaseSlot (s : State) (b : Blk) (i slot : Nat) : State :=
  match b, slot with
  | .global, 16 => { s with req := { s.req with viol := none } }
  | .channel, 2 => modChan s i (fun x => { x with latch := none })
  | .cache, 4 => modSlice s i (fun x => { x with errSet := none })
  | _, _ => s

/-- The RC fields of a slot clear (13 R410). -/
def clearSlot (s : State) (b : Blk) (i slot : Nat) : State :=
  let c := cellAt s b i slot
  releaseSlot (if c.rc = 0 then s else setCell s b i slot { c with rc := 0 }) b i slot

/-- A read that covers bits 19:0 of a slot: its value, with what it latches and clears. JTAG reads clear nothing. -/
def readSlot (s : State) (r : Nat) (b : Blk) (i slot : Nat) : State × Nat :=
  let v := regRead s r b i slot
  if !slotAnswers s b i slot then (s, v)
  else
    let s := latchSlot s r b slot
    (if r = 5 then s else clearSlot s b i slot, v)

/-- A read access: the value goes to its requester. -/
def busRead (s : State) (r : Requester) (off size : Nat) : State :=
  if !reqReaches s r.val then s
  else
    let ans (s : State) (v : Nat) : State := emit s (.regRead r (BitVec.ofNat 40 v))
    match slotOf off with
    | none => ans s 0
    | some (b, i, slot) =>
      match coverOf r.val off size with
      | .whole =>
        let x := readSlot s r.val b i slot
        ans x.1 x.2
      | .lower =>
        let x := readSlot s r.val b i slot
        ans x.1 (x.2 % 2 ^ 32)
      | .upper => ans s (regRead s r.val b i slot / 2 ^ 32)
      | .other => ans s 0

/-- RC_READ: a read of any register. -/
def rcReadF (s : State) (r : Requester) (off : BitVec 20) (size : Nat) : State := busRead s r off.toNat size

def execRcRead (r : Requester) (off : BitVec 20) (size : Nat) (s : State) : Host.Outcome State Fault Refusal := .next (rcReadF s r off size)

/-- TIME_LATCH_READ: a read of GLOBAL.TIME[0]. -/
def timeLatchReadF (s : State) (r : Requester) : State := busRead s r (10 * 8) 8

def execTimeLatchRead (r : Requester) (s : State) : Host.Outcome State Fault Refusal := .next (timeLatchReadF s r)

/-- NEW_SEQ_READ: a read of AGATE.NEW_SEQ_LO. -/
def newSeqReadF (s : State) (r : Requester) : State := busRead s r (0xF000 + 8) 8

def execNewSeqRead (r : Requester) (s : State) : Host.Outcome State Fault Refusal := .next (newSeqReadF s r)

/-- CTR_LO_READ: a read of QUARTZ.CTR_LO. -/
def ctrLoReadF (s : State) (r : Requester) : State := busRead s r (0x11000 + 9 * 8) 8

def execCtrLoRead (r : Requester) (s : State) : Host.Outcome State Fault Refusal := .next (ctrLoReadF s r)

/-! ## Unlock (13 R415) -/

/-- The key of GLOBAL.UNLOCK. -/
def unlockKey : Nat := 0x6B1D4

/-- A write of GLOBAL.UNLOCK: the key arms for 100 ms, any other value disarms with a violation. -/
def writeUnlock (s : State) (r off v : Nat) : State :=
  if v = unlockKey then { s with req := { s.req with armed := sSet 0 s.req.armed r (now s + 100000001) } }
  else violation (disarm s r) 0 r off

/-! ## Fields whose write acts (14 R430, R438, R443; 15 R446, R449; 07 R225; 18 R501, R505, R509; 19 R528; 20 R551) -/

/-- Raise the selected code as an injected fault; FT and reserved codes are not injected (14 R443). -/
def injectFault (s : State) : State :=
  let c := regF s .fault 0 42 15 0
  if codeClass c = 3 ∨ codeClass c = 4 then s else faultReportF s srcFault c 0 0 0xFFFF

/-- ACK of a latch group: of UC from a port or the sideband only (14 R430). -/
def ackWrite (s : State) (r g : Nat) : State := if g = 1 ∧ r = 5 then s else ackGroup s g

/-- One effect after another, each where its bit is written 1. -/
def onBit (w k : Nat) (f : State → State) (s : State) : State := if bitOf w k then f s else s

/-- The effects of a written word `w`, its bits outside the WO fields cleared. -/
def actSlot (s : State) (r : Nat) (b : Blk) (slot w : Nat) : State :=
  match b, slot with
  | .global, 32 => onBit w 17 (fun s => { s with req := { s.req with gaspValid := false } }) s
  | .fault, 0 => onBit w 16 (fun s => ackWrite s r 0) s
  | .fault, 12 => onBit w 16 (fun s => ackWrite s r 1) s
  | .fault, 24 => onBit w 16 (fun s => ackWrite s r 2) s
  | .fault, 43 => onBit w 0 injectFault s
  | .agate, 7 => onBit w 0 (fun s => flushAll s false) s
  | .quartz, 1 => onBit w 1 thawQ (onBit w 0 freezeQ s)
  | .quartz, 26 => onBit w 0 clearQ s
  | .mapctl, 1 => onBit w 15 (fun s => { s with mapu := { s.mapu with ckptNow := true } }) s
  | .zircon, 2 => onBit w 6 (fun s => { s with zir := { s.zir with testReq := true, testNext := 0 } }) (onBit w 5 (fun s => replanCause s 7) s)
  | .zircon, 3 => acceptItems s (w % 32)
  | .beryl, 12 => onBit w 0 (fun s => startStore s 0 [(0, 4095)] false) s
  | .security, 3 => onBit w 1 startHeld s
  | _, _ => s

/-! ## Writes (13 R401, R404, R414, R416) -/

/-- The pending word of a register of the filter set that FS_SEL names (15 R455). -/
def writeFs (s : State) (k m v : Nat) : State :=
  let n := regF s .quartz 0 2 2 0
  let c := fsAt s n k
  let w := mergeBits c.pend.toNat (m &&& heldMask .quartz (3 + k)) v
  { s with qz := { s.qz with fs := sSet (fsDefault k) s.qz.fs (n * 4 + k) { c with pend := BitVec.ofNat 20 w } } }

/-- The pending FSET of the counter that CTR_SEL names (15 R448, R455). -/
def writeFset (s : State) (m v : Nat) : State :=
  let x := sGet (0, 0) s.qz.fset (ctrSel s)
  let w := takeValue .fset (mergeBits x.2 (m &&& 0xF) v % 16)
  if 288 ≤ ctrSel s then s else { s with qz := { s.qz with fset := sSet (0, 0) s.qz.fset (ctrSel s) (x.1, w) } }

/-- A write of a ring register: with the link down its point is at once, and what waits for EN = 0 follows (12 R369; 13 R406). -/
def writeRing (s : State) (p slot m v : Nat) : State :=
  let was := regB s .ring p 7 0
  let s := putPend s .ring p slot m v
  if (portAt s p).linkUp then s
  else
    let s := ringEdge s p was
    if regB s .ring p 7 0 then s else [0, 1, 2, 3, 4, 5, 6].foldl (fun s k => applySlot s .ring p k .quiet) s

/-- The held fields of a slot take the selected bits. -/
def writeHeld (s : State) (b : Blk) (i slot m v : Nat) : State :=
  match b, slot with
  | .cache, 1 => if m &&& heldMask .cache 1 = 0 then s else writeWayDis s i (m &&& heldMask .cache 1) v
  | .ring, 8 => writeTail s i m v
  | .ring, 10 => writeCplHead s i m v
  | .ring, _ => writeRing s i slot m v
  | .quartz, 3 => writeFs s 0 m v
  | .quartz, 4 => writeFs s 1 m v
  | .quartz, 5 => writeFs s 2 m v
  | .quartz, 6 => writeFs s 3 m v
  | .quartz, 8 => writeFset s m v
  | _, _ => putPend s b i slot m v

/-- A write that has passed its checks; one of a mirrored register goes through the pair's sequence while the pair mirrors (10 R305). -/
def takeWrite (s : State) (r : Nat) (b : Blk) (i slot m v : Nat) : State :=
  if b = .global ∧ slot = 14 then s
  else if mirroredReg b slot && mirroring s then
    settle (issue s (regDesc ((blkIdx b + i) * 4096 + slot * 8) (v + m * 2 ^ 20)) none [])
  else actSlot (writeHeld s b i slot m v) r b slot (v &&& m &&& woMask b slot)

/-- Whether the EXPERT_EN bits of every field that a mask selects are set; EXPERT_EN itself needs none (13 R416). -/
def expertOk (s : State) (b : Blk) (slot m : Nat) : Bool :=
  (slotFields b slot).all (fun f => decide (f.acc ≠ .rwk) || decide (f.mask &&& m = 0) || decide (f.fn = 31) || expertEn s f.fn)

/-- A whole-slot write (13 R416): guarded if its mask selects an RWK bit. A write of WAY_DIS of a retired slice, whose domain is off, is taken to be
recorded (05 R163). A write of DBG_CTL from JTAG is ignored (20 R559). -/
def writeSlot (s : State) (r off : Nat) (b : Blk) (i slot v : Nat) : State :=
  let m := wrMask v
  let v := v % 2 ^ 20
  let wayDis : Bool := decide (b = .cache) && decide (slot = 1) && (sliceAt s i).retired
  if !(domOn s (blkDom b i) || (decide (b = .security) && decide (slot = 7)) || wayDis) then s
  else if decide (b = .security) && decide (slot = 7) && decide (r = 5) then s
  else if b = .global ∧ slot = 14 then writeUnlock s r off (v &&& m)
  else if m &&& rwkMask b slot = 0 then takeWrite s r b i slot m v
  else if isArmed s r then
    let s := disarm s r
    if expertOk s b slot m then takeWrite s r b i slot m v else violation s 1 r off
  else violation s 0 r off

/-- A write access (13 R400). -/
def busWrite (s : State) (r off size v : Nat) : State :=
  if !reqReaches s r then s
  else match coverOf r off size with
    | .whole => (match slotOf off with
      | some (b, i, slot) => writeSlot s r off b i slot v
      | none => s)
    | .lower | .upper | .other => violation s 2 r off

/-- REG_WRITE. -/
def regWriteF (s : State) (r : Nat) (off : BitVec 20) (size : Nat) (v : BitVec 64) : State := busWrite s r off.toNat size v.toNat

def execRegWrite (r : Requester) (off : BitVec 20) (size : Nat) (v : BitVec 64) (s : State) : Host.Outcome State Fault Refusal :=
  .next (regWriteF s r.val off size v)

/-- UNLOCK: a write of GLOBAL.UNLOCK. -/
def unlockF (s : State) (r : Nat) (v : BitVec 64) : State := busWrite s r (14 * 8) 8 v.toNat

def execUnlock (r : Requester) (v : BitVec 64) (s : State) : Host.Outcome State Fault Refusal := .next (unlockF s r.val v)

/-- UNLOCK_EXPIRE: 100 ms after the arming write, with no flag. -/
def unlockExpireF (s : State) (r : Nat) : State := if isArmed s r then s else disarm s r

def execUnlockExpire (r : Requester) (s : State) : Host.Outcome State Fault Refusal := .next (unlockExpireF s r.val)

/-- LASTGASP_ACK: a write of GLOBAL.LASTGASP(12). -/
def lastgaspAckF (s : State) (r : Nat) (v : BitVec 64) : State := busWrite s r (32 * 8) 8 v.toNat

def execLastgaspAck (r : Requester) (v : BitVec 64) (s : State) : Host.Outcome State Fault Refusal := .next (lastgaspAckF s r.val v)

/-- ACK: a write of L_STAT of latch group g. -/
def ackF (s : State) (r g : Nat) (v : BitVec 64) : State := busWrite s r (0xE000 + 0x60 * g) 8 v.toNat

def execAck (r : Requester) (g : Fin 3) (v : BitVec 64) (s : State) : Host.Outcome State Fault Refusal := .next (ackF s r.val g.val v)

/-- INJECT: a write of FAULT.INJ_CTL. -/
def injectF (s : State) (r : Nat) (v : BitVec 64) : State := busWrite s r (0xE000 + 0x158) 8 v.toNat

def execInject (r : Requester) (v : BitVec 64) (s : State) : Host.Outcome State Fault Refusal := .next (injectF s r.val v)

/-- FLUSH: a write of AGATE.AG_CTL. -/
def flushF (s : State) (r : Nat) (v : BitVec 64) : State := busWrite s r (0xF000 + 0x38) 8 v.toNat

def execFlush (r : Requester) (v : BitVec 64) (s : State) : Host.Outcome State Fault Refusal := .next (flushF s r.val v)

/-- CMD_TAIL: a write of RING[p].CMD_TAIL. -/
def cmdTailF (s : State) (r p : Nat) (v : BitVec 64) : State := busWrite s r ((6 + p) * 0x1000 + 0x40) 8 v.toNat

def execCmdTail (r : Requester) (p : Port) (v : BitVec 64) (s : State) : Host.Outcome State Fault Refusal := .next (cmdTailF s r.val p.val v)

/-- CPL_HEAD: a write of RING[p].CPL_HEAD. -/
def cplHeadF (s : State) (r p : Nat) (v : BitVec 64) : State := busWrite s r ((6 + p) * 0x1000 + 0x50) 8 v.toNat

def execCplHead (r : Requester) (p : Port) (v : BitVec 64) (s : State) : Host.Outcome State Fault Refusal := .next (cplHeadF s r.val p.val v)

/-- DUMP_HEAD: a write of QUARTZ.DUMP_HEAD. -/
def dumpHeadF (s : State) (r : Nat) (v : BitVec 64) : State := busWrite s r (0x11000 + 0x80) 8 v.toNat

def execDumpHead (r : Requester) (v : BitVec 64) (s : State) : Host.Outcome State Fault Refusal := .next (dumpHeadF s r.val v)

/-- FREEZE: a write of QUARTZ.Q_CTL. -/
def freezeF (s : State) (r : Nat) (v : BitVec 64) : State := busWrite s r (0x11000 + 0x08) 8 v.toNat

def execFreeze (r : Requester) (v : BitVec 64) (s : State) : Host.Outcome State Fault Refusal := .next (freezeF s r.val v)

/-- THAW: a write of QUARTZ.Q_CTL. -/
def thawF (s : State) (r : Nat) (v : BitVec 64) : State := busWrite s r (0x11000 + 0x08) 8 v.toNat

def execThaw (r : Requester) (v : BitVec 64) (s : State) : Host.Outcome State Fault Refusal := .next (thawF s r.val v)

/-- CLEAR: a write of QUARTZ.CLR_CTL. -/
def clearF (s : State) (r : Nat) (v : BitVec 64) : State := busWrite s r (0x11000 + 0xD0) 8 v.toNat

def execClear (r : Requester) (v : BitVec 64) (s : State) : Host.Outcome State Fault Refusal := .next (clearF s r.val v)

/-- CKPT_NOW: a write of MAPCTL.CKPT_CTL; the request stands from the next pacing epoch on (07 R241). -/
def ckptNowF (s : State) (r : Nat) (v : BitVec 64) : State := busWrite s r (0xB000 + 0x08) 8 v.toNat

def execCkptNow (r : Requester) (v : BitVec 64) (s : State) : Host.Outcome State Fault Refusal := .next (ckptNowF s r.val v)

/-- REPLAN_NOW: a write of ZIRCON.ZC_CTL. -/
def replanNowF (s : State) (r : Nat) (v : BitVec 64) : State := busWrite s r (0xC000 + 0x10) 8 v.toNat

def execReplanNow (r : Requester) (v : BitVec 64) (s : State) : Host.Outcome State Fault Refusal := .next (replanNowF s r.val v)

/-- TEST_NOW: a write of ZIRCON.ZC_CTL. -/
def testNowF (s : State) (r : Nat) (v : BitVec 64) : State := busWrite s r (0xC000 + 0x10) 8 v.toNat

def execTestNow (r : Requester) (v : BitVec 64) (s : State) : Host.Outcome State Fault Refusal := .next (testNowF s r.val v)

/-- ACCEPT: a write of ZIRCON.PLAN_CTL. -/
def acceptF (s : State) (r : Nat) (v : BitVec 64) : State := busWrite s r (0xC000 + 0x18) 8 v.toNat

def execAccept (r : Requester) (v : BitVec 64) (s : State) : Host.Outcome State Fault Refusal := .next (acceptF s r.val v)

/-- ADV_NOW: a write of SECURITY.FW_CTL. -/
def advNowF (s : State) (r : Nat) (v : BitVec 64) : State := busWrite s r (0x12000 + 0x18) 8 v.toNat

def execAdvNow (r : Requester) (v : BitVec 64) (s : State) : Host.Outcome State Fault Refusal := .next (advNowF s r.val v)

/-- STORE: a write of BERYL.BR_CTL. -/
def storeF (s : State) (r : Nat) (v : BitVec 64) : State := busWrite s r (0x10000 + 0x60) 8 v.toNat

def execStore (r : Requester) (v : BitVec 64) (s : State) : Host.Outcome State Fault Refusal := .next (storeF s r.val v)

/-- WAY_DIS: a write of CACHE[n].WAY_DIS. -/
def wayDisF (s : State) (r n : Nat) (v : BitVec 64) : State := busWrite s r ((0x20 + n) * 0x1000 + 0x08) 8 v.toNat

def execWayDis (r : Requester) (n : Slice) (v : BitVec 64) (s : State) : Host.Outcome State Fault Refusal := .next (wayDisF s r.val n.val v)

/-! ## Apply points (13 R405 to R407) -/

/-- Every slot of a block instance that waits for a point, with its domain on. -/
def applyBlock (s : State) (b : Blk) (i : Nat) (k : ApK) : State :=
  if domOn s (blkDom b i) then (slotsFor b k).foldl (fun s j => applySlot s b i j k) s else s

/-- An apply point, at the instant its sender names (log entry 42). Quartz settings wait for a dump boundary while dumps run, and for a
pacing epoch while they do not. A JOIN_EN that becomes 1 with the link ACTIVE starts a join (10 R323). -/
def regApplyF (s : State) (a : ApplyPoint) : State :=
  let dumps := regB s .quartz 0 11 0
  match a with
  | .now => s
  | .quiet p => if domOn s (2 + p.val) then evalStop (ringQuiet (applyBlock s .port p.val .quiet) p.val) else s
  | .heartbeat =>
    let t := applyBlock s .spinel 0 .heartbeat
    if works t && decide (t.pair.role = .unpaired) && !regB s .spinel 0 2 0 && regB t .spinel 0 2 0 then startJoining t else t
  | .epoch =>
    let s := applyBlock (applyBlock (applyBlock s .mapctl 0 .epoch) .spinel 0 .epoch) .thermal 0 .epoch
    if dumps || !domOn s 1 then s else applyDump s
  | .replan => if domOn s 1 then applyReplan s else s
  | .diode => applyBlock s .thermal 0 .diode
  | .media => applyBlock s .thermal 0 .media
  | .dump => if dumps && domOn s 1 then applyDump s else s
  | .sequencer => applyBlock s .power 0 .sequencer
  | .mediaOp c => applyBlock s .channel c.val .mediaOp

def execRegApply (at_ : ApplyPoint) (s : State) : Host.Outcome State Fault Refusal := .next (regApplyF s at_)

end Sys2Proof.Machine
end

