-- ==== Sys2Proof/Machine/ReplayCmd.lean ====
section
/-! DEFINITION. Boot step 6 (17 R491, R492): the anchor scan (07 R211), the load of the tree and of the structures other than map pages, and replay of
the journal (07 R228 to R231; 20 R545, R558). Then the warmer's loads (03 R97). -/

namespace Sys2Proof.Machine

/-! ## Reading metadata -/

/-- What senses return, by PTN × 256 + frame slot. -/
abbrev ResList := List (Nat × SenseRes × SenseRes)

/-- The line of a metadata frame as it reads: zero where it was never written. None where it cannot be used (07 R231). -/
def usable (f : Sensed) : Option Line :=
  match f with
  | .line d .. => some d
  | .never => some 0
  | .interrupted | .wZero | .tagFault | .uncorr | .again => none

/-- Sense `n` frames of a metadata tile from frame `k` on: their lines, or none where one cannot be used. -/
def readTile (s : State) (t mseq : Nat) (res : ResList) : Nat → Nat → State × Option (List Line)
  | 0, _ => (s, some [])
  | n + 1, k =>
    let (s, f, _) := senseMeta s t k mseq (resOf res (t * 256 + k)) 0 attrMeta
    match usable f with
    | none => (s, none)
    | some d => match readTile s t mseq res n (k + 1) with
      | (s, some l) => (s, some (d :: l))
      | (s, none) => (s, none)

/-! ## The anchor scan (07 R211) -/

/-- The anchor frames that BOOT senses: those of the lowest live die of every live channel. -/
def anchorFrames (s : State) : List (Nat × Nat) :=
  (liveChans s).flatMap (fun c => match findP (fun d => dieLive s (c * 8 + d)) (List.range 6) with
    | some d => (List.range 512).map (fun a => ((c * 8 + d) * 2 ^ 24 + a / 256, a % 256))
    | none => [])

/-- Sense an anchor frame: the newest anchor so far. -/
def scanAnchor (res : ResList) (x : State × Option AnchorF) (fr : Nat × Nat) : State × Option AnchorF :=
  let own := (frameAt x.1 fr.1 fr.2).key.isNone
  let (s, f, _) := senseMetaAs x.1 fr.1 fr.2 own (resOf res (fr.1 * 256 + fr.2)) 0 attrMeta
  match f with
  | .line d .. =>
    let a := anchorFrom d
    let newer : Bool := match x.2 with
      | some b => decide (b.aseq < a.aseq)
      | none => true
    (s, if (a.y16 == decide (s.sec.variant = .y16)) && newer then some a else x.2)
  | .never | .interrupted | .wZero | .tagFault | .uncorr | .again => (s, x.2)

/-- The newest anchor that the scan finds. -/
def findAnchor (s : State) (res : ResList) : State × Option AnchorF := (anchorFrames s).foldl (scanAnchor res) (s, none)

/-! ## The tree and the structures (07 R208, R228) -/

/-- The walk down the tree: the nodes found with PTN and MSEQ, what the structures hold, and the first node of which a frame cannot be used. -/
structure TreeWalk where
  s : State
  nodes : List (Nat × Nat × Nat)
  x : Loaded
  bad : Option Nat
deriving DecidableEq, Repr

/-- The lines of a list, zero beyond its end. -/
def lineIn (l : List Line) (k : Nat) : Line := nth 0 l k

/-- The children that a tree node names. -/
def kidsOf (n : Nat) (l : List Line) : List (Nat × Nat × Nat) :=
  (List.range (fanOf n)).filterMap (fun k =>
    let x := itemAt 128 k (lineIn l)
    if x = 0 then none else some (childOf n k, locPtn x, locMseq x))

/-- Sense a node: a tree node names its children, a structure is taken in. A map page and a ledger object are sensed when they are loaded (R229; 08
R244): the model reads here what their frames hold. -/
def readNode (res : ResList) (w : TreeWalk) (n : Nat × Nat × Nat) : TreeWalk :=
  match w.bad with
  | some _ => w
  | none =>
    let w := { w with nodes := w.nodes ++ [n] }
    if n.1 < objClone ∨ (objLedger ≤ n.1 ∧ n.1 < 2 ^ 22) then
      { w with x := loadObj w.s.sec.variant n.1 (fun l => (frameAt w.s n.2.1 l).line) w.x }
    else match readTile w.s n.2.1 n.2.2 res 256 0 with
      | (s, none) => { w with s := s, bad := some n.1 }
      | (s, some l) => if n.1 < 2 ^ 22 then { w with s := s, x := loadObj s.sec.variant n.1 (lineIn l) w.x } else { w with s := s }

/-- The children of the nodes of a level, as their frames hold them. -/
def kidLevel (s : State) (ns : List (Nat × Nat × Nat)) : List (Nat × Nat × Nat) :=
  ns.flatMap (fun n => kidsOf n.1 ((List.range 256).map (fun l => (frameAt s n.2.1 l).line)))

/-- Root, branches, leaves and objects, level by level. -/
def readTree (res : ResList) (s : State) (root : Nat) : TreeWalk :=
  let w : TreeWalk := { s := s, nodes := [], x := { tabs := tablesInit, led := [], pageSeq := [] }, bad := none }
  let r := if root = 0 then [] else [(rootNode, locPtn root, locMseq root)]
  let b := kidLevel s r
  let f := kidLevel s b
  (r ++ b ++ f ++ kidLevel s f).foldl (readNode res) w

/-! ## The walk of the journal (07 R228) -/

/-- The walk: `x`, the dirty objects and the rest as replay builds them; the group and the pending takes; the tile that is read, with its MSEQ and
the line; the map pages named and the entries that uncorrectable frames of those held; the tiles and lines passed. -/
structure JWalk where
  s : State
  x : Loaded
  dirty : Store Bool
  jseq : Nat
  group : List JRec
  pend : List (Nat × Nat × Nat)
  tile : Nat
  mseq : Nat
  line : Nat
  pages : List Nat
  lost : List Nat
  closed : List (Nat × Nat × Nat)
  lines : List (Nat × Nat × Nat)
  stop : Bool
  broken : Bool
deriving DecidableEq, Repr

/-- A journal line as it reads, if it is valid: CLOSED, decoded with at most one retry, with P = 0, and its CRC in order. -/
def readJLine (s : State) (t mseq l : Nat) (res : ResList) : State × Option Line :=
  let (s, f, _) := senseMeta s t l mseq (resOf res (t * 256 + l)) 0 attrMeta
  (s, match f with
    | .line d p _ _ => if !p && crcOk d then some d else none
    | .never | .interrupted | .wZero | .tagFault | .uncorr | .again => none)

/-- Whether a line of a tile from `l` on, `n` of them, is valid. -/
def laterValid (t mseq : Nat) (res : ResList) : Nat → Nat → State → State × Bool
  | 0, _, s => (s, false)
  | n + 1, l, s => match readJLine s t mseq l res with
    | (s, some _) => (s, true)
    | (s, none) => laterValid t mseq res n (l + 1) s

/-- The takes that an applied record leaves pending: it takes a tile, or refers to one. -/
def pendAfter (l : List (Nat × Nat × Nat)) (v : JVal) : List (Nat × Nat × Nat) :=
  match v with
  | .tileTake p pu ck => if pu = 0 then l else l ++ [(p, pu, ck)]
  | .mapSet _ e _ => if inUse e then l.filter (fun x => decide (x.1 ≠ e.ptn.toNat)) else l
  | .tileFree p | .retire p => l.filter (fun x => decide (x.1 ≠ p))
  | .resetDone _ | .cloneAdd .. | .cloneDel .. | .wellSet .. | .refuseSet .. | .refuseClr .. => l

/-- The ledger effect of a record: a take zeroes ADV and READS (08 R245), and its object is to be written. -/
def ledAfter (v : Variant) (x : Store Led × Store Bool) (j : JVal) : Store Led × Store Bool :=
  match j with
  | .tileTake p _ _ => (sMod ledInit x.1 p (fun l => { l with reads := 0, adv := 0 }), sSet false x.2 (ledObjNo v p) true)
  | .mapSet .. | .tileFree _ | .resetDone _ | .cloneAdd .. | .cloneDel .. | .wellSet .. | .refuseSet .. | .refuseClr .. | .retire _ => x

/-- The map page that a record names. -/
def recPage (v : JVal) : Option Nat :=
  match v with
  | .mapSet ltn _ _ => some (pageOf ltn)
  | .tileTake .. | .tileFree _ | .resetDone _ | .cloneAdd .. | .cloneDel .. | .wellSet .. | .refuseSet .. | .refuseClr .. | .retire _ => none

/-- Load a map page that a group names: the entries of its uncorrectable frames become LOST (R231). -/
def walkPage (nodes : List (Nat × Nat × Nat)) (res : ResList) (w : JWalk) (p : Nat) : JWalk :=
  if w.pages.contains p then w
  else
    let (s, bad) : State × List Nat := match findP (fun x => decide (x.1 = p)) nodes with
      | some n => senseTile w.s n.2.1 n.2.2 (n.2.1 * 256) res 256 0
      | none => (w.s, [])
    let ls := bad.flatMap (frameEntries p)
    let m := ls.foldl (fun m l => sSet entryInit m l { entryInit with st := .lost, gen := (sGet entryInit m l).gen }) w.x.tabs.map
    { w with s := s, pages := w.pages ++ [p], lost := w.lost ++ ls, x := { w.x with tabs := { w.x.tabs with map := m } } }

/-- Apply the group. -/
def applyGroup (nodes : List (Nat × Nat × Nat)) (res : ResList) (w : JWalk) : JWalk :=
  let w := (w.group.filterMap (fun r => recPage r.val)).foldl (walkPage nodes res) w
  let v := w.s.sec.variant
  let (tabs, dirty, seqs) := w.group.foldl (noteRec v) (w.x.tabs, w.dirty, w.x.pageSeq)
  let (led, dirty) := (w.group.map (·.val)).foldl (ledAfter v) (w.x.led, dirty)
  { w with x := { tabs := tabs, led := led, pageSeq := seqs }, dirty := dirty, pend := (w.group.map (·.val)).foldl pendAfter w.pend, group := [] }

/-- One record of a valid line. -/
def walkRec (nodes : List (Nat × Nat × Nat)) (res : ResList) (w : JWalk) (r : RecRead) : JWalk :=
  if w.stop then w
  else match r with
  | .nop => w
  | .reserved q => if q < w.jseq then w else { w with stop := true }
  | .one r =>
    if r.seq < w.jseq then w
    else if r.seq ≠ w.jseq then { w with stop := true }
    else
      let w := { w with group := w.group ++ [r], jseq := w.jseq + 1 }
      if r.last then applyGroup nodes res w else w

/-- Go on at line 1 of the next tile. -/
def enterTile (w : JWalk) (t mseq : Nat) : JWalk :=
  { w with tile := t, mseq := mseq, line := 1, closed := w.closed ++ [(w.tile, w.mseq, w.jseq - 1)], pend := w.pend.filter (fun x => decide (x.1 ≠ t)) }

/-- One turn of the loop of R228. Where a line is not valid and the chain does not go on in the next tile, a later valid line of the chain, in this tile or
the next, is a break (R231). -/
def walkStep (nodes : List (Nat × Nat × Nat)) (res : ResList) (w : JWalk) : JWalk :=
  if w.line = 256 then
    match readJLine w.s w.tile w.mseq 0 res with
    | (s, none) => { w with s := s, stop := true }
    | (s, some h) =>
      let (t, m) := headerNext h
      match readJLine s t m 0 res with
      | (s, none) => { enterTile { w with s := s } t m with stop := true }
      | (s, some g) => { enterTile { w with s := s } t m with stop := decide (headerFirst g ≠ w.jseq) }
  else match readJLine w.s w.tile w.mseq w.line res with
    | (s, some d) =>
      let first := w.jseq
      let w := (recsOf d).foldl (walkRec nodes res) { w with s := s }
      { w with lines := w.lines ++ [(first, w.tile, w.line)], line := w.line + 1 }
    | (s, none) =>
      let (s, later) := laterValid w.tile w.mseq res (255 - w.line) (w.line + 1) s
      match readJLine s w.tile w.mseq 0 res with
      | (s, none) => { w with s := s, stop := true, broken := later }
      | (s, some h) =>
        let (t, m) := headerNext h
        match readJLine s t m 0 res with
        | (s, none) => { w with s := s, stop := true, broken := later }
        | (s, some g) =>
          if headerFirst g = w.jseq then enterTile { w with s := s } t m
          else
            let (s, more) := laterValid t m res 255 1 s
            { w with s := s, stop := true, broken := later || more }

/-- The loop: every turn passes a line or a tile of the medium. -/
def walkAll (nodes : List (Nat × Nat × Nat)) (res : ResList) : Nat → JWalk → JWalk
  | 0, w => w
  | n + 1, w => if w.stop then w else walkAll nodes res n (walkStep nodes res w)

/-- The walk of the journal from the tile and line that an anchor names, over the structures that its tree holds. -/
def walkJournal (t : TreeWalk) (a : AnchorF) (res : ResList) : JWalk :=
  walkAll t.nodes res (2 * t.s.med.frames.length + 8)
    { s := t.s, x := t.x, dirty := [], jseq := a.replay, group := [], pend := [], tile := locPtn a.jtile, mseq := locMseq a.jtile, line := a.jline,
      pages := [], lost := [], closed := [], lines := [], stop := false, broken := false }

/-- The next tile of the tile where replay stopped, with its MSEQ; a tile whose header is not valid is itself the one to be opened (log entry 82). -/
def nextOf (w : JWalk) (res : ResList) : State × Nat × Nat :=
  match readJLine w.s w.tile w.mseq 0 res with
  | (s, some h) => (s, headerNext h)
  | (s, none) => (s, w.tile, w.mseq)

/-- Pending takes that nothing refers to: those of purpose 2 of another checkpoint than the anchor's, and every other but the next journal tile. -/
def strayTakes (w : JWalk) (ckptNo next : Nat) : List Nat :=
  (w.pend.filter (fun x => decide (x.1 ≠ next) && (if x.2.1 = 2 then decide (x.2.2 ≠ ckptNo) else true))).map (·.1)

/-- Replay from an anchor whose tree has been read (R228, R229): the journal continues in the next tile, whose TILE_TAKE is appended where it was not
replayed. A lost key has its successor before the pages that replay loaded enter the map cache (20 R545); the warmer has only the others to load. The
metadata objects of the unit that BOOT started become dirty (09 R276, R290; log entry 92). -/
def replayFrom (s : State) (a : AnchorF) (t : TreeWalk) (w : JWalk) (res : ResList) : State :=
  let (s1, nx, nm) := nextOf w res
  let mseqs := (t.nodes.map (fun n => (n.2.1, n.2.2)) ++ w.closed.map (fun c => (c.1, c.2.1)) ++ [(w.tile, w.mseq), (nx, nm)]).foldl
    (fun m x => if x.1 = 0 then m else sSet 0 m x.1 (x.2 + 1)) []
  let closed := (w.closed.map (fun c => (c.1, c.2.2)) ++ (if w.tile = nx then [] else [(w.tile, w.jseq - 1)])).filter (fun c => decide (c.1 ≠ 0))
  let s := { s1 with
    tabs := w.x.tabs
    mapu := { s.mapu with
      jnext := w.jseq, durable := w.jseq, jtileNext := nx, jclosed := closed, jmap := w.lines, mseqOf := mseqs, pageSeq := w.x.pageSeq, dirty := w.dirty
      aseq := a.aseq, ckptNo := a.ckptNo, ctrLimit := a.ctrLimit, ckptTiles := t.nodes.foldl (fun m n => sSet 0 m n.1 n.2.1) []
      ckptAt := now s, ckptJ := w.jseq, converted := 0, convertedLtns := [] }
    wear := { s1.wear with led := w.x.led } }
  let s := lostKeys s s.tabs.wells
  let s := w.pages.foldl (fun s p => markLoaded (installPage s p false) p) s
  let s := if nx ≠ 0 && decide (tileAt s nx ≠ 1) then jAppend s [.tileTake nx 3 0] else s
  let s := (strayTakes w a.ckptNo nx).foldl (fun s p => jAppend s [.tileFree p]) s
  let s := (List.range 256).foldl rebuildPool (requeueResets s)
  let s := dirtyClass s
  let still (l : Nat) : Bool := decide ((entryAt s l).st = .lost)
  let s := (w.lost.filter (fun l => !still l)).foldl (fun s l => report s srcMap 0x0207 l 0 0) (if w.lost.isEmpty then s else flagMapUe s)
  mapLost s (w.lost.filter still)

/-- A BOOT that finds SAN_RUN = 1 goes on from the number of the newest anchor (20 R558). -/
def resumeFrom (s : State) (a : AnchorF) : State :=
  sanitizeResume { s with mapu := { s.mapu with
    aseq := a.aseq, ckptNo := a.ckptNo, ctrLimit := a.ctrLimit, jnext := a.replay, durable := a.replay, ckptAt := now s, ckptJ := a.replay } }

/-- REPLAY: boot step 6. -/
def replayF (s : State) (res : ResList) : State :=
  if s.pwr.st = .boot && s.pwr.bootStep = 5 then
    let s := { s with pwr := { s.pwr with bootStep := 6 } }
    if (liveChans s).isEmpty then replayFails s 0 2
    else match findAnchor s res with
      | (s, none) => replayFails s 0 1
      | (s, some a) =>
        if (List.range 64).all (fun k => s.beryl.defaulted.contains (pgKeys + k)) then replayFails s 0 0
        else if (List.range 64).any (sanRun s) then resumeFrom s a
        else
          let t := readTree res s a.root
          match t.bad with
          | some o => replayFails t.s o 0
          | none =>
            let w := walkJournal t a res
            if w.broken then replayFails w.s 0 0 else replayFrom w.s a t w res
  else s

def execReplay (res : ResList) (s : State) : Host.Outcome State Fault Refusal := .next (replayF s res)

/-! ## The warmer (03 R97) -/

/-- WARMER_PAGE_LOAD: the next page of the order is sensed and arrives; it waits while an operation of its partition has not ended, and what is
uncorrectable waits while the journal takes no update (07 R223). -/
def warmerPageLoadF (s : State) (res : List (Nat × SenseRes × SenseRes)) : State :=
  if s.pwr.st = .service && !s.pwr.warm then
    match warmerPage s with
    | none => s
    | some p =>
      if tailFull s && !res.isEmpty then flagTailStall s
      else match loadObject s p 0 res with
        | none => s
        | some (s, bad) =>
          let s := mapLost s (bad.flatMap (frameEntries p))
          let s := (pageTiles s p).foldl scanEntry (markLoaded (installPage s p false) p)
          if s.pwr.st = .service && (warmerPage s).isNone then enterWarm s else s
  else s

def execWarmerPageLoad (res : List (Nat × SenseRes × SenseRes)) (s : State) : Host.Outcome State Fault Refusal := .next (warmerPageLoadF s res)

end Sys2Proof.Machine
end

