-- ==== Sys2Proof/Machine/Dispatch.lean ====
section
/-! DEFINITION. One arm per command: each calls that command's meaning. -/

namespace Sys2Proof.Machine

def exec (i : Instr) (s : State) : Host.Outcome State Fault Refusal :=
  match i with
  | .aonQualify seat sbSel sbAddr corr ue => Sys2Proof.Machine.execAonQualify seat sbSel sbAddr corr ue s
  | .mainInputQualify => Sys2Proof.Machine.execMainInputQualify s
  | .bootSettings => Sys2Proof.Machine.execBootSettings s
  | .bootSequencing => Sys2Proof.Machine.execBootSequencing s
  | .domainQualEnd d how temp => Sys2Proof.Machine.execDomainQualEnd d how temp s
  | .domainQualRetry d => Sys2Proof.Machine.execDomainQualRetry d s
  | .dramTraining badSlots tooMany => Sys2Proof.Machine.execDramTraining badSlots tooMany s
  | .dieDiscovery failed => Sys2Proof.Machine.execDieDiscovery failed s
  | .replay res => Sys2Proof.Machine.execReplay res s
  | .enterCold => Sys2Proof.Machine.execEnterCold s
  | .warmerPageLoad res => Sys2Proof.Machine.execWarmerPageLoad res s
  | .thermalRestart => Sys2Proof.Machine.execThermalRestart s
  | .inputTrigger pwrFail vinMv stuck => Sys2Proof.Machine.execInputTrigger pwrFail vinMv stuck s
  | .auxLost => Sys2Proof.Machine.execAuxLost s
  | .inputDip vinMv => Sys2Proof.Machine.execInputDip vinMv s
  | .inputCollapse interrupted => Sys2Proof.Machine.execInputCollapse interrupted s
  | .mainInputCycle => Sys2Proof.Machine.execMainInputCycle s
  | .perstAssert p => Sys2Proof.Machine.execPerstAssert p s
  | .perstDeassert p => Sys2Proof.Machine.execPerstDeassert p s
  | .pgDeassert d len10 => Sys2Proof.Machine.execPgDeassert d len10 s
  | .bankCutoff => Sys2Proof.Machine.execBankCutoff s
  | .drainLinesDone stuck => Sys2Proof.Machine.execDrainLinesDone stuck s
  | .drainOverrun stuck => Sys2Proof.Machine.execDrainOverrun stuck s
  | .drainFinalStoreDone => Sys2Proof.Machine.execDrainFinalStoreDone s
  | .faultReport source code arg0 arg1 arg2 => Sys2Proof.Machine.execFaultReport source code arg0 arg1 arg2 s
  | .agateFlush ue => Sys2Proof.Machine.execAgateFlush ue s
  | .firmwareAck uc => Sys2Proof.Machine.execFirmwareAck uc s
  | .watchdog reported => Sys2Proof.Machine.execWatchdog reported s
  | .aliveToggle => Sys2Proof.Machine.execAliveToggle s
  | .spinelLinkActive lanes peer peerSeat peerSerial => Sys2Proof.Machine.execSpinelLinkActive lanes peer peerSeat peerSerial s
  | .flitCrcError => Sys2Proof.Machine.execFlitCrcError s
  | .replayTimeout => Sys2Proof.Machine.execReplayTimeout s
  | .heartbeatSend => Sys2Proof.Machine.execHeartbeatSend s
  | .heartbeat h => Sys2Proof.Machine.execHeartbeat h s
  | .hbWindowEnd => Sys2Proof.Machine.execHbWindowEnd s
  | .witOutToggle => Sys2Proof.Machine.execWitOutToggle s
  | .witnessLost => Sys2Proof.Machine.execWitnessLost s
  | .soloGuardEnd => Sys2Proof.Machine.execSoloGuardEnd s
  | .soloPageDurable => Sys2Proof.Machine.execSoloPageDurable s
  | .joinTimeout => Sys2Proof.Machine.execJoinTimeout s
  | .resyncTileStart bad => Sys2Proof.Machine.execResyncTileStart bad s
  | .mirrorWrite mtag p pcause port dln ftag waited data => Sys2Proof.Machine.execMirrorWrite mtag p pcause port dln ftag waited data s
  | .mirrorAck mtags withheld => Sys2Proof.Machine.execMirrorAck mtags withheld s
  | .homeFwdWrFull mtag port dln poison data => Sys2Proof.Machine.execHomeFwdWrFull mtag port dln poison data s
  | .homeFwdWrPart mtag port dln poison be data => Sys2Proof.Machine.execHomeFwdWrPart mtag port dln poison be data s
  | .homeFwdRd mtag port dln => Sys2Proof.Machine.execHomeFwdRd mtag port dln s
  | .homeFwdRdData mtag ue p data lat => Sys2Proof.Machine.execHomeFwdRdData mtag ue p data lat s
  | .homeFwdRefuse mtag dln overtaken => Sys2Proof.Machine.execHomeFwdRefuse mtag dln overtaken s
  | .stateOpCmd mtag sseq desc ue => Sys2Proof.Machine.execStateOpCmd mtag sseq desc ue s
  | .stateOpTile mtag ltn sseq => Sys2Proof.Machine.execStateOpTile mtag ltn sseq s
  | .stateOpDone sseq status => Sys2Proof.Machine.execStateOpDone sseq status s
  | .resyncTileEntry mtag ltn cls pattern => Sys2Proof.Machine.execResyncTileEntry mtag ltn cls pattern s
  | .resyncTileLine dln p pcause data => Sys2Proof.Machine.execResyncTileLine dln p pcause data s
  | .tileEnd ltn lines => Sys2Proof.Machine.execTileEnd ltn lines s
  | .tileAck ltn => Sys2Proof.Machine.execTileAck ltn s
  | .lineReq mtag dln res retry => Sys2Proof.Machine.execLineReq mtag dln res retry s
  | .lineRsp mtag dln ok p pcause data => Sys2Proof.Machine.execLineRsp mtag dln ok p pcause data s
  | .resyncDoneReq => Sys2Proof.Machine.execResyncDoneReq s
  | .resyncDoneAck => Sys2Proof.Machine.execResyncDoneAck s
  | .resyncDoneSwitch => Sys2Proof.Machine.execResyncDoneSwitch s
  | .agateCopy recs => Sys2Proof.Machine.execAgateCopy recs s
  | .promoteNote cause => Sys2Proof.Machine.execPromoteNote cause s
  | .joinPage part data => Sys2Proof.Machine.execJoinPage part data s
  | .joinOpen index ltns => Sys2Proof.Machine.execJoinOpen index ltns s
  | .joinWells index wells => Sys2Proof.Machine.execJoinWells index wells s
  | .joinInuse ranges => Sys2Proof.Machine.execJoinInuse ranges s
  | .joinEnd list count => Sys2Proof.Machine.execJoinEnd list count s
  | .linkTraining p lanes rate hostClk => Sys2Proof.Machine.execLinkTraining p lanes rate hostClk s
  | .ideIntegrityFailure p => Sys2Proof.Machine.execIdeIntegrityFailure p s
  | .hdmDecoderCommit p j d => Sys2Proof.Machine.execHdmDecoderCommit p j d s
  | .memrd p tag hpa env => Sys2Proof.Machine.execMemrd p tag hpa env s
  | .memrddata p tag hpa env => Sys2Proof.Machine.execMemrddata p tag hpa env s
  | .memspecrd p hpa => Sys2Proof.Machine.execMemspecrd p hpa s
  | .meminv p tag => Sys2Proof.Machine.execMeminv p tag s
  | .meminvnt p tag => Sys2Proof.Machine.execMeminvnt p tag s
  | .memclnevct p tag => Sys2Proof.Machine.execMemclnevct p tag s
  | .memrdfwd p hpa => Sys2Proof.Machine.execMemrdfwd p hpa s
  | .memwrfwd p hpa => Sys2Proof.Machine.execMemwrfwd p hpa s
  | .memwr p tag hpa poison data upset => Sys2Proof.Machine.execMemwr p tag hpa poison data upset s
  | .memwrptl p tag hpa poison be data upset => Sys2Proof.Machine.execMemwrptl p tag hpa poison be data upset s
  | .globalPersistentFlush p phase2 => Sys2Proof.Machine.execGlobalPersistentFlush p phase2 s
  | .frameSenseDone sid res lat => Sys2Proof.Machine.execFrameSenseDone sid res lat s
  | .retrySenseDone sid res lat => Sys2Proof.Machine.execRetrySenseDone sid res lat s
  | .demandMapReadDone page res lat => Sys2Proof.Machine.execDemandMapReadDone page res lat s
  | .programResume die part => Sys2Proof.Machine.execProgramResume die part s
  | .burstMeterSlot c => Sys2Proof.Machine.execBurstMeterSlot c s
  | .loadWindowEnd c => Sys2Proof.Machine.execLoadWindowEnd c s
  | .writeAdmit slice => Sys2Proof.Machine.execWriteAdmit slice s
  | .dieResolve dln => Sys2Proof.Machine.execDieResolve dln s
  | .cleaning die upset => Sys2Proof.Machine.execCleaning die upset s
  | .pacingEpoch res => Sys2Proof.Machine.execPacingEpoch res s
  | .programDispatch u => Sys2Proof.Machine.execProgramDispatch u s
  | .programVerifyDone u ok ns => Sys2Proof.Machine.execProgramVerifyDone u ok ns s
  | .filterRebuild => Sys2Proof.Machine.execFilterRebuild s
  | .journalLineProgram => Sys2Proof.Machine.execJournalLineProgram s
  | .journalLineVerify ok ns => Sys2Proof.Machine.execJournalLineVerify ok ns s
  | .checkpointStart => Sys2Proof.Machine.execCheckpointStart s
  | .checkpointAnchor => Sys2Proof.Machine.execCheckpointAnchor s
  | .checkpointFree => Sys2Proof.Machine.execCheckpointFree s
  | .moveStart ltn cause => Sys2Proof.Machine.execMoveStart ltn cause s
  | .moveCopy ltn line res retry => Sys2Proof.Machine.execMoveCopy ltn line res retry s
  | .moveCommit ltn => Sys2Proof.Machine.execMoveCommit ltn s
  | .tileResetStart die => Sys2Proof.Machine.execTileResetStart die s
  | .resetDone ptn ok => Sys2Proof.Machine.execResetDone ptn ok s
  | .epochUnitStart => Sys2Proof.Machine.execEpochUnitStart s
  | .mediaTempSample c temps stuck => Sys2Proof.Machine.execMediaTempSample c temps stuck s
  | .diodeSample t stuck => Sys2Proof.Machine.execDiodeSample t stuck s
  | .refreshScan ltn => Sys2Proof.Machine.execRefreshScan ltn s
  | .scrubSense line res retry late => Sys2Proof.Machine.execScrubSense line res retry late s
  | .scrubAutoResume => Sys2Proof.Machine.execScrubAutoResume s
  | .sentinelProgram die => Sys2Proof.Machine.execSentinelProgram die s
  | .replanStart cause => Sys2Proof.Machine.execReplanStart cause s
  | .planInstant m => Sys2Proof.Machine.execPlanInstant m s
  | .canarySample slacks => Sys2Proof.Machine.execCanarySample slacks s
  | .eyeMarginSample eyes => Sys2Proof.Machine.execEyeMarginSample eyes s
  | .bankTestStart stepMv => Sys2Proof.Machine.execBankTestStart stepMv s
  | .bankTestEnd us reached33 recharged => Sys2Proof.Machine.execBankTestEnd us reached33 recharged s
  | .berylPageProgram => Sys2Proof.Machine.execBerylPageProgram s
  | .berylPageVerify ok stuck => Sys2Proof.Machine.execBerylPageVerify ok stuck s
  | .dumpBoundary dmaOk => Sys2Proof.Machine.execDumpBoundary dmaOk s
  | .fuseBlow ok => Sys2Proof.Machine.execFuseBlow ok s
  | .entropyTestFail => Sys2Proof.Machine.execEntropyTestFail s
  | .wayDisable slice upset => Sys2Proof.Machine.execWayDisable slice upset s
  | .descriptorFetch p desc => Sys2Proof.Machine.execDescriptorFetch p desc s
  | .completionWrite p dmaOk => Sys2Proof.Machine.execCompletionWrite p dmaOk s
  | .coalWindowEnd p vec => Sys2Proof.Machine.execCoalWindowEnd p vec s
  | .sidebandDescriptor desc payload => Sys2Proof.Machine.execSidebandDescriptor desc payload s
  | .setEndpointId eid => Sys2Proof.Machine.execSetEndpointId eid s
  | .wellCreate src tag => Sys2Proof.Machine.execWellCreate src tag s
  | .wellDestroy src tag => Sys2Proof.Machine.execWellDestroy src tag s
  | .wellModify src tag => Sys2Proof.Machine.execWellModify src tag s
  | .fill src tag => Sys2Proof.Machine.execFill src tag s
  | .clone src tag => Sys2Proof.Machine.execClone src tag s
  | .cacheMaint src tag upset => Sys2Proof.Machine.execCacheMaint src tag upset s
  | .poisonClear src tag ueLines => Sys2Proof.Machine.execPoisonClear src tag ueLines s
  | .pinMap src tag res => Sys2Proof.Machine.execPinMap src tag res s
  | .flushToMedia src tag => Sys2Proof.Machine.execFlushToMedia src tag s
  | .eventRead src tag dmaOk => Sys2Proof.Machine.execEventRead src tag dmaOk s
  | .counterSnapshot src tag dmaOk => Sys2Proof.Machine.execCounterSnapshot src tag dmaOk s
  | .dumpConfig src tag dmaOk => Sys2Proof.Machine.execDumpConfig src tag dmaOk s
  | .settingsStore src tag => Sys2Proof.Machine.execSettingsStore src tag s
  | .fwStage src tag dmaOk chunk => Sys2Proof.Machine.execFwStage src tag dmaOk chunk s
  | .fwActivate src tag => Sys2Proof.Machine.execFwActivate src tag s
  | .sanitize src tag => Sys2Proof.Machine.execSanitize src tag s
  | .twinControlJoin src tag => Sys2Proof.Machine.execTwinControlJoin src tag s
  | .twinControlLeave src tag => Sys2Proof.Machine.execTwinControlLeave src tag s
  | .twinControlPromote src tag => Sys2Proof.Machine.execTwinControlPromote src tag s
  | .twinControlDiscard src tag => Sys2Proof.Machine.execTwinControlDiscard src tag s
  | .capacityRelease src tag => Sys2Proof.Machine.execCapacityRelease src tag s
  | .healthReport src tag dmaOk => Sys2Proof.Machine.execHealthReport src tag dmaOk s
  | .errorTableRead src tag dmaOk => Sys2Proof.Machine.execErrorTableRead src tag dmaOk s
  | .scrubControlPause src tag => Sys2Proof.Machine.execScrubControlPause src tag s
  | .scrubControlResume src tag => Sys2Proof.Machine.execScrubControlResume src tag s
  | .scrubControlRange src tag => Sys2Proof.Machine.execScrubControlRange src tag s
  | .scrubControlAbortRange src tag => Sys2Proof.Machine.execScrubControlAbortRange src tag s
  | .keyRotate src tag => Sys2Proof.Machine.execKeyRotate src tag s
  | .identityRead src tag dmaOk => Sys2Proof.Machine.execIdentityRead src tag dmaOk s
  | .attest src tag dmaOk => Sys2Proof.Machine.execAttest src tag dmaOk s
  | .getEventRecords p log => Sys2Proof.Machine.execGetEventRecords p log s
  | .clearEventRecords p log seqs => Sys2Proof.Machine.execClearEventRecords p log seqs s
  | .getEventInterruptPolicy p => Sys2Proof.Machine.execGetEventInterruptPolicy p s
  | .setEventInterruptPolicy p vec => Sys2Proof.Machine.execSetEventInterruptPolicy p vec s
  | .getFwInfo p => Sys2Proof.Machine.execGetFwInfo p s
  | .getTimestamp p => Sys2Proof.Machine.execGetTimestamp p s
  | .setTimestamp p ts => Sys2Proof.Machine.execSetTimestamp p ts s
  | .getSupportedLogs p => Sys2Proof.Machine.execGetSupportedLogs p s
  | .getLog p cel => Sys2Proof.Machine.execGetLog p cel s
  | .identifyMemoryDevice p => Sys2Proof.Machine.execIdentifyMemoryDevice p s
  | .getPartitionInfo p => Sys2Proof.Machine.execGetPartitionInfo p s
  | .getHealthInfo p => Sys2Proof.Machine.execGetHealthInfo p s
  | .getAlertConfiguration p => Sys2Proof.Machine.execGetAlertConfiguration p s
  | .setAlertConfiguration p life temp ce => Sys2Proof.Machine.execSetAlertConfiguration p life temp ce s
  | .getShutdownState p => Sys2Proof.Machine.execGetShutdownState p s
  | .setShutdownState p clean => Sys2Proof.Machine.execSetShutdownState p clean s
  | .getDynamicCapacityConfiguration p => Sys2Proof.Machine.execGetDynamicCapacityConfiguration p s
  | .getDynamicCapacityExtentList p => Sys2Proof.Machine.execGetDynamicCapacityExtentList p s
  | .addDynamicCapacityResponse p well accept => Sys2Proof.Machine.execAddDynamicCapacityResponse p well accept s
  | .releaseDynamicCapacity p dpa len => Sys2Proof.Machine.execReleaseDynamicCapacity p dpa len s
  | .getVersion via => Sys2Proof.Machine.execGetVersion via s
  | .getCapabilities via => Sys2Proof.Machine.execGetCapabilities via s
  | .negotiateAlgorithms via offers => Sys2Proof.Machine.execNegotiateAlgorithms via offers s
  | .getDigests via => Sys2Proof.Machine.execGetDigests via s
  | .getCertificate via slot off len => Sys2Proof.Machine.execGetCertificate via slot off len s
  | .challenge via slot nonce => Sys2Proof.Machine.execChallenge via slot nonce s
  | .getMeasurements via index nonce => Sys2Proof.Machine.execGetMeasurements via index nonce s
  | .keyExchange via session => Sys2Proof.Machine.execKeyExchange via session s
  | .finish via session ok => Sys2Proof.Machine.execFinish via session ok s
  | .endSession via session => Sys2Proof.Machine.execEndSession via session s
  | .keyUpdate via session => Sys2Proof.Machine.execKeyUpdate via session s
  | .query via session => Sys2Proof.Machine.execQuery via session s
  | .keyProg via session mem tx kset key => Sys2Proof.Machine.execKeyProg via session mem tx kset key s
  | .kSetGo via session mem kset => Sys2Proof.Machine.execKSetGo via session mem kset s
  | .kSetStop via session mem kset => Sys2Proof.Machine.execKSetStop via session mem kset s
  | .getKey via session => Sys2Proof.Machine.execGetKey via session s
  | .jtagMemAccess op dpa data res => Sys2Proof.Machine.execJtagMemAccess op dpa data res s
  | .jtagTestMode t => Sys2Proof.Machine.execJtagTestMode t s
  | .regWrite r off size v => Sys2Proof.Machine.execRegWrite r off size v s
  | .regApply at_ => Sys2Proof.Machine.execRegApply at_ s
  | .rcRead r off size => Sys2Proof.Machine.execRcRead r off size s
  | .unlock r v => Sys2Proof.Machine.execUnlock r v s
  | .unlockExpire r => Sys2Proof.Machine.execUnlockExpire r s
  | .timeLatchRead r => Sys2Proof.Machine.execTimeLatchRead r s
  | .lastgaspAck r v => Sys2Proof.Machine.execLastgaspAck r v s
  | .ack r g v => Sys2Proof.Machine.execAck r g v s
  | .inject r v => Sys2Proof.Machine.execInject r v s
  | .flush r v => Sys2Proof.Machine.execFlush r v s
  | .newSeqRead r => Sys2Proof.Machine.execNewSeqRead r s
  | .cmdTail r p v => Sys2Proof.Machine.execCmdTail r p v s
  | .cplHead r p v => Sys2Proof.Machine.execCplHead r p v s
  | .ringEnable p => Sys2Proof.Machine.execRingEnable p s
  | .ringDisable p => Sys2Proof.Machine.execRingDisable p s
  | .dumpHead r v => Sys2Proof.Machine.execDumpHead r v s
  | .freeze r v => Sys2Proof.Machine.execFreeze r v s
  | .thaw r v => Sys2Proof.Machine.execThaw r v s
  | .ctrLoRead r => Sys2Proof.Machine.execCtrLoRead r s
  | .clear r v => Sys2Proof.Machine.execClear r v s
  | .ckptNow r v => Sys2Proof.Machine.execCkptNow r v s
  | .replanNow r v => Sys2Proof.Machine.execReplanNow r v s
  | .testNow r v => Sys2Proof.Machine.execTestNow r v s
  | .accept r v => Sys2Proof.Machine.execAccept r v s
  | .advNow r v => Sys2Proof.Machine.execAdvNow r v s
  | .store r v => Sys2Proof.Machine.execStore r v s
  | .wayDis r n v => Sys2Proof.Machine.execWayDis r n v s
  | .spinelLinkDown lanes cable => Sys2Proof.Machine.execSpinelLinkDown lanes cable s
  | .witInEdge => Sys2Proof.Machine.execWitInEdge s
  | .flitNak ackseq => Sys2Proof.Machine.execFlitNak ackseq s
  | .flitAck ackseq mir req bulk => Sys2Proof.Machine.execFlitAck ackseq mir req bulk s
  | .entropyTestPass => Sys2Proof.Machine.execEntropyTestPass s
  | .railVoltageFault d => Sys2Proof.Machine.execRailVoltageFault d s
  | .aonPowerLost => Sys2Proof.Machine.execAonPowerLost s
  | .auxRestored => Sys2Proof.Machine.execAuxRestored s

end Sys2Proof.Machine
end

