-- ==== Sys2Proof/Safety.lean ====
section
/-! DEFINITION. What a safe run of the block is: every step answers a next state. No command of the manual stops the module, so a
fault or a refusal would be the model's own. -/

namespace Sys2Proof.Safety

open Sys2Proof.Machine

/-- The step at `s` answers a next state. -/
def Runs (s : State) : Prop := ∃ t, step s = .next t

/-- No key rotation is under way. -/
def NoRotation (s : State) : Prop := s.keys.slots.all (fun x => !x.2.rotating) = true

/-- No ring command runs, no tile is being synced and no key is rotating: nothing else goes on when a command has taken its effect. -/
def Quiescent (s : State) : Prop := s.cmds = cmdsReset ∧ s.pair.syncing = none ∧ NoRotation s

/-- The command answers a next state, and `P` holds of it. -/
def Completes (c : Instr) (s : State) (P : State → Prop) : Prop := ∃ t, exec c s = .next t ∧ P t

/-- Descriptor `r` of source `src` with its tag and opcode is fetched and may start, and nothing else runs. -/
def Issued (s : State) (r : Running) (src : Nat) (tag : BitVec 16) (op : Nat) : Prop :=
  s.cmds = { cmdsReset with run := [r] } ∧ s.pair.syncing = none ∧ NoRotation s ∧ r.src = src ∧ (descOf r.desc).tag = tag ∧ (descOf r.desc).opcode = op
    ∧ r.started = false ∧ mayStart s r = true

/-- The completion of a descriptor as its ring holds it until it is written. -/
def cplOf (d : Desc) (status result : Nat) : Cpl :=
  { tag := d.tag, status := status, opcode := d.opcode, result := result, noirq := d.noirq, vec := d.vec }

/-- Between `s` and `t` one completion has been posted at a port's ring, and no descriptor runs any more. -/
def Posted (s t : State) (p : Port) (d : Desc) (status result : Nat) : Prop :=
  (ringAt t p.val).wait = (ringAt s p.val).wait ++ [cplOf d status result] ∧ t.cmds = { cmdsReset with starts := t.cmds.starts }

/-- `n` steps from `s` answer a next state. -/
def RunsFor (n : Nat) (s : State) : Prop := ∃ t, Host.Core.run Sys2Proof.core n s = .next t

/-- The thermal condition agrees with its causes: SHUTDOWN exactly while a trip stands; the Yelrid's level is a level, and THROTTLE2 while its
diode counts as failed (18 R514, R517). -/
def ThermalInv (s : State) : Prop :=
  (s.th.cond = .shutdown ↔ s.th.tripped = true) ∧ s.th.yelLvl ≤ 3 ∧ (s.th.yelFail = true → s.th.yelLvl = 3)

end Sys2Proof.Safety
end

