-- ==== Sys2Proof/Certificates/Slice0/Obligations.lean ====
section
/-! DEFINITION. The statements about this model for the provers. Each is a conjunction of clauses; a clause names its commands, the state and
operands it holds for, and what the command leaves. The rules are cited by number in OBLIGATIONS.json and named in the docstrings. -/

section

open Sys2Proof Sys2Proof.Machine Sys2Proof.Safety

/-- Power on: OFF to STANDBY and STANDBY to BOOT. AON power starts the module in STANDBY with TIME at zero, the strap's seat, no endpoint ID and
the Beryl pages restored. A qualified main input starts BOOT at its first step when the image that would run passes its verification: the fault
latches and the pair role start again, every port and ring is as after reset, and D01 is qualifying. An image that fails leaves the module in
STANDBY. Completion is stated of aonQualify, mainInputQualify. (01_module_at_a_glance R18, R21; 14_faults_and_agate_recorder R431;
17_start_up_and_recovery R485, R486) -/
def Obligations.PowerOnReachesStandbyAndBoot : Prop :=
  (∀ s seat sel addr corr ue, s.pwr.st = .off → ∃ t, exec (.aonQualify seat sel addr corr ue) s = .next t ∧
        t.pwr.st = .standby ∧ t.pwr.time = 0 ∧ t.pwr.seat = seat ∧ t.pwr.sbSel = sel ∧ t.pwr.sbAddr = addr ∧ t.pwr.eid = 0 ∧ t.pwr.auxOn = true
      ∧ t.beryl.restored = true)
  ∧ (∀ s, s.pwr.st = .standby → s.pwr.pwrFail = false → s.beryl.restored = true → s.sec.selected = false →
      imageFault s s.sec.active = 0 → ∃ t, exec .mainInputQualify s = .next t ∧
          t.pwr.st = .boot ∧ t.pwr.bootStep = 1 ∧ t.pair.role = .unpaired ∧ t.flt = fltReset ∧ t.ports = [] ∧ t.rings = []
      ∧ t.pwr.warm = false ∧ (domAt t 1).st = 1)
  ∧ (∀ s, s.pwr.st = .standby → s.pwr.pwrFail = false → s.beryl.restored = true → s.sec.selected = false →
      imageFault s s.sec.active ≠ 0 → ∃ t, exec .mainInputQualify s = .next t ∧ t.pwr.st = .standby)

/-- Boot steps 2 to 5. BOOT_SETTINGS ends step 1 once D01 is on. BOOT_SEQUENCING starts the power-up with D07. A domain that reports power-good is
on; an attempt of a domain that ends without it leaves the cause, and the next attempt begins after the pause. DRAM_TRAINING ends step 3 with the
failed rows retired, or in STANDBY where too many failed. DIE_DISCOVERY ends step 4. Completion is stated of bootSettings, bootSequencing,
domainQualEnd, domainQualRetry, dramTraining, dieDiscovery. (16_power_domains_drain_and_sequencing R461, R462, R464, R465;
17_start_up_and_recovery R485, R487, R488) -/
def Obligations.BootStepsFollowInOrder : Prop :=
  (∀ s, s.pwr.st = .boot → s.pwr.bootStep = 1 → (domAt s 1).st = 2 → (∀ n < 8, sliceRetiredPg s n = false) →
      (∀ n < 8, 12 ≤ openWays s n) → ∃ t, exec .bootSettings s = .next t ∧
          t.pwr.st = .boot ∧ t.pwr.bootStep = 2 ∧ (∀ n < 8, (sliceAt t n).retired = false) ∧ ∀ c < 32, (chanAt t c).retired = chanRetiredPg s c)
  ∧ (∀ s, s.pwr.st = .boot → s.pwr.bootStep = 1 → (domAt s 1).st ≠ 2 → ∃ t, exec .bootSettings s = .next t ∧ t = s)
  ∧ (∀ s, s.pwr.st = .boot → s.pwr.bootStep = 2 → ∃ t, exec .bootSequencing s = .next t ∧
        t.pwr.st = .boot ∧ t.pwr.bootStep = 3 ∧ t.pwr.seqStep = 2 ∧ (domAt t 7).st = 1 ∧ (domAt t 7).attempts = 1 ∧ t.tabs = s.tabs)
  ∧ (∀ s (d : Domain) temp, s.pwr.st = .boot → s.pwr.seqStep < 2 ∨ d.val ∈ upStep s.pwr.seqStep →
      d.val < 48 ∨ s.pwr.coolSince = none → (domAt s d.val).st = 1 → (domAt s d.val).cause = 0 →
      ∃ t, exec (.domainQualEnd d .ok temp) s = .next t ∧ (domAt t d.val).st = 2 ∧ (domAt t d.val).cause = 0 ∧ t.pwr.st = .boot)
  ∧ (∀ s (d : Domain) how temp, s.pwr.st = .boot → (domAt s d.val).st = 1 → (domAt s d.val).cause = 0 → how ≠ .ok →
      (domAt s d.val).attempts < 3 → ∃ t, exec (.domainQualEnd d how temp) s = .next t ∧
          (domAt t d.val).st = 1 ∧ (domAt t d.val).cause = (match how with | .noPowerGood => 1 | .dropped => 2 | .ok => 0)
          ∧ (domAt t d.val).attempts = (domAt s d.val).attempts ∧ t.pwr.st = .boot)
  ∧ (∀ s (d : Domain), s.pwr.st = .boot → (domAt s d.val).st = 1 → (domAt s d.val).cause ≠ 0 → (domAt s d.val).attempts < 3 →
      ∃ t, exec (.domainQualRetry d) s = .next t ∧
          (domAt t d.val).st = 1 ∧ (domAt t d.val).cause = 0 ∧ (domAt t d.val).attempts = (domAt s d.val).attempts + 1)
  ∧ (∀ s bad, s.pwr.st = .boot → s.pwr.bootStep = 3 → s.pwr.seqStep = 0 → ∃ t, exec (.dramTraining bad false) s = .next t ∧
        t.pwr.st = .boot ∧ t.pwr.bootStep = 4 ∧ ∀ k ∈ bad, k ∈ t.mapu.badSlots)
  ∧ (∀ s bad, s.pwr.st = .boot → s.pwr.bootStep = 3 → s.pwr.seqStep = 0 → ∃ t, exec (.dramTraining bad true) s = .next t ∧
        t.pwr.st = .standby ∧ t.pair.role = .unpaired)
  ∧ (∀ s failed, s.pwr.st = .boot → s.pwr.bootStep = 4 → ∃ t, exec (.dieDiscovery failed) s = .next t ∧
        t.pwr.st = .boot ∧ t.pwr.bootStep = 5 ∧ t.tabs = s.tabs ∧ t.med.frames = s.med.frames)

/-- Boot steps 6 and 7, the warmer and the automatic restart. A replay with no live channel, or one that finds no anchor, ends in HALT. One that
finds an anchor whose tree and journal can be read, with no page lost and no fault that stops the module, reaches step 6, and the checkpoint
numbers of that anchor are the module's. ENTER_COLD first writes SHUT = RUNNING, and enters SERVICE (COLD) once that page is durable. A page that
the warmer loads is resident. A thermal HALT is left by the automatic restart only when the junction has stayed cool for 60 s. Completion is
stated of replay, enterCold, warmerPageLoad, thermalRestart. (03_read_path_and_latency_bound R97; 07_tile_map R228;
16_power_domains_drain_and_sequencing R474, R481; 17_start_up_and_recovery R492, R493, R494, R499) -/
def Obligations.BootEndsInService : Prop :=
  (∀ s res, s.pwr.st = .boot → s.pwr.bootStep = 5 → (liveChans s).isEmpty = true → ∃ t, exec (.replay res) s = .next t ∧
        t.pwr.st = .halt ∧ t.pwr.fatal = true ∧ t.flt.ft.valid = true)
  ∧ (∀ s res s1, s.pwr.st = .boot → s.pwr.bootStep = 5 → (liveChans s).isEmpty = false →
      findAnchor { s with pwr := { s.pwr with bootStep := 6 } } res = (s1, none) → ∃ t, exec (.replay res) s = .next t ∧
          t.pwr.st = .halt ∧ t.pwr.fatal = true)
  ∧ (∀ s res s1 a w, s.pwr.st = .boot → s.pwr.bootStep = 5 → (liveChans s).isEmpty = false →
      findAnchor { s with pwr := { s.pwr with bootStep := 6 } } res = (s1, some a) → (∃ k < 64, s1.beryl.defaulted.contains (pgKeys + k) = false) →
      (∀ k < 64, sanRun s1 k = false) → (readTree res s1 a.root).bad = none → w = walkJournal (readTree res s1 a.root) a res →
      w.broken = false → w.lost = [] → (nextOf w res).1.pwr.st = .boot → (nextOf w res).1.pwr.bootStep = 6 → ∃ t, exec (.replay res) s = .next t ∧
          t.pwr.st = .boot ∧ t.pwr.bootStep = 6 ∧ t.mapu.aseq = a.aseq ∧ t.mapu.ckptNo = a.ckptNo ∧ t.mapu.ctrLimit = a.ctrLimit)
  ∧ (∀ s, s.pwr.st = .boot → s.pwr.bootStep = 6 → ∃ t, exec .enterCold s = .next t ∧
        t.pwr.st = .boot ∧ t.pwr.bootStep = 7 ∧ shutCode t = 1)
  ∧ (∀ s, s.pwr.st = .boot → s.pwr.bootStep = 7 → shutCode s = 1 → sGet false s.beryl.dirty pgShutdown = false →
      (∀ x ∈ s.beryl.prog, x.1 ≠ pgShutdown) → ∃ t, exec .enterCold s = .next t ∧
          t.pwr.st = .service ∧ t.pwr.warm = false ∧ t.mapu.ckptReq = true)
  ∧ (∀ s p, s.pwr.st = .service → s.pwr.warm = false → warmerPage s = some p → nodeTile s p = none → s.mapu.badSlots = [] →
      ∃ t, exec (.warmerPageLoad []) s = .next t ∧
          sGet false t.mapu.resident p = true ∧ sGet false t.mapu.loaded p = true ∧ t.med = s.med)
  ∧ (∀ s x, s.pwr.st = .halt → s.pwr.haltTh = true → expertEn s 12 = true → s.pwr.restartBlk = false → s.pwr.coolSince = some x →
      x + 60000000000 ≤ s.pwr.time → s.sec.selected = false → imageFault s s.sec.active = 0 → ∃ t, exec .thermalRestart s = .next t ∧
          t.pwr.st = .boot ∧ t.pwr.bootStep = 1 ∧ t.th.tripped = false ∧ t.pwr.fatal = false)

/-- Input loss and the auxiliary supply. A PWRFAIL_N that is deasserted at a sufficient voltage is noted. An input trigger in SERVICE starts a
Drain when the bank has not failed, and none in STANDBY. The loss of the auxiliary input beside the main input changes no power state. A dip is no
trigger. The collapse of both inputs, or of AON power, leaves the module OFF, with TIME at zero and every register lost, while the medium and the
fuses keep what they hold. Completion is stated of inputTrigger, auxLost, auxRestored, inputDip, inputCollapse, aonPowerLost.
(01_module_at_a_glance R18, R21; 16_power_domains_drain_and_sequencing R468, R469, R471, R472, R480, R482) -/
def Obligations.InputEventsActByPowerState : Prop :=
  (∀ s vin stuck, s.pwr.st ≠ .off → drainThr s ≤ vin → ∃ t, exec (.inputTrigger false vin stuck) s = .next t ∧
        t = { s with pwr := { s.pwr with pwrFail := false, vinMv := vin, mainOn := mainPresent vin } })
  ∧ (∀ s vin stuck, s.pwr.st = .standby → ∃ t, exec (.inputTrigger true vin stuck) s = .next t ∧
        t.pwr.st = .standby ∧ t.pwr.vinMv = vin ∧ t.pwr.pwrFail = true ∧ t.med = s.med)
  ∧ (∀ s vin stuck, s.pwr.st = .service → s.pwr.bankFailed = false → ∃ t, exec (.inputTrigger true vin stuck) s = .next t ∧
        t.pwr.st = .drain ∧ t.pwr.onBank = true)
  ∧ (∀ s, s.pwr.st ≠ .off → s.pwr.mainOn = true → ∃ t, exec .auxLost s = .next t ∧
        t.pwr.auxOn = false ∧ t.pwr.st = s.pwr.st ∧ t.tabs = s.tabs ∧ t.cache = s.cache)
  ∧ (∀ s, ∃ t, exec .auxRestored s = .next t ∧ t = { s with pwr := { s.pwr with auxOn := true, vauxMv := 3300 } })
  ∧ (∀ s vin, s.pwr.st ≠ .off → vin < 10800 → drainThr s < vin → ∃ t, exec (.inputDip vin) s = .next t ∧
        t.pwr.st = s.pwr.st ∧ t.pwr.vinMv = vin ∧ t.cist = s.cist ∧ t.cache = s.cache)
  ∧ (∀ s, s.pwr.st = .standby ∨ s.pwr.st = .boot ∨ s.pwr.st = .halt → s.pwr.testMode = false →
      ∃ t, exec (.inputCollapse []) s = .next t ∧
          t.pwr.st = .off ∧ t.pwr.time = 0 ∧ t.regs = [] ∧ t.med.frames = s.med.frames ∧ t.sec = s.sec)
  ∧ (∀ s, s.pwr.st ≠ .off → ∃ t, exec .aonPowerLost s = .next t ∧
        t.pwr.st = .off ∧ t.pwr.time = 0 ∧ t.regs = [] ∧ t.flt = fltReset ∧ t.med.frames = s.med.frames ∧ t.sec = s.sec)

/-- HALT is left by the main input alone. A main-input cycle in HALT with all four PERST_N latches set and the auxiliary input held leads to
STANDBY, and SHUTDOWN ends. With a latch clear it changes nothing. Completion is stated of mainInputCycle. (01_module_at_a_glance R21;
17_start_up_and_recovery R498; 18_zircon_ageing_and_thermal R517, R520) -/
def Obligations.MainInputCycleLeavesHalt : Prop :=
  (∀ s, s.pwr.st = .halt → s.pwr.perstLatch = 0xF → s.pwr.auxOn = true → ∃ t, exec .mainInputCycle s = .next t ∧
        t.pwr.st = .standby ∧ t.pwr.fatal = false ∧ t.th.tripped = false ∧ t.pwr.perstLatch = 0 ∧ t.pair.role = .unpaired)
  ∧ (∀ s, s.pwr.st = .halt → s.pwr.perstLatch ≠ 0xF → ∃ t, exec .mainInputCycle s = .next t ∧ t = s)

/-- Rails and power-good of running domains. A power-good glitch shorter than the filter is counted in its domain and stops nothing. A longer one,
a rail voltage out of range, and the bank's cutoff in a Drain each switch the module off into HALT. Completion is stated of pgDeassert,
railVoltageFault, bankCutoff. (16_power_domains_drain_and_sequencing R463, R467, R476) -/
def Obligations.RunningRailsStopTheModule : Prop :=
  (∀ s (d : Domain) n, (domAt s d.val).st = 2 → n < regF s .power 0 89 9 4 → ∃ t, exec (.pgDeassert d n) s = .next t ∧
        t.pwr.st = s.pwr.st ∧ (domAt t d.val).glitches = satAdd 127 (domAt s d.val).glitches 1 ∧ (domAt t d.val).st = 2)
  ∧ (∀ s (d : Domain) n, s.pwr.st = .service → (domAt s d.val).st = 2 → regF s .power 0 89 9 4 ≤ n →
      ∃ t, exec (.pgDeassert d n) s = .next t ∧ t.pwr.st = .halt ∧ t.pwr.fatal = true ∧ (domAt t d.val).cause = 3)
  ∧ (∀ s (d : Domain), s.pwr.st = .service → (domAt s d.val).st = 2 →
      ∃ t, exec (.railVoltageFault d) s = .next t ∧ t.pwr.st = .halt ∧ t.pwr.fatal = true ∧ (domAt t d.val).cause = 3)
  ∧ (∀ s, s.pwr.st = .drain → s.pwr.mainOn = true → ∃ t, exec .bankCutoff s = .next t ∧
        t.pwr.st = .halt ∧ t.cist.ents = [] ∧ t.cache.ways = [] ∧ t.med.frames = s.med.frames)

/-- The end of the Drain. When no line and no move is left, step 2 of the Drain has ended; once step 4 has stored and the journal holds nothing
that is not durable, the Drain is recorded and the domains lose what they hold. At 39.2 ms the line programs that still run are abandoned. Once
the final store has verified, the module enters HALT where a trigger requires it, which ends in OFF with both inputs gone, STANDBY where the
auxiliary input feeds D00, and OFF otherwise. Completion is stated of drainLinesDone, drainOverrun, drainFinalStoreDone. (01_module_at_a_glance
R24; 07_tile_map R224; 16_power_domains_drain_and_sequencing R477, R478, R479, R481) -/
def Obligations.DrainEndsByItsTriggers : Prop :=
  (∀ s d stuck, s.pwr.st = .drain → s.pwr.drain = some d → d.linesDone = false → drainPending s = false → d.stored = false →
      ∃ t, exec (.drainLinesDone stuck) s = .next t ∧ t = { s with pwr := { s.pwr with drain := some { d with linesDone := true } } })
  ∧ (∀ s d stuck, s.pwr.st = .drain → s.pwr.drain = some d → d.linesDone = true ∨ drainPending s = false → d.stored = true → d.recorded = false →
      journalDone s = true → ∃ t, exec (.drainLinesDone stuck) s = .next t ∧
          t.pwr.st = .drain ∧ t.pwr.drain = some { d with linesDone := true, recorded := true } ∧ t.cache.ways = [] ∧ t.cist.ents = []
          ∧ t.med.frames = s.med.frames)
  ∧ (∀ s d stuck, s.pwr.st = .drain → s.pwr.drain = some d → d.linesDone = false → d.start + 39200000 ≤ s.pwr.time → d.stored = false →
      ∃ t, exec (.drainOverrun stuck) s = .next t ∧
          t.pwr.drain = some { d with linesDone := true, overrun := true } ∧ t.pwr.st = .drain
          ∧ t.med.ops = s.med.ops.filter (fun o => decide (o.kind = .program .journal)) ∧ t.tabs = s.tabs ∧ t.cist = s.cist)
  ∧ (∀ s d, s.pwr.st = .drain → s.pwr.drain = some d → d.recorded = true → s.beryl.prog = [] → s.beryl.ops = [] →
      ∃ t, exec .drainFinalStoreDone s = .next t ∧
          t.pwr.st = if d.toHalt then (if s.pwr.auxOn || s.pwr.mainOn then .halt else .off) else if s.pwr.auxOn then .standby else .off)

/-- PERST_N of a port. PERST_N asserted in HALT is latched and touches nothing else. In SERVICE it drops the port's link and its HDM decoders,
disarms the port's unlock, disables its ring and resets its pointers, and leaves the map, the cache's lines and the other ports' rings alone. Its
deassertion clears the pin. Completion is stated of perstAssert, perstDeassert. (11_host_ports R360; 12_rings_and_commands R392;
13_register_conventions_and_map R415; 17_start_up_and_recovery R498) -/
def Obligations.PerstResetsOnePort : Prop :=
  (∀ s (p : Port), s.pwr.st = .halt → ∃ t, exec (.perstAssert p) s = .next t ∧
        t.pwr.perst = s.pwr.perst ||| BitVec.ofNat 4 (2 ^ p.val) ∧ t.pwr.perstLatch = s.pwr.perstLatch ||| BitVec.ofNat 4 (2 ^ p.val)
        ∧ t.ports = s.ports ∧ t.rings = s.rings)
  ∧ (∀ s (p : Port), s.pwr.st = .service → ∃ t, exec (.perstAssert p) s = .next t ∧
        (portAt t p.val).linkUp = false ∧ (portAt t p.val).hdm = [] ∧ (ringAt t p.val).enabled = false ∧ (ringAt t p.val).head = 0
        ∧ t.tabs = s.tabs ∧ t.cache.ways = s.cache.ways ∧ t.pwr.st = .service
        ∧ (∀ q, q < 4 → q ≠ p.val → (ringAt t q).enabled = (ringAt s q).enabled ∧ (ringAt t q).tail = (ringAt s q).tail))
  ∧ (∀ s (p : Port), s.pwr.st ≠ .service → ∃ t, exec (.perstDeassert p) s = .next t ∧
        t = { s with pwr := { s.pwr with perst := s.pwr.perst &&& ~~~ BitVec.ofNat 4 (2 ^ p.val) } })
  ∧ (∀ s (p : Port), s.pwr.st = .service → ∃ t, exec (.perstDeassert p) s = .next t ∧
        t.pwr.perst = s.pwr.perst &&& ~~~ BitVec.ofNat 4 (2 ^ p.val) ∧ t.tabs = s.tabs ∧ t.rings = s.rings)

/-- Reports of faults by class. A reserved code is no fault. A first escalating UC takes the latch with its source, code, arguments and TIME, and
stops nothing; a fatal code sets the FT latch, and in STANDBY the module enters HALT. A further fatal fault is counted and does not replace the
latched one. Completion is stated of faultReport. (14_faults_and_agate_recorder R425, R426, R428, R429, R443) -/
def Obligations.ReportsLatchByClass : Prop :=
  (∀ s src c a0 a1 a2, s.pwr.st ≠ .off → codeClass c = 4 → ∃ t, exec (.faultReport src c a0 a1 a2) s = .next t ∧ t = s)
  ∧ (∀ s src c a0 a1 a2, s.pwr.st ≠ .off → 0x0201 ≤ c → c ≤ 0x0207 → s.flt.uc.valid = false →
      ∃ t, exec (.faultReport src c a0 a1 a2) s = .next t ∧
          t.flt.uc.valid = true ∧ t.flt.uc.source = src ∧ t.flt.uc.code = c ∧ t.flt.uc.arg0 = a0 ∧ t.flt.uc.arg1 = a1
          ∧ t.flt.uc.time = s.pwr.time ∧ t.pwr.st = s.pwr.st ∧ t.flt.ft = s.flt.ft)
  ∧ (∀ s src c a0 a1 a2, s.pwr.st = .standby → 0x0301 ≤ c → c ≤ 0x0308 → s.flt.ft.valid = false →
      ∃ t, exec (.faultReport src c a0 a1 a2) s = .next t ∧
          t.pwr.st = .halt ∧ t.pwr.fatal = true ∧ t.flt.ft.valid = true ∧ t.flt.ft.code = c ∧ t.flt.ft.source = src)
  ∧ (∀ s src c a0 a1 a2, s.pwr.st = .standby → 0x0301 ≤ c → c ≤ 0x0308 → s.flt.ft.valid = true →
      ∃ t, exec (.faultReport src c a0 a1 a2) s = .next t ∧
          t.flt.ft.code = s.flt.ft.code ∧ t.flt.ft.source = s.flt.ft.source ∧ t.flt.ft.count = satAdd 8191 s.flt.ft.count 1)

/-- Flush, acknowledgement, watchdog and ALIVE. A flush that a fatal fault asked for starts at once and leaves nothing waiting. The firmware
acknowledges the CE or the UC latch where its AUTO bit allows and the FT latch never. A watchdog window without a report in STANDBY ends in HALT;
one with a report changes nothing else. ALIVE toggles while the module runs without a fatal fault and stands still in HALT. Completion is stated
of agateFlush, firmwareAck, watchdog, aliveToggle. (14_faults_and_agate_recorder R430, R432, R433, R438) -/
def Obligations.FaultUnitKeepsItsOwnTime : Prop :=
  (∀ s, s.pwr.st ≠ .off → s.ag.full = true → ∃ t, exec (.agateFlush []) s = .next t ∧
        t.ag.full = false ∧ t.ag.trig = [] ∧ t.flt = s.flt ∧ t.tabs = s.tabs)
  ∧ (∀ s uc, regB s .fault 0 37 (if uc then 1 else 0) = true → domOn s 1 = true → ∃ t, exec (.firmwareAck uc) s = .next t ∧
        (if uc then t.flt.uc.valid = false ∧ t.flt.ce = s.flt.ce else t.flt.ce.valid = false ∧ t.flt.uc = s.flt.uc)
        ∧ t.flt.ft = s.flt.ft ∧ t.ag = s.ag)
  ∧ (∀ s, s.pwr.st = .standby → ∃ t, exec (.watchdog false) s = .next t ∧ t.pwr.st = .halt ∧ t.pwr.fatal = true)
  ∧ (∀ s, s.pwr.st = .service → ∃ t, exec (.watchdog true) s = .next t ∧ t = { s with pwr := { s.pwr with wdOk := true } })
  ∧ (∀ s, s.pwr.st = .service → s.pwr.fatal = false → s.pwr.wdOk = true → ∃ t, exec .aliveToggle s = .next t ∧
        t.pwr.alive = !s.pwr.alive ∧ t.pwr.st = .service)
  ∧ (∀ s, s.pwr.st = .halt → ∃ t, exec .aliveToggle s = .next t ∧ t.pwr.alive = false ∧ t.pwr.aliveRun = false)

/-- The link layer counts, replays and acknowledges. A flit with a CRC error is discarded with every later one until the replay, and a NAK names
the last flit received in order. An outstanding flit that has waited 4 µs, or a NAK, replays what is outstanding and flags it. An acknowledgement
removes the flits up to its number and adds the credits of the header, up to the pools. With fewer than eight lanes, or without the cable, the
link is down and no role changes. Completion is stated of flitCrcError, replayTimeout, flitNak, flitAck, spinelLinkDown. (10_spinel_twin_pair
R312, R313, R314, R310; 21_electrical_and_mechanical R564) -/
def Obligations.FlitsReplayUntilAcknowledged : Prop :=
  (∀ s, s.pair.linkUp = true → ∃ t, exec .flitCrcError s = .next t ∧
        t.pair.rxDiscard = true ∧ t.out = s.out ++ [.nak s.pair.rxSeq] ∧ t.pair.flits = s.pair.flits ∧ t.tabs = s.tabs)
  ∧ (∀ s q ft n r, s.pair.linkUp = true → s.pair.flits = (q, ft, n) :: r → ft + 4000 ≤ s.pwr.time → ∃ t, exec .replayTimeout s = .next t ∧
        t.pair.flits.map (fun x => x.1) = s.pair.flits.map (fun x => x.1) ∧ .replay q ∈ t.out ∧ t.tabs = s.tabs ∧ t.cache = s.cache)
  ∧ (∀ s q ft n r, s.pair.linkUp = true → s.pair.flits = (q, ft, n) :: r → s.pwr.time < ft + 4000 → ∃ t, exec .replayTimeout s = .next t ∧
        t = s)
  ∧ (∀ s (k : Fin 1024), s.pair.linkUp = true → flitsAfter s.pair.flits k.val = [] → s.pair.txq = [] → Quiescent s →
      ∃ t, exec (.flitNak k) s = .next t ∧ t.pair.flits = [] ∧ t.out = s.out ∧ t.tabs = s.tabs)
  ∧ (∀ s (k : Fin 1024) q ft n r, s.pair.linkUp = true → flitsAfter s.pair.flits k.val = (q, ft, n) :: r → s.pair.txq = [] → Quiescent s →
      (∀ x ∈ (q, ft, n) :: r, x.2.2 < 7) → ∃ t, exec (.flitNak k) s = .next t ∧
          t.out = s.out ++ [.replay q] ∧ t.pair.flits = ((q, ft, n) :: r).map (fun x => (x.1, s.pwr.time, x.2.2 + 1)) ∧ t.tabs = s.tabs)
  ∧ (∀ s (k : Fin 1024) mir req bulk, s.pair.linkUp = true → s.pair.txq = [] → Quiescent s →
      ∃ t, exec (.flitAck k mir req bulk) s = .next t ∧
          t.pair.flits = flitsAfter s.pair.flits k.val ∧ t.pair.mir = min 2048 (s.pair.mir + mir.toNat)
          ∧ t.pair.req = min 2048 (s.pair.req + req.toNat) ∧ t.pair.bulk = min 512 (s.pair.bulk + bulk.toNat) ∧ t.out = s.out)
  ∧ (∀ s lanes cable, s.pair.linkUp = true → cable = true ∨ lanes < 8 → ∃ t, exec (.spinelLinkDown lanes cable) s = .next t ∧
        t.pair.linkUp = false ∧ t.pair.role = s.pair.role ∧ t.tabs = s.tabs ∧ t.cache = s.cache ∧ t.cist = s.cist)
  ∧ (∀ s lanes, s.pair.linkUp = true → 8 ≤ lanes → ∃ t, exec (.spinelLinkDown lanes false) s = .next t ∧
        t.pair.linkUp = true ∧ t.pair.lanes = (if 16 ≤ lanes then 16 else 8) ∧ t.out = s.out ++ [.retrain])

/-- The witness and the heartbeats. WIT_OUT toggles in STANDBY, BOOT and SERVICE only. An edge on WIT_IN makes the witness good at that instant,
and 20 µs without an edge make it lost; neither changes a role. One heartbeat is sent in each window. A heartbeat received starts counting and
clears the note that PROMOTE_NOTE left; an empty window while counting is a miss. Completion is stated of witOutToggle, witInEdge, witnessLost,
heartbeatSend, heartbeat, hbWindowEnd. (10_spinel_twin_pair R318, R319, R320) -/
def Obligations.WitnessAndHeartbeatsChangeNoRole : Prop :=
  (∀ s, ∃ t, exec .witOutToggle s = .next t ∧
        t.pwr.witOut = (if witRuns s.pwr.st then !s.pwr.witOut else s.pwr.witOut) ∧ t.pair = s.pair)
  ∧ (∀ s, s.pwr.st ≠ .off → ∃ t, exec .witInEdge s = .next t ∧
        t.pair.witOk = true ∧ t.pair.witLast = s.pwr.time ∧ t.pair.role = s.pair.role)
  ∧ (∀ s, s.pwr.st ≠ .off → s.pair.witOk = true → s.pair.witLast + 20000 ≤ s.pwr.time → ∃ t, exec .witnessLost s = .next t ∧
        t.pair.witOk = false ∧ t.pair.role = s.pair.role ∧ t.tabs = s.tabs)
  ∧ (∀ s, s.pwr.st ≠ .off → s.pair.witOk = true → s.pwr.time < s.pair.witLast + 20000 → ∃ t, exec .witnessLost s = .next t ∧ t = s)
  ∧ (∀ s, s.pwr.st = .service → s.pair.linkUp = true → s.pair.hbSent ≤ hbWindow s.pwr.time → ∃ t, exec .heartbeatSend s = .next t ∧
        t.pair.hbSent = hbWindow s.pwr.time + 1 ∧ t.pair.hseq = (s.pair.hseq + 1) % 2 ^ 32 ∧ t.out = s.out ++ [.msg (.heartbeat (hbOf s))]
        ∧ t.pair.role = s.pair.role)
  ∧ (∀ s h, s.pwr.st = .service → s.pair.linkUp = true → ∃ t, exec (.heartbeat h) s = .next t ∧
        hbWindow s.pwr.time ∈ t.pair.seen ∧ t.pair.counting.isSome = true ∧ t.pair.peerHb = some h ∧ t.pair.note = false
        ∧ t.pair.rxSeq = (s.pair.rxSeq + 1) % 1024 ∧ t.pair.role = s.pair.role)
  ∧ (∀ s c, s.pwr.st = .service → s.pwr.time % 10000 = 0 → s.pair.counting = some c → c < hbWindow s.pwr.time →
      s.pair.seen.contains (hbWindow s.pwr.time - 1) = false → s.pair.misses + 1 < regF s .spinel 0 2 10 7 →
      s.cmds.run = [] → ∃ t, exec .hbWindowEnd s = .next t ∧
          t.pair.misses = s.pair.misses + 1 ∧ t.pair.hbSent = s.pair.hbSent ∧ t.pair.role = s.pair.role ∧ t.cache = s.cache)

/-- Loss of the link and promotion. When HB_MISS windows in a row have been empty, a PAIRED module of seat A enters SOLO with a guard, and one of
seat B enters FENCED. PROMOTE_NOTE puts a PAIRED module into SOLO with no guard, and changes no other role than PAIRED and RESYNC. At the end of
the guard a SOLO module is home for every tile. The pairing page, once durable, releases the held completions. A JOINING module that holds no pair
identity leaves that role 100 ms after its link became ACTIVE without a decision. Completion is stated of hbWindowEnd, promoteNote, soloGuardEnd,
soloPageDurable, joinTimeout. (10_spinel_twin_pair R319, R321, R322, R323, R324) -/
def Obligations.LinkLossDecidesTheRole : Prop :=
  (∀ s c, s.pwr.st = .service → s.pair.role = .paired → s.pair.note = false → s.pwr.seat = false → s.pwr.time % 10000 = 0 → s.pair.counting = some c →
      c < hbWindow s.pwr.time → s.pair.seen.contains (hbWindow s.pwr.time - 1) = false → regF s .spinel 0 2 10 7 ≤ s.pair.misses + 1 →
          1 ≤ regF s .spinel 0 2 10 7 → s.cmds.run = [] → s.wear.moves = [] →
      ∃ t, exec .hbWindowEnd s = .next t ∧ t.pair.role = .solo ∧ t.pair.opens = [] ∧ t.pair.counting = none)
  ∧ (∀ s c, s.pwr.st = .service → s.pair.role = .paired → s.pair.note = false → s.pwr.seat = true → s.pwr.time % 10000 = 0 → s.pair.counting
      = some c →
      c < hbWindow s.pwr.time → s.pair.seen.contains (hbWindow s.pwr.time - 1) = false → regF s .spinel 0 2 10 7 ≤ s.pair.misses + 1 → s.cmds.run
          = [] → s.wear.moves = [] → s.cist.waits = [] → s.med.senses = [] →
      s.pair.opens = [] → s.pair.fwds = [] → s.pair.fwdRds = [] → s.pair.heldW = [] → s.pair.soloHeld = [] →
      ∃ t, exec .hbWindowEnd s = .next t ∧ t.pair.role = .fenced ∧ t.pair.home = .peer)
  ∧ (∀ s cause, s.pwr.st = .service → s.pair.linkUp = true → s.pair.role = .paired → s.pair.fwds = [] → s.pair.heldW = [] → s.wear.moves = [] →
      Quiescent s → ∃ t, exec (.promoteNote cause) s = .next t ∧
          t.pair.role = .solo ∧ t.pair.home = .all ∧ t.pair.guardEnd = none ∧ t.pair.opens = [] ∧ t.cache = s.cache)
  ∧ (∀ s cause, s.pwr.st = .service → s.pair.linkUp = true → s.pair.role ≠ .paired → s.pair.role ≠ .resync →
      ∃ t, exec (.promoteNote cause) s = .next t ∧ t.pair.note = true ∧ t.pair.role = s.pair.role ∧ t.cache = s.cache)
  ∧ (∀ s g, s.pair.role = .solo → s.pair.guardEnd = some g → s.pwr.time < g → ∃ t, exec .soloGuardEnd s = .next t ∧ t = s)
  ∧ (∀ s g, s.pair.role = .solo → s.pair.guardEnd = some g → g ≤ s.pwr.time → s.pair.fwds = [] → s.pair.heldW = [] → Quiescent s →
      ∃ t, exec .soloGuardEnd s = .next t ∧ t.pair.home = .all ∧ t.pair.guardEnd = none ∧ t.pair.role = .solo ∧ t.cache = s.cache)
  ∧ (∀ s, s.pair.role = .solo → s.pair.soloDurable = false → pairingBusy s = false → s.pair.soloHeld = [] →
      ∃ t, exec .soloPageDurable s = .next t ∧ t.pair.soloDurable = true ∧ t.out = s.out ∧ t.cache = s.cache)
  ∧ (∀ s, s.pair.role = .joining → s.pwr.st = .service → s.pair.decided = false → hasIdentity s = true →
      s.pwr.time < s.pair.joinAt + regF s .spinel 0 2 6 1 * 1000000000 → ∃ t, exec .joinTimeout s = .next t ∧ t = s)
  ∧ (∀ s, s.pair.role = .joining → s.pwr.st = .service → s.pair.decided = false → hasIdentity s = false → s.pair.linkUp = true →
      s.pair.linkAt + 100000000 ≤ s.pwr.time → ∃ t, exec .joinTimeout s = .next t ∧ t.pair.role = .unpaired ∧ t.pair.home = .all)

/-- Mirrored and forwarded writes. A mirrored write to a line that the cache holds replaces the line, leaves it dirty and is taken in order; its
acknowledgement needs no further command. A forwarded write at its home is merged there and leaves the line dirty; one that reaches a module which
is not the home is discarded. A refusal at the home stores the poison of a refused write, unless a later write to the line stands. An
acknowledgement ends the open write of its tag and returns one MIR credit for each tag unless the peer withholds them. Completion is stated of
mirrorWrite, homeFwdWrFull, homeFwdWrPart, homeFwdRefuse, mirrorAck. (02_memory_model R58; 04_write_path_cistern_and_pump R135;
08_wear_migration_and_spares R269; 10_spinel_twin_pair R306, R307) -/
def Obligations.MirroredWritesInstallAndAcknowledge : Prop :=
  (∀ s mtag p pc port dln data k old, works s = true → mirroring s = true → Quiescent s → s.cist.waits = [] → lockHeld s dln = false →
      s.cache.upset = [] → findWay s dln = some (k, old) → ∃ t, exec (.mirrorWrite mtag p pc port dln none false data) s = .next t ∧
          (∃ w, findWay t dln = some (k, w) ∧ w.data = data ∧ w.p = p ∧ w.d = true) ∧ t.med.frames = s.med.frames ∧ t.tabs = s.tabs)
  ∧ (∀ s mtag port dln poison data, works s = true → fwdHere s dln = false → ∃ t, exec (.homeFwdWrFull mtag port dln poison data) s = .next t ∧
        t.cache = s.cache ∧ t.cist = s.cist ∧ t.pair.rxSeq = (s.pair.rxSeq + 1) % 1024 ∧ t.out = s.out ++ [.cret 0 1 0])
  ∧ (∀ s mtag port dln poison be data, works s = true → fwdHere s dln = false →
      ∃ t, exec (.homeFwdWrPart mtag port dln poison be data) s = .next t ∧
          t.cache = s.cache ∧ t.cist = s.cist ∧ t.out = s.out ++ [.cret 0 1 0])
  ∧ (∀ s mtag port dln poison data k old, works s = true → fwdHere s dln = true → Quiescent s → s.cist.waits = [] → lockHeld s dln = false →
      0 < s.pair.mir → s.cache.upset = [] → findWay s dln = some (k, old) → ∃ t, exec (.homeFwdWrFull mtag port dln poison data) s = .next t ∧
          ∃ w, findWay t dln = some (k, w) ∧ w.data = data ∧ w.p = poison ∧ w.d = true)
  ∧ (∀ s mtag port dln poison be data k old, works s = true → fwdHere s dln = true → Quiescent s → s.cist.waits = [] →
      lockHeld s dln = false → 0 < s.pair.mir → be ≠ 0 → be ≠ BitVec.allOnes 64 → s.cache.upset = [] →
      findWay s dln = some (k, old) →
      ∃ t, exec (.homeFwdWrPart mtag port dln poison be data) s = .next t ∧
          ∃ w, findWay t dln = some (k, w) ∧ w.data = mergeLine old.data data be ∧ w.p = (poison || old.p) ∧ w.d = true)
  ∧ (∀ s mtag dln ov, works s = true → fwdHere s dln = false ∨ ov = true → ∃ t, exec (.homeFwdRefuse mtag dln ov) s = .next t ∧
        t.cache = s.cache ∧ t.cist = s.cist ∧ t.pair.opens = s.pair.opens)
  ∧ (∀ s mtag dln k old, works s = true → fwdHere s dln = true → Quiescent s → s.cist.waits = [] → s.pair.opens = [] →
      lockHeld s dln = false → 0 < s.pair.mir → s.cache.upset = [] → findWay s dln = some (k, old) →
      ∃ t, exec (.homeFwdRefuse mtag dln false) s = .next t ∧ ∃ w, findWay t dln = some (k, w) ∧ w.p = true ∧ w.pcause = 2)
  ∧ (∀ s mtags, hears s = true → s.pwr.st = .service → s.pair.opens = [] → s.pair.hand = .none → s.pair.txq = [] → Quiescent s →
      ∃ t, exec (.mirrorAck mtags false) s = .next t ∧
          t.pair.mir = min 2048 (s.pair.mir + mtags.length) ∧ t.pair.opens = [] ∧ t.out = s.out)
  ∧ (∀ s dln port tag part, hears s = true → s.pwr.st = .service → s.pair.role = .paired → s.pair.hand = .none → s.pair.txq = [] →
      Quiescent s → s.pair.opens = [.write 7 dln (.host port tag) part] → ∃ t, exec (.mirrorAck [7] true) s = .next t ∧
          t.pair.opens = [] ∧ .ndr port tag ∈ t.out)

/-- Reads for the peer and its answers. A forwarded read that meets a module which is no resync source is taken and not served. The answer to a
forwarded read completes it at the port that asked, and one that nothing waits for changes nothing but the order of the link. A line request for a
line in the cache is answered with that line and its poison. An answer that neither a repair nor a move waits for changes no line. Records of the
peer are counted. Completion is stated of homeFwdRd, homeFwdRdData, lineReq, lineRsp, agateCopy. (02_memory_model R72; 10_spinel_twin_pair R335,
R338; 14_faults_and_agate_recorder R440) -/
def Obligations.PeerReadsAreAnsweredOnce : Prop :=
  (∀ s mtag port dln, works s = true → s.pair.role ≠ .resync → ∃ t, exec (.homeFwdRd mtag port dln) s = .next t ∧
        t.cache = s.cache ∧ t.med = s.med ∧ t.out = s.out ++ [.cret 0 1 0])
  ∧ (∀ s mtag port dln k w, works s = true → s.pair.role = .resync → s.pair.syncSrc = true → lockHeld s dln = false →
      s.cache.upset = [] → findWay s dln = some (k, w) → w.p = false → s.pair.txq = [] → s.pair.flits.length < 512 →
      ∃ t, exec (.homeFwdRd mtag port dln) s = .next t ∧ .msg (.fwdRdData mtag false false w.data) ∈ t.out)
  ∧ (∀ s mtag ue p data lat, hears s = true → s.pair.fwdRds = [] → ∃ t, exec (.homeFwdRdData mtag ue p data lat) s = .next t ∧
        t.out = s.out ∧ t.pair.rxSeq = (s.pair.rxSeq + 1) % 1024 ∧ t.cache = s.cache)
  ∧ (∀ s mtag ue data lat rd dln, hears s = true → s.pair.fwdRds = [⟨mtag, dln, rd⟩] →
      ∃ t, exec (.homeFwdRdData mtag ue false data lat) s = .next t ∧ t.pair.fwdRds = [] ∧ .drs rd.port rd.tag data false ∈ t.out)
  ∧ (∀ s mtag dln res retry k w, works s = true → s.pair.txq = [] → s.cache.upset = [] → findWay s dln = some (k, w) →
      s.pair.flits.length < 512 → ∃ t, exec (.lineReq mtag dln res retry) s = .next t ∧
          t.out = s.out ++ [.cret 0 1 0, .msg (.lineRsp mtag dln true w.p w.pcause w.data)] ∧ t.cache = s.cache)
  ∧ (∀ s mtag dln ok p pc data, works s = true → s.pair.repairs = [] → s.wear.moves = [] → ∃ t, exec (.lineRsp mtag dln ok p pc data) s = .next t ∧
        t.cache = s.cache ∧ t.med = s.med ∧ t.pair.rxSeq = (s.pair.rxSeq + 1) % 1024)
  ∧ (∀ s r, hears s = true → ∃ t, exec (.agateCopy [r]) s = .next t ∧
        t.ag.peerCnt = satAdd 0xFFFFF s.ag.peerCnt 1 ∧ t.tabs = s.tabs ∧ (s.ag.badSlots.length < 2048 → t.flt = s.flt))

/-- Commands of the pair. Seat A gives each command the next state sequence number, and seat B follows the number that it is given. A command of
the peer that arrives outside PAIRED and RESYNC starts nothing at a module that is not a join target. A tile effect whose command has not arrived
waits for it, and a DONE whose command has not arrived is kept. Completion is stated of stateOpCmd, stateOpTile, stateOpDone. (10_spinel_twin_pair
R304, R305) -/
def Obligations.PairCommandsWaitForTheirOrder : Prop :=
  (∀ s mtag q d ue, works s = true → mirroring s = false → s.pair.role ≠ .joining → ∃ t, exec (.stateOpCmd mtag q d ue) s = .next t ∧
        t.cmds = s.cmds ∧ t.tabs = s.tabs ∧ t.pair.rxSeq = (s.pair.rxSeq + 1) % 1024)
  ∧ (∀ s mtag q d ue, works s = true → mirroring s = true → s.pwr.seat = false → ∃ t, exec (.stateOpCmd mtag q d ue) s = .next t ∧
        t.pair.sseq = (s.pair.sseq + 1) % 2 ^ 40)
  ∧ (∀ s mtag q d ue, works s = true → mirroring s = true → s.pwr.seat = true → ∃ t, exec (.stateOpCmd mtag q d ue) s = .next t ∧
        t.pair.sseq = (q + 1) % 2 ^ 40)
  ∧ (∀ s mtag ltn q, works s = true → mirroring s = true → Quiescent s → ∃ t, exec (.stateOpTile mtag ltn q) s = .next t ∧
        t.cmds.early = s.cmds.early ++ [(mtag, ltn, q)] ∧ t.tabs = s.tabs)
  ∧ (∀ s q st, works s = true → mirroring s = true → taskAt s q = none → ∃ t, exec (.stateOpDone q st) s = .next t ∧
        t.cmds.earlyDone = s.cmds.earlyDone ++ [(q, st)] ∧ t.cmds.tasks = s.cmds.tasks ∧ t.tabs = s.tabs)

/-- The link becomes ACTIVE and the join lists arrive. With fewer than eight lanes, or with the Spinel domain off, the link stays down. An ACTIVE
link of an UNPAIRED module that has not been asked to join carries full pools of credits and changes no role. Each join list is kept as it comes,
and ends with its END. Completion is stated of spinelLinkActive, joinPage, joinOpen, joinWells, joinInuse, joinEnd. (10_spinel_twin_pair R310,
R314, R323, R329, R330) -/
def Obligations.JoinListsAreKept : Prop :=
  (∀ s lanes pv ps sn, lanes < 8 → ∃ t, exec (.spinelLinkActive lanes pv ps sn) s = .next t ∧ t = s)
  ∧ (∀ s lanes pv ps sn, 8 ≤ lanes → domOn s 6 = true → s.pwr.st = .service → s.pair.role = .unpaired → s.pair.joinCmd = false →
      regB s .spinel 0 2 0 = false → ∃ t, exec (.spinelLinkActive lanes pv ps sn) s = .next t ∧
          t.pair.linkUp = true ∧ t.pair.mir = 2048 ∧ t.pair.req = 2048 ∧ t.pair.bulk = 512 ∧ t.pair.role = .unpaired
          ∧ t.pair.peerSerial = sn ∧ t.cache = s.cache)
  ∧ (∀ s part data, s.pair.linkUp = true → s.pair.role ≠ .joining → ∃ t, exec (.joinPage part data) s = .next t ∧
        t.pair.peerPage = s.pair.peerPage.filter (fun x => x.1 ≠ part.val) ++ [(part.val, data)] ∧ t.pair.role = s.pair.role)
  ∧ (∀ s index l, s.pair.linkUp = true → index ≠ 0 → ∃ t, exec (.joinOpen index [l]) s = .next t ∧
        t.pair.peerOpen = sSet 0 s.pair.peerOpen (16 * index) (l + 1) ∧ t.tabs = s.tabs)
  ∧ (∀ s index w, s.pair.linkUp = true → ∃ t, exec (.joinWells index [w]) s = .next t ∧
        t.pair.peerWells = sSet wellInit s.pair.peerWells (8 * (index % 8)) w ∧ t.tabs = s.tabs)
  ∧ (∀ s rs, s.pair.linkUp = true → ∃ t, exec (.joinInuse rs) s = .next t ∧
        t.pair.peerInuse = s.pair.peerInuse ++ rs ∧ t.tabs = s.tabs)
  ∧ (∀ s n, s.pair.linkUp = true → s.pair.role ≠ .joining → s.pair.syncSrc = false → ∃ t, exec (.joinEnd 0 n) s = .next t ∧
        t.pair.peerOpenEnd = true ∧ t.pair.role = s.pair.role)

/-- The sync of one tile. The source sends nothing without a MIR credit or a tile to sync. The target replaces a tile at its ENTRY, drops a LINE
that a mirrored write has overtaken, and answers TILE_END; at TILE_ACK the tile leaves the source's sync set, and after the last the source asks
to hand homes over. Completion is stated of resyncTileStart, resyncTileEntry, resyncTileLine, tileEnd, tileAck. (10_spinel_twin_pair R332, R333) -/
def Obligations.TilesSyncOneByOne : Prop :=
  (∀ s bad, s.pair.role = .resync → s.pair.syncSrc = true → s.pair.linkUp = true → s.pwr.st = .service → s.pair.hand = .none →
      s.pair.syncing = none → s.pair.mir = 0 → ∃ t, exec (.resyncTileStart bad) s = .next t ∧ t = s)
  ∧ (∀ s l, s.pair.role = .resync → s.pair.syncSrc = true → s.pair.linkUp = true → s.pwr.st = .service → s.pair.hand = .none →
      s.pair.syncing = none → 0 < s.pair.mir → nextSync s = some l → pageHere s (pageOf l) = true → syncClass s l = (.unwritten, 0, []) →
      s.pair.txq = [] → s.pair.flits.length < 511 → ∃ t, exec (.resyncTileStart []) s = .next t ∧
          t.pair.syncing = some l ∧ .msg (.entry s.pair.mtag l .unwritten 0) ∈ t.out)
  ∧ (∀ s mtag ltn pat, works s = true → Quiescent s → s.pair.role = .resync → s.pair.isTarget = true →
      ∃ t, exec (.resyncTileEntry mtag ltn .unwritten pat) s = .next t ∧
          (entryAt t ltn).st = .unwritten ∧ (∀ d ∈ t.pair.fresh, ltnOf d ≠ ltn) ∧ t.pair.role = .resync)
  ∧ (∀ s dln p pc data, works s = true → s.pair.role = .resync → s.pair.isTarget = true → dln ∈ s.pair.fresh →
      ∃ t, exec (.resyncTileLine dln p pc data) s = .next t ∧ t.cache = s.cache ∧ t.cist = s.cist ∧ t.out = s.out ++ [.cret 0 0 1])
  ∧ (∀ s dln p pc data k old, works s = true → s.pair.role = .resync → s.pair.isTarget = true → ¬ dln ∈ s.pair.fresh → Quiescent s →
      s.cist.waits = [] → lockHeld s dln = false → s.cache.upset = [] → findWay s dln = some (k, old) → ∃ t, exec (.resyncTileLine dln p pc data) s
          = .next t ∧
          ∃ w, findWay t dln = some (k, w) ∧ w.data = data ∧ w.p = p)
  ∧ (∀ s ltn n, s.pwr.st = .service → s.pair.linkUp = true → s.pair.role = .resync → s.pair.isTarget = true → Quiescent s →
      s.cist.waits = [] → s.pair.txq = [] → s.pair.flits.length < 512 → ∃ t, exec (.tileEnd ltn n) s = .next t ∧
          t.pair.syncing = none ∧ sGet false t.pair.sync ltn = false ∧ .msg (.tileAck ltn) ∈ t.out)
  ∧ (∀ s ltn, works s = true → s.pair.role = .resync → s.pair.syncSrc = true → s.pair.syncing = some ltn → ∃ t, exec (.tileAck ltn) s = .next t ∧
        t.pair.syncing = none ∧ sGet false t.pair.sync ltn = false ∧ t.pair.role = .resync ∧ t.tabs = s.tabs)
  ∧ (∀ s ltn, hears s = true → s.pair.syncing ≠ some ltn → ∃ t, exec (.tileAck ltn) s = .next t ∧
        t.pair.sync = s.pair.sync ∧ t.out = s.out)

/-- The handover of homes. A target answers RESYNC_DONE REQ with ACK and takes the homes at SWITCH; a module in any other role than PAIRED, RESYNC
and JOINING takes no part. The giver keeps its homes until ACK has come. Completion is stated of resyncDoneReq, resyncDoneAck, resyncDoneSwitch.
(10_spinel_twin_pair R336) -/
def Obligations.HomesChangeHandsAtSwitch : Prop :=
  (∀ s, works s = true → s.pair.role = .resync → s.pair.isTarget = true → s.pair.txq = [] → s.pair.flits.length < 512 → 0 < s.pair.req →
      ∃ t, exec .resyncDoneReq s = .next t ∧
          t.pair.hand = .taking ∧ .msg .doneAck ∈ t.out ∧ t.pair.home = s.pair.home ∧ t.pair.role = .resync)
  ∧ (∀ s, works s = true → s.pair.role = .solo → ∃ t, exec .resyncDoneReq s = .next t ∧
        t.pair.hand = s.pair.hand ∧ t.out = s.out ++ [.cret 0 1 0])
  ∧ (∀ s, works s = true → s.pair.hand = .none → ∃ t, exec .resyncDoneAck s = .next t ∧
        t.pair.home = s.pair.home ∧ t.pair.hand = .none ∧ t.pair.rxSeq = (s.pair.rxSeq + 1) % 1024)
  ∧ (∀ s, works s = true → s.pair.role = .resync → s.pair.syncSrc = false → s.pair.hand = .giving false → s.pair.opens = [] →
      homeWaits s = false → s.pair.heldW = [] → Quiescent s → s.pair.txq = [] → ∃ t, exec .resyncDoneAck s = .next t ∧
          t.pair.home = .peer ∧ t.pair.hand = .none)
  ∧ (∀ s, works s = true → s.pair.hand = .none → ∃ t, exec .resyncDoneSwitch s = .next t ∧
        t.pair.home = s.pair.home ∧ t.pair.role = s.pair.role)
  ∧ (∀ s, works s = true → s.pair.role = .paired → s.pair.isTarget = false → s.pair.hand = .taking → s.pair.heldW = [] →
      Quiescent s → ∃ t, exec .resyncDoneSwitch s = .next t ∧ t.pair.home = .bySeat ∧ t.pair.hand = .none)

/-- Training, IDE failures and HDM decoders at a port. A port whose domain is off or whose PERST_N is asserted trains nothing. A clocking mismatch
leaves the port untrained; otherwise it takes the widest width and the highest rate that both partners support and LINK_CTL allows. An integrity
failure makes the CXL.mem stream insecure and is reported through AER. A committed decoder takes its new setting, and the others keep theirs.
Completion is stated of linkTraining, ideIntegrityFailure, hdmDecoderCommit. (11_host_ports R345, R355, R356, R361, R365) -/
def Obligations.PortsTrainAndDecode : Prop :=
  (∀ s (p : Port) lanes rate clk, canTrain s p.val = false → ∃ t, exec (.linkTraining p lanes rate clk) s = .next t ∧ t = s)
  ∧ (∀ s (p : Port) lanes rate clk, canTrain s p.val = true → clk ≠ regB s .port p.val 1 0 →
      ∃ t, exec (.linkTraining p lanes rate clk) s = .next t ∧
          (portAt t p.val).linkUp = false ∧ (portAt t p.val).width = 0 ∧ (portAt t p.val).hdm = (portAt s p.val).hdm ∧ t.rings = s.rings ∧ t.pwr
              = s.pwr)
  ∧ (∀ s (p : Port) lanes (rate : Fin 4), canTrain s p.val = true → 4 ≤ lanes → 0 < rate.val → 0 < regF s .port p.val 1 2 1 →
      0 < regF s .port p.val 1 4 3 → ∃ t, exec (.linkTraining p lanes rate (regB s .port p.val 1 0)) s = .next t ∧
          (portAt t p.val).linkUp = true
          ∧ (portAt t p.val).rate = (if rate.val < regF s .port p.val 1 2 1 then rate.val else regF s .port p.val 1 2 1)
          ∧ (portAt t p.val).width
              = widthLanes (if widthFor lanes < regF s .port p.val 1 4 3 then widthFor lanes else regF s .port p.val 1 4 3)
          ∧ (∀ q, q ≠ p.val → portAt t q = portAt s q) ∧ t.rings = s.rings ∧ t.pwr = s.pwr ∧ t.tabs = s.tabs)
  ∧ (∀ s (p : Port), (portAt s p.val).linkUp = true → (portAt s p.val).ideMem = true → ∃ t, exec (.ideIntegrityFailure p) s = .next t ∧
        (portAt t p.val).ideMem = false ∧ (portAt t p.val).ideFailed = true ∧ (portAt t p.val).linkUp = true ∧ t.out = s.out ++ [.aer p 2])
  ∧ (∀ s (p : Port), (portAt s p.val).ideMem = false → ∃ t, exec (.ideIntegrityFailure p) s = .next t ∧ t = s)
  ∧ (∀ s (p : Port) (i : Fin 4) d, domOn s (2 + p.val) = true → ∃ t, exec (.hdmDecoderCommit p i d) s = .next t ∧
        sGet hdmInit (portAt t p.val).hdm i.val = d ∧ (∀ j, j ≠ i.val → sGet hdmInit (portAt t p.val).hdm j = sGet hdmInit (portAt s p.val).hdm j)
        ∧ (∀ q, q ≠ p.val → portAt t q = portAt s q))
  ∧ (∀ s (p : Port) i d, domOn s (2 + p.val) = false → ∃ t, exec (.hdmDecoderCommit p i d) s = .next t ∧ t = s)

/-- Reads: the checks at the port and the paths of a read. A request to a port that is not open, or without a request credit, does nothing. Viral,
a failed well check and a fenced role answer a read with poisoned zero data, and MEMRD with Cmp besides; no line and no map entry changes. A line
in the cache is answered as it is held; a CONST tile with its pattern. A MEMSPECRD only prefetches its line, and in FENCED not even that. The
resync target forwards the read of a tile that is not synced. Completion is stated of memrd, memrddata, memspecrd. (02_memory_model R43, R44, R65;
03_read_path_and_latency_bound R80; 07_tile_map R204; 10_spinel_twin_pair R326, R335; 11_host_ports R342, R344, R354) -/
def Obligations.ReadsAreCheckedThenServed : Prop :=
  (∀ s (p : Port) tag hpa env, memOpen s p.val = false →
      (∃ t, exec (.memrd p tag hpa env) s = .next t ∧ t = s) ∧ (∃ t, exec (.memrddata p tag hpa env) s = .next t ∧ t = s)
        ∧ ∃ t, exec (.memspecrd p hpa) s = .next t ∧ t = s)
  ∧ (∀ s (p : Port) tag hpa env, memOpen s p.val = true → (portAt s p.val).rdOut < reqPool s p.val → portCheck s p.val hpa = .poison →
      (∃ t, exec (.memrd p tag hpa env) s = .next t ∧
          .drs p tag 0 true ∈ t.out ∧ .ndr p tag ∈ t.out ∧ t.cache = s.cache ∧ t.cist = s.cist ∧ t.tabs = s.tabs ∧ t.pwr.st = s.pwr.st)
      ∧ (∃ t, exec (.memrddata p tag hpa env) s = .next t ∧
          .drs p tag 0 true ∈ t.out ∧ t.cache = s.cache ∧ t.cist = s.cist ∧ t.tabs = s.tabs)
      ∧ (∃ t, exec (.memspecrd p hpa) s = .next t ∧ t = s))
  ∧ (∀ s (p : Port) tag hpa env d w, memOpen s p.val = true → (portAt s p.val).rdOut < reqPool s p.val → portCheck s p.val hpa = .viol d w →
      (∃ t, exec (.memrd p tag hpa env) s = .next t ∧
          .drs p tag 0 true ∈ t.out ∧ .ndr p tag ∈ t.out ∧ t.cache = s.cache ∧ t.med = s.med ∧ t.tabs = s.tabs)
      ∧ (∃ t, exec (.memrddata p tag hpa env) s = .next t ∧
          .drs p tag 0 true ∈ t.out ∧ t.cache = s.cache ∧ t.med = s.med ∧ t.tabs = s.tabs)
      ∧ (∃ t, exec (.memspecrd p hpa) s = .next t ∧ t.cache = s.cache ∧ t.med = s.med ∧ t.tabs = s.tabs))
  ∧ (∀ s (p : Port) tag hpa env d, memOpen s p.val = true → (portAt s p.val).rdOut < reqPool s p.val → portCheck s p.val hpa = .fenced d →
      fencedRole s.pair.role = true → ∃ t, exec (.memrd p tag hpa env) s = .next t ∧
          .drs p tag 0 true ∈ t.out ∧ (portAt t p.val).fenced = satAdd (2 ^ 40 - 1) (portAt s p.val).fenced 1 ∧ t.cache = s.cache ∧ t.tabs = s.tabs)
  ∧ (∀ s (p : Port) hpa d, memOpen s p.val = true → portCheck s p.val hpa = .fenced d → s.pair.role = .fenced →
      ∃ t, exec (.memspecrd p hpa) s = .next t ∧
          t.med = s.med ∧ t.cache = s.cache ∧ t.out = s.out ∧ t.ports = s.ports ∧ t.tabs = s.tabs)
  ∧ (∀ s (p : Port) tag hpa env dln k w, memOpen s p.val = true → (portAt s p.val).rdOut < reqPool s p.val → portCheck s p.val hpa = .pass dln →
      forwards s (ltnOf dln) = false → lockHeld s dln = false → env.arr = .none → s.cache.upset = [] → findWay s dln = some (k, w) → w.pf = false →
      boundNow s p.val = none → ∃ t, exec (.memrd p tag hpa env) s = .next t ∧
          .drs p tag w.data w.p ∈ t.out ∧ .ndr p tag ∈ t.out ∧ findWay t dln = some (k, w) ∧ t.tabs = s.tabs ∧ t.med = s.med ∧ t.cist = s.cist)
  ∧ (∀ s (p : Port) tag hpa env dln d, memOpen s p.val = true → (portAt s p.val).rdOut < reqPool s p.val → portCheck s p.val hpa = .pass dln →
      forwards s (ltnOf dln) = false → lockHeld s dln = false → findWay s dln = none → findCis s dln = none → env.mapUe = false →
      tlbEn s = false → pageHere s (pageOf (ltnOf dln)) = true → s.mapu.overflow = [] → mapAns s dln = .const d → boundNow s p.val = none →
      ∃ t, exec (.memrddata p tag hpa env) s = .next t ∧
          .drs p tag d false ∈ t.out ∧ t.cache = s.cache ∧ t.tabs = s.tabs ∧ t.med = s.med)
  ∧ (∀ s (p : Port) hpa dln, memOpen s p.val = true → (portAt s p.val).rdOut < reqPool s p.val → portCheck s p.val hpa = .pass dln →
      forwards s (ltnOf dln) = false → prefetchOk s dln = true → ∃ t, exec (.memspecrd p hpa) s = .next t ∧
          (∃ x, t.med.senses = s.med.senses ++ [x] ∧ x.dln = dln ∧ x.prefetch = true) ∧ t.out = s.out ∧ t.cache = s.cache ∧ t.tabs = s.tabs)
  ∧ (∀ s (p : Port) tag hpa env dln, memOpen s p.val = true → (portAt s p.val).rdOut < reqPool s p.val → portCheck s p.val hpa = .pass dln →
      forwards s (ltnOf dln) = true → s.pair.linkUp = true → canSend s.pair s.pair.txq (.fwdRd s.pair.mtag p dln) = true →
      ∃ t, exec (.memrd p tag hpa env) s = .next t ∧
          .msg (.fwdRd s.pair.mtag p dln) ∈ t.out ∧ t.pair.mtag = (s.pair.mtag + 1) % 2 ^ 16 ∧ t.cache = s.cache ∧ t.tabs = s.tabs
          ∧ t.pair.fwdRds = s.pair.fwdRds ++ [{ mtag := s.pair.mtag, dln := dln, rd := hostRd s p tag true env.lat }])

/-- Writes: the checks at the port, and the home's cache line. A write without a port or a credit does nothing. A refused write completes with Cmp
and its data is discarded. Past the checks, a held handover keeps the write and answers nothing, a module that is not home forwards it with its
data, and the home writes the line: all of it, or the enabled bytes over what the cache holds, dirty, and in UNPAIRED it completes at once. A
write with no byte enabled changes nothing. Completion is stated of memwr, memwrptl. (02_memory_model R44, R46, R76, R77;
04_write_path_cistern_and_pump R105, R130; 10_spinel_twin_pair R307, R321; 11_host_ports R354) -/
def Obligations.WritesReachTheirHome : Prop :=
  (∀ s (p : Port) tag hpa po be d up, memOpen s p.val = false →
      (∃ t, exec (.memwr p tag hpa po d up) s = .next t ∧ t = s) ∧ ∃ t, exec (.memwrptl p tag hpa po be d up) s = .next t ∧ t = s)
  ∧ (∀ s (p : Port) tag hpa po d up, memOpen s p.val = true → (portAt s p.val).wrOut < rwdPool s p.val →
      (portCheck s p.val hpa = .poison ∨ (∃ x w, portCheck s p.val hpa = .viol x w) ∨ (∃ x, portCheck s p.val hpa = .fenced x)) →
      ∃ t, exec (.memwr p tag hpa po d up) s = .next t ∧
          .ndr p tag ∈ t.out ∧ t.cache = s.cache ∧ t.cist.ents = s.cist.ents ∧ t.tabs = s.tabs ∧ t.med = s.med)
  ∧ (∀ s (p : Port) tag hpa po d dln, memOpen s p.val = true → (portAt s p.val).wrOut < rwdPool s p.val → portCheck s p.val hpa = .pass dln →
      s.pair.role ≠ .solo → ∃ t, exec (.memwrptl p tag hpa po 0 d []) s = .next t ∧
          .ndr p tag ∈ t.out ∧ t.cache = s.cache ∧ t.pair = s.pair)
  ∧ (∀ s (p : Port) tag hpa po be d dln, memOpen s p.val = true → (portAt s p.val).wrOut < rwdPool s p.val → portCheck s p.val hpa = .pass dln →
      be ≠ 0 → handHolds s (ltnOf dln) = true → ∃ t, exec (.memwrptl p tag hpa po be d []) s = .next t ∧
          t.pair.heldW = s.pair.heldW ++ [{ port := p, tag := tag, dln := dln, poison := po, be := be, data := d }] ∧ t.out = s.out ∧ t.cache
              = s.cache)
  ∧ (∀ s (p : Port) tag hpa po d dln, memOpen s p.val = true → (portAt s p.val).wrOut < rwdPool s p.val → portCheck s p.val hpa = .pass dln →
      handHolds s (ltnOf dln) = false → isHome s (ltnOf dln) = false → s.pair.linkUp = true →
      canSend s.pair s.pair.txq (.fwdFull s.pair.mtag p dln po d) = true → ∃ t, exec (.memwr p tag hpa po d []) s = .next t ∧
          .msg (.fwdFull s.pair.mtag p dln po d) ∈ t.out ∧ t.cache = s.cache ∧ t.tabs = s.tabs
          ∧ t.pair.fwds = s.pair.fwds
              ++ [{ mtag := s.pair.mtag, dln := dln, port := p, tag := tag, poison := po, be := BitVec.allOnes 64, data := d }])
  ∧ (∀ s (p : Port) tag hpa po d dln k old, memOpen s p.val = true → (portAt s p.val).wrOut < rwdPool s p.val → portCheck s p.val hpa = .pass dln →
      s.pair.role = .unpaired → handHolds s (ltnOf dln) = false → isHome s (ltnOf dln) = true → s.cist.waits = [] → s.cmds.hold = [] →
      lockHeld s dln = false → s.cache.upset = [] → findWay s dln = some (k, old) → ∃ t, exec (.memwr p tag hpa po d []) s = .next t ∧
          .ndr p tag ∈ t.out ∧ t.tabs = s.tabs ∧ t.med = s.med ∧ ∃ w, findWay t dln = some (k, w) ∧ w.data = d ∧ w.d = true ∧ w.p = po)
  ∧ (∀ s (p : Port) tag hpa be d dln k old, memOpen s p.val = true → (portAt s p.val).wrOut < rwdPool s p.val → portCheck s p.val hpa = .pass dln →
      s.pair.role = .unpaired → handHolds s (ltnOf dln) = false → isHome s (ltnOf dln) = true → s.cist.waits = [] → s.cmds.hold = [] →
      lockHeld s dln = false → be ≠ 0 → be ≠ BitVec.allOnes 64 → s.cache.upset = [] → findWay s dln = some (k, old) →
      ∃ t, exec (.memwrptl p tag hpa false be d []) s = .next t ∧
          .ndr p tag ∈ t.out ∧ t.tabs = s.tabs
          ∧ ∃ w, findWay t dln = some (k, w) ∧ w.data = mergeLine old.data d be ∧ w.d = true ∧ w.p = old.p)

/-- Requests that only complete, forwards, and the global persistent flush. MEMINV, MEMINVNT and MEMCLNEVCT complete and touch no data. MEMRDFWD
and MEMWRFWD are dropped and reported: no response, no line touched. Each phase of a GLOBAL_PERSISTENT_FLUSH is answered at once, and nothing else
changes. Completion is stated of meminv, meminvnt, memclnevct, memrdfwd, memwrfwd, globalPersistentFlush. (02_memory_model R62) -/
def Obligations.RequestsWithoutDataComplete : Prop :=
  (∀ s (p : Port) tag, memOpen s p.val = true →
      (∃ t, exec (.meminv p tag) s = .next t ∧ t = emit s (.ndr p tag)) ∧ (∃ t, exec (.meminvnt p tag) s = .next t ∧
          t = emit s (.ndr p tag))
        ∧ ∃ t, exec (.memclnevct p tag) s = .next t ∧ t = emit s (.ndr p tag))
  ∧ (∀ s (p : Port) hpa, memOpen s p.val = true → s.ag.badSlots.length < 2048 →
      (∃ t, exec (.memrdfwd p hpa) s = .next t ∧
          t.flt.ucTotal = satAdd 0xFFFFF s.flt.ucTotal 1 ∧ t.cache = s.cache ∧ t.med = s.med ∧ t.tabs = s.tabs)
      ∧ ∃ t, exec (.memwrfwd p hpa) s = .next t ∧
          t.flt.ucTotal = satAdd 0xFFFFF s.flt.ucTotal 1 ∧ t.cache = s.cache ∧ t.med = s.med ∧ t.tabs = s.tabs)
  ∧ (∀ s (p : Port) hpa tag, memOpen s p.val = false →
      (∃ t, exec (.memrdfwd p hpa) s = .next t ∧ t = s) ∧ (∃ t, exec (.memwrfwd p hpa) s = .next t ∧ t = s) ∧ ∃ t, exec (.meminv p tag) s = .next t ∧
          t = s)
  ∧ (∀ s (p : Port) ph, (portAt s p.val).linkUp = true → ∃ t, exec (.globalPersistentFlush p ph) s = .next t ∧ t = emit s (.gpf p ph))

/-- Senses: what the first pass and the retry end with. A first pass that senses a blank frame answers the read that waits by the well's policy;
one that decodes installs the line and answers with it; one that fails asks for the retry, and a failed prefetch leaves nothing. A retry installs
and answers with what it decodes. The end of a demand map read lets the reads of its page go on. An unknown sense, a sense that an operation of
its partition holds up, and a page that was not asked for change nothing. Completion is stated of frameSenseDone, retrySenseDone,
demandMapReadDone. (02_memory_model R65; 03_read_path_and_latency_bound R93, R94, R95; 05_line_cache R147, R149; 06_tysha_medium_and_line_frames
R180) -/
def Obligations.SensesEndByTheirResult : Prop :=
  (∀ s sid res lat, senseAt s sid false = none → ∃ t, exec (.frameSenseDone sid res lat) s = .next t ∧ t = s)
  ∧ (∀ s sid res lat, senseAt s sid true = none → ∃ t, exec (.retrySenseDone sid res lat) s = .next t ∧ t = s)
  ∧ (∀ s sid res lat x, senseAt s sid false = some x → senseRuns s x = false → ∃ t, exec (.frameSenseDone sid res lat) s = .next t ∧
        t = s)
  ∧ (∀ s sid res lat x r, senseAt s sid false = some x → senseRuns s x = true → x.waiters = [.host r] → r.bound = none →
      senseFrame s x.ptn.toNat x.fslot res false = .never → findWay s x.dln = none → zeroPolicy s x.dln = true →
      ∃ t, exec (.frameSenseDone sid res lat) s = .next t ∧
          .drs r.port r.tag 0 false ∈ t.out ∧ t.cache = s.cache ∧ t.tabs = s.tabs ∧ t.cist = s.cist)
  ∧ (∀ s sid res lat x r d po pc k, s.pwr.st = .service → senseAt s sid false = some x → senseRuns s x = true →
      x.stale = false → x.waiters = [.host r] → r.bound = none → senseFrame s x.ptn.toNat x.fslot res false = .line d po pc 0 →
      findWay s x.dln = none → victimWay s x.dln cleanOk = some k → (sGet wayInit s.cache.ways k).v = false →
      ∃ t, exec (.frameSenseDone sid res lat) s = .next t ∧
          .drs r.port r.tag d po ∈ t.out ∧ t.tabs = s.tabs ∧ ∃ w, findWay t x.dln = some (k, w) ∧ w.data = d ∧ w.p = po ∧ w.d = false)
  ∧ (∀ s sid res lat x, senseAt s sid false = some x → senseRuns s x = true → x.prefetch = false →
      senseFrame s x.ptn.toNat x.fslot res false = .again → ∃ t, exec (.frameSenseDone sid res lat) s = .next t ∧
          (∃ y ∈ t.med.senses, y.sid = sid ∧ y.retrying = true ∧ y.flags.retry = true) ∧ t.out = s.out ∧ t.cache = s.cache ∧ t.tabs = s.tabs)
  ∧ (∀ s sid res lat x, senseAt s sid false = some x → senseRuns s x = true → x.prefetch = true → x.waiters = [] →
      senseFrame s x.ptn.toNat x.fslot res false = .again → ∃ t, exec (.frameSenseDone sid res lat) s = .next t ∧
          t.med.senses = dropFirst (fun y => decide (y.sid = sid)) s.med.senses ∧ t.out = s.out ∧ t.cache = s.cache ∧ t.tabs = s.tabs)
  ∧ (∀ s sid res lat x r d po pc k, s.pwr.st = .service → senseAt s sid true = some x → senseRuns s x = true → x.stale = false →
      x.waiters = [.host r] → r.bound = none → senseFrame s x.ptn.toNat x.fslot res true = .line d po pc 0 → findWay s x.dln = none →
      victimWay s x.dln cleanOk = some k → (sGet wayInit s.cache.ways k).v = false → ∃ t, exec (.retrySenseDone sid res lat) s = .next t ∧
          .drs r.port r.tag d po ∈ t.out ∧ t.tabs = s.tabs ∧ ∃ w, findWay t x.dln = some (k, w) ∧ w.data = d ∧ w.p = po ∧ w.d = false)
  ∧ (∀ s page res lat, demandOf s page = none → ∃ t, exec (.demandMapReadDone page res lat) s = .next t ∧ t = s)
  ∧ (∀ s page lat m x r d, s.pwr.warm = false → demandOf s page = some m → nodeTile s page = none → s.med.senses = [x] → x.waitPage = true →
      pageOf (ltnOf x.dln) = page → x.waiters = [.host r] → r.bound = none → mapAns s x.dln = .const d → findWay s x.dln = none →
      ∃ t, exec (.demandMapReadDone page [] lat) s = .next t ∧
          .drs r.port r.tag d false ∈ t.out ∧ t.med.senses = [] ∧ t.tabs = s.tabs ∧ t.cache = s.cache
          ∧ t.mapu.demand = dropFirst (fun d => decide (d.page = page)) s.mapu.demand)

/-- Resumed operations, the burst meter and the load window. A suspended operation resumes unless a host read waits in its partition. The burst
meter of a channel falls by one per slot and never below zero. At the end of a load window, a multiple of 2 µs of TIME, RD_WIN takes its count, at
most 1023, and the count starts again. Completion is stated of programResume, burstMeterSlot, loadWindowEnd. (03_read_path_and_latency_bound R82,
R90, R102; 06_tysha_medium_and_line_frames R171) -/
def Obligations.ChannelsKeepTheirMeters : Prop :=
  (∀ s die part, partitionRead s die part = true → ∃ t, exec (.programResume die part) s = .next t ∧ t = s)
  ∧ (∀ s die part, partitionRead s die part = false → ∃ t, exec (.programResume die part) s = .next t ∧
        (∀ o ∈ t.med.ops, o.die = die → o.part = part → o.suspended = false) ∧ t.med.ops.length = s.med.ops.length
        ∧ t.med.frames = s.med.frames ∧ t.med.senses = s.med.senses ∧ t.cist = s.cist)
  ∧ (∀ s (c : Channel), ∃ t, exec (.burstMeterSlot c) s = .next t ∧
        chanAt t c.val = { chanAt s c.val with burst := (chanAt s c.val).burst - 1 } ∧ ∀ q, q ≠ c.val → chanAt t q = chanAt s q)
  ∧ (∀ s (c : Channel), s.pwr.time % 2000 ≠ 0 → ∃ t, exec (.loadWindowEnd c) s = .next t ∧ t = s)
  ∧ (∀ s (c : Channel), s.pwr.time % 2000 = 0 → ∃ t, exec (.loadWindowEnd c) s = .next t ∧
        (chanAt t c.val).rdWin = (if (chanAt s c.val).winCnt < 1023 then (chanAt s c.val).winCnt else 1023) ∧ (chanAt t c.val).winCnt = 0
        ∧ (chanAt t c.val).burst = (chanAt s c.val).burst ∧ (∀ q, q ≠ c.val → chanAt t q = chanAt s q) ∧ t.med = s.med)

/-- Writes after their completion: admission, resolution and cleaning. A slice admits the waiting write of the requester in turn, which then
stands in the cache. DIE_RESOLVE gives a dirty line of a MAPPED tile the die that its entry names. CLEANING copies the oldest dirty line of a die,
at the stop level, to the Cistern and leaves it valid and clean; in the Drain it passes the next line of the walk over the sets, which takes no
slot. With nothing to do, none of them changes anything. Completion is stated of writeAdmit, dieResolve, cleaning. (04_write_path_cistern_and_pump
R115, R122, R125, R134; 05_line_cache R151, R161) -/
def Obligations.DirtyLinesReachTheCistern : Prop :=
  (∀ s n, s.pwr.st ≠ .service → ∃ t, exec (.writeAdmit n) s = .next t ∧ t = s)
  ∧ (∀ s (n : Slice), s.cist.waits = [] → Quiescent s → ∃ t, exec (.writeAdmit n) s = .next t ∧ t = s)
  ∧ (∀ s (n : Slice) w (p : Port) tag k old, s.pwr.st = .service → Quiescent s → s.cist.waits = [w] → sliceOf s.cache w.dln = n.val →
      w.org = .host p tag → w.be = BitVec.allOnes 64 → sGet (0, 0) s.cist.rr n.val = (p.val, 0) → 0 < rrWeight s p.val →
      s.pair.role = .unpaired → lockHeld s w.dln = false → s.cache.upset = [] → findWay s w.dln = some (k, old) → ∃ t, exec (.writeAdmit n) s
          = .next t ∧
          t.cist.waits = [] ∧ .ndr p tag ∈ t.out ∧ t.tabs = s.tabs ∧ ∃ x, findWay t w.dln = some (k, x) ∧ x.data = w.data ∧ x.d = true)
  ∧ (∀ s dln, findWay s dln = none → Quiescent s → ∃ t, exec (.dieResolve dln) s = .next t ∧ t = s)
  ∧ (∀ s dln k w, s.pwr.st = .service → Quiescent s → findWay s dln = some (k, w) → dirtyW w = true → w.dk = false → tailFull s = false →
      pageHere s (pageOf (ltnOf dln)) = true → carrierOf s (ltnOf dln) = none → (entryAt s (ltnOf dln)).st = .mapped →
      ∃ t, exec (.dieResolve dln) s = .next t ∧
          findWay t dln = some (k, { w with dk := true, die := ptnDieIx (entryAt s (ltnOf dln)).ptn.toNat }) ∧ t.tabs = s.tabs ∧ t.mapu = s.mapu)
  ∧ (∀ s die, s.pwr.st ≠ .drain → oldestDirty s die = none → Quiescent s → ∃ t, exec (.cleaning die []) s = .next t ∧ t = s)
  ∧ (∀ s die, s.pwr.st = .drain → nextDirty s die = none → ∃ t, exec (.cleaning die []) s = .next t ∧ t = s)
  ∧ (∀ s die k w, s.pwr.st = .service → Quiescent s → hasRoom s die = true → stopLevel s ≤ dirtyOf s die → oldestDirty s die = some (k, w) →
      sGet wayInit s.cache.ways k = w → s.cache.upset = [] → findCis s w.dln = none → wornOut s (ltnOf w.dln) = false →
      (entryAt s (ltnOf w.dln)).st = .mapped → ∃ t, exec (.cleaning die []) s = .next t ∧
          sGet wayInit t.cache.ways k = setD w false ∧ t.tabs = s.tabs ∧ t.med = s.med
          ∧ ∃ e, t.cist.ents = s.cist.ents ++ [e] ∧ e.dln = w.dln ∧ e.data = w.data ∧ e.p = w.p ∧ e.prog = false ∧ e.direct = false)
  ∧ (∀ s die k w, s.pwr.st = .drain → nextDirty s die = some (k, w) → sGet wayInit s.cache.ways k = w → s.cache.upset = [] → s.cache.locks = [] →
      findCis s w.dln = none → wornOut s (ltnOf w.dln) = false → (entryAt s (ltnOf w.dln)).st = .mapped → ∃ t, exec (.cleaning die []) s = .next t ∧
          sGet wayInit t.cache.ways k = setD w false ∧ t.tabs = s.tabs ∧ t.med = s.med
          ∧ ∃ e, t.cist.ents = s.cist.ents ++ [e] ∧ e.dln = w.dln ∧ e.data = w.data ∧ e.p = w.p ∧ e.prog = false ∧ e.direct = true)

/-- The Pump: epochs, dispatch, verify and the filter. A pacing epoch starts the drain count again, applies the waiting quotas, and takes a
waiting CKPT_NOW. A dispatched entry is in program, its frame's marker is OPEN and its die has paid a token. A program that verifies within 2.4 µs
leaves the frame as it was to be written, CLOSED with the line, and frees the slot; a first failure keeps both for a second attempt. A program
that cannot start changes nothing. The filter is built anew only above its limit. Completion is stated of pacingEpoch, programDispatch,
programVerifyDone, filterRebuild. (04_write_path_cistern_and_pump R105, R113, R116, R119, R121, R127, R132; 06_tysha_medium_and_line_frames R168,
R170, R171, R174) -/
def Obligations.TheCisternIsProgrammed : Prop :=
  (∀ s res, s.pwr.st ≠ .service → ∃ t, exec (.pacingEpoch res) s = .next t ∧ t = s)
  ∧ (∀ s res, s.pwr.st = .service → s.wear.ledQ = [] → ∃ t, exec (.pacingEpoch res) s = .next t ∧
        t.cist.left = 0 ∧ t.cist.leftPrev = s.cist.left ∧ t.cist.nextQuota = [] ∧ t.cist.ents = s.cist.ents ∧ t.pair.resyncSent = 0
        ∧ t.mapu.ckptReq = (s.mapu.ckptReq || s.mapu.ckptNow) ∧ t.cache = s.cache ∧ t.med = s.med ∧ t.tabs = s.tabs)
  ∧ (∀ s u, progTarget s u = none → ∃ t, exec (.programDispatch u) s = .next t ∧ t = s)
  ∧ (∀ s u, startable s u = false → ∃ t, exec (.programDispatch u) s = .next t ∧ t = s)
  ∧ (∀ s n e, s.pwr.st = .service → cisNo s n = some e → startable s (.line n) = true → rankOf s (.line n) = 0 →
      4 ≤ freeTok s (ptnDieIx e.ptn.toNat) → ∃ t, exec (.programDispatch (.line n)) s = .next t ∧
          (∃ o, t.med.ops = s.med.ops ++ [o] ∧ o.kind = .program (.line n) ∧ o.ptn = e.ptn.toNat ∧ o.fslot = e.fslot ∧ o.suspended = false
            ∧ o.frame.marker = .closed ∧ o.frame.line = e.data ∧ o.frame.p = e.p)
          ∧ (frameAt t e.ptn.toNat e.fslot).marker = .opened
          ∧ t.cist.ents = modFirst (fun x => decide (x.slot = n)) (fun x => { x with prog := true }) s.cist.ents
          ∧ sGet 0 t.cist.tok (ptnDieIx e.ptn.toNat) = sGet 0 s.cist.tok (ptnDieIx e.ptn.toNat) - 4 ∧ t.cache = s.cache)
  ∧ (∀ s n e o ns, Quiescent s → ns ≤ 2400 → cisNo s n = some e →
      findP (fun o : Op => decide (o.kind = .program (.line n)) && !o.suspended) s.med.ops = some o →
      ∃ t, exec (.programVerifyDone (.line n) true ns) s = .next t ∧
          frameAt t o.ptn o.fslot = o.frame
          ∧ t.cist.ents.map (fun x => (x.slot, x.dln, x.data)) = (dropFirst (fun x => decide (x.slot
              = n)) s.cist.ents).map (fun x => (x.slot, x.dln, x.data))
          ∧ t.med.ops = dropFirst (fun x => decide (x.kind = .program (.line n))) s.med.ops ∧ t.cist.left = s.cist.left + 1 ∧ t.cache = s.cache)
  ∧ (∀ s n e o ok ns, Quiescent s → cisNo s n = some e → (ok = false ∨ 2400 < ns) → o.fails = 0 →
      findP (fun o : Op => decide (o.kind = .program (.line n)) && !o.suspended) s.med.ops = some o →
      ∃ t, exec (.programVerifyDone (.line n) ok ns) s = .next t ∧
          t.med.ops = modFirst (fun x => decide (x.kind = .program (.line n))) (fun x => { x with fails := 1 }) s.med.ops
          ∧ t.med.frames = s.med.frames ∧ t.cist.ents = s.cist.ents ∧ t.cache = s.cache)
  ∧ (∀ s, fullCounters s ≤ 65536 → ∃ t, exec .filterRebuild s = .next t ∧ t = s)
  ∧ (∀ s, 65536 < fullCounters s → ∃ t, exec .filterRebuild s = .next t ∧
        t.cist.filter = s.cist.ents.foldl (fun m e => filterUp m e.dln) [] ∧ t.cist.ents = s.cist.ents ∧ t.cache = s.cache)

/-- Moves: start, copy and commit. A move that is queued and may take a tile takes a destination and makes its MAPPED tile MIGRATING; without a
queued cause nothing starts. A line held by the Cistern is not copied; for a line of a materialised CONST tile the pattern waits to be programmed,
and a copy that verifies is treated. The commit of a materialisation appends one map record: the tile is MAPPED at its destination. A tile without
a move is left alone. Completion is stated of moveStart, moveCopy, programVerifyDone, moveCommit. (07_tile_map R233, R237;
08_wear_migration_and_spares R250, R251, R252, R253, R254) -/
def Obligations.MovesTakeCopyAndCommit : Prop :=
  (∀ s ltn c, queuedFor s ltn c = none → ∃ t, exec (.moveStart ltn c) s = .next t ∧ t = s)
  ∧ (∀ s ltn c q, s.pwr.st = .service → s.cmds.sanStep = 0 → queuedFor s ltn c = some q → q.kind = .move → tailFull s = false →
      pageHere s (pageOf ltn) = true → (entryAt s ltn).st = .mapped → causeTakes s .move q.cause = true →
      (beginMove s ltn .move q.cause q.walker q.past).isSome = true → ∃ t, exec (.moveStart ltn c) s = .next t ∧
          (∃ m, moveOf t ltn = some m ∧ m.cause = q.cause ∧ m.prev = entryAt s ltn ∧ m.past = q.past ∧ m.commitJ = none)
          ∧ (entryAt t ltn).st = .migrating ∧ (∀ x ∈ t.wear.queue, x.1 ≠ ltn) ∧ t.med = s.med)
  ∧ (∀ s ltn line a b, moveOf s ltn = none → ∃ t, exec (.moveCopy ltn line a b) s = .next t ∧ t = s)
  ∧ (∀ s ltn (line : Fin 256) a b m, s.pwr.st = .service → Quiescent s → moveOf s ltn = some m → copyTurn s m line.val = true →
      s.cist.ents.any (fun e => decide (e.dln = m.ltn * 256 + line.val) && e.held) = true → ∃ t, exec (.moveCopy ltn line a b) s = .next t ∧
          (∃ x, ownMove t m.ltn = some x ∧ x.copied.getLsbD line.val = true) ∧ t.med = s.med ∧ t.tabs = s.tabs ∧ t.cist = s.cist)
  ∧ (∀ s ltn (line : Fin 256) a b m, programsRun s = true → moveOf s ltn = some m → ownMove s m.ltn = some m → copyTurn s m line.val = true →
      s.cist.ents.any (fun e => decide (e.dln = m.ltn * 256 + line.val) && e.held) = false → isRefused s.tabs (m.ltn * 256 + line.val) = false →
      m.kind = .materialise → m.prev.st = .const → ∃ t, exec (.moveCopy ltn line a b) s = .next t ∧
          (∃ x, ownMove t m.ltn = some x ∧ gotAt x line.val = some (patternLine m.prev.ptn, false, 0)) ∧ t.tabs = s.tabs ∧ t.cist.ents = s.cist.ents)
  ∧ (∀ s ltn line m o ns, Quiescent s → ns ≤ 2400 → line < 256 → ownMove s ltn = some m → m.dst = o.ptn →
      findP (fun o : Op => decide (o.kind = .program (.copy ltn line)) && !o.suspended) s.med.ops = some o →
      ∃ t, exec (.programVerifyDone (.copy ltn line) true ns) s = .next t ∧
          (∃ x, ownMove t ltn = some x ∧ x.copied.getLsbD line = true) ∧ frameAt t o.ptn o.fslot = o.frame ∧ t.tabs = s.tabs)
  ∧ (∀ s ltn, moveOf s ltn = none → ∃ t, exec (.moveCommit ltn) s = .next t ∧ t = s)
  ∧ (∀ s ltn m, s.pwr.st = .drain ∨ (s.pwr.st = .service ∧ Quiescent s) → moveOf s ltn = some m → copyDone m = true → m.commitJ = none →
      m.kind = .materialise → tailFull s = false → ∃ t, exec (.moveCommit ltn) s = .next t ∧
          (entryAt t m.ltn).st = .mapped ∧ (entryAt t m.ltn).ptn = BitVec.ofNat 32 m.dst ∧ (entryAt t m.ltn).gen = m.gen
          ∧ t.mapu.jnext = s.mapu.jnext + 1 ∧ t.med = s.med)

/-- Tile resets. The head of a die's reset queue is reset when its partition is free, the die has a place and a token, and nothing of a higher
rank waits. A reset that succeeds leaves every frame of the tile blank and the tile free. One that fails is tried again from the head of the
queue, the third of a row retiring it. Completion is stated of tileResetStart, resetDone. (06_tysha_medium_and_line_frames R168, R175;
08_wear_migration_and_spares R248, R260) -/
def Obligations.FreedTilesAreReset : Prop :=
  (∀ s die, resetReady (releaseFreed s) die = none → tailFull s = false → ∃ t, exec (.tileResetStart die) s = .next t ∧
        t.med = s.med ∧ t.tabs = s.tabs ∧ t.cist = s.cist)
  ∧ (∀ s die p r, s.wear.freeing = [] → sGet [] s.wear.resetq die = p :: r → resetReady s die = some p →
      higherWaits s die (rankReset s die) = false → 4 ≤ freeTok s die → ∃ t, exec (.tileResetStart die) s = .next t ∧
          t.med.ops = s.med.ops ++
            [{ kind := .reset, die := die, part := ptnPart p, ptn := p, fslot := 0, frame := frameInit, fails := 0, suspended := false }]
          ∧ sGet [] t.wear.resetq die = r ∧ sGet 0 t.cist.tok die = sGet 0 s.cist.tok die - 4 ∧ t.med.frames = s.med.frames ∧ t.tabs = s.tabs)
  ∧ (∀ s ptn ok, findP (fun o : Op => decide (o.kind = .reset) && decide (o.ptn = ptn) && !o.suspended) s.med.ops = none →
      ∃ t, exec (.resetDone ptn ok) s = .next t ∧ t = s)
  ∧ (∀ s ptn o, Quiescent s → findP (fun o : Op => decide (o.kind = .reset) && decide (o.ptn = ptn) && !o.suspended) s.med.ops = some o →
      tailFull s = false → ∃ t, exec (.resetDone ptn true) s = .next t ∧
          (∀ f < 256, frameAt t ptn f = frameInit) ∧ (∀ q f, q ≠ ptn → f < 256 → frameAt t q f = frameAt s q f) ∧ tileAt t ptn = 0
          ∧ sGet 0 t.wear.rfail ptn = 0 ∧ t.mapu.jnext = s.mapu.jnext + 1)
  ∧ (∀ s ptn o, Quiescent s → findP (fun o : Op => decide (o.kind = .reset) && decide (o.ptn = ptn) && !o.suspended) s.med.ops = some o →
      tailFull s = false → sGet 0 s.wear.rfail ptn < 2 → ∃ t, exec (.resetDone ptn false) s = .next t ∧
          sGet 0 t.wear.rfail ptn = sGet 0 s.wear.rfail ptn + 1 ∧ (sGet [] t.wear.resetq (ptnDieIx ptn)).head? = some ptn
          ∧ t.med.frames = s.med.frames ∧ t.tabs = s.tabs)

/-- Epoch units, the refresh scanner, scrub and sentinels. An epoch unit lasts four hours of TIME and advances the count by one. A tile past its
deadline enters the refresh queue as such. The scrub walker stands still while it is paused, and else senses one frame and goes on to the next; a
pause ends after 24 hours. Every line of a sentinel that is due is to be programmed, one after the other, and the next sentinel of its die comes
after it. Completion is stated of epochUnitStart, refreshScan, scrubSense, scrubAutoResume, sentinelProgram, programVerifyDone.
(09_drift_refresh_and_scrub R273, R287, R288, R293, R295, R297) -/
def Obligations.DriftIsWatched : Prop :=
  (∀ s, now s < s.drift.unitStart + unitNs → ∃ t, exec .epochUnitStart s = .next t ∧ t = s)
  ∧ (∀ s, s.pwr.st ≠ .off → (s.pwr.st ≠ .standby ∨ s.pwr.bootStep ≠ 0) → s.drift.unitStart + unitNs ≤ now s → ∃ t, exec .epochUnitStart s = .next t ∧
        t.drift.ec = (s.drift.ec + 1) % 2 ^ 32 ∧ t.drift.unitStart = now s ∧ t.tabs = s.tabs ∧ t.med = s.med)
  ∧ (∀ s ltn, s.pwr.st ≠ .service → ∃ t, exec (.refreshScan ltn) s = .next t ∧ t = s)
  ∧ (∀ s ltn, s.pwr.st = .service → ltn < logicalTiles s.sec.variant → pageHere s (pageOf ltn) = true → inUse (entryAt s ltn) = true →
      refreshRep s ltn = ltn → moveOf s ltn = none → (ledAt s (entryAt s ltn).ptn.toNat).reads = 255 → s.drift.refq = [] → ∃ t,
          exec (.refreshScan ltn) s = .next t ∧
          (∃ a, t.drift.refq = [(ltn, true, a)]) ∧ t.tabs = s.tabs ∧ t.mapu = s.mapu)
  ∧ (∀ s line a b late, s.drift.range = none → s.drift.pausedAt.isSome = true → ∃ t, exec (.scrubSense line a b late) s = .next t ∧
        t = s)
  ∧ (∀ s (line : Fin 256) a b cur, s.pwr.st = .service → s.cmds.sanitizing = false → s.drift.range = none → s.drift.pausedAt = none →
      scrubAt s s.drift.cursor s.drift.line = some (cur, line.val) → cur < 2 ^ 31 → partBusy s (entryAt s cur).ptn.toNat = false →
      line.val < 255 → senseFrame s (entryAt s cur).ptn.toNat (fslotOf line.val (entryAt s cur).rot) a false = .never →
      ∃ t, exec (.scrubSense line a b false) s = .next t ∧
          t.drift.cursor = cur ∧ t.drift.line = line.val + 1 ∧ t.out = s.out ∧ t.tabs = s.tabs ∧ t.med = s.med)
  ∧ (∀ s x, s.drift.pausedAt = some x → x + dayNs ≤ now s → ∃ t, exec .scrubAutoResume s = .next t ∧
        t = { s with drift := { s.drift with pausedAt := none } })
  ∧ (∀ s x, s.drift.pausedAt = some x → now s < x + dayNs → ∃ t, exec .scrubAutoResume s = .next t ∧ t = s)
  ∧ (∀ s die, sentinelDue s die = false → sentinelNext s die = none → ∃ t, exec (.sentinelProgram die) s = .next t ∧ t = s)
  ∧ (∀ s die, s.pwr.st = .service → dieLive s die = true → sentinelNext s die = none → sentinelDue s die = true →
      ∃ t, exec (.sentinelProgram die) s = .next t ∧
          sGet 0 t.drift.sentLeft die = BitVec.allOnes 256 ∧ sGet 0 t.drift.sentinel die = sGet 0 s.drift.sentinel die ∧ t.tabs = s.tabs)
  ∧ (∀ s die l, s.pwr.st = .service → dieLive s die = true → sentinelNext s die = some l → startable s (.sentinel die l) = true →
      higherWaits s (ptnDieIx (sentinelTile die (sGet 0 s.drift.sentinel die))) 10 = false →
      4 ≤ freeTok s (ptnDieIx (sentinelTile die (sGet 0 s.drift.sentinel die))) → ∃ t, exec (.sentinelProgram die) s = .next t ∧
          (∃ o, t.med.ops = s.med.ops ++ [o] ∧ o.kind = .program (.sentinel die l) ∧ o.ptn = sentinelTile die (sGet 0 s.drift.sentinel die) ∧ o.fslot
              = l)
          ∧ t.tabs = s.tabs ∧ t.drift = s.drift)
  ∧ (∀ s die l o ns, Quiescent s → ns ≤ 2400 → sGet 0 s.drift.sentLeft die = BitVec.ofNat 256 (2 ^ l) →
      findP (fun o : Op => decide (o.kind = .program (.sentinel die l)) && !o.suspended) s.med.ops = some o →
      ∃ t, exec (.programVerifyDone (.sentinel die l) true ns) s = .next t ∧
          frameAt t o.ptn o.fslot = o.frame ∧ sGet 0 t.drift.sentinel die = (sGet 0 s.drift.sentinel die + 1) % 8
          ∧ sGet 0 t.drift.sentLeft die = 0 ∧ t.tabs = s.tabs)

/-- Temperature samples. A diode reading below the SHUTDOWN threshold moves the level with its hysteresis and changes no power state. One at the
threshold in SERVICE trips: the condition is SHUTDOWN and a Drain begins. The third missing conversion in a row holds the level at THROTTLE2. A
media sample ages the channel, in STANDBY at the temperature of the Yelrid; a channel without power takes none. Completion is stated of
diodeSample, mediaTempSample. (01_module_at_a_glance R24, R27; 09_drift_refresh_and_scrub R274; 18_zircon_ageing_and_thermal R514, R515, R516,
R517, R519) -/
def Obligations.TemperaturesSetTheLevels : Prop :=
  (∀ s x st, s.pwr.st = .off → ∃ t, exec (.diodeSample x st) s = .next t ∧ t = s)
  ∧ (∀ s (x : Int) st, s.pwr.st ≠ .off → -160 ≤ x → x < 460 → s.th.yelFail = false → s.th.tripped = false → ∃ t, exec (.diodeSample (some x) st) s
      = .next t ∧
        t.th.yel = x ∧ t.th.yelMiss = 0 ∧ t.th.yelLvl = nextLevel (thrYel s) 20 x s.th.yelLvl ∧ t.th.tripped = false ∧ t.pwr.st = s.pwr.st
        ∧ t.tabs = s.tabs ∧ t.cist = s.cist ∧ t.cache = s.cache)
  ∧ (∀ s (x : Int) st, s.pwr.st = .service → 460 ≤ x → x < 500 → s.th.yelFail = false → s.th.tripped = false →
      ∃ t, exec (.diodeSample (some x) st) s = .next t ∧
          t.th.tripped = true ∧ t.th.cond = .shutdown ∧ t.th.yel = x ∧ t.th.shutCnt = satAdd 0xFFFFF s.th.shutCnt 1 ∧ t.pwr.st = .drain)
  ∧ (∀ s st, s.pwr.st ≠ .off → s.th.yelMiss = 2 → s.th.yelFail = false → ∃ t, exec (.diodeSample none st) s = .next t ∧
        t.th.yelFail = true ∧ t.th.yelLvl = 3 ∧ t.pwr.st = s.pwr.st)
  ∧ (∀ s (c : Channel) ts st, s.pwr.st = .standby → ∃ t, exec (.mediaTempSample c ts st) s = .next t ∧
        (chanAt t c.val).tac = ((chanAt s c.val).tac + ageFactor (tempBin s.th.yel)) % 2 ^ 56 ∧ t.th = s.th ∧ t.pwr = s.pwr
        ∧ ∀ q, q ≠ c.val → chanAt t q = chanAt s q)
  ∧ (∀ s (c : Channel) ts st, s.pwr.st ≠ .standby → domOn s (48 + c.val) = false → ∃ t, exec (.mediaTempSample c ts st) s = .next t ∧
        t = s)
  ∧ (∀ s (c : Channel) (x : Int) st, s.pwr.st = .service → domOn s (48 + c.val) = true → (chanAt s c.val).retired = false →
      (chanAt s c.val).live = 1 → (chanAt s c.val).sensBad = [] → x < 360 → ∃ t, exec (.mediaTempSample c [some x] st) s = .next t ∧
          (chanAt t c.val).tac = ((chanAt s c.val).tac + ageFactor (tempBin x)) % 2 ^ 56
          ∧ (chanAt t c.val).level = nextLevel (thrMedia s) 12 x (chanAt s c.val).level ∧ t.pwr.st = .service ∧ t.tabs = s.tabs)

/-- The journal writer. A line is formed when one is due: up to three records leave the tail for it, and it takes the next place of its tile. The
oldest line in turn is programmed, its frame being OPEN. A line that verifies makes its records durable and leaves the list; its first failure is
tried again. Completion is stated of journalLineProgram, journalLineVerify. (07_tile_map R216, R220, R221, R222) -/
def Obligations.JournalLinesBecomeDurable : Prop :=
  (∀ s, lineDue s = false → startable s .journal = false → ∃ t, exec .journalLineProgram s = .next t ∧ t = s)
  ∧ (∀ s, journalRuns s = true → lineDue s = true → s.mapu.lines.length < 8 → s.mapu.jtile ≠ 0 → s.mapu.jline < 256 →
      ∃ t, exec .journalLineProgram s = .next t ∧
          t.mapu.tail = s.mapu.tail.drop 3 ∧ t.mapu.lines.map (·.recs) = s.mapu.lines.map (·.recs) ++ [s.mapu.tail.take 3]
          ∧ t.mapu.lines.map (·.line) = s.mapu.lines.map (·.line) ++ [s.mapu.jline]
          ∧ t.mapu.jline = s.mapu.jline + 1 ∧ t.mapu.durable = s.mapu.durable ∧ t.tabs = s.tabs ∧ t.cache = s.cache)
  ∧ (∀ s l, s.pwr.st = .service → lineDue s = false → findP (fun l => !l.started) s.mapu.lines = some l → startable s .journal = true →
      4 ≤ freeTok s (ptnDieIx s.mapu.jtile) → ∃ t, exec .journalLineProgram s = .next t ∧
          (∃ o, t.med.ops = s.med.ops ++ [o] ∧ o.kind = .program .journal ∧ o.ptn = s.mapu.jtile ∧ o.fslot = l.line ∧ o.frame.line = l.data
            ∧ o.frame.marker = .closed) ∧ (frameAt t s.mapu.jtile l.line).marker = .opened ∧ t.tabs = s.tabs ∧ t.cache = s.cache)
  ∧ (∀ s ok ns, findP (fun o : Op => decide (o.kind = .program .journal) && !o.suspended) s.med.ops = none →
      ∃ t, exec (.journalLineVerify ok ns) s = .next t ∧ t = s)
  ∧ (∀ s o l r ns, s.pwr.st = .service → Quiescent s → s.wear.moves = [] → s.mapu.lines = l :: r → ns ≤ 2400 →
      findP (fun o : Op => decide (o.kind = .program .journal) && !o.suspended) s.med.ops = some o →
      ∃ t, exec (.journalLineVerify true ns) s = .next t ∧
          t.mapu.lines = r ∧ t.mapu.durable = s.mapu.durable + l.recs.length ∧ frameAt t o.ptn o.fslot = o.frame ∧ t.tabs = s.tabs)
  ∧ (∀ s o ok ns, (ok = false ∨ 2400 < ns) → o.fails = 0 →
      findP (fun o : Op => decide (o.kind = .program .journal) && !o.suspended) s.med.ops = some o →
      ∃ t, exec (.journalLineVerify ok ns) s = .next t ∧
          t.mapu.lines = s.mapu.lines ∧ t.mapu.durable = s.mapu.durable ∧ t.med.frames = s.med.frames
          ∧ t.med.ops = modFirst (fun x => decide (x.kind = .program .journal)) (fun x => { x with fails := 1 }) s.med.ops)

/-- Checkpoints. A checkpoint that is due notes its number and the next record, and every dirty object and tree node has a tile to be written to
or waits for one. Once every line of its tiles has verified and every record before its start is durable, its anchor is to be written; once every
copy has verified, it is the newest anchor. Then what the checkpoint superseded is given up, and with it the journal tiles closed before its
start. Completion is stated of checkpointStart, checkpointAnchor, checkpointFree, programVerifyDone. (07_tile_map R210, R211, R225) -/
def Obligations.CheckpointsReplaceTheLast : Prop :=
  (∀ s, s.mapu.ckpt = none → ckptDue s = false → ∃ t, exec .checkpointStart s = .next t ∧ t = s)
  ∧ (∀ s, s.pwr.st = .service → s.mapu.ckpt = none → ckptDue s = true → ∃ t, exec .checkpointStart s = .next t ∧
        (∃ c, t.mapu.ckpt = some c ∧ c.no = s.mapu.ckptNo + 1 ∧ c.jc = s.mapu.jnext ∧ c.anchor = none
          ∧ ∀ n ∈ ckptNodes s, n ∈ c.todo ∨ ∃ x ∈ c.tiles, x.node = n)
        ∧ t.mapu.ckptReq = false ∧ t.mapu.ckptAt = now s ∧ t.med = s.med ∧ t.cache = s.cache)
  ∧ (∀ s, s.mapu.ckpt = none → (∃ t, exec .checkpointAnchor s = .next t ∧ t = s) ∧ ∃ t, exec .checkpointFree s = .next t ∧ t = s)
  ∧ (∀ s n line x o ns, Quiescent s → ns ≤ 2400 → ckptTile s n = some x → o.ptn = x.tile →
      findP (fun o : Op => decide (o.kind = .program (.node n line)) && !o.suspended) s.med.ops = some o →
      ∃ t, exec (.programVerifyDone (.node n line) true ns) s = .next t ∧
          (∃ y, ckptTile t n = some y ∧ y.tile = x.tile ∧ y.done = x.done ||| BitVec.ofNat 256 (2 ^ line)) ∧ frameAt t o.ptn o.fslot = o.frame)
  ∧ (∀ s c, s.mapu.ckpt = some c → (c.todo ≠ [] ∨ s.mapu.durable < c.jc) → ∃ t, exec .checkpointAnchor s = .next t ∧ t = s)
  ∧ (∀ s c, s.pwr.st = .service → s.mapu.ckpt = some c → c.anchor = none → c.todo = [] → c.tiles.all tileDone = true → c.jc ≤ s.mapu.durable →
      ∃ t, exec .checkpointAnchor s = .next t ∧
          (∃ w, t.mapu.ckpt = some { c with anchor := some w } ∧ s.mapu.aseq < w.aseq ∧ w.ctrLimit = s.mapu.mseq + 2 ^ 32
            ∧ ∀ x ∈ w.copies, x.2.2 = false) ∧ t.tabs = s.tabs ∧ t.med = s.med)
  ∧ (∀ s c w k x o ns, Quiescent s → ns ≤ 2400 → s.mapu.ckpt = some c → c.anchor = some w → s.mapu.aseq < w.aseq →
      w.copies = List.replicate k (x.1, x.2.1, true) ++ [x] →
      findP (fun o : Op => decide (o.kind = .program (.anchor k)) && !o.suspended) s.med.ops = some o →
      ∃ t, exec (.programVerifyDone (.anchor k) true ns) s = .next t ∧
          t.mapu.aseq = w.aseq ∧ t.mapu.ckptNo = c.no ∧ t.mapu.ctrLimit = w.ctrLimit ∧ frameAt t o.ptn o.fslot = o.frame)
  ∧ (∀ s c w, s.pwr.st = .service → s.mapu.ckpt = some c → c.anchor = some w → s.mapu.aseq = w.aseq → tailFull s = false →
      ∃ t, exec .checkpointFree s = .next t ∧
          t.mapu.ckpt = none ∧ t.mapu.superseded = [] ∧ (∀ x ∈ t.mapu.jclosed, c.jc ≤ x.2) ∧ t.mapu.aseq = s.mapu.aseq
          ∧ t.med.frames = s.med.frames ∧ t.cache = s.cache)

/-- Re-plans, canaries, eyes and bank tests. A cause that holds starts a re-plan; its plan instant ends it with the next plan number. A canary
slack of 30 ns or more leaves VCORE as it is; below that VCORE rises by 10 mV up to its limit, and at the limit the guard is short. Eye margins
are taken from live links. A bank test that is due starts, or is put off for an hour. One that meets every limit clears the bank's failure, and
one that does not sets it. Completion is stated of replanStart, planInstant, canarySample, eyeMarginSample, bankTestStart, bankTestEnd.
(18_zircon_ageing_and_thermal R501, R502, R507, R508, R509, R510) -/
def Obligations.ZirconPlansAndMeasures : Prop :=
  (∀ s (c : Fin 8), causeHolds s c.val = false → ∃ t, exec (.replanStart c) s = .next t ∧ t = s)
  ∧ (∀ s (c : Fin 8), s.pwr.st = .service → s.zir.forming = none → causeHolds s c.val = true → causeReady s c.val = true →
      ∃ t, exec (.replanStart c) s = .next t ∧
          t = { s with zir := { s.zir with forming := some (c.val, now s), lastStart := now s, cause := c.val, waiting := [] } })
  ∧ (∀ s m, s.zir.forming = none → ∃ t, exec (.planInstant m) s = .next t ∧ t = s)
  ∧ (∀ s m x, s.pwr.st = .service → s.zir.forming = some x → ∃ t, exec (.planInstant m) s = .next t ∧
        t.zir.forming = none ∧ t.zir.planGen = (s.zir.planGen + 1) % 2 ^ 20 ∧ t.tabs = s.tabs ∧ t.cache = s.cache ∧ t.med = s.med ∧ t.wear = s.wear
        ∧ t.pwr.st = .service)
  ∧ (∀ s l, s.pwr.st ≠ .service → (∃ t, exec (.canarySample l) s = .next t ∧ t = s) ∧ ∀ e, ∃ t, exec (.eyeMarginSample e) s = .next t ∧
        t = s)
  ∧ (∀ s x, s.pwr.st = .service → 300 ≤ x → x ≤ 0x3FF → s.zir.sensFrom = none → s.zir.checkReq = none → ∃ t, exec (.canarySample [x]) s = .next t ∧
        t.zir.slackNow = x ∧ t.zir.guardShort = false ∧ t.pwr = s.pwr ∧ t.out = s.out ∧ t.tabs = s.tabs)
  ∧ (∀ s x, s.pwr.st = .service → x < 300 → s.zir.sensFrom = none → s.zir.checkReq = none → s.pwr.vcore < vcoreTop s →
      ∃ t, exec (.canarySample [x]) s = .next t ∧
          t.pwr.vcore = (if vcoreTop s < s.pwr.vcore + 10 then vcoreTop s else s.pwr.vcore + 10) ∧ t.zir.slackNow = x ∧ t.pwr.st = .service)
  ∧ (∀ s x, s.pwr.st = .service → x < 300 → s.zir.sensFrom = none → s.zir.checkReq = none → vcoreTop s ≤ s.pwr.vcore → s.zir.guardShort = false →
      ∃ t, exec (.canarySample [x]) s = .next t ∧ t.zir.guardShort = true ∧ t.pwr.vcore = s.pwr.vcore ∧ t.zir.slackNow = x)
  ∧ (∀ s a b, s.pwr.st = .service → (portAt s 0).linkUp = true → 50 ≤ a → a ≤ 0x3FF → b ≤ 0x3FF → ∃ t, exec (.eyeMarginSample [(a, b)]) s = .next t ∧
        sGet (0, 0) t.zir.eyes 0 = (a, b) ∧ t.out = s.out ∧ t.pwr = s.pwr ∧ t.ports = s.ports)
  ∧ (∀ s mv, testDue s = false → ∃ t, exec (.bankTestStart mv) s = .next t ∧ t = s)
  ∧ (∀ s mv, s.zir.testing = false → testDue s = true → s.zir.testNext ≤ now s → testAllowed s = true → ∃ t, exec (.bankTestStart mv) s = .next t ∧
        t = { s with zir := { s.zir with testing := true, testStepMv := mv, testReq := false, testNext := 0 } })
  ∧ (∀ s mv, s.pwr.st = .service → s.zir.testing = false → testDue s = true → s.zir.testNext ≤ now s → testAllowed s = false →
      ∃ t, exec (.bankTestStart mv) s = .next t ∧ t = { s with zir := { s.zir with testNext := now s + hourNs } })
  ∧ (∀ s us a b, s.zir.testing = false → ∃ t, exec (.bankTestEnd us a b) s = .next t ∧ t = s)
  ∧ (∀ s us, s.pwr.st = .service → s.zir.testing = true → eFail s ≤ 5145 * us * 100 → s.zir.testStepMv ≤ 400 → us ≤ 100000 →
      ∃ t, exec (.bankTestEnd us true true) s = .next t ∧
          t.pwr.bankFailed = false ∧ t.zir.bankC = us ∧ t.zir.bankE = 5145 * us / 10000 ∧ t.zir.testing = false ∧ t.tabs = s.tabs)
  ∧ (∀ s us a, s.pwr.st = .service → s.zir.testing = true → ∃ t, exec (.bankTestEnd us a false) s = .next t ∧
        t.pwr.bankFailed = true ∧ t.zir.testing = false ∧ t.tabs = s.tabs)

/-- Beryl pages. The next page of the running store operation enters its program and its dirty flag is cleared; without an operation nothing is
programmed. A page that verifies comes into force in its other slot. A first mismatch programs it once more. Completion is stated of
berylPageProgram, berylPageVerify. (19_beryl_settings_store R528, R529, R530) -/
def Obligations.BerylPagesComeIntoForce : Prop :=
  (∀ s, s.pwr.st ≠ .drain → s.beryl.ops = [] → ∃ t, exec .berylPageProgram s = .next t ∧ t = s)
  ∧ (∀ s op rest n ps, s.pwr.st ≠ .drain → s.beryl.ops = op :: rest → s.beryl.prog = [] → op.pages = n :: ps →
      ∃ t, exec .berylPageProgram s = .next t ∧
          t.beryl.prog = [(n, pageAt s n, 0)] ∧ sGet false t.beryl.dirty n = false ∧ t.beryl.ops = { op with pages := ps } :: rest
          ∧ t.beryl.slots = s.beryl.slots ∧ t.tabs = s.tabs)
  ∧ (∀ s ok stuck, Quiescent s → s.beryl.prog = [] → ∃ t, exec (.berylPageVerify ok stuck) s = .next t ∧ t = s)
  ∧ (∀ s stuck n pg f, Quiescent s → s.beryl.prog = [(n, pg, f)] → s.beryl.ops = [] → n < 4096 →
      ((slotAt s n (forceOf s n)).psq + 1) % 2 ^ 20 < regF s .beryl 0 13 6 0 * 1024 → ∃ t, exec (.berylPageVerify true stuck) s = .next t ∧
          t.beryl.prog = [] ∧ forceOf t n = 1 - forceOf s n ∧ (slotAt t n (1 - forceOf s n)).data = pg ∧ slotValid n (slotAt t n (1 - forceOf s n))
              = true
          ∧ (slotAt t n (1 - forceOf s n)).psq = ((slotAt s n (forceOf s n)).psq + 1) % 2 ^ 20)
  ∧ (∀ s stuck n pg r, Quiescent s → s.beryl.prog = (n, pg, 0) :: r → ∃ t, exec (.berylPageVerify false stuck) s = .next t ∧
        t = { s with beryl := { s.beryl with prog := (n, pg, 1) :: r } })

/-- Dumps, fuses, entropy and ways in disable. At a dump boundary with nothing pending, a record enters the ring and its message is sent, or is
lost to a full ring. A fuse that reads back raises F by one, and the advance ends at the active SVN; one that does not ends it. A failed entropy
test is counted. A clean line of a way in disable is invalidated. Completion is stated of dumpBoundary, fuseBlow, entropyTestFail,
entropyTestPass, wayDisable. (05_line_cache R158; 15_quartz_counters R451, R452; 20_identity_firmware_and_attestation R546, R550, R551, R552) -/
def Obligations.SlowUnitsAdvance : Prop :=
  (∀ s ok, regB s .quartz 0 11 0 = false → ∃ t, exec (.dumpBoundary ok) s = .next t ∧ t = s)
  ∧ (∀ s, s.pwr.st = .service → regB s .quartz 0 11 0 = true → now s % (regF s .quartz 0 12 9 0 * 1000000) = 0 → applyDump s = s →
      (s.qz.dumpTail + 1) % dumpSlots s ≠ regF s .quartz 0 16 7 0 % dumpSlots s → ∃ t, exec (.dumpBoundary true) s = .next t ∧
          t.qz.dumpTail = (s.qz.dumpTail + 1) % dumpSlots s ∧ t.qz.dseq = (s.qz.dseq + 1) % 2 ^ 40 ∧ t.qz.lost = s.qz.lost
          ∧ .msix (regF s .quartz 0 11 2 1) (regF s .quartz 0 11 6 3) ∈ t.out ∧ t.qz.ctr = s.qz.ctr)
  ∧ (∀ s ok, s.pwr.st = .service → regB s .quartz 0 11 0 = true → now s % (regF s .quartz 0 12 9 0 * 1000000) = 0 → applyDump s = s →
      (s.qz.dumpTail + 1) % dumpSlots s = regF s .quartz 0 16 7 0 % dumpSlots s → ∃ t, exec (.dumpBoundary ok) s = .next t ∧
          t.qz.dumpTail = s.qz.dumpTail ∧ t.qz.lost = satAdd 0xFFFFF s.qz.lost 1 ∧ t.qz.dseq = (s.qz.dseq + 1) % 2 ^ 40 ∧ t.out = s.out)
  ∧ (∀ s ok, s.sec.blowing = false → ∃ t, exec (.fuseBlow ok) s = .next t ∧ t = s)
  ∧ (∀ s, s.pwr.st = .service → s.sec.blowing = true → s.sec.f < s.sec.active.svn → ∃ t, exec (.fuseBlow true) s = .next t ∧
        t.sec.f = s.sec.f + 1 ∧ t.sec.blowing = decide (s.sec.f + 1 < s.sec.active.svn) ∧ t.sec.active = s.sec.active ∧ t.tabs = s.tabs)
  ∧ (∀ s, s.pwr.st = .service → s.sec.blowing = true → s.sec.f < s.sec.active.svn → ∃ t, exec (.fuseBlow false) s = .next t ∧
        t.sec.f = s.sec.f ∧ t.sec.blowing = false)
  ∧ (∀ s, domOn s 1 = true → ∃ t, exec .entropyTestFail s = .next t ∧
        t.sec.entropyOk = false ∧ t.sec.fails = satAdd 0xFFFFF s.sec.fails 1 ∧ t.sec.f = s.sec.f ∧ t.keys = s.keys)
  ∧ (∀ s, domOn s 1 = false → (∃ t, exec .entropyTestFail s = .next t ∧ t = s) ∧ ∃ t, exec .entropyTestPass s = .next t ∧ t = s)
  ∧ (∀ s, domOn s 1 = true → s.keys.deferred = [] → ∃ t, exec .entropyTestPass s = .next t ∧
        t = { s with sec := { s.sec with entropyOk := true } })
  ∧ (∀ s (n : Slice), Quiescent s → (sliceAt s n.val).disabling = [] → ∃ t, exec (.wayDisable n []) s = .next t ∧ t = s)
  ∧ (∀ s (n : Slice) w set rest k x y, s.pwr.st = .service → Quiescent s → (sliceAt s n.val).disabling = (w, set) :: rest →
      nextOfWay s n.val w set = some (k, x) → lockHeld s x.dln = false → dirtyW x = false → s.cache.upset = [] →
          nextOfWay (setWay s k wayInit) n.val w set = some y →
      ∃ t, exec (.wayDisable n []) s = .next t ∧
          t.cache.ways = sSet wayInit s.cache.ways k wayInit ∧ t.cist = s.cist ∧ t.tabs = s.tabs)

/-- Fetching descriptors and writing completions. A fetched descriptor of a known opcode runs and CMD_HEAD advances; a disabled or empty ring
fetches nothing. A completion is written where the ring has room and else waits. A coalescing window ends with the message of its vector. The
sideband runs its descriptors in SERVICE, answers BUSY in STANDBY, and takes its endpoint ID whenever it has power. Completion is stated of
descriptorFetch, completionWrite, coalWindowEnd, sidebandDescriptor, setEndpointId. (11_host_ports R362, R363; 12_rings_and_commands R367, R368,
R370, R371, R373) -/
def Obligations.RingsFetchAndComplete : Prop :=
  (∀ s (p : Port) d, (ringAt s p.val).enabled = false ∨ (ringAt s p.val).head = (ringAt s p.val).tail →
      ∃ t, exec (.descriptorFetch p d) s = .next t ∧ t = s)
  ∧ (∀ s (p : Port) d, s.pwr.st = .service → domOn s (2 + p.val) = true → (ringAt s p.val).enabled = true →
      (ringAt s p.val).head ≠ (ringAt s p.val).tail → runCount s p.val < maxRun s p.val → tagBusy s p.val (descOf d).tag = false →
      opKnown (descOf d).opcode = true → sanBusy s = false → ∃ t, exec (.descriptorFetch p (some d)) s = .next t ∧
          (∃ r, t.cmds.run = s.cmds.run ++ [r] ∧ r.src = p.val ∧ r.desc = d ∧ r.started = false)
          ∧ (ringAt t p.val).head = ((ringAt s p.val).head + 1) % cmdSize s p.val ∧ (ringAt t p.val).wait = (ringAt s p.val).wait ∧ t.out = s.out
          ∧ (∀ q, q ≠ p.val → ringAt t q = ringAt s q))
  ∧ (∀ s (p : Port) d, s.pwr.st = .service → domOn s (2 + p.val) = true → (ringAt s p.val).enabled = true →
      (ringAt s p.val).head ≠ (ringAt s p.val).tail → runCount s p.val < maxRun s p.val → tagBusy s p.val (descOf d).tag = false →
      opKnown (descOf d).opcode = false → ∃ t, exec (.descriptorFetch p (some d)) s = .next t ∧
          t.cmds = s.cmds ∧ (ringAt t p.val).wait = (ringAt s p.val).wait ++ [cplOf (descOf d) 1 0])
  ∧ (∀ s (p : Port) ok, (ringAt s p.val).wait = [] → ∃ t, exec (.completionWrite p ok) s = .next t ∧ t = s)
  ∧ (∀ s (p : Port) c rest, s.pwr.st = .service → domOn s (2 + p.val) = true → (ringAt s p.val).wait = c :: rest →
      ((ringAt s p.val).cplTail + 1) % cplSize s p.val ≠ (ringAt s p.val).cplHead → ∃ t, exec (.completionWrite p true) s = .next t ∧
          (ringAt t p.val).wait = rest ∧ (ringAt t p.val).cplTail = ((ringAt s p.val).cplTail + 1) % cplSize s p.val ∧ t.cmds = s.cmds
          ∧ .dma p.val (cplBase s p.val + (ringAt s p.val).cplTail * 16) (leBytes 16 (cplBits c (ringAt s p.val).head (ringAt s p.val).ph)) ∈ t.out)
  ∧ (∀ s (p : Port) c rest ok, s.pwr.st = .service → domOn s (2 + p.val) = true → (ringAt s p.val).wait = c :: rest →
      ((ringAt s p.val).cplTail + 1) % cplSize s p.val = (ringAt s p.val).cplHead → ∃ t, exec (.completionWrite p ok) s = .next t ∧
          t.rings = s.rings ∧ t.out = s.out ∧ t.cmds = s.cmds)
  ∧ (∀ s (p : Port) (v : Fin 16), sGet 0 (ringAt s p.val).vecs v.val ≠ 0 → sGet 0 (ringAt s p.val).vecs v.val ≤ now s + 1 →
      ∃ t, exec (.coalWindowEnd p v) s = .next t ∧
          t.out = s.out ++ [.msix p v.val] ∧ sGet 0 (ringAt t p.val).vecs v.val = 0 ∧ (ringAt t p.val).wait = (ringAt s p.val).wait)
  ∧ (∀ s (p : Port) (v : Fin 16), sGet 0 (ringAt s p.val).vecs v.val = 0 → ∃ t, exec (.coalWindowEnd p v) s = .next t ∧ t = s)
  ∧ (∀ s d pl, s.pwr.st = .service → runCount s 4 < 64 → tagBusy s 4 (descOf d).tag = false → opKnown (descOf d).opcode = true →
      sanBusy s = false → ∃ t, exec (.sidebandDescriptor d pl) s = .next t ∧
          (∃ r, t.cmds.run = s.cmds.run ++ [r] ∧ r.src = 4 ∧ r.desc = d ∧ r.payload = pl ∧ r.started = false) ∧ t.out = s.out)
  ∧ (∀ s d pl, s.pwr.st = .standby → tagBusy s 4 (descOf d).tag = false → opKnown (descOf d).opcode = true → (descOf d).opcode ≠ 0x0A →
      (descOf d).opcode ≠ 0x13 → ∃ t, exec (.sidebandDescriptor d pl) s = .next t ∧ t = postCpl s 4 (descOf d) 8 0 [])
  ∧ (∀ s eid, s.pwr.st ≠ .off → ∃ t, exec (.setEndpointId eid) s = .next t ∧
        t = emit { s with pwr := { s.pwr with eid := eid } } (.sbControl eid))
  ∧ (∀ s eid, s.pwr.st = .off → ∃ t, exec (.setEndpointId eid) s = .next t ∧ t = s)

/-- An outstanding tag is busy. A tag is outstanding while its descriptor runs or its completion waits at the ring: a fetched descriptor of that
tag completes with TAG_BUSY, and the same holds of the sideband. Nothing but CMD_HEAD, the waiting completions of that ring and its CPL_FULL flag
changes. Completion is stated of descriptorFetch, sidebandDescriptor. (12_rings_and_commands R374) -/
def Obligations.OutstandingTagsAreBusy : Prop :=
  (∀ s (p : Port) d, s.pwr.st = .boot ∨ s.pwr.st = .service → domOn s (2 + p.val) = true → (ringAt s p.val).enabled = true →
      (ringAt s p.val).head ≠ (ringAt s p.val).tail → runCount s p.val < maxRun s p.val →
      ((∃ r ∈ s.cmds.run, r.src = p.val ∧ (descOf r.desc).tag = (descOf d).tag) ∨ ∃ c ∈ (ringAt s p.val).wait, c.tag = (descOf d).tag) →
      ∃ t, exec (.descriptorFetch p (some d)) s = .next t ∧
          (ringAt t p.val).wait = (ringAt s p.val).wait ++ [cplOf (descOf d) 3 0]
          ∧ t = { s with rings := t.rings, regs := (flagCplFull s p.val).regs } ∧ ∀ q, q ≠ p.val → ringAt t q = ringAt s q)
  ∧ (∀ s d pl, s.pwr.st ≠ .off → s.pwr.st ≠ .drain → runCount s 4 < 64 → (∃ r ∈ s.cmds.run, r.src = 4 ∧ (descOf r.desc).tag = (descOf d).tag) →
      ∃ t, exec (.sidebandDescriptor d pl) s = .next t ∧ t = postCpl s 4 (descOf d) 3 0 [])

/-- A refused descriptor completes with its first failing check. A descriptor whose first failing check is not LOCKED leaves with that status and
has no other effect, whatever command it names. A command marked Unlock without an armed unlock completes with LOCKED and latches the violation.
Completion is stated of wellCreate, wellDestroy, wellModify, fill, clone, cacheMaint, keyRotate, capacityRelease, sanitize. (12_rings_and_commands
R376, R377, R380) -/
def Obligations.RefusedDescriptorsChangeNothing : Prop :=
  (∀ s r (src : Src) tag x up, x ≠ 0 → x ≠ 5 →
      (Issued s r src.val tag 0x01 → checkStatus s r.src (wellCreateChecks s r (descOf r.desc)) = x →
        ∃ t, exec (.wellCreate src tag) s = .next t ∧ t = completeRun s r x 0 [])
      ∧ (Issued s r src.val tag 0x02 → checkStatus s r.src (wellDestroyChecks s r (descOf r.desc)) = x →
        ∃ t, exec (.wellDestroy src tag) s = .next t ∧ t = completeRun s r x 0 [])
      ∧ (Issued s r src.val tag 0x03 → checkStatus s r.src (wellModifyChecks s r (descOf r.desc)) = x →
        ∃ t, exec (.wellModify src tag) s = .next t ∧ t = completeRun s r x 0 [])
      ∧ (Issued s r src.val tag 0x04 → checkStatus s r.src (fillChecks s r (descOf r.desc)) = x →
        ∃ t, exec (.fill src tag) s = .next t ∧ t = completeRun s r x 0 [])
      ∧ (Issued s r src.val tag 0x05 → checkStatus s r.src (cloneChecks s r (descOf r.desc)) = x →
        ∃ t, exec (.clone src tag) s = .next t ∧ t = completeRun s r x 0 [])
      ∧ (Issued s r src.val tag 0x06 → checkStatus s r.src (cacheMaintChecks s r (descOf r.desc)) = x →
        ∃ t, exec (.cacheMaint src tag up) s = .next t ∧ t = completeRun (putUpsets s up) r x 0 [])
      ∧ (Issued s r src.val tag 0x16 → checkStatus s r.src (keyRotateChecks s r (descOf r.desc)) = x →
        ∃ t, exec (.keyRotate src tag) s = .next t ∧ t = completeRun s r x 0 []))
  ∧ (∀ s r (src : Src) tag, Issued s r src.val tag 0x12 → checkStatus s r.src (capacityReleaseChecks s r (descOf r.desc)) = 5 →
      ∃ t, exec (.capacityRelease src tag) s = .next t ∧
          t = completeRun (violation s 0 (if src.val = 4 then 4 else 6) 0xFFF12) r 5 0 [])
  ∧ (∀ s r (src : Src) tag, Issued s r src.val tag 0x10 → checkStatus s r.src (sanitizeChecks s r (descOf r.desc)) = 5 →
      ∃ t, exec (.sanitize src tag) s = .next t ∧
          t = completeRun (violation s 0 (if src.val = 4 then 4 else 6) 0xFFF10) r 5 0 [] ∧ t.cmds.sanitizing = false)

/-- Wells and keys by command. In UNPAIRED, with room in the tail, WELL_CREATE makes the well with the attributes of its descriptor and takes its
key slot, WELL_MODIFY gives it new attributes and keeps its range and key, WELL_DESTROY removes it and frees its key slot, and KEY_ROTATE of a
well that holds a tile starts its rotation at its first tile. Completion is stated of wellCreate, wellModify, wellDestroy, keyRotate.
(02_memory_model R34, R37, R38, R40; 06_tysha_medium_and_line_frames R199; 12_rings_and_commands R383; 20_identity_firmware_and_attestation R544) -/
def Obligations.WellsFollowTheirCommands : Prop :=
  (∀ s r (src : Src) tag, Issued s r src.val tag 0x01 → s.pair.role = .unpaired → tailFull s = false →
      checkStatus s r.src (wellCreateChecks s r (descOf r.desc)) = 0 →
      ∃ t, exec (.wellCreate src tag) s = .next t ∧
          wellNo t ((descOf r.desc).arg0 % 64) = wellFrom (descOf r.desc).addr0 (descOf r.desc).len (descOf r.desc).arg1
          ∧ (keyAt t (bitsOf (descOf r.desc).arg1 13 8)).inUse = true ∧ t.cache = s.cache ∧ t.med = s.med)
  ∧ (∀ s r (src : Src) tag, Issued s r src.val tag 0x03 → s.pair.role = .unpaired → tailFull s = false →
      checkStatus s r.src (wellModifyChecks s r (descOf r.desc)) = 0 →
      ∃ t, exec (.wellModify src tag) s = .next t ∧
          wellNo t ((descOf r.desc).arg0 % 64) = wellWith (wellNo s ((descOf r.desc).arg0 % 64)) (descOf r.desc).arg1 ∧ t.cache = s.cache
          ∧ t.keys = s.keys)
  ∧ (∀ s r (src : Src) tag, Issued s r src.val tag 0x02 → s.pair.role = .unpaired → tailFull s = false →
      checkStatus s r.src (wellDestroyChecks s r (descOf r.desc)) = 0 →
      ∃ t, exec (.wellDestroy src tag) s = .next t ∧
          wellNo t ((descOf r.desc).arg0 % 64) = wellInit ∧ keyAt t (wellNo s ((descOf r.desc).arg0 % 64)).key = keyInit)
  ∧ (∀ s r (src : Src) tag e ltn, Issued s r src.val tag 0x16 → s.pair.role = .unpaired →
      checkStatus s r.src (keyRotateChecks s r (descOf r.desc)) = 0 →
      (∀ x ∈ s.tabs.wells, x.2.key = (wellNo s ((descOf r.desc).arg0 % 64)).key → x.2 = wellNo s ((descOf r.desc).arg0 % 64) ∧ x.1
          = (descOf r.desc).arg0 % 64) →
      (ltn, e) ∈ s.tabs.map → e.st = .mapped → (wellNo s ((descOf r.desc).arg0 % 64)).base * 16384 ≤ ltn →
      ltn < wellEnd (wellNo s ((descOf r.desc).arg0 % 64)) → ∃ t, exec (.keyRotate src tag) s = .next t ∧
          (keyAt t (wellNo s ((descOf r.desc).arg0 % 64)).key).rotating = true
          ∧ sGet 0 t.tabs.cursor ((descOf r.desc).arg0 % 64) = (wellNo s ((descOf r.desc).arg0 % 64)).base * 16384 + 1
          ∧ t.tabs.map = s.tabs.map ∧ t.cache = s.cache)

/-- Tiles and lines by command. In UNPAIRED with no handover: FILL of one tile makes it CONST with the pattern; CLONE of one CONST tile gives the
destination its entry; POISON_CLEAR writes a poisoned line that the cache holds with zeros; CAPACITY_RELEASE leaves the first tile of its range
UNWRITTEN; SANITIZE begins and consumes its unlock. Completion is stated of fill, clone, poisonClear, capacityRelease, sanitize. (02_memory_model
R67; 07_tile_map R236; 08_wear_migration_and_spares R267; 12_rings_and_commands R383, R384, R386) -/
def Obligations.TilesFollowTheirCommands : Prop :=
  (∀ s r (src : Src) tag, Issued s r src.val tag 0x04 → s.pair.role = .unpaired → s.pair.hand = .none → s.pair.home = .all →
      checkStatus s r.src (fillChecks s r (descOf r.desc)) = 0 → (descOf r.desc).len = 16384 → tailFull s = false →
      underMove s ((descOf r.desc).addr0 / 16384) = false → ∃ t, exec (.fill src tag) s = .next t ∧
          (entryAt t ((descOf r.desc).addr0 / 16384)).st = .const
          ∧ (entryAt t ((descOf r.desc).addr0 / 16384)).ptn = BitVec.ofNat 32 ((descOf r.desc).arg1 % 2 ^ 32))
  ∧ (∀ s r (src : Src) tag, Issued s r src.val tag 0x05 → s.pair.role = .unpaired → s.pair.hand = .none → s.pair.home = .all →
      checkStatus s r.src (cloneChecks s r (descOf r.desc)) = 0 → (descOf r.desc).len = 16384 → tailFull s = false →
      s.wear.moves = [] → s.cache.ways = [] → s.cist.ents = [] → pageHere s (pageOf ((descOf r.desc).addr0 / 16384)) = true →
      (entryAt s ((descOf r.desc).addr0 / 16384)).st = .const → ∃ t, exec (.clone src tag) s = .next t ∧
          entryAt t ((descOf r.desc).addr1 / 16384) = entryAt s ((descOf r.desc).addr0 / 16384)
          ∧ entryAt t ((descOf r.desc).addr0 / 16384) = entryAt s ((descOf r.desc).addr0 / 16384) ∧ t.med.frames = s.med.frames)
  ∧ (∀ s r (src : Src) tag ue k w, Issued s r src.val tag 0x07 → s.pair.role = .unpaired → s.pair.hand = .none → s.pair.home = .all →
      checkStatus s r.src (poisonClearChecks s r (descOf r.desc)) = 0 → (descOf r.desc).len = 64 → s.cist.waits = [] →
      pageHere s (pageOf (ltnOf ((descOf r.desc).addr0 / 64))) = true → lockHeld s ((descOf r.desc).addr0 / 64) = false → s.cache.upset = [] →
      findWay s ((descOf r.desc).addr0 / 64) = some (k, w) → w.p = true → ∃ t, exec (.poisonClear src tag ue) s = .next t ∧
          ∃ x, findWay t ((descOf r.desc).addr0 / 64) = some (k, x) ∧ x.data = 0 ∧ x.p = false ∧ x.d = true)
  ∧ (∀ s r (src : Src) tag, Issued s r src.val tag 0x12 → s.pair.role = .unpaired → s.pair.hand = .none → s.pair.home = .all →
      checkStatus s r.src (capacityReleaseChecks s r (descOf r.desc)) = 0 → 0 < (descOf r.desc).len → tailFull s = false →
      ∃ t, exec (.capacityRelease src tag) s = .next t ∧
          (entryAt t ((descOf r.desc).addr0 / 16384)).st = .unwritten ∧ isArmed t (src.val % 8) = false)
  ∧ (∀ s r (src : Src) tag, Issued s r src.val tag 0x10 → s.pair.role = .unpaired → checkStatus s r.src (sanitizeChecks s r (descOf r.desc)) = 0 →
      ∃ t, exec (.sanitize src tag) s = .next t ∧ t.cmds.sanitizing = true ∧ t.cmds.sanStep = 1 ∧ isArmed t (src.val % 8) = false)

/-- Cache maintenance, map pages and the flush to the medium. CACHE_MAINT with invalidation removes the clean line that the cache holds, and
completes. PIN_MAP of one page makes it resident and keeps it; with bad frames to record it waits while the journal takes no update.
FLUSH_TO_MEDIA with nothing dirty completes at once with zero lines; a dirty line enters the Cistern and the command waits for its slot.
Completion is stated of cacheMaint, pinMap, flushToMedia. (02_memory_model R63; 03_read_path_and_latency_bound R97; 05_line_cache R152, R153;
07_tile_map R223; 12_rings_and_commands R383) -/
def Obligations.LineCommandsTreatTheirLines : Prop :=
  (∀ s r (p : Port) tag k w, Issued s r p.val tag 0x06 → checkStatus s r.src (cacheMaintChecks s r (descOf r.desc)) = 0 →
      bitOf (descOf r.desc).arg0 4 = true → (descOf r.desc).arg0 % 4 = 1 → s.cache.ways = [(k, w)] → w.v = true →
      dirtyW w = false → s.med.senses = [] → s.cache.locks = [] → s.cache.upset = [] → ∃ t, exec (.cacheMaint (Fin.castSucc p) tag []) s = .next t ∧
          t.cache.ways = [] ∧ Posted s t p (descOf r.desc) 0 0 ∧ t.cist = s.cist ∧ t.tabs = s.tabs)
  ∧ (∀ s r (p : Port) tag, Issued s r p.val tag 0x08 → checkStatus s r.src (pinMapChecks s r (descOf r.desc)) = 0 →
      (descOf r.desc).len = 2 ^ 25 → s.pwr.warm = true → s.mapu.badSlots = [] → nodeTile s ((descOf r.desc).addr0 / 2 ^ 25) = none →
      ∃ t, exec (.pinMap (Fin.castSucc p) tag []) s = .next t ∧
          sGet false t.mapu.resident ((descOf r.desc).addr0 / 2 ^ 25) = true ∧ (descOf r.desc).addr0 / 2 ^ 25 ∈ t.mapu.pinPages
          ∧ Posted s t p (descOf r.desc) 0 (if pageHere s ((descOf r.desc).addr0 / 2 ^ 25) then 0 else 1) ∧ t.cache = s.cache)
  ∧ (∀ s r (src : Src) tag (res : ResList), Issued s r src.val tag 0x08 → checkStatus s r.src (pinMapChecks s r (descOf r.desc)) = 0 →
      (descOf r.desc).len = 2 ^ 25 → s.pwr.warm = true → s.mapu.badSlots = [] → (tailFull s = true → res = []) →
      ∃ t, exec (.pinMap src tag res) s = .next t ∧
          sGet false t.mapu.resident ((descOf r.desc).addr0 / 2 ^ 25) = true ∧ (descOf r.desc).addr0 / 2 ^ 25 ∈ t.mapu.pinPages)
  ∧ (∀ s (src : Src) tag (res : ResList), tailFull s = true → res ≠ [] → ∃ t, exec (.pinMap src tag res) s = .next t ∧
        t.cmds = s.cmds ∧ t.mapu = s.mapu ∧ t.tabs = s.tabs ∧ t.rings = s.rings)
  ∧ (∀ s r (p : Port) tag, Issued s r p.val tag 0x09 → s.pwr.st = .service →
      checkStatus s r.src (checksOf .service (unused r.desc 0 false false false 0)) = 0 →
      flushItems s = [] → ∃ t, exec (.flushToMedia (Fin.castSucc p) tag) s = .next t ∧
          Posted s t p (descOf r.desc) 0 0 ∧ t.cache = s.cache ∧ t.cist = s.cist)
  ∧ (∀ s r (src : Src) tag k w, Issued s r src.val tag 0x09 → s.pwr.st = .service →
      checkStatus s r.src (checksOf .service (unused r.desc 0 false false false 0)) = 0 → s.cache.ways = [(k, w)] → w.v = true → dirtyW w = true →
          s.cache.upset = [] →
      lockHeld s w.dln = false → canHandOff s w = true → s.cist.ents = [] → wornOut s (ltnOf w.dln) = false →
      (entryAt s (ltnOf w.dln)).st = .mapped → ∃ t, exec (.flushToMedia src tag) s = .next t ∧
          (∃ e, t.cist.ents = [e] ∧ e.dln = w.dln ∧ e.data = w.data) ∧ t.cache.ways = [(k, setD w false)]
          ∧ ∃ x, t.cmds.run = [x] ∧ x.started = true ∧ x.waitLines = [2 * s.cist.nextSlot + 1])

/-- Settings, firmware and their selection by command. In BOOT, SETTINGS_STORE queues a store operation of its dirty pages. FW_STAGE of a chunk
that is not LAST leaves the slot incomplete with the chunk added; LAST with an image that verifies leaves it verified and returns its SVN; with
one that does not, the slot holds nothing and the status is AUTH_FAIL or ROLLBACK; a failed buffer read changes nothing. FW_ACTIVATE selects the
staged image, and CANCEL withdraws the selection. Completion is stated of settingsStore, fwStage, fwActivate. (12_rings_and_commands R375, R383;
19_beryl_settings_store R528; 20_identity_firmware_and_attestation R547, R548, R549) -/
def Obligations.FirmwareIsStagedAndSelected : Prop :=
  (∀ s r (src : Src) tag n ns, Issued s r src.val tag 0x0D → s.pwr.st = .boot →
      checkStatus s r.src (checksOf .boot (unused r.desc 25 false false false 0
        || (!bitOf (descOf r.desc).arg0 0 && decide (4096 < bitsOf (descOf r.desc).arg0 12 1 + bitsOf (descOf r.desc).arg0 24 13)))) = 0 →
      s.beryl.ops = [] → dirtyIn s [storeRange (descOf r.desc)] = n :: ns → ∃ t, exec (.settingsStore src tag) s = .next t ∧
          (∃ op, t.beryl.ops = [op] ∧ op.begun = true ∧ op.pages = n :: ns) ∧ t.beryl.slots = s.beryl.slots ∧ t.tabs = s.tabs)
  ∧ (∀ s r (p : Port) tag chunk, Issued s r p.val tag 0x0E → s.pwr.st = .boot → checkStatus s r.src (fwStageChecks s r (descOf r.desc)) = 0 →
      bitOf (descOf r.desc).arg0 1 = false → ∃ t, exec (.fwStage (Fin.castSucc p) tag true chunk) s = .next t ∧
          t.sec.staged = .incomplete (stagedBytes s (bitOf (descOf r.desc).arg0 0) ++ fitBytes (descOf r.desc).len chunk)
              ∧ Posted s t p (descOf r.desc) 0 0 ∧ t.sec.active = s.sec.active)
  ∧ (∀ s r (p : Port) tag chunk i, Issued s r p.val tag 0x0E → s.pwr.st = .boot → checkStatus s r.src (fwStageChecks s r (descOf r.desc)) = 0 →
      bitOf (descOf r.desc).arg0 1 = true → i = imageOf s (stagedBytes s (bitOf (descOf r.desc).arg0 0) ++ fitBytes (descOf r.desc).len chunk) →
      ∃ t, exec (.fwStage (Fin.castSucc p) tag true chunk) s = .next t ∧
          t.sec.staged = (if imageFault s i = 0 then .verified i else .nothing)
          ∧ Posted s t p (descOf r.desc) (if imageFault s i = 0 then 0 else if imageFault s i = 1 then 0x0F else 0x10) (if imageFault s i
              = 0 then i.svn else 0)
          ∧ t.sec.active = s.sec.active)
  ∧ (∀ s r (p : Port) tag chunk, Issued s r p.val tag 0x0E → s.pwr.st = .boot → checkStatus s r.src (fwStageChecks s r (descOf r.desc)) = 0 →
      ∃ t, exec (.fwStage (Fin.castSucc p) tag false chunk) s = .next t ∧ Posted s t p (descOf r.desc) 0x0D 0 ∧ t.sec = s.sec)
  ∧ (∀ s r (p : Port) tag, Issued s r p.val tag 0x0F → s.pwr.st = .boot → checkStatus s r.src
      { checksOf .boot (unused r.desc 1 false false false 0) with wrongState := !bitOf (descOf r.desc).arg0 0 && !isVerified s.sec.staged } = 0 →
      ∃ t, exec (.fwActivate (Fin.castSucc p) tag) s = .next t ∧
          t.sec = { s.sec with selected := !bitOf (descOf r.desc).arg0 0 } ∧ Posted s t p (descOf r.desc) 0 0)

/-- TWIN_CONTROL and SCRUB_CONTROL. JOIN without a link keeps the role and waits. LEAVE stops admission and waits for the open writes. PROMOTE
over the sideband makes a FENCED module SOLO, and over a port ring it completes with SIDEBAND_ONLY. DISCARD ends a divergence. PAUSE, RESUME,
RANGE and ABORT_RANGE act on the scrub walker and the RANGE alone. Completion is stated of twinControlJoin, twinControlLeave, twinControlPromote,
twinControlDiscard, scrubControlPause, scrubControlResume, scrubControlRange, scrubControlAbortRange. (12_rings_and_commands R396) -/
def Obligations.PairAndScrubFollowTheirCommands : Prop :=
  (∀ s r (src : Src) tag, Issued s r src.val tag 0x11 → twinIs 0 (descOf r.desc) = true → checkStatus s r.src (twinJoinChecks s r (descOf r.desc))
      = 0 →
      s.pair.linkUp = false → ∃ t, exec (.twinControlJoin src tag) s = .next t ∧
          t.pair.joinCmd = true ∧ t.pair.role = s.pair.role ∧ (∃ x, t.cmds.run = [x] ∧ x.started = true) ∧ t.cache = s.cache ∧ t.tabs = s.tabs)
  ∧ (∀ s r (src : Src) tag, Issued s r src.val tag 0x11 → twinIs 1 (descOf r.desc) = true → s.pair.opens ≠ [] →
      checkStatus s r.src { checksOf .service (twinBad r (descOf r.desc)) with wrongState := decide (s.pair.role ≠ .paired) } = 0 →
      ∃ t, exec (.twinControlLeave src tag) s = .next t ∧
          t.pair.hand = .leaving ∧ t.pair.role = .paired ∧ t.pair.opens = s.pair.opens ∧ (∃ x, t.cmds.run = [x] ∧ x.prog = now s) ∧ t.cache = s.cache)
  ∧ (∀ s r tag, Issued s r 4 tag 0x11 → twinIs 2 (descOf r.desc) = true → checkStatus s r.src (twinPromoteChecks s r (descOf r.desc)) = 0 →
      ∃ t, exec (.twinControlPromote 4 tag) s = .next t ∧ t.pair.role = .solo ∧ isArmed t 4 = false)
  ∧ (∀ s r (p : Port) tag, Issued s r p.val tag 0x11 → twinIs 2 (descOf r.desc) = true → twinBad r (descOf r.desc) = false →
      ∃ t, exec (.twinControlPromote (Fin.castSucc p) tag) s = .next t ∧ t = completeRun s r 0x12 0 [])
  ∧ (∀ s r (src : Src) tag, Issued s r src.val tag 0x11 → twinIs 3 (descOf r.desc) = true →
      checkStatus s r.src { checksOf .service (twinBad r (descOf r.desc)) with unlock := true, wrongState := !s.pair.diverged } = 0 →
      ∃ t, exec (.twinControlDiscard src tag) s = .next t ∧
          t.pair.diverged = false ∧ t.pair.role = s.pair.role ∧ isArmed t (src.val % 8) = false ∧ t.tabs = s.tabs)
  ∧ (∀ s r (p : Port) tag, Issued s r p.val tag 0x15 → scrubIs 0 (descOf r.desc) = true →
      checkStatus s r.src (checksOf .service (unused r.desc 2 false false false 0)) = 0 → ∃ t, exec (.scrubControlPause (Fin.castSucc p) tag) s
          = .next t ∧
          t.drift = { s.drift with pausedAt := some (s.drift.pausedAt.getD (now s)) } ∧ Posted s t p (descOf r.desc) 0 0)
  ∧ (∀ s r (p : Port) tag, Issued s r p.val tag 0x15 → scrubIs 1 (descOf r.desc) = true →
      checkStatus s r.src (checksOf .service (unused r.desc 2 false false false 0)) = 0 → ∃ t, exec (.scrubControlResume (Fin.castSucc p) tag) s
          = .next t ∧
          t.drift = { s.drift with pausedAt := none } ∧ Posted s t p (descOf r.desc) 0 0)
  ∧ (∀ s r (src : Src) tag x, Issued s r src.val tag 0x15 → scrubIs 2 (descOf r.desc) = true →
      checkStatus s r.src (scrubRangeChecks s r (descOf r.desc)) = 0 →
      rangeAt s ⟨r.src, tag, dlnOf (descOf r.desc).addr0, ((descOf r.desc).addr0 + (descOf r.desc).len) / 16384, 0⟩
        = some x → ∃ t, exec (.scrubControlRange src tag) s = .next t ∧
            t.drift.range = some ⟨r.src, tag, dlnOf (descOf r.desc).addr0, ((descOf r.desc).addr0 + (descOf r.desc).len) / 16384, 0⟩
          ∧ t.drift.pausedAt = s.drift.pausedAt ∧ ∃ x, t.cmds.run = [x] ∧ x.started = true)
  ∧ (∀ s r (p : Port) tag g, Issued s r p.val tag 0x15 → scrubIs 3 (descOf r.desc) = true → s.drift.range = some g → (descOf r.desc).tag ≠ g.tag →
      checkStatus s r.src { checksOf .service (unused r.desc 2 false false false 0) with wrongState := s.drift.range.isNone } = 0 →
      ∃ t, exec (.scrubControlAbortRange (Fin.castSucc p) tag) s = .next t ∧
          t.drift = { s.drift with range := none } ∧ Posted s t p (descOf r.desc) 0 0)

/-- Commands that return a buffer. A command from a port that returns a buffer writes it to ADDR0 and completes with SUCCESS and its RESULT, and
leaves the map, the cache and the medium alone. A failed buffer write completes with DMA_ERROR and nothing leaves the module. Completion is stated
of eventRead, counterSnapshot, dumpConfig, healthReport, errorTableRead, identityRead, attest. (09_drift_refresh_and_scrub R284;
12_rings_and_commands R375, R382, R383, R385; 14_faults_and_agate_recorder R439; 15_quartz_counters R454; 18_zircon_ageing_and_thermal R513;
20_identity_firmware_and_attestation R542, R555) -/
def Obligations.BufferCommandsWriteThenComplete : Prop :=
  (∀ s r (p : Port) tag, Issued s r p.val tag 0x0A → checkStatus s r.src (eventReadChecks s r (descOf r.desc)) = 0 →
      (∃ t, exec (.eventRead (Fin.castSucc p) tag true) s = .next t ∧
          t.out = s.out ++ [.dma p.val (descOf r.desc).addr0
            ((eventOut s ((descOf r.desc).arg1 % 2 ^ 40) ((descOf r.desc).len / 32)).1.flatMap (fun a => leBytes 32 (agBits a)))]
          ∧ (ringAt t p.val).wait.length = (ringAt s p.val).wait.length + 1 ∧ t.ag = s.ag ∧ t.tabs = s.tabs)
      ∧ ∃ t, exec (.eventRead (Fin.castSucc p) tag false) s = .next t ∧
          t.out = s.out ∧ Posted s t p (descOf r.desc) 0x0D 0 ∧ t.ag = s.ag)
  ∧ (∀ s r (p : Port) tag, Issued s r p.val tag 0x0B → checkStatus s r.src (outChecks .boot r (descOf r.desc) 0 0 4416) = 0 →
      (∃ t, exec (.counterSnapshot (Fin.castSucc p) tag true) s = .next t ∧
          t.out = s.out ++ [.dma p.val (descOf r.desc).addr0 (dumpRecord s true false)] ∧ Posted s t p (descOf r.desc) 0 (s.qz.dseq % 2 ^ 40)
          ∧ t.qz = { s.qz with dseq := (s.qz.dseq + 1) % 2 ^ 40, lostSince := 0 })
      ∧ ∃ t, exec (.counterSnapshot (Fin.castSucc p) tag false) s = .next t ∧
          t.out = s.out ∧ Posted s t p (descOf r.desc) 0x0D 0 ∧ t.qz = s.qz)
  ∧ (∀ s r (p : Port) tag, Issued s r p.val tag 0x0C → checkStatus s r.src (outChecks .boot r (descOf r.desc) 0 0 8848) = 0 →
      (∃ t, exec (.dumpConfig (Fin.castSucc p) tag true) s = .next t ∧
          (∃ b, t.out = s.out ++ [.dma p.val (descOf r.desc).addr0 b] ∧ b.length = 8848) ∧ Posted s t p (descOf r.desc) 0 1098 ∧ t.tabs = s.tabs
              ∧ t.qz = s.qz)
      ∧ ∃ t, exec (.dumpConfig (Fin.castSucc p) tag false) s = .next t ∧
          t.out = s.out ∧ Posted s t p (descOf r.desc) 0x0D 0 ∧ t.req = s.req)
  ∧ (∀ s r (p : Port) tag, Issued s r p.val tag 0x13 → checkStatus s r.src (outChecks .always r (descOf r.desc) 0 0 256) = 0 →
      (∃ t, exec (.healthReport (Fin.castSucc p) tag true) s = .next t ∧
          t.out = s.out ++ [.dma p.val (descOf r.desc).addr0 (healthBytes s)] ∧ Posted s t p (descOf r.desc) 0 (healthResult s) ∧ t.zir = s.zir)
      ∧ ∃ t, exec (.healthReport (Fin.castSucc p) tag false) s = .next t ∧ t.out = s.out ∧ Posted s t p (descOf r.desc) 0x0D 0)
  ∧ (∀ s r (p : Port) tag, Issued s r p.val tag 0x14 →
      checkStatus s r.src (outChecks .service r (descOf r.desc) 6 0 (if bitOf (descOf r.desc).arg0 5 then 8192 else 256)) = 0 →
      ∃ t, exec (.errorTableRead (Fin.castSucc p) tag true) s = .next t ∧
          t.out = s.out ++ [.dma p.val (descOf r.desc).addr0 ((errEntries s (descOf r.desc)).flatMap (fun e => leBytes 16 (errVal e)))]
          ∧ Posted s t p (descOf r.desc) 0 (errEntries s (descOf r.desc)).length ∧ t.drift = s.drift)
  ∧ (∀ s r (p : Port) tag, Issued s r p.val tag 0x17 → checkStatus s r.src (outChecks .boot r (descOf r.desc) 0 0 4096) = 0 →
      ∃ t, exec (.identityRead (Fin.castSucc p) tag true) s = .next t ∧
          t.out = s.out ++ [.dma p.val (descOf r.desc).addr0 (identityBytes s)] ∧ Posted s t p (descOf r.desc) 0 4096 ∧ t.sec = s.sec)
  ∧ (∀ s r (p : Port) tag, Issued s r p.val tag 0x18 → checkStatus s r.src (attestChecks s r (descOf r.desc)) = 0 →
      ∃ t, exec (.attest (Fin.castSucc p) tag true) s = .next t ∧
          (∃ b, t.out = s.out ++ [.dma p.val (descOf r.desc).addr0 b] ∧ Posted s t p (descOf r.desc) 0 b.length) ∧ t.sec = s.sec
          ∧ t.freeCtr = s.freeCtr + 1)

/-- The mailbox answers from the state it reports. Over a trained link, a mailbox command that R346 marks as available in BOOT answers in BOOT and
in SERVICE; the others answer in SERVICE, and Busy in BOOT. Each of these commands reads only: its one effect is its response, with the fields
that the module gives. Completion is stated of getEventInterruptPolicy, getFwInfo, getTimestamp, getSupportedLogs, getLog, identifyMemoryDevice,
getPartitionInfo, getHealthInfo, getAlertConfiguration, getEventRecords, getShutdownState, getDynamicCapacityConfiguration,
getDynamicCapacityExtentList. (11_host_ports R346, R347, R348, R358; 14_faults_and_agate_recorder R430; 16_power_domains_drain_and_sequencing
R481) -/
def Obligations.MailboxReadsAnswer : Prop :=
  (∀ s (p : Port), (portAt s p.val).linkUp = true → s.pwr.st = .service ∨ s.pwr.st = .boot →
    exec (.getEventInterruptPolicy p) s = .next (emit s (.mbox p 0 [(portAt s p.val).evVec]))
    ∧ exec (.getFwInfo p) s = .next (emit s (.mbox p 0 [2, b2n (isVerified s.sec.staged), b2n s.sec.selected, s.sec.active.version, stagedVer s]))
    ∧ exec (.getTimestamp p) s = .next (emit s (.mbox p 0 [(now s + (portAt s p.val).tsOff) % 2 ^ 64]))
    ∧ (∃ n, exec (.getSupportedLogs p) s = .next (emit s (.mbox p 0 [1, n])))
    ∧ (∃ l, l.length = 20 ∧ exec (.getLog p true) s = .next (emit s (.mbox p 0 l)))
    ∧ exec (.getLog p false) s = .next (emit s (.mbox p 3 []))
    ∧ exec (.identifyMemoryDevice p) s = .next (emit s (.mbox p 0 [s.sec.active.version, capacity s.sec.variant, 0, 0, 0, 0]))
    ∧ exec (.getPartitionInfo p) s = .next (emit s (.mbox p 0 [0, 0, 0, 0]))
    ∧ exec (.getHealthInfo p) s = .next (emit s (.mbox p 0 [healthStatus s, mediaStatus s, addStatus s p.val, 100 - s.zir.remPct,
        (devTemp s / 4 + 65536).toNat % 65536, dsCount s, sumOf (fun n => (sliceAt s n).ceTotal) (List.range 8), ceSum s]))
    ∧ exec (.getAlertConfiguration p) s = .next (emit s (.mbox p 0
        [(portAt s p.val).alertLife, (portAt s p.val).alertTemp, (portAt s p.val).alertCe]))
    ∧ ∀ log : Fin 5, exec (.getEventRecords p log) s = .next (emit s (.mbox p 0
        (((portAt s p.val).logs.filter (fun x => x.1 = log.val)).map (fun x => agBits x.2)))))
  ∧ (∀ s (p : Port), (portAt s p.val).linkUp = true → s.pwr.st = .service →
    exec (.getShutdownState p) s = .next (emit s (.mbox p 0 [b2n (decide (shutCode s = 0) && decide (pgGet s pgShutdown 54 54 = 0))]))
    ∧ exec (.getDynamicCapacityConfiguration p) s = .next (emit s (.mbox p 0 [1, 0, capacity s.sec.variant, 2 ^ 28, 1]))
    ∧ ∃ l, exec (.getDynamicCapacityExtentList p) s
        = .next (emit s (.mbox p 0 ((portAt s p.val).extGen :: (portAt s p.val).exts.length :: l))))
  ∧ (∀ s (p : Port), (portAt s p.val).linkUp = true → s.pwr.st = .boot →
    ∀ c ∈ [Instr.getShutdownState p, .setShutdownState p true, .setShutdownState p false, .getDynamicCapacityConfiguration p,
      .getDynamicCapacityExtentList p], exec c s = .next (emit s (.mbox p 1 [])))

/-- What the mailbox sets. Set Event Interrupt Policy, Set Timestamp and Set Alert Configuration change their port's own settings, and Set
Timestamp leaves TIME; the other ports keep all of theirs. A host's shutdown state stands in its settings page and leaves SHUT. An offered extent
is accepted once; a decline changes nothing. A release that is not of whole blocks is refused; one of an extent that a second owner port's host
still holds unmaps nothing. Clearing the record of the latched contained fault acknowledges the fault; clearing another record leaves the latch.
Completion is stated of setEventInterruptPolicy, setTimestamp, setAlertConfiguration, setShutdownState, addDynamicCapacityResponse,
releaseDynamicCapacity, clearEventRecords. (11_host_ports R346, R348, R351; 14_faults_and_agate_recorder R430;
16_power_domains_drain_and_sequencing R481) -/
def Obligations.MailboxWritesSetTheirPort : Prop :=
  (∀ s (p : Port) (v : Fin 16), (portAt s p.val).linkUp = true → s.pwr.st = .service ∨ s.pwr.st = .boot →
    ∃ t, exec (.setEventInterruptPolicy p v) s = .next t ∧
        portAt t p.val = { portAt s p.val with evVec := v.val }
      ∧ t.out = (emit s (.mbox p 0 [])).out ∧ ∀ q, q ≠ p.val → portAt t q = portAt s q)
  ∧ (∀ s (p : Port) (ts : BitVec 64), (portAt s p.val).linkUp = true → s.pwr.st = .service ∨ s.pwr.st = .boot →
    ∃ t, exec (.setTimestamp p ts) s = .next t ∧
        (now t + (portAt t p.val).tsOff) % 2 ^ 64 = ts.toNat ∧ t.pwr = s.pwr
      ∧ ∀ q, q ≠ p.val → portAt t q = portAt s q)
  ∧ (∀ s (p : Port) a b c, (portAt s p.val).linkUp = true → s.pwr.st = .service ∨ s.pwr.st = .boot →
    ∃ t, exec (.setAlertConfiguration p a b c) s = .next t ∧
        portAt t p.val = { portAt s p.val with alertLife := a, alertTemp := b, alertCe := c }
      ∧ ∀ q, q ≠ p.val → portAt t q = portAt s q)
  ∧ (∀ s (p : Port) clean, (portAt s p.val).linkUp = true → s.pwr.st = .service →
    ∃ t, exec (.setShutdownState p clean) s = .next t ∧
        pgGet t pgShutdown 54 54 = b2n (!clean) ∧ shutCode t = shutCode s
      ∧ t.ports = s.ports ∧ t.tabs = s.tabs)
  ∧ (∀ s (p : Port) (i : Fin 64), (portAt s p.val).linkUp = true → s.pwr.st = .service →
      (extAt s p.val i.val).offered = true → (extAt s p.val i.val).accepted = false →
      (∃ t, exec (.addDynamicCapacityResponse p i true) s = .next t ∧
          (extAt t p.val i.val).accepted = true ∧ (∀ q, q ≠ p.val → portAt t q = portAt s q)
          ∧ t.tabs = s.tabs ∧ t.out = (emit s (.mbox p 0 [])).out)
      ∧ exec (.addDynamicCapacityResponse p i false) s = .next (emit s (.mbox p 0 [])))
  ∧ (∀ s (p : Port) dpa len, (portAt s p.val).linkUp = true → s.pwr.st = .service → dpa % 2 ^ 28 ≠ 0 ∨ len % 2 ^ 28 ≠ 0 ∨ len = 0 →
      exec (.releaseDynamicCapacity p dpa len) s = .next (emit s (.mbox p 3 [])))
  ∧ (∀ s (p q : Port) i w, (portAt s p.val).linkUp = true → s.pwr.st = .service → s.tabs.wells = [(i, w)] → w.live = true → 0 < w.size →
      (extAt s p.val i).accepted = true → (extAt s p.val i).released = [] → q ≠ p → w.mask.getLsbD q.val = true →
      (extAt s q.val i).accepted = true → (extAt s q.val i).released = [] → Quiescent s →
      ∃ t, exec (.releaseDynamicCapacity p (w.base * 2 ^ 28) (w.size * 2 ^ 28)) s = .next t ∧
          (extAt t p.val i).accepted = false ∧ (portAt t p.val).extGen = (portAt s p.val).extGen + 1 ∧ t.tabs = s.tabs ∧ t.med = s.med
          ∧ .mbox p 0 [] ∈ t.out)
  ∧ (∀ s (p : Port) i w, (portAt s p.val).linkUp = true → s.pwr.st = .service → s.tabs.wells = [(i, w)] → w.live = true → 0 < w.size →
      (extAt s p.val i).accepted = true → ∃ t, exec (.releaseDynamicCapacity p (w.base * 2 ^ 28) (w.size * 2 ^ 28)) s = .next t ∧
          .mbox p 0 [] ∈ t.out ∧ t.th = s.th)
  ∧ (∀ s (p : Port) x (log : Fin 5), (portAt s p.val).linkUp = true → s.pwr.st = .service ∨ s.pwr.st = .boot →
      (portAt s p.val).logs = [(log.val, x)] → log.val ≠ 4 → ofLatch s.flt.uc x = true →
      ∃ t, exec (.clearEventRecords p log [x.seq]) s = .next t ∧
          (portAt t p.val).logs = [] ∧ t.flt.uc.valid = false ∧ t.flt.ce = s.flt.ce)
  ∧ (∀ s (p : Port) x (log : Fin 5), (portAt s p.val).linkUp = true → s.pwr.st = .service ∨ s.pwr.st = .boot →
      (portAt s p.val).logs = [(log.val, x)] → ofLatch s.flt.uc x = false →
      ∃ t, exec (.clearEventRecords p log [x.seq]) s = .next t ∧ (portAt t p.val).logs = [] ∧ t.flt = s.flt)

/-- The SPDM responder. The five requests that need no identity key are answered on every open transport. CHALLENGE, GET_MEASUREMENTS and
KEY_EXCHANGE are signed while D01 is on, and answer Busy while it is off. A KEY_EXCHANGE beyond the limit of its transport, or while entropy
health has failed, answers Busy; within it, it opens a session, which FINISH establishes, KEY_UPDATE carries to its next keys and END_SESSION
ends. The codes are SPDM's own (log entry 31). Completion is stated of getVersion, getCapabilities, negotiateAlgorithms, getDigests,
getCertificate, challenge, getMeasurements, keyExchange, finish, keyUpdate, endSession. (11_host_ports R363; 20_identity_firmware_and_attestation
R543, R546, R553, R554) -/
def Obligations.SpdmRequestsAreAnswered : Prop :=
  (∀ s v, viaOpen s v = true →
    exec (.getVersion v) s = .next (emit s (.spdm v true 0x84 [0x12]))
    ∧ (∃ b, exec (.getCapabilities v) s = .next (emit s (.spdm v true 0xE1 b)))
    ∧ exec (.negotiateAlgorithms v true) s = .next (emit s (.spdm v true 0xE3 []))
    ∧ exec (.negotiateAlgorithms v false) s = .next (emit s (.spdm v false 1 []))
    ∧ (∃ b, b.length = 64 ∧ exec (.getDigests v) s = .next (emit s (.spdm v true 0x81 b)))
    ∧ (∀ off len, ∃ b, b.length = min len (Config.chainLen - off) ∧ exec (.getCertificate v 0 off len) s = .next (emit s (.spdm v true 0x82 b)))
    ∧ ∀ (k : Fin 8) off len, k ≠ 0 → exec (.getCertificate v k off len) s = .next (emit s (.spdm v false 1 [])))
  ∧ (∀ s v n, viaOpen s v = true → domOn s 1 = false →
    exec (.challenge v 0 n) s = .next (emit s (.spdm v false 3 [])) ∧ (∀ i, exec (.getMeasurements v i n) s = .next (emit s (.spdm v false 3 [])))
      ∧ ∀ id, exec (.keyExchange v id) s = .next (emit s (.spdm v false 3 [])))
  ∧ (∀ s v n, viaOpen s v = true → domOn s 1 = true →
    (∃ b, exec (.challenge v 0 n) s = .next (bump (emit s (.spdm v true 0x83 b))))
    ∧ (∀ i, i.toNat ≤ 5 ∨ i.toNat = 0xFF → ∃ b, exec (.getMeasurements v i n) s = .next (bump (emit s (.spdm v true 0xE0 b))))
    ∧ (∃ sig, sig.length = 512 ∧ exec (.getMeasurements v 3 n) s = .next (bump (emit s (.spdm v true 0xE0
        (leBytes 1 s.sec.f ++ leBytes 1 s.sec.lifecycle ++ leBytes 1 s.sec.revoked.toNat ++ leBytes 2 (stagedSvn s) ++ sig))))))
  ∧ (∀ s v id, viaOpen s v = true → domOn s 1 = true → sessionMax v ≤ (sessionsAt s v).length ∨ s.sec.entropyOk = false →
      exec (.keyExchange v id) s = .next (emit s (.spdm v false 3 [])))
  ∧ (∀ s v id, viaOpen s v = true → domOn s 1 = true → (sessionsAt s v).length < sessionMax v → s.sec.entropyOk = true →
      (∀ x ∈ sessionsAt s v, x.id ≠ id) → ∃ t, exec (.keyExchange v id) s = .next t ∧
          sessionsAt t v = sessionsAt s v ++ [{ id := id, established := false, keyGen := 0 }] ∧ t.pwr = s.pwr ∧ t.keys = s.keys ∧ t.med = s.med)
  ∧ (∀ s v id k, viaOpen s v = true → domOn s 1 = true → sessionsAt s v = [{ id := id, established := false, keyGen := k }] →
      (∃ t, exec (.finish v id true) s = .next t ∧ sessionsAt t v = [{ id := id, established := true, keyGen := k }])
      ∧ exec (.finish v id false) s = .next (emit s (.spdm v false 1 []))
      ∧ exec (.keyUpdate v id) s = .next (emit s (.spdm v false 2 [])))
  ∧ (∀ s v id k, viaOpen s v = true → domOn s 1 = true → sessionsAt s v = [{ id := id, established := true, keyGen := k }] →
      (∃ t, exec (.keyUpdate v id) s = .next t ∧ sessionsAt t v = [{ id := id, established := true, keyGen := k + 1 }])
      ∧ ∃ t, exec (.endSession v id) s = .next t ∧ sessionsAt t v = [])

/-- IDE keys are programmed over secured sessions of the port's own mailbox. Inside an established session of the port's DOE mailbox, KEY_PROG
stores one key, K_SET_GO makes a stream secure under a key set that holds both directions' keys, K_SET_STOP of the set in force makes it insecure,
and GET_KEY draws a key, Busy while entropy health has failed. Outside such a session every message is an error, and over the sideband too.
Completion is stated of query, keyProg, kSetGo, kSetStop, getKey. (20_identity_firmware_and_attestation R546, R556) -/
def Obligations.IdeKeysNeedSecuredSessions : Prop :=
  (∀ s (p : Port) id, (portAt s p.val).linkUp = true → secured s (.doe p) id = true →
    (∃ b, exec (.query (.doe p) id) s = .next (emit s (.spdm (.doe p) true 0xFE [b])))
    ∧ (∀ mem tx kset key, ∃ t, exec (.keyProg (.doe p) id mem tx kset key) s = .next t ∧
        sGet 0 (portAt t p.val).ideKeys (ideIx mem tx kset) = key.toNat + 1
          ∧ (∀ k, k ≠ ideIx mem tx kset → sGet 0 (portAt t p.val).ideKeys k = sGet 0 (portAt s p.val).ideKeys k)
          ∧ (portAt t p.val).ideMem = (portAt s p.val).ideMem ∧ ∀ q, q ≠ p.val → portAt t q = portAt s q)
    ∧ (∀ mem kset, keysReady (portAt s p.val) mem kset = true → ∃ t, exec (.kSetGo (.doe p) id mem kset) s = .next t ∧
        (if mem then (portAt t p.val).ideMem = true ∧ (portAt t p.val).ksetMem = kset ∧ (portAt t p.val).ideIo = (portAt s p.val).ideIo
         else (portAt t p.val).ideIo = true ∧ (portAt t p.val).ksetIo = kset ∧ (portAt t p.val).ideMem = (portAt s p.val).ideMem)
          ∧ (portAt t p.val).ideKeys = (portAt s p.val).ideKeys ∧ ∀ q, q ≠ p.val → portAt t q = portAt s q)
    ∧ (∀ mem kset, keysReady (portAt s p.val) mem kset = false →
        exec (.kSetGo (.doe p) id mem kset) s = .next (emit s (.spdm (.doe p) false 1 [])))
    ∧ (∃ t, exec (.kSetStop (.doe p) id true (portAt s p.val).ksetMem) s = .next t ∧
        (portAt t p.val).ideMem = false ∧ (portAt t p.val).ideIo = (portAt s p.val).ideIo)
    ∧ (∃ t, exec (.kSetStop (.doe p) id false (portAt s p.val).ksetIo) s = .next t ∧
        (portAt t p.val).ideIo = false ∧ (portAt t p.val).ideMem = (portAt s p.val).ideMem)
    ∧ (s.sec.entropyOk = true → ∃ b, b.length = 32 ∧ exec (.getKey (.doe p) id) s = .next (bump (emit s (.spdm (.doe p) true 0xFE b))))
    ∧ (s.sec.entropyOk = false → exec (.getKey (.doe p) id) s = .next (emit s (.spdm (.doe p) false 3 []))))
  ∧ (∀ s (p : Port) id, (portAt s p.val).linkUp = true → secured s (.doe p) id = false → ∀ mem tx kset key,
    ∀ c ∈ [Instr.query (.doe p) id, .keyProg (.doe p) id mem tx kset key, .kSetGo (.doe p) id mem kset, .kSetStop (.doe p) id mem kset, .getKey
        (.doe p) id],
      exec c s = .next (emit s (.spdm (.doe p) false 2 [])))
  ∧ (∀ s id, s.pwr.st ≠ .off → ∀ mem tx kset key,
    ∀ c ∈ [Instr.query .sideband id, .keyProg .sideband id mem tx kset key, .kSetGo .sideband id mem kset, .kSetStop .sideband id mem kset, .getKey
        .sideband id],
      exec c s = .next (emit s (.spdm .sideband false 1 [])))

/-- What JTAG may reach. Outside SERVICE, and without JTAG_MEM, JTAG reads zero and writes nothing. An access in no well or in a PROTECTED well is
blocked: it reads zero, writes nothing, sets JTAG_BLK and is recorded. With JTAG_MEM, an access elsewhere reads and writes the line. The sequencer
test mode is entered, used and left in STANDBY with JTAG_TEST, and refused otherwise. Completion is stated of jtagMemAccess, jtagTestMode.
(16_power_domains_drain_and_sequencing R472; 20_identity_firmware_and_attestation R559) -/
def Obligations.JtagReachesWhatItMay : Prop :=
  (∀ s dpa data res, s.pwr.st ≠ .off →
      s.pwr.st ≠ .service ∨ (regB s .security 0 7 0 = false ∧ ∃ i w, wellAt s.tabs.wells dpa = some (i, w) ∧ w.prot = false) →
      exec (.jtagMemAccess .read dpa data res) s = .next (emit s (.jtag 0)) ∧ exec (.jtagMemAccess .write dpa data res) s = .next s)
  ∧ (∀ s dpa data res, s.pwr.st = .service →
      wellAt s.tabs.wells dpa = none ∨ (∃ i w, wellAt s.tabs.wells dpa = some (i, w) ∧ w.prot = true) → ∀ op,
      ∃ t, exec (.jtagMemAccess op dpa data res) s = .next t ∧
          t = (match op with
        | .read => emit (flagSec (noteEv s srcSec 0x01B2 0 0 0) 2) (.jtag 0)
        | .write => flagSec (noteEv s srcSec 0x01B2 0 0 0) 2) ∧ t.cache = s.cache ∧ t.med = s.med ∧ t.tabs = s.tabs)
  ∧ (∀ s dpa data res i w, regB s .security 0 7 0 = true → s.pwr.st = .service → s.pair.role = .unpaired → s.cmds.sanitizing = false →
      wellAt s.tabs.wells dpa = some (i, w) → w.prot = false →
      exec (.jtagMemAccess .read dpa data res) s = .next (emit (readRaw s (dlnOf dpa) res res).1 (.jtag (rawData (readRaw s (dlnOf dpa) res res).2)))
      ∧ (∀ k x, s.cache.ways = [(k, x)] → x.v = true → x.dln = dlnOf dpa → s.cache.upset = [] →
          exec (.jtagMemAccess .read dpa data res) s = .next (emit s (.jtag x.data)))
      ∧ ∀ k x, findWay s (dlnOf dpa) = some (k, x) → isHome s (ltnOf (dlnOf dpa)) = true → handHolds s (ltnOf (dlnOf dpa)) = false →
          s.cist.waits = [] → s.cmds.hold = [] → s.cache.upset = [] → lockHeld s (dlnOf dpa) = false →
          ∃ t, exec (.jtagMemAccess .write dpa data res) s = .next t ∧
              (∃ w, findWay t (dlnOf dpa) = some (k, w) ∧ w.data = data ∧ w.d = true) ∧ t.tabs = s.tabs ∧ t.med = s.med)
  ∧ (∀ s, s.pwr.st = .standby → regB s .security 0 7 1 = true →
      exec (.jtagTestMode .enter) s = .next (emit { s with pwr := { s.pwr with testMode := true } } (.jtagTest true)))
  ∧ (∀ s (d : Domain) on, s.pwr.st = .standby → regB s .security 0 7 1 = true → s.pwr.testMode = true → d.val ≠ 0 → 
      ∃ t, exec (.jtagTestMode (.drive d on)) s = .next t ∧
          domOn t d.val = on ∧ (∀ e, e ≠ d.val → domAt t e = domAt s e) ∧ t.pwr.st = .standby)
  ∧ (∀ s, s.pwr.st = .standby → regB s .security 0 7 1 = true → ∃ t, exec (.jtagTestMode .leave) s = .next t ∧
        t.pwr.testMode = false ∧ t.pwr.st = .standby ∧ t.ports = s.ports ∧ t.med = s.med)
  ∧ (∀ s x, s.pwr.st ≠ .off → s.pwr.st ≠ .standby ∨ regB s .security 0 7 1 = false → exec (.jtagTestMode x) s = .next (emit s (.jtagTest false)))

/-- Reads of the register file. A slot that no block decodes reads zero. A read that covers bits 19:0 answers the two words and clears the slot's
RC fields; JTAG and a port's upper half clear nothing; another size or alignment reads zero. Reading TIME[0], NEW_SEQ_LO and CTR_LO latches the
rest of the value for the requester alone. Completion is stated of rcRead, timeLatchRead, newSeqRead, ctrLoRead. (13_register_conventions_and_map
R400, R402, R410, R413, R422; 14_faults_and_agate_recorder R444; 15_quartz_counters R450) -/
def Obligations.ReadsAnswerLatchAndClear : Prop :=
  (∀ s (r : Requester) (off : BitVec 20) size, reqReaches s r.val = true → slotOf off.toNat = none →
      exec (.rcRead r off size) s = .next (emit s (.regRead r 0)))
  ∧ (∀ s (p : Port) (off : BitVec 20) b i slot, reqReaches s p.val = true → off.toNat % 8 = 0 → slotOf off.toNat = some (b, i, slot) →
      slotAnswers s b i slot = true → ∃ t, exec (.rcRead (p.castLE (by decide)) off 8) s = .next t ∧
          .regRead (p.castLE (by decide)) (BitVec.ofNat 40 (regRead s p.val b i slot)) ∈ t.out ∧ (cellAt t b i slot).rc = 0
          ∧ (cellAt t b i slot).act = (cellAt s b i slot).act ∧ t.pwr = s.pwr ∧ t.tabs = s.tabs)
  ∧ (∀ s (off : BitVec 20) size b i slot, s.pwr.st ≠ .off → slotOf off.toNat = some (b, i, slot) →
      ∃ t, exec (.rcRead 5 off size) s = .next t ∧
          .regRead 5 (BitVec.ofNat 40 (regRead s 5 b i slot)) ∈ t.out ∧ t.regs = s.regs ∧ t.flt = s.flt)
  ∧ (∀ s (p : Port) (off : BitVec 20) b i slot, reqReaches s p.val = true → off.toNat % 8 = 4 → slotOf off.toNat = some (b, i, slot) →
      exec (.rcRead (p.castLE (by decide)) off 4) s
        = .next (emit s (.regRead (p.castLE (by decide)) (BitVec.ofNat 40 (regRead s p.val b i slot / 2 ^ 32)))))
  ∧ (∀ s (p : Port) (off : BitVec 20) size, reqReaches s p.val = true → size ≠ 8 → size ≠ 4 →
      exec (.rcRead (p.castLE (by decide)) off size) s = .next (emit s (.regRead (p.castLE (by decide)) 0)))
  ∧ (∀ s (r : Requester), reqReaches s r.val = true → slotAnswers s .global 0 10 = true → ∃ t, exec (.timeLatchRead r) s = .next t ∧
        sGet 0 t.req.time r.val = now s ∧ (∀ q, q ≠ r.val → sGet 0 t.req.time q = sGet 0 s.req.time q) ∧ t.pwr = s.pwr)
  ∧ (∀ s (r : Requester), reqReaches s r.val = true → slotAnswers s .agate 0 1 = true → ∃ t, exec (.newSeqRead r) s = .next t ∧
        sGet (0, 0, 0) t.req.seqs r.val = agSeqs s ∧ (∀ q, q ≠ r.val → sGet (0, 0, 0) t.req.seqs q = sGet (0, 0, 0) s.req.seqs q) ∧ t.ag = s.ag)
  ∧ (∀ s (r : Requester), reqReaches s r.val = true → slotAnswers s .quartz 0 9 = true → ∃ t, exec (.ctrLoRead r) s = .next t ∧
        sGet 0 t.req.ctrHi r.val = shownCtr s (ctrSel s) / 2 ^ 20 ∧ (∀ q, q ≠ r.val → sGet 0 t.req.ctrHi q = sGet 0 s.req.ctrHi q) ∧ t.qz = s.qz)

/-- The unlock and the writes it guards. The key arms the writer's unlock for 100 ms and no other's; any other value disarms it and sets
LOCK_VIOL; at the end of the window it is disarmed with no flag. A guarded write without the unlock changes nothing but LOCK_VIOL; with it and
without its EXPERT_EN bit it consumes the unlock and sets EXPERT_VIOL; an armed write of EXPERT_EN takes effect and consumes the unlock. A write
of a slot that no block decodes, or of DBG_CTL from JTAG, changes nothing, and one of another size or alignment sets ACC_ERR. Completion is stated
of unlock, unlockExpire, regWrite. (13_register_conventions_and_map R400, R401, R413, R414, R415, R416, R421; 20_identity_firmware_and_attestation
R559) -/
def Obligations.GuardedWritesNeedTheUnlock : Prop :=
  (∀ s (r : Requester), reqReaches s r.val = true → s.pwr.st ≠ .off → ∃ t, exec (.unlock r 0x6B1D4) s = .next t ∧
        isArmed t r.val = true ∧ sGet 0 t.req.armed r.val = now s + 100000001 ∧ (∀ q, q ≠ r.val → isArmed t q = isArmed s q)
        ∧ t.regs = s.regs)
  ∧ (∀ s (r : Requester) (v : BitVec 64), reqReaches s r.val = true → s.pwr.st ≠ .off → v.toNat < 2 ^ 20 → v.toNat ≠ 0x6B1D4 →
      ∃ t, exec (.unlock r v) s = .next t ∧
          isArmed t r.val = false ∧ bitOf (cellAt t .global 0 16).rc.toNat 0 = true
        ∧ (∀ q, q ≠ r.val → isArmed t q = isArmed s q))
  ∧ (∀ s (r : Requester), isArmed s r.val = true → exec (.unlockExpire r) s = .next s)
  ∧ (∀ s (r : Requester), isArmed s r.val = false → ∃ t, exec (.unlockExpire r) s = .next t ∧
        sGet 0 t.req.armed r.val = 0 ∧ t.regs = s.regs)
  ∧ (∀ s (r : Requester) (off : BitVec 20) (v : BitVec 64) b i slot, reqReaches s r.val = true → coverOf r.val off.toNat 8 = .whole →
      slotOf off.toNat = some (b, i, slot) → domOn s (blkDom b i) = true → b ≠ .security → wrMask v.toNat &&& rwkMask b slot ≠ 0 →
      (isArmed s r.val = false → ∃ t, exec (.regWrite r off 8 v) s = .next t ∧
          t = violation s 0 r.val off.toNat ∧ bitOf (cellAt t .global 0 16).rc.toNat 0 = true ∧ t.req.armed = s.req.armed)
      ∧ (isArmed s r.val = true → expertOk s b slot (wrMask v.toNat) = false → ∃ t, exec (.regWrite r off 8 v) s = .next t ∧
          t = violation (disarm s r.val) 1 r.val off.toNat ∧ isArmed t r.val = false ∧ bitOf (cellAt t .global 0 16).rc.toNat 1 = true))
  ∧ (∀ s (r : Requester) (v : BitVec 64), reqReaches s r.val = true → s.pwr.st ≠ .off → isArmed s r.val = true → v.toNat < 2 ^ 18 →
      ∃ t, exec (.regWrite r (18 * 8) 8 v) s = .next t ∧
          (∀ k, k < 18 → expertEn t k = bitOf v.toNat k) ∧ isArmed t r.val = false ∧ pgGet t pgSettings 17 0 = v.toNat ∧ t.tabs = s.tabs)
  ∧ (∀ s (p : Port) (off : BitVec 20) size v, reqReaches s p.val = true → size ≠ 8 ∨ off.toNat % 8 ≠ 0 →
      ∃ t, exec (.regWrite (p.castLE (by decide)) off size v) s = .next t ∧
          t = violation s 2 p.val off.toNat ∧ bitOf (cellAt t .global 0 16).rc.toNat 2 = true)
  ∧ (∀ s (off : BitVec 20) v, reqReaches s 4 = true → slotOf off.toNat = none → exec (.regWrite 4 off 8 v) s = .next s)
  ∧ (∀ s v, exec (.regWrite 5 0x12038 8 v) s = .next s)

/-- Fields whose write acts. Over the sideband, with its block's domain on, a write of 1 to an action field takes that field's effect at once, and
nothing where the field's bit is not written 1. A latch group FT is not acknowledged, and JTAG acknowledges no contained fault. Completion is
stated of lastgaspAck, flush, store, ack, inject, freeze, thaw, clear, dumpHead, ckptNow, replanNow, testNow, accept, advNow, wayDis. (07_tile_map
R225; 14_faults_and_agate_recorder R430, R438, R443; 15_quartz_counters R446, R449; 18_zircon_ageing_and_thermal R501, R505, R509;
19_beryl_settings_store R528; 20_identity_firmware_and_attestation R551) -/
def Obligations.ActionFieldsTakeEffect : Prop :=
  (∀ s, s.pwr.st ≠ .off →
    (∃ t, exec (.lastgaspAck 4 0x20000) s = .next t ∧ t.req.gaspValid = false ∧ t.req.viol = s.req.viol ∧ t.pwr = s.pwr)
    ∧ (unflushedPages s ≠ [] → ∃ t, exec (.flush 4 0x100001) s = .next t ∧
        t.beryl.nextOp = s.beryl.nextOp + 1 ∧ t.flt = s.flt ∧ t.tabs = s.tabs)
    ∧ (unflushedPages s = [] → ∃ t, exec (.flush 4 0x100001) s = .next t ∧ t.ag = s.ag ∧ t.beryl = s.beryl)
    ∧ (∃ t, exec (.store 4 1) s = .next t ∧ t.beryl.nextOp = s.beryl.nextOp + 1 ∧ t.beryl.slots = s.beryl.slots ∧ t.tabs = s.tabs))
  ∧ (∀ s, s.pwr.st ≠ .off → domOn s 1 = true →
    (∃ t, exec (.ack 4 0 0x10000) s = .next t ∧ t.flt.ce.valid = false ∧ t.flt.uc = s.flt.uc ∧ t.flt.ft = s.flt.ft)
    ∧ (∃ t, exec (.ack 4 1 0x10000) s = .next t ∧ t.flt.uc.valid = false ∧ t.flt.ce = s.flt.ce ∧ t.flt.ft = s.flt.ft)
    ∧ (∃ t, exec (.ack 4 2 0x10000) s = .next t ∧ t.flt = s.flt)
    ∧ (∃ t, exec (.ack 5 1 0x10000) s = .next t ∧ t.flt = s.flt)
    ∧ (3 ≤ codeClass (regF s .fault 0 42 15 0) → ∃ t, exec (.inject 4 1) s = .next t ∧ t.flt = s.flt ∧ t.ag = s.ag)
    ∧ (codeClass (regF s .fault 0 42 15 0) = 2 → escalating (regF s .fault 0 42 15 0) = true → s.flt.uc.valid = false → ∃ t, exec (.inject 4 1) s
        = .next t ∧
        t.flt.uc.valid = true ∧ t.flt.uc.code = regF s .fault 0 42 15 0 ∧ t.flt.uc.source = srcFault ∧ t.pwr.st = s.pwr.st)
    ∧ (∃ t, exec (.freeze 4 1) s = .next t ∧ t.qz.frozen = true ∧ t.qz.frzTime = now s ∧ t.qz.ctr = s.qz.ctr)
    ∧ (∃ t, exec (.thaw 4 2) s = .next t ∧ t.qz.frozen = false ∧ t.qz.ctr = s.qz.ctr)
    ∧ (∃ t, exec (.clear 4 1) s = .next t ∧ t.qz.ctr = [] ∧ t.qz.hist = [] ∧ t.qz.ovf = [] ∧ t.med = s.med)
    ∧ (∀ v : BitVec 64, v.toNat < 256 → ∃ t, exec (.dumpHead 4 v) s = .next t ∧ regF t .quartz 0 16 7 0 = v.toNat ∧ t.qz = s.qz)
    ∧ (∃ t, exec (.ckptNow 4 0x800008000) s = .next t ∧ t.mapu.ckptNow = true ∧ t.mapu.ckptReq = s.mapu.ckptReq ∧ t.tabs = s.tabs)
    ∧ (∃ t, exec (.replanNow 4 0x2000020) s = .next t ∧ 7 ∈ t.zir.waiting ∧ t.zir.pend = s.zir.pend)
    ∧ (∃ t, exec (.testNow 4 0x4000040) s = .next t ∧ t.zir.testReq = true ∧ t.zir.waiting = s.zir.waiting)
    ∧ (∀ v : BitVec 64, s.zir.pend = planInit → v.toNat < 32 → v ≠ 0 → ∃ t, exec (.accept 4 (v ||| 0x1F00000)) s = .next t ∧
        t.zir.pend = planInit ∧ t.zir.floor = s.zir.floor ∧ t.drift = s.drift)
    ∧ (∀ f, s.zir.pend = { planInit with floor := some f } → ∃ t, exec (.accept 4 0x1000010) s = .next t ∧
        t.zir.pend = planInit ∧ t.zir.floor = f)
    ∧ (s.sec.advPending = true → ∃ t, exec (.advNow 4 0x200002) s = .next t ∧
        t.sec = { s.sec with advPending := false, blowing := true })
    ∧ (s.sec.advPending = false → ∃ t, exec (.advNow 4 0x200002) s = .next t ∧ t.sec = s.sec))
  ∧ (∀ s (n : Slice) w, s.pwr.st ≠ .off → domOn s (8 + n.val) = true → w < 16 → isArmed s 4 = true → expertOk s .cache 1 (2 ^ w) = true →
      (sliceAt s n.val).retired = false → 12 < countP (fun k => wayUsable s n.val k) (List.range 16) → regB s .cache n.val 1 w = false →
      ∃ t, exec (.wayDis 4 n (BitVec.ofNat 64 (2 ^ w + 2 ^ (20 + w)))) s = .next t ∧
          (∃ k, (w, k) ∈ (sliceAt t n.val).disabling) ∧ isArmed t 4 = false ∧ t.cache.ways = s.cache.ways)

/-- Ring registers and apply points. CMD_TAIL and CPL_HEAD take the written index, and a tail outside the ring is not taken. EN of 1 becomes
active at a quiet point and starts the ring with all indexes zero; EN of 0 stops it. A JOIN_EN that becomes 1 with the link ACTIVE and the role
UNPAIRED starts JOINING. At an apply point the pending value of every field that waits for it becomes active, and no other; a point of a block
whose domain is off does nothing. Completion is stated of cmdTail, cplHead, ringEnable, ringDisable, regApply. (10_spinel_twin_pair R323;
12_rings_and_commands R368, R369, R391; 13_register_conventions_and_map R404, R405, R406) -/
def Obligations.RingRegistersAndApplyPoints : Prop :=
  (∀ s (p : Port) (v : BitVec 64), s.pwr.st ≠ .off → domOn s (2 + p.val) = true → v.toNat < 4096 →
    (ringAt s p.val).tail < 4096 → (ringAt s p.val).cplHead < 4096 →
    (v.toNat < cmdSize s p.val → ∃ t, exec (.cmdTail 4 p v) s = .next t ∧
        (ringAt t p.val) = { ringAt s p.val with tail := v.toNat } ∧ (∀ q, q ≠ p.val → ringAt t q = ringAt s q))
    ∧ (cmdSize s p.val ≤ v.toNat → ∃ t, exec (.cmdTail 4 p v) s = .next t ∧
        t.rings = s.rings ∧ bitOf (cellAt t .ring p.val 11).rc.toNat 3 = true)
    ∧ ∃ t, exec (.cplHead 4 p v) s = .next t ∧
        (ringAt t p.val) = { ringAt s p.val with cplHead := v.toNat } ∧ (∀ q, q ≠ p.val → ringAt t q = ringAt s q))
  ∧ (∀ s (p : Port), domOn s (2 + p.val) = true → regB s .ring p.val 7 0 = false → bitOf (cellAt s .ring p.val 7).pend.toNat 0 = true →
      ∃ t, exec (.ringEnable p) s = .next t ∧
          regB t .ring p.val 7 0 = true ∧ (ringAt t p.val).enabled = true ∧ (ringAt t p.val).head = 0
        ∧ (ringAt t p.val).tail = 0 ∧ (ringAt t p.val).cplHead = 0 ∧ (ringAt t p.val).cplTail = 0 ∧ (ringAt t p.val).ph = true ∧ t.cmds = s.cmds)
  ∧ (∀ s (p : Port), domOn s (2 + p.val) = true → regB s .ring p.val 7 0 = true → bitOf (cellAt s .ring p.val 7).pend.toNat 0 = false →
      ∃ t, exec (.ringDisable p) s = .next t ∧
          regB t .ring p.val 7 0 = false ∧ (ringAt t p.val).enabled = false
        ∧ (ringAt t p.val).head = (ringAt s p.val).head ∧ t.cmds = s.cmds)
  ∧ (∀ s (p : Port), domOn s (2 + p.val) = true → bitOf (cellAt s .ring p.val 7).pend.toNat 0 = regB s .ring p.val 7 0 →
      exec (.ringEnable p) s = .next s ∧ exec (.ringDisable p) s = .next s)
  ∧ (∀ s, exec (.regApply .now) s = .next s)
  ∧ (∀ s (p : Port), domOn s (2 + p.val) = false → exec (.regApply (.quiet p)) s = .next s)
  ∧ (∀ s, domOn s 6 = true → (works s = true → s.pair.role = .unpaired → regB s .spinel 0 2 0 = true ∨ bitOf (cellAt s .spinel 0 2).pend.toNat 0
      = false) →
      ∃ t, exec (.regApply .heartbeat) s = .next t ∧
          regB t .spinel 0 2 0 = bitOf (cellAt s .spinel 0 2).pend.toNat 0 ∧ regF t .spinel 0 3 5 0 = regF s .spinel 0 3 5 0
        ∧ (cellAt t .spinel 0 2).pend = (cellAt s .spinel 0 2).pend ∧ t.pair = s.pair)
  ∧ (∀ s, domOn s 6 = true → works s = true → s.pair.role = .unpaired → regB s .spinel 0 2 0 = false →
      bitOf (cellAt s .spinel 0 2).pend.toNat 0 = true → peerPageNat s = none → ∃ t, exec (.regApply .heartbeat) s = .next t ∧
          regB t .spinel 0 2 0 = true ∧ t.pair.role = .joining ∧ t.pair.joinAt = now s)
  ∧ (∀ s, domOn s 6 = true → ∃ t, exec (.regApply .epoch) s = .next t ∧
        regF t .spinel 0 3 5 0 = bitsOf (cellAt s .spinel 0 3).pend.toNat 5 0 ∧ regB t .spinel 0 2 0 = regB s .spinel 0 2 0)
  ∧ (∀ s, regB s .quartz 0 11 0 = false → exec (.regApply .dump) s = .next s)

/-- A step takes the command at the front of the queue. With a command at the front of the queue, a step is that command's effect on the state
with the queue's rest. With no command waiting the model lets TIME advance by one tick of 10 ns, except in OFF, and nothing else changes: this
clause is the model's choice (log entry 11). (01_module_at_a_glance R14, R18; 95_what_each_step_holds) -/
def Obligations.StepTakesTheFront : Prop :=
  (∀ c rest (s : State), step { s with pending := c :: rest } = exec c { s with pending := rest })
  ∧ (∀ s : State, s.pending = [] → s.pwr.st ≠ .off → step s = .next { s with pwr := { s.pwr with time := s.pwr.time + 10 } })
  ∧ (∀ s, s.pending = [] → s.pwr.st = .off → step s = .next s)

/-- The state at reset. Before AON power the module is in OFF with TIME 0, every domain off, no latch valid, no command waiting or running, no
line in the cache or the Cistern, in the medium only the four copies of the anchor a module is delivered with (the model's, log entry 81), no well
and no tile mapped, the rings disabled and the links down; every register reads its reset value in both words. Values that the manual does not
give are the model's (log entry 3). (01_module_at_a_glance R18, R20; 10_spinel_twin_pair R315; 13_register_conventions_and_map R408;
14_faults_and_agate_recorder R431) -/
def Obligations.ResetState : Prop :=
  State.reset.pwr.st = .off ∧ State.reset.pwr.time = 0 ∧ (∀ d, domOn State.reset d = false) ∧ State.reset.pending = [] ∧ State.reset.cmds = cmdsReset
  ∧ State.reset.flt.ce.valid = false ∧ State.reset.flt.uc.valid = false ∧ State.reset.flt.ft.valid = false ∧ State.reset.cache.ways = []
  ∧ State.reset.cist.ents = [] ∧ State.reset.med.frames = framesBorn .y32 ∧ State.reset.tabs.wells = [] ∧ State.reset.tabs.map = []
  ∧ (∀ p, (ringAt State.reset p).enabled = false) ∧ (∀ p, (portAt State.reset p).linkUp = false) ∧ State.reset.pair.linkUp = false
  ∧ (∀ b i slot, cellAt State.reset b i slot = resetCell b slot) ∧ ThermalInv State.reset

/-- What no command changes. Every command answers a next state, leaves the queue of waiting commands as it finds it, and never lowers the
rollback counter F. The module's variant, its serial number, its lifecycle and its revoke bits stay as they are.
(20_identity_firmware_and_attestation R541, R550; 95_what_each_step_holds) -/
def Obligations.WhatNoCommandChanges : Prop :=
  (∀ c s, ∃ t, exec c s = .next t)
  ∧ (∀ c s t, exec c s = .next t → t.pending = s.pending ∧ s.sec.f ≤ t.sec.f ∧ t.sec.variant = s.sec.variant ∧ t.sec.serial = s.sec.serial
      ∧ t.sec.lifecycle = s.sec.lifecycle ∧ t.sec.revoked = s.sec.revoked)

/-- The thermal condition and its causes stay together. Every step keeps the following: SHUTDOWN is the condition exactly while a trip stands, the
Yelrid's level is at most THROTTLE2, and it is THROTTLE2 while the diode counts as failed. (18_zircon_ageing_and_thermal R514, R516, R517, R519) -/
def Obligations.ThermalConditionIsKept : Prop :=
  ∀ s t, ThermalInv s → step s = .next t → ThermalInv t

/-- Where a line lies, what a CONST tile reads, and the temperature bin. Line l of a tile lies in slot (l + ROT) mod 256 and slot f holds line (f
- ROT) mod 256, with ROT of the map entry for every sense that the module starts. A read of a CONST tile's line answers the pattern, byte for
byte, without poison. A frame is programmed with the TBIN that its die's last temperature reading gives, in 6 °C bins. Completion is stated of
memrddata. (02_memory_model R68; 06_tysha_medium_and_line_frames R185, R192) -/
def Obligations.LinesPatternsAndBins : Prop :=
  (∀ l rot, l < 256 → fslotOf l rot = (l + rot.toNat) % 256 ∧ fslotOf l rot < 256)
  ∧ (∀ f (rot : BitVec 8), f < 256 → fslotOf ((f + 256 - rot.toNat) % 256) rot = f)
  ∧ (∀ s x, (dispatchSense s x).2.fslot = fslotOf (x.dln % 256) (entryAt s (x.dln / 256)).rot)
  ∧ (∀ s (p : Port) tag hpa env dln, memOpen s p.val = true → (portAt s p.val).rdOut < reqPool s p.val → portCheck s p.val hpa = .pass dln →
      forwards s (ltnOf dln) = false → lockHeld s dln = false → findWay s dln = none → findCis s dln = none → env.mapUe = false →
      tlbEn s = false → pageHere s (pageOf (ltnOf dln)) = true → s.mapu.overflow = [] → (entryAt s (ltnOf dln)).st = .const → boundNow s p.val
          = none →
      ∃ t, exec (.memrddata p tag hpa env) s = .next t ∧
          ∃ d, .drs p tag d false ∈ t.out ∧
        ∀ i, i < 64 → d.toNat / 2 ^ (8 * i) % 256 = (entryAt s (ltnOf dln)).ptn.toNat / 2 ^ (8 * (i % 4)) % 256)
  ∧ (∀ s ptn fslot gen key data p pc, ((writtenFrame s ptn fslot gen key data p pc).tbin.toNat : Int) =
      let t := nth 0 (chanAt s (ptnDieIx ptn / 8)).temps (ptnDieIx ptn % 8)
      if t < -40 then 0 else if 344 ≤ t then 15 else (t + 40) / 24)

/-- What each command leaves as it was. Each named command that answers a next state leaves every part of the module unchanged that its rules do
not name: registers, ports, rings, tables, the line cache, the Cistern, the medium, keys, latches, records, settings. The last clause names
commands that leave the map, the cache, the Cistern and the medium, and so every byte of memory, unchanged. (11_host_ports R346;
12_rings_and_commands R383; 20_identity_firmware_and_attestation R553, R556; 95_what_each_step_holds) -/
def Obligations.CommandsKeepTheRest : Prop :=
  (∀ (c : Instr) (s t : State), ((∃ p tag, c = .meminv p tag) ∨ (∃ p tag, c = .meminvnt p tag) ∨ (∃ p tag, c = .memclnevct p tag)
      ∨ (∃ p phase2, c = .globalPersistentFlush p phase2) ∨ (∃ p log, c = .getEventRecords p log) ∨ (∃ p, c = .getEventInterruptPolicy p)
      ∨ (∃ p, c = .getFwInfo p) ∨ (∃ p, c = .getTimestamp p) ∨ (∃ p, c = .getSupportedLogs p) ∨ (∃ p cel, c = .getLog p cel)
      ∨ (∃ p, c = .identifyMemoryDevice p) ∨ (∃ p, c = .getPartitionInfo p) ∨ (∃ p, c = .getHealthInfo p) ∨ (∃ p, c = .getAlertConfiguration p)
      ∨ (∃ p, c = .getShutdownState p) ∨ (∃ p, c = .getDynamicCapacityConfiguration p) ∨ (∃ p, c = .getDynamicCapacityExtentList p)
      ∨ (∃ via, c = .getVersion via) ∨ (∃ via, c = .getCapabilities via) ∨ (∃ via offers, c = .negotiateAlgorithms via offers)
      ∨ (∃ via, c = .getDigests via) ∨ (∃ via slot off len, c = .getCertificate via slot off len) ∨ (∃ via session, c = .query via session)) →
          exec c s = .next t →
      t.pending = s.pending ∧ t.freeCtr = s.freeCtr ∧ t.regs = s.regs ∧ t.req = s.req ∧ t.pwr = s.pwr ∧ t.ports = s.ports ∧ t.rings = s.rings
      ∧ t.cmds = s.cmds ∧ t.tabs = s.tabs ∧ t.mapu = s.mapu ∧ t.cist = s.cist ∧ t.cache = s.cache ∧ t.med = s.med ∧ t.keys = s.keys ∧ t.wear = s.wear
      ∧ t.drift = s.drift ∧ t.pair = s.pair ∧ t.flt = s.flt ∧ t.ag = s.ag ∧ t.qz = s.qz ∧ t.zir = s.zir ∧ t.th = s.th ∧ t.beryl = s.beryl
      ∧ t.sec = s.sec)
  ∧ (∀ (c : Instr) (s t : State), (∃ r, c = .unlockExpire r) → exec c s = .next t →
      t.pending = s.pending ∧ t.out = s.out ∧ t.freeCtr = s.freeCtr ∧ t.regs = s.regs ∧ t.pwr = s.pwr ∧ t.ports = s.ports ∧ t.rings = s.rings
      ∧ t.cmds = s.cmds ∧ t.tabs = s.tabs ∧ t.mapu = s.mapu ∧ t.cist = s.cist ∧ t.cache = s.cache ∧ t.med = s.med ∧ t.keys = s.keys ∧ t.wear = s.wear
      ∧ t.drift = s.drift ∧ t.pair = s.pair ∧ t.flt = s.flt ∧ t.ag = s.ag ∧ t.qz = s.qz ∧ t.zir = s.zir ∧ t.th = s.th ∧ t.beryl = s.beryl
      ∧ t.sec = s.sec)
  ∧ (∀ (c : Instr) (s t : State), (c = .bootSequencing ∨ (∃ d, c = .domainQualRetry d) ∨ c = .aliveToggle ∨ c = .witOutToggle ∨ c = .auxRestored) →
      exec c s = .next t →
      t.pending = s.pending ∧ t.out = s.out ∧ t.freeCtr = s.freeCtr ∧ t.regs = s.regs ∧ t.req = s.req ∧ t.ports = s.ports ∧ t.rings = s.rings
      ∧ t.cmds = s.cmds ∧ t.tabs = s.tabs ∧ t.mapu = s.mapu ∧ t.cist = s.cist ∧ t.cache = s.cache ∧ t.med = s.med ∧ t.keys = s.keys ∧ t.wear = s.wear
      ∧ t.drift = s.drift ∧ t.pair = s.pair ∧ t.flt = s.flt ∧ t.ag = s.ag ∧ t.qz = s.qz ∧ t.zir = s.zir ∧ t.th = s.th ∧ t.beryl = s.beryl
      ∧ t.sec = s.sec)
  ∧ (∀ (c : Instr) (s t : State), (∃ p j d, c = .hdmDecoderCommit p j d) → exec c s = .next t →
      t.pending = s.pending ∧ t.out = s.out ∧ t.freeCtr = s.freeCtr ∧ t.regs = s.regs ∧ t.req = s.req ∧ t.pwr = s.pwr ∧ t.rings = s.rings
      ∧ t.cmds = s.cmds ∧ t.tabs = s.tabs ∧ t.mapu = s.mapu ∧ t.cist = s.cist ∧ t.cache = s.cache ∧ t.med = s.med ∧ t.keys = s.keys ∧ t.wear = s.wear
      ∧ t.drift = s.drift ∧ t.pair = s.pair ∧ t.flt = s.flt ∧ t.ag = s.ag ∧ t.qz = s.qz ∧ t.zir = s.zir ∧ t.th = s.th ∧ t.beryl = s.beryl
      ∧ t.sec = s.sec)
  ∧ (∀ (c : Instr) (s t : State), c = .checkpointAnchor → exec c s = .next t →
      t.pending = s.pending ∧ t.out = s.out ∧ t.freeCtr = s.freeCtr ∧ t.regs = s.regs ∧ t.req = s.req ∧ t.pwr = s.pwr ∧ t.ports = s.ports
      ∧ t.rings = s.rings ∧ t.cmds = s.cmds ∧ t.tabs = s.tabs ∧ t.cist = s.cist ∧ t.cache = s.cache ∧ t.med = s.med ∧ t.keys = s.keys
      ∧ t.wear = s.wear ∧ t.drift = s.drift ∧ t.pair = s.pair ∧ t.flt = s.flt ∧ t.ag = s.ag ∧ t.qz = s.qz ∧ t.zir = s.zir ∧ t.th = s.th
      ∧ t.beryl = s.beryl ∧ t.sec = s.sec)
  ∧ (∀ (c : Instr) (s t : State), c = .filterRebuild → exec c s = .next t →
      t.pending = s.pending ∧ t.out = s.out ∧ t.freeCtr = s.freeCtr ∧ t.regs = s.regs ∧ t.req = s.req ∧ t.pwr = s.pwr ∧ t.ports = s.ports
      ∧ t.rings = s.rings ∧ t.cmds = s.cmds ∧ t.tabs = s.tabs ∧ t.mapu = s.mapu ∧ t.cache = s.cache ∧ t.med = s.med ∧ t.keys = s.keys
      ∧ t.wear = s.wear ∧ t.drift = s.drift ∧ t.pair = s.pair ∧ t.flt = s.flt ∧ t.ag = s.ag ∧ t.qz = s.qz ∧ t.zir = s.zir ∧ t.th = s.th
      ∧ t.beryl = s.beryl ∧ t.sec = s.sec)
  ∧ (∀ (c : Instr) (s t : State), (∃ die part, c = .programResume die part) → exec c s = .next t →
      t.pending = s.pending ∧ t.out = s.out ∧ t.freeCtr = s.freeCtr ∧ t.regs = s.regs ∧ t.req = s.req ∧ t.pwr = s.pwr ∧ t.ports = s.ports
      ∧ t.rings = s.rings ∧ t.cmds = s.cmds ∧ t.tabs = s.tabs ∧ t.mapu = s.mapu ∧ t.cist = s.cist ∧ t.cache = s.cache ∧ t.keys = s.keys
      ∧ t.wear = s.wear ∧ t.drift = s.drift ∧ t.pair = s.pair ∧ t.flt = s.flt ∧ t.ag = s.ag ∧ t.qz = s.qz ∧ t.zir = s.zir ∧ t.th = s.th
      ∧ t.beryl = s.beryl ∧ t.sec = s.sec)
  ∧ (∀ (c : Instr) (s t : State), ((∃ ch, c = .burstMeterSlot ch) ∨ c = .scrubAutoResume) → exec c s = .next t →
      t.pending = s.pending ∧ t.out = s.out ∧ t.freeCtr = s.freeCtr ∧ t.regs = s.regs ∧ t.req = s.req ∧ t.pwr = s.pwr ∧ t.ports = s.ports
      ∧ t.rings = s.rings ∧ t.cmds = s.cmds ∧ t.tabs = s.tabs ∧ t.mapu = s.mapu ∧ t.cist = s.cist ∧ t.cache = s.cache ∧ t.med = s.med
      ∧ t.keys = s.keys ∧ t.wear = s.wear ∧ t.pair = s.pair ∧ t.flt = s.flt ∧ t.ag = s.ag ∧ t.qz = s.qz ∧ t.zir = s.zir ∧ t.th = s.th
      ∧ t.beryl = s.beryl ∧ t.sec = s.sec)
  ∧ (∀ (c : Instr) (s t : State), (∃ uc, c = .firmwareAck uc) → exec c s = .next t →
      t.pending = s.pending ∧ t.out = s.out ∧ t.freeCtr = s.freeCtr ∧ t.regs = s.regs ∧ t.req = s.req ∧ t.pwr = s.pwr ∧ t.ports = s.ports
      ∧ t.rings = s.rings ∧ t.cmds = s.cmds ∧ t.tabs = s.tabs ∧ t.mapu = s.mapu ∧ t.cist = s.cist ∧ t.cache = s.cache ∧ t.med = s.med
      ∧ t.keys = s.keys ∧ t.wear = s.wear ∧ t.drift = s.drift ∧ t.pair = s.pair ∧ t.ag = s.ag ∧ t.qz = s.qz ∧ t.zir = s.zir ∧ t.th = s.th
      ∧ t.beryl = s.beryl ∧ t.sec = s.sec)
  ∧ (∀ (c : Instr) (s t : State), ((∃ cause, c = .replanStart cause) ∨ (∃ stepMv, c = .bankTestStart stepMv)) → exec c s = .next t →
      t.pending = s.pending ∧ t.out = s.out ∧ t.freeCtr = s.freeCtr ∧ t.regs = s.regs ∧ t.req = s.req ∧ t.pwr = s.pwr ∧ t.ports = s.ports
      ∧ t.rings = s.rings ∧ t.cmds = s.cmds ∧ t.tabs = s.tabs ∧ t.mapu = s.mapu ∧ t.cist = s.cist ∧ t.cache = s.cache ∧ t.med = s.med
      ∧ t.keys = s.keys ∧ t.wear = s.wear ∧ t.drift = s.drift ∧ t.pair = s.pair ∧ t.flt = s.flt ∧ t.ag = s.ag ∧ t.qz = s.qz ∧ t.th = s.th
      ∧ t.beryl = s.beryl ∧ t.sec = s.sec)
  ∧ (∀ (c : Instr) (s t : State), ((∃ via slot nonce, c = .challenge via slot nonce) ∨ (∃ via index nonce, c = .getMeasurements via index nonce)
      ∨ (∃ via session, c = .getKey via session)) → exec c s = .next t →
      t.pending = s.pending ∧ t.regs = s.regs ∧ t.req = s.req ∧ t.pwr = s.pwr ∧ t.ports = s.ports ∧ t.rings = s.rings ∧ t.cmds = s.cmds
      ∧ t.tabs = s.tabs ∧ t.mapu = s.mapu ∧ t.cist = s.cist ∧ t.cache = s.cache ∧ t.med = s.med ∧ t.keys = s.keys ∧ t.wear = s.wear
      ∧ t.drift = s.drift ∧ t.pair = s.pair ∧ t.flt = s.flt ∧ t.ag = s.ag ∧ t.qz = s.qz ∧ t.zir = s.zir ∧ t.th = s.th ∧ t.beryl = s.beryl
      ∧ t.sec = s.sec)
  ∧ (∀ (c : Instr) (s t : State), ((∃ eid, c = .setEndpointId eid) ∨ (∃ tt, c = .jtagTestMode tt)) → exec c s = .next t →
      t.pending = s.pending ∧ t.freeCtr = s.freeCtr ∧ t.regs = s.regs ∧ t.req = s.req ∧ t.ports = s.ports ∧ t.rings = s.rings ∧ t.cmds = s.cmds
      ∧ t.tabs = s.tabs ∧ t.mapu = s.mapu ∧ t.cist = s.cist ∧ t.cache = s.cache ∧ t.med = s.med ∧ t.keys = s.keys ∧ t.wear = s.wear
      ∧ t.drift = s.drift ∧ t.pair = s.pair ∧ t.flt = s.flt ∧ t.ag = s.ag ∧ t.qz = s.qz ∧ t.zir = s.zir ∧ t.th = s.th ∧ t.beryl = s.beryl
      ∧ t.sec = s.sec)
  ∧ (∀ (c : Instr) (s t : State), ((∃ p vec, c = .setEventInterruptPolicy p vec) ∨ (∃ p ts, c = .setTimestamp p ts)
      ∨ (∃ p life temp ce, c = .setAlertConfiguration p life temp ce) ∨ (∃ p well accept, c = .addDynamicCapacityResponse p well accept)
      ∨ (∃ via session mem tx kset key, c = .keyProg via session mem tx kset key) ∨ (∃ via session mem kset, c = .kSetGo via session mem kset)
      ∨ (∃ via session mem kset, c = .kSetStop via session mem kset)) → exec c s = .next t →
      t.pending = s.pending ∧ t.freeCtr = s.freeCtr ∧ t.regs = s.regs ∧ t.req = s.req ∧ t.pwr = s.pwr ∧ t.rings = s.rings ∧ t.cmds = s.cmds
      ∧ t.tabs = s.tabs ∧ t.mapu = s.mapu ∧ t.cist = s.cist ∧ t.cache = s.cache ∧ t.med = s.med ∧ t.keys = s.keys ∧ t.wear = s.wear
      ∧ t.drift = s.drift ∧ t.pair = s.pair ∧ t.flt = s.flt ∧ t.ag = s.ag ∧ t.qz = s.qz ∧ t.zir = s.zir ∧ t.th = s.th ∧ t.beryl = s.beryl
      ∧ t.sec = s.sec)
  ∧ (∀ (c : Instr) (s t : State), (∃ p vec, c = .coalWindowEnd p vec) → exec c s = .next t →
      t.pending = s.pending ∧ t.freeCtr = s.freeCtr ∧ t.regs = s.regs ∧ t.req = s.req ∧ t.pwr = s.pwr ∧ t.ports = s.ports ∧ t.cmds = s.cmds
      ∧ t.tabs = s.tabs ∧ t.mapu = s.mapu ∧ t.cist = s.cist ∧ t.cache = s.cache ∧ t.med = s.med ∧ t.keys = s.keys ∧ t.wear = s.wear
      ∧ t.drift = s.drift ∧ t.pair = s.pair ∧ t.flt = s.flt ∧ t.ag = s.ag ∧ t.qz = s.qz ∧ t.zir = s.zir ∧ t.th = s.th ∧ t.beryl = s.beryl
      ∧ t.sec = s.sec)
  ∧ (∀ (c : Instr) (s t : State), (c = .flitCrcError ∨ c = .heartbeatSend ∨ (∃ h, c = .heartbeat h) ∨ (∃ ltn, c = .tileAck ltn)
      ∨ (∃ index ltns, c = .joinOpen index ltns) ∨ (∃ index wells, c = .joinWells index wells) ∨ (∃ ranges, c = .joinInuse ranges)
      ∨ (∃ lanes cable, c = .spinelLinkDown lanes cable)) → exec c s = .next t →
      t.pending = s.pending ∧ t.freeCtr = s.freeCtr ∧ t.regs = s.regs ∧ t.req = s.req ∧ t.pwr = s.pwr ∧ t.ports = s.ports ∧ t.rings = s.rings
      ∧ t.cmds = s.cmds ∧ t.tabs = s.tabs ∧ t.mapu = s.mapu ∧ t.cist = s.cist ∧ t.cache = s.cache ∧ t.med = s.med ∧ t.keys = s.keys ∧ t.wear = s.wear
      ∧ t.drift = s.drift ∧ t.flt = s.flt ∧ t.ag = s.ag ∧ t.qz = s.qz ∧ t.zir = s.zir ∧ t.th = s.th ∧ t.beryl = s.beryl ∧ t.sec = s.sec)
  ∧ (∀ (c : Instr) (s t : State), (∃ p lanes rate hostClk, c = .linkTraining p lanes rate hostClk) → exec c s = .next t →
      t.pending = s.pending ∧ t.out = s.out ∧ t.freeCtr = s.freeCtr ∧ t.req = s.req ∧ t.pwr = s.pwr ∧ t.rings = s.rings ∧ t.cmds = s.cmds
      ∧ t.tabs = s.tabs ∧ t.mapu = s.mapu ∧ t.cist = s.cist ∧ t.cache = s.cache ∧ t.med = s.med ∧ t.keys = s.keys ∧ t.wear = s.wear
      ∧ t.drift = s.drift ∧ t.pair = s.pair ∧ t.flt = s.flt ∧ t.ag = s.ag ∧ t.qz = s.qz ∧ t.zir = s.zir ∧ t.th = s.th ∧ t.beryl = s.beryl
      ∧ t.sec = s.sec)
  ∧ (∀ (c : Instr) (s t : State), ((∃ p, c = .ringEnable p) ∨ (∃ p, c = .ringDisable p)) → exec c s = .next t →
      t.pending = s.pending ∧ t.out = s.out ∧ t.freeCtr = s.freeCtr ∧ t.req = s.req ∧ t.pwr = s.pwr ∧ t.ports = s.ports ∧ t.cmds = s.cmds
      ∧ t.tabs = s.tabs ∧ t.mapu = s.mapu ∧ t.cist = s.cist ∧ t.cache = s.cache ∧ t.med = s.med ∧ t.keys = s.keys ∧ t.wear = s.wear
      ∧ t.drift = s.drift ∧ t.pair = s.pair ∧ t.flt = s.flt ∧ t.ag = s.ag ∧ t.qz = s.qz ∧ t.zir = s.zir ∧ t.th = s.th ∧ t.beryl = s.beryl
      ∧ t.sec = s.sec)
  ∧ (∀ (c : Instr) (s t : State), (∃ p, c = .ideIntegrityFailure p) → exec c s = .next t →
      t.pending = s.pending ∧ t.freeCtr = s.freeCtr ∧ t.req = s.req ∧ t.pwr = s.pwr ∧ t.rings = s.rings ∧ t.cmds = s.cmds ∧ t.tabs = s.tabs
      ∧ t.mapu = s.mapu ∧ t.cist = s.cist ∧ t.cache = s.cache ∧ t.med = s.med ∧ t.keys = s.keys ∧ t.wear = s.wear ∧ t.drift = s.drift
      ∧ t.pair = s.pair ∧ t.flt = s.flt ∧ t.ag = s.ag ∧ t.qz = s.qz ∧ t.zir = s.zir ∧ t.th = s.th ∧ t.beryl = s.beryl ∧ t.sec = s.sec)
  ∧ (∀ (c : Instr) (s t : State), c = .replayTimeout → exec c s = .next t →
      t.pending = s.pending ∧ t.freeCtr = s.freeCtr ∧ t.req = s.req ∧ t.pwr = s.pwr ∧ t.ports = s.ports ∧ t.rings = s.rings ∧ t.cmds = s.cmds
      ∧ t.tabs = s.tabs ∧ t.mapu = s.mapu ∧ t.cist = s.cist ∧ t.cache = s.cache ∧ t.med = s.med ∧ t.keys = s.keys ∧ t.wear = s.wear
      ∧ t.drift = s.drift ∧ t.flt = s.flt ∧ t.ag = s.ag ∧ t.qz = s.qz ∧ t.zir = s.zir ∧ t.th = s.th ∧ t.beryl = s.beryl ∧ t.sec = s.sec)
  ∧ (∀ (c : Instr) (s t : State), (∃ dmaOk, c = .dumpBoundary dmaOk) → exec c s = .next t →
      t.pending = s.pending ∧ t.freeCtr = s.freeCtr ∧ t.req = s.req ∧ t.pwr = s.pwr ∧ t.ports = s.ports ∧ t.rings = s.rings ∧ t.cmds = s.cmds
      ∧ t.tabs = s.tabs ∧ t.mapu = s.mapu ∧ t.cist = s.cist ∧ t.cache = s.cache ∧ t.med = s.med ∧ t.keys = s.keys ∧ t.wear = s.wear
      ∧ t.drift = s.drift ∧ t.pair = s.pair ∧ t.flt = s.flt ∧ t.ag = s.ag ∧ t.zir = s.zir ∧ t.th = s.th ∧ t.beryl = s.beryl ∧ t.sec = s.sec)
  ∧ (∀ (c : Instr) (s t : State), (∃ p, c = .perstDeassert p) → exec c s = .next t →
      t.pending = s.pending ∧ t.freeCtr = s.freeCtr ∧ t.regs = s.regs ∧ t.req = s.req ∧ t.rings = s.rings ∧ t.cmds = s.cmds ∧ t.tabs = s.tabs
      ∧ t.mapu = s.mapu ∧ t.cist = s.cist ∧ t.cache = s.cache ∧ t.med = s.med ∧ t.keys = s.keys ∧ t.wear = s.wear ∧ t.drift = s.drift
      ∧ t.pair = s.pair ∧ t.flt = s.flt ∧ t.ag = s.ag ∧ t.qz = s.qz ∧ t.zir = s.zir ∧ t.th = s.th ∧ t.beryl = s.beryl ∧ t.sec = s.sec)
  ∧ (∀ (c : Instr) (s t : State), (∃ p log seqs, c = .clearEventRecords p log seqs) → exec c s = .next t →
      t.pending = s.pending ∧ t.freeCtr = s.freeCtr ∧ t.regs = s.regs ∧ t.req = s.req ∧ t.pwr = s.pwr ∧ t.rings = s.rings ∧ t.cmds = s.cmds
      ∧ t.tabs = s.tabs ∧ t.mapu = s.mapu ∧ t.cist = s.cist ∧ t.cache = s.cache ∧ t.med = s.med ∧ t.keys = s.keys ∧ t.wear = s.wear
      ∧ t.drift = s.drift ∧ t.pair = s.pair ∧ t.ag = s.ag ∧ t.qz = s.qz ∧ t.zir = s.zir ∧ t.th = s.th ∧ t.beryl = s.beryl ∧ t.sec = s.sec)
  ∧ (∀ (c : Instr) (s t : State), ((∃ via session ok, c = .finish via session ok) ∨ (∃ via session, c = .endSession via session)
      ∨ (∃ via session, c = .keyUpdate via session)) → exec c s = .next t →
      t.pending = s.pending ∧ t.freeCtr = s.freeCtr ∧ t.regs = s.regs ∧ t.req = s.req ∧ t.pwr = s.pwr ∧ t.rings = s.rings ∧ t.cmds = s.cmds
      ∧ t.tabs = s.tabs ∧ t.mapu = s.mapu ∧ t.cist = s.cist ∧ t.cache = s.cache ∧ t.med = s.med ∧ t.keys = s.keys ∧ t.wear = s.wear
      ∧ t.drift = s.drift ∧ t.pair = s.pair ∧ t.flt = s.flt ∧ t.ag = s.ag ∧ t.qz = s.qz ∧ t.zir = s.zir ∧ t.th = s.th ∧ t.beryl = s.beryl)
  ∧ (∀ (c : Instr) (s t : State), (∃ ch, c = .loadWindowEnd ch) → exec c s = .next t →
      t.pending = s.pending ∧ t.out = s.out ∧ t.freeCtr = s.freeCtr ∧ t.req = s.req ∧ t.pwr = s.pwr ∧ t.ports = s.ports ∧ t.rings = s.rings
      ∧ t.cmds = s.cmds ∧ t.tabs = s.tabs ∧ t.mapu = s.mapu ∧ t.cist = s.cist ∧ t.cache = s.cache ∧ t.med = s.med ∧ t.keys = s.keys ∧ t.wear = s.wear
      ∧ t.pair = s.pair ∧ t.flt = s.flt ∧ t.ag = s.ag ∧ t.zir = s.zir ∧ t.th = s.th ∧ t.beryl = s.beryl ∧ t.sec = s.sec)
  ∧ (∀ (c : Instr) (s t : State), (∃ via session, c = .keyExchange via session) → exec c s = .next t →
      t.pending = s.pending ∧ t.regs = s.regs ∧ t.req = s.req ∧ t.pwr = s.pwr ∧ t.rings = s.rings ∧ t.cmds = s.cmds ∧ t.tabs = s.tabs
      ∧ t.mapu = s.mapu ∧ t.cist = s.cist ∧ t.cache = s.cache ∧ t.med = s.med ∧ t.keys = s.keys ∧ t.wear = s.wear ∧ t.drift = s.drift
      ∧ t.pair = s.pair ∧ t.flt = s.flt ∧ t.ag = s.ag ∧ t.qz = s.qz ∧ t.zir = s.zir ∧ t.th = s.th ∧ t.beryl = s.beryl)
  ∧ (∀ (c : Instr) (s t : State), (∃ desc payload, c = .sidebandDescriptor desc payload) → exec c s = .next t →
      t.pending = s.pending ∧ t.freeCtr = s.freeCtr ∧ t.req = s.req ∧ t.pwr = s.pwr ∧ t.ports = s.ports ∧ t.tabs = s.tabs ∧ t.mapu = s.mapu
      ∧ t.cist = s.cist ∧ t.cache = s.cache ∧ t.med = s.med ∧ t.keys = s.keys ∧ t.wear = s.wear ∧ t.drift = s.drift ∧ t.pair = s.pair ∧ t.flt = s.flt
      ∧ t.ag = s.ag ∧ t.qz = s.qz ∧ t.zir = s.zir ∧ t.th = s.th ∧ t.beryl = s.beryl ∧ t.sec = s.sec)
  ∧ (∀ (c : Instr) (s t : State), (∃ ltn, c = .refreshScan ltn) → exec c s = .next t →
      t.pending = s.pending ∧ t.out = s.out ∧ t.freeCtr = s.freeCtr ∧ t.req = s.req ∧ t.pwr = s.pwr ∧ t.ports = s.ports ∧ t.rings = s.rings
      ∧ t.cmds = s.cmds ∧ t.cist = s.cist ∧ t.cache = s.cache ∧ t.med = s.med ∧ t.keys = s.keys ∧ t.wear = s.wear ∧ t.pair = s.pair ∧ t.flt = s.flt
      ∧ t.ag = s.ag ∧ t.qz = s.qz ∧ t.zir = s.zir ∧ t.th = s.th ∧ t.beryl = s.beryl ∧ t.sec = s.sec)
  ∧ (∀ (c : Instr) (s t : State), (∃ u, c = .programDispatch u) → exec c s = .next t →
      t.pending = s.pending ∧ t.out = s.out ∧ t.freeCtr = s.freeCtr ∧ t.req = s.req ∧ t.pwr = s.pwr ∧ t.ports = s.ports ∧ t.rings = s.rings
      ∧ t.cmds = s.cmds ∧ t.tabs = s.tabs ∧ t.cache = s.cache ∧ t.keys = s.keys ∧ t.wear = s.wear ∧ t.drift = s.drift ∧ t.pair = s.pair
      ∧ t.flt = s.flt ∧ t.ag = s.ag ∧ t.qz = s.qz ∧ t.zir = s.zir ∧ t.th = s.th ∧ t.beryl = s.beryl ∧ t.sec = s.sec)
  ∧ (∀ (c : Instr) (s t : State), (∃ die, c = .tileResetStart die) → exec c s = .next t →
      t.pending = s.pending ∧ t.out = s.out ∧ t.freeCtr = s.freeCtr ∧ t.req = s.req ∧ t.pwr = s.pwr ∧ t.ports = s.ports ∧ t.rings = s.rings
      ∧ t.cmds = s.cmds ∧ t.tabs = s.tabs ∧ t.mapu = s.mapu ∧ t.cache = s.cache ∧ t.keys = s.keys ∧ t.drift = s.drift ∧ t.pair = s.pair
      ∧ t.flt = s.flt ∧ t.ag = s.ag ∧ t.qz = s.qz ∧ t.zir = s.zir ∧ t.th = s.th ∧ t.beryl = s.beryl ∧ t.sec = s.sec)
  ∧ (∀ (c : Instr) (s t : State), ((∃ r off size, c = .rcRead r off size) ∨ (∃ r, c = .timeLatchRead r) ∨ (∃ r, c = .newSeqRead r)
      ∨ (∃ r, c = .ctrLoRead r)) → exec c s = .next t →
      t.pending = s.pending ∧ t.freeCtr = s.freeCtr ∧ t.pwr = s.pwr ∧ t.ports = s.ports ∧ t.rings = s.rings ∧ t.cmds = s.cmds ∧ t.tabs = s.tabs
      ∧ t.mapu = s.mapu ∧ t.cist = s.cist ∧ t.med = s.med ∧ t.keys = s.keys ∧ t.wear = s.wear ∧ t.pair = s.pair ∧ t.flt = s.flt ∧ t.ag = s.ag
      ∧ t.qz = s.qz ∧ t.zir = s.zir ∧ t.th = s.th ∧ t.beryl = s.beryl ∧ t.sec = s.sec)
  ∧ (∀ (c : Instr) (s t : State), (∃ die, c = .sentinelProgram die) → exec c s = .next t →
      t.pending = s.pending ∧ t.out = s.out ∧ t.freeCtr = s.freeCtr ∧ t.req = s.req ∧ t.pwr = s.pwr ∧ t.ports = s.ports ∧ t.rings = s.rings
      ∧ t.cmds = s.cmds ∧ t.tabs = s.tabs ∧ t.cache = s.cache ∧ t.keys = s.keys ∧ t.wear = s.wear ∧ t.pair = s.pair ∧ t.flt = s.flt ∧ t.ag = s.ag
      ∧ t.qz = s.qz ∧ t.zir = s.zir ∧ t.th = s.th ∧ t.beryl = s.beryl ∧ t.sec = s.sec)
  ∧ (∀ (c : Instr) (s t : State), c = .soloPageDurable → exec c s = .next t →
      t.pending = s.pending ∧ t.freeCtr = s.freeCtr ∧ t.req = s.req ∧ t.pwr = s.pwr ∧ t.rings = s.rings ∧ t.cmds = s.cmds ∧ t.tabs = s.tabs
      ∧ t.mapu = s.mapu ∧ t.cache = s.cache ∧ t.med = s.med ∧ t.keys = s.keys ∧ t.wear = s.wear ∧ t.drift = s.drift ∧ t.flt = s.flt ∧ t.ag = s.ag
      ∧ t.zir = s.zir ∧ t.th = s.th ∧ t.beryl = s.beryl ∧ t.sec = s.sec)
  ∧ (∀ (c : Instr) (s t : State), (c = .berylPageProgram ∨ (∃ p clean, c = .setShutdownState p clean)) → exec c s = .next t →
      t.pending = s.pending ∧ t.freeCtr = s.freeCtr ∧ t.req = s.req ∧ t.ports = s.ports ∧ t.tabs = s.tabs ∧ t.mapu = s.mapu ∧ t.cist = s.cist
      ∧ t.cache = s.cache ∧ t.med = s.med ∧ t.keys = s.keys ∧ t.wear = s.wear ∧ t.drift = s.drift ∧ t.pair = s.pair ∧ t.flt = s.flt ∧ t.qz = s.qz
      ∧ t.zir = s.zir ∧ t.th = s.th ∧ t.sec = s.sec)
  ∧ (∀ (c : Instr) (s t : State), c = .regApply .heartbeat → exec c s = .next t →
      t.pending = s.pending ∧ t.freeCtr = s.freeCtr ∧ t.keys = s.keys ∧ t.th = s.th ∧ t.sec = s.sec)
  ∧ (∀ (c : Instr) (s t : State),
      (∃ at_, c = .regApply at_ ∧ (at_ = .heartbeat → works s = true → s.pair.role ≠ .unpaired)) → exec c s = .next t →
      t.pending = s.pending ∧ t.freeCtr = s.freeCtr ∧ t.req = s.req ∧ t.pwr = s.pwr ∧ t.cmds = s.cmds ∧ t.tabs = s.tabs ∧ t.mapu = s.mapu
      ∧ t.cache = s.cache ∧ t.med = s.med ∧ t.keys = s.keys ∧ t.wear = s.wear ∧ t.drift = s.drift ∧ t.flt = s.flt ∧ t.ag = s.ag ∧ t.zir = s.zir
      ∧ t.th = s.th ∧ t.beryl = s.beryl ∧ t.sec = s.sec)
  ∧ (∀ (c : Instr) (s t : State), c = .resyncDoneReq → exec c s = .next t →
      t.pending = s.pending ∧ t.freeCtr = s.freeCtr ∧ t.req = s.req ∧ t.pwr = s.pwr ∧ t.rings = s.rings ∧ t.cmds = s.cmds ∧ t.tabs = s.tabs
      ∧ t.mapu = s.mapu ∧ t.cache = s.cache ∧ t.med = s.med ∧ t.keys = s.keys ∧ t.drift = s.drift ∧ t.flt = s.flt ∧ t.ag = s.ag ∧ t.zir = s.zir
      ∧ t.th = s.th ∧ t.beryl = s.beryl ∧ t.sec = s.sec)
  ∧ (∀ (c : Instr) (s t : State), c = .checkpointStart → exec c s = .next t →
      t.pending = s.pending ∧ t.out = s.out ∧ t.freeCtr = s.freeCtr ∧ t.req = s.req ∧ t.pwr = s.pwr ∧ t.ports = s.ports ∧ t.rings = s.rings
      ∧ t.cist = s.cist ∧ t.cache = s.cache ∧ t.keys = s.keys ∧ t.drift = s.drift ∧ t.pair = s.pair ∧ t.flt = s.flt ∧ t.ag = s.ag ∧ t.qz = s.qz
      ∧ t.th = s.th ∧ t.beryl = s.beryl ∧ t.sec = s.sec)
  ∧ (∀ (c : Instr) (s t : State), c = .journalLineProgram → exec c s = .next t →
      t.pending = s.pending ∧ t.out = s.out ∧ t.freeCtr = s.freeCtr ∧ t.req = s.req ∧ t.pwr = s.pwr ∧ t.ports = s.ports ∧ t.rings = s.rings
      ∧ t.cmds = s.cmds ∧ t.cache = s.cache ∧ t.keys = s.keys ∧ t.drift = s.drift ∧ t.pair = s.pair ∧ t.flt = s.flt ∧ t.ag = s.ag ∧ t.qz = s.qz
      ∧ t.th = s.th ∧ t.beryl = s.beryl ∧ t.sec = s.sec)
  ∧ (∀ (c : Instr) (s t : State), (∃ failed, c = .dieDiscovery failed) → exec c s = .next t →
      t.pending = s.pending ∧ t.freeCtr = s.freeCtr ∧ t.tabs = s.tabs ∧ t.mapu = s.mapu ∧ t.cache = s.cache ∧ t.med = s.med ∧ t.keys = s.keys
      ∧ t.qz = s.qz ∧ t.th = s.th ∧ t.sec = s.sec)
  ∧ (∀ (c : Instr) (s t : State), c = .enterCold → exec c s = .next t →
      t.pending = s.pending ∧ t.freeCtr = s.freeCtr ∧ t.tabs = s.tabs ∧ t.cache = s.cache ∧ t.med = s.med ∧ t.keys = s.keys ∧ t.drift = s.drift
      ∧ t.th = s.th)
  ∧ (∀ (c : Instr) (s t : State), ((∃ seat sbSel sbAddr corr ue, c = .aonQualify seat sbSel sbAddr corr ue) ∨ (∃ vinMv, c = .inputDip vinMv)
      ∨ (∃ ue, c = .agateFlush ue) ∨ c = .witnessLost ∨ (∃ recs, c = .agateCopy recs) ∨ (∃ p hpa, c = .memrdfwd p hpa)
      ∨ (∃ p hpa, c = .memwrfwd p hpa) ∨ c = .witInEdge ∨ c = .mainInputCycle ∨ c = .epochUnitStart ∨ (∃ slacks, c = .canarySample slacks)
      ∨ (∃ eyes, c = .eyeMarginSample eyes) ∨ (∃ us reached33 recharged, c = .bankTestEnd us reached33 recharged) ∨ (∃ ok, c = .fuseBlow ok)
      ∨ c = .entropyTestFail ∨ (∃ p desc, c = .descriptorFetch p desc) ∨ (∃ p dmaOk, c = .completionWrite p dmaOk)) → exec c s = .next t →
      t.pending = s.pending ∧ t.tabs = s.tabs ∧ t.cache = s.cache ∧ t.cist = s.cist ∧ t.med = s.med)

end
end

