-- ==== Sys2Proof/Laws/FramesA.lean ====
section
/-! SUPPORT. What each shared operation leaves unchanged (part 1 of 4): `f_keeps` names every part of State that `f` does not touch,
for whatever state and operands. -/

set_option linter.all false
set_option Elab.async false

namespace Sys2Proof.Machine

@[simp] theorem ite_pending (c : Prop) [Decidable c] (a b : State) : (if c then a else b).pending = if c then a.pending else b.pending :=
  apply_ite (fun x : State => x.pending) _ _ _
@[simp] theorem foldl_pending {α} (f : State → α → State) (l : List α) (s : State) (h : ∀ s a, (f s a).pending = s.pending) :
    (l.foldl f s).pending = s.pending := by
  induction l generalizing s with
  | nil => rfl
  | cons x l ih => simp [ih, h]

@[simp] theorem ite_out (c : Prop) [Decidable c] (a b : State) : (if c then a else b).out = if c then a.out else b.out :=
  apply_ite (fun x : State => x.out) _ _ _
@[simp] theorem foldl_out {α} (f : State → α → State) (l : List α) (s : State) (h : ∀ s a, (f s a).out = s.out) :
    (l.foldl f s).out = s.out := by
  induction l generalizing s with
  | nil => rfl
  | cons x l ih => simp [ih, h]

@[simp] theorem ite_freeCtr (c : Prop) [Decidable c] (a b : State) : (if c then a else b).freeCtr = if c then a.freeCtr else b.freeCtr :=
  apply_ite (fun x : State => x.freeCtr) _ _ _
@[simp] theorem foldl_freeCtr {α} (f : State → α → State) (l : List α) (s : State) (h : ∀ s a, (f s a).freeCtr = s.freeCtr) :
    (l.foldl f s).freeCtr = s.freeCtr := by
  induction l generalizing s with
  | nil => rfl
  | cons x l ih => simp [ih, h]

@[simp] theorem ite_regs (c : Prop) [Decidable c] (a b : State) : (if c then a else b).regs = if c then a.regs else b.regs :=
  apply_ite (fun x : State => x.regs) _ _ _
@[simp] theorem foldl_regs {α} (f : State → α → State) (l : List α) (s : State) (h : ∀ s a, (f s a).regs = s.regs) :
    (l.foldl f s).regs = s.regs := by
  induction l generalizing s with
  | nil => rfl
  | cons x l ih => simp [ih, h]

@[simp] theorem ite_req (c : Prop) [Decidable c] (a b : State) : (if c then a else b).req = if c then a.req else b.req :=
  apply_ite (fun x : State => x.req) _ _ _
@[simp] theorem foldl_req {α} (f : State → α → State) (l : List α) (s : State) (h : ∀ s a, (f s a).req = s.req) :
    (l.foldl f s).req = s.req := by
  induction l generalizing s with
  | nil => rfl
  | cons x l ih => simp [ih, h]

@[simp] theorem ite_pwr (c : Prop) [Decidable c] (a b : State) : (if c then a else b).pwr = if c then a.pwr else b.pwr :=
  apply_ite (fun x : State => x.pwr) _ _ _
@[simp] theorem foldl_pwr {α} (f : State → α → State) (l : List α) (s : State) (h : ∀ s a, (f s a).pwr = s.pwr) :
    (l.foldl f s).pwr = s.pwr := by
  induction l generalizing s with
  | nil => rfl
  | cons x l ih => simp [ih, h]

@[simp] theorem ite_ports (c : Prop) [Decidable c] (a b : State) : (if c then a else b).ports = if c then a.ports else b.ports :=
  apply_ite (fun x : State => x.ports) _ _ _
@[simp] theorem foldl_ports {α} (f : State → α → State) (l : List α) (s : State) (h : ∀ s a, (f s a).ports = s.ports) :
    (l.foldl f s).ports = s.ports := by
  induction l generalizing s with
  | nil => rfl
  | cons x l ih => simp [ih, h]

@[simp] theorem ite_rings (c : Prop) [Decidable c] (a b : State) : (if c then a else b).rings = if c then a.rings else b.rings :=
  apply_ite (fun x : State => x.rings) _ _ _
@[simp] theorem foldl_rings {α} (f : State → α → State) (l : List α) (s : State) (h : ∀ s a, (f s a).rings = s.rings) :
    (l.foldl f s).rings = s.rings := by
  induction l generalizing s with
  | nil => rfl
  | cons x l ih => simp [ih, h]

@[simp] theorem ite_cmds (c : Prop) [Decidable c] (a b : State) : (if c then a else b).cmds = if c then a.cmds else b.cmds :=
  apply_ite (fun x : State => x.cmds) _ _ _
@[simp] theorem foldl_cmds {α} (f : State → α → State) (l : List α) (s : State) (h : ∀ s a, (f s a).cmds = s.cmds) :
    (l.foldl f s).cmds = s.cmds := by
  induction l generalizing s with
  | nil => rfl
  | cons x l ih => simp [ih, h]

@[simp] theorem ite_tabs (c : Prop) [Decidable c] (a b : State) : (if c then a else b).tabs = if c then a.tabs else b.tabs :=
  apply_ite (fun x : State => x.tabs) _ _ _
@[simp] theorem foldl_tabs {α} (f : State → α → State) (l : List α) (s : State) (h : ∀ s a, (f s a).tabs = s.tabs) :
    (l.foldl f s).tabs = s.tabs := by
  induction l generalizing s with
  | nil => rfl
  | cons x l ih => simp [ih, h]

@[simp] theorem ite_mapu (c : Prop) [Decidable c] (a b : State) : (if c then a else b).mapu = if c then a.mapu else b.mapu :=
  apply_ite (fun x : State => x.mapu) _ _ _
@[simp] theorem foldl_mapu {α} (f : State → α → State) (l : List α) (s : State) (h : ∀ s a, (f s a).mapu = s.mapu) :
    (l.foldl f s).mapu = s.mapu := by
  induction l generalizing s with
  | nil => rfl
  | cons x l ih => simp [ih, h]

@[simp] theorem ite_cist (c : Prop) [Decidable c] (a b : State) : (if c then a else b).cist = if c then a.cist else b.cist :=
  apply_ite (fun x : State => x.cist) _ _ _
@[simp] theorem foldl_cist {α} (f : State → α → State) (l : List α) (s : State) (h : ∀ s a, (f s a).cist = s.cist) :
    (l.foldl f s).cist = s.cist := by
  induction l generalizing s with
  | nil => rfl
  | cons x l ih => simp [ih, h]

@[simp] theorem ite_cache (c : Prop) [Decidable c] (a b : State) : (if c then a else b).cache = if c then a.cache else b.cache :=
  apply_ite (fun x : State => x.cache) _ _ _
@[simp] theorem foldl_cache {α} (f : State → α → State) (l : List α) (s : State) (h : ∀ s a, (f s a).cache = s.cache) :
    (l.foldl f s).cache = s.cache := by
  induction l generalizing s with
  | nil => rfl
  | cons x l ih => simp [ih, h]

@[simp] theorem ite_med (c : Prop) [Decidable c] (a b : State) : (if c then a else b).med = if c then a.med else b.med :=
  apply_ite (fun x : State => x.med) _ _ _
@[simp] theorem foldl_med {α} (f : State → α → State) (l : List α) (s : State) (h : ∀ s a, (f s a).med = s.med) :
    (l.foldl f s).med = s.med := by
  induction l generalizing s with
  | nil => rfl
  | cons x l ih => simp [ih, h]

@[simp] theorem ite_keys (c : Prop) [Decidable c] (a b : State) : (if c then a else b).keys = if c then a.keys else b.keys :=
  apply_ite (fun x : State => x.keys) _ _ _
@[simp] theorem foldl_keys {α} (f : State → α → State) (l : List α) (s : State) (h : ∀ s a, (f s a).keys = s.keys) :
    (l.foldl f s).keys = s.keys := by
  induction l generalizing s with
  | nil => rfl
  | cons x l ih => simp [ih, h]

@[simp] theorem ite_wear (c : Prop) [Decidable c] (a b : State) : (if c then a else b).wear = if c then a.wear else b.wear :=
  apply_ite (fun x : State => x.wear) _ _ _
@[simp] theorem foldl_wear {α} (f : State → α → State) (l : List α) (s : State) (h : ∀ s a, (f s a).wear = s.wear) :
    (l.foldl f s).wear = s.wear := by
  induction l generalizing s with
  | nil => rfl
  | cons x l ih => simp [ih, h]

@[simp] theorem ite_drift (c : Prop) [Decidable c] (a b : State) : (if c then a else b).drift = if c then a.drift else b.drift :=
  apply_ite (fun x : State => x.drift) _ _ _
@[simp] theorem foldl_drift {α} (f : State → α → State) (l : List α) (s : State) (h : ∀ s a, (f s a).drift = s.drift) :
    (l.foldl f s).drift = s.drift := by
  induction l generalizing s with
  | nil => rfl
  | cons x l ih => simp [ih, h]

@[simp] theorem ite_pair (c : Prop) [Decidable c] (a b : State) : (if c then a else b).pair = if c then a.pair else b.pair :=
  apply_ite (fun x : State => x.pair) _ _ _
@[simp] theorem foldl_pair {α} (f : State → α → State) (l : List α) (s : State) (h : ∀ s a, (f s a).pair = s.pair) :
    (l.foldl f s).pair = s.pair := by
  induction l generalizing s with
  | nil => rfl
  | cons x l ih => simp [ih, h]

@[simp] theorem ite_flt (c : Prop) [Decidable c] (a b : State) : (if c then a else b).flt = if c then a.flt else b.flt :=
  apply_ite (fun x : State => x.flt) _ _ _
@[simp] theorem foldl_flt {α} (f : State → α → State) (l : List α) (s : State) (h : ∀ s a, (f s a).flt = s.flt) :
    (l.foldl f s).flt = s.flt := by
  induction l generalizing s with
  | nil => rfl
  | cons x l ih => simp [ih, h]

@[simp] theorem ite_ag (c : Prop) [Decidable c] (a b : State) : (if c then a else b).ag = if c then a.ag else b.ag :=
  apply_ite (fun x : State => x.ag) _ _ _
@[simp] theorem foldl_ag {α} (f : State → α → State) (l : List α) (s : State) (h : ∀ s a, (f s a).ag = s.ag) :
    (l.foldl f s).ag = s.ag := by
  induction l generalizing s with
  | nil => rfl
  | cons x l ih => simp [ih, h]

@[simp] theorem ite_qz (c : Prop) [Decidable c] (a b : State) : (if c then a else b).qz = if c then a.qz else b.qz :=
  apply_ite (fun x : State => x.qz) _ _ _
@[simp] theorem foldl_qz {α} (f : State → α → State) (l : List α) (s : State) (h : ∀ s a, (f s a).qz = s.qz) :
    (l.foldl f s).qz = s.qz := by
  induction l generalizing s with
  | nil => rfl
  | cons x l ih => simp [ih, h]

@[simp] theorem ite_zir (c : Prop) [Decidable c] (a b : State) : (if c then a else b).zir = if c then a.zir else b.zir :=
  apply_ite (fun x : State => x.zir) _ _ _
@[simp] theorem foldl_zir {α} (f : State → α → State) (l : List α) (s : State) (h : ∀ s a, (f s a).zir = s.zir) :
    (l.foldl f s).zir = s.zir := by
  induction l generalizing s with
  | nil => rfl
  | cons x l ih => simp [ih, h]

@[simp] theorem ite_th (c : Prop) [Decidable c] (a b : State) : (if c then a else b).th = if c then a.th else b.th :=
  apply_ite (fun x : State => x.th) _ _ _
@[simp] theorem foldl_th {α} (f : State → α → State) (l : List α) (s : State) (h : ∀ s a, (f s a).th = s.th) :
    (l.foldl f s).th = s.th := by
  induction l generalizing s with
  | nil => rfl
  | cons x l ih => simp [ih, h]

@[simp] theorem ite_beryl (c : Prop) [Decidable c] (a b : State) : (if c then a else b).beryl = if c then a.beryl else b.beryl :=
  apply_ite (fun x : State => x.beryl) _ _ _
@[simp] theorem foldl_beryl {α} (f : State → α → State) (l : List α) (s : State) (h : ∀ s a, (f s a).beryl = s.beryl) :
    (l.foldl f s).beryl = s.beryl := by
  induction l generalizing s with
  | nil => rfl
  | cons x l ih => simp [ih, h]

@[simp] theorem ite_sec (c : Prop) [Decidable c] (a b : State) : (if c then a else b).sec = if c then a.sec else b.sec :=
  apply_ite (fun x : State => x.sec) _ _ _
@[simp] theorem foldl_sec {α} (f : State → α → State) (l : List α) (s : State) (h : ∀ s a, (f s a).sec = s.sec) :
    (l.foldl f s).sec = s.sec := by
  induction l generalizing s with
  | nil => rfl
  | cons x l ih => simp [ih, h]

@[simp] theorem ite_fst {α} (c : Prop) [Decidable c] (a b : State × α) : (if c then a else b).1 = if c then a.1 else b.1 := apply_ite _ _ _ _

@[simp] theorem emit_keeps (s : Sys2Proof.Machine.State) (a : Out) : (emit s a).pending = s.pending ∧ (emit s a).freeCtr = s.freeCtr ∧ (emit s
    a).regs = s.regs ∧ (emit s a).req = s.req ∧ (emit s a).pwr = s.pwr ∧ (emit s a).ports = s.ports ∧ (emit s a).rings = s.rings ∧ (emit s a).cmds =
    s.cmds ∧ (emit s a).tabs = s.tabs ∧ (emit s a).mapu = s.mapu ∧ (emit s a).cist = s.cist ∧ (emit s a).cache = s.cache ∧ (emit s a).med = s.med ∧
    (emit s a).keys = s.keys ∧ (emit s a).wear = s.wear ∧ (emit s a).drift = s.drift ∧ (emit s a).pair = s.pair ∧ (emit s a).flt = s.flt ∧ (emit s
    a).ag = s.ag ∧ (emit s a).qz = s.qz ∧ (emit s a).zir = s.zir ∧ (emit s a).th = s.th ∧ (emit s a).beryl = s.beryl ∧ (emit s a).sec = s.sec := by
  first
  | (simp [emit]; done)
  | (unfold emit; (try simp only []); (repeat' split) <;> (try intro ht) <;> (simp_all; done); done)

@[simp] theorem mboxAns_keeps (s : Sys2Proof.Machine.State) (a : Sys2Proof.Port) (b : ℕ) (c : List ℕ) : (mboxAns s a b c).pending = s.pending ∧
    (mboxAns s a b c).freeCtr = s.freeCtr ∧ (mboxAns s a b c).regs = s.regs ∧ (mboxAns s a b c).req = s.req ∧ (mboxAns s a b c).pwr = s.pwr ∧
    (mboxAns s a b c).ports = s.ports ∧ (mboxAns s a b c).rings = s.rings ∧ (mboxAns s a b c).cmds = s.cmds ∧ (mboxAns s a b c).tabs = s.tabs ∧
    (mboxAns s a b c).mapu = s.mapu ∧ (mboxAns s a b c).cist = s.cist ∧ (mboxAns s a b c).cache = s.cache ∧ (mboxAns s a b c).med = s.med ∧ (mboxAns
    s a b c).keys = s.keys ∧ (mboxAns s a b c).wear = s.wear ∧ (mboxAns s a b c).drift = s.drift ∧ (mboxAns s a b c).pair = s.pair ∧ (mboxAns s a b
    c).flt = s.flt ∧ (mboxAns s a b c).ag = s.ag ∧ (mboxAns s a b c).qz = s.qz ∧ (mboxAns s a b c).zir = s.zir ∧ (mboxAns s a b c).th = s.th ∧
    (mboxAns s a b c).beryl = s.beryl ∧ (mboxAns s a b c).sec = s.sec := by
  first
  | (simp [mboxAns]; done)
  | (unfold mboxAns; (try simp only []); (repeat' split) <;> (try intro ht) <;> (simp_all; done); done)

@[simp] theorem mboxCmd_pending (s : State) (p : Sys2Proof.Port) (b : Bool) (f : State → State) (h : ∀ s, (f s).pending = s.pending) : (mboxCmd s p b f).pending = s.pending := by unfold mboxCmd; (repeat' split) <;> simp_all
@[simp] theorem mboxCmd_freeCtr (s : State) (p : Sys2Proof.Port) (b : Bool) (f : State → State) (h : ∀ s, (f s).freeCtr = s.freeCtr) : (mboxCmd s p b f).freeCtr = s.freeCtr := by unfold mboxCmd; (repeat' split) <;> simp_all
@[simp] theorem mboxCmd_regs (s : State) (p : Sys2Proof.Port) (b : Bool) (f : State → State) (h : ∀ s, (f s).regs = s.regs) : (mboxCmd s p b f).regs = s.regs := by unfold mboxCmd; (repeat' split) <;> simp_all
@[simp] theorem mboxCmd_req (s : State) (p : Sys2Proof.Port) (b : Bool) (f : State → State) (h : ∀ s, (f s).req = s.req) : (mboxCmd s p b f).req = s.req := by unfold mboxCmd; (repeat' split) <;> simp_all
@[simp] theorem mboxCmd_pwr (s : State) (p : Sys2Proof.Port) (b : Bool) (f : State → State) (h : ∀ s, (f s).pwr = s.pwr) : (mboxCmd s p b f).pwr = s.pwr := by unfold mboxCmd; (repeat' split) <;> simp_all
@[simp] theorem mboxCmd_ports (s : State) (p : Sys2Proof.Port) (b : Bool) (f : State → State) (h : ∀ s, (f s).ports = s.ports) : (mboxCmd s p b f).ports = s.ports := by unfold mboxCmd; (repeat' split) <;> simp_all
@[simp] theorem mboxCmd_rings (s : State) (p : Sys2Proof.Port) (b : Bool) (f : State → State) (h : ∀ s, (f s).rings = s.rings) : (mboxCmd s p b f).rings = s.rings := by unfold mboxCmd; (repeat' split) <;> simp_all
@[simp] theorem mboxCmd_cmds (s : State) (p : Sys2Proof.Port) (b : Bool) (f : State → State) (h : ∀ s, (f s).cmds = s.cmds) : (mboxCmd s p b f).cmds = s.cmds := by unfold mboxCmd; (repeat' split) <;> simp_all
@[simp] theorem mboxCmd_tabs (s : State) (p : Sys2Proof.Port) (b : Bool) (f : State → State) (h : ∀ s, (f s).tabs = s.tabs) : (mboxCmd s p b f).tabs = s.tabs := by unfold mboxCmd; (repeat' split) <;> simp_all
@[simp] theorem mboxCmd_mapu (s : State) (p : Sys2Proof.Port) (b : Bool) (f : State → State) (h : ∀ s, (f s).mapu = s.mapu) : (mboxCmd s p b f).mapu = s.mapu := by unfold mboxCmd; (repeat' split) <;> simp_all
@[simp] theorem mboxCmd_cist (s : State) (p : Sys2Proof.Port) (b : Bool) (f : State → State) (h : ∀ s, (f s).cist = s.cist) : (mboxCmd s p b f).cist = s.cist := by unfold mboxCmd; (repeat' split) <;> simp_all
@[simp] theorem mboxCmd_cache (s : State) (p : Sys2Proof.Port) (b : Bool) (f : State → State) (h : ∀ s, (f s).cache = s.cache) : (mboxCmd s p b f).cache = s.cache := by unfold mboxCmd; (repeat' split) <;> simp_all
@[simp] theorem mboxCmd_med (s : State) (p : Sys2Proof.Port) (b : Bool) (f : State → State) (h : ∀ s, (f s).med = s.med) : (mboxCmd s p b f).med = s.med := by unfold mboxCmd; (repeat' split) <;> simp_all
@[simp] theorem mboxCmd_keys (s : State) (p : Sys2Proof.Port) (b : Bool) (f : State → State) (h : ∀ s, (f s).keys = s.keys) : (mboxCmd s p b f).keys = s.keys := by unfold mboxCmd; (repeat' split) <;> simp_all
@[simp] theorem mboxCmd_wear (s : State) (p : Sys2Proof.Port) (b : Bool) (f : State → State) (h : ∀ s, (f s).wear = s.wear) : (mboxCmd s p b f).wear = s.wear := by unfold mboxCmd; (repeat' split) <;> simp_all
@[simp] theorem mboxCmd_drift (s : State) (p : Sys2Proof.Port) (b : Bool) (f : State → State) (h : ∀ s, (f s).drift = s.drift) : (mboxCmd s p b f).drift = s.drift := by unfold mboxCmd; (repeat' split) <;> simp_all
@[simp] theorem mboxCmd_pair (s : State) (p : Sys2Proof.Port) (b : Bool) (f : State → State) (h : ∀ s, (f s).pair = s.pair) : (mboxCmd s p b f).pair = s.pair := by unfold mboxCmd; (repeat' split) <;> simp_all
@[simp] theorem mboxCmd_flt (s : State) (p : Sys2Proof.Port) (b : Bool) (f : State → State) (h : ∀ s, (f s).flt = s.flt) : (mboxCmd s p b f).flt = s.flt := by unfold mboxCmd; (repeat' split) <;> simp_all
@[simp] theorem mboxCmd_ag (s : State) (p : Sys2Proof.Port) (b : Bool) (f : State → State) (h : ∀ s, (f s).ag = s.ag) : (mboxCmd s p b f).ag = s.ag := by unfold mboxCmd; (repeat' split) <;> simp_all
@[simp] theorem mboxCmd_qz (s : State) (p : Sys2Proof.Port) (b : Bool) (f : State → State) (h : ∀ s, (f s).qz = s.qz) : (mboxCmd s p b f).qz = s.qz := by unfold mboxCmd; (repeat' split) <;> simp_all
@[simp] theorem mboxCmd_zir (s : State) (p : Sys2Proof.Port) (b : Bool) (f : State → State) (h : ∀ s, (f s).zir = s.zir) : (mboxCmd s p b f).zir = s.zir := by unfold mboxCmd; (repeat' split) <;> simp_all
@[simp] theorem mboxCmd_th (s : State) (p : Sys2Proof.Port) (b : Bool) (f : State → State) (h : ∀ s, (f s).th = s.th) : (mboxCmd s p b f).th = s.th := by unfold mboxCmd; (repeat' split) <;> simp_all
@[simp] theorem mboxCmd_beryl (s : State) (p : Sys2Proof.Port) (b : Bool) (f : State → State) (h : ∀ s, (f s).beryl = s.beryl) : (mboxCmd s p b f).beryl = s.beryl := by unfold mboxCmd; (repeat' split) <;> simp_all
@[simp] theorem mboxCmd_sec (s : State) (p : Sys2Proof.Port) (b : Bool) (f : State → State) (h : ∀ s, (f s).sec = s.sec) : (mboxCmd s p b f).sec = s.sec := by unfold mboxCmd; (repeat' split) <;> simp_all

@[simp] theorem modPort_keeps (s : Sys2Proof.Machine.State) (a : ℕ) (b : PortSt → PortSt) : (modPort s a b).pending = s.pending ∧ (modPort s a
    b).out = s.out ∧ (modPort s a b).freeCtr = s.freeCtr ∧ (modPort s a b).regs = s.regs ∧ (modPort s a b).req = s.req ∧ (modPort s a b).pwr = s.pwr
    ∧ (modPort s a b).rings = s.rings ∧ (modPort s a b).cmds = s.cmds ∧ (modPort s a b).tabs = s.tabs ∧ (modPort s a b).mapu = s.mapu ∧ (modPort s a
    b).cist = s.cist ∧ (modPort s a b).cache = s.cache ∧ (modPort s a b).med = s.med ∧ (modPort s a b).keys = s.keys ∧ (modPort s a b).wear = s.wear
    ∧ (modPort s a b).drift = s.drift ∧ (modPort s a b).pair = s.pair ∧ (modPort s a b).flt = s.flt ∧ (modPort s a b).ag = s.ag ∧ (modPort s a b).qz
    = s.qz ∧ (modPort s a b).zir = s.zir ∧ (modPort s a b).th = s.th ∧ (modPort s a b).beryl = s.beryl ∧ (modPort s a b).sec = s.sec := by
  first
  | (simp [modPort]; done)
  | (unfold modPort; (try simp only []); (repeat' split) <;> (try intro ht) <;> (simp_all; done); done)

@[simp] theorem modRing_keeps (s : Sys2Proof.Machine.State) (a : ℕ) (b : Sys2Proof.Machine.Ring → Sys2Proof.Machine.Ring) : (modRing s a b).pending
    = s.pending ∧ (modRing s a b).out = s.out ∧ (modRing s a b).freeCtr = s.freeCtr ∧ (modRing s a b).regs = s.regs ∧ (modRing s a b).req = s.req ∧
    (modRing s a b).pwr = s.pwr ∧ (modRing s a b).ports = s.ports ∧ (modRing s a b).cmds = s.cmds ∧ (modRing s a b).tabs = s.tabs ∧ (modRing s a
    b).mapu = s.mapu ∧ (modRing s a b).cist = s.cist ∧ (modRing s a b).cache = s.cache ∧ (modRing s a b).med = s.med ∧ (modRing s a b).keys = s.keys
    ∧ (modRing s a b).wear = s.wear ∧ (modRing s a b).drift = s.drift ∧ (modRing s a b).pair = s.pair ∧ (modRing s a b).flt = s.flt ∧ (modRing s a
    b).ag = s.ag ∧ (modRing s a b).qz = s.qz ∧ (modRing s a b).zir = s.zir ∧ (modRing s a b).th = s.th ∧ (modRing s a b).beryl = s.beryl ∧ (modRing
    s a b).sec = s.sec := by
  first
  | (simp [modRing]; done)
  | (unfold modRing; (try simp only []); (repeat' split) <;> (try intro ht) <;> (simp_all; done); done)

@[simp] theorem setCell_keeps (s : Sys2Proof.Machine.State) (a : Blk) (b : ℕ) (c : ℕ) (d : RegCell) : (setCell s a b c d).pending = s.pending ∧
    (setCell s a b c d).out = s.out ∧ (setCell s a b c d).freeCtr = s.freeCtr ∧ (setCell s a b c d).req = s.req ∧ (setCell s a b c d).pwr = s.pwr ∧
    (setCell s a b c d).ports = s.ports ∧ (setCell s a b c d).rings = s.rings ∧ (setCell s a b c d).cmds = s.cmds ∧ (setCell s a b c d).tabs =
    s.tabs ∧ (setCell s a b c d).mapu = s.mapu ∧ (setCell s a b c d).cist = s.cist ∧ (setCell s a b c d).cache = s.cache ∧ (setCell s a b c d).med =
    s.med ∧ (setCell s a b c d).keys = s.keys ∧ (setCell s a b c d).wear = s.wear ∧ (setCell s a b c d).drift = s.drift ∧ (setCell s a b c d).pair =
    s.pair ∧ (setCell s a b c d).flt = s.flt ∧ (setCell s a b c d).ag = s.ag ∧ (setCell s a b c d).qz = s.qz ∧ (setCell s a b c d).zir = s.zir ∧
    (setCell s a b c d).th = s.th ∧ (setCell s a b c d).beryl = s.beryl ∧ (setCell s a b c d).sec = s.sec := by
  first
  | (simp [setCell]; done)
  | (unfold setCell; (try simp only []); (repeat' split) <;> (try intro ht) <;> (simp_all; done); done)

@[simp] theorem setRC_keeps (s : Sys2Proof.Machine.State) (a : Blk) (b : ℕ) (c : ℕ) (d : ℕ) : (setRC s a b c d).pending = s.pending ∧ (setRC s a b c
    d).out = s.out ∧ (setRC s a b c d).freeCtr = s.freeCtr ∧ (setRC s a b c d).req = s.req ∧ (setRC s a b c d).pwr = s.pwr ∧ (setRC s a b c d).ports
    = s.ports ∧ (setRC s a b c d).rings = s.rings ∧ (setRC s a b c d).cmds = s.cmds ∧ (setRC s a b c d).tabs = s.tabs ∧ (setRC s a b c d).mapu =
    s.mapu ∧ (setRC s a b c d).cist = s.cist ∧ (setRC s a b c d).cache = s.cache ∧ (setRC s a b c d).med = s.med ∧ (setRC s a b c d).keys = s.keys ∧
    (setRC s a b c d).wear = s.wear ∧ (setRC s a b c d).drift = s.drift ∧ (setRC s a b c d).pair = s.pair ∧ (setRC s a b c d).flt = s.flt ∧ (setRC s
    a b c d).ag = s.ag ∧ (setRC s a b c d).qz = s.qz ∧ (setRC s a b c d).zir = s.zir ∧ (setRC s a b c d).th = s.th ∧ (setRC s a b c d).beryl =
    s.beryl ∧ (setRC s a b c d).sec = s.sec := by
  first
  | (simp [setRC]; done)
  | (unfold setRC; (try simp only []); (repeat' split) <;> (try intro ht) <;> (simp_all; done); done)

@[simp] theorem flagRing_keeps (s : Sys2Proof.Machine.State) (a : ℕ) (b : ℕ) : (flagRing s a b).pending = s.pending ∧ (flagRing s a b).out = s.out ∧
    (flagRing s a b).freeCtr = s.freeCtr ∧ (flagRing s a b).req = s.req ∧ (flagRing s a b).pwr = s.pwr ∧ (flagRing s a b).ports = s.ports ∧
    (flagRing s a b).rings = s.rings ∧ (flagRing s a b).cmds = s.cmds ∧ (flagRing s a b).tabs = s.tabs ∧ (flagRing s a b).mapu = s.mapu ∧ (flagRing
    s a b).cist = s.cist ∧ (flagRing s a b).cache = s.cache ∧ (flagRing s a b).med = s.med ∧ (flagRing s a b).keys = s.keys ∧ (flagRing s a b).wear
    = s.wear ∧ (flagRing s a b).drift = s.drift ∧ (flagRing s a b).pair = s.pair ∧ (flagRing s a b).flt = s.flt ∧ (flagRing s a b).ag = s.ag ∧
    (flagRing s a b).qz = s.qz ∧ (flagRing s a b).zir = s.zir ∧ (flagRing s a b).th = s.th ∧ (flagRing s a b).beryl = s.beryl ∧ (flagRing s a b).sec
    = s.sec := by
  first
  | (simp [flagRing]; done)
  | (unfold flagRing; (try simp only []); (repeat' split) <;> (try intro ht) <;> (simp_all; done); done)

@[simp] theorem flagCplFull_keeps (s : Sys2Proof.Machine.State) (a : ℕ) : (flagCplFull s a).pending = s.pending ∧ (flagCplFull s a).out = s.out ∧
    (flagCplFull s a).freeCtr = s.freeCtr ∧ (flagCplFull s a).req = s.req ∧ (flagCplFull s a).pwr = s.pwr ∧ (flagCplFull s a).ports = s.ports ∧
    (flagCplFull s a).rings = s.rings ∧ (flagCplFull s a).cmds = s.cmds ∧ (flagCplFull s a).tabs = s.tabs ∧ (flagCplFull s a).mapu = s.mapu ∧
    (flagCplFull s a).cist = s.cist ∧ (flagCplFull s a).cache = s.cache ∧ (flagCplFull s a).med = s.med ∧ (flagCplFull s a).keys = s.keys ∧
    (flagCplFull s a).wear = s.wear ∧ (flagCplFull s a).drift = s.drift ∧ (flagCplFull s a).pair = s.pair ∧ (flagCplFull s a).flt = s.flt ∧
    (flagCplFull s a).ag = s.ag ∧ (flagCplFull s a).qz = s.qz ∧ (flagCplFull s a).zir = s.zir ∧ (flagCplFull s a).th = s.th ∧ (flagCplFull s
    a).beryl = s.beryl ∧ (flagCplFull s a).sec = s.sec := by
  first
  | (simp [flagCplFull]; done)
  | (unfold flagCplFull; (try simp only []); (repeat' split) <;> (try intro ht) <;> (simp_all; done); done)

@[simp] theorem postCpl_keeps (s : Sys2Proof.Machine.State) (a : ℕ) (b : Desc) (c : ℕ) (d : ℕ) (e : List (BitVec 8)) : (postCpl s a b c d e).pending
    = s.pending ∧ (postCpl s a b c d e).freeCtr = s.freeCtr ∧ (postCpl s a b c d e).req = s.req ∧ (postCpl s a b c d e).pwr = s.pwr ∧ (postCpl s a b
    c d e).ports = s.ports ∧ (postCpl s a b c d e).cmds = s.cmds ∧ (postCpl s a b c d e).tabs = s.tabs ∧ (postCpl s a b c d e).mapu = s.mapu ∧
    (postCpl s a b c d e).cist = s.cist ∧ (postCpl s a b c d e).cache = s.cache ∧ (postCpl s a b c d e).med = s.med ∧ (postCpl s a b c d e).keys =
    s.keys ∧ (postCpl s a b c d e).wear = s.wear ∧ (postCpl s a b c d e).drift = s.drift ∧ (postCpl s a b c d e).pair = s.pair ∧ (postCpl s a b c d
    e).flt = s.flt ∧ (postCpl s a b c d e).ag = s.ag ∧ (postCpl s a b c d e).qz = s.qz ∧ (postCpl s a b c d e).zir = s.zir ∧ (postCpl s a b c d
    e).th = s.th ∧ (postCpl s a b c d e).beryl = s.beryl ∧ (postCpl s a b c d e).sec = s.sec := by
  first
  | (simp [postCpl]; done)
  | (unfold postCpl; (try simp only []); (repeat' split) <;> (try intro ht) <;> (simp_all; done); done)

@[simp] theorem completeRun_keeps (s : Sys2Proof.Machine.State) (a : Running) (b : ℕ) (c : ℕ) (d : List (BitVec 8)) : (completeRun s a b c
    d).pending = s.pending ∧ (completeRun s a b c d).freeCtr = s.freeCtr ∧ (completeRun s a b c d).req = s.req ∧ (completeRun s a b c d).pwr = s.pwr
    ∧ (completeRun s a b c d).ports = s.ports ∧ (completeRun s a b c d).tabs = s.tabs ∧ (completeRun s a b c d).mapu = s.mapu ∧ (completeRun s a b c
    d).cist = s.cist ∧ (completeRun s a b c d).cache = s.cache ∧ (completeRun s a b c d).med = s.med ∧ (completeRun s a b c d).keys = s.keys ∧
    (completeRun s a b c d).wear = s.wear ∧ (completeRun s a b c d).drift = s.drift ∧ (completeRun s a b c d).pair = s.pair ∧ (completeRun s a b c
    d).flt = s.flt ∧ (completeRun s a b c d).ag = s.ag ∧ (completeRun s a b c d).qz = s.qz ∧ (completeRun s a b c d).zir = s.zir ∧ (completeRun s a
    b c d).th = s.th ∧ (completeRun s a b c d).beryl = s.beryl ∧ (completeRun s a b c d).sec = s.sec := by
  first
  | (simp [completeRun]; done)
  | (unfold completeRun; (try simp only []); (repeat' split) <;> (try intro ht) <;> (simp_all; done); done)

@[simp] theorem sendNow_keeps (s : Sys2Proof.Machine.State) (a : Msg) : (sendNow s a).pending = s.pending ∧ (sendNow s a).freeCtr = s.freeCtr ∧
    (sendNow s a).regs = s.regs ∧ (sendNow s a).req = s.req ∧ (sendNow s a).pwr = s.pwr ∧ (sendNow s a).ports = s.ports ∧ (sendNow s a).rings =
    s.rings ∧ (sendNow s a).cmds = s.cmds ∧ (sendNow s a).tabs = s.tabs ∧ (sendNow s a).mapu = s.mapu ∧ (sendNow s a).cist = s.cist ∧ (sendNow s
    a).cache = s.cache ∧ (sendNow s a).med = s.med ∧ (sendNow s a).keys = s.keys ∧ (sendNow s a).wear = s.wear ∧ (sendNow s a).drift = s.drift ∧
    (sendNow s a).flt = s.flt ∧ (sendNow s a).ag = s.ag ∧ (sendNow s a).qz = s.qz ∧ (sendNow s a).zir = s.zir ∧ (sendNow s a).th = s.th ∧ (sendNow s
    a).beryl = s.beryl ∧ (sendNow s a).sec = s.sec := by
  first
  | (simp [sendNow]; done)
  | (unfold sendNow; (try simp only []); (repeat' split) <;> (try intro ht) <;> (simp_all; done); done)

@[simp] theorem send_keeps (s : Sys2Proof.Machine.State) (a : Msg) : (send s a).pending = s.pending ∧ (send s a).freeCtr = s.freeCtr ∧ (send s
    a).regs = s.regs ∧ (send s a).req = s.req ∧ (send s a).pwr = s.pwr ∧ (send s a).ports = s.ports ∧ (send s a).rings = s.rings ∧ (send s a).cmds =
    s.cmds ∧ (send s a).tabs = s.tabs ∧ (send s a).mapu = s.mapu ∧ (send s a).cist = s.cist ∧ (send s a).cache = s.cache ∧ (send s a).med = s.med ∧
    (send s a).keys = s.keys ∧ (send s a).wear = s.wear ∧ (send s a).drift = s.drift ∧ (send s a).flt = s.flt ∧ (send s a).ag = s.ag ∧ (send s a).qz
    = s.qz ∧ (send s a).zir = s.zir ∧ (send s a).th = s.th ∧ (send s a).beryl = s.beryl ∧ (send s a).sec = s.sec := by
  first
  | (simp [send]; done)
  | (unfold send; (try simp only []); (repeat' split) <;> (try intro ht) <;> (simp_all; done); done)

@[simp] theorem sendNote_keeps (s : Sys2Proof.Machine.State) (a : Sys2Proof.NoteCause) : (sendNote s a).pending = s.pending ∧ (sendNote s a).freeCtr
    = s.freeCtr ∧ (sendNote s a).regs = s.regs ∧ (sendNote s a).req = s.req ∧ (sendNote s a).pwr = s.pwr ∧ (sendNote s a).ports = s.ports ∧
    (sendNote s a).rings = s.rings ∧ (sendNote s a).cmds = s.cmds ∧ (sendNote s a).tabs = s.tabs ∧ (sendNote s a).mapu = s.mapu ∧ (sendNote s
    a).cist = s.cist ∧ (sendNote s a).cache = s.cache ∧ (sendNote s a).med = s.med ∧ (sendNote s a).keys = s.keys ∧ (sendNote s a).wear = s.wear ∧
    (sendNote s a).drift = s.drift ∧ (sendNote s a).flt = s.flt ∧ (sendNote s a).ag = s.ag ∧ (sendNote s a).qz = s.qz ∧ (sendNote s a).zir = s.zir ∧
    (sendNote s a).th = s.th ∧ (sendNote s a).beryl = s.beryl ∧ (sendNote s a).sec = s.sec := by
  first
  | (simp [sendNote]; done)
  | (unfold sendNote; (try simp only []); (repeat' split) <;> (try intro ht) <;> (simp_all; done); done)

@[simp] theorem modMove_keeps (s : Sys2Proof.Machine.State) (a : ℕ) (b : Move → Move) : (modMove s a b).pending = s.pending ∧ (modMove s a b).out =
    s.out ∧ (modMove s a b).freeCtr = s.freeCtr ∧ (modMove s a b).regs = s.regs ∧ (modMove s a b).req = s.req ∧ (modMove s a b).pwr = s.pwr ∧
    (modMove s a b).ports = s.ports ∧ (modMove s a b).rings = s.rings ∧ (modMove s a b).cmds = s.cmds ∧ (modMove s a b).tabs = s.tabs ∧ (modMove s a
    b).mapu = s.mapu ∧ (modMove s a b).cist = s.cist ∧ (modMove s a b).cache = s.cache ∧ (modMove s a b).med = s.med ∧ (modMove s a b).keys = s.keys
    ∧ (modMove s a b).drift = s.drift ∧ (modMove s a b).pair = s.pair ∧ (modMove s a b).flt = s.flt ∧ (modMove s a b).ag = s.ag ∧ (modMove s a b).qz
    = s.qz ∧ (modMove s a b).zir = s.zir ∧ (modMove s a b).th = s.th ∧ (modMove s a b).beryl = s.beryl ∧ (modMove s a b).sec = s.sec := by
  first
  | (simp [modMove]; done)
  | (unfold modMove; (try simp only []); (repeat' split) <;> (try intro ht) <;> (simp_all; done); done)

@[simp] theorem gotLine_keeps (s : Sys2Proof.Machine.State) (a : ℕ) (b : ℕ) (c : Sys2Proof.Line) (d : Bool) (e : BitVec 2) : (gotLine s a b c d
    e).pending = s.pending ∧ (gotLine s a b c d e).out = s.out ∧ (gotLine s a b c d e).freeCtr = s.freeCtr ∧ (gotLine s a b c d e).regs = s.regs ∧
    (gotLine s a b c d e).req = s.req ∧ (gotLine s a b c d e).pwr = s.pwr ∧ (gotLine s a b c d e).ports = s.ports ∧ (gotLine s a b c d e).rings =
    s.rings ∧ (gotLine s a b c d e).cmds = s.cmds ∧ (gotLine s a b c d e).tabs = s.tabs ∧ (gotLine s a b c d e).mapu = s.mapu ∧ (gotLine s a b c d
    e).cist = s.cist ∧ (gotLine s a b c d e).cache = s.cache ∧ (gotLine s a b c d e).med = s.med ∧ (gotLine s a b c d e).keys = s.keys ∧ (gotLine s
    a b c d e).drift = s.drift ∧ (gotLine s a b c d e).pair = s.pair ∧ (gotLine s a b c d e).flt = s.flt ∧ (gotLine s a b c d e).ag = s.ag ∧
    (gotLine s a b c d e).qz = s.qz ∧ (gotLine s a b c d e).zir = s.zir ∧ (gotLine s a b c d e).th = s.th ∧ (gotLine s a b c d e).beryl = s.beryl ∧
    (gotLine s a b c d e).sec = s.sec := by
  first
  | (simp [gotLine]; done)
  | (unfold gotLine; (try simp only []); (repeat' split) <;> (try intro ht) <;> (simp_all; done); done)

@[simp] theorem poisonAsked_keeps (s : Sys2Proof.Machine.State) : (poisonAsked s).pending = s.pending ∧ (poisonAsked s).out = s.out ∧ (poisonAsked
    s).freeCtr = s.freeCtr ∧ (poisonAsked s).regs = s.regs ∧ (poisonAsked s).req = s.req ∧ (poisonAsked s).pwr = s.pwr ∧ (poisonAsked s).ports =
    s.ports ∧ (poisonAsked s).rings = s.rings ∧ (poisonAsked s).cmds = s.cmds ∧ (poisonAsked s).tabs = s.tabs ∧ (poisonAsked s).mapu = s.mapu ∧
    (poisonAsked s).cist = s.cist ∧ (poisonAsked s).cache = s.cache ∧ (poisonAsked s).med = s.med ∧ (poisonAsked s).keys = s.keys ∧ (poisonAsked
    s).drift = s.drift ∧ (poisonAsked s).pair = s.pair ∧ (poisonAsked s).flt = s.flt ∧ (poisonAsked s).ag = s.ag ∧ (poisonAsked s).qz = s.qz ∧
    (poisonAsked s).zir = s.zir ∧ (poisonAsked s).th = s.th ∧ (poisonAsked s).beryl = s.beryl ∧ (poisonAsked s).sec = s.sec := by
  first
  | (simp [poisonAsked]; done)
  | (unfold poisonAsked; (try simp only []); (repeat' split) <;> (try intro ht) <;> (simp_all; done); done)

@[simp] theorem endRepairs_keeps (s : Sys2Proof.Machine.State) : (endRepairs s).pending = s.pending ∧ (endRepairs s).out = s.out ∧ (endRepairs
    s).freeCtr = s.freeCtr ∧ (endRepairs s).regs = s.regs ∧ (endRepairs s).req = s.req ∧ (endRepairs s).pwr = s.pwr ∧ (endRepairs s).ports = s.ports
    ∧ (endRepairs s).rings = s.rings ∧ (endRepairs s).cmds = s.cmds ∧ (endRepairs s).tabs = s.tabs ∧ (endRepairs s).mapu = s.mapu ∧ (endRepairs
    s).cist = s.cist ∧ (endRepairs s).cache = s.cache ∧ (endRepairs s).med = s.med ∧ (endRepairs s).keys = s.keys ∧ (endRepairs s).drift = s.drift ∧
    (endRepairs s).flt = s.flt ∧ (endRepairs s).ag = s.ag ∧ (endRepairs s).qz = s.qz ∧ (endRepairs s).zir = s.zir ∧ (endRepairs s).th = s.th ∧
    (endRepairs s).beryl = s.beryl ∧ (endRepairs s).sec = s.sec := by
  first
  | (simp [endRepairs]; done)
  | (unfold endRepairs; (try simp only []); (repeat' split) <;> (try intro ht) <;> (simp_all; done); done)

@[simp] theorem flagQuartzOvf_keeps (s : Sys2Proof.Machine.State) : (flagQuartzOvf s).pending = s.pending ∧ (flagQuartzOvf s).out = s.out ∧
    (flagQuartzOvf s).freeCtr = s.freeCtr ∧ (flagQuartzOvf s).req = s.req ∧ (flagQuartzOvf s).pwr = s.pwr ∧ (flagQuartzOvf s).ports = s.ports ∧
    (flagQuartzOvf s).rings = s.rings ∧ (flagQuartzOvf s).cmds = s.cmds ∧ (flagQuartzOvf s).tabs = s.tabs ∧ (flagQuartzOvf s).mapu = s.mapu ∧
    (flagQuartzOvf s).cist = s.cist ∧ (flagQuartzOvf s).cache = s.cache ∧ (flagQuartzOvf s).med = s.med ∧ (flagQuartzOvf s).keys = s.keys ∧
    (flagQuartzOvf s).wear = s.wear ∧ (flagQuartzOvf s).drift = s.drift ∧ (flagQuartzOvf s).pair = s.pair ∧ (flagQuartzOvf s).flt = s.flt ∧
    (flagQuartzOvf s).ag = s.ag ∧ (flagQuartzOvf s).qz = s.qz ∧ (flagQuartzOvf s).zir = s.zir ∧ (flagQuartzOvf s).th = s.th ∧ (flagQuartzOvf
    s).beryl = s.beryl ∧ (flagQuartzOvf s).sec = s.sec := by
  first
  | (simp [flagQuartzOvf]; done)
  | (unfold flagQuartzOvf; (try simp only []); (repeat' split) <;> (try intro ht) <;> (simp_all; done); done)

@[simp] theorem addCtr_keeps (s : Sys2Proof.Machine.State) (a : ℕ) (b : ℕ) : (addCtr s a b).pending = s.pending ∧ (addCtr s a b).out = s.out ∧
    (addCtr s a b).freeCtr = s.freeCtr ∧ (addCtr s a b).req = s.req ∧ (addCtr s a b).pwr = s.pwr ∧ (addCtr s a b).ports = s.ports ∧ (addCtr s a
    b).rings = s.rings ∧ (addCtr s a b).cmds = s.cmds ∧ (addCtr s a b).tabs = s.tabs ∧ (addCtr s a b).mapu = s.mapu ∧ (addCtr s a b).cist = s.cist ∧
    (addCtr s a b).cache = s.cache ∧ (addCtr s a b).med = s.med ∧ (addCtr s a b).keys = s.keys ∧ (addCtr s a b).wear = s.wear ∧ (addCtr s a b).drift
    = s.drift ∧ (addCtr s a b).pair = s.pair ∧ (addCtr s a b).flt = s.flt ∧ (addCtr s a b).ag = s.ag ∧ (addCtr s a b).zir = s.zir ∧ (addCtr s a
    b).th = s.th ∧ (addCtr s a b).beryl = s.beryl ∧ (addCtr s a b).sec = s.sec := by
  first
  | (simp [addCtr]; done)
  | (unfold addCtr; (try simp only []); (repeat' split) <;> (try intro ht) <;> (simp_all; done); done)

@[simp] theorem count_keeps (s : Sys2Proof.Machine.State) (a : ℕ) (b : Attr) : (count s a b).pending = s.pending ∧ (count s a b).out = s.out ∧
    (count s a b).freeCtr = s.freeCtr ∧ (count s a b).req = s.req ∧ (count s a b).pwr = s.pwr ∧ (count s a b).ports = s.ports ∧ (count s a b).rings
    = s.rings ∧ (count s a b).cmds = s.cmds ∧ (count s a b).tabs = s.tabs ∧ (count s a b).mapu = s.mapu ∧ (count s a b).cist = s.cist ∧ (count s a
    b).cache = s.cache ∧ (count s a b).med = s.med ∧ (count s a b).keys = s.keys ∧ (count s a b).wear = s.wear ∧ (count s a b).drift = s.drift ∧
    (count s a b).pair = s.pair ∧ (count s a b).flt = s.flt ∧ (count s a b).ag = s.ag ∧ (count s a b).zir = s.zir ∧ (count s a b).th = s.th ∧ (count
    s a b).beryl = s.beryl ∧ (count s a b).sec = s.sec := by
  first
  | (simp [count]; done)
  | (unfold count; (try simp only []); (repeat' split) <;> (try intro ht) <;> (simp_all; done); done)

@[simp] theorem flagPump_keeps (s : Sys2Proof.Machine.State) (a : ℕ) : (flagPump s a).pending = s.pending ∧ (flagPump s a).out = s.out ∧ (flagPump s
    a).freeCtr = s.freeCtr ∧ (flagPump s a).req = s.req ∧ (flagPump s a).pwr = s.pwr ∧ (flagPump s a).ports = s.ports ∧ (flagPump s a).rings =
    s.rings ∧ (flagPump s a).cmds = s.cmds ∧ (flagPump s a).tabs = s.tabs ∧ (flagPump s a).mapu = s.mapu ∧ (flagPump s a).cist = s.cist ∧ (flagPump
    s a).cache = s.cache ∧ (flagPump s a).med = s.med ∧ (flagPump s a).keys = s.keys ∧ (flagPump s a).wear = s.wear ∧ (flagPump s a).drift = s.drift
    ∧ (flagPump s a).pair = s.pair ∧ (flagPump s a).flt = s.flt ∧ (flagPump s a).ag = s.ag ∧ (flagPump s a).qz = s.qz ∧ (flagPump s a).zir = s.zir ∧
    (flagPump s a).th = s.th ∧ (flagPump s a).beryl = s.beryl ∧ (flagPump s a).sec = s.sec := by
  first
  | (simp [flagPump]; done)
  | (unfold flagPump; (try simp only []); (repeat' split) <;> (try intro ht) <;> (simp_all; done); done)

@[simp] theorem payPort_keeps (s : Sys2Proof.Machine.State) (a : ℕ) (b : ℕ) : (payPort s a b).pending = s.pending ∧ (payPort s a b).out = s.out ∧
    (payPort s a b).freeCtr = s.freeCtr ∧ (payPort s a b).regs = s.regs ∧ (payPort s a b).req = s.req ∧ (payPort s a b).pwr = s.pwr ∧ (payPort s a
    b).rings = s.rings ∧ (payPort s a b).cmds = s.cmds ∧ (payPort s a b).tabs = s.tabs ∧ (payPort s a b).mapu = s.mapu ∧ (payPort s a b).cache =
    s.cache ∧ (payPort s a b).med = s.med ∧ (payPort s a b).keys = s.keys ∧ (payPort s a b).wear = s.wear ∧ (payPort s a b).drift = s.drift ∧
    (payPort s a b).pair = s.pair ∧ (payPort s a b).flt = s.flt ∧ (payPort s a b).ag = s.ag ∧ (payPort s a b).qz = s.qz ∧ (payPort s a b).zir =
    s.zir ∧ (payPort s a b).th = s.th ∧ (payPort s a b).beryl = s.beryl ∧ (payPort s a b).sec = s.sec := by
  first
  | (simp [payPort]; done)
  | (unfold payPort; (try simp only []); (repeat' split) <;> (try intro ht) <;> (simp_all; done); done)

@[simp] theorem payAll_keeps (s : Sys2Proof.Machine.State) : (payAll s).pending = s.pending ∧ (payAll s).out = s.out ∧ (payAll s).freeCtr =
    s.freeCtr ∧ (payAll s).regs = s.regs ∧ (payAll s).req = s.req ∧ (payAll s).pwr = s.pwr ∧ (payAll s).rings = s.rings ∧ (payAll s).cmds = s.cmds ∧
    (payAll s).tabs = s.tabs ∧ (payAll s).mapu = s.mapu ∧ (payAll s).cache = s.cache ∧ (payAll s).med = s.med ∧ (payAll s).keys = s.keys ∧ (payAll
    s).wear = s.wear ∧ (payAll s).drift = s.drift ∧ (payAll s).pair = s.pair ∧ (payAll s).flt = s.flt ∧ (payAll s).ag = s.ag ∧ (payAll s).qz = s.qz
    ∧ (payAll s).zir = s.zir ∧ (payAll s).th = s.th ∧ (payAll s).beryl = s.beryl ∧ (payAll s).sec = s.sec := by
  first
  | (simp [payAll]; done)
  | (unfold payAll; (try simp only []); (repeat' split) <;> (try intro ht) <;> (simp_all; done); done)

@[simp] theorem resumeCredits_keeps (s : Sys2Proof.Machine.State) : (resumeCredits s).pending = s.pending ∧ (resumeCredits s).freeCtr = s.freeCtr ∧
    (resumeCredits s).regs = s.regs ∧ (resumeCredits s).req = s.req ∧ (resumeCredits s).pwr = s.pwr ∧ (resumeCredits s).rings = s.rings ∧
    (resumeCredits s).cmds = s.cmds ∧ (resumeCredits s).tabs = s.tabs ∧ (resumeCredits s).mapu = s.mapu ∧ (resumeCredits s).cache = s.cache ∧
    (resumeCredits s).med = s.med ∧ (resumeCredits s).keys = s.keys ∧ (resumeCredits s).wear = s.wear ∧ (resumeCredits s).drift = s.drift ∧
    (resumeCredits s).flt = s.flt ∧ (resumeCredits s).ag = s.ag ∧ (resumeCredits s).qz = s.qz ∧ (resumeCredits s).zir = s.zir ∧ (resumeCredits s).th
    = s.th ∧ (resumeCredits s).beryl = s.beryl ∧ (resumeCredits s).sec = s.sec := by
  first
  | (simp [resumeCredits]; done)
  | (unfold resumeCredits; (try simp only []); (repeat' split) <;> (try intro ht) <;> (simp_all; done); done)

@[simp] theorem evalStop_keeps (s : Sys2Proof.Machine.State) : (evalStop s).pending = s.pending ∧ (evalStop s).freeCtr = s.freeCtr ∧ (evalStop
    s).req = s.req ∧ (evalStop s).pwr = s.pwr ∧ (evalStop s).rings = s.rings ∧ (evalStop s).cmds = s.cmds ∧ (evalStop s).tabs = s.tabs ∧ (evalStop
    s).mapu = s.mapu ∧ (evalStop s).cache = s.cache ∧ (evalStop s).med = s.med ∧ (evalStop s).keys = s.keys ∧ (evalStop s).wear = s.wear ∧ (evalStop
    s).drift = s.drift ∧ (evalStop s).flt = s.flt ∧ (evalStop s).ag = s.ag ∧ (evalStop s).zir = s.zir ∧ (evalStop s).th = s.th ∧ (evalStop s).beryl
    = s.beryl ∧ (evalStop s).sec = s.sec := by
  first
  | (simp [evalStop]; done)
  | (unfold evalStop; (try simp only []); (repeat' split) <;> (try intro ht) <;> (simp_all; done); done)

@[simp] theorem flagPair_keeps (s : Sys2Proof.Machine.State) (a : ℕ) : (flagPair s a).pending = s.pending ∧ (flagPair s a).out = s.out ∧ (flagPair s
    a).freeCtr = s.freeCtr ∧ (flagPair s a).req = s.req ∧ (flagPair s a).pwr = s.pwr ∧ (flagPair s a).ports = s.ports ∧ (flagPair s a).rings =
    s.rings ∧ (flagPair s a).cmds = s.cmds ∧ (flagPair s a).tabs = s.tabs ∧ (flagPair s a).mapu = s.mapu ∧ (flagPair s a).cist = s.cist ∧ (flagPair
    s a).cache = s.cache ∧ (flagPair s a).med = s.med ∧ (flagPair s a).keys = s.keys ∧ (flagPair s a).wear = s.wear ∧ (flagPair s a).drift = s.drift
    ∧ (flagPair s a).pair = s.pair ∧ (flagPair s a).flt = s.flt ∧ (flagPair s a).ag = s.ag ∧ (flagPair s a).qz = s.qz ∧ (flagPair s a).zir = s.zir ∧
    (flagPair s a).th = s.th ∧ (flagPair s a).beryl = s.beryl ∧ (flagPair s a).sec = s.sec := by
  first
  | (simp [flagPair]; done)
  | (unfold flagPair; (try simp only []); (repeat' split) <;> (try intro ht) <;> (simp_all; done); done)

@[simp] theorem roleTo_keeps (s : Sys2Proof.Machine.State) (a : Role) : (roleTo s a).pending = s.pending ∧ (roleTo s a).out = s.out ∧ (roleTo s
    a).freeCtr = s.freeCtr ∧ (roleTo s a).req = s.req ∧ (roleTo s a).pwr = s.pwr ∧ (roleTo s a).ports = s.ports ∧ (roleTo s a).rings = s.rings ∧
    (roleTo s a).cmds = s.cmds ∧ (roleTo s a).tabs = s.tabs ∧ (roleTo s a).mapu = s.mapu ∧ (roleTo s a).cist = s.cist ∧ (roleTo s a).cache = s.cache
    ∧ (roleTo s a).med = s.med ∧ (roleTo s a).keys = s.keys ∧ (roleTo s a).wear = s.wear ∧ (roleTo s a).drift = s.drift ∧ (roleTo s a).flt = s.flt ∧
    (roleTo s a).ag = s.ag ∧ (roleTo s a).qz = s.qz ∧ (roleTo s a).zir = s.zir ∧ (roleTo s a).th = s.th ∧ (roleTo s a).beryl = s.beryl ∧ (roleTo s
    a).sec = s.sec := by
  first
  | (simp [roleTo]; done)
  | (unfold roleTo; (try simp only []); (repeat' split) <;> (try intro ht) <;> (simp_all; done); done)

@[simp] theorem agLose_keeps (s : Sys2Proof.Machine.State) (a : Sys2Proof.AgRec) : (agLose s a).pending = s.pending ∧ (agLose s a).freeCtr =
    s.freeCtr ∧ (agLose s a).regs = s.regs ∧ (agLose s a).pwr = s.pwr ∧ (agLose s a).ports = s.ports ∧ (agLose s a).rings = s.rings ∧ (agLose s
    a).cmds = s.cmds ∧ (agLose s a).tabs = s.tabs ∧ (agLose s a).mapu = s.mapu ∧ (agLose s a).cist = s.cist ∧ (agLose s a).cache = s.cache ∧ (agLose
    s a).med = s.med ∧ (agLose s a).keys = s.keys ∧ (agLose s a).wear = s.wear ∧ (agLose s a).drift = s.drift ∧ (agLose s a).flt = s.flt ∧ (agLose s
    a).ag = s.ag ∧ (agLose s a).qz = s.qz ∧ (agLose s a).zir = s.zir ∧ (agLose s a).th = s.th ∧ (agLose s a).beryl = s.beryl ∧ (agLose s a).sec =
    s.sec := by
  first
  | (simp [agLose]; done)
  | (unfold agLose; (try simp only []); (repeat' split) <;> (try intro ht) <;> (simp_all; done); done)

@[simp] theorem setPage_keeps (s : Sys2Proof.Machine.State) (a : ℕ) (b : Sys2Proof.Page) : (setPage s a b).pending = s.pending ∧ (setPage s a b).out
    = s.out ∧ (setPage s a b).freeCtr = s.freeCtr ∧ (setPage s a b).regs = s.regs ∧ (setPage s a b).req = s.req ∧ (setPage s a b).pwr = s.pwr ∧
    (setPage s a b).ports = s.ports ∧ (setPage s a b).rings = s.rings ∧ (setPage s a b).cmds = s.cmds ∧ (setPage s a b).tabs = s.tabs ∧ (setPage s a
    b).mapu = s.mapu ∧ (setPage s a b).cist = s.cist ∧ (setPage s a b).cache = s.cache ∧ (setPage s a b).med = s.med ∧ (setPage s a b).keys = s.keys
    ∧ (setPage s a b).wear = s.wear ∧ (setPage s a b).drift = s.drift ∧ (setPage s a b).pair = s.pair ∧ (setPage s a b).flt = s.flt ∧ (setPage s a
    b).ag = s.ag ∧ (setPage s a b).qz = s.qz ∧ (setPage s a b).zir = s.zir ∧ (setPage s a b).th = s.th ∧ (setPage s a b).sec = s.sec := by
  first
  | (simp [setPage]; done)
  | (unfold setPage; (try simp only []); (repeat' split) <;> (try intro ht) <;> (simp_all; done); done)

@[simp] theorem pgPut_keeps (s : Sys2Proof.Machine.State) (a : ℕ) (b : ℕ) (c : ℕ) (d : ℕ) : (pgPut s a b c d).pending = s.pending ∧ (pgPut s a b c
    d).out = s.out ∧ (pgPut s a b c d).freeCtr = s.freeCtr ∧ (pgPut s a b c d).regs = s.regs ∧ (pgPut s a b c d).req = s.req ∧ (pgPut s a b c d).pwr
    = s.pwr ∧ (pgPut s a b c d).ports = s.ports ∧ (pgPut s a b c d).rings = s.rings ∧ (pgPut s a b c d).cmds = s.cmds ∧ (pgPut s a b c d).tabs =
    s.tabs ∧ (pgPut s a b c d).mapu = s.mapu ∧ (pgPut s a b c d).cist = s.cist ∧ (pgPut s a b c d).cache = s.cache ∧ (pgPut s a b c d).med = s.med ∧
    (pgPut s a b c d).keys = s.keys ∧ (pgPut s a b c d).wear = s.wear ∧ (pgPut s a b c d).drift = s.drift ∧ (pgPut s a b c d).pair = s.pair ∧ (pgPut
    s a b c d).flt = s.flt ∧ (pgPut s a b c d).ag = s.ag ∧ (pgPut s a b c d).qz = s.qz ∧ (pgPut s a b c d).zir = s.zir ∧ (pgPut s a b c d).th = s.th
    ∧ (pgPut s a b c d).sec = s.sec := by
  first
  | (simp [pgPut]; done)
  | (unfold pgPut; (try simp only []); (repeat' split) <;> (try intro ht) <;> (simp_all; done); done)

@[simp] theorem flagBeryl_keeps (s : Sys2Proof.Machine.State) (a : ℕ) : (flagBeryl s a).pending = s.pending ∧ (flagBeryl s a).out = s.out ∧
    (flagBeryl s a).freeCtr = s.freeCtr ∧ (flagBeryl s a).req = s.req ∧ (flagBeryl s a).pwr = s.pwr ∧ (flagBeryl s a).ports = s.ports ∧ (flagBeryl s
    a).rings = s.rings ∧ (flagBeryl s a).cmds = s.cmds ∧ (flagBeryl s a).tabs = s.tabs ∧ (flagBeryl s a).mapu = s.mapu ∧ (flagBeryl s a).cist =
    s.cist ∧ (flagBeryl s a).cache = s.cache ∧ (flagBeryl s a).med = s.med ∧ (flagBeryl s a).keys = s.keys ∧ (flagBeryl s a).wear = s.wear ∧
    (flagBeryl s a).drift = s.drift ∧ (flagBeryl s a).pair = s.pair ∧ (flagBeryl s a).flt = s.flt ∧ (flagBeryl s a).ag = s.ag ∧ (flagBeryl s a).qz =
    s.qz ∧ (flagBeryl s a).zir = s.zir ∧ (flagBeryl s a).th = s.th ∧ (flagBeryl s a).beryl = s.beryl ∧ (flagBeryl s a).sec = s.sec := by
  first
  | (simp [flagBeryl]; done)
  | (unfold flagBeryl; (try simp only []); (repeat' split) <;> (try intro ht) <;> (simp_all; done); done)

@[simp] theorem opEnded_keeps (s : Sys2Proof.Machine.State) (a : StoreOp) : (opEnded s a).pending = s.pending ∧ (opEnded s a).freeCtr = s.freeCtr ∧
    (opEnded s a).req = s.req ∧ (opEnded s a).ports = s.ports ∧ (opEnded s a).tabs = s.tabs ∧ (opEnded s a).mapu = s.mapu ∧ (opEnded s a).cist =
    s.cist ∧ (opEnded s a).cache = s.cache ∧ (opEnded s a).med = s.med ∧ (opEnded s a).keys = s.keys ∧ (opEnded s a).wear = s.wear ∧ (opEnded s
    a).drift = s.drift ∧ (opEnded s a).pair = s.pair ∧ (opEnded s a).flt = s.flt ∧ (opEnded s a).qz = s.qz ∧ (opEnded s a).zir = s.zir ∧ (opEnded s
    a).th = s.th ∧ (opEnded s a).beryl = s.beryl ∧ (opEnded s a).sec = s.sec := by
  first
  | (simp [opEnded]; done)
  | (unfold opEnded; (try simp only []); (repeat' split) <;> (try intro ht) <;> (simp_all; done); done)

@[simp] theorem promoteOps_keeps (a : ℕ) (s : Sys2Proof.Machine.State) : (promoteOps a s).pending = s.pending ∧ (promoteOps a s).freeCtr = s.freeCtr
    ∧ (promoteOps a s).req = s.req ∧ (promoteOps a s).ports = s.ports ∧ (promoteOps a s).tabs = s.tabs ∧ (promoteOps a s).mapu = s.mapu ∧
    (promoteOps a s).cist = s.cist ∧ (promoteOps a s).cache = s.cache ∧ (promoteOps a s).med = s.med ∧ (promoteOps a s).keys = s.keys ∧ (promoteOps
    a s).wear = s.wear ∧ (promoteOps a s).drift = s.drift ∧ (promoteOps a s).pair = s.pair ∧ (promoteOps a s).flt = s.flt ∧ (promoteOps a s).qz =
    s.qz ∧ (promoteOps a s).zir = s.zir ∧ (promoteOps a s).th = s.th ∧ (promoteOps a s).sec = s.sec := by
  fun_induction promoteOps a s <;> (first | (simp_all; done) | simp_all +zetaDelta | (simp_all +zetaDelta; done))

@[simp] theorem startStore_keeps (s : Sys2Proof.Machine.State) (a : ℕ) (b : List (ℕ × ℕ)) (c : Bool) : (startStore s a b c).pending = s.pending ∧
    (startStore s a b c).freeCtr = s.freeCtr ∧ (startStore s a b c).req = s.req ∧ (startStore s a b c).ports = s.ports ∧ (startStore s a b c).tabs =
    s.tabs ∧ (startStore s a b c).mapu = s.mapu ∧ (startStore s a b c).cist = s.cist ∧ (startStore s a b c).cache = s.cache ∧ (startStore s a b
    c).med = s.med ∧ (startStore s a b c).keys = s.keys ∧ (startStore s a b c).wear = s.wear ∧ (startStore s a b c).drift = s.drift ∧ (startStore s
    a b c).pair = s.pair ∧ (startStore s a b c).flt = s.flt ∧ (startStore s a b c).qz = s.qz ∧ (startStore s a b c).zir = s.zir ∧ (startStore s a b
    c).th = s.th ∧ (startStore s a b c).sec = s.sec := by
  first
  | (simp [startStore]; done)
  | (unfold startStore; (try simp only []); (repeat' split) <;> (try intro ht) <;> (simp_all; done); done)

@[simp] theorem agNextSeq_keeps (s : Sys2Proof.Machine.State) : (agNextSeq s).pending = s.pending ∧ (agNextSeq s).freeCtr = s.freeCtr ∧ (agNextSeq
    s).req = s.req ∧ (agNextSeq s).ports = s.ports ∧ (agNextSeq s).tabs = s.tabs ∧ (agNextSeq s).mapu = s.mapu ∧ (agNextSeq s).cist = s.cist ∧
    (agNextSeq s).cache = s.cache ∧ (agNextSeq s).med = s.med ∧ (agNextSeq s).keys = s.keys ∧ (agNextSeq s).wear = s.wear ∧ (agNextSeq s).drift =
    s.drift ∧ (agNextSeq s).pair = s.pair ∧ (agNextSeq s).flt = s.flt ∧ (agNextSeq s).qz = s.qz ∧ (agNextSeq s).zir = s.zir ∧ (agNextSeq s).th =
    s.th ∧ (agNextSeq s).sec = s.sec := by
  first
  | (simp [agNextSeq]; done)
  | (unfold agNextSeq; (try simp only []); (repeat' split) <;> (try intro ht) <;> (simp_all; done); done)

@[simp] theorem flagAgate_keeps (s : Sys2Proof.Machine.State) (a : ℕ) : (flagAgate s a).pending = s.pending ∧ (flagAgate s a).out = s.out ∧
    (flagAgate s a).freeCtr = s.freeCtr ∧ (flagAgate s a).req = s.req ∧ (flagAgate s a).pwr = s.pwr ∧ (flagAgate s a).ports = s.ports ∧ (flagAgate s
    a).rings = s.rings ∧ (flagAgate s a).cmds = s.cmds ∧ (flagAgate s a).tabs = s.tabs ∧ (flagAgate s a).mapu = s.mapu ∧ (flagAgate s a).cist =
    s.cist ∧ (flagAgate s a).cache = s.cache ∧ (flagAgate s a).med = s.med ∧ (flagAgate s a).keys = s.keys ∧ (flagAgate s a).wear = s.wear ∧
    (flagAgate s a).drift = s.drift ∧ (flagAgate s a).pair = s.pair ∧ (flagAgate s a).flt = s.flt ∧ (flagAgate s a).ag = s.ag ∧ (flagAgate s a).qz =
    s.qz ∧ (flagAgate s a).zir = s.zir ∧ (flagAgate s a).th = s.th ∧ (flagAgate s a).beryl = s.beryl ∧ (flagAgate s a).sec = s.sec := by
  first
  | (simp [flagAgate]; done)
  | (unfold flagAgate; (try simp only []); (repeat' split) <;> (try intro ht) <;> (simp_all; done); done)

@[simp] theorem agAdd.agOpen_keeps (s : Sys2Proof.Machine.State) (a : Sys2Proof.AgRec) : (agAdd.agOpen s a).1.pending = s.pending ∧ (agAdd.agOpen s
    a).1.freeCtr = s.freeCtr ∧ (agAdd.agOpen s a).1.ports = s.ports ∧ (agAdd.agOpen s a).1.tabs = s.tabs ∧ (agAdd.agOpen s a).1.mapu = s.mapu ∧
    (agAdd.agOpen s a).1.cist = s.cist ∧ (agAdd.agOpen s a).1.cache = s.cache ∧ (agAdd.agOpen s a).1.med = s.med ∧ (agAdd.agOpen s a).1.keys =
    s.keys ∧ (agAdd.agOpen s a).1.wear = s.wear ∧ (agAdd.agOpen s a).1.drift = s.drift ∧ (agAdd.agOpen s a).1.flt = s.flt ∧ (agAdd.agOpen s a).1.qz
    = s.qz ∧ (agAdd.agOpen s a).1.zir = s.zir ∧ (agAdd.agOpen s a).1.th = s.th ∧ (agAdd.agOpen s a).1.sec = s.sec := by
  first
  | (simp [agAdd.agOpen]; done)
  | (unfold agAdd.agOpen; (try simp only []); (repeat' split) <;> (try intro ht) <;> (simp_all; done); done)

@[simp] theorem agAdd_keeps (s : Sys2Proof.Machine.State) (a : Sys2Proof.AgRec) : (agAdd s a).1.pending = s.pending ∧ (agAdd s a).1.freeCtr =
    s.freeCtr ∧ (agAdd s a).1.ports = s.ports ∧ (agAdd s a).1.tabs = s.tabs ∧ (agAdd s a).1.mapu = s.mapu ∧ (agAdd s a).1.cist = s.cist ∧ (agAdd s
    a).1.cache = s.cache ∧ (agAdd s a).1.med = s.med ∧ (agAdd s a).1.keys = s.keys ∧ (agAdd s a).1.wear = s.wear ∧ (agAdd s a).1.drift = s.drift ∧
    (agAdd s a).1.flt = s.flt ∧ (agAdd s a).1.qz = s.qz ∧ (agAdd s a).1.zir = s.zir ∧ (agAdd s a).1.th = s.th ∧ (agAdd s a).1.sec = s.sec := by
  first
  | (simp [agAdd]; done)
  | (unfold agAdd; (try simp only []); (repeat' split) <;> (try intro ht) <;> ((try (have p := congrArg Prod.fst ‹_ = (_, _)›; simp only [] at p; subst p)); (try (first | (injection ht with ht; subst ht; simp_all; done) | (subst ht; simp_all; done) | (subst_vars; simp_all; done) | simp_all))); done)

@[simp] theorem logTo_keeps (s : Sys2Proof.Machine.State) (a : ℕ) (b : Sys2Proof.AgRec) (c : List ℕ) : (logTo s a b c).pending = s.pending ∧ (logTo
    s a b c).freeCtr = s.freeCtr ∧ (logTo s a b c).regs = s.regs ∧ (logTo s a b c).req = s.req ∧ (logTo s a b c).pwr = s.pwr ∧ (logTo s a b c).rings
    = s.rings ∧ (logTo s a b c).cmds = s.cmds ∧ (logTo s a b c).tabs = s.tabs ∧ (logTo s a b c).mapu = s.mapu ∧ (logTo s a b c).cist = s.cist ∧
    (logTo s a b c).cache = s.cache ∧ (logTo s a b c).med = s.med ∧ (logTo s a b c).keys = s.keys ∧ (logTo s a b c).wear = s.wear ∧ (logTo s a b
    c).drift = s.drift ∧ (logTo s a b c).pair = s.pair ∧ (logTo s a b c).flt = s.flt ∧ (logTo s a b c).ag = s.ag ∧ (logTo s a b c).qz = s.qz ∧
    (logTo s a b c).zir = s.zir ∧ (logTo s a b c).th = s.th ∧ (logTo s a b c).beryl = s.beryl ∧ (logTo s a b c).sec = s.sec := by
  fun_induction logTo s a b c <;> (first | (simp_all; done) | simp_all +zetaDelta | (simp_all +zetaDelta; done))

@[simp] theorem logRec_keeps (s : Sys2Proof.Machine.State) (a : Sys2Proof.AgRec) : (logRec s a).pending = s.pending ∧ (logRec s a).freeCtr =
    s.freeCtr ∧ (logRec s a).regs = s.regs ∧ (logRec s a).req = s.req ∧ (logRec s a).pwr = s.pwr ∧ (logRec s a).rings = s.rings ∧ (logRec s a).cmds
    = s.cmds ∧ (logRec s a).tabs = s.tabs ∧ (logRec s a).mapu = s.mapu ∧ (logRec s a).cist = s.cist ∧ (logRec s a).cache = s.cache ∧ (logRec s
    a).med = s.med ∧ (logRec s a).keys = s.keys ∧ (logRec s a).wear = s.wear ∧ (logRec s a).drift = s.drift ∧ (logRec s a).pair = s.pair ∧ (logRec s
    a).flt = s.flt ∧ (logRec s a).ag = s.ag ∧ (logRec s a).qz = s.qz ∧ (logRec s a).zir = s.zir ∧ (logRec s a).th = s.th ∧ (logRec s a).beryl =
    s.beryl ∧ (logRec s a).sec = s.sec := by
  first
  | (simp [logRec]; done)
  | (unfold logRec; (try simp only []); (repeat' split) <;> (try intro ht) <;> (simp_all; done); done)

@[simp] theorem recordOnly_keeps (s : Sys2Proof.Machine.State) (a : Sys2Proof.AgRec) : (recordOnly s a).pending = s.pending ∧ (recordOnly s
    a).freeCtr = s.freeCtr ∧ (recordOnly s a).tabs = s.tabs ∧ (recordOnly s a).mapu = s.mapu ∧ (recordOnly s a).cist = s.cist ∧ (recordOnly s
    a).cache = s.cache ∧ (recordOnly s a).med = s.med ∧ (recordOnly s a).keys = s.keys ∧ (recordOnly s a).wear = s.wear ∧ (recordOnly s a).drift =
    s.drift ∧ (recordOnly s a).flt = s.flt ∧ (recordOnly s a).qz = s.qz ∧ (recordOnly s a).zir = s.zir ∧ (recordOnly s a).th = s.th ∧ (recordOnly s
    a).sec = s.sec := by
  have k := agAdd_keeps s a
  unfold recordOnly; split <;> (rename_i h; rw [h] at k; simp_all)

@[simp] theorem countTotal_keeps (s : Sys2Proof.Machine.State) (a : ℕ) : (countTotal s a).pending = s.pending ∧ (countTotal s a).out = s.out ∧
    (countTotal s a).freeCtr = s.freeCtr ∧ (countTotal s a).regs = s.regs ∧ (countTotal s a).req = s.req ∧ (countTotal s a).pwr = s.pwr ∧
    (countTotal s a).ports = s.ports ∧ (countTotal s a).rings = s.rings ∧ (countTotal s a).cmds = s.cmds ∧ (countTotal s a).tabs = s.tabs ∧
    (countTotal s a).mapu = s.mapu ∧ (countTotal s a).cist = s.cist ∧ (countTotal s a).cache = s.cache ∧ (countTotal s a).med = s.med ∧ (countTotal
    s a).keys = s.keys ∧ (countTotal s a).wear = s.wear ∧ (countTotal s a).drift = s.drift ∧ (countTotal s a).pair = s.pair ∧ (countTotal s a).ag =
    s.ag ∧ (countTotal s a).qz = s.qz ∧ (countTotal s a).zir = s.zir ∧ (countTotal s a).th = s.th ∧ (countTotal s a).beryl = s.beryl ∧ (countTotal s
    a).sec = s.sec := by
  first
  | (simp [countTotal]; done)
  | (unfold countTotal; (try simp only []); (repeat' split) <;> (try intro ht) <;> (simp_all; done); done)

@[simp] theorem lostRec_keeps (s : Sys2Proof.Machine.State) (a : Sys2Proof.AgRec) : (lostRec s a).pending = s.pending ∧ (lostRec s a).freeCtr =
    s.freeCtr ∧ (lostRec s a).tabs = s.tabs ∧ (lostRec s a).mapu = s.mapu ∧ (lostRec s a).cist = s.cist ∧ (lostRec s a).cache = s.cache ∧ (lostRec s
    a).med = s.med ∧ (lostRec s a).keys = s.keys ∧ (lostRec s a).wear = s.wear ∧ (lostRec s a).drift = s.drift ∧ (lostRec s a).qz = s.qz ∧ (lostRec
    s a).zir = s.zir ∧ (lostRec s a).th = s.th ∧ (lostRec s a).sec = s.sec := by
  first
  | (simp [lostRec]; done)
  | (unfold lostRec; (try simp only []); (repeat' split) <;> (try intro ht) <;> (simp_all; done); done)

@[simp] theorem recordEv_keeps (s : Sys2Proof.Machine.State) (a : ℕ) (b : ℕ) (c : ℕ) (d : ℕ) (e : ℕ) (f : Bool) : (recordEv s a b c d e f).pending =
    s.pending ∧ (recordEv s a b c d e f).freeCtr = s.freeCtr ∧ (recordEv s a b c d e f).tabs = s.tabs ∧ (recordEv s a b c d e f).mapu = s.mapu ∧
    (recordEv s a b c d e f).cist = s.cist ∧ (recordEv s a b c d e f).cache = s.cache ∧ (recordEv s a b c d e f).med = s.med ∧ (recordEv s a b c d e
    f).keys = s.keys ∧ (recordEv s a b c d e f).wear = s.wear ∧ (recordEv s a b c d e f).drift = s.drift ∧ (recordEv s a b c d e f).qz = s.qz ∧
    (recordEv s a b c d e f).zir = s.zir ∧ (recordEv s a b c d e f).th = s.th ∧ (recordEv s a b c d e f).sec = s.sec := by
  first
  | (simp [recordEv]; done)
  | (unfold recordEv; (try simp only []); (repeat' split) <;> (try intro ht) <;> (simp_all; done); done)

@[simp] theorem noteEv_keeps (s : Sys2Proof.Machine.State) (a : ℕ) (b : ℕ) (c : ℕ) (d : ℕ) (e : ℕ) : (noteEv s a b c d e).pending = s.pending ∧
    (noteEv s a b c d e).freeCtr = s.freeCtr ∧ (noteEv s a b c d e).tabs = s.tabs ∧ (noteEv s a b c d e).mapu = s.mapu ∧ (noteEv s a b c d e).cist =
    s.cist ∧ (noteEv s a b c d e).cache = s.cache ∧ (noteEv s a b c d e).med = s.med ∧ (noteEv s a b c d e).keys = s.keys ∧ (noteEv s a b c d
    e).wear = s.wear ∧ (noteEv s a b c d e).drift = s.drift ∧ (noteEv s a b c d e).qz = s.qz ∧ (noteEv s a b c d e).zir = s.zir ∧ (noteEv s a b c d
    e).th = s.th ∧ (noteEv s a b c d e).sec = s.sec := by
  first
  | (simp [noteEv]; done)
  | (unfold noteEv; (try simp only []); (repeat' split) <;> (try intro ht) <;> (simp_all; done); done)

@[simp] theorem fencedEvents_keeps (s : Sys2Proof.Machine.State) (a : Bool) (b : List ℕ) : (fencedEvents s a b).pending = s.pending ∧ (fencedEvents
    s a b).freeCtr = s.freeCtr ∧ (fencedEvents s a b).tabs = s.tabs ∧ (fencedEvents s a b).mapu = s.mapu ∧ (fencedEvents s a b).cist = s.cist ∧
    (fencedEvents s a b).cache = s.cache ∧ (fencedEvents s a b).med = s.med ∧ (fencedEvents s a b).keys = s.keys ∧ (fencedEvents s a b).wear =
    s.wear ∧ (fencedEvents s a b).drift = s.drift ∧ (fencedEvents s a b).qz = s.qz ∧ (fencedEvents s a b).zir = s.zir ∧ (fencedEvents s a b).th =
    s.th ∧ (fencedEvents s a b).sec = s.sec := by
  fun_induction fencedEvents s a b <;> (first | (simp_all; done) | simp_all +zetaDelta | (simp_all +zetaDelta; done))

@[simp] theorem enterRole_keeps (s : Sys2Proof.Machine.State) (a : Role) : (enterRole s a).pending = s.pending ∧ (enterRole s a).freeCtr = s.freeCtr
    ∧ (enterRole s a).tabs = s.tabs ∧ (enterRole s a).mapu = s.mapu ∧ (enterRole s a).cache = s.cache ∧ (enterRole s a).med = s.med ∧ (enterRole s
    a).keys = s.keys ∧ (enterRole s a).wear = s.wear ∧ (enterRole s a).drift = s.drift ∧ (enterRole s a).zir = s.zir ∧ (enterRole s a).th = s.th ∧
    (enterRole s a).sec = s.sec := by
  first
  | (simp [enterRole]; done)
  | (unfold enterRole; (try simp only []); (repeat' split) <;> (try intro ht) <;> (simp_all; done); done)

@[simp] theorem mapWaiters_keeps (s : Sys2Proof.Machine.State) (a : ℕ → List Waiter → List Waiter) : (mapWaiters s a).pending = s.pending ∧
    (mapWaiters s a).out = s.out ∧ (mapWaiters s a).freeCtr = s.freeCtr ∧ (mapWaiters s a).regs = s.regs ∧ (mapWaiters s a).req = s.req ∧
    (mapWaiters s a).pwr = s.pwr ∧ (mapWaiters s a).ports = s.ports ∧ (mapWaiters s a).rings = s.rings ∧ (mapWaiters s a).cmds = s.cmds ∧
    (mapWaiters s a).tabs = s.tabs ∧ (mapWaiters s a).mapu = s.mapu ∧ (mapWaiters s a).cist = s.cist ∧ (mapWaiters s a).keys = s.keys ∧ (mapWaiters
    s a).wear = s.wear ∧ (mapWaiters s a).drift = s.drift ∧ (mapWaiters s a).pair = s.pair ∧ (mapWaiters s a).flt = s.flt ∧ (mapWaiters s a).ag =
    s.ag ∧ (mapWaiters s a).qz = s.qz ∧ (mapWaiters s a).zir = s.zir ∧ (mapWaiters s a).th = s.th ∧ (mapWaiters s a).beryl = s.beryl ∧ (mapWaiters s
    a).sec = s.sec := by
  first
  | (simp [mapWaiters]; done)
  | (unfold mapWaiters; (try simp only []); (repeat' split) <;> (try intro ht) <;> (simp_all; done); done)

@[simp] theorem countPort_keeps (s : Sys2Proof.Machine.State) (a : ℕ) (b : ℕ) (c : Attr) : (countPort s a b c).pending = s.pending ∧ (countPort s a
    b c).out = s.out ∧ (countPort s a b c).freeCtr = s.freeCtr ∧ (countPort s a b c).req = s.req ∧ (countPort s a b c).pwr = s.pwr ∧ (countPort s a
    b c).ports = s.ports ∧ (countPort s a b c).rings = s.rings ∧ (countPort s a b c).cmds = s.cmds ∧ (countPort s a b c).tabs = s.tabs ∧ (countPort
    s a b c).mapu = s.mapu ∧ (countPort s a b c).cist = s.cist ∧ (countPort s a b c).cache = s.cache ∧ (countPort s a b c).med = s.med ∧ (countPort
    s a b c).keys = s.keys ∧ (countPort s a b c).wear = s.wear ∧ (countPort s a b c).drift = s.drift ∧ (countPort s a b c).pair = s.pair ∧
    (countPort s a b c).flt = s.flt ∧ (countPort s a b c).ag = s.ag ∧ (countPort s a b c).zir = s.zir ∧ (countPort s a b c).th = s.th ∧ (countPort s
    a b c).beryl = s.beryl ∧ (countPort s a b c).sec = s.sec := by
  first
  | (simp [countPort]; done)
  | (unfold countPort; (try simp only []); (repeat' split) <;> (try intro ht) <;> (simp_all; done); done)

@[simp] theorem returnCredit_keeps (s : Sys2Proof.Machine.State) (a : ℕ) : (returnCredit s a).pending = s.pending ∧ (returnCredit s a).out = s.out ∧
    (returnCredit s a).freeCtr = s.freeCtr ∧ (returnCredit s a).regs = s.regs ∧ (returnCredit s a).req = s.req ∧ (returnCredit s a).pwr = s.pwr ∧
    (returnCredit s a).rings = s.rings ∧ (returnCredit s a).cmds = s.cmds ∧ (returnCredit s a).tabs = s.tabs ∧ (returnCredit s a).mapu = s.mapu ∧
    (returnCredit s a).cache = s.cache ∧ (returnCredit s a).med = s.med ∧ (returnCredit s a).keys = s.keys ∧ (returnCredit s a).wear = s.wear ∧
    (returnCredit s a).drift = s.drift ∧ (returnCredit s a).pair = s.pair ∧ (returnCredit s a).flt = s.flt ∧ (returnCredit s a).ag = s.ag ∧
    (returnCredit s a).qz = s.qz ∧ (returnCredit s a).zir = s.zir ∧ (returnCredit s a).th = s.th ∧ (returnCredit s a).beryl = s.beryl ∧
    (returnCredit s a).sec = s.sec := by
  first
  | (simp [returnCredit]; done)
  | (unfold returnCredit; (try simp only []); (repeat' split) <;> (try intro ht) <;> (simp_all; done); done)

@[simp] theorem finishHost_keeps (s : Sys2Proof.Machine.State) (a : Sys2Proof.Port) (b : ℕ) (c : Bool) (d : ℕ) : (finishHost s a b c d).pending =
    s.pending ∧ (finishHost s a b c d).freeCtr = s.freeCtr ∧ (finishHost s a b c d).req = s.req ∧ (finishHost s a b c d).pwr = s.pwr ∧ (finishHost s
    a b c d).rings = s.rings ∧ (finishHost s a b c d).cmds = s.cmds ∧ (finishHost s a b c d).tabs = s.tabs ∧ (finishHost s a b c d).mapu = s.mapu ∧
    (finishHost s a b c d).cache = s.cache ∧ (finishHost s a b c d).med = s.med ∧ (finishHost s a b c d).keys = s.keys ∧ (finishHost s a b c d).wear
    = s.wear ∧ (finishHost s a b c d).drift = s.drift ∧ (finishHost s a b c d).pair = s.pair ∧ (finishHost s a b c d).flt = s.flt ∧ (finishHost s a
    b c d).ag = s.ag ∧ (finishHost s a b c d).zir = s.zir ∧ (finishHost s a b c d).th = s.th ∧ (finishHost s a b c d).beryl = s.beryl ∧ (finishHost
    s a b c d).sec = s.sec := by
  first
  | (simp [finishHost]; done)
  | (unfold finishHost; (try simp only []); (repeat' split) <;> (try intro ht) <;> (simp_all; done); done)

@[simp] theorem fenceHost_keeps (s : Sys2Proof.Machine.State) (a : Sys2Proof.Port) (b : ℕ) (c : Bool) (d : ℕ) : (fenceHost s a b c d).pending =
    s.pending ∧ (fenceHost s a b c d).freeCtr = s.freeCtr ∧ (fenceHost s a b c d).req = s.req ∧ (fenceHost s a b c d).pwr = s.pwr ∧ (fenceHost s a b
    c d).rings = s.rings ∧ (fenceHost s a b c d).cmds = s.cmds ∧ (fenceHost s a b c d).tabs = s.tabs ∧ (fenceHost s a b c d).mapu = s.mapu ∧
    (fenceHost s a b c d).cache = s.cache ∧ (fenceHost s a b c d).med = s.med ∧ (fenceHost s a b c d).keys = s.keys ∧ (fenceHost s a b c d).wear =
    s.wear ∧ (fenceHost s a b c d).drift = s.drift ∧ (fenceHost s a b c d).pair = s.pair ∧ (fenceHost s a b c d).flt = s.flt ∧ (fenceHost s a b c
    d).ag = s.ag ∧ (fenceHost s a b c d).zir = s.zir ∧ (fenceHost s a b c d).th = s.th ∧ (fenceHost s a b c d).beryl = s.beryl ∧ (fenceHost s a b c
    d).sec = s.sec := by
  first
  | (simp [fenceHost]; done)
  | (unfold fenceHost; (try simp only []); (repeat' split) <;> (try intro ht) <;> (simp_all; done); done)

@[simp] theorem fenceWait_keeps (s : Sys2Proof.Machine.State) (a : WaitW) : (fenceWait s a).pending = s.pending ∧ (fenceWait s a).freeCtr =
    s.freeCtr ∧ (fenceWait s a).req = s.req ∧ (fenceWait s a).pwr = s.pwr ∧ (fenceWait s a).rings = s.rings ∧ (fenceWait s a).cmds = s.cmds ∧
    (fenceWait s a).tabs = s.tabs ∧ (fenceWait s a).mapu = s.mapu ∧ (fenceWait s a).cache = s.cache ∧ (fenceWait s a).med = s.med ∧ (fenceWait s
    a).keys = s.keys ∧ (fenceWait s a).wear = s.wear ∧ (fenceWait s a).drift = s.drift ∧ (fenceWait s a).pair = s.pair ∧ (fenceWait s a).flt = s.flt
    ∧ (fenceWait s a).ag = s.ag ∧ (fenceWait s a).zir = s.zir ∧ (fenceWait s a).th = s.th ∧ (fenceWait s a).beryl = s.beryl ∧ (fenceWait s a).sec =
    s.sec := by
  first
  | (simp [fenceWait]; done)
  | (unfold fenceWait; (try simp only []); (repeat' split) <;> (try intro ht) <;> (simp_all; done); done)

@[simp] theorem countLate_keeps (s : Sys2Proof.Machine.State) (a : ℕ) (b : Attr) (c : RdFlags) : (countLate s a b c).pending = s.pending ∧
    (countLate s a b c).out = s.out ∧ (countLate s a b c).freeCtr = s.freeCtr ∧ (countLate s a b c).req = s.req ∧ (countLate s a b c).pwr = s.pwr ∧
    (countLate s a b c).ports = s.ports ∧ (countLate s a b c).rings = s.rings ∧ (countLate s a b c).cmds = s.cmds ∧ (countLate s a b c).tabs =
    s.tabs ∧ (countLate s a b c).mapu = s.mapu ∧ (countLate s a b c).cist = s.cist ∧ (countLate s a b c).cache = s.cache ∧ (countLate s a b c).med =
    s.med ∧ (countLate s a b c).keys = s.keys ∧ (countLate s a b c).wear = s.wear ∧ (countLate s a b c).drift = s.drift ∧ (countLate s a b c).pair =
    s.pair ∧ (countLate s a b c).flt = s.flt ∧ (countLate s a b c).ag = s.ag ∧ (countLate s a b c).zir = s.zir ∧ (countLate s a b c).th = s.th ∧
    (countLate s a b c).beryl = s.beryl ∧ (countLate s a b c).sec = s.sec := by
  first
  | (simp [countLate]; done)
  | (unfold countLate; (try simp only []); (repeat' split) <;> (try intro ht) <;> (simp_all; done); done)

@[simp] theorem addBin_keeps (s : Sys2Proof.Machine.State) (a : ℕ) : (addBin s a).pending = s.pending ∧ (addBin s a).out = s.out ∧ (addBin s
    a).freeCtr = s.freeCtr ∧ (addBin s a).req = s.req ∧ (addBin s a).pwr = s.pwr ∧ (addBin s a).ports = s.ports ∧ (addBin s a).rings = s.rings ∧
    (addBin s a).cmds = s.cmds ∧ (addBin s a).tabs = s.tabs ∧ (addBin s a).mapu = s.mapu ∧ (addBin s a).cist = s.cist ∧ (addBin s a).cache = s.cache
    ∧ (addBin s a).med = s.med ∧ (addBin s a).keys = s.keys ∧ (addBin s a).wear = s.wear ∧ (addBin s a).drift = s.drift ∧ (addBin s a).pair = s.pair
    ∧ (addBin s a).flt = s.flt ∧ (addBin s a).ag = s.ag ∧ (addBin s a).zir = s.zir ∧ (addBin s a).th = s.th ∧ (addBin s a).beryl = s.beryl ∧ (addBin
    s a).sec = s.sec := by
  first
  | (simp [addBin]; done)
  | (unfold addBin; (try simp only []); (repeat' split) <;> (try intro ht) <;> (simp_all; done); done)

@[simp] theorem enterHalt_keeps (s : Sys2Proof.Machine.State) (a : Bool) : (enterHalt s a).pending = s.pending ∧ (enterHalt s a).out = s.out ∧
    (enterHalt s a).freeCtr = s.freeCtr ∧ (enterHalt s a).regs = s.regs ∧ (enterHalt s a).req = s.req ∧ (enterHalt s a).ports = s.ports ∧ (enterHalt
    s a).rings = s.rings ∧ (enterHalt s a).cmds = s.cmds ∧ (enterHalt s a).tabs = s.tabs ∧ (enterHalt s a).mapu = s.mapu ∧ (enterHalt s a).cist =
    s.cist ∧ (enterHalt s a).cache = s.cache ∧ (enterHalt s a).med = s.med ∧ (enterHalt s a).keys = s.keys ∧ (enterHalt s a).wear = s.wear ∧
    (enterHalt s a).drift = s.drift ∧ (enterHalt s a).pair = s.pair ∧ (enterHalt s a).flt = s.flt ∧ (enterHalt s a).ag = s.ag ∧ (enterHalt s a).qz =
    s.qz ∧ (enterHalt s a).zir = s.zir ∧ (enterHalt s a).th = s.th ∧ (enterHalt s a).beryl = s.beryl ∧ (enterHalt s a).sec = s.sec := by
  first
  | (simp [enterHalt]; done)
  | (unfold enterHalt; (try simp only []); (repeat' split) <;> (try intro ht) <;> (simp_all; done); done)

@[simp] theorem creditHours_keeps (s : Sys2Proof.Machine.State) : (creditHours s).pending = s.pending ∧ (creditHours s).out = s.out ∧ (creditHours
    s).freeCtr = s.freeCtr ∧ (creditHours s).regs = s.regs ∧ (creditHours s).req = s.req ∧ (creditHours s).pwr = s.pwr ∧ (creditHours s).ports =
    s.ports ∧ (creditHours s).rings = s.rings ∧ (creditHours s).cmds = s.cmds ∧ (creditHours s).tabs = s.tabs ∧ (creditHours s).mapu = s.mapu ∧
    (creditHours s).cist = s.cist ∧ (creditHours s).cache = s.cache ∧ (creditHours s).med = s.med ∧ (creditHours s).keys = s.keys ∧ (creditHours
    s).wear = s.wear ∧ (creditHours s).drift = s.drift ∧ (creditHours s).pair = s.pair ∧ (creditHours s).flt = s.flt ∧ (creditHours s).ag = s.ag ∧
    (creditHours s).qz = s.qz ∧ (creditHours s).th = s.th ∧ (creditHours s).beryl = s.beryl ∧ (creditHours s).sec = s.sec := by
  first
  | (simp [creditHours]; done)
  | (unfold creditHours; (try simp only []); (repeat' split) <;> (try intro ht) <;> (simp_all; done); done)

@[simp] theorem putPage_keeps (s : Sys2Proof.Machine.State) (a : ℕ) (b : Sys2Proof.Page) : (putPage s a b).pending = s.pending ∧ (putPage s a b).out
    = s.out ∧ (putPage s a b).freeCtr = s.freeCtr ∧ (putPage s a b).regs = s.regs ∧ (putPage s a b).req = s.req ∧ (putPage s a b).pwr = s.pwr ∧
    (putPage s a b).ports = s.ports ∧ (putPage s a b).rings = s.rings ∧ (putPage s a b).cmds = s.cmds ∧ (putPage s a b).tabs = s.tabs ∧ (putPage s a
    b).mapu = s.mapu ∧ (putPage s a b).cist = s.cist ∧ (putPage s a b).cache = s.cache ∧ (putPage s a b).med = s.med ∧ (putPage s a b).keys = s.keys
    ∧ (putPage s a b).wear = s.wear ∧ (putPage s a b).drift = s.drift ∧ (putPage s a b).pair = s.pair ∧ (putPage s a b).flt = s.flt ∧ (putPage s a
    b).ag = s.ag ∧ (putPage s a b).qz = s.qz ∧ (putPage s a b).zir = s.zir ∧ (putPage s a b).th = s.th ∧ (putPage s a b).sec = s.sec := by
  first
  | (simp [putPage]; done)
  | (unfold putPage; (try simp only []); (repeat' split) <;> (try intro ht) <;> (simp_all; done); done)

@[simp] theorem modDom_keeps (s : Sys2Proof.Machine.State) (a : ℕ) (b : Dom → Dom) : (modDom s a b).pending = s.pending ∧ (modDom s a b).out = s.out
    ∧ (modDom s a b).freeCtr = s.freeCtr ∧ (modDom s a b).regs = s.regs ∧ (modDom s a b).req = s.req ∧ (modDom s a b).ports = s.ports ∧ (modDom s a
    b).rings = s.rings ∧ (modDom s a b).cmds = s.cmds ∧ (modDom s a b).tabs = s.tabs ∧ (modDom s a b).mapu = s.mapu ∧ (modDom s a b).cist = s.cist ∧
    (modDom s a b).cache = s.cache ∧ (modDom s a b).med = s.med ∧ (modDom s a b).keys = s.keys ∧ (modDom s a b).wear = s.wear ∧ (modDom s a b).drift
    = s.drift ∧ (modDom s a b).pair = s.pair ∧ (modDom s a b).flt = s.flt ∧ (modDom s a b).ag = s.ag ∧ (modDom s a b).qz = s.qz ∧ (modDom s a b).zir
    = s.zir ∧ (modDom s a b).th = s.th ∧ (modDom s a b).beryl = s.beryl ∧ (modDom s a b).sec = s.sec := by
  first
  | (simp [modDom]; done)
  | (unfold modDom; (try simp only []); (repeat' split) <;> (try intro ht) <;> (simp_all; done); done)

@[simp] theorem offDom_keeps (s : Sys2Proof.Machine.State) (a : ℕ) (b : ℕ) : (offDom s a b).pending = s.pending ∧ (offDom s a b).out = s.out ∧
    (offDom s a b).freeCtr = s.freeCtr ∧ (offDom s a b).regs = s.regs ∧ (offDom s a b).req = s.req ∧ (offDom s a b).ports = s.ports ∧ (offDom s a
    b).rings = s.rings ∧ (offDom s a b).cmds = s.cmds ∧ (offDom s a b).tabs = s.tabs ∧ (offDom s a b).mapu = s.mapu ∧ (offDom s a b).cist = s.cist ∧
    (offDom s a b).cache = s.cache ∧ (offDom s a b).med = s.med ∧ (offDom s a b).keys = s.keys ∧ (offDom s a b).wear = s.wear ∧ (offDom s a b).drift
    = s.drift ∧ (offDom s a b).pair = s.pair ∧ (offDom s a b).flt = s.flt ∧ (offDom s a b).ag = s.ag ∧ (offDom s a b).qz = s.qz ∧ (offDom s a b).zir
    = s.zir ∧ (offDom s a b).th = s.th ∧ (offDom s a b).beryl = s.beryl ∧ (offDom s a b).sec = s.sec := by
  first
  | (simp [offDom]; done)
  | (unfold offDom; (try simp only []); (repeat' split) <;> (try intro ht) <;> (simp_all; done); done)

@[simp] theorem loseVolatile_keeps (s : Sys2Proof.Machine.State) : (loseVolatile s).pending = s.pending ∧ (loseVolatile s).out = s.out ∧
    (loseVolatile s).freeCtr = s.freeCtr ∧ (loseVolatile s).regs = s.regs ∧ (loseVolatile s).req = s.req ∧ (loseVolatile s).pwr = s.pwr ∧
    (loseVolatile s).keys = s.keys ∧ (loseVolatile s).flt = s.flt ∧ (loseVolatile s).ag = s.ag ∧ (loseVolatile s).qz = s.qz ∧ (loseVolatile s).th =
    s.th ∧ (loseVolatile s).beryl = s.beryl ∧ (loseVolatile s).sec = s.sec := by
  first
  | (simp [loseVolatile]; done)
  | (unfold loseVolatile; (try simp only []); (repeat' split) <;> (try intro ht) <;> (simp_all; done); done)

@[simp] theorem stopStores_keeps (s : Sys2Proof.Machine.State) : (stopStores s).pending = s.pending ∧ (stopStores s).out = s.out ∧ (stopStores
    s).freeCtr = s.freeCtr ∧ (stopStores s).regs = s.regs ∧ (stopStores s).req = s.req ∧ (stopStores s).pwr = s.pwr ∧ (stopStores s).ports = s.ports
    ∧ (stopStores s).rings = s.rings ∧ (stopStores s).cmds = s.cmds ∧ (stopStores s).tabs = s.tabs ∧ (stopStores s).mapu = s.mapu ∧ (stopStores
    s).cist = s.cist ∧ (stopStores s).cache = s.cache ∧ (stopStores s).med = s.med ∧ (stopStores s).keys = s.keys ∧ (stopStores s).wear = s.wear ∧
    (stopStores s).drift = s.drift ∧ (stopStores s).pair = s.pair ∧ (stopStores s).flt = s.flt ∧ (stopStores s).qz = s.qz ∧ (stopStores s).zir =
    s.zir ∧ (stopStores s).th = s.th ∧ (stopStores s).sec = s.sec := by
  first
  | (simp [stopStores]; done)
  | (unfold stopStores; (try simp only []); (repeat' split) <;> (try intro ht) <;> (simp_all; done); done)

@[simp] theorem storeShut_keeps (s : Sys2Proof.Machine.State) : (storeShut s).pending = s.pending ∧ (storeShut s).freeCtr = s.freeCtr ∧ (storeShut
    s).req = s.req ∧ (storeShut s).ports = s.ports ∧ (storeShut s).tabs = s.tabs ∧ (storeShut s).mapu = s.mapu ∧ (storeShut s).cist = s.cist ∧
    (storeShut s).cache = s.cache ∧ (storeShut s).med = s.med ∧ (storeShut s).keys = s.keys ∧ (storeShut s).wear = s.wear ∧ (storeShut s).drift =
    s.drift ∧ (storeShut s).pair = s.pair ∧ (storeShut s).flt = s.flt ∧ (storeShut s).qz = s.qz ∧ (storeShut s).zir = s.zir ∧ (storeShut s).th =
    s.th ∧ (storeShut s).sec = s.sec := by
  first
  | (simp [storeShut]; done)
  | (unfold storeShut; (try simp only []); (repeat' split) <;> (try intro ht) <;> (simp_all; done); done)

@[simp] theorem putShut_keeps (s : Sys2Proof.Machine.State) (a : ℕ) : (putShut s a).pending = s.pending ∧ (putShut s a).out = s.out ∧ (putShut s
    a).freeCtr = s.freeCtr ∧ (putShut s a).regs = s.regs ∧ (putShut s a).req = s.req ∧ (putShut s a).pwr = s.pwr ∧ (putShut s a).ports = s.ports ∧
    (putShut s a).rings = s.rings ∧ (putShut s a).cmds = s.cmds ∧ (putShut s a).tabs = s.tabs ∧ (putShut s a).mapu = s.mapu ∧ (putShut s a).cist =
    s.cist ∧ (putShut s a).cache = s.cache ∧ (putShut s a).med = s.med ∧ (putShut s a).keys = s.keys ∧ (putShut s a).wear = s.wear ∧ (putShut s
    a).drift = s.drift ∧ (putShut s a).pair = s.pair ∧ (putShut s a).flt = s.flt ∧ (putShut s a).ag = s.ag ∧ (putShut s a).qz = s.qz ∧ (putShut s
    a).zir = s.zir ∧ (putShut s a).th = s.th ∧ (putShut s a).sec = s.sec := by
  first
  | (simp [putShut]; done)
  | (unfold putShut; (try simp only []); (repeat' split) <;> (try intro ht) <;> (simp_all; done); done)

@[simp] theorem countDirty_keeps (s : Sys2Proof.Machine.State) (a : ℕ) : (countDirty s a).pending = s.pending ∧ (countDirty s a).out = s.out ∧
    (countDirty s a).freeCtr = s.freeCtr ∧ (countDirty s a).regs = s.regs ∧ (countDirty s a).req = s.req ∧ (countDirty s a).pwr = s.pwr ∧
    (countDirty s a).ports = s.ports ∧ (countDirty s a).rings = s.rings ∧ (countDirty s a).cmds = s.cmds ∧ (countDirty s a).tabs = s.tabs ∧
    (countDirty s a).mapu = s.mapu ∧ (countDirty s a).cist = s.cist ∧ (countDirty s a).cache = s.cache ∧ (countDirty s a).med = s.med ∧ (countDirty
    s a).keys = s.keys ∧ (countDirty s a).wear = s.wear ∧ (countDirty s a).drift = s.drift ∧ (countDirty s a).pair = s.pair ∧ (countDirty s a).flt =
    s.flt ∧ (countDirty s a).ag = s.ag ∧ (countDirty s a).qz = s.qz ∧ (countDirty s a).zir = s.zir ∧ (countDirty s a).th = s.th ∧ (countDirty s
    a).sec = s.sec := by
  first
  | (simp [countDirty]; done)
  | (unfold countDirty; (try simp only []); (repeat' split) <;> (try intro ht) <;> (simp_all; done); done)

@[simp] theorem switchOff_keeps (s : Sys2Proof.Machine.State) (a : Option ℕ) : (switchOff s a).pending = s.pending ∧ (switchOff s a).freeCtr =
    s.freeCtr ∧ (switchOff s a).keys = s.keys ∧ (switchOff s a).qz = s.qz ∧ (switchOff s a).th = s.th ∧ (switchOff s a).sec = s.sec := by
  first
  | (simp [switchOff]; done)
  | (unfold switchOff; (try simp only []); (repeat' split) <;> (try intro ht) <;> (simp_all; done); done)

@[simp] theorem mapWays_keeps (s : Sys2Proof.Machine.State) (a : WayT → WayT) : (mapWays s a).pending = s.pending ∧ (mapWays s a).out = s.out ∧
    (mapWays s a).freeCtr = s.freeCtr ∧ (mapWays s a).regs = s.regs ∧ (mapWays s a).req = s.req ∧ (mapWays s a).pwr = s.pwr ∧ (mapWays s a).ports =
    s.ports ∧ (mapWays s a).rings = s.rings ∧ (mapWays s a).cmds = s.cmds ∧ (mapWays s a).tabs = s.tabs ∧ (mapWays s a).mapu = s.mapu ∧ (mapWays s
    a).cist = s.cist ∧ (mapWays s a).med = s.med ∧ (mapWays s a).keys = s.keys ∧ (mapWays s a).wear = s.wear ∧ (mapWays s a).drift = s.drift ∧
    (mapWays s a).pair = s.pair ∧ (mapWays s a).flt = s.flt ∧ (mapWays s a).ag = s.ag ∧ (mapWays s a).qz = s.qz ∧ (mapWays s a).zir = s.zir ∧
    (mapWays s a).th = s.th ∧ (mapWays s a).beryl = s.beryl ∧ (mapWays s a).sec = s.sec := by
  first
  | (simp [mapWays]; done)
  | (unfold mapWays; (try simp only []); (repeat' split) <;> (try intro ht) <;> (simp_all; done); done)

@[simp] theorem retagDirty_keeps (s : Sys2Proof.Machine.State) (a : ℕ) (b : ℕ) : (retagDirty s a b).pending = s.pending ∧ (retagDirty s a b).out =
    s.out ∧ (retagDirty s a b).freeCtr = s.freeCtr ∧ (retagDirty s a b).regs = s.regs ∧ (retagDirty s a b).req = s.req ∧ (retagDirty s a b).pwr =
    s.pwr ∧ (retagDirty s a b).ports = s.ports ∧ (retagDirty s a b).rings = s.rings ∧ (retagDirty s a b).cmds = s.cmds ∧ (retagDirty s a b).tabs =
    s.tabs ∧ (retagDirty s a b).mapu = s.mapu ∧ (retagDirty s a b).cist = s.cist ∧ (retagDirty s a b).med = s.med ∧ (retagDirty s a b).keys = s.keys
    ∧ (retagDirty s a b).wear = s.wear ∧ (retagDirty s a b).drift = s.drift ∧ (retagDirty s a b).pair = s.pair ∧ (retagDirty s a b).flt = s.flt ∧
    (retagDirty s a b).ag = s.ag ∧ (retagDirty s a b).qz = s.qz ∧ (retagDirty s a b).zir = s.zir ∧ (retagDirty s a b).th = s.th ∧ (retagDirty s a
    b).beryl = s.beryl ∧ (retagDirty s a b).sec = s.sec := by
  first
  | (simp [retagDirty]; done)
  | (unfold retagDirty; (try simp only []); (repeat' split) <;> (try intro ht) <;> (simp_all; done); done)

@[simp] theorem mapCis_keeps (s : Sys2Proof.Machine.State) (a : Cis → Cis) : (mapCis s a).pending = s.pending ∧ (mapCis s a).out = s.out ∧ (mapCis s
    a).freeCtr = s.freeCtr ∧ (mapCis s a).regs = s.regs ∧ (mapCis s a).req = s.req ∧ (mapCis s a).pwr = s.pwr ∧ (mapCis s a).ports = s.ports ∧
    (mapCis s a).rings = s.rings ∧ (mapCis s a).cmds = s.cmds ∧ (mapCis s a).tabs = s.tabs ∧ (mapCis s a).mapu = s.mapu ∧ (mapCis s a).cache =
    s.cache ∧ (mapCis s a).med = s.med ∧ (mapCis s a).keys = s.keys ∧ (mapCis s a).wear = s.wear ∧ (mapCis s a).drift = s.drift ∧ (mapCis s a).pair
    = s.pair ∧ (mapCis s a).flt = s.flt ∧ (mapCis s a).ag = s.ag ∧ (mapCis s a).qz = s.qz ∧ (mapCis s a).zir = s.zir ∧ (mapCis s a).th = s.th ∧
    (mapCis s a).beryl = s.beryl ∧ (mapCis s a).sec = s.sec := by
  first
  | (simp [mapCis]; done)
  | (unfold mapCis; (try simp only []); (repeat' split) <;> (try intro ht) <;> (simp_all; done); done)

@[simp] theorem retargetCis_keeps (s : Sys2Proof.Machine.State) (a : ℕ) (b : BitVec 32) (c : BitVec 8) (d : BitVec 8) (e : Bool) (f : Option ℕ) (g :
    ℕ) : (retargetCis s a b c d e f g).pending = s.pending ∧ (retargetCis s a b c d e f g).out = s.out ∧ (retargetCis s a b c d e f g).freeCtr =
    s.freeCtr ∧ (retargetCis s a b c d e f g).regs = s.regs ∧ (retargetCis s a b c d e f g).req = s.req ∧ (retargetCis s a b c d e f g).pwr = s.pwr
    ∧ (retargetCis s a b c d e f g).ports = s.ports ∧ (retargetCis s a b c d e f g).rings = s.rings ∧ (retargetCis s a b c d e f g).cmds = s.cmds ∧
    (retargetCis s a b c d e f g).tabs = s.tabs ∧ (retargetCis s a b c d e f g).mapu = s.mapu ∧ (retargetCis s a b c d e f g).cache = s.cache ∧
    (retargetCis s a b c d e f g).med = s.med ∧ (retargetCis s a b c d e f g).keys = s.keys ∧ (retargetCis s a b c d e f g).wear = s.wear ∧
    (retargetCis s a b c d e f g).drift = s.drift ∧ (retargetCis s a b c d e f g).pair = s.pair ∧ (retargetCis s a b c d e f g).flt = s.flt ∧
    (retargetCis s a b c d e f g).ag = s.ag ∧ (retargetCis s a b c d e f g).qz = s.qz ∧ (retargetCis s a b c d e f g).zir = s.zir ∧ (retargetCis s a
    b c d e f g).th = s.th ∧ (retargetCis s a b c d e f g).beryl = s.beryl ∧ (retargetCis s a b c d e f g).sec = s.sec := by
  first
  | (simp [retargetCis]; done)
  | (unfold retargetCis; (try simp only []); (repeat' split) <;> (try intro ht) <;> (simp_all; done); done)

@[simp] theorem flagMove_keeps (s : Sys2Proof.Machine.State) (a : ℕ) : (flagMove s a).pending = s.pending ∧ (flagMove s a).out = s.out ∧ (flagMove s
    a).freeCtr = s.freeCtr ∧ (flagMove s a).req = s.req ∧ (flagMove s a).pwr = s.pwr ∧ (flagMove s a).ports = s.ports ∧ (flagMove s a).rings =
    s.rings ∧ (flagMove s a).cmds = s.cmds ∧ (flagMove s a).tabs = s.tabs ∧ (flagMove s a).mapu = s.mapu ∧ (flagMove s a).cist = s.cist ∧ (flagMove
    s a).cache = s.cache ∧ (flagMove s a).med = s.med ∧ (flagMove s a).keys = s.keys ∧ (flagMove s a).wear = s.wear ∧ (flagMove s a).drift = s.drift
    ∧ (flagMove s a).pair = s.pair ∧ (flagMove s a).flt = s.flt ∧ (flagMove s a).ag = s.ag ∧ (flagMove s a).qz = s.qz ∧ (flagMove s a).zir = s.zir ∧
    (flagMove s a).th = s.th ∧ (flagMove s a).beryl = s.beryl ∧ (flagMove s a).sec = s.sec := by
  first
  | (simp [flagMove]; done)
  | (unfold flagMove; (try simp only []); (repeat' split) <;> (try intro ht) <;> (simp_all; done); done)

@[simp] theorem addRetired_keeps (s : Sys2Proof.Machine.State) (a : ℕ) : (addRetired s a).pending = s.pending ∧ (addRetired s a).out = s.out ∧
    (addRetired s a).freeCtr = s.freeCtr ∧ (addRetired s a).regs = s.regs ∧ (addRetired s a).req = s.req ∧ (addRetired s a).pwr = s.pwr ∧
    (addRetired s a).ports = s.ports ∧ (addRetired s a).rings = s.rings ∧ (addRetired s a).cmds = s.cmds ∧ (addRetired s a).tabs = s.tabs ∧
    (addRetired s a).mapu = s.mapu ∧ (addRetired s a).cist = s.cist ∧ (addRetired s a).cache = s.cache ∧ (addRetired s a).med = s.med ∧ (addRetired
    s a).keys = s.keys ∧ (addRetired s a).drift = s.drift ∧ (addRetired s a).pair = s.pair ∧ (addRetired s a).flt = s.flt ∧ (addRetired s a).ag =
    s.ag ∧ (addRetired s a).qz = s.qz ∧ (addRetired s a).th = s.th ∧ (addRetired s a).sec = s.sec := by
  first
  | (simp [addRetired]; done)
  | (unfold addRetired; (try simp only []); (repeat' split) <;> (try intro ht) <;> (simp_all; done); done)

@[simp] theorem noteRetired_keeps (s : Sys2Proof.Machine.State) (a : ℕ) (b : ℕ) : (noteRetired s a b).pending = s.pending ∧ (noteRetired s a
    b).freeCtr = s.freeCtr ∧ (noteRetired s a b).tabs = s.tabs ∧ (noteRetired s a b).mapu = s.mapu ∧ (noteRetired s a b).cist = s.cist ∧
    (noteRetired s a b).cache = s.cache ∧ (noteRetired s a b).med = s.med ∧ (noteRetired s a b).keys = s.keys ∧ (noteRetired s a b).drift = s.drift
    ∧ (noteRetired s a b).qz = s.qz ∧ (noteRetired s a b).th = s.th ∧ (noteRetired s a b).sec = s.sec := by
  first
  | (simp [noteRetired]; done)
  | (unfold noteRetired; (try simp only []); (repeat' split) <;> (try intro ht) <;> (simp_all; done); done)

@[simp] theorem flagTailStall_keeps (s : Sys2Proof.Machine.State) : (flagTailStall s).pending = s.pending ∧ (flagTailStall s).out = s.out ∧
    (flagTailStall s).freeCtr = s.freeCtr ∧ (flagTailStall s).req = s.req ∧ (flagTailStall s).pwr = s.pwr ∧ (flagTailStall s).ports = s.ports ∧
    (flagTailStall s).rings = s.rings ∧ (flagTailStall s).cmds = s.cmds ∧ (flagTailStall s).tabs = s.tabs ∧ (flagTailStall s).mapu = s.mapu ∧
    (flagTailStall s).cist = s.cist ∧ (flagTailStall s).cache = s.cache ∧ (flagTailStall s).med = s.med ∧ (flagTailStall s).keys = s.keys ∧
    (flagTailStall s).wear = s.wear ∧ (flagTailStall s).drift = s.drift ∧ (flagTailStall s).pair = s.pair ∧ (flagTailStall s).flt = s.flt ∧
    (flagTailStall s).ag = s.ag ∧ (flagTailStall s).qz = s.qz ∧ (flagTailStall s).zir = s.zir ∧ (flagTailStall s).th = s.th ∧ (flagTailStall
    s).beryl = s.beryl ∧ (flagTailStall s).sec = s.sec := by
  first
  | (simp [flagTailStall]; done)
  | (unfold flagTailStall; (try simp only []); (repeat' split) <;> (try intro ht) <;> (simp_all; done); done)

@[simp] theorem dropRewrites_keeps (s : Sys2Proof.Machine.State) (a : ℕ) : (dropRewrites s a).pending = s.pending ∧ (dropRewrites s a).out = s.out ∧
    (dropRewrites s a).freeCtr = s.freeCtr ∧ (dropRewrites s a).regs = s.regs ∧ (dropRewrites s a).req = s.req ∧ (dropRewrites s a).pwr = s.pwr ∧
    (dropRewrites s a).ports = s.ports ∧ (dropRewrites s a).rings = s.rings ∧ (dropRewrites s a).cmds = s.cmds ∧ (dropRewrites s a).tabs = s.tabs ∧
    (dropRewrites s a).mapu = s.mapu ∧ (dropRewrites s a).cist = s.cist ∧ (dropRewrites s a).cache = s.cache ∧ (dropRewrites s a).keys = s.keys ∧
    (dropRewrites s a).wear = s.wear ∧ (dropRewrites s a).drift = s.drift ∧ (dropRewrites s a).pair = s.pair ∧ (dropRewrites s a).flt = s.flt ∧
    (dropRewrites s a).ag = s.ag ∧ (dropRewrites s a).qz = s.qz ∧ (dropRewrites s a).zir = s.zir ∧ (dropRewrites s a).th = s.th ∧ (dropRewrites s
    a).beryl = s.beryl ∧ (dropRewrites s a).sec = s.sec := by
  first
  | (simp [dropRewrites]; done)
  | (unfold dropRewrites; (try simp only []); (repeat' split) <;> (try intro ht) <;> (simp_all; done); done)

@[simp] theorem modPool_keeps (s : Sys2Proof.Machine.State) (a : ℕ) (b : Pool → Pool) : (modPool s a b).pending = s.pending ∧ (modPool s a b).out =
    s.out ∧ (modPool s a b).freeCtr = s.freeCtr ∧ (modPool s a b).regs = s.regs ∧ (modPool s a b).req = s.req ∧ (modPool s a b).pwr = s.pwr ∧
    (modPool s a b).ports = s.ports ∧ (modPool s a b).rings = s.rings ∧ (modPool s a b).cmds = s.cmds ∧ (modPool s a b).tabs = s.tabs ∧ (modPool s a
    b).mapu = s.mapu ∧ (modPool s a b).cist = s.cist ∧ (modPool s a b).cache = s.cache ∧ (modPool s a b).med = s.med ∧ (modPool s a b).keys = s.keys
    ∧ (modPool s a b).drift = s.drift ∧ (modPool s a b).pair = s.pair ∧ (modPool s a b).flt = s.flt ∧ (modPool s a b).ag = s.ag ∧ (modPool s a b).qz
    = s.qz ∧ (modPool s a b).zir = s.zir ∧ (modPool s a b).th = s.th ∧ (modPool s a b).beryl = s.beryl ∧ (modPool s a b).sec = s.sec := by
  first
  | (simp [modPool]; done)
  | (unfold modPool; (try simp only []); (repeat' split) <;> (try intro ht) <;> (simp_all; done); done)

@[simp] theorem noteTaken_keeps (s : Sys2Proof.Machine.State) (a : ℕ) : (noteTaken s a).pending = s.pending ∧ (noteTaken s a).out = s.out ∧
    (noteTaken s a).freeCtr = s.freeCtr ∧ (noteTaken s a).regs = s.regs ∧ (noteTaken s a).req = s.req ∧ (noteTaken s a).pwr = s.pwr ∧ (noteTaken s
    a).ports = s.ports ∧ (noteTaken s a).rings = s.rings ∧ (noteTaken s a).cmds = s.cmds ∧ (noteTaken s a).tabs = s.tabs ∧ (noteTaken s a).mapu =
    s.mapu ∧ (noteTaken s a).cist = s.cist ∧ (noteTaken s a).cache = s.cache ∧ (noteTaken s a).med = s.med ∧ (noteTaken s a).keys = s.keys ∧
    (noteTaken s a).wear = s.wear ∧ (noteTaken s a).drift = s.drift ∧ (noteTaken s a).pair = s.pair ∧ (noteTaken s a).flt = s.flt ∧ (noteTaken s
    a).ag = s.ag ∧ (noteTaken s a).qz = s.qz ∧ (noteTaken s a).th = s.th ∧ (noteTaken s a).beryl = s.beryl ∧ (noteTaken s a).sec = s.sec := by
  first
  | (simp [noteTaken]; done)
  | (unfold noteTaken; (try simp only []); (repeat' split) <;> (try intro ht) <;> (simp_all; done); done)

@[simp] theorem sideVal_keeps (s : Sys2Proof.Machine.State) (a : ℕ) (b : JVal) : (sideVal s a b).pending = s.pending ∧ (sideVal s a b).out = s.out ∧
    (sideVal s a b).freeCtr = s.freeCtr ∧ (sideVal s a b).regs = s.regs ∧ (sideVal s a b).req = s.req ∧ (sideVal s a b).pwr = s.pwr ∧ (sideVal s a
    b).ports = s.ports ∧ (sideVal s a b).rings = s.rings ∧ (sideVal s a b).cmds = s.cmds ∧ (sideVal s a b).tabs = s.tabs ∧ (sideVal s a b).cist =
    s.cist ∧ (sideVal s a b).cache = s.cache ∧ (sideVal s a b).keys = s.keys ∧ (sideVal s a b).drift = s.drift ∧ (sideVal s a b).pair = s.pair ∧
    (sideVal s a b).flt = s.flt ∧ (sideVal s a b).ag = s.ag ∧ (sideVal s a b).qz = s.qz ∧ (sideVal s a b).th = s.th ∧ (sideVal s a b).beryl =
    s.beryl ∧ (sideVal s a b).sec = s.sec := by
  first
  | (simp [sideVal]; done)
  | (unfold sideVal; (try simp only []); (repeat' split) <;> (try intro ht) <;> (simp_all; done); done)

@[simp] theorem sideVals_keeps (s : Sys2Proof.Machine.State) (a : ℕ) (b : List JVal) : (sideVals s a b).pending = s.pending ∧ (sideVals s a b).out =
    s.out ∧ (sideVals s a b).freeCtr = s.freeCtr ∧ (sideVals s a b).regs = s.regs ∧ (sideVals s a b).req = s.req ∧ (sideVals s a b).pwr = s.pwr ∧
    (sideVals s a b).ports = s.ports ∧ (sideVals s a b).rings = s.rings ∧ (sideVals s a b).cmds = s.cmds ∧ (sideVals s a b).tabs = s.tabs ∧
    (sideVals s a b).cist = s.cist ∧ (sideVals s a b).cache = s.cache ∧ (sideVals s a b).keys = s.keys ∧ (sideVals s a b).drift = s.drift ∧
    (sideVals s a b).pair = s.pair ∧ (sideVals s a b).flt = s.flt ∧ (sideVals s a b).ag = s.ag ∧ (sideVals s a b).qz = s.qz ∧ (sideVals s a b).th =
    s.th ∧ (sideVals s a b).beryl = s.beryl ∧ (sideVals s a b).sec = s.sec := by
  fun_induction sideVals s a b <;> (first | (simp_all; done) | simp_all +zetaDelta | (simp_all +zetaDelta; done))

@[simp] theorem jAppend_keeps (s : Sys2Proof.Machine.State) (a : List JVal) : (jAppend s a).pending = s.pending ∧ (jAppend s a).out = s.out ∧
    (jAppend s a).freeCtr = s.freeCtr ∧ (jAppend s a).req = s.req ∧ (jAppend s a).pwr = s.pwr ∧ (jAppend s a).ports = s.ports ∧ (jAppend s a).rings
    = s.rings ∧ (jAppend s a).cmds = s.cmds ∧ (jAppend s a).cist = s.cist ∧ (jAppend s a).cache = s.cache ∧ (jAppend s a).keys = s.keys ∧ (jAppend s
    a).drift = s.drift ∧ (jAppend s a).pair = s.pair ∧ (jAppend s a).flt = s.flt ∧ (jAppend s a).ag = s.ag ∧ (jAppend s a).qz = s.qz ∧ (jAppend s
    a).th = s.th ∧ (jAppend s a).beryl = s.beryl ∧ (jAppend s a).sec = s.sec := by
  first
  | (simp [jAppend]; done)
  | (unfold jAppend; (try simp only []); (repeat' split) <;> (try intro ht) <;> (simp_all; done); done)

@[simp] theorem noteVacated_keeps (s : Sys2Proof.Machine.State) (a : ℕ) (b : Option ℕ) : (noteVacated s a b).pending = s.pending ∧ (noteVacated s a
    b).freeCtr = s.freeCtr ∧ (noteVacated s a b).tabs = s.tabs ∧ (noteVacated s a b).mapu = s.mapu ∧ (noteVacated s a b).cist = s.cist ∧
    (noteVacated s a b).cache = s.cache ∧ (noteVacated s a b).med = s.med ∧ (noteVacated s a b).keys = s.keys ∧ (noteVacated s a b).drift = s.drift
    ∧ (noteVacated s a b).qz = s.qz ∧ (noteVacated s a b).th = s.th ∧ (noteVacated s a b).sec = s.sec := by
  first
  | (simp [noteVacated]; done)
  | (unfold noteVacated; (try simp only []); (repeat' split) <;> (try intro ht) <;> (simp_all; done); done)

@[simp] theorem dropMove_keeps (s : Sys2Proof.Machine.State) (a : ℕ) : (dropMove s a).pending = s.pending ∧ (dropMove s a).out = s.out ∧ (dropMove s
    a).freeCtr = s.freeCtr ∧ (dropMove s a).regs = s.regs ∧ (dropMove s a).req = s.req ∧ (dropMove s a).pwr = s.pwr ∧ (dropMove s a).ports = s.ports
    ∧ (dropMove s a).rings = s.rings ∧ (dropMove s a).cmds = s.cmds ∧ (dropMove s a).tabs = s.tabs ∧ (dropMove s a).mapu = s.mapu ∧ (dropMove s
    a).cist = s.cist ∧ (dropMove s a).cache = s.cache ∧ (dropMove s a).med = s.med ∧ (dropMove s a).keys = s.keys ∧ (dropMove s a).drift = s.drift ∧
    (dropMove s a).pair = s.pair ∧ (dropMove s a).flt = s.flt ∧ (dropMove s a).ag = s.ag ∧ (dropMove s a).qz = s.qz ∧ (dropMove s a).zir = s.zir ∧
    (dropMove s a).th = s.th ∧ (dropMove s a).beryl = s.beryl ∧ (dropMove s a).sec = s.sec := by
  first
  | (simp [dropMove]; done)
  | (unfold dropMove; (try simp only []); (repeat' split) <;> (try intro ht) <;> (simp_all; done); done)

@[simp] theorem abandonMove_keeps (s : Sys2Proof.Machine.State) (a : Move) : (abandonMove s a).pending = s.pending ∧ (abandonMove s a).freeCtr =
    s.freeCtr ∧ (abandonMove s a).keys = s.keys ∧ (abandonMove s a).drift = s.drift ∧ (abandonMove s a).th = s.th ∧ (abandonMove s a).sec = s.sec := by
  first
  | (simp [abandonMove]; done)
  | (unfold abandonMove; (try simp only []); (repeat' split) <;> (try intro ht) <;> (simp_all; done); done)

@[simp] theorem drainMoves_keeps (s : Sys2Proof.Machine.State) (a : List Move) : (drainMoves s a).pending = s.pending ∧ (drainMoves s a).freeCtr =
    s.freeCtr ∧ (drainMoves s a).keys = s.keys ∧ (drainMoves s a).drift = s.drift ∧ (drainMoves s a).th = s.th ∧ (drainMoves s a).sec = s.sec := by
  fun_induction drainMoves s a <;> (first | (simp_all; done) | simp_all +zetaDelta | (simp_all +zetaDelta; done))

@[simp] theorem putOpenList_keeps (s : Sys2Proof.Machine.State) (a : ℕ) (b : List ℕ) : (putOpenList s a b).pending = s.pending ∧ (putOpenList s a
    b).out = s.out ∧ (putOpenList s a b).freeCtr = s.freeCtr ∧ (putOpenList s a b).regs = s.regs ∧ (putOpenList s a b).req = s.req ∧ (putOpenList s
    a b).pwr = s.pwr ∧ (putOpenList s a b).ports = s.ports ∧ (putOpenList s a b).rings = s.rings ∧ (putOpenList s a b).cmds = s.cmds ∧ (putOpenList
    s a b).tabs = s.tabs ∧ (putOpenList s a b).mapu = s.mapu ∧ (putOpenList s a b).cist = s.cist ∧ (putOpenList s a b).cache = s.cache ∧
    (putOpenList s a b).med = s.med ∧ (putOpenList s a b).keys = s.keys ∧ (putOpenList s a b).wear = s.wear ∧ (putOpenList s a b).drift = s.drift ∧
    (putOpenList s a b).pair = s.pair ∧ (putOpenList s a b).flt = s.flt ∧ (putOpenList s a b).ag = s.ag ∧ (putOpenList s a b).qz = s.qz ∧
    (putOpenList s a b).zir = s.zir ∧ (putOpenList s a b).th = s.th ∧ (putOpenList s a b).sec = s.sec := by
  fun_induction putOpenList s a b <;> (first | (simp_all; done) | simp_all +zetaDelta | (simp_all +zetaDelta; done))

@[simp] theorem writeOpenList_keeps (s : Sys2Proof.Machine.State) (a : List ℕ) (b : Bool) : (writeOpenList s a b).pending = s.pending ∧
    (writeOpenList s a b).out = s.out ∧ (writeOpenList s a b).freeCtr = s.freeCtr ∧ (writeOpenList s a b).regs = s.regs ∧ (writeOpenList s a b).req
    = s.req ∧ (writeOpenList s a b).pwr = s.pwr ∧ (writeOpenList s a b).ports = s.ports ∧ (writeOpenList s a b).rings = s.rings ∧ (writeOpenList s a
    b).cmds = s.cmds ∧ (writeOpenList s a b).tabs = s.tabs ∧ (writeOpenList s a b).mapu = s.mapu ∧ (writeOpenList s a b).cist = s.cist ∧
    (writeOpenList s a b).cache = s.cache ∧ (writeOpenList s a b).med = s.med ∧ (writeOpenList s a b).keys = s.keys ∧ (writeOpenList s a b).wear =
    s.wear ∧ (writeOpenList s a b).drift = s.drift ∧ (writeOpenList s a b).pair = s.pair ∧ (writeOpenList s a b).flt = s.flt ∧ (writeOpenList s a
    b).ag = s.ag ∧ (writeOpenList s a b).qz = s.qz ∧ (writeOpenList s a b).zir = s.zir ∧ (writeOpenList s a b).th = s.th ∧ (writeOpenList s a b).sec
    = s.sec := by
  first
  | (simp [writeOpenList]; done)
  | (unfold writeOpenList; (try simp only []); (repeat' split) <;> (try intro ht) <;> (simp_all; done); done)

@[simp] theorem storeCursor_keeps (s : Sys2Proof.Machine.State) : (storeCursor s).pending = s.pending ∧ (storeCursor s).out = s.out ∧ (storeCursor
    s).freeCtr = s.freeCtr ∧ (storeCursor s).regs = s.regs ∧ (storeCursor s).req = s.req ∧ (storeCursor s).pwr = s.pwr ∧ (storeCursor s).ports =
    s.ports ∧ (storeCursor s).rings = s.rings ∧ (storeCursor s).cmds = s.cmds ∧ (storeCursor s).tabs = s.tabs ∧ (storeCursor s).mapu = s.mapu ∧
    (storeCursor s).cist = s.cist ∧ (storeCursor s).cache = s.cache ∧ (storeCursor s).med = s.med ∧ (storeCursor s).keys = s.keys ∧ (storeCursor
    s).wear = s.wear ∧ (storeCursor s).drift = s.drift ∧ (storeCursor s).pair = s.pair ∧ (storeCursor s).flt = s.flt ∧ (storeCursor s).ag = s.ag ∧
    (storeCursor s).qz = s.qz ∧ (storeCursor s).zir = s.zir ∧ (storeCursor s).th = s.th ∧ (storeCursor s).sec = s.sec := by
  first
  | (simp [storeCursor]; done)
  | (unfold storeCursor; (try simp only []); (repeat' split) <;> (try intro ht) <;> (simp_all; done); done)

@[simp] theorem flushPages_keeps (s : Sys2Proof.Machine.State) (a : List ℕ) : (flushPages s a).pending = s.pending ∧ (flushPages s a).out = s.out ∧
    (flushPages s a).freeCtr = s.freeCtr ∧ (flushPages s a).regs = s.regs ∧ (flushPages s a).req = s.req ∧ (flushPages s a).pwr = s.pwr ∧
    (flushPages s a).ports = s.ports ∧ (flushPages s a).rings = s.rings ∧ (flushPages s a).cmds = s.cmds ∧ (flushPages s a).tabs = s.tabs ∧
    (flushPages s a).mapu = s.mapu ∧ (flushPages s a).cist = s.cist ∧ (flushPages s a).cache = s.cache ∧ (flushPages s a).med = s.med ∧ (flushPages
    s a).keys = s.keys ∧ (flushPages s a).wear = s.wear ∧ (flushPages s a).drift = s.drift ∧ (flushPages s a).pair = s.pair ∧ (flushPages s a).flt =
    s.flt ∧ (flushPages s a).qz = s.qz ∧ (flushPages s a).zir = s.zir ∧ (flushPages s a).th = s.th ∧ (flushPages s a).sec = s.sec := by
  first
  | (simp [flushPages]; done)
  | (unfold flushPages; (try simp only []); (repeat' split) <;> (try intro ht) <;> (simp_all; done); done)

@[simp] theorem drainStep4_keeps (s : Sys2Proof.Machine.State) : (drainStep4 s).pending = s.pending ∧ (drainStep4 s).freeCtr = s.freeCtr ∧
    (drainStep4 s).req = s.req ∧ (drainStep4 s).ports = s.ports ∧ (drainStep4 s).tabs = s.tabs ∧ (drainStep4 s).mapu = s.mapu ∧ (drainStep4 s).cist
    = s.cist ∧ (drainStep4 s).cache = s.cache ∧ (drainStep4 s).med = s.med ∧ (drainStep4 s).keys = s.keys ∧ (drainStep4 s).wear = s.wear ∧
    (drainStep4 s).drift = s.drift ∧ (drainStep4 s).pair = s.pair ∧ (drainStep4 s).flt = s.flt ∧ (drainStep4 s).qz = s.qz ∧ (drainStep4 s).zir =
    s.zir ∧ (drainStep4 s).th = s.th ∧ (drainStep4 s).sec = s.sec := by
  first
  | (simp [drainStep4]; done)
  | (unfold drainStep4; (try simp only []); (repeat' split) <;> (try intro ht) <;> (simp_all; done); done)

@[simp] theorem drainStart_keeps (s : Sys2Proof.Machine.State) (a : Bool) (b : Bool) (c : Bool) : (drainStart s a b c).pending = s.pending ∧
    (drainStart s a b c).freeCtr = s.freeCtr ∧ (drainStart s a b c).keys = s.keys ∧ (drainStart s a b c).th = s.th ∧ (drainStart s a b c).sec =
    s.sec := by
  first
  | (simp [drainStart]; done)
  | (unfold drainStart; (try simp only []); (repeat' split) <;> (try intro ht) <;> (simp_all; done); done)

@[simp] theorem stopFor_keeps (s : Sys2Proof.Machine.State) (a : ℕ) : (stopFor s a).pending = s.pending ∧ (stopFor s a).freeCtr = s.freeCtr ∧
    (stopFor s a).keys = s.keys ∧ (stopFor s a).th = s.th ∧ (stopFor s a).sec = s.sec := by
  first
  | (simp [stopFor]; done)
  | (unfold stopFor; (try simp only []); (repeat' split) <;> (try intro ht) <;> (simp_all; done); done)

@[simp] theorem viralPorts_keeps (s : Sys2Proof.Machine.State) (a : List ℕ) : (viralPorts s a).pending = s.pending ∧ (viralPorts s a).freeCtr =
    s.freeCtr ∧ (viralPorts s a).regs = s.regs ∧ (viralPorts s a).req = s.req ∧ (viralPorts s a).pwr = s.pwr ∧ (viralPorts s a).rings = s.rings ∧
    (viralPorts s a).cmds = s.cmds ∧ (viralPorts s a).tabs = s.tabs ∧ (viralPorts s a).mapu = s.mapu ∧ (viralPorts s a).cist = s.cist ∧ (viralPorts
    s a).cache = s.cache ∧ (viralPorts s a).med = s.med ∧ (viralPorts s a).keys = s.keys ∧ (viralPorts s a).wear = s.wear ∧ (viralPorts s a).drift =
    s.drift ∧ (viralPorts s a).pair = s.pair ∧ (viralPorts s a).flt = s.flt ∧ (viralPorts s a).ag = s.ag ∧ (viralPorts s a).qz = s.qz ∧ (viralPorts
    s a).zir = s.zir ∧ (viralPorts s a).th = s.th ∧ (viralPorts s a).beryl = s.beryl ∧ (viralPorts s a).sec = s.sec := by
  fun_induction viralPorts s a <;> (first | (simp_all; done) | simp_all +zetaDelta | (simp_all +zetaDelta; done))

@[simp] theorem fatal_keeps (s : Sys2Proof.Machine.State) (a : ℕ) (b : ℕ) (c : ℕ) (d : ℕ) (e : ℕ) : (fatal s a b c d e).pending = s.pending ∧ (fatal
    s a b c d e).freeCtr = s.freeCtr ∧ (fatal s a b c d e).keys = s.keys ∧ (fatal s a b c d e).th = s.th ∧ (fatal s a b c d e).sec = s.sec := by
  first
  | (simp [fatal]; done)
  | (unfold fatal; (try simp only []); (repeat' split) <;> (try intro ht) <;> (simp_all; done); done)

@[simp] theorem wantFlush_keeps (s : Sys2Proof.Machine.State) : (wantFlush s).pending = s.pending ∧ (wantFlush s).out = s.out ∧ (wantFlush
    s).freeCtr = s.freeCtr ∧ (wantFlush s).regs = s.regs ∧ (wantFlush s).req = s.req ∧ (wantFlush s).pwr = s.pwr ∧ (wantFlush s).ports = s.ports ∧
    (wantFlush s).rings = s.rings ∧ (wantFlush s).cmds = s.cmds ∧ (wantFlush s).tabs = s.tabs ∧ (wantFlush s).mapu = s.mapu ∧ (wantFlush s).cist =
    s.cist ∧ (wantFlush s).cache = s.cache ∧ (wantFlush s).med = s.med ∧ (wantFlush s).keys = s.keys ∧ (wantFlush s).wear = s.wear ∧ (wantFlush
    s).drift = s.drift ∧ (wantFlush s).pair = s.pair ∧ (wantFlush s).flt = s.flt ∧ (wantFlush s).qz = s.qz ∧ (wantFlush s).zir = s.zir ∧ (wantFlush
    s).th = s.th ∧ (wantFlush s).beryl = s.beryl ∧ (wantFlush s).sec = s.sec := by
  first
  | (simp [wantFlush]; done)
  | (unfold wantFlush; (try simp only []); (repeat' split) <;> (try intro ht) <;> (simp_all; done); done)

@[simp] theorem flagEscCe_keeps (s : Sys2Proof.Machine.State) : (flagEscCe s).pending = s.pending ∧ (flagEscCe s).out = s.out ∧ (flagEscCe
    s).freeCtr = s.freeCtr ∧ (flagEscCe s).req = s.req ∧ (flagEscCe s).pwr = s.pwr ∧ (flagEscCe s).ports = s.ports ∧ (flagEscCe s).rings = s.rings ∧
    (flagEscCe s).cmds = s.cmds ∧ (flagEscCe s).tabs = s.tabs ∧ (flagEscCe s).mapu = s.mapu ∧ (flagEscCe s).cist = s.cist ∧ (flagEscCe s).cache =
    s.cache ∧ (flagEscCe s).med = s.med ∧ (flagEscCe s).keys = s.keys ∧ (flagEscCe s).wear = s.wear ∧ (flagEscCe s).drift = s.drift ∧ (flagEscCe
    s).pair = s.pair ∧ (flagEscCe s).flt = s.flt ∧ (flagEscCe s).ag = s.ag ∧ (flagEscCe s).qz = s.qz ∧ (flagEscCe s).zir = s.zir ∧ (flagEscCe s).th
    = s.th ∧ (flagEscCe s).beryl = s.beryl ∧ (flagEscCe s).sec = s.sec := by
  first
  | (simp [flagEscCe]; done)
  | (unfold flagEscCe; (try simp only []); (repeat' split) <;> (try intro ht) <;> (simp_all; done); done)

@[simp] theorem reportCe_keeps (s : Sys2Proof.Machine.State) (a : ℕ) (b : ℕ) (c : ℕ) (d : ℕ) (e : ℕ) : (reportCe s a b c d e).pending = s.pending ∧
    (reportCe s a b c d e).freeCtr = s.freeCtr ∧ (reportCe s a b c d e).tabs = s.tabs ∧ (reportCe s a b c d e).mapu = s.mapu ∧ (reportCe s a b c d
    e).cist = s.cist ∧ (reportCe s a b c d e).cache = s.cache ∧ (reportCe s a b c d e).med = s.med ∧ (reportCe s a b c d e).keys = s.keys ∧
    (reportCe s a b c d e).wear = s.wear ∧ (reportCe s a b c d e).drift = s.drift ∧ (reportCe s a b c d e).qz = s.qz ∧ (reportCe s a b c d e).zir =
    s.zir ∧ (reportCe s a b c d e).th = s.th ∧ (reportCe s a b c d e).sec = s.sec := by
  first
  | (simp [reportCe]; done)
  | (unfold reportCe; (try simp only []); (repeat' split) <;> (try intro ht) <;> (simp_all; done); done)

@[simp] theorem reportUc_keeps (s : Sys2Proof.Machine.State) (a : ℕ) (b : ℕ) (c : ℕ) (d : ℕ) (e : ℕ) : (reportUc s a b c d e).pending = s.pending ∧
    (reportUc s a b c d e).freeCtr = s.freeCtr ∧ (reportUc s a b c d e).keys = s.keys ∧ (reportUc s a b c d e).th = s.th ∧ (reportUc s a b c d
    e).sec = s.sec := by
  first
  | (simp [reportUc]; done)
  | (unfold reportUc; (try simp only []); (repeat' split) <;> (try intro ht) <;> (simp_all; done); done)

@[simp] theorem report_keeps (s : Sys2Proof.Machine.State) (a : ℕ) (b : ℕ) (c : ℕ) (d : ℕ) (e : ℕ) : (report s a b c d e).pending = s.pending ∧
    (report s a b c d e).freeCtr = s.freeCtr ∧ (report s a b c d e).keys = s.keys ∧ (report s a b c d e).th = s.th ∧ (report s a b c d e).sec =
    s.sec := by
  first
  | (simp [report]; done)
  | (unfold report; (try simp only []); (repeat' split) <;> (try intro ht) <;> (simp_all; done); done)

@[simp] theorem answerHost_keeps (s : Sys2Proof.Machine.State) (a : Sys2Proof.Port) (b : ℕ) (c : Bool) (d : Option ℕ) (e : Option ℕ) (f : LineV) (g
    : ℕ) (h : RdFlags) (i : Sys2Proof.Machine.Path) : (answerHost s a b c d e f g h i).pending = s.pending ∧ (answerHost s a b c d e f g h
    i).freeCtr = s.freeCtr ∧ (answerHost s a b c d e f g h i).keys = s.keys ∧ (answerHost s a b c d e f g h i).th = s.th ∧ (answerHost s a b c d e f
    g h i).sec = s.sec := by
  first
  | (simp [answerHost]; done)
  | (unfold answerHost; (try simp only []); (repeat' split) <;> (try intro ht) <;> (simp_all; done); done)

@[simp] theorem fenceRead_keeps (s : Sys2Proof.Machine.State) (a : ℕ) (b : HostRd) (c : RdFlags) : (fenceRead s a b c).pending = s.pending ∧
    (fenceRead s a b c).freeCtr = s.freeCtr ∧ (fenceRead s a b c).keys = s.keys ∧ (fenceRead s a b c).th = s.th ∧ (fenceRead s a b c).sec = s.sec := by
  first
  | (simp [fenceRead]; done)
  | (unfold fenceRead; (try simp only []); (repeat' split) <;> (try intro ht) <;> (simp_all; done); done)

@[simp] theorem fenceWaiter_keeps (s : Sys2Proof.Machine.State) (a : ℕ) (b : RdFlags) (c : Waiter) : (fenceWaiter s a b c).pending = s.pending ∧
    (fenceWaiter s a b c).freeCtr = s.freeCtr ∧ (fenceWaiter s a b c).keys = s.keys ∧ (fenceWaiter s a b c).th = s.th ∧ (fenceWaiter s a b c).sec =
    s.sec := by
  first
  | (simp [fenceWaiter]; done)
  | (unfold fenceWaiter; (try simp only []); (repeat' split) <;> (try intro ht) <;> (simp_all; done); done)

@[simp] theorem answerAdmitted_keeps (s : Sys2Proof.Machine.State) : (answerAdmitted s).pending = s.pending ∧ (answerAdmitted s).freeCtr = s.freeCtr
    ∧ (answerAdmitted s).keys = s.keys ∧ (answerAdmitted s).th = s.th ∧ (answerAdmitted s).sec = s.sec := by
  first
  | (simp [answerAdmitted]; done)
  | (unfold answerAdmitted; (try simp only []); (repeat' split) <;> (try intro ht) <;> (simp_all; done); done)

@[simp] theorem fenceAll_keeps (s : Sys2Proof.Machine.State) : (fenceAll s).pending = s.pending ∧ (fenceAll s).freeCtr = s.freeCtr ∧ (fenceAll
    s).keys = s.keys ∧ (fenceAll s).th = s.th ∧ (fenceAll s).sec = s.sec := by
  first
  | (simp [fenceAll]; done)
  | (unfold fenceAll; (try simp only []); (repeat' split) <;> (try intro ht) <;> (simp_all; done); done)

@[simp] theorem storePairing_keeps (s : Sys2Proof.Machine.State) (a : Bool) : (storePairing s a).pending = s.pending ∧ (storePairing s a).freeCtr =
    s.freeCtr ∧ (storePairing s a).req = s.req ∧ (storePairing s a).ports = s.ports ∧ (storePairing s a).tabs = s.tabs ∧ (storePairing s a).mapu =
    s.mapu ∧ (storePairing s a).cist = s.cist ∧ (storePairing s a).cache = s.cache ∧ (storePairing s a).med = s.med ∧ (storePairing s a).keys =
    s.keys ∧ (storePairing s a).wear = s.wear ∧ (storePairing s a).drift = s.drift ∧ (storePairing s a).pair = s.pair ∧ (storePairing s a).flt =
    s.flt ∧ (storePairing s a).qz = s.qz ∧ (storePairing s a).zir = s.zir ∧ (storePairing s a).th = s.th ∧ (storePairing s a).sec = s.sec := by
  first
  | (simp [storePairing]; done)
  | (unfold storePairing; (try simp only []); (repeat' split) <;> (try intro ht) <;> (simp_all; done); done)

@[simp] theorem tasksLost_keeps (s : Sys2Proof.Machine.State) : (tasksLost s).pending = s.pending ∧ (tasksLost s).freeCtr = s.freeCtr ∧ (tasksLost
    s).req = s.req ∧ (tasksLost s).pwr = s.pwr ∧ (tasksLost s).ports = s.ports ∧ (tasksLost s).tabs = s.tabs ∧ (tasksLost s).mapu = s.mapu ∧
    (tasksLost s).cist = s.cist ∧ (tasksLost s).cache = s.cache ∧ (tasksLost s).med = s.med ∧ (tasksLost s).keys = s.keys ∧ (tasksLost s).wear =
    s.wear ∧ (tasksLost s).drift = s.drift ∧ (tasksLost s).pair = s.pair ∧ (tasksLost s).flt = s.flt ∧ (tasksLost s).ag = s.ag ∧ (tasksLost s).qz =
    s.qz ∧ (tasksLost s).zir = s.zir ∧ (tasksLost s).th = s.th ∧ (tasksLost s).beryl = s.beryl ∧ (tasksLost s).sec = s.sec := by
  first
  | (simp [tasksLost]; done)
  | (unfold tasksLost; (try simp only []); (repeat' split) <;> (try intro ht) <;> (simp_all; done); done)

@[simp] theorem enterFenced_keeps (s : Sys2Proof.Machine.State) (a : Bool) : (enterFenced s a).pending = s.pending ∧ (enterFenced s a).freeCtr =
    s.freeCtr ∧ (enterFenced s a).keys = s.keys ∧ (enterFenced s a).th = s.th ∧ (enterFenced s a).sec = s.sec := by
  first
  | (simp [enterFenced]; done)
  | (unfold enterFenced; (try simp only []); (repeat' split) <;> (try intro ht) <;> (simp_all; done); done)

@[simp] theorem leavePair_keeps (s : Sys2Proof.Machine.State) : (leavePair s).pending = s.pending ∧ (leavePair s).freeCtr = s.freeCtr ∧ (leavePair
    s).keys = s.keys ∧ (leavePair s).th = s.th ∧ (leavePair s).sec = s.sec := by
  first
  | (simp [leavePair]; done)
  | (unfold leavePair; (try simp only []); (repeat' split) <;> (try intro ht) <;> (simp_all; done); done)

@[simp] theorem leaveGoesOn_keeps (s : Sys2Proof.Machine.State) : (leaveGoesOn s).pending = s.pending ∧ (leaveGoesOn s).freeCtr = s.freeCtr ∧
    (leaveGoesOn s).keys = s.keys ∧ (leaveGoesOn s).th = s.th ∧ (leaveGoesOn s).sec = s.sec := by
  first
  | (simp [leaveGoesOn]; done)
  | (unfold leaveGoesOn; (try simp only []); (repeat' split) <;> (try intro ht) <;> (simp_all; done); done)

@[simp] theorem modChan_keeps (s : Sys2Proof.Machine.State) (a : ℕ) (b : Chan → Chan) : (modChan s a b).pending = s.pending ∧ (modChan s a b).out =
    s.out ∧ (modChan s a b).freeCtr = s.freeCtr ∧ (modChan s a b).regs = s.regs ∧ (modChan s a b).req = s.req ∧ (modChan s a b).pwr = s.pwr ∧
    (modChan s a b).ports = s.ports ∧ (modChan s a b).rings = s.rings ∧ (modChan s a b).cmds = s.cmds ∧ (modChan s a b).tabs = s.tabs ∧ (modChan s a
    b).mapu = s.mapu ∧ (modChan s a b).cist = s.cist ∧ (modChan s a b).cache = s.cache ∧ (modChan s a b).med = s.med ∧ (modChan s a b).keys = s.keys
    ∧ (modChan s a b).wear = s.wear ∧ (modChan s a b).pair = s.pair ∧ (modChan s a b).flt = s.flt ∧ (modChan s a b).ag = s.ag ∧ (modChan s a b).qz =
    s.qz ∧ (modChan s a b).zir = s.zir ∧ (modChan s a b).th = s.th ∧ (modChan s a b).beryl = s.beryl ∧ (modChan s a b).sec = s.sec := by
  first
  | (simp [modChan]; done)
  | (unfold modChan; (try simp only []); (repeat' split) <;> (try intro ht) <;> (simp_all; done); done)

@[simp] theorem flagBurst_keeps (s : Sys2Proof.Machine.State) (a : ℕ) (b : ℕ) : (flagBurst s a b).pending = s.pending ∧ (flagBurst s a b).out =
    s.out ∧ (flagBurst s a b).freeCtr = s.freeCtr ∧ (flagBurst s a b).req = s.req ∧ (flagBurst s a b).pwr = s.pwr ∧ (flagBurst s a b).ports =
    s.ports ∧ (flagBurst s a b).rings = s.rings ∧ (flagBurst s a b).cmds = s.cmds ∧ (flagBurst s a b).tabs = s.tabs ∧ (flagBurst s a b).mapu =
    s.mapu ∧ (flagBurst s a b).cist = s.cist ∧ (flagBurst s a b).cache = s.cache ∧ (flagBurst s a b).med = s.med ∧ (flagBurst s a b).keys = s.keys ∧
    (flagBurst s a b).wear = s.wear ∧ (flagBurst s a b).drift = s.drift ∧ (flagBurst s a b).pair = s.pair ∧ (flagBurst s a b).flt = s.flt ∧
    (flagBurst s a b).ag = s.ag ∧ (flagBurst s a b).qz = s.qz ∧ (flagBurst s a b).zir = s.zir ∧ (flagBurst s a b).th = s.th ∧ (flagBurst s a
    b).beryl = s.beryl ∧ (flagBurst s a b).sec = s.sec := by
  first
  | (simp [flagBurst]; done)
  | (unfold flagBurst; (try simp only []); (repeat' split) <;> (try intro ht) <;> (simp_all; done); done)

@[simp] theorem flagOver_keeps (s : Sys2Proof.Machine.State) (a : ℕ) : (flagOver s a).pending = s.pending ∧ (flagOver s a).out = s.out ∧ (flagOver s
    a).freeCtr = s.freeCtr ∧ (flagOver s a).req = s.req ∧ (flagOver s a).pwr = s.pwr ∧ (flagOver s a).ports = s.ports ∧ (flagOver s a).rings =
    s.rings ∧ (flagOver s a).cmds = s.cmds ∧ (flagOver s a).tabs = s.tabs ∧ (flagOver s a).mapu = s.mapu ∧ (flagOver s a).cist = s.cist ∧ (flagOver
    s a).cache = s.cache ∧ (flagOver s a).med = s.med ∧ (flagOver s a).keys = s.keys ∧ (flagOver s a).wear = s.wear ∧ (flagOver s a).drift = s.drift
    ∧ (flagOver s a).pair = s.pair ∧ (flagOver s a).flt = s.flt ∧ (flagOver s a).ag = s.ag ∧ (flagOver s a).qz = s.qz ∧ (flagOver s a).zir = s.zir ∧
    (flagOver s a).th = s.th ∧ (flagOver s a).beryl = s.beryl ∧ (flagOver s a).sec = s.sec := by
  first
  | (simp [flagOver]; done)
  | (unfold flagOver; (try simp only []); (repeat' split) <;> (try intro ht) <;> (simp_all; done); done)

@[simp] theorem arriveRead_keeps (s : Sys2Proof.Machine.State) (a : ℕ) : (arriveRead s a).1.pending = s.pending ∧ (arriveRead s a).1.out = s.out ∧
    (arriveRead s a).1.freeCtr = s.freeCtr ∧ (arriveRead s a).1.req = s.req ∧ (arriveRead s a).1.pwr = s.pwr ∧ (arriveRead s a).1.ports = s.ports ∧
    (arriveRead s a).1.rings = s.rings ∧ (arriveRead s a).1.cmds = s.cmds ∧ (arriveRead s a).1.tabs = s.tabs ∧ (arriveRead s a).1.mapu = s.mapu ∧
    (arriveRead s a).1.cist = s.cist ∧ (arriveRead s a).1.cache = s.cache ∧ (arriveRead s a).1.med = s.med ∧ (arriveRead s a).1.keys = s.keys ∧
    (arriveRead s a).1.wear = s.wear ∧ (arriveRead s a).1.pair = s.pair ∧ (arriveRead s a).1.flt = s.flt ∧ (arriveRead s a).1.ag = s.ag ∧
    (arriveRead s a).1.qz = s.qz ∧ (arriveRead s a).1.zir = s.zir ∧ (arriveRead s a).1.th = s.th ∧ (arriveRead s a).1.beryl = s.beryl ∧ (arriveRead
    s a).1.sec = s.sec := by
  first
  | (simp [arriveRead]; done)
  | (unfold arriveRead; (try simp only []); (repeat' split) <;> (try intro ht) <;> (simp_all; done); done)

@[simp] theorem dcRaise_keeps (s : Sys2Proof.Machine.State) (a : Sys2Proof.Port) (b : ℕ) (c : ℕ) (d : List ℕ) : (dcRaise s a b c d).pending =
    s.pending ∧ (dcRaise s a b c d).freeCtr = s.freeCtr ∧ (dcRaise s a b c d).regs = s.regs ∧ (dcRaise s a b c d).req = s.req ∧ (dcRaise s a b c
    d).pwr = s.pwr ∧ (dcRaise s a b c d).rings = s.rings ∧ (dcRaise s a b c d).cmds = s.cmds ∧ (dcRaise s a b c d).tabs = s.tabs ∧ (dcRaise s a b c
    d).mapu = s.mapu ∧ (dcRaise s a b c d).cist = s.cist ∧ (dcRaise s a b c d).cache = s.cache ∧ (dcRaise s a b c d).med = s.med ∧ (dcRaise s a b c
    d).keys = s.keys ∧ (dcRaise s a b c d).wear = s.wear ∧ (dcRaise s a b c d).drift = s.drift ∧ (dcRaise s a b c d).pair = s.pair ∧ (dcRaise s a b
    c d).flt = s.flt ∧ (dcRaise s a b c d).ag = s.ag ∧ (dcRaise s a b c d).qz = s.qz ∧ (dcRaise s a b c d).zir = s.zir ∧ (dcRaise s a b c d).th =
    s.th ∧ (dcRaise s a b c d).beryl = s.beryl ∧ (dcRaise s a b c d).sec = s.sec := by
  first
  | (simp [dcRaise]; done)
  | (unfold dcRaise; (try simp only []); (repeat' split) <;> (try intro ht) <;> (simp_all; done); done)

@[simp] theorem reoffer_keeps (s : Sys2Proof.Machine.State) (a : Sys2Proof.Port) : (reoffer s a).pending = s.pending ∧ (reoffer s a).freeCtr =
    s.freeCtr ∧ (reoffer s a).regs = s.regs ∧ (reoffer s a).req = s.req ∧ (reoffer s a).pwr = s.pwr ∧ (reoffer s a).rings = s.rings ∧ (reoffer s
    a).cmds = s.cmds ∧ (reoffer s a).tabs = s.tabs ∧ (reoffer s a).mapu = s.mapu ∧ (reoffer s a).cist = s.cist ∧ (reoffer s a).cache = s.cache ∧
    (reoffer s a).med = s.med ∧ (reoffer s a).keys = s.keys ∧ (reoffer s a).wear = s.wear ∧ (reoffer s a).drift = s.drift ∧ (reoffer s a).pair =
    s.pair ∧ (reoffer s a).flt = s.flt ∧ (reoffer s a).ag = s.ag ∧ (reoffer s a).qz = s.qz ∧ (reoffer s a).zir = s.zir ∧ (reoffer s a).th = s.th ∧
    (reoffer s a).beryl = s.beryl ∧ (reoffer s a).sec = s.sec := by
  first
  | (simp [reoffer]; done)
  | (unfold reoffer; (try simp only []); (repeat' split) <;> (try intro ht) <;> (simp_all; done); done)

@[simp] theorem setHold_keeps (s : Sys2Proof.Machine.State) : (setHold s).pending = s.pending ∧ (setHold s).out = s.out ∧ (setHold s).freeCtr =
    s.freeCtr ∧ (setHold s).regs = s.regs ∧ (setHold s).req = s.req ∧ (setHold s).pwr = s.pwr ∧ (setHold s).ports = s.ports ∧ (setHold s).rings =
    s.rings ∧ (setHold s).tabs = s.tabs ∧ (setHold s).mapu = s.mapu ∧ (setHold s).cist = s.cist ∧ (setHold s).cache = s.cache ∧ (setHold s).med =
    s.med ∧ (setHold s).keys = s.keys ∧ (setHold s).wear = s.wear ∧ (setHold s).drift = s.drift ∧ (setHold s).pair = s.pair ∧ (setHold s).flt =
    s.flt ∧ (setHold s).ag = s.ag ∧ (setHold s).qz = s.qz ∧ (setHold s).zir = s.zir ∧ (setHold s).th = s.th ∧ (setHold s).beryl = s.beryl ∧ (setHold
    s).sec = s.sec := by
  first
  | (simp [setHold]; done)
  | (unfold setHold; (try simp only []); (repeat' split) <;> (try intro ht) <;> (simp_all; done); done)

@[simp] theorem modTask_keeps (s : Sys2Proof.Machine.State) (a : ℕ) (b : Sys2Proof.Machine.Task → Sys2Proof.Machine.Task) : (modTask s a b).pending
    = s.pending ∧ (modTask s a b).out = s.out ∧ (modTask s a b).freeCtr = s.freeCtr ∧ (modTask s a b).regs = s.regs ∧ (modTask s a b).req = s.req ∧
    (modTask s a b).pwr = s.pwr ∧ (modTask s a b).ports = s.ports ∧ (modTask s a b).rings = s.rings ∧ (modTask s a b).tabs = s.tabs ∧ (modTask s a
    b).mapu = s.mapu ∧ (modTask s a b).cist = s.cist ∧ (modTask s a b).cache = s.cache ∧ (modTask s a b).med = s.med ∧ (modTask s a b).keys = s.keys
    ∧ (modTask s a b).wear = s.wear ∧ (modTask s a b).drift = s.drift ∧ (modTask s a b).pair = s.pair ∧ (modTask s a b).flt = s.flt ∧ (modTask s a
    b).ag = s.ag ∧ (modTask s a b).qz = s.qz ∧ (modTask s a b).zir = s.zir ∧ (modTask s a b).th = s.th ∧ (modTask s a b).beryl = s.beryl ∧ (modTask
    s a b).sec = s.sec := by
  first
  | (simp [modTask]; done)
  | (unfold modTask; (try simp only []); (repeat' split) <;> (try intro ht) <;> (simp_all; done); done)

@[simp] theorem setKey_keeps (s : Sys2Proof.Machine.State) (a : ℕ) (b : KeySlot) : (setKey s a b).pending = s.pending ∧ (setKey s a b).out = s.out ∧
    (setKey s a b).freeCtr = s.freeCtr ∧ (setKey s a b).regs = s.regs ∧ (setKey s a b).req = s.req ∧ (setKey s a b).pwr = s.pwr ∧ (setKey s a
    b).ports = s.ports ∧ (setKey s a b).rings = s.rings ∧ (setKey s a b).cmds = s.cmds ∧ (setKey s a b).tabs = s.tabs ∧ (setKey s a b).mapu = s.mapu
    ∧ (setKey s a b).cist = s.cist ∧ (setKey s a b).cache = s.cache ∧ (setKey s a b).med = s.med ∧ (setKey s a b).wear = s.wear ∧ (setKey s a
    b).drift = s.drift ∧ (setKey s a b).pair = s.pair ∧ (setKey s a b).flt = s.flt ∧ (setKey s a b).ag = s.ag ∧ (setKey s a b).qz = s.qz ∧ (setKey s
    a b).zir = s.zir ∧ (setKey s a b).th = s.th ∧ (setKey s a b).sec = s.sec := by
  first
  | (simp [setKey]; done)
  | (unfold setKey; (try simp only []); (repeat' split) <;> (try intro ht) <;> (simp_all; done); done)

@[simp] theorem storeKey_keeps (s : Sys2Proof.Machine.State) (a : ℕ) : (storeKey s a).pending = s.pending ∧ (storeKey s a).freeCtr = s.freeCtr ∧
    (storeKey s a).req = s.req ∧ (storeKey s a).ports = s.ports ∧ (storeKey s a).tabs = s.tabs ∧ (storeKey s a).mapu = s.mapu ∧ (storeKey s a).cist
    = s.cist ∧ (storeKey s a).cache = s.cache ∧ (storeKey s a).med = s.med ∧ (storeKey s a).keys = s.keys ∧ (storeKey s a).wear = s.wear ∧ (storeKey
    s a).drift = s.drift ∧ (storeKey s a).pair = s.pair ∧ (storeKey s a).flt = s.flt ∧ (storeKey s a).qz = s.qz ∧ (storeKey s a).zir = s.zir ∧
    (storeKey s a).th = s.th ∧ (storeKey s a).sec = s.sec := by
  first
  | (simp [storeKey]; done)
  | (unfold storeKey; (try simp only []); (repeat' split) <;> (try intro ht) <;> (simp_all; done); done)

@[simp] theorem bump_keeps (s : Sys2Proof.Machine.State) : (bump s).pending = s.pending ∧ (bump s).out = s.out ∧ (bump s).regs = s.regs ∧ (bump
    s).req = s.req ∧ (bump s).pwr = s.pwr ∧ (bump s).ports = s.ports ∧ (bump s).rings = s.rings ∧ (bump s).cmds = s.cmds ∧ (bump s).tabs = s.tabs ∧
    (bump s).mapu = s.mapu ∧ (bump s).cist = s.cist ∧ (bump s).cache = s.cache ∧ (bump s).med = s.med ∧ (bump s).keys = s.keys ∧ (bump s).wear =
    s.wear ∧ (bump s).drift = s.drift ∧ (bump s).pair = s.pair ∧ (bump s).flt = s.flt ∧ (bump s).ag = s.ag ∧ (bump s).qz = s.qz ∧ (bump s).zir =
    s.zir ∧ (bump s).th = s.th ∧ (bump s).beryl = s.beryl ∧ (bump s).sec = s.sec := by
  first
  | (simp [bump]; done)
  | (unfold bump; (try simp only []); (repeat' split) <;> (try intro ht) <;> (simp_all; done); done)

@[simp] theorem jEach_keeps (s : Sys2Proof.Machine.State) (a : List JVal) : (jEach s a).pending = s.pending ∧ (jEach s a).out = s.out ∧ (jEach s
    a).freeCtr = s.freeCtr ∧ (jEach s a).req = s.req ∧ (jEach s a).pwr = s.pwr ∧ (jEach s a).ports = s.ports ∧ (jEach s a).rings = s.rings ∧ (jEach
    s a).cmds = s.cmds ∧ (jEach s a).cist = s.cist ∧ (jEach s a).cache = s.cache ∧ (jEach s a).keys = s.keys ∧ (jEach s a).drift = s.drift ∧ (jEach
    s a).pair = s.pair ∧ (jEach s a).flt = s.flt ∧ (jEach s a).ag = s.ag ∧ (jEach s a).qz = s.qz ∧ (jEach s a).th = s.th ∧ (jEach s a).beryl =
    s.beryl ∧ (jEach s a).sec = s.sec := by
  fun_induction jEach s a <;> (first | (simp_all; done) | simp_all +zetaDelta | (simp_all +zetaDelta; done))

@[simp] theorem offerExt_keeps (s : Sys2Proof.Machine.State) (a : ℕ) (b : ℕ) : (offerExt s a b).pending = s.pending ∧ (offerExt s a b).freeCtr =
    s.freeCtr ∧ (offerExt s a b).regs = s.regs ∧ (offerExt s a b).req = s.req ∧ (offerExt s a b).pwr = s.pwr ∧ (offerExt s a b).rings = s.rings ∧
    (offerExt s a b).cmds = s.cmds ∧ (offerExt s a b).tabs = s.tabs ∧ (offerExt s a b).mapu = s.mapu ∧ (offerExt s a b).cist = s.cist ∧ (offerExt s
    a b).cache = s.cache ∧ (offerExt s a b).med = s.med ∧ (offerExt s a b).keys = s.keys ∧ (offerExt s a b).wear = s.wear ∧ (offerExt s a b).drift =
    s.drift ∧ (offerExt s a b).pair = s.pair ∧ (offerExt s a b).flt = s.flt ∧ (offerExt s a b).ag = s.ag ∧ (offerExt s a b).qz = s.qz ∧ (offerExt s
    a b).zir = s.zir ∧ (offerExt s a b).th = s.th ∧ (offerExt s a b).beryl = s.beryl ∧ (offerExt s a b).sec = s.sec := by simp [offerExt]

@[simp] theorem createWell_keeps (s : Sys2Proof.Machine.State) (a : ℕ) (b : Sys2Proof.Well) : (createWell s a b).pending = s.pending ∧ (createWell s
    a b).req = s.req ∧ (createWell s a b).cist = s.cist ∧ (createWell s a b).cache = s.cache ∧ (createWell s a b).drift = s.drift ∧ (createWell s a
    b).pair = s.pair ∧ (createWell s a b).flt = s.flt ∧ (createWell s a b).qz = s.qz ∧ (createWell s a b).th = s.th ∧ (createWell s a b).sec = s.sec
    := by
  first
  | (simp [createWell]; done)
  | (unfold createWell; (try simp only []); (repeat' split) <;> (try intro ht) <;> (simp_all; done); done)

@[simp] theorem freeSlot_keeps (s : Sys2Proof.Machine.State) (a : ℕ) : (freeSlot s a).pending = s.pending ∧ (freeSlot s a).out = s.out ∧ (freeSlot s
    a).freeCtr = s.freeCtr ∧ (freeSlot s a).regs = s.regs ∧ (freeSlot s a).req = s.req ∧ (freeSlot s a).pwr = s.pwr ∧ (freeSlot s a).ports = s.ports
    ∧ (freeSlot s a).rings = s.rings ∧ (freeSlot s a).cmds = s.cmds ∧ (freeSlot s a).tabs = s.tabs ∧ (freeSlot s a).mapu = s.mapu ∧ (freeSlot s
    a).cache = s.cache ∧ (freeSlot s a).med = s.med ∧ (freeSlot s a).keys = s.keys ∧ (freeSlot s a).wear = s.wear ∧ (freeSlot s a).drift = s.drift ∧
    (freeSlot s a).pair = s.pair ∧ (freeSlot s a).flt = s.flt ∧ (freeSlot s a).ag = s.ag ∧ (freeSlot s a).qz = s.qz ∧ (freeSlot s a).zir = s.zir ∧
    (freeSlot s a).th = s.th ∧ (freeSlot s a).beryl = s.beryl ∧ (freeSlot s a).sec = s.sec := by
  first
  | (simp [freeSlot]; done)
  | (unfold freeSlot; (try simp only []); (repeat' split) <;> (try intro ht) <;> (simp_all; done); done)

@[simp] theorem freeSlots_keeps (s : Sys2Proof.Machine.State) (a : Cis → Bool) : (freeSlots s a).pending = s.pending ∧ (freeSlots s a).out = s.out ∧
    (freeSlots s a).freeCtr = s.freeCtr ∧ (freeSlots s a).regs = s.regs ∧ (freeSlots s a).req = s.req ∧ (freeSlots s a).pwr = s.pwr ∧ (freeSlots s
    a).ports = s.ports ∧ (freeSlots s a).rings = s.rings ∧ (freeSlots s a).cmds = s.cmds ∧ (freeSlots s a).tabs = s.tabs ∧ (freeSlots s a).mapu =
    s.mapu ∧ (freeSlots s a).cache = s.cache ∧ (freeSlots s a).med = s.med ∧ (freeSlots s a).keys = s.keys ∧ (freeSlots s a).wear = s.wear ∧
    (freeSlots s a).drift = s.drift ∧ (freeSlots s a).pair = s.pair ∧ (freeSlots s a).flt = s.flt ∧ (freeSlots s a).ag = s.ag ∧ (freeSlots s a).qz =
    s.qz ∧ (freeSlots s a).zir = s.zir ∧ (freeSlots s a).th = s.th ∧ (freeSlots s a).beryl = s.beryl ∧ (freeSlots s a).sec = s.sec := by
  first
  | (simp [freeSlots]; done)
  | (unfold freeSlots; (try simp only []); (repeat' split) <;> (try intro ht) <;> (simp_all; done); done)

@[simp] theorem parkWrite_keeps (s : Sys2Proof.Machine.State) (a : WaitW) : (parkWrite s a).pending = s.pending ∧ (parkWrite s a).out = s.out ∧
    (parkWrite s a).freeCtr = s.freeCtr ∧ (parkWrite s a).regs = s.regs ∧ (parkWrite s a).req = s.req ∧ (parkWrite s a).pwr = s.pwr ∧ (parkWrite s
    a).ports = s.ports ∧ (parkWrite s a).rings = s.rings ∧ (parkWrite s a).cmds = s.cmds ∧ (parkWrite s a).tabs = s.tabs ∧ (parkWrite s a).mapu =
    s.mapu ∧ (parkWrite s a).cache = s.cache ∧ (parkWrite s a).med = s.med ∧ (parkWrite s a).keys = s.keys ∧ (parkWrite s a).wear = s.wear ∧
    (parkWrite s a).drift = s.drift ∧ (parkWrite s a).pair = s.pair ∧ (parkWrite s a).flt = s.flt ∧ (parkWrite s a).ag = s.ag ∧ (parkWrite s a).qz =
    s.qz ∧ (parkWrite s a).zir = s.zir ∧ (parkWrite s a).th = s.th ∧ (parkWrite s a).beryl = s.beryl ∧ (parkWrite s a).sec = s.sec := by
  first
  | (simp [parkWrite]; done)
  | (unfold parkWrite; (try simp only []); (repeat' split) <;> (try intro ht) <;> (simp_all; done); done)

@[simp] theorem staleSenses_keeps (s : Sys2Proof.Machine.State) (a : ℕ) : (staleSenses s a).pending = s.pending ∧ (staleSenses s a).out = s.out ∧
    (staleSenses s a).freeCtr = s.freeCtr ∧ (staleSenses s a).regs = s.regs ∧ (staleSenses s a).req = s.req ∧ (staleSenses s a).pwr = s.pwr ∧
    (staleSenses s a).ports = s.ports ∧ (staleSenses s a).rings = s.rings ∧ (staleSenses s a).cmds = s.cmds ∧ (staleSenses s a).tabs = s.tabs ∧
    (staleSenses s a).mapu = s.mapu ∧ (staleSenses s a).cache = s.cache ∧ (staleSenses s a).keys = s.keys ∧ (staleSenses s a).wear = s.wear ∧
    (staleSenses s a).drift = s.drift ∧ (staleSenses s a).pair = s.pair ∧ (staleSenses s a).flt = s.flt ∧ (staleSenses s a).ag = s.ag ∧ (staleSenses
    s a).qz = s.qz ∧ (staleSenses s a).zir = s.zir ∧ (staleSenses s a).th = s.th ∧ (staleSenses s a).beryl = s.beryl ∧ (staleSenses s a).sec = s.sec
    := by
  first
  | (simp [staleSenses]; done)
  | (unfold staleSenses; (try simp only []); (repeat' split) <;> (try intro ht) <;> (simp_all; done); done)

@[simp] theorem voidRepairs_keeps (s : Sys2Proof.Machine.State) (a : ℕ → Bool) : (voidRepairs s a).pending = s.pending ∧ (voidRepairs s a).out =
    s.out ∧ (voidRepairs s a).freeCtr = s.freeCtr ∧ (voidRepairs s a).regs = s.regs ∧ (voidRepairs s a).req = s.req ∧ (voidRepairs s a).pwr = s.pwr
    ∧ (voidRepairs s a).ports = s.ports ∧ (voidRepairs s a).rings = s.rings ∧ (voidRepairs s a).cmds = s.cmds ∧ (voidRepairs s a).tabs = s.tabs ∧
    (voidRepairs s a).mapu = s.mapu ∧ (voidRepairs s a).keys = s.keys ∧ (voidRepairs s a).wear = s.wear ∧ (voidRepairs s a).drift = s.drift ∧
    (voidRepairs s a).flt = s.flt ∧ (voidRepairs s a).ag = s.ag ∧ (voidRepairs s a).qz = s.qz ∧ (voidRepairs s a).zir = s.zir ∧ (voidRepairs s a).th
    = s.th ∧ (voidRepairs s a).beryl = s.beryl ∧ (voidRepairs s a).sec = s.sec := by
  first
  | (simp [voidRepairs]; done)
  | (unfold voidRepairs; (try simp only []); (repeat' split) <;> (try intro ht) <;> (simp_all; done); done)

@[simp] theorem discardLines_keeps (s : Sys2Proof.Machine.State) (a : ℕ) : (discardLines s a).pending = s.pending ∧ (discardLines s a).freeCtr =
    s.freeCtr ∧ (discardLines s a).req = s.req ∧ (discardLines s a).pwr = s.pwr ∧ (discardLines s a).rings = s.rings ∧ (discardLines s a).cmds =
    s.cmds ∧ (discardLines s a).tabs = s.tabs ∧ (discardLines s a).mapu = s.mapu ∧ (discardLines s a).keys = s.keys ∧ (discardLines s a).wear =
    s.wear ∧ (discardLines s a).drift = s.drift ∧ (discardLines s a).flt = s.flt ∧ (discardLines s a).ag = s.ag ∧ (discardLines s a).zir = s.zir ∧
    (discardLines s a).th = s.th ∧ (discardLines s a).beryl = s.beryl ∧ (discardLines s a).sec = s.sec := by
  first
  | (simp [discardLines]; done)
  | (unfold discardLines; (try simp only []); (repeat' split) <;> (try intro ht) <;> (simp_all; done); done)

@[simp] theorem dequeue_keeps (s : Sys2Proof.Machine.State) (a : ℕ) : (dequeue s a).pending = s.pending ∧ (dequeue s a).out = s.out ∧ (dequeue s
    a).freeCtr = s.freeCtr ∧ (dequeue s a).regs = s.regs ∧ (dequeue s a).req = s.req ∧ (dequeue s a).pwr = s.pwr ∧ (dequeue s a).ports = s.ports ∧
    (dequeue s a).rings = s.rings ∧ (dequeue s a).cmds = s.cmds ∧ (dequeue s a).tabs = s.tabs ∧ (dequeue s a).mapu = s.mapu ∧ (dequeue s a).cist =
    s.cist ∧ (dequeue s a).cache = s.cache ∧ (dequeue s a).med = s.med ∧ (dequeue s a).keys = s.keys ∧ (dequeue s a).pair = s.pair ∧ (dequeue s
    a).flt = s.flt ∧ (dequeue s a).ag = s.ag ∧ (dequeue s a).qz = s.qz ∧ (dequeue s a).zir = s.zir ∧ (dequeue s a).th = s.th ∧ (dequeue s a).beryl =
    s.beryl ∧ (dequeue s a).sec = s.sec := by
  first
  | (simp [dequeue]; done)
  | (unfold dequeue; (try simp only []); (repeat' split) <;> (try intro ht) <;> (simp_all; done); done)

@[simp] theorem unqueue_keeps (s : Sys2Proof.Machine.State) (a : ℕ) : (unqueue s a).pending = s.pending ∧ (unqueue s a).out = s.out ∧ (unqueue s
    a).freeCtr = s.freeCtr ∧ (unqueue s a).regs = s.regs ∧ (unqueue s a).req = s.req ∧ (unqueue s a).pwr = s.pwr ∧ (unqueue s a).ports = s.ports ∧
    (unqueue s a).rings = s.rings ∧ (unqueue s a).cmds = s.cmds ∧ (unqueue s a).tabs = s.tabs ∧ (unqueue s a).mapu = s.mapu ∧ (unqueue s a).cist =
    s.cist ∧ (unqueue s a).cache = s.cache ∧ (unqueue s a).med = s.med ∧ (unqueue s a).keys = s.keys ∧ (unqueue s a).pair = s.pair ∧ (unqueue s
    a).flt = s.flt ∧ (unqueue s a).ag = s.ag ∧ (unqueue s a).qz = s.qz ∧ (unqueue s a).zir = s.zir ∧ (unqueue s a).th = s.th ∧ (unqueue s a).beryl =
    s.beryl ∧ (unqueue s a).sec = s.sec := by
  first
  | (simp [unqueue]; done)
  | (unfold unqueue; (try simp only []); (repeat' split) <;> (try intro ht) <;> (simp_all; done); done)

end Sys2Proof.Machine
end

