-- ==== Sys2Proof/Laws/FramesB.lean ====
section
/-! SUPPORT. What each shared operation leaves unchanged (part 2 of 4): `f_keeps` names every part of State that `f` does not touch,
for whatever state and operands. -/

set_option linter.all false
set_option Elab.async false

namespace Sys2Proof.Machine

@[simp] theorem queueMove_keeps (s : Sys2Proof.Machine.State) (a : ℕ) (b : Sys2Proof.MoveCause) : (queueMove s a b).pending = s.pending ∧ (queueMove
    s a b).out = s.out ∧ (queueMove s a b).freeCtr = s.freeCtr ∧ (queueMove s a b).regs = s.regs ∧ (queueMove s a b).req = s.req ∧ (queueMove s a
    b).pwr = s.pwr ∧ (queueMove s a b).ports = s.ports ∧ (queueMove s a b).rings = s.rings ∧ (queueMove s a b).cmds = s.cmds ∧ (queueMove s a
    b).tabs = s.tabs ∧ (queueMove s a b).mapu = s.mapu ∧ (queueMove s a b).cist = s.cist ∧ (queueMove s a b).cache = s.cache ∧ (queueMove s a b).med
    = s.med ∧ (queueMove s a b).keys = s.keys ∧ (queueMove s a b).drift = s.drift ∧ (queueMove s a b).pair = s.pair ∧ (queueMove s a b).flt = s.flt
    ∧ (queueMove s a b).ag = s.ag ∧ (queueMove s a b).qz = s.qz ∧ (queueMove s a b).zir = s.zir ∧ (queueMove s a b).th = s.th ∧ (queueMove s a
    b).beryl = s.beryl ∧ (queueMove s a b).sec = s.sec := by
  first
  | (simp [queueMove]; done)
  | (unfold queueMove; (try simp only []); (repeat' split) <;> (try intro ht) <;> (simp_all; done); done)

@[simp] theorem killMove_keeps (s : Sys2Proof.Machine.State) (a : ℕ) : (killMove s a).pending = s.pending ∧ (killMove s a).freeCtr = s.freeCtr ∧
    (killMove s a).keys = s.keys ∧ (killMove s a).th = s.th ∧ (killMove s a).sec = s.sec := by
  first
  | (simp [killMove]; done)
  | (unfold killMove; (try simp only []); (repeat' split) <;> (try intro ht) <;> (simp_all; done); done)

@[simp] theorem askPorts_keeps (s : Sys2Proof.Machine.State) (a : ℕ) (b : Sys2Proof.Well) (c : List ℕ) : (askPorts s a b c).pending = s.pending ∧
    (askPorts s a b c).freeCtr = s.freeCtr ∧ (askPorts s a b c).regs = s.regs ∧ (askPorts s a b c).req = s.req ∧ (askPorts s a b c).pwr = s.pwr ∧
    (askPorts s a b c).rings = s.rings ∧ (askPorts s a b c).cmds = s.cmds ∧ (askPorts s a b c).tabs = s.tabs ∧ (askPorts s a b c).mapu = s.mapu ∧
    (askPorts s a b c).cist = s.cist ∧ (askPorts s a b c).cache = s.cache ∧ (askPorts s a b c).med = s.med ∧ (askPorts s a b c).keys = s.keys ∧
    (askPorts s a b c).wear = s.wear ∧ (askPorts s a b c).drift = s.drift ∧ (askPorts s a b c).pair = s.pair ∧ (askPorts s a b c).flt = s.flt ∧
    (askPorts s a b c).ag = s.ag ∧ (askPorts s a b c).qz = s.qz ∧ (askPorts s a b c).zir = s.zir ∧ (askPorts s a b c).th = s.th ∧ (askPorts s a b
    c).beryl = s.beryl ∧ (askPorts s a b c).sec = s.sec := by simp [askPorts]

@[simp] theorem askWells_keeps (s : Sys2Proof.Machine.State) (a : ℕ) (b : List (ℕ × Sys2Proof.Well)) : (askWells s a b).pending = s.pending ∧
    (askWells s a b).freeCtr = s.freeCtr ∧ (askWells s a b).regs = s.regs ∧ (askWells s a b).req = s.req ∧ (askWells s a b).pwr = s.pwr ∧ (askWells
    s a b).rings = s.rings ∧ (askWells s a b).cmds = s.cmds ∧ (askWells s a b).tabs = s.tabs ∧ (askWells s a b).mapu = s.mapu ∧ (askWells s a
    b).cist = s.cist ∧ (askWells s a b).cache = s.cache ∧ (askWells s a b).med = s.med ∧ (askWells s a b).keys = s.keys ∧ (askWells s a b).wear =
    s.wear ∧ (askWells s a b).drift = s.drift ∧ (askWells s a b).pair = s.pair ∧ (askWells s a b).flt = s.flt ∧ (askWells s a b).ag = s.ag ∧
    (askWells s a b).qz = s.qz ∧ (askWells s a b).zir = s.zir ∧ (askWells s a b).th = s.th ∧ (askWells s a b).beryl = s.beryl ∧ (askWells s a b).sec
    = s.sec := by
  fun_induction askWells s a b <;> (first | (simp_all; done) | simp_all +zetaDelta | (simp_all +zetaDelta; done))

@[simp] theorem releaseRequest_keeps (s : Sys2Proof.Machine.State) : (releaseRequest s).pending = s.pending ∧ (releaseRequest s).freeCtr = s.freeCtr
    ∧ (releaseRequest s).regs = s.regs ∧ (releaseRequest s).req = s.req ∧ (releaseRequest s).pwr = s.pwr ∧ (releaseRequest s).rings = s.rings ∧
    (releaseRequest s).cmds = s.cmds ∧ (releaseRequest s).tabs = s.tabs ∧ (releaseRequest s).mapu = s.mapu ∧ (releaseRequest s).cist = s.cist ∧
    (releaseRequest s).cache = s.cache ∧ (releaseRequest s).med = s.med ∧ (releaseRequest s).keys = s.keys ∧ (releaseRequest s).wear = s.wear ∧
    (releaseRequest s).drift = s.drift ∧ (releaseRequest s).pair = s.pair ∧ (releaseRequest s).flt = s.flt ∧ (releaseRequest s).ag = s.ag ∧
    (releaseRequest s).qz = s.qz ∧ (releaseRequest s).zir = s.zir ∧ (releaseRequest s).th = s.th ∧ (releaseRequest s).beryl = s.beryl ∧
    (releaseRequest s).sec = s.sec := by
  first
  | (simp [releaseRequest]; done)
  | (unfold releaseRequest; (try simp only []); (repeat' split) <;> (try intro ht) <;> (simp_all; done); done)

@[simp] theorem replanCause_keeps (s : Sys2Proof.Machine.State) (a : ℕ) : (replanCause s a).pending = s.pending ∧ (replanCause s a).out = s.out ∧
    (replanCause s a).freeCtr = s.freeCtr ∧ (replanCause s a).regs = s.regs ∧ (replanCause s a).req = s.req ∧ (replanCause s a).pwr = s.pwr ∧
    (replanCause s a).ports = s.ports ∧ (replanCause s a).rings = s.rings ∧ (replanCause s a).cmds = s.cmds ∧ (replanCause s a).tabs = s.tabs ∧
    (replanCause s a).mapu = s.mapu ∧ (replanCause s a).cist = s.cist ∧ (replanCause s a).cache = s.cache ∧ (replanCause s a).med = s.med ∧
    (replanCause s a).keys = s.keys ∧ (replanCause s a).wear = s.wear ∧ (replanCause s a).drift = s.drift ∧ (replanCause s a).pair = s.pair ∧
    (replanCause s a).flt = s.flt ∧ (replanCause s a).ag = s.ag ∧ (replanCause s a).qz = s.qz ∧ (replanCause s a).th = s.th ∧ (replanCause s
    a).beryl = s.beryl ∧ (replanCause s a).sec = s.sec := by
  first
  | (simp [replanCause]; done)
  | (unfold replanCause; (try simp only []); (repeat' split) <;> (try intro ht) <;> (simp_all; done); done)

@[simp] theorem capEnter_keeps (s : Sys2Proof.Machine.State) (a : Cap) : (capEnter s a).pending = s.pending ∧ (capEnter s a).freeCtr = s.freeCtr ∧
    (capEnter s a).tabs = s.tabs ∧ (capEnter s a).mapu = s.mapu ∧ (capEnter s a).cist = s.cist ∧ (capEnter s a).cache = s.cache ∧ (capEnter s a).med
    = s.med ∧ (capEnter s a).keys = s.keys ∧ (capEnter s a).drift = s.drift ∧ (capEnter s a).qz = s.qz ∧ (capEnter s a).th = s.th ∧ (capEnter s
    a).sec = s.sec := by
  first
  | (simp [capEnter]; done)
  | (unfold capEnter; (try simp only []); (repeat' split) <;> (try intro ht) <;> (simp_all; done); done)

@[simp] theorem capSteps_keeps (a : ℕ) (s : Sys2Proof.Machine.State) : (capSteps a s).pending = s.pending ∧ (capSteps a s).freeCtr = s.freeCtr ∧
    (capSteps a s).tabs = s.tabs ∧ (capSteps a s).mapu = s.mapu ∧ (capSteps a s).cist = s.cist ∧ (capSteps a s).cache = s.cache ∧ (capSteps a s).med
    = s.med ∧ (capSteps a s).keys = s.keys ∧ (capSteps a s).drift = s.drift ∧ (capSteps a s).qz = s.qz ∧ (capSteps a s).th = s.th ∧ (capSteps a
    s).sec = s.sec := by
  fun_induction capSteps a s <;> (first | (simp_all; done) | simp_all +zetaDelta | (simp_all +zetaDelta; done))

@[simp] theorem evalCapacity_keeps (s : Sys2Proof.Machine.State) : (evalCapacity s).pending = s.pending ∧ (evalCapacity s).freeCtr = s.freeCtr ∧
    (evalCapacity s).tabs = s.tabs ∧ (evalCapacity s).mapu = s.mapu ∧ (evalCapacity s).cist = s.cist ∧ (evalCapacity s).cache = s.cache ∧
    (evalCapacity s).med = s.med ∧ (evalCapacity s).keys = s.keys ∧ (evalCapacity s).drift = s.drift ∧ (evalCapacity s).qz = s.qz ∧ (evalCapacity
    s).th = s.th ∧ (evalCapacity s).sec = s.sec := by
  first
  | (simp [evalCapacity]; done)
  | (unfold evalCapacity; (try simp only []); (repeat' split) <;> (try intro ht) <;> (simp_all; done); done)

@[simp] theorem replaceTile_keeps (s : Sys2Proof.Machine.State) (a : ℕ) (b : TileSt) (c : BitVec 32) : (replaceTile s a b c).pending = s.pending ∧
    (replaceTile s a b c).freeCtr = s.freeCtr ∧ (replaceTile s a b c).keys = s.keys ∧ (replaceTile s a b c).th = s.th ∧ (replaceTile s a b c).sec =
    s.sec := by
  first
  | (simp [replaceTile]; done)
  | (unfold replaceTile; (try simp only []); (repeat' split) <;> (try intro ht) <;> (simp_all; done); done)

@[simp] theorem unmapTile_keeps (s : Sys2Proof.Machine.State) (a : ℕ) : (unmapTile s a).pending = s.pending ∧ (unmapTile s a).freeCtr = s.freeCtr ∧
    (unmapTile s a).keys = s.keys ∧ (unmapTile s a).th = s.th ∧ (unmapTile s a).sec = s.sec := by
  first
  | (simp [unmapTile]; done)
  | (unfold unmapTile; (try simp only []); (repeat' split) <;> (try intro ht) <;> (simp_all; done); done)

@[simp] theorem unmapTiles_keeps (s : Sys2Proof.Machine.State) (a : List ℕ) : (unmapTiles s a).pending = s.pending ∧ (unmapTiles s a).freeCtr =
    s.freeCtr ∧ (unmapTiles s a).keys = s.keys ∧ (unmapTiles s a).th = s.th ∧ (unmapTiles s a).sec = s.sec := by
  fun_induction unmapTiles s a <;> (first | (simp_all; done) | simp_all +zetaDelta | (simp_all +zetaDelta; done))

@[simp] theorem dropExt_keeps (s : Sys2Proof.Machine.State) (a : Bool) (b : ℕ) (c : ℕ) : (dropExt s a b c).pending = s.pending ∧ (dropExt s a b
    c).freeCtr = s.freeCtr ∧ (dropExt s a b c).regs = s.regs ∧ (dropExt s a b c).req = s.req ∧ (dropExt s a b c).pwr = s.pwr ∧ (dropExt s a b
    c).rings = s.rings ∧ (dropExt s a b c).cmds = s.cmds ∧ (dropExt s a b c).tabs = s.tabs ∧ (dropExt s a b c).mapu = s.mapu ∧ (dropExt s a b
    c).cist = s.cist ∧ (dropExt s a b c).cache = s.cache ∧ (dropExt s a b c).med = s.med ∧ (dropExt s a b c).keys = s.keys ∧ (dropExt s a b c).wear
    = s.wear ∧ (dropExt s a b c).drift = s.drift ∧ (dropExt s a b c).pair = s.pair ∧ (dropExt s a b c).flt = s.flt ∧ (dropExt s a b c).ag = s.ag ∧
    (dropExt s a b c).qz = s.qz ∧ (dropExt s a b c).zir = s.zir ∧ (dropExt s a b c).th = s.th ∧ (dropExt s a b c).beryl = s.beryl ∧ (dropExt s a b
    c).sec = s.sec := by
  first
  | (simp [dropExt]; done)
  | (unfold dropExt; (try simp only []); (repeat' split) <;> (try intro ht) <;> (simp_all; done); done)

@[simp] theorem destroyWell_keeps (s : Sys2Proof.Machine.State) (a : ℕ) (b : Bool) : (destroyWell s a b).pending = s.pending ∧ (destroyWell s a
    b).freeCtr = s.freeCtr ∧ (destroyWell s a b).th = s.th ∧ (destroyWell s a b).sec = s.sec := by
  first
  | (simp [destroyWell]; done)
  | (unfold destroyWell; (try simp only []); (repeat' split) <;> (try intro ht) <;> (simp_all; done); done)

@[simp] theorem touchExt_keeps (s : Sys2Proof.Machine.State) (a : ℕ) : (touchExt s a).pending = s.pending ∧ (touchExt s a).out = s.out ∧ (touchExt s
    a).freeCtr = s.freeCtr ∧ (touchExt s a).regs = s.regs ∧ (touchExt s a).req = s.req ∧ (touchExt s a).pwr = s.pwr ∧ (touchExt s a).rings = s.rings
    ∧ (touchExt s a).cmds = s.cmds ∧ (touchExt s a).tabs = s.tabs ∧ (touchExt s a).mapu = s.mapu ∧ (touchExt s a).cist = s.cist ∧ (touchExt s
    a).cache = s.cache ∧ (touchExt s a).med = s.med ∧ (touchExt s a).keys = s.keys ∧ (touchExt s a).wear = s.wear ∧ (touchExt s a).drift = s.drift ∧
    (touchExt s a).pair = s.pair ∧ (touchExt s a).flt = s.flt ∧ (touchExt s a).ag = s.ag ∧ (touchExt s a).qz = s.qz ∧ (touchExt s a).zir = s.zir ∧
    (touchExt s a).th = s.th ∧ (touchExt s a).beryl = s.beryl ∧ (touchExt s a).sec = s.sec := by
  first
  | (simp [touchExt]; done)
  | (unfold touchExt; (try simp only []); (repeat' split) <;> (try intro ht) <;> (simp_all; done); done)

@[simp] theorem modifyWell_keeps (s : Sys2Proof.Machine.State) (a : ℕ) (b : Sys2Proof.Well) (c : Bool) : (modifyWell s a b c).pending = s.pending ∧
    (modifyWell s a b c).freeCtr = s.freeCtr ∧ (modifyWell s a b c).req = s.req ∧ (modifyWell s a b c).pwr = s.pwr ∧ (modifyWell s a b c).rings =
    s.rings ∧ (modifyWell s a b c).cmds = s.cmds ∧ (modifyWell s a b c).cist = s.cist ∧ (modifyWell s a b c).cache = s.cache ∧ (modifyWell s a b
    c).keys = s.keys ∧ (modifyWell s a b c).drift = s.drift ∧ (modifyWell s a b c).pair = s.pair ∧ (modifyWell s a b c).flt = s.flt ∧ (modifyWell s
    a b c).ag = s.ag ∧ (modifyWell s a b c).qz = s.qz ∧ (modifyWell s a b c).th = s.th ∧ (modifyWell s a b c).beryl = s.beryl ∧ (modifyWell s a b
    c).sec = s.sec := by
  unfold modifyWell; (repeat' constructor) <;> dsimp only <;> (first | (rw [foldl_pending]) | (rw [foldl_freeCtr]) | rw [foldl_regs] | rw [foldl_req] | rw [foldl_th] | rw [foldl_sec] | rw [foldl_keys] | rw [foldl_pwr] | rw [foldl_rings] | rw [foldl_cmds] | rw [foldl_med] | rw [foldl_wear] | rw [foldl_drift] | rw [foldl_flt] | rw [foldl_ag] | rw [foldl_qz] | rw [foldl_zir] | rw [foldl_beryl] | rw [foldl_tabs] | rw [foldl_mapu] | rw [foldl_cist] | rw [foldl_cache] | rw [foldl_pair] | rw [foldl_ports] | rw [foldl_out]) <;> (try simp; done) <;> intros <;> split <;> simp

@[simp] theorem startRotation_keeps (s : Sys2Proof.Machine.State) (a : ℕ) (b : Sys2Proof.Well) : (startRotation s a b).pending = s.pending ∧
    (startRotation s a b).req = s.req ∧ (startRotation s a b).ports = s.ports ∧ (startRotation s a b).mapu = s.mapu ∧ (startRotation s a b).cist =
    s.cist ∧ (startRotation s a b).cache = s.cache ∧ (startRotation s a b).med = s.med ∧ (startRotation s a b).wear = s.wear ∧ (startRotation s a
    b).drift = s.drift ∧ (startRotation s a b).pair = s.pair ∧ (startRotation s a b).flt = s.flt ∧ (startRotation s a b).qz = s.qz ∧ (startRotation
    s a b).zir = s.zir ∧ (startRotation s a b).th = s.th ∧ (startRotation s a b).sec = s.sec := by
  first
  | (simp [startRotation]; done)
  | (unfold startRotation; (try simp only []); (repeat' split) <;> (try intro ht) <;> (simp_all; done); done)

@[simp] theorem saveField_keeps (s : Sys2Proof.Machine.State) (a : Blk) (b : ℕ) (c : ℕ) (d : FieldT) : (saveField s a b c d).pending = s.pending ∧
    (saveField s a b c d).out = s.out ∧ (saveField s a b c d).freeCtr = s.freeCtr ∧ (saveField s a b c d).regs = s.regs ∧ (saveField s a b c d).req
    = s.req ∧ (saveField s a b c d).pwr = s.pwr ∧ (saveField s a b c d).ports = s.ports ∧ (saveField s a b c d).rings = s.rings ∧ (saveField s a b c
    d).cmds = s.cmds ∧ (saveField s a b c d).tabs = s.tabs ∧ (saveField s a b c d).mapu = s.mapu ∧ (saveField s a b c d).cist = s.cist ∧ (saveField
    s a b c d).cache = s.cache ∧ (saveField s a b c d).med = s.med ∧ (saveField s a b c d).keys = s.keys ∧ (saveField s a b c d).wear = s.wear ∧
    (saveField s a b c d).drift = s.drift ∧ (saveField s a b c d).pair = s.pair ∧ (saveField s a b c d).flt = s.flt ∧ (saveField s a b c d).ag =
    s.ag ∧ (saveField s a b c d).qz = s.qz ∧ (saveField s a b c d).zir = s.zir ∧ (saveField s a b c d).th = s.th ∧ (saveField s a b c d).sec = s.sec
    := by
  first
  | (simp [saveField]; done)
  | (unfold saveField; (try simp only []); (repeat' split) <;> (try intro ht) <;> (simp_all; done); done)

@[simp] theorem putPend_keeps (s : Sys2Proof.Machine.State) (a : Blk) (b : ℕ) (c : ℕ) (d : ℕ) (e : ℕ) : (putPend s a b c d e).pending = s.pending ∧
    (putPend s a b c d e).freeCtr = s.freeCtr ∧ (putPend s a b c d e).req = s.req ∧ (putPend s a b c d e).pwr = s.pwr ∧ (putPend s a b c d e).rings
    = s.rings ∧ (putPend s a b c d e).cmds = s.cmds ∧ (putPend s a b c d e).tabs = s.tabs ∧ (putPend s a b c d e).mapu = s.mapu ∧ (putPend s a b c d
    e).cache = s.cache ∧ (putPend s a b c d e).med = s.med ∧ (putPend s a b c d e).keys = s.keys ∧ (putPend s a b c d e).wear = s.wear ∧ (putPend s
    a b c d e).drift = s.drift ∧ (putPend s a b c d e).flt = s.flt ∧ (putPend s a b c d e).ag = s.ag ∧ (putPend s a b c d e).zir = s.zir ∧ (putPend
    s a b c d e).th = s.th ∧ (putPend s a b c d e).sec = s.sec := by
  first
  | (simp [putPend]; done)
  | (unfold putPend; (try simp only []); (repeat' split) <;> (try intro ht) <;> (simp_all; done); done)

@[simp] theorem applyRegTask_keeps (s : Sys2Proof.Machine.State) (a : Desc) : (applyRegTask s a).pending = s.pending ∧ (applyRegTask s a).freeCtr =
    s.freeCtr ∧ (applyRegTask s a).req = s.req ∧ (applyRegTask s a).pwr = s.pwr ∧ (applyRegTask s a).rings = s.rings ∧ (applyRegTask s a).cmds =
    s.cmds ∧ (applyRegTask s a).tabs = s.tabs ∧ (applyRegTask s a).mapu = s.mapu ∧ (applyRegTask s a).cache = s.cache ∧ (applyRegTask s a).med =
    s.med ∧ (applyRegTask s a).keys = s.keys ∧ (applyRegTask s a).wear = s.wear ∧ (applyRegTask s a).drift = s.drift ∧ (applyRegTask s a).flt =
    s.flt ∧ (applyRegTask s a).ag = s.ag ∧ (applyRegTask s a).zir = s.zir ∧ (applyRegTask s a).th = s.th ∧ (applyRegTask s a).sec = s.sec := by
  first
  | (simp [applyRegTask]; done)
  | (unfold applyRegTask; (try simp only []); (repeat' split) <;> (try intro ht) <;> (simp_all; done); done)

@[simp] theorem startEffect_keeps (s : Sys2Proof.Machine.State) (a : Sys2Proof.Machine.Task) : (startEffect s a).pending = s.pending ∧ (startEffect
    s a).th = s.th ∧ (startEffect s a).sec = s.sec := by
  first
  | (simp [startEffect]; done)
  | (unfold startEffect; (try simp only []); (repeat' split) <;> (try intro ht) <;> (simp_all; done); done)

@[simp] theorem startIfRoom_keeps (s : Sys2Proof.Machine.State) (a : Sys2Proof.Machine.Task) : (startIfRoom s a).pending = s.pending ∧ (startIfRoom
    s a).th = s.th ∧ (startIfRoom s a).sec = s.sec := by
  first
  | (simp [startIfRoom]; done)
  | (unfold startIfRoom; (try simp only []); (repeat' split) <;> (try intro ht) <;> (simp_all; done); done)

@[simp] theorem putEntry_keeps (s : Sys2Proof.Machine.State) (a : ℕ) (b : MapEntry) : (putEntry s a b).pending = s.pending ∧ (putEntry s a b).out =
    s.out ∧ (putEntry s a b).freeCtr = s.freeCtr ∧ (putEntry s a b).regs = s.regs ∧ (putEntry s a b).req = s.req ∧ (putEntry s a b).pwr = s.pwr ∧
    (putEntry s a b).ports = s.ports ∧ (putEntry s a b).rings = s.rings ∧ (putEntry s a b).cmds = s.cmds ∧ (putEntry s a b).cist = s.cist ∧
    (putEntry s a b).cache = s.cache ∧ (putEntry s a b).med = s.med ∧ (putEntry s a b).keys = s.keys ∧ (putEntry s a b).wear = s.wear ∧ (putEntry s
    a b).drift = s.drift ∧ (putEntry s a b).pair = s.pair ∧ (putEntry s a b).flt = s.flt ∧ (putEntry s a b).ag = s.ag ∧ (putEntry s a b).qz = s.qz ∧
    (putEntry s a b).zir = s.zir ∧ (putEntry s a b).th = s.th ∧ (putEntry s a b).beryl = s.beryl ∧ (putEntry s a b).sec = s.sec := by
  first
  | (simp [putEntry]; done)
  | (unfold putEntry; (try simp only []); (repeat' split) <;> (try intro ht) <;> (simp_all; done); done)

@[simp] theorem makeLost_keeps (s : Sys2Proof.Machine.State) (a : ℕ) : (makeLost s a).pending = s.pending ∧ (makeLost s a).out = s.out ∧ (makeLost s
    a).freeCtr = s.freeCtr ∧ (makeLost s a).regs = s.regs ∧ (makeLost s a).req = s.req ∧ (makeLost s a).pwr = s.pwr ∧ (makeLost s a).ports = s.ports
    ∧ (makeLost s a).rings = s.rings ∧ (makeLost s a).cmds = s.cmds ∧ (makeLost s a).cist = s.cist ∧ (makeLost s a).cache = s.cache ∧ (makeLost s
    a).med = s.med ∧ (makeLost s a).keys = s.keys ∧ (makeLost s a).wear = s.wear ∧ (makeLost s a).drift = s.drift ∧ (makeLost s a).pair = s.pair ∧
    (makeLost s a).flt = s.flt ∧ (makeLost s a).ag = s.ag ∧ (makeLost s a).qz = s.qz ∧ (makeLost s a).zir = s.zir ∧ (makeLost s a).th = s.th ∧
    (makeLost s a).beryl = s.beryl ∧ (makeLost s a).sec = s.sec := by
  first
  | (simp [makeLost]; done)
  | (unfold makeLost; (try simp only []); (repeat' split) <;> (try intro ht) <;> (simp_all; done); done)

@[simp] theorem convertEntry_keeps (s : Sys2Proof.Machine.State) (a : ℕ) : (convertEntry s a).pending = s.pending ∧ (convertEntry s a).out = s.out ∧
    (convertEntry s a).freeCtr = s.freeCtr ∧ (convertEntry s a).regs = s.regs ∧ (convertEntry s a).req = s.req ∧ (convertEntry s a).pwr = s.pwr ∧
    (convertEntry s a).ports = s.ports ∧ (convertEntry s a).rings = s.rings ∧ (convertEntry s a).cmds = s.cmds ∧ (convertEntry s a).cist = s.cist ∧
    (convertEntry s a).cache = s.cache ∧ (convertEntry s a).med = s.med ∧ (convertEntry s a).keys = s.keys ∧ (convertEntry s a).wear = s.wear ∧
    (convertEntry s a).drift = s.drift ∧ (convertEntry s a).pair = s.pair ∧ (convertEntry s a).flt = s.flt ∧ (convertEntry s a).ag = s.ag ∧
    (convertEntry s a).qz = s.qz ∧ (convertEntry s a).zir = s.zir ∧ (convertEntry s a).th = s.th ∧ (convertEntry s a).beryl = s.beryl ∧
    (convertEntry s a).sec = s.sec := by
  first
  | (simp [convertEntry]; done)
  | (unfold convertEntry; (try simp only []); (repeat' split) <;> (try intro ht) <;> (simp_all; done); done)

@[simp] theorem modSlice_keeps (s : Sys2Proof.Machine.State) (a : ℕ) (b : SliceT → SliceT) : (modSlice s a b).pending = s.pending ∧ (modSlice s a
    b).out = s.out ∧ (modSlice s a b).freeCtr = s.freeCtr ∧ (modSlice s a b).regs = s.regs ∧ (modSlice s a b).req = s.req ∧ (modSlice s a b).pwr =
    s.pwr ∧ (modSlice s a b).ports = s.ports ∧ (modSlice s a b).rings = s.rings ∧ (modSlice s a b).cmds = s.cmds ∧ (modSlice s a b).tabs = s.tabs ∧
    (modSlice s a b).mapu = s.mapu ∧ (modSlice s a b).cist = s.cist ∧ (modSlice s a b).med = s.med ∧ (modSlice s a b).keys = s.keys ∧ (modSlice s a
    b).wear = s.wear ∧ (modSlice s a b).drift = s.drift ∧ (modSlice s a b).pair = s.pair ∧ (modSlice s a b).flt = s.flt ∧ (modSlice s a b).ag = s.ag
    ∧ (modSlice s a b).qz = s.qz ∧ (modSlice s a b).zir = s.zir ∧ (modSlice s a b).th = s.th ∧ (modSlice s a b).beryl = s.beryl ∧ (modSlice s a
    b).sec = s.sec := by
  first
  | (simp [modSlice]; done)
  | (unfold modSlice; (try simp only []); (repeat' split) <;> (try intro ht) <;> (simp_all; done); done)

@[simp] theorem flagCache_keeps (s : Sys2Proof.Machine.State) (a : ℕ) (b : ℕ) (c : ℕ) (d : Bool) : (flagCache s a b c d).pending = s.pending ∧
    (flagCache s a b c d).out = s.out ∧ (flagCache s a b c d).freeCtr = s.freeCtr ∧ (flagCache s a b c d).req = s.req ∧ (flagCache s a b c d).pwr =
    s.pwr ∧ (flagCache s a b c d).ports = s.ports ∧ (flagCache s a b c d).rings = s.rings ∧ (flagCache s a b c d).cmds = s.cmds ∧ (flagCache s a b c
    d).tabs = s.tabs ∧ (flagCache s a b c d).mapu = s.mapu ∧ (flagCache s a b c d).cist = s.cist ∧ (flagCache s a b c d).cache = s.cache ∧
    (flagCache s a b c d).med = s.med ∧ (flagCache s a b c d).keys = s.keys ∧ (flagCache s a b c d).wear = s.wear ∧ (flagCache s a b c d).drift =
    s.drift ∧ (flagCache s a b c d).pair = s.pair ∧ (flagCache s a b c d).flt = s.flt ∧ (flagCache s a b c d).ag = s.ag ∧ (flagCache s a b c d).qz =
    s.qz ∧ (flagCache s a b c d).zir = s.zir ∧ (flagCache s a b c d).th = s.th ∧ (flagCache s a b c d).beryl = s.beryl ∧ (flagCache s a b c d).sec =
    s.sec := by
  first
  | (simp [flagCache]; done)
  | (unfold flagCache; (try simp only []); (repeat' split) <;> (try intro ht) <;> (simp_all; done); done)

@[simp] theorem cacheErr_keeps (s : Sys2Proof.Machine.State) (a : ℕ) (b : ℕ) : (cacheErr s a b).pending = s.pending ∧ (cacheErr s a b).out = s.out ∧
    (cacheErr s a b).freeCtr = s.freeCtr ∧ (cacheErr s a b).req = s.req ∧ (cacheErr s a b).pwr = s.pwr ∧ (cacheErr s a b).ports = s.ports ∧
    (cacheErr s a b).rings = s.rings ∧ (cacheErr s a b).cmds = s.cmds ∧ (cacheErr s a b).tabs = s.tabs ∧ (cacheErr s a b).mapu = s.mapu ∧ (cacheErr
    s a b).cist = s.cist ∧ (cacheErr s a b).med = s.med ∧ (cacheErr s a b).keys = s.keys ∧ (cacheErr s a b).wear = s.wear ∧ (cacheErr s a b).drift =
    s.drift ∧ (cacheErr s a b).pair = s.pair ∧ (cacheErr s a b).flt = s.flt ∧ (cacheErr s a b).ag = s.ag ∧ (cacheErr s a b).qz = s.qz ∧ (cacheErr s
    a b).zir = s.zir ∧ (cacheErr s a b).th = s.th ∧ (cacheErr s a b).beryl = s.beryl ∧ (cacheErr s a b).sec = s.sec := by
  first
  | (simp [cacheErr]; done)
  | (unfold cacheErr; (try simp only []); (repeat' split) <;> (try intro ht) <;> (simp_all; done); done)

@[simp] theorem startDisable_keeps (s : Sys2Proof.Machine.State) (a : ℕ) (b : ℕ) : (startDisable s a b).pending = s.pending ∧ (startDisable s a
    b).out = s.out ∧ (startDisable s a b).freeCtr = s.freeCtr ∧ (startDisable s a b).regs = s.regs ∧ (startDisable s a b).req = s.req ∧
    (startDisable s a b).pwr = s.pwr ∧ (startDisable s a b).ports = s.ports ∧ (startDisable s a b).rings = s.rings ∧ (startDisable s a b).cmds =
    s.cmds ∧ (startDisable s a b).tabs = s.tabs ∧ (startDisable s a b).mapu = s.mapu ∧ (startDisable s a b).cist = s.cist ∧ (startDisable s a b).med
    = s.med ∧ (startDisable s a b).keys = s.keys ∧ (startDisable s a b).wear = s.wear ∧ (startDisable s a b).drift = s.drift ∧ (startDisable s a
    b).pair = s.pair ∧ (startDisable s a b).flt = s.flt ∧ (startDisable s a b).ag = s.ag ∧ (startDisable s a b).qz = s.qz ∧ (startDisable s a b).zir
    = s.zir ∧ (startDisable s a b).th = s.th ∧ (startDisable s a b).beryl = s.beryl ∧ (startDisable s a b).sec = s.sec := by
  first
  | (simp [startDisable]; done)
  | (unfold startDisable; (try simp only []); (repeat' split) <;> (try intro ht) <;> (simp_all; done); done)

@[simp] theorem wayCe_keeps (s : Sys2Proof.Machine.State) (a : ℕ) : (wayCe s a).pending = s.pending ∧ (wayCe s a).out = s.out ∧ (wayCe s a).freeCtr
    = s.freeCtr ∧ (wayCe s a).req = s.req ∧ (wayCe s a).pwr = s.pwr ∧ (wayCe s a).ports = s.ports ∧ (wayCe s a).rings = s.rings ∧ (wayCe s a).cmds =
    s.cmds ∧ (wayCe s a).tabs = s.tabs ∧ (wayCe s a).mapu = s.mapu ∧ (wayCe s a).cist = s.cist ∧ (wayCe s a).med = s.med ∧ (wayCe s a).keys = s.keys
    ∧ (wayCe s a).wear = s.wear ∧ (wayCe s a).drift = s.drift ∧ (wayCe s a).pair = s.pair ∧ (wayCe s a).flt = s.flt ∧ (wayCe s a).ag = s.ag ∧ (wayCe
    s a).qz = s.qz ∧ (wayCe s a).zir = s.zir ∧ (wayCe s a).th = s.th ∧ (wayCe s a).beryl = s.beryl ∧ (wayCe s a).sec = s.sec := by
  first
  | (simp [wayCe]; done)
  | (unfold wayCe; (try simp only []); (repeat' split) <;> (try intro ht) <;> (simp_all; done); done)

@[simp] theorem setWay_keeps (s : Sys2Proof.Machine.State) (a : ℕ) (b : WayT) : (setWay s a b).pending = s.pending ∧ (setWay s a b).out = s.out ∧
    (setWay s a b).freeCtr = s.freeCtr ∧ (setWay s a b).regs = s.regs ∧ (setWay s a b).req = s.req ∧ (setWay s a b).pwr = s.pwr ∧ (setWay s a
    b).ports = s.ports ∧ (setWay s a b).rings = s.rings ∧ (setWay s a b).cmds = s.cmds ∧ (setWay s a b).tabs = s.tabs ∧ (setWay s a b).mapu = s.mapu
    ∧ (setWay s a b).cist = s.cist ∧ (setWay s a b).med = s.med ∧ (setWay s a b).keys = s.keys ∧ (setWay s a b).wear = s.wear ∧ (setWay s a b).drift
    = s.drift ∧ (setWay s a b).pair = s.pair ∧ (setWay s a b).flt = s.flt ∧ (setWay s a b).ag = s.ag ∧ (setWay s a b).qz = s.qz ∧ (setWay s a b).zir
    = s.zir ∧ (setWay s a b).th = s.th ∧ (setWay s a b).beryl = s.beryl ∧ (setWay s a b).sec = s.sec := by
  first
  | (simp [setWay]; done)
  | (unfold setWay; (try simp only []); (repeat' split) <;> (try intro ht) <;> (simp_all; done); done)

@[simp] theorem takeMtag_keeps (s : Sys2Proof.Machine.State) : (takeMtag s).2.pending = s.pending ∧ (takeMtag s).2.out = s.out ∧ (takeMtag
    s).2.freeCtr = s.freeCtr ∧ (takeMtag s).2.regs = s.regs ∧ (takeMtag s).2.req = s.req ∧ (takeMtag s).2.pwr = s.pwr ∧ (takeMtag s).2.ports =
    s.ports ∧ (takeMtag s).2.rings = s.rings ∧ (takeMtag s).2.cmds = s.cmds ∧ (takeMtag s).2.tabs = s.tabs ∧ (takeMtag s).2.mapu = s.mapu ∧
    (takeMtag s).2.cist = s.cist ∧ (takeMtag s).2.cache = s.cache ∧ (takeMtag s).2.med = s.med ∧ (takeMtag s).2.keys = s.keys ∧ (takeMtag s).2.wear
    = s.wear ∧ (takeMtag s).2.drift = s.drift ∧ (takeMtag s).2.flt = s.flt ∧ (takeMtag s).2.ag = s.ag ∧ (takeMtag s).2.qz = s.qz ∧ (takeMtag
    s).2.zir = s.zir ∧ (takeMtag s).2.th = s.th ∧ (takeMtag s).2.beryl = s.beryl ∧ (takeMtag s).2.sec = s.sec := by
  first
  | (simp [takeMtag]; done)
  | (unfold takeMtag; (try simp only []); (repeat' split) <;> (try intro ht) <;> (simp_all; done); done)

@[simp] theorem askRepair_keeps (s : Sys2Proof.Machine.State) (a : ℕ) : (askRepair s a).pending = s.pending ∧ (askRepair s a).freeCtr = s.freeCtr ∧
    (askRepair s a).regs = s.regs ∧ (askRepair s a).req = s.req ∧ (askRepair s a).pwr = s.pwr ∧ (askRepair s a).ports = s.ports ∧ (askRepair s
    a).rings = s.rings ∧ (askRepair s a).cmds = s.cmds ∧ (askRepair s a).tabs = s.tabs ∧ (askRepair s a).mapu = s.mapu ∧ (askRepair s a).cist =
    s.cist ∧ (askRepair s a).cache = s.cache ∧ (askRepair s a).med = s.med ∧ (askRepair s a).keys = s.keys ∧ (askRepair s a).wear = s.wear ∧
    (askRepair s a).drift = s.drift ∧ (askRepair s a).flt = s.flt ∧ (askRepair s a).ag = s.ag ∧ (askRepair s a).qz = s.qz ∧ (askRepair s a).zir =
    s.zir ∧ (askRepair s a).th = s.th ∧ (askRepair s a).beryl = s.beryl ∧ (askRepair s a).sec = s.sec := by
  first
  | (simp [askRepair]; done)
  | (unfold askRepair; (try simp only []); (repeat' split) <;> (try intro ht) <;> ((try (have p := congrArg Prod.fst ‹_ = (_, _)›; simp only [] at p; subst p)); (try (first | (injection ht with ht; subst ht; simp_all; done) | (subst ht; simp_all; done) | (subst_vars; simp_all; done) | simp_all))); done)

@[simp] theorem wayErr_keeps (s : Sys2Proof.Machine.State) (a : ℕ) (b : Sys2Proof.ArrErr) : (wayErr s a b).pending = s.pending ∧ (wayErr s a
    b).freeCtr = s.freeCtr ∧ (wayErr s a b).keys = s.keys ∧ (wayErr s a b).th = s.th ∧ (wayErr s a b).sec = s.sec := by
  first
  | (simp [wayErr]; done)
  | (unfold wayErr; (try simp only []); (repeat' split) <;> (try intro ht) <;> (simp_all; done); done)

@[simp] theorem checkWay_keeps (s : Sys2Proof.Machine.State) (a : ℕ) : (checkWay s a).pending = s.pending ∧ (checkWay s a).freeCtr = s.freeCtr ∧
    (checkWay s a).keys = s.keys ∧ (checkWay s a).th = s.th ∧ (checkWay s a).sec = s.sec := by
  first
  | (simp [checkWay]; done)
  | (unfold checkWay; (try simp only []); (repeat' split) <;> (try intro ht) <;> (simp_all; done); done)

@[simp] theorem modSlot_keeps (s : Sys2Proof.Machine.State) (a : ℕ) (b : Cis → Cis) : (modSlot s a b).pending = s.pending ∧ (modSlot s a b).out =
    s.out ∧ (modSlot s a b).freeCtr = s.freeCtr ∧ (modSlot s a b).regs = s.regs ∧ (modSlot s a b).req = s.req ∧ (modSlot s a b).pwr = s.pwr ∧
    (modSlot s a b).ports = s.ports ∧ (modSlot s a b).rings = s.rings ∧ (modSlot s a b).cmds = s.cmds ∧ (modSlot s a b).tabs = s.tabs ∧ (modSlot s a
    b).mapu = s.mapu ∧ (modSlot s a b).cache = s.cache ∧ (modSlot s a b).med = s.med ∧ (modSlot s a b).keys = s.keys ∧ (modSlot s a b).wear = s.wear
    ∧ (modSlot s a b).drift = s.drift ∧ (modSlot s a b).pair = s.pair ∧ (modSlot s a b).flt = s.flt ∧ (modSlot s a b).ag = s.ag ∧ (modSlot s a b).qz
    = s.qz ∧ (modSlot s a b).zir = s.zir ∧ (modSlot s a b).th = s.th ∧ (modSlot s a b).beryl = s.beryl ∧ (modSlot s a b).sec = s.sec := by
  first
  | (simp [modSlot]; done)
  | (unfold modSlot; (try simp only []); (repeat' split) <;> (try intro ht) <;> (simp_all; done); done)

@[simp] theorem flagFull_keeps (s : Sys2Proof.Machine.State) (a : List ℕ) : (flagFull s a).pending = s.pending ∧ (flagFull s a).out = s.out ∧
    (flagFull s a).freeCtr = s.freeCtr ∧ (flagFull s a).req = s.req ∧ (flagFull s a).pwr = s.pwr ∧ (flagFull s a).ports = s.ports ∧ (flagFull s
    a).rings = s.rings ∧ (flagFull s a).cmds = s.cmds ∧ (flagFull s a).tabs = s.tabs ∧ (flagFull s a).mapu = s.mapu ∧ (flagFull s a).cist = s.cist ∧
    (flagFull s a).cache = s.cache ∧ (flagFull s a).med = s.med ∧ (flagFull s a).keys = s.keys ∧ (flagFull s a).wear = s.wear ∧ (flagFull s a).drift
    = s.drift ∧ (flagFull s a).pair = s.pair ∧ (flagFull s a).flt = s.flt ∧ (flagFull s a).ag = s.ag ∧ (flagFull s a).qz = s.qz ∧ (flagFull s a).zir
    = s.zir ∧ (flagFull s a).th = s.th ∧ (flagFull s a).beryl = s.beryl ∧ (flagFull s a).sec = s.sec := by
  first
  | (simp [flagFull]; done)
  | (unfold flagFull; (try simp only []); (repeat' split) <;> (try intro ht) <;> (simp_all; done); done)

@[simp] theorem enterCistern.addSlot_keeps (s : Sys2Proof.Machine.State) (a : ℕ) (b : LineV) : (enterCistern.addSlot s a b).pending = s.pending ∧
    (enterCistern.addSlot s a b).out = s.out ∧ (enterCistern.addSlot s a b).freeCtr = s.freeCtr ∧ (enterCistern.addSlot s a b).req = s.req ∧
    (enterCistern.addSlot s a b).pwr = s.pwr ∧ (enterCistern.addSlot s a b).ports = s.ports ∧ (enterCistern.addSlot s a b).rings = s.rings ∧
    (enterCistern.addSlot s a b).cmds = s.cmds ∧ (enterCistern.addSlot s a b).tabs = s.tabs ∧ (enterCistern.addSlot s a b).mapu = s.mapu ∧
    (enterCistern.addSlot s a b).cache = s.cache ∧ (enterCistern.addSlot s a b).med = s.med ∧ (enterCistern.addSlot s a b).keys = s.keys ∧
    (enterCistern.addSlot s a b).wear = s.wear ∧ (enterCistern.addSlot s a b).drift = s.drift ∧ (enterCistern.addSlot s a b).pair = s.pair ∧
    (enterCistern.addSlot s a b).flt = s.flt ∧ (enterCistern.addSlot s a b).ag = s.ag ∧ (enterCistern.addSlot s a b).qz = s.qz ∧
    (enterCistern.addSlot s a b).zir = s.zir ∧ (enterCistern.addSlot s a b).th = s.th ∧ (enterCistern.addSlot s a b).beryl = s.beryl ∧
    (enterCistern.addSlot s a b).sec = s.sec := by
  first
  | (simp [enterCistern.addSlot]; done)
  | (unfold enterCistern.addSlot; (try simp only []); (repeat' split) <;> (try intro ht) <;> (simp_all; done); done)

@[simp] theorem enterCistern_keeps (s : Sys2Proof.Machine.State) (a : ℕ) (b : LineV) : (enterCistern s a b).pending = s.pending ∧ (enterCistern s a
    b).out = s.out ∧ (enterCistern s a b).freeCtr = s.freeCtr ∧ (enterCistern s a b).req = s.req ∧ (enterCistern s a b).pwr = s.pwr ∧ (enterCistern
    s a b).ports = s.ports ∧ (enterCistern s a b).rings = s.rings ∧ (enterCistern s a b).cmds = s.cmds ∧ (enterCistern s a b).tabs = s.tabs ∧
    (enterCistern s a b).mapu = s.mapu ∧ (enterCistern s a b).cache = s.cache ∧ (enterCistern s a b).med = s.med ∧ (enterCistern s a b).keys =
    s.keys ∧ (enterCistern s a b).wear = s.wear ∧ (enterCistern s a b).drift = s.drift ∧ (enterCistern s a b).pair = s.pair ∧ (enterCistern s a
    b).flt = s.flt ∧ (enterCistern s a b).ag = s.ag ∧ (enterCistern s a b).qz = s.qz ∧ (enterCistern s a b).zir = s.zir ∧ (enterCistern s a b).th =
    s.th ∧ (enterCistern s a b).beryl = s.beryl ∧ (enterCistern s a b).sec = s.sec := by
  first
  | (simp [enterCistern]; done)
  | (unfold enterCistern; (try simp only []); (repeat' split) <;> (try intro ht) <;> (simp_all; done); done)

@[simp] theorem sendRefusal_keeps (s : Sys2Proof.Machine.State) (a : ℕ) : (sendRefusal s a).pending = s.pending ∧ (sendRefusal s a).freeCtr =
    s.freeCtr ∧ (sendRefusal s a).regs = s.regs ∧ (sendRefusal s a).req = s.req ∧ (sendRefusal s a).pwr = s.pwr ∧ (sendRefusal s a).ports = s.ports
    ∧ (sendRefusal s a).rings = s.rings ∧ (sendRefusal s a).cmds = s.cmds ∧ (sendRefusal s a).tabs = s.tabs ∧ (sendRefusal s a).mapu = s.mapu ∧
    (sendRefusal s a).cist = s.cist ∧ (sendRefusal s a).cache = s.cache ∧ (sendRefusal s a).med = s.med ∧ (sendRefusal s a).keys = s.keys ∧
    (sendRefusal s a).wear = s.wear ∧ (sendRefusal s a).drift = s.drift ∧ (sendRefusal s a).flt = s.flt ∧ (sendRefusal s a).ag = s.ag ∧ (sendRefusal
    s a).qz = s.qz ∧ (sendRefusal s a).zir = s.zir ∧ (sendRefusal s a).th = s.th ∧ (sendRefusal s a).beryl = s.beryl ∧ (sendRefusal s a).sec = s.sec
    := by
  have k := takeMtag_keeps s
  unfold sendRefusal; split
  · simp
  · dsimp only; split <;> simp_all

@[simp] theorem handOff_keeps (s : Sys2Proof.Machine.State) (a : ℕ) (b : LineV) : (handOff s a b).1.pending = s.pending ∧ (handOff s a b).1.freeCtr
    = s.freeCtr ∧ (handOff s a b).1.keys = s.keys ∧ (handOff s a b).1.th = s.th ∧ (handOff s a b).1.sec = s.sec := by
  first
  | (simp [handOff]; done)
  | (unfold handOff; (try simp only []); (repeat' split) <;> (try intro ht) <;> (simp_all; done); done)

@[simp] theorem cleanWay_keeps (s : Sys2Proof.Machine.State) (a : ℕ) : (cleanWay s a).pending = s.pending ∧ (cleanWay s a).freeCtr = s.freeCtr ∧
    (cleanWay s a).keys = s.keys ∧ (cleanWay s a).th = s.th ∧ (cleanWay s a).sec = s.sec := by
  first
  | (simp [cleanWay]; done)
  | (unfold cleanWay; (try simp only []); (repeat' split) <;> (try intro ht) <;> ((try (have p := congrArg Prod.fst ‹_ = (_, _)›; simp only [] at p; subst p)); (try (first | (injection ht with ht; subst ht; simp_all; done) | (subst ht; simp_all; done) | (subst_vars; simp_all; done) | simp_all))); done)

@[simp] theorem cleanTile_keeps (s : Sys2Proof.Machine.State) (a : ℕ) : (cleanTile s a).pending = s.pending ∧ (cleanTile s a).freeCtr = s.freeCtr ∧
    (cleanTile s a).keys = s.keys ∧ (cleanTile s a).th = s.th ∧ (cleanTile s a).sec = s.sec := by
  first
  | (simp [cleanTile]; done)
  | (unfold cleanTile; (try simp only []); (repeat' split) <;> (try intro ht) <;> (simp_all; done); done)

@[simp] theorem cloneTile_keeps (s : Sys2Proof.Machine.State) (a : ℕ) (b : ℕ) (c : List JVal) (d : MapEntry) : (cloneTile s a b c d).pending =
    s.pending ∧ (cloneTile s a b c d).freeCtr = s.freeCtr ∧ (cloneTile s a b c d).keys = s.keys ∧ (cloneTile s a b c d).th = s.th ∧ (cloneTile s a b
    c d).sec = s.sec := by
  first
  | (simp [cloneTile]; done)
  | (unfold cloneTile; (try simp only []); (repeat' split) <;> (try intro ht) <;> (simp_all; done); done)

@[simp] theorem flagCloneFull_keeps (s : Sys2Proof.Machine.State) : (flagCloneFull s).pending = s.pending ∧ (flagCloneFull s).out = s.out ∧
    (flagCloneFull s).freeCtr = s.freeCtr ∧ (flagCloneFull s).req = s.req ∧ (flagCloneFull s).pwr = s.pwr ∧ (flagCloneFull s).ports = s.ports ∧
    (flagCloneFull s).rings = s.rings ∧ (flagCloneFull s).cmds = s.cmds ∧ (flagCloneFull s).tabs = s.tabs ∧ (flagCloneFull s).mapu = s.mapu ∧
    (flagCloneFull s).cist = s.cist ∧ (flagCloneFull s).cache = s.cache ∧ (flagCloneFull s).med = s.med ∧ (flagCloneFull s).keys = s.keys ∧
    (flagCloneFull s).wear = s.wear ∧ (flagCloneFull s).drift = s.drift ∧ (flagCloneFull s).pair = s.pair ∧ (flagCloneFull s).flt = s.flt ∧
    (flagCloneFull s).ag = s.ag ∧ (flagCloneFull s).qz = s.qz ∧ (flagCloneFull s).zir = s.zir ∧ (flagCloneFull s).th = s.th ∧ (flagCloneFull
    s).beryl = s.beryl ∧ (flagCloneFull s).sec = s.sec := by
  first
  | (simp [flagCloneFull]; done)
  | (unfold flagCloneFull; (try simp only []); (repeat' split) <;> (try intro ht) <;> (simp_all; done); done)

@[simp] theorem checkLine_keeps (s : Sys2Proof.Machine.State) (a : ℕ) : (checkLine s a).pending = s.pending ∧ (checkLine s a).freeCtr = s.freeCtr ∧
    (checkLine s a).keys = s.keys ∧ (checkLine s a).th = s.th ∧ (checkLine s a).sec = s.sec := by
  first
  | (simp [checkLine]; done)
  | (unfold checkLine; (try simp only []); (repeat' split) <;> (try intro ht) <;> (simp_all; done); done)

@[simp] theorem flagDrift_keeps (s : Sys2Proof.Machine.State) (a : ℕ) (b : ℕ) : (flagDrift s a b).pending = s.pending ∧ (flagDrift s a b).out =
    s.out ∧ (flagDrift s a b).freeCtr = s.freeCtr ∧ (flagDrift s a b).req = s.req ∧ (flagDrift s a b).pwr = s.pwr ∧ (flagDrift s a b).ports =
    s.ports ∧ (flagDrift s a b).rings = s.rings ∧ (flagDrift s a b).cmds = s.cmds ∧ (flagDrift s a b).tabs = s.tabs ∧ (flagDrift s a b).mapu =
    s.mapu ∧ (flagDrift s a b).cist = s.cist ∧ (flagDrift s a b).cache = s.cache ∧ (flagDrift s a b).med = s.med ∧ (flagDrift s a b).keys = s.keys ∧
    (flagDrift s a b).wear = s.wear ∧ (flagDrift s a b).drift = s.drift ∧ (flagDrift s a b).pair = s.pair ∧ (flagDrift s a b).flt = s.flt ∧
    (flagDrift s a b).ag = s.ag ∧ (flagDrift s a b).qz = s.qz ∧ (flagDrift s a b).zir = s.zir ∧ (flagDrift s a b).th = s.th ∧ (flagDrift s a
    b).beryl = s.beryl ∧ (flagDrift s a b).sec = s.sec := by
  first
  | (simp [flagDrift]; done)
  | (unfold flagDrift; (try simp only []); (repeat' split) <;> (try intro ht) <;> (simp_all; done); done)

@[simp] theorem flagMedia_keeps (s : Sys2Proof.Machine.State) (a : ℕ) (b : ℕ) : (flagMedia s a b).pending = s.pending ∧ (flagMedia s a b).out =
    s.out ∧ (flagMedia s a b).freeCtr = s.freeCtr ∧ (flagMedia s a b).req = s.req ∧ (flagMedia s a b).pwr = s.pwr ∧ (flagMedia s a b).ports =
    s.ports ∧ (flagMedia s a b).rings = s.rings ∧ (flagMedia s a b).cmds = s.cmds ∧ (flagMedia s a b).tabs = s.tabs ∧ (flagMedia s a b).mapu =
    s.mapu ∧ (flagMedia s a b).cist = s.cist ∧ (flagMedia s a b).cache = s.cache ∧ (flagMedia s a b).med = s.med ∧ (flagMedia s a b).keys = s.keys ∧
    (flagMedia s a b).wear = s.wear ∧ (flagMedia s a b).drift = s.drift ∧ (flagMedia s a b).pair = s.pair ∧ (flagMedia s a b).flt = s.flt ∧
    (flagMedia s a b).ag = s.ag ∧ (flagMedia s a b).qz = s.qz ∧ (flagMedia s a b).zir = s.zir ∧ (flagMedia s a b).th = s.th ∧ (flagMedia s a
    b).beryl = s.beryl ∧ (flagMedia s a b).sec = s.sec := by
  first
  | (simp [flagMedia]; done)
  | (unfold flagMedia; (try simp only []); (repeat' split) <;> (try intro ht) <;> (simp_all; done); done)

@[simp] theorem mediaErr_keeps (s : Sys2Proof.Machine.State) (a : ℕ) (b : ℕ) (c : ℕ) : (mediaErr s a b c).pending = s.pending ∧ (mediaErr s a b
    c).out = s.out ∧ (mediaErr s a b c).freeCtr = s.freeCtr ∧ (mediaErr s a b c).req = s.req ∧ (mediaErr s a b c).pwr = s.pwr ∧ (mediaErr s a b
    c).ports = s.ports ∧ (mediaErr s a b c).rings = s.rings ∧ (mediaErr s a b c).cmds = s.cmds ∧ (mediaErr s a b c).tabs = s.tabs ∧ (mediaErr s a b
    c).mapu = s.mapu ∧ (mediaErr s a b c).cist = s.cist ∧ (mediaErr s a b c).cache = s.cache ∧ (mediaErr s a b c).med = s.med ∧ (mediaErr s a b
    c).keys = s.keys ∧ (mediaErr s a b c).wear = s.wear ∧ (mediaErr s a b c).pair = s.pair ∧ (mediaErr s a b c).flt = s.flt ∧ (mediaErr s a b c).ag
    = s.ag ∧ (mediaErr s a b c).qz = s.qz ∧ (mediaErr s a b c).zir = s.zir ∧ (mediaErr s a b c).th = s.th ∧ (mediaErr s a b c).beryl = s.beryl ∧
    (mediaErr s a b c).sec = s.sec := by
  first
  | (simp [mediaErr]; done)
  | (unfold mediaErr; (try simp only []); (repeat' split) <;> (try intro ht) <;> (simp_all; done); done)

@[simp] theorem decodeClass_keeps (s : Sys2Proof.Machine.State) (a : ℕ) (b : ℕ) (c : Attr) : (decodeClass s a b c).pending = s.pending ∧
    (decodeClass s a b c).out = s.out ∧ (decodeClass s a b c).freeCtr = s.freeCtr ∧ (decodeClass s a b c).req = s.req ∧ (decodeClass s a b c).pwr =
    s.pwr ∧ (decodeClass s a b c).ports = s.ports ∧ (decodeClass s a b c).rings = s.rings ∧ (decodeClass s a b c).cmds = s.cmds ∧ (decodeClass s a b
    c).tabs = s.tabs ∧ (decodeClass s a b c).mapu = s.mapu ∧ (decodeClass s a b c).cist = s.cist ∧ (decodeClass s a b c).cache = s.cache ∧
    (decodeClass s a b c).med = s.med ∧ (decodeClass s a b c).keys = s.keys ∧ (decodeClass s a b c).wear = s.wear ∧ (decodeClass s a b c).pair =
    s.pair ∧ (decodeClass s a b c).flt = s.flt ∧ (decodeClass s a b c).ag = s.ag ∧ (decodeClass s a b c).zir = s.zir ∧ (decodeClass s a b c).th =
    s.th ∧ (decodeClass s a b c).beryl = s.beryl ∧ (decodeClass s a b c).sec = s.sec := by
  first
  | (simp [decodeClass]; done)
  | (unfold decodeClass; (try simp only []); (repeat' split) <;> (try intro ht) <;> (simp_all; done); done)

@[simp] theorem queueRefresh_keeps (s : Sys2Proof.Machine.State) (a : ℕ) (b : Bool) : (queueRefresh s a b).pending = s.pending ∧ (queueRefresh s a
    b).out = s.out ∧ (queueRefresh s a b).freeCtr = s.freeCtr ∧ (queueRefresh s a b).req = s.req ∧ (queueRefresh s a b).pwr = s.pwr ∧ (queueRefresh
    s a b).ports = s.ports ∧ (queueRefresh s a b).rings = s.rings ∧ (queueRefresh s a b).cmds = s.cmds ∧ (queueRefresh s a b).tabs = s.tabs ∧
    (queueRefresh s a b).mapu = s.mapu ∧ (queueRefresh s a b).cist = s.cist ∧ (queueRefresh s a b).cache = s.cache ∧ (queueRefresh s a b).med =
    s.med ∧ (queueRefresh s a b).keys = s.keys ∧ (queueRefresh s a b).wear = s.wear ∧ (queueRefresh s a b).pair = s.pair ∧ (queueRefresh s a b).flt
    = s.flt ∧ (queueRefresh s a b).ag = s.ag ∧ (queueRefresh s a b).qz = s.qz ∧ (queueRefresh s a b).zir = s.zir ∧ (queueRefresh s a b).th = s.th ∧
    (queueRefresh s a b).beryl = s.beryl ∧ (queueRefresh s a b).sec = s.sec := by
  first
  | (simp [queueRefresh]; done)
  | (unfold queueRefresh; (try simp only []); (repeat' split) <;> (try intro ht) <;> (simp_all; done); done)

@[simp] theorem accountBad_keeps (s : Sys2Proof.Machine.State) (a : ℕ) (b : ℕ) (c : Option ℕ) (d : SenseBy) (e : ℕ) (f : ℕ) : (accountBad s a b c d
    e f).pending = s.pending ∧ (accountBad s a b c d e f).freeCtr = s.freeCtr ∧ (accountBad s a b c d e f).keys = s.keys ∧ (accountBad s a b c d e
    f).th = s.th ∧ (accountBad s a b c d e f).sec = s.sec := by
  first
  | (simp [accountBad]; done)
  | (unfold accountBad; (try simp only []); (repeat' split) <;> (try intro ht) <;> (simp_all; done); done)

@[simp] theorem account_keeps (s : Sys2Proof.Machine.State) (a : ℕ) (b : ℕ) (c : Option ℕ) (d : SenseBy) (e : Sensed) (f : Bool) : (account s a b c
    d e f).pending = s.pending ∧ (account s a b c d e f).freeCtr = s.freeCtr ∧ (account s a b c d e f).keys = s.keys ∧ (account s a b c d e f).th =
    s.th ∧ (account s a b c d e f).sec = s.sec := by
  first
  | (simp [account]; done)
  | (unfold account; (try simp only []); (repeat' split) <;> (try intro ht) <;> (simp_all; done); done)

@[simp] theorem ledCauses_keeps (s : Sys2Proof.Machine.State) (a : ℕ) (b : Bool) : (ledCauses s a b).pending = s.pending ∧ (ledCauses s a b).out =
    s.out ∧ (ledCauses s a b).freeCtr = s.freeCtr ∧ (ledCauses s a b).req = s.req ∧ (ledCauses s a b).pwr = s.pwr ∧ (ledCauses s a b).ports =
    s.ports ∧ (ledCauses s a b).rings = s.rings ∧ (ledCauses s a b).cmds = s.cmds ∧ (ledCauses s a b).tabs = s.tabs ∧ (ledCauses s a b).mapu =
    s.mapu ∧ (ledCauses s a b).cist = s.cist ∧ (ledCauses s a b).cache = s.cache ∧ (ledCauses s a b).med = s.med ∧ (ledCauses s a b).keys = s.keys ∧
    (ledCauses s a b).pair = s.pair ∧ (ledCauses s a b).flt = s.flt ∧ (ledCauses s a b).ag = s.ag ∧ (ledCauses s a b).qz = s.qz ∧ (ledCauses s a
    b).zir = s.zir ∧ (ledCauses s a b).th = s.th ∧ (ledCauses s a b).beryl = s.beryl ∧ (ledCauses s a b).sec = s.sec := by
  first
  | (simp [ledCauses]; done)
  | (unfold ledCauses; (try simp only []); (repeat' split) <;> (try intro ht) <;> (simp_all; done); done)

@[simp] theorem ledApply_keeps (s : Sys2Proof.Machine.State) (a : ℕ) (b : Bool) : (ledApply s a b).pending = s.pending ∧ (ledApply s a b).out =
    s.out ∧ (ledApply s a b).freeCtr = s.freeCtr ∧ (ledApply s a b).req = s.req ∧ (ledApply s a b).pwr = s.pwr ∧ (ledApply s a b).ports = s.ports ∧
    (ledApply s a b).rings = s.rings ∧ (ledApply s a b).cmds = s.cmds ∧ (ledApply s a b).tabs = s.tabs ∧ (ledApply s a b).cist = s.cist ∧ (ledApply
    s a b).cache = s.cache ∧ (ledApply s a b).med = s.med ∧ (ledApply s a b).keys = s.keys ∧ (ledApply s a b).pair = s.pair ∧ (ledApply s a b).flt =
    s.flt ∧ (ledApply s a b).ag = s.ag ∧ (ledApply s a b).qz = s.qz ∧ (ledApply s a b).zir = s.zir ∧ (ledApply s a b).th = s.th ∧ (ledApply s a
    b).beryl = s.beryl ∧ (ledApply s a b).sec = s.sec := by
  first
  | (simp [ledApply]; done)
  | (unfold ledApply; (try simp only []); (repeat' split) <;> (try intro ht) <;> (simp_all; done); done)

@[simp] theorem ledTouch_keeps (s : Sys2Proof.Machine.State) (a : ℕ) : (ledTouch s a).pending = s.pending ∧ (ledTouch s a).out = s.out ∧ (ledTouch s
    a).freeCtr = s.freeCtr ∧ (ledTouch s a).regs = s.regs ∧ (ledTouch s a).req = s.req ∧ (ledTouch s a).pwr = s.pwr ∧ (ledTouch s a).ports = s.ports
    ∧ (ledTouch s a).rings = s.rings ∧ (ledTouch s a).cmds = s.cmds ∧ (ledTouch s a).tabs = s.tabs ∧ (ledTouch s a).mapu = s.mapu ∧ (ledTouch s
    a).cist = s.cist ∧ (ledTouch s a).cache = s.cache ∧ (ledTouch s a).med = s.med ∧ (ledTouch s a).keys = s.keys ∧ (ledTouch s a).drift = s.drift ∧
    (ledTouch s a).pair = s.pair ∧ (ledTouch s a).flt = s.flt ∧ (ledTouch s a).ag = s.ag ∧ (ledTouch s a).qz = s.qz ∧ (ledTouch s a).zir = s.zir ∧
    (ledTouch s a).th = s.th ∧ (ledTouch s a).beryl = s.beryl ∧ (ledTouch s a).sec = s.sec := by
  first
  | (simp [ledTouch]; done)
  | (unfold ledTouch; (try simp only []); (repeat' split) <;> (try intro ht) <;> (simp_all; done); done)

@[simp] theorem ledUpdate_keeps (s : Sys2Proof.Machine.State) (a : ℕ) (b : Bool) : (ledUpdate s a b).pending = s.pending ∧ (ledUpdate s a b).out =
    s.out ∧ (ledUpdate s a b).freeCtr = s.freeCtr ∧ (ledUpdate s a b).req = s.req ∧ (ledUpdate s a b).pwr = s.pwr ∧ (ledUpdate s a b).ports =
    s.ports ∧ (ledUpdate s a b).rings = s.rings ∧ (ledUpdate s a b).cmds = s.cmds ∧ (ledUpdate s a b).tabs = s.tabs ∧ (ledUpdate s a b).cist =
    s.cist ∧ (ledUpdate s a b).cache = s.cache ∧ (ledUpdate s a b).med = s.med ∧ (ledUpdate s a b).keys = s.keys ∧ (ledUpdate s a b).pair = s.pair ∧
    (ledUpdate s a b).flt = s.flt ∧ (ledUpdate s a b).ag = s.ag ∧ (ledUpdate s a b).zir = s.zir ∧ (ledUpdate s a b).th = s.th ∧ (ledUpdate s a
    b).beryl = s.beryl ∧ (ledUpdate s a b).sec = s.sec := by
  first
  | (simp [ledUpdate]; done)
  | (unfold ledUpdate; (try simp only []); (repeat' split) <;> (try intro ht) <;> (simp_all; done); done)

@[simp] theorem ledDraw_keeps (s : Sys2Proof.Machine.State) (a : ℕ) (b : ℕ) (c : Bool) : (ledDraw s a b c).pending = s.pending ∧ (ledDraw s a b
    c).out = s.out ∧ (ledDraw s a b c).req = s.req ∧ (ledDraw s a b c).pwr = s.pwr ∧ (ledDraw s a b c).ports = s.ports ∧ (ledDraw s a b c).rings =
    s.rings ∧ (ledDraw s a b c).cmds = s.cmds ∧ (ledDraw s a b c).tabs = s.tabs ∧ (ledDraw s a b c).cist = s.cist ∧ (ledDraw s a b c).cache =
    s.cache ∧ (ledDraw s a b c).med = s.med ∧ (ledDraw s a b c).keys = s.keys ∧ (ledDraw s a b c).pair = s.pair ∧ (ledDraw s a b c).flt = s.flt ∧
    (ledDraw s a b c).ag = s.ag ∧ (ledDraw s a b c).zir = s.zir ∧ (ledDraw s a b c).th = s.th ∧ (ledDraw s a b c).beryl = s.beryl ∧ (ledDraw s a b
    c).sec = s.sec := by
  first
  | (simp [ledDraw]; done)
  | (unfold ledDraw; (try simp only []); (repeat' split) <;> (try intro ht) <;> (simp_all; done); done)

@[simp] theorem noteSense_keeps (s : Sys2Proof.Machine.State) (a : ℕ) : (noteSense s a).pending = s.pending ∧ (noteSense s a).out = s.out ∧
    (noteSense s a).req = s.req ∧ (noteSense s a).pwr = s.pwr ∧ (noteSense s a).ports = s.ports ∧ (noteSense s a).rings = s.rings ∧ (noteSense s
    a).cmds = s.cmds ∧ (noteSense s a).tabs = s.tabs ∧ (noteSense s a).cist = s.cist ∧ (noteSense s a).cache = s.cache ∧ (noteSense s a).med = s.med
    ∧ (noteSense s a).keys = s.keys ∧ (noteSense s a).pair = s.pair ∧ (noteSense s a).flt = s.flt ∧ (noteSense s a).ag = s.ag ∧ (noteSense s a).zir
    = s.zir ∧ (noteSense s a).th = s.th ∧ (noteSense s a).beryl = s.beryl ∧ (noteSense s a).sec = s.sec := by
  first
  | (simp [noteSense]; done)
  | (unfold noteSense; (try simp only []); (repeat' split) <;> (try intro ht) <;> (simp_all; done); done)

@[simp] theorem suspendOps_keeps (s : Sys2Proof.Machine.State) (a : ℕ) (b : ℕ) : (suspendOps s a b).pending = s.pending ∧ (suspendOps s a b).out =
    s.out ∧ (suspendOps s a b).freeCtr = s.freeCtr ∧ (suspendOps s a b).regs = s.regs ∧ (suspendOps s a b).req = s.req ∧ (suspendOps s a b).pwr =
    s.pwr ∧ (suspendOps s a b).ports = s.ports ∧ (suspendOps s a b).rings = s.rings ∧ (suspendOps s a b).cmds = s.cmds ∧ (suspendOps s a b).tabs =
    s.tabs ∧ (suspendOps s a b).mapu = s.mapu ∧ (suspendOps s a b).cist = s.cist ∧ (suspendOps s a b).cache = s.cache ∧ (suspendOps s a b).keys =
    s.keys ∧ (suspendOps s a b).wear = s.wear ∧ (suspendOps s a b).drift = s.drift ∧ (suspendOps s a b).pair = s.pair ∧ (suspendOps s a b).flt =
    s.flt ∧ (suspendOps s a b).ag = s.ag ∧ (suspendOps s a b).qz = s.qz ∧ (suspendOps s a b).zir = s.zir ∧ (suspendOps s a b).th = s.th ∧
    (suspendOps s a b).beryl = s.beryl ∧ (suspendOps s a b).sec = s.sec := by
  first
  | (simp [suspendOps]; done)
  | (unfold suspendOps; (try simp only []); (repeat' split) <;> (try intro ht) <;> (simp_all; done); done)

@[simp] theorem joinLock_keeps (s : Sys2Proof.Machine.State) (a : ℕ) (b : Waiter) : (joinLock s a b).pending = s.pending ∧ (joinLock s a b).out =
    s.out ∧ (joinLock s a b).freeCtr = s.freeCtr ∧ (joinLock s a b).regs = s.regs ∧ (joinLock s a b).req = s.req ∧ (joinLock s a b).pwr = s.pwr ∧
    (joinLock s a b).ports = s.ports ∧ (joinLock s a b).rings = s.rings ∧ (joinLock s a b).cmds = s.cmds ∧ (joinLock s a b).tabs = s.tabs ∧
    (joinLock s a b).mapu = s.mapu ∧ (joinLock s a b).cist = s.cist ∧ (joinLock s a b).keys = s.keys ∧ (joinLock s a b).wear = s.wear ∧ (joinLock s
    a b).drift = s.drift ∧ (joinLock s a b).pair = s.pair ∧ (joinLock s a b).flt = s.flt ∧ (joinLock s a b).ag = s.ag ∧ (joinLock s a b).qz = s.qz ∧
    (joinLock s a b).zir = s.zir ∧ (joinLock s a b).th = s.th ∧ (joinLock s a b).beryl = s.beryl ∧ (joinLock s a b).sec = s.sec := by
  first
  | (simp [joinLock]; done)
  | (unfold joinLock; (try simp only []); (repeat' split) <;> (try intro ht) <;> (simp_all; done); done)

@[simp] theorem checkTag_keeps (s : Sys2Proof.Machine.State) (a : ℕ) : (checkTag s a).pending = s.pending ∧ (checkTag s a).freeCtr = s.freeCtr ∧
    (checkTag s a).keys = s.keys ∧ (checkTag s a).th = s.th ∧ (checkTag s a).sec = s.sec := by
  first
  | (simp [checkTag]; done)
  | (unfold checkTag; (try simp only []); (repeat' split) <;> (try intro ht) <;> (simp_all; done); done)

@[simp] theorem checkWrite_keeps (s : Sys2Proof.Machine.State) (a : WaitW) : (checkWrite s a).pending = s.pending ∧ (checkWrite s a).freeCtr =
    s.freeCtr ∧ (checkWrite s a).keys = s.keys ∧ (checkWrite s a).th = s.th ∧ (checkWrite s a).sec = s.sec := by
  first
  | (simp [checkWrite]; done)
  | (unfold checkWrite; (try simp only []); (repeat' split) <;> (try intro ht) <;> (simp_all; done); done)

@[simp] theorem touchWay_keeps (s : Sys2Proof.Machine.State) (a : ℕ) : (touchWay s a).pending = s.pending ∧ (touchWay s a).out = s.out ∧ (touchWay s
    a).freeCtr = s.freeCtr ∧ (touchWay s a).regs = s.regs ∧ (touchWay s a).req = s.req ∧ (touchWay s a).pwr = s.pwr ∧ (touchWay s a).ports = s.ports
    ∧ (touchWay s a).rings = s.rings ∧ (touchWay s a).cmds = s.cmds ∧ (touchWay s a).tabs = s.tabs ∧ (touchWay s a).mapu = s.mapu ∧ (touchWay s
    a).cist = s.cist ∧ (touchWay s a).med = s.med ∧ (touchWay s a).keys = s.keys ∧ (touchWay s a).wear = s.wear ∧ (touchWay s a).drift = s.drift ∧
    (touchWay s a).pair = s.pair ∧ (touchWay s a).flt = s.flt ∧ (touchWay s a).ag = s.ag ∧ (touchWay s a).qz = s.qz ∧ (touchWay s a).zir = s.zir ∧
    (touchWay s a).th = s.th ∧ (touchWay s a).beryl = s.beryl ∧ (touchWay s a).sec = s.sec := by
  first
  | (simp [touchWay]; done)
  | (unfold touchWay; (try simp only []); (repeat' split) <;> (try intro ht) <;> (simp_all; done); done)

@[simp] theorem newWay_keeps (s : Sys2Proof.Machine.State) (a : ℕ) (b : WayT) : (newWay s a b).pending = s.pending ∧ (newWay s a b).out = s.out ∧
    (newWay s a b).freeCtr = s.freeCtr ∧ (newWay s a b).regs = s.regs ∧ (newWay s a b).req = s.req ∧ (newWay s a b).pwr = s.pwr ∧ (newWay s a
    b).ports = s.ports ∧ (newWay s a b).rings = s.rings ∧ (newWay s a b).cmds = s.cmds ∧ (newWay s a b).tabs = s.tabs ∧ (newWay s a b).mapu = s.mapu
    ∧ (newWay s a b).cist = s.cist ∧ (newWay s a b).med = s.med ∧ (newWay s a b).keys = s.keys ∧ (newWay s a b).wear = s.wear ∧ (newWay s a b).drift
    = s.drift ∧ (newWay s a b).pair = s.pair ∧ (newWay s a b).flt = s.flt ∧ (newWay s a b).ag = s.ag ∧ (newWay s a b).qz = s.qz ∧ (newWay s a b).zir
    = s.zir ∧ (newWay s a b).th = s.th ∧ (newWay s a b).beryl = s.beryl ∧ (newWay s a b).sec = s.sec := by
  first
  | (simp [newWay]; done)
  | (unfold newWay; (try simp only []); (repeat' split) <;> (try intro ht) <;> (simp_all; done); done)

theorem takeWay_keeps (s : Sys2Proof.Machine.State) (a : ℕ) (b : WayT → Bool) : ∀ k t, takeWay s a b = some (k, t) → t.pending = s.pending ∧
    t.freeCtr = s.freeCtr ∧ t.keys = s.keys ∧ t.th = s.th ∧ t.sec = s.sec := by
  intro k t ht; unfold takeWay at ht; split at ht
  · cases ht
  · injection ht with ht; injection ht with _ ht; subst ht; simp

theorem storeLine_keeps (s : Sys2Proof.Machine.State) (a : ℕ) (b : LineV) : ∀ t, storeLine s a b = some t → t.pending = s.pending ∧ t.freeCtr =
    s.freeCtr ∧ t.keys = s.keys ∧ t.th = s.th ∧ t.sec = s.sec := by
  intro t ht; unfold storeLine at ht; dsimp only at ht; split at ht
  · injection ht with ht; subst ht; simp
  · split at ht
    · rename_i h; have q := takeWay_keeps _ _ _ _ _ h; injection ht with ht; subst ht; simp_all
    · cases ht

@[simp] theorem mirrorLine_keeps (s : Sys2Proof.Machine.State) (a : ℕ) (b : LineV) (c : Sys2Proof.Machine.Origin) (d : Bool) (e : Bool) :
    (mirrorLine s a b c d e).pending = s.pending ∧ (mirrorLine s a b c d e).freeCtr = s.freeCtr ∧ (mirrorLine s a b c d e).regs = s.regs ∧
    (mirrorLine s a b c d e).req = s.req ∧ (mirrorLine s a b c d e).pwr = s.pwr ∧ (mirrorLine s a b c d e).ports = s.ports ∧ (mirrorLine s a b c d
    e).rings = s.rings ∧ (mirrorLine s a b c d e).cmds = s.cmds ∧ (mirrorLine s a b c d e).tabs = s.tabs ∧ (mirrorLine s a b c d e).mapu = s.mapu ∧
    (mirrorLine s a b c d e).cist = s.cist ∧ (mirrorLine s a b c d e).cache = s.cache ∧ (mirrorLine s a b c d e).med = s.med ∧ (mirrorLine s a b c d
    e).keys = s.keys ∧ (mirrorLine s a b c d e).wear = s.wear ∧ (mirrorLine s a b c d e).drift = s.drift ∧ (mirrorLine s a b c d e).flt = s.flt ∧
    (mirrorLine s a b c d e).ag = s.ag ∧ (mirrorLine s a b c d e).qz = s.qz ∧ (mirrorLine s a b c d e).zir = s.zir ∧ (mirrorLine s a b c d e).th =
    s.th ∧ (mirrorLine s a b c d e).beryl = s.beryl ∧ (mirrorLine s a b c d e).sec = s.sec := by
  first
  | (simp [mirrorLine]; done)
  | (unfold mirrorLine; (try simp only []); (repeat' split) <;> (try intro ht) <;> ((try (have p := congrArg Prod.fst ‹_ = (_, _)›; simp only [] at p; subst p)); (try (first | (injection ht with ht; subst ht; simp_all; done) | (subst ht; simp_all; done) | (subst_vars; simp_all; done) | simp_all))); done)

@[simp] theorem finishOrHold_keeps (s : Sys2Proof.Machine.State) (a : Sys2Proof.Port) (b : ℕ) (c : Bool) (d : ℕ) : (finishOrHold s a b c d).pending
    = s.pending ∧ (finishOrHold s a b c d).freeCtr = s.freeCtr ∧ (finishOrHold s a b c d).req = s.req ∧ (finishOrHold s a b c d).pwr = s.pwr ∧
    (finishOrHold s a b c d).rings = s.rings ∧ (finishOrHold s a b c d).cmds = s.cmds ∧ (finishOrHold s a b c d).tabs = s.tabs ∧ (finishOrHold s a b
    c d).mapu = s.mapu ∧ (finishOrHold s a b c d).cache = s.cache ∧ (finishOrHold s a b c d).med = s.med ∧ (finishOrHold s a b c d).keys = s.keys ∧
    (finishOrHold s a b c d).wear = s.wear ∧ (finishOrHold s a b c d).drift = s.drift ∧ (finishOrHold s a b c d).flt = s.flt ∧ (finishOrHold s a b c
    d).ag = s.ag ∧ (finishOrHold s a b c d).zir = s.zir ∧ (finishOrHold s a b c d).th = s.th ∧ (finishOrHold s a b c d).beryl = s.beryl ∧
    (finishOrHold s a b c d).sec = s.sec := by
  first
  | (simp [finishOrHold]; done)
  | (unfold finishOrHold; (try simp only []); (repeat' split) <;> (try intro ht) <;> (simp_all; done); done)

@[simp] theorem ackMir_keeps (s : Sys2Proof.Machine.State) (a : ℕ) : (ackMir s a).pending = s.pending ∧ (ackMir s a).freeCtr = s.freeCtr ∧ (ackMir s
    a).regs = s.regs ∧ (ackMir s a).req = s.req ∧ (ackMir s a).pwr = s.pwr ∧ (ackMir s a).ports = s.ports ∧ (ackMir s a).rings = s.rings ∧ (ackMir s
    a).cmds = s.cmds ∧ (ackMir s a).tabs = s.tabs ∧ (ackMir s a).mapu = s.mapu ∧ (ackMir s a).cist = s.cist ∧ (ackMir s a).cache = s.cache ∧ (ackMir
    s a).med = s.med ∧ (ackMir s a).keys = s.keys ∧ (ackMir s a).wear = s.wear ∧ (ackMir s a).drift = s.drift ∧ (ackMir s a).flt = s.flt ∧ (ackMir s
    a).ag = s.ag ∧ (ackMir s a).qz = s.qz ∧ (ackMir s a).zir = s.zir ∧ (ackMir s a).th = s.th ∧ (ackMir s a).beryl = s.beryl ∧ (ackMir s a).sec =
    s.sec := by
  first
  | (simp [ackMir]; done)
  | (unfold ackMir; (try simp only []); (repeat' split) <;> (try intro ht) <;> (simp_all; done); done)

@[simp] theorem flagWaited_keeps (s : Sys2Proof.Machine.State) (a : ℕ) : (flagWaited s a).pending = s.pending ∧ (flagWaited s a).out = s.out ∧
    (flagWaited s a).freeCtr = s.freeCtr ∧ (flagWaited s a).req = s.req ∧ (flagWaited s a).pwr = s.pwr ∧ (flagWaited s a).ports = s.ports ∧
    (flagWaited s a).rings = s.rings ∧ (flagWaited s a).cmds = s.cmds ∧ (flagWaited s a).tabs = s.tabs ∧ (flagWaited s a).mapu = s.mapu ∧
    (flagWaited s a).cist = s.cist ∧ (flagWaited s a).cache = s.cache ∧ (flagWaited s a).med = s.med ∧ (flagWaited s a).keys = s.keys ∧ (flagWaited
    s a).wear = s.wear ∧ (flagWaited s a).drift = s.drift ∧ (flagWaited s a).pair = s.pair ∧ (flagWaited s a).flt = s.flt ∧ (flagWaited s a).ag =
    s.ag ∧ (flagWaited s a).qz = s.qz ∧ (flagWaited s a).zir = s.zir ∧ (flagWaited s a).th = s.th ∧ (flagWaited s a).beryl = s.beryl ∧ (flagWaited s
    a).sec = s.sec := by
  first
  | (simp [flagWaited]; done)
  | (unfold flagWaited; (try simp only []); (repeat' split) <;> (try intro ht) <;> (simp_all; done); done)

@[simp] theorem markWaited_keeps (s : Sys2Proof.Machine.State) (a : ℕ) (b : ℕ) : (markWaited s a b).pending = s.pending ∧ (markWaited s a b).out =
    s.out ∧ (markWaited s a b).freeCtr = s.freeCtr ∧ (markWaited s a b).req = s.req ∧ (markWaited s a b).pwr = s.pwr ∧ (markWaited s a b).ports =
    s.ports ∧ (markWaited s a b).rings = s.rings ∧ (markWaited s a b).cmds = s.cmds ∧ (markWaited s a b).tabs = s.tabs ∧ (markWaited s a b).mapu =
    s.mapu ∧ (markWaited s a b).cist = s.cist ∧ (markWaited s a b).cache = s.cache ∧ (markWaited s a b).med = s.med ∧ (markWaited s a b).keys =
    s.keys ∧ (markWaited s a b).wear = s.wear ∧ (markWaited s a b).drift = s.drift ∧ (markWaited s a b).pair = s.pair ∧ (markWaited s a b).flt =
    s.flt ∧ (markWaited s a b).ag = s.ag ∧ (markWaited s a b).zir = s.zir ∧ (markWaited s a b).th = s.th ∧ (markWaited s a b).beryl = s.beryl ∧
    (markWaited s a b).sec = s.sec := by
  first
  | (simp [markWaited]; done)
  | (unfold markWaited; (try simp only []); (repeat' split) <;> (try intro ht) <;> (simp_all; done); done)

@[simp] theorem finishFwd_keeps (s : Sys2Proof.Machine.State) (a : ℕ) (b : Bool) : (finishFwd s a b).pending = s.pending ∧ (finishFwd s a b).freeCtr
    = s.freeCtr ∧ (finishFwd s a b).req = s.req ∧ (finishFwd s a b).pwr = s.pwr ∧ (finishFwd s a b).rings = s.rings ∧ (finishFwd s a b).cmds =
    s.cmds ∧ (finishFwd s a b).tabs = s.tabs ∧ (finishFwd s a b).mapu = s.mapu ∧ (finishFwd s a b).cache = s.cache ∧ (finishFwd s a b).med = s.med ∧
    (finishFwd s a b).keys = s.keys ∧ (finishFwd s a b).wear = s.wear ∧ (finishFwd s a b).drift = s.drift ∧ (finishFwd s a b).flt = s.flt ∧
    (finishFwd s a b).ag = s.ag ∧ (finishFwd s a b).zir = s.zir ∧ (finishFwd s a b).th = s.th ∧ (finishFwd s a b).beryl = s.beryl ∧ (finishFwd s a
    b).sec = s.sec := by
  first
  | (simp [finishFwd]; done)
  | (unfold finishFwd; (try simp only []); (repeat' split) <;> (try intro ht) <;> (simp_all; done); done)

@[simp] theorem finishLocal_keeps (s : Sys2Proof.Machine.State) (a : Sys2Proof.Machine.Origin) (b : Bool) (c : ℕ) : (finishLocal s a b c).pending =
    s.pending ∧ (finishLocal s a b c).freeCtr = s.freeCtr ∧ (finishLocal s a b c).req = s.req ∧ (finishLocal s a b c).pwr = s.pwr ∧ (finishLocal s a
    b c).rings = s.rings ∧ (finishLocal s a b c).cmds = s.cmds ∧ (finishLocal s a b c).tabs = s.tabs ∧ (finishLocal s a b c).mapu = s.mapu ∧
    (finishLocal s a b c).cache = s.cache ∧ (finishLocal s a b c).med = s.med ∧ (finishLocal s a b c).keys = s.keys ∧ (finishLocal s a b c).wear =
    s.wear ∧ (finishLocal s a b c).drift = s.drift ∧ (finishLocal s a b c).flt = s.flt ∧ (finishLocal s a b c).ag = s.ag ∧ (finishLocal s a b c).zir
    = s.zir ∧ (finishLocal s a b c).th = s.th ∧ (finishLocal s a b c).beryl = s.beryl ∧ (finishLocal s a b c).sec = s.sec := by
  first
  | (simp [finishLocal]; done)
  | (unfold finishLocal; (try simp only []); (repeat' split) <;> (try intro ht) <;> (simp_all; done); done)

theorem applyWrite_keeps (s : Sys2Proof.Machine.State) (a : WaitW) (b : LineV) (c : Bool) : ∀ t, applyWrite s a b c = some t → t.pending = s.pending
    ∧ t.freeCtr = s.freeCtr ∧ t.keys = s.keys ∧ t.th = s.th ∧ t.sec = s.sec := by
  intro t ht; first
  | (simp [applyWrite]; done)
  | (unfold applyWrite at ht; revert ht; (try simp only []); (repeat' split) <;> (try intro ht) <;> ((try have q0 := storeLine_keeps _ _ _ _ ‹_›); (try (first | (injection ht with ht; subst ht; simp_all; done) | (subst ht; simp_all; done) | (subst_vars; simp_all; done) | simp_all))); done)

@[simp] theorem noteUnwrittenMerge_keeps (s : Sys2Proof.Machine.State) (a : ℕ) (b : ℕ) : (noteUnwrittenMerge s a b).pending = s.pending ∧
    (noteUnwrittenMerge s a b).freeCtr = s.freeCtr ∧ (noteUnwrittenMerge s a b).tabs = s.tabs ∧ (noteUnwrittenMerge s a b).mapu = s.mapu ∧
    (noteUnwrittenMerge s a b).cist = s.cist ∧ (noteUnwrittenMerge s a b).cache = s.cache ∧ (noteUnwrittenMerge s a b).med = s.med ∧
    (noteUnwrittenMerge s a b).keys = s.keys ∧ (noteUnwrittenMerge s a b).wear = s.wear ∧ (noteUnwrittenMerge s a b).drift = s.drift ∧
    (noteUnwrittenMerge s a b).qz = s.qz ∧ (noteUnwrittenMerge s a b).zir = s.zir ∧ (noteUnwrittenMerge s a b).th = s.th ∧ (noteUnwrittenMerge s a
    b).sec = s.sec := by
  first
  | (simp [noteUnwrittenMerge]; done)
  | (unfold noteUnwrittenMerge; (try simp only []); (repeat' split) <;> (try intro ht) <;> (simp_all; done); done)

theorem applyFill_keeps (s : Sys2Proof.Machine.State) (a : WaitW) (b : FillRes) : ∀ t, applyFill s a b = some t → t.pending = s.pending ∧ t.freeCtr
    = s.freeCtr ∧ t.keys = s.keys ∧ t.th = s.th ∧ t.sec = s.sec := by
  intro t ht; unfold applyFill at ht; simp only [Option.map_eq_some_iff] at ht; obtain ⟨x, hx, ht⟩ := ht
  have q := applyWrite_keeps _ _ _ _ _ hx; subst ht; split <;> simp_all

@[simp] theorem tlbTouch_keeps (s : Sys2Proof.Machine.State) (a : ℕ) (b : ℕ) : (tlbTouch s a b).pending = s.pending ∧ (tlbTouch s a b).out = s.out ∧
    (tlbTouch s a b).freeCtr = s.freeCtr ∧ (tlbTouch s a b).regs = s.regs ∧ (tlbTouch s a b).req = s.req ∧ (tlbTouch s a b).pwr = s.pwr ∧ (tlbTouch
    s a b).ports = s.ports ∧ (tlbTouch s a b).rings = s.rings ∧ (tlbTouch s a b).cmds = s.cmds ∧ (tlbTouch s a b).tabs = s.tabs ∧ (tlbTouch s a
    b).cist = s.cist ∧ (tlbTouch s a b).cache = s.cache ∧ (tlbTouch s a b).med = s.med ∧ (tlbTouch s a b).keys = s.keys ∧ (tlbTouch s a b).wear =
    s.wear ∧ (tlbTouch s a b).drift = s.drift ∧ (tlbTouch s a b).pair = s.pair ∧ (tlbTouch s a b).flt = s.flt ∧ (tlbTouch s a b).ag = s.ag ∧
    (tlbTouch s a b).qz = s.qz ∧ (tlbTouch s a b).zir = s.zir ∧ (tlbTouch s a b).th = s.th ∧ (tlbTouch s a b).beryl = s.beryl ∧ (tlbTouch s a b).sec
    = s.sec := by
  first
  | (simp [tlbTouch]; done)
  | (unfold tlbTouch; (try simp only []); (repeat' split) <;> (try intro ht) <;> (simp_all; done); done)

@[simp] theorem overflowIn_keeps (s : Sys2Proof.Machine.State) (a : ℕ) : (overflowIn s a).pending = s.pending ∧ (overflowIn s a).out = s.out ∧
    (overflowIn s a).freeCtr = s.freeCtr ∧ (overflowIn s a).regs = s.regs ∧ (overflowIn s a).req = s.req ∧ (overflowIn s a).pwr = s.pwr ∧
    (overflowIn s a).ports = s.ports ∧ (overflowIn s a).rings = s.rings ∧ (overflowIn s a).cmds = s.cmds ∧ (overflowIn s a).tabs = s.tabs ∧
    (overflowIn s a).cist = s.cist ∧ (overflowIn s a).cache = s.cache ∧ (overflowIn s a).med = s.med ∧ (overflowIn s a).keys = s.keys ∧ (overflowIn
    s a).wear = s.wear ∧ (overflowIn s a).drift = s.drift ∧ (overflowIn s a).pair = s.pair ∧ (overflowIn s a).flt = s.flt ∧ (overflowIn s a).ag =
    s.ag ∧ (overflowIn s a).qz = s.qz ∧ (overflowIn s a).zir = s.zir ∧ (overflowIn s a).th = s.th ∧ (overflowIn s a).beryl = s.beryl ∧ (overflowIn s
    a).sec = s.sec := by
  first
  | (simp [overflowIn]; done)
  | (unfold overflowIn; (try simp only []); (repeat' split) <;> (try intro ht) <;> (simp_all; done); done)

@[simp] theorem tlbInstall_keeps (s : Sys2Proof.Machine.State) (a : ℕ) : (tlbInstall s a).pending = s.pending ∧ (tlbInstall s a).out = s.out ∧
    (tlbInstall s a).freeCtr = s.freeCtr ∧ (tlbInstall s a).regs = s.regs ∧ (tlbInstall s a).req = s.req ∧ (tlbInstall s a).pwr = s.pwr ∧
    (tlbInstall s a).ports = s.ports ∧ (tlbInstall s a).rings = s.rings ∧ (tlbInstall s a).cmds = s.cmds ∧ (tlbInstall s a).tabs = s.tabs ∧
    (tlbInstall s a).cist = s.cist ∧ (tlbInstall s a).cache = s.cache ∧ (tlbInstall s a).med = s.med ∧ (tlbInstall s a).keys = s.keys ∧ (tlbInstall
    s a).wear = s.wear ∧ (tlbInstall s a).drift = s.drift ∧ (tlbInstall s a).pair = s.pair ∧ (tlbInstall s a).flt = s.flt ∧ (tlbInstall s a).ag =
    s.ag ∧ (tlbInstall s a).qz = s.qz ∧ (tlbInstall s a).zir = s.zir ∧ (tlbInstall s a).th = s.th ∧ (tlbInstall s a).beryl = s.beryl ∧ (tlbInstall s
    a).sec = s.sec := by
  first
  | (simp [tlbInstall]; done)
  | (unfold tlbInstall; (try simp only []); (repeat' split) <;> (try intro ht) <;> (simp_all; done); done)

@[simp] theorem lookMap_keeps (s : Sys2Proof.Machine.State) (a : ℕ) (b : Attr) : (lookMap s a b).1.pending = s.pending ∧ (lookMap s a b).1.out =
    s.out ∧ (lookMap s a b).1.freeCtr = s.freeCtr ∧ (lookMap s a b).1.req = s.req ∧ (lookMap s a b).1.pwr = s.pwr ∧ (lookMap s a b).1.ports =
    s.ports ∧ (lookMap s a b).1.rings = s.rings ∧ (lookMap s a b).1.cmds = s.cmds ∧ (lookMap s a b).1.tabs = s.tabs ∧ (lookMap s a b).1.cist =
    s.cist ∧ (lookMap s a b).1.cache = s.cache ∧ (lookMap s a b).1.med = s.med ∧ (lookMap s a b).1.keys = s.keys ∧ (lookMap s a b).1.wear = s.wear ∧
    (lookMap s a b).1.drift = s.drift ∧ (lookMap s a b).1.pair = s.pair ∧ (lookMap s a b).1.flt = s.flt ∧ (lookMap s a b).1.ag = s.ag ∧ (lookMap s a
    b).1.zir = s.zir ∧ (lookMap s a b).1.th = s.th ∧ (lookMap s a b).1.beryl = s.beryl ∧ (lookMap s a b).1.sec = s.sec := by
  first
  | (simp [lookMap]; done)
  | (unfold lookMap; (try simp only []); (repeat' split) <;> (try intro ht) <;> (simp_all; done); done)

@[simp] theorem dispatchSense_keeps (s : Sys2Proof.Machine.State) (a : Sense) : (dispatchSense s a).1.pending = s.pending ∧ (dispatchSense s
    a).1.out = s.out ∧ (dispatchSense s a).1.req = s.req ∧ (dispatchSense s a).1.pwr = s.pwr ∧ (dispatchSense s a).1.ports = s.ports ∧
    (dispatchSense s a).1.rings = s.rings ∧ (dispatchSense s a).1.cmds = s.cmds ∧ (dispatchSense s a).1.tabs = s.tabs ∧ (dispatchSense s a).1.cist =
    s.cist ∧ (dispatchSense s a).1.cache = s.cache ∧ (dispatchSense s a).1.keys = s.keys ∧ (dispatchSense s a).1.pair = s.pair ∧ (dispatchSense s
    a).1.flt = s.flt ∧ (dispatchSense s a).1.ag = s.ag ∧ (dispatchSense s a).1.zir = s.zir ∧ (dispatchSense s a).1.th = s.th ∧ (dispatchSense s
    a).1.beryl = s.beryl ∧ (dispatchSense s a).1.sec = s.sec := by
  first
  | (simp [dispatchSense]; done)
  | (unfold dispatchSense; (try simp only []); (repeat' split) <;> (try intro ht) <;> ((try (have p := congrArg Prod.fst ‹_ = (_, _)›; simp only [] at p; subst p)); (try (first | (injection ht with ht; subst ht; simp_all; done) | (subst ht; simp_all; done) | (subst_vars; simp_all; done) | simp_all))); done)

@[simp] theorem arriveReads_keeps (s : Sys2Proof.Machine.State) (a : ℕ) (b : ℕ) : (arriveReads s a b).1.pending = s.pending ∧ (arriveReads s a
    b).1.out = s.out ∧ (arriveReads s a b).1.freeCtr = s.freeCtr ∧ (arriveReads s a b).1.req = s.req ∧ (arriveReads s a b).1.pwr = s.pwr ∧
    (arriveReads s a b).1.ports = s.ports ∧ (arriveReads s a b).1.rings = s.rings ∧ (arriveReads s a b).1.cmds = s.cmds ∧ (arriveReads s a b).1.tabs
    = s.tabs ∧ (arriveReads s a b).1.mapu = s.mapu ∧ (arriveReads s a b).1.cist = s.cist ∧ (arriveReads s a b).1.cache = s.cache ∧ (arriveReads s a
    b).1.med = s.med ∧ (arriveReads s a b).1.keys = s.keys ∧ (arriveReads s a b).1.wear = s.wear ∧ (arriveReads s a b).1.pair = s.pair ∧
    (arriveReads s a b).1.flt = s.flt ∧ (arriveReads s a b).1.ag = s.ag ∧ (arriveReads s a b).1.qz = s.qz ∧ (arriveReads s a b).1.zir = s.zir ∧
    (arriveReads s a b).1.th = s.th ∧ (arriveReads s a b).1.beryl = s.beryl ∧ (arriveReads s a b).1.sec = s.sec := by
  induction b generalizing s with
  | zero => simp [arriveReads]
  | succ n ih => unfold arriveReads; simp [ih]

@[simp] theorem demandRead_keeps (s : Sys2Proof.Machine.State) (a : ℕ) (b : Attr) : (demandRead s a b).pending = s.pending ∧ (demandRead s a b).out
    = s.out ∧ (demandRead s a b).freeCtr = s.freeCtr ∧ (demandRead s a b).req = s.req ∧ (demandRead s a b).pwr = s.pwr ∧ (demandRead s a b).ports =
    s.ports ∧ (demandRead s a b).rings = s.rings ∧ (demandRead s a b).cmds = s.cmds ∧ (demandRead s a b).tabs = s.tabs ∧ (demandRead s a b).cist =
    s.cist ∧ (demandRead s a b).cache = s.cache ∧ (demandRead s a b).keys = s.keys ∧ (demandRead s a b).wear = s.wear ∧ (demandRead s a b).pair =
    s.pair ∧ (demandRead s a b).flt = s.flt ∧ (demandRead s a b).ag = s.ag ∧ (demandRead s a b).zir = s.zir ∧ (demandRead s a b).th = s.th ∧
    (demandRead s a b).beryl = s.beryl ∧ (demandRead s a b).sec = s.sec := by
  first
  | (simp [demandRead]; done)
  | (unfold demandRead; (try simp only []); (repeat' split) <;> (try intro ht) <;> ((try (have p := congrArg Prod.fst ‹_ = (_, _)›; simp only [] at p; subst p)); (try (first | (injection ht with ht; subst ht; simp_all; done) | (subst ht; simp_all; done) | (subst_vars; simp_all; done) | simp_all))); done)

@[simp] theorem startSense_keeps (s : Sys2Proof.Machine.State) (a : ℕ) (b : Bool) (c : List Waiter) (d : Bool) (e : Attr) : (startSense s a b c d
    e).pending = s.pending ∧ (startSense s a b c d e).out = s.out ∧ (startSense s a b c d e).req = s.req ∧ (startSense s a b c d e).pwr = s.pwr ∧
    (startSense s a b c d e).ports = s.ports ∧ (startSense s a b c d e).rings = s.rings ∧ (startSense s a b c d e).cmds = s.cmds ∧ (startSense s a b
    c d e).tabs = s.tabs ∧ (startSense s a b c d e).cist = s.cist ∧ (startSense s a b c d e).cache = s.cache ∧ (startSense s a b c d e).keys =
    s.keys ∧ (startSense s a b c d e).pair = s.pair ∧ (startSense s a b c d e).flt = s.flt ∧ (startSense s a b c d e).ag = s.ag ∧ (startSense s a b
    c d e).zir = s.zir ∧ (startSense s a b c d e).th = s.th ∧ (startSense s a b c d e).beryl = s.beryl ∧ (startSense s a b c d e).sec = s.sec := by
  first
  | (simp [startSense]; done)
  | (unfold startSense; (try simp only []); (repeat' split) <;> (try intro ht) <;> ((try (have p := congrArg Prod.fst ‹_ = (_, _)›; simp only [] at p; subst p)); (try (first | (injection ht with ht; subst ht; simp_all; done) | (subst ht; simp_all; done) | (subst_vars; simp_all; done) | simp_all))); done)

theorem admitWrite_keeps (s : Sys2Proof.Machine.State) (a : WaitW) : ∀ t, admitWrite s a = some t → t.pending = s.pending ∧ t.keys = s.keys ∧ t.th =
    s.th ∧ t.sec = s.sec := by
  intro t ht; unfold admitWrite at ht; dsimp only at ht
  have hf := applyFill_keeps
  have hw := applyWrite_keeps
  (repeat' split at ht) <;> (first
    | (with_reducible have q := hw _ _ _ _ _ ht; clear hw hf; simp_all; done)
    | (with_reducible have q := hf _ _ _ _ ht; clear hw hf; simp_all; done)
    | (cases ht; done)
    | (injection ht with ht; subst ht; clear hw hf; simp; done)
    | (simp only [Option.map_eq_some_iff] at ht; obtain ⟨x, hx, ht⟩ := ht; have q := hw _ _ _ _ _ hx; clear hw hf; subst ht; simp_all))

@[simp] theorem voidTile_keeps (s : Sys2Proof.Machine.State) (a : ℕ) : (voidTile s a).pending = s.pending ∧ (voidTile s a).out = s.out ∧ (voidTile s
    a).freeCtr = s.freeCtr ∧ (voidTile s a).regs = s.regs ∧ (voidTile s a).req = s.req ∧ (voidTile s a).pwr = s.pwr ∧ (voidTile s a).ports = s.ports
    ∧ (voidTile s a).rings = s.rings ∧ (voidTile s a).cmds = s.cmds ∧ (voidTile s a).tabs = s.tabs ∧ (voidTile s a).mapu = s.mapu ∧ (voidTile s
    a).keys = s.keys ∧ (voidTile s a).wear = s.wear ∧ (voidTile s a).drift = s.drift ∧ (voidTile s a).flt = s.flt ∧ (voidTile s a).ag = s.ag ∧
    (voidTile s a).qz = s.qz ∧ (voidTile s a).zir = s.zir ∧ (voidTile s a).th = s.th ∧ (voidTile s a).beryl = s.beryl ∧ (voidTile s a).sec = s.sec
    := by
  first
  | (simp [voidTile]; done)
  | (unfold voidTile; (try simp only []); (repeat' split) <;> (try intro ht) <;> (simp_all; done); done)

theorem doUnit_keepsX (s : State) (t : Task) (u : Nat) : (∀ x, doUnit s t u = .wait x → x.pending = s.pending ∧ x.keys = s.keys ∧ x.th = s.th ∧ x.sec = s.sec) ∧ (∀ x, doUnit s t u = .stop x → x.pending = s.pending ∧ x.keys = s.keys ∧ x.th = s.th ∧ x.sec = s.sec) ∧ (∀ x k, doUnit s t u = .done x k → x.pending = s.pending ∧ x.keys = s.keys ∧ x.th = s.th ∧ x.sec = s.sec) := by
  have hc : ∀ (s : State) (src dst : Nat), (∀ x, cloneUnit s src dst = .wait x → x.pending = s.pending ∧ x.keys = s.keys ∧ x.th = s.th ∧ x.sec = s.sec) ∧ (∀ x, cloneUnit s src dst = .stop x → x.pending = s.pending ∧ x.keys = s.keys ∧ x.th = s.th ∧ x.sec = s.sec) ∧ (∀ x k, cloneUnit s src dst = .done x k → x.pending = s.pending ∧ x.keys = s.keys ∧ x.th = s.th ∧ x.sec = s.sec) := by
    intro s src dst
    unfold cloneUnit; dsimp only
    (repeat' split) <;> refine ⟨fun x h => ?_, fun x h => ?_, fun x k h => ?_⟩ <;> (first | (injection h with h; subst h) | (injection h with h _; subst h) | cases h) <;> simp_all
  have hd : ∀ (s : State) (d : Nat) (ue : List Nat), (∀ x, clearUnit s d ue = .wait x → x.pending = s.pending ∧ x.keys = s.keys ∧ x.th = s.th ∧ x.sec = s.sec) ∧ (∀ x, clearUnit s d ue = .stop x → x.pending = s.pending ∧ x.keys = s.keys ∧ x.th = s.th ∧ x.sec = s.sec) ∧ (∀ x k, clearUnit s d ue = .done x k → x.pending = s.pending ∧ x.keys = s.keys ∧ x.th = s.th ∧ x.sec = s.sec) := by
    intro s d ue
    unfold clearUnit; dsimp only
    have ha : ∀ (a : State) w x, admitWrite a w = some x → _ := fun a w x => admitWrite_keeps a w x
    (repeat' split) <;> refine ⟨fun x h => ?_, fun x h => ?_, fun x k h => ?_⟩ <;> (first | (injection h with h; subst h) | (injection h with h _; subst h) | cases h) <;> (try (have q := ha _ _ _ ‹admitWrite _ _ = some _›)) <;> clear ha <;> simp_all
  unfold doUnit; dsimp only
  split
  · exact hc _ _ _
  · split
    · exact hd _ _ _
    · (repeat' split) <;> refine ⟨fun x h => ?_, fun x h => ?_, fun x k h => ?_⟩ <;> (first | (injection h with h; subst h) | (injection h with h _; subst h) | cases h) <;> simp_all
@[simp] theorem runInbox_keeps (a : ℕ) (b : List (ℕ × ℕ)) (s : Sys2Proof.Machine.State) : (runInbox a b s).pending = s.pending ∧ (runInbox a b
    s).keys = s.keys ∧ (runInbox a b s).th = s.th ∧ (runInbox a b s).sec = s.sec := by
  obtain ⟨hw, hs, hd⟩ : _ ∧ _ ∧ _ := ⟨fun (s : State) t u => (doUnit_keepsX s t u).1, fun (s : State) t u => (doUnit_keepsX s t u).2.1, fun (s : State) t u => (doUnit_keepsX s t u).2.2⟩
  induction b generalizing s with
  | nil => simp [runInbox]
  | cons x r ih =>
    unfold runInbox; split
    · simp
    · split
      · simp
      · split
        · rename_i h; have q := hw _ _ _ _ h; simp_all
        · rename_i h; have q := hs _ _ _ _ h; simp_all
        · rename_i h; have q := hd _ _ _ _ _ h; simp_all

@[simp] theorem afterHome_keeps (s : Sys2Proof.Machine.State) (a : Sys2Proof.Machine.Task) (b : ℕ) : (afterHome s a b).pending = s.pending ∧
    (afterHome s a b).freeCtr = s.freeCtr ∧ (afterHome s a b).regs = s.regs ∧ (afterHome s a b).req = s.req ∧ (afterHome s a b).pwr = s.pwr ∧
    (afterHome s a b).ports = s.ports ∧ (afterHome s a b).rings = s.rings ∧ (afterHome s a b).cmds = s.cmds ∧ (afterHome s a b).tabs = s.tabs ∧
    (afterHome s a b).mapu = s.mapu ∧ (afterHome s a b).keys = s.keys ∧ (afterHome s a b).wear = s.wear ∧ (afterHome s a b).drift = s.drift ∧
    (afterHome s a b).flt = s.flt ∧ (afterHome s a b).ag = s.ag ∧ (afterHome s a b).qz = s.qz ∧ (afterHome s a b).zir = s.zir ∧ (afterHome s a b).th
    = s.th ∧ (afterHome s a b).beryl = s.beryl ∧ (afterHome s a b).sec = s.sec := by
  first
  | (simp [afterHome]; done)
  | (unfold afterHome; (try simp only []); (repeat' split) <;> (try intro ht) <;> ((try (have p := congrArg Prod.fst ‹_ = (_, _)›; simp only [] at p; subst p)); (try (first | (injection ht with ht; subst ht; simp_all; done) | (subst ht; simp_all; done) | (subst_vars; simp_all; done) | simp_all))); done)

@[simp] theorem runUnits_keeps (a : ℕ) (b : List ℕ) (s : Sys2Proof.Machine.State) : (runUnits a b s).pending = s.pending ∧ (runUnits a b s).keys =
    s.keys ∧ (runUnits a b s).th = s.th ∧ (runUnits a b s).sec = s.sec := by
  obtain ⟨hw, hs, hd⟩ : _ ∧ _ ∧ _ := ⟨fun (s : State) t u => (doUnit_keepsX s t u).1, fun (s : State) t u => (doUnit_keepsX s t u).2.1, fun (s : State) t u => (doUnit_keepsX s t u).2.2⟩
  induction b generalizing s with
  | nil => simp [runUnits]
  | cons x r ih =>
    unfold runUnits; split
    · simp
    · split
      · simp
      · split
        · rename_i h; have q := hw _ _ _ _ h; simp_all
        · rename_i h; have q := hs _ _ _ _ h; simp_all
        · rename_i h; have q := hd _ _ _ _ _ h; simp_all

@[simp] theorem storeSan_keeps (s : Sys2Proof.Machine.State) (a : ℕ) (b : Bool) : (storeSan s a b).pending = s.pending ∧ (storeSan s a b).freeCtr =
    s.freeCtr ∧ (storeSan s a b).req = s.req ∧ (storeSan s a b).ports = s.ports ∧ (storeSan s a b).tabs = s.tabs ∧ (storeSan s a b).mapu = s.mapu ∧
    (storeSan s a b).cist = s.cist ∧ (storeSan s a b).cache = s.cache ∧ (storeSan s a b).med = s.med ∧ (storeSan s a b).keys = s.keys ∧ (storeSan s
    a b).wear = s.wear ∧ (storeSan s a b).drift = s.drift ∧ (storeSan s a b).pair = s.pair ∧ (storeSan s a b).flt = s.flt ∧ (storeSan s a b).qz =
    s.qz ∧ (storeSan s a b).zir = s.zir ∧ (storeSan s a b).th = s.th ∧ (storeSan s a b).sec = s.sec := by
  first
  | (simp [storeSan]; done)
  | (unfold storeSan; (try simp only []); (repeat' split) <;> (try intro ht) <;> (simp_all; done); done)

@[simp] theorem ackInstalls_keeps (s : Sys2Proof.Machine.State) : (ackInstalls s).pending = s.pending ∧ (ackInstalls s).freeCtr = s.freeCtr ∧
    (ackInstalls s).regs = s.regs ∧ (ackInstalls s).req = s.req ∧ (ackInstalls s).pwr = s.pwr ∧ (ackInstalls s).ports = s.ports ∧ (ackInstalls
    s).rings = s.rings ∧ (ackInstalls s).cmds = s.cmds ∧ (ackInstalls s).tabs = s.tabs ∧ (ackInstalls s).mapu = s.mapu ∧ (ackInstalls s).cist =
    s.cist ∧ (ackInstalls s).cache = s.cache ∧ (ackInstalls s).med = s.med ∧ (ackInstalls s).keys = s.keys ∧ (ackInstalls s).wear = s.wear ∧
    (ackInstalls s).drift = s.drift ∧ (ackInstalls s).flt = s.flt ∧ (ackInstalls s).ag = s.ag ∧ (ackInstalls s).qz = s.qz ∧ (ackInstalls s).zir =
    s.zir ∧ (ackInstalls s).th = s.th ∧ (ackInstalls s).beryl = s.beryl ∧ (ackInstalls s).sec = s.sec := by
  unfold ackInstalls; dsimp only; (repeat' constructor) <;> (first | (rw [foldl_pending]) | (rw [foldl_freeCtr]) | rw [foldl_regs] | rw [foldl_req] | rw [foldl_th] | rw [foldl_sec] | rw [foldl_keys] | rw [foldl_pwr] | rw [foldl_rings] | rw [foldl_cmds] | rw [foldl_med] | rw [foldl_wear] | rw [foldl_drift] | rw [foldl_flt] | rw [foldl_ag] | rw [foldl_qz] | rw [foldl_zir] | rw [foldl_beryl] | rw [foldl_tabs] | rw [foldl_mapu] | rw [foldl_cist] | rw [foldl_cache] | rw [foldl_pair] | rw [foldl_ports] | rw [foldl_out]) <;> (try simp; done) <;> intros <;> (first | (simp; done) | (split <;> simp))

@[simp] theorem redrawKeys_keeps (s : Sys2Proof.Machine.State) : (redrawKeys s).pending = s.pending ∧ (redrawKeys s).out = s.out ∧ (redrawKeys
    s).regs = s.regs ∧ (redrawKeys s).req = s.req ∧ (redrawKeys s).pwr = s.pwr ∧ (redrawKeys s).ports = s.ports ∧ (redrawKeys s).rings = s.rings ∧
    (redrawKeys s).cmds = s.cmds ∧ (redrawKeys s).tabs = s.tabs ∧ (redrawKeys s).mapu = s.mapu ∧ (redrawKeys s).cist = s.cist ∧ (redrawKeys s).cache
    = s.cache ∧ (redrawKeys s).med = s.med ∧ (redrawKeys s).wear = s.wear ∧ (redrawKeys s).drift = s.drift ∧ (redrawKeys s).pair = s.pair ∧
    (redrawKeys s).flt = s.flt ∧ (redrawKeys s).ag = s.ag ∧ (redrawKeys s).qz = s.qz ∧ (redrawKeys s).zir = s.zir ∧ (redrawKeys s).th = s.th ∧
    (redrawKeys s).sec = s.sec := by
  unfold redrawKeys; dsimp only; generalize List.range 64 = l; (repeat' constructor) <;> (first | (rw [foldl_pending]) | (rw [foldl_freeCtr]) | rw [foldl_regs] | rw [foldl_req] | rw [foldl_th] | rw [foldl_sec] | rw [foldl_keys] | rw [foldl_pwr] | rw [foldl_rings] | rw [foldl_cmds] | rw [foldl_med] | rw [foldl_wear] | rw [foldl_drift] | rw [foldl_flt] | rw [foldl_ag] | rw [foldl_qz] | rw [foldl_zir] | rw [foldl_beryl] | rw [foldl_tabs] | rw [foldl_mapu] | rw [foldl_cist] | rw [foldl_cache] | rw [foldl_pair] | rw [foldl_ports] | rw [foldl_out]) <;> (try simp; done) <;> intros <;> (first | (simp; done) | (split <;> simp))

@[simp] theorem queueAll_keeps (s : Sys2Proof.Machine.State) : (queueAll s).pending = s.pending ∧ (queueAll s).out = s.out ∧ (queueAll s).freeCtr =
    s.freeCtr ∧ (queueAll s).regs = s.regs ∧ (queueAll s).req = s.req ∧ (queueAll s).pwr = s.pwr ∧ (queueAll s).ports = s.ports ∧ (queueAll s).rings
    = s.rings ∧ (queueAll s).cmds = s.cmds ∧ (queueAll s).cist = s.cist ∧ (queueAll s).cache = s.cache ∧ (queueAll s).med = s.med ∧ (queueAll
    s).keys = s.keys ∧ (queueAll s).drift = s.drift ∧ (queueAll s).pair = s.pair ∧ (queueAll s).flt = s.flt ∧ (queueAll s).ag = s.ag ∧ (queueAll
    s).qz = s.qz ∧ (queueAll s).zir = s.zir ∧ (queueAll s).th = s.th ∧ (queueAll s).beryl = s.beryl ∧ (queueAll s).sec = s.sec := by
  unfold queueAll; (repeat' constructor) <;> rfl

@[simp] theorem emptyAll_keeps (s : Sys2Proof.Machine.State) : (emptyAll s).pending = s.pending ∧ (emptyAll s).out = s.out ∧ (emptyAll s).freeCtr =
    s.freeCtr ∧ (emptyAll s).regs = s.regs ∧ (emptyAll s).req = s.req ∧ (emptyAll s).pwr = s.pwr ∧ (emptyAll s).ports = s.ports ∧ (emptyAll s).rings
    = s.rings ∧ (emptyAll s).cmds = s.cmds ∧ (emptyAll s).keys = s.keys ∧ (emptyAll s).pair = s.pair ∧ (emptyAll s).flt = s.flt ∧ (emptyAll s).ag =
    s.ag ∧ (emptyAll s).qz = s.qz ∧ (emptyAll s).zir = s.zir ∧ (emptyAll s).th = s.th ∧ (emptyAll s).beryl = s.beryl ∧ (emptyAll s).sec = s.sec := by
  first
  | (simp [emptyAll]; done)
  | (unfold emptyAll; (try simp only []); (repeat' split) <;> (try intro ht) <;> (simp_all; done); done)

@[simp] theorem sanitizeAdvance_keeps (s : Sys2Proof.Machine.State) (a : Sys2Proof.Machine.Task) : (sanitizeAdvance s a).pending = s.pending ∧
    (sanitizeAdvance s a).th = s.th := by
  first
  | (simp [sanitizeAdvance]; done)
  | (unfold sanitizeAdvance; (try simp only []); (repeat' split) <;> (try intro ht) <;> (simp_all; done); done)

@[simp] theorem advanceTask_keeps (s : Sys2Proof.Machine.State) (a : ℕ) : (advanceTask s a).pending = s.pending ∧ (advanceTask s a).th = s.th := by
  first
  | (simp [advanceTask]; done)
  | (unfold advanceTask; (try simp only []); (repeat' split) <;> (try intro ht) <;> (simp_all; done); done)

@[simp] theorem syncPersist_keeps (s : Sys2Proof.Machine.State) : (syncPersist s).pending = s.pending ∧ (syncPersist s).out = s.out ∧ (syncPersist
    s).freeCtr = s.freeCtr ∧ (syncPersist s).regs = s.regs ∧ (syncPersist s).req = s.req ∧ (syncPersist s).pwr = s.pwr ∧ (syncPersist s).ports =
    s.ports ∧ (syncPersist s).rings = s.rings ∧ (syncPersist s).cmds = s.cmds ∧ (syncPersist s).tabs = s.tabs ∧ (syncPersist s).mapu = s.mapu ∧
    (syncPersist s).cist = s.cist ∧ (syncPersist s).cache = s.cache ∧ (syncPersist s).med = s.med ∧ (syncPersist s).keys = s.keys ∧ (syncPersist
    s).wear = s.wear ∧ (syncPersist s).drift = s.drift ∧ (syncPersist s).pair = s.pair ∧ (syncPersist s).flt = s.flt ∧ (syncPersist s).ag = s.ag ∧
    (syncPersist s).qz = s.qz ∧ (syncPersist s).zir = s.zir ∧ (syncPersist s).th = s.th ∧ (syncPersist s).sec = s.sec := by
  first
  | (simp [syncPersist]; done)
  | (unfold syncPersist; (try simp only []); (repeat' split) <;> (try intro ht) <;> (simp_all; done); done)

@[simp] theorem sanitizeEnd_keeps (s : Sys2Proof.Machine.State) : (sanitizeEnd s).pending = s.pending ∧ (sanitizeEnd s).freeCtr = s.freeCtr ∧
    (sanitizeEnd s).tabs = s.tabs ∧ (sanitizeEnd s).cist = s.cist ∧ (sanitizeEnd s).cache = s.cache ∧ (sanitizeEnd s).med = s.med ∧ (sanitizeEnd
    s).keys = s.keys ∧ (sanitizeEnd s).wear = s.wear ∧ (sanitizeEnd s).drift = s.drift ∧ (sanitizeEnd s).qz = s.qz ∧ (sanitizeEnd s).zir = s.zir ∧
    (sanitizeEnd s).th = s.th := by
  first
  | (simp [sanitizeEnd]; done)
  | (unfold sanitizeEnd; (try simp only []); (repeat' split) <;> (try intro ht) <;> (simp_all; done); done)

@[simp] theorem settleTasks_keeps (s : Sys2Proof.Machine.State) : (settleTasks s).pending = s.pending ∧ (settleTasks s).th = s.th := by
  first
  | (simp [settleTasks]; done)
  | (unfold settleTasks; (try simp only []); (repeat' split) <;> (try intro ht) <;> (simp_all; done); done)

@[simp] theorem ackTile_keeps (s : Sys2Proof.Machine.State) : (ackTile s).pending = s.pending ∧ (ackTile s).freeCtr = s.freeCtr ∧ (ackTile s).regs =
    s.regs ∧ (ackTile s).req = s.req ∧ (ackTile s).pwr = s.pwr ∧ (ackTile s).ports = s.ports ∧ (ackTile s).rings = s.rings ∧ (ackTile s).cmds =
    s.cmds ∧ (ackTile s).tabs = s.tabs ∧ (ackTile s).mapu = s.mapu ∧ (ackTile s).cist = s.cist ∧ (ackTile s).cache = s.cache ∧ (ackTile s).med =
    s.med ∧ (ackTile s).keys = s.keys ∧ (ackTile s).wear = s.wear ∧ (ackTile s).drift = s.drift ∧ (ackTile s).flt = s.flt ∧ (ackTile s).ag = s.ag ∧
    (ackTile s).qz = s.qz ∧ (ackTile s).zir = s.zir ∧ (ackTile s).th = s.th ∧ (ackTile s).beryl = s.beryl ∧ (ackTile s).sec = s.sec := by
  first
  | (simp [ackTile]; done)
  | (unfold ackTile; (try simp only []); (repeat' split) <;> (try intro ht) <;> (simp_all; done); done)

@[simp] theorem endRotation_keeps (s : Sys2Proof.Machine.State) (a : ℕ) (b : Sys2Proof.Well) : (endRotation s a b).pending = s.pending ∧
    (endRotation s a b).freeCtr = s.freeCtr ∧ (endRotation s a b).mapu = s.mapu ∧ (endRotation s a b).cist = s.cist ∧ (endRotation s a b).cache =
    s.cache ∧ (endRotation s a b).med = s.med ∧ (endRotation s a b).wear = s.wear ∧ (endRotation s a b).drift = s.drift ∧ (endRotation s a b).qz =
    s.qz ∧ (endRotation s a b).zir = s.zir ∧ (endRotation s a b).th = s.th ∧ (endRotation s a b).sec = s.sec := by
  first
  | (simp [endRotation]; done)
  | (unfold endRotation; (try simp only []); (repeat' split) <;> (try intro ht) <;> (simp_all; done); done)

@[simp] theorem endRotations_keeps (s : Sys2Proof.Machine.State) : (endRotations s).pending = s.pending ∧ (endRotations s).freeCtr = s.freeCtr ∧
    (endRotations s).mapu = s.mapu ∧ (endRotations s).cist = s.cist ∧ (endRotations s).cache = s.cache ∧ (endRotations s).med = s.med ∧
    (endRotations s).wear = s.wear ∧ (endRotations s).drift = s.drift ∧ (endRotations s).qz = s.qz ∧ (endRotations s).zir = s.zir ∧ (endRotations
    s).th = s.th ∧ (endRotations s).sec = s.sec := by
  first
  | (simp [endRotations]; done)
  | (unfold endRotations; (try simp only []); (repeat' split) <;> (try intro ht) <;> (simp_all; done); done)

@[simp] theorem waitWrite_keeps (s : Sys2Proof.Machine.State) (a : WaitW) : (waitWrite s a).pending = s.pending ∧ (waitWrite s a).out = s.out ∧
    (waitWrite s a).freeCtr = s.freeCtr ∧ (waitWrite s a).req = s.req ∧ (waitWrite s a).pwr = s.pwr ∧ (waitWrite s a).ports = s.ports ∧ (waitWrite s
    a).rings = s.rings ∧ (waitWrite s a).cmds = s.cmds ∧ (waitWrite s a).tabs = s.tabs ∧ (waitWrite s a).mapu = s.mapu ∧ (waitWrite s a).cache =
    s.cache ∧ (waitWrite s a).med = s.med ∧ (waitWrite s a).keys = s.keys ∧ (waitWrite s a).wear = s.wear ∧ (waitWrite s a).drift = s.drift ∧
    (waitWrite s a).pair = s.pair ∧ (waitWrite s a).flt = s.flt ∧ (waitWrite s a).ag = s.ag ∧ (waitWrite s a).zir = s.zir ∧ (waitWrite s a).th =
    s.th ∧ (waitWrite s a).beryl = s.beryl ∧ (waitWrite s a).sec = s.sec := by
  first
  | (simp [waitWrite]; done)
  | (unfold waitWrite; (try simp only []); (repeat' split) <;> (try intro ht) <;> (simp_all; done); done)

@[simp] theorem retryWrite_keeps (s : Sys2Proof.Machine.State) (a : WaitW) : (retryWrite s a).pending = s.pending ∧ (retryWrite s a).keys = s.keys ∧
    (retryWrite s a).th = s.th ∧ (retryWrite s a).sec = s.sec := by
  first
  | (simp [retryWrite]; done)
  | (unfold retryWrite; (try simp only []); (repeat' split) <;> (try intro ht) <;> ((try have q0 := admitWrite_keeps _ _ _ ‹_›); (try (first | (injection ht with ht; subst ht; simp_all; done) | (subst ht; simp_all; done) | (subst_vars; simp_all; done) | simp_all))); done)

@[simp] theorem putUpset_keeps (s : Sys2Proof.Machine.State) (a : ℕ) (b : Sys2Proof.ArrErr) : (putUpset s a b).pending = s.pending ∧ (putUpset s a
    b).out = s.out ∧ (putUpset s a b).freeCtr = s.freeCtr ∧ (putUpset s a b).regs = s.regs ∧ (putUpset s a b).req = s.req ∧ (putUpset s a b).pwr =
    s.pwr ∧ (putUpset s a b).ports = s.ports ∧ (putUpset s a b).rings = s.rings ∧ (putUpset s a b).cmds = s.cmds ∧ (putUpset s a b).tabs = s.tabs ∧
    (putUpset s a b).mapu = s.mapu ∧ (putUpset s a b).cist = s.cist ∧ (putUpset s a b).med = s.med ∧ (putUpset s a b).keys = s.keys ∧ (putUpset s a
    b).wear = s.wear ∧ (putUpset s a b).drift = s.drift ∧ (putUpset s a b).pair = s.pair ∧ (putUpset s a b).flt = s.flt ∧ (putUpset s a b).ag = s.ag
    ∧ (putUpset s a b).qz = s.qz ∧ (putUpset s a b).zir = s.zir ∧ (putUpset s a b).th = s.th ∧ (putUpset s a b).beryl = s.beryl ∧ (putUpset s a
    b).sec = s.sec := by
  first
  | (simp [putUpset]; done)
  | (unfold putUpset; (try simp only []); (repeat' split) <;> (try intro ht) <;> (simp_all; done); done)

@[simp] theorem answer_keeps (s : Sys2Proof.Machine.State) (a : Waiter) (b : ℕ) (c : LineV) (d : Bool) (e : ℕ) (f : RdFlags) (g :
    Sys2Proof.Machine.Path) : (answer s a b c d e f g).pending = s.pending ∧ (answer s a b c d e f g).freeCtr = s.freeCtr ∧ (answer s a b c d e f
    g).keys = s.keys ∧ (answer s a b c d e f g).th = s.th ∧ (answer s a b c d e f g).sec = s.sec := by
  first
  | (simp [answer]; done)
  | (unfold answer; (try simp only []); (repeat' split) <;> (try intro ht) <;> (simp_all; done); done)

@[simp] theorem installClean_keeps (s : Sys2Proof.Machine.State) (a : ℕ) (b : LineV) (c : Bool) : (installClean s a b c).pending = s.pending ∧
    (installClean s a b c).freeCtr = s.freeCtr ∧ (installClean s a b c).keys = s.keys ∧ (installClean s a b c).th = s.th ∧ (installClean s a b
    c).sec = s.sec := by
  unfold installClean; split
  · simp
  · split
    · simp
    · rename_i h; have q := takeWay_keeps _ _ _ _ _ h; dsimp only; split <;> simp_all

@[simp] theorem mapDramUe_keeps (s : Sys2Proof.Machine.State) (a : ℕ) : (mapDramUe s a).1.pending = s.pending ∧ (mapDramUe s a).1.freeCtr =
    s.freeCtr ∧ (mapDramUe s a).1.keys = s.keys ∧ (mapDramUe s a).1.th = s.th ∧ (mapDramUe s a).1.sec = s.sec := by
  first
  | (simp [mapDramUe]; done)
  | (unfold mapDramUe; (try simp only []); (repeat' split) <;> (try intro ht) <;> (simp_all; done); done)

@[simp] theorem answerNever_keeps (s : Sys2Proof.Machine.State) (a : Waiter) (b : ℕ) (c : ℕ) (d : RdFlags) (e : Sys2Proof.Machine.Path) :
    (answerNever s a b c d e).pending = s.pending ∧ (answerNever s a b c d e).freeCtr = s.freeCtr ∧ (answerNever s a b c d e).keys = s.keys ∧
    (answerNever s a b c d e).th = s.th ∧ (answerNever s a b c d e).sec = s.sec := by
  first
  | (simp [answerNever]; done)
  | (unfold answerNever; (try simp only []); (repeat' split) <;> (try intro ht) <;> (simp_all; done); done)

@[simp] theorem answerLost_keeps (s : Sys2Proof.Machine.State) (a : Waiter) (b : ℕ) (c : ℕ) (d : RdFlags) (e : Sys2Proof.Machine.Path) : (answerLost
    s a b c d e).pending = s.pending ∧ (answerLost s a b c d e).freeCtr = s.freeCtr ∧ (answerLost s a b c d e).keys = s.keys ∧ (answerLost s a b c d
    e).th = s.th ∧ (answerLost s a b c d e).sec = s.sec := by
  first
  | (simp [answerLost]; done)
  | (unfold answerLost; (try simp only []); (repeat' split) <;> (try intro ht) <;> (simp_all; done); done)

@[simp] theorem serveRead_keeps (s : Sys2Proof.Machine.State) (a : ℕ) (b : Waiter) (c : Sys2Proof.RdEnv) : (serveRead s a b c).pending = s.pending ∧
    (serveRead s a b c).keys = s.keys ∧ (serveRead s a b c).th = s.th ∧ (serveRead s a b c).sec = s.sec := by
  first
  | (simp [serveRead]; done)
  | (unfold serveRead; (try simp only []); (repeat' split) <;> (try intro ht) <;> ((try (have p := congrArg Prod.fst ‹_ = (_, _)›; simp only [] at p; subst p)); (try (have p := congrArg Prod.fst ‹_ = (_, _)›; simp only [] at p; subst p)); (try (first | (injection ht with ht; subst ht; simp_all; done) | (subst ht; simp_all; done) | (subst_vars; simp_all; done) | simp_all))); done)

@[simp] theorem restartWaiters_keeps (a : ℕ) (b : List Waiter) (s : Sys2Proof.Machine.State) : (restartWaiters a b s).pending = s.pending ∧
    (restartWaiters a b s).keys = s.keys ∧ (restartWaiters a b s).th = s.th ∧ (restartWaiters a b s).sec = s.sec := by
  induction b generalizing s with
  | nil => simp [restartWaiters]
  | cons x r ih => unfold restartWaiters; dsimp only; simp only [ih]; cases x <;> simp

@[simp] theorem freeLock_keeps (s : Sys2Proof.Machine.State) (a : ℕ) (b : Bool) : (freeLock s a b).pending = s.pending ∧ (freeLock s a b).keys =
    s.keys ∧ (freeLock s a b).th = s.th ∧ (freeLock s a b).sec = s.sec := by
  first
  | (simp [freeLock]; done)
  | (unfold freeLock; (try simp only []); (repeat' split) <;> (try intro ht) <;> (simp_all; done); done)

@[simp] theorem takeLock_keeps (s : Sys2Proof.Machine.State) (a : ℕ) (b : Bool) : (takeLock s a b).pending = s.pending ∧ (takeLock s a b).out =
    s.out ∧ (takeLock s a b).freeCtr = s.freeCtr ∧ (takeLock s a b).regs = s.regs ∧ (takeLock s a b).req = s.req ∧ (takeLock s a b).pwr = s.pwr ∧
    (takeLock s a b).ports = s.ports ∧ (takeLock s a b).rings = s.rings ∧ (takeLock s a b).cmds = s.cmds ∧ (takeLock s a b).tabs = s.tabs ∧
    (takeLock s a b).mapu = s.mapu ∧ (takeLock s a b).cist = s.cist ∧ (takeLock s a b).med = s.med ∧ (takeLock s a b).keys = s.keys ∧ (takeLock s a
    b).wear = s.wear ∧ (takeLock s a b).drift = s.drift ∧ (takeLock s a b).pair = s.pair ∧ (takeLock s a b).flt = s.flt ∧ (takeLock s a b).ag = s.ag
    ∧ (takeLock s a b).qz = s.qz ∧ (takeLock s a b).zir = s.zir ∧ (takeLock s a b).th = s.th ∧ (takeLock s a b).beryl = s.beryl ∧ (takeLock s a
    b).sec = s.sec := by
  first
  | (simp [takeLock]; done)
  | (unfold takeLock; (try simp only []); (repeat' split) <;> (try intro ht) <;> (simp_all; done); done)

@[simp] theorem waitItem_keeps (s : Sys2Proof.Machine.State) (a : ℕ) (b : ℕ) (c : ℕ) (d : ℕ) : (waitItem s a b c d).1.pending = s.pending ∧
    (waitItem s a b c d).1.keys = s.keys ∧ (waitItem s a b c d).1.th = s.th ∧ (waitItem s a b c d).1.sec = s.sec := by
  first
  | (simp [waitItem]; done)
  | (unfold waitItem; (try simp only []); (repeat' split) <;> (try intro ht) <;> (simp_all; done); done)

@[simp] theorem waitItems_keeps (a : ℕ) (b : ℕ) (c : ℕ) (d : List ℕ) (s : Sys2Proof.Machine.State) : (waitItems a b c d s).1.pending = s.pending ∧
    (waitItems a b c d s).1.keys = s.keys ∧ (waitItems a b c d s).1.th = s.th ∧ (waitItems a b c d s).1.sec = s.sec := by
  induction d generalizing s with
  | nil => simp [waitItems]
  | cons x r ih =>
    have q := waitItem_keeps s a b c x
    have q2 := ih (waitItem s a b c x).1
    unfold waitItems; simp_all

@[simp] theorem advanceRun_keeps (s : Sys2Proof.Machine.State) (a : Running) : (advanceRun s a).pending = s.pending ∧ (advanceRun s a).keys = s.keys
    ∧ (advanceRun s a).th = s.th ∧ (advanceRun s a).sec = s.sec := by
  first
  | (simp [advanceRun]; done)
  | (unfold advanceRun; (try simp only []); (repeat' split) <;> (try intro ht) <;> ((try (have p := congrArg Prod.fst ‹_ = (_, _)›; simp only [] at p; subst p)); (try (first | (injection ht with ht; subst ht; simp_all; done) | (subst ht; simp_all; done) | (subst_vars; simp_all; done) | simp_all))); done)

@[simp] theorem settle_keeps (s : Sys2Proof.Machine.State) : (settle s).pending = s.pending ∧ (settle s).th = s.th := by
  first
  | (simp [settle]; done)
  | (unfold settle; (try simp only []); (repeat' split) <;> (try intro ht) <;> (simp_all; done); done)

@[simp] theorem putBoth_keeps (s : Sys2Proof.Machine.State) (a : Blk) (b : ℕ) (c : ℕ) (d : ℕ) (e : ℕ) : (putBoth s a b c d e).pending = s.pending ∧
    (putBoth s a b c d e).out = s.out ∧ (putBoth s a b c d e).freeCtr = s.freeCtr ∧ (putBoth s a b c d e).req = s.req ∧ (putBoth s a b c d e).pwr =
    s.pwr ∧ (putBoth s a b c d e).ports = s.ports ∧ (putBoth s a b c d e).rings = s.rings ∧ (putBoth s a b c d e).cmds = s.cmds ∧ (putBoth s a b c d
    e).tabs = s.tabs ∧ (putBoth s a b c d e).mapu = s.mapu ∧ (putBoth s a b c d e).cist = s.cist ∧ (putBoth s a b c d e).cache = s.cache ∧ (putBoth
    s a b c d e).med = s.med ∧ (putBoth s a b c d e).keys = s.keys ∧ (putBoth s a b c d e).wear = s.wear ∧ (putBoth s a b c d e).drift = s.drift ∧
    (putBoth s a b c d e).pair = s.pair ∧ (putBoth s a b c d e).flt = s.flt ∧ (putBoth s a b c d e).ag = s.ag ∧ (putBoth s a b c d e).qz = s.qz ∧
    (putBoth s a b c d e).zir = s.zir ∧ (putBoth s a b c d e).th = s.th ∧ (putBoth s a b c d e).beryl = s.beryl ∧ (putBoth s a b c d e).sec = s.sec
    := by
  first
  | (simp [putBoth]; done)
  | (unfold putBoth; (try simp only []); (repeat' split) <;> (try intro ht) <;> (simp_all; done); done)

@[simp] theorem putSliceRetired_keeps (s : Sys2Proof.Machine.State) (a : ℕ) : (putSliceRetired s a).pending = s.pending ∧ (putSliceRetired s a).out
    = s.out ∧ (putSliceRetired s a).freeCtr = s.freeCtr ∧ (putSliceRetired s a).regs = s.regs ∧ (putSliceRetired s a).req = s.req ∧ (putSliceRetired
    s a).pwr = s.pwr ∧ (putSliceRetired s a).ports = s.ports ∧ (putSliceRetired s a).rings = s.rings ∧ (putSliceRetired s a).cmds = s.cmds ∧
    (putSliceRetired s a).tabs = s.tabs ∧ (putSliceRetired s a).mapu = s.mapu ∧ (putSliceRetired s a).cist = s.cist ∧ (putSliceRetired s a).cache =
    s.cache ∧ (putSliceRetired s a).med = s.med ∧ (putSliceRetired s a).keys = s.keys ∧ (putSliceRetired s a).wear = s.wear ∧ (putSliceRetired s
    a).drift = s.drift ∧ (putSliceRetired s a).pair = s.pair ∧ (putSliceRetired s a).flt = s.flt ∧ (putSliceRetired s a).ag = s.ag ∧
    (putSliceRetired s a).qz = s.qz ∧ (putSliceRetired s a).zir = s.zir ∧ (putSliceRetired s a).th = s.th ∧ (putSliceRetired s a).sec = s.sec := by
  first
  | (simp [putSliceRetired]; done)
  | (unfold putSliceRetired; (try simp only []); (repeat' split) <;> (try intro ht) <;> (simp_all; done); done)

@[simp] theorem dropSlice_keeps (s : Sys2Proof.Machine.State) (a : ℕ) : (dropSlice s a).pending = s.pending ∧ (dropSlice s a).out = s.out ∧
    (dropSlice s a).freeCtr = s.freeCtr ∧ (dropSlice s a).regs = s.regs ∧ (dropSlice s a).req = s.req ∧ (dropSlice s a).pwr = s.pwr ∧ (dropSlice s
    a).ports = s.ports ∧ (dropSlice s a).rings = s.rings ∧ (dropSlice s a).cmds = s.cmds ∧ (dropSlice s a).tabs = s.tabs ∧ (dropSlice s a).mapu =
    s.mapu ∧ (dropSlice s a).cist = s.cist ∧ (dropSlice s a).med = s.med ∧ (dropSlice s a).keys = s.keys ∧ (dropSlice s a).wear = s.wear ∧
    (dropSlice s a).drift = s.drift ∧ (dropSlice s a).pair = s.pair ∧ (dropSlice s a).flt = s.flt ∧ (dropSlice s a).ag = s.ag ∧ (dropSlice s a).qz =
    s.qz ∧ (dropSlice s a).zir = s.zir ∧ (dropSlice s a).th = s.th ∧ (dropSlice s a).beryl = s.beryl ∧ (dropSlice s a).sec = s.sec := by
  first
  | (simp [dropSlice]; done)
  | (unfold dropSlice; (try simp only []); (repeat' split) <;> (try intro ht) <;> (simp_all; done); done)

@[simp] theorem retireSlice_keeps (s : Sys2Proof.Machine.State) (a : ℕ) : (retireSlice s a).pending = s.pending ∧ (retireSlice s a).freeCtr =
    s.freeCtr ∧ (retireSlice s a).req = s.req ∧ (retireSlice s a).ports = s.ports ∧ (retireSlice s a).tabs = s.tabs ∧ (retireSlice s a).mapu =
    s.mapu ∧ (retireSlice s a).cist = s.cist ∧ (retireSlice s a).med = s.med ∧ (retireSlice s a).keys = s.keys ∧ (retireSlice s a).wear = s.wear ∧
    (retireSlice s a).drift = s.drift ∧ (retireSlice s a).pair = s.pair ∧ (retireSlice s a).flt = s.flt ∧ (retireSlice s a).qz = s.qz ∧ (retireSlice
    s a).th = s.th ∧ (retireSlice s a).sec = s.sec := by
  first
  | (simp [retireSlice]; done)
  | (unfold retireSlice; (try simp only []); (repeat' split) <;> (try intro ht) <;> (simp_all; done); done)

@[simp] theorem wayDone_keeps (s : Sys2Proof.Machine.State) (a : ℕ) (b : ℕ) : (wayDone s a b).pending = s.pending ∧ (wayDone s a b).freeCtr =
    s.freeCtr ∧ (wayDone s a b).keys = s.keys ∧ (wayDone s a b).th = s.th ∧ (wayDone s a b).sec = s.sec := by
  first
  | (simp [wayDone]; done)
  | (unfold wayDone; (try simp only []); (repeat' split) <;> (try intro ht) <;> (simp_all; done); done)

@[simp] theorem wayDisableF_keeps (s : Sys2Proof.Machine.State) (a : ℕ) : (wayDisableF s a).pending = s.pending ∧ (wayDisableF s a).keys = s.keys ∧
    (wayDisableF s a).th = s.th ∧ (wayDisableF s a).sec = s.sec := by
  first
  | (simp [wayDisableF]; done)
  | (unfold wayDisableF; (try simp only []); (repeat' split) <;> (try intro ht) <;> (simp_all; done); done)

@[simp] theorem putUpsets_keeps (s : Sys2Proof.Machine.State) (a : List (ℕ × Sys2Proof.ArrErr)) : (putUpsets s a).pending = s.pending ∧ (putUpsets s
    a).out = s.out ∧ (putUpsets s a).freeCtr = s.freeCtr ∧ (putUpsets s a).regs = s.regs ∧ (putUpsets s a).req = s.req ∧ (putUpsets s a).pwr = s.pwr
    ∧ (putUpsets s a).ports = s.ports ∧ (putUpsets s a).rings = s.rings ∧ (putUpsets s a).cmds = s.cmds ∧ (putUpsets s a).tabs = s.tabs ∧ (putUpsets
    s a).mapu = s.mapu ∧ (putUpsets s a).cist = s.cist ∧ (putUpsets s a).med = s.med ∧ (putUpsets s a).keys = s.keys ∧ (putUpsets s a).wear = s.wear
    ∧ (putUpsets s a).drift = s.drift ∧ (putUpsets s a).pair = s.pair ∧ (putUpsets s a).flt = s.flt ∧ (putUpsets s a).ag = s.ag ∧ (putUpsets s a).qz
    = s.qz ∧ (putUpsets s a).zir = s.zir ∧ (putUpsets s a).th = s.th ∧ (putUpsets s a).beryl = s.beryl ∧ (putUpsets s a).sec = s.sec := by
  first
  | (simp [putUpsets]; done)
  | (unfold putUpsets; (try simp only []); (repeat' split) <;> (try intro ht) <;> (simp_all; done); done)

@[simp] theorem flagPort_keeps (s : Sys2Proof.Machine.State) (a : ℕ) (b : ℕ) : (flagPort s a b).pending = s.pending ∧ (flagPort s a b).out = s.out ∧
    (flagPort s a b).freeCtr = s.freeCtr ∧ (flagPort s a b).req = s.req ∧ (flagPort s a b).pwr = s.pwr ∧ (flagPort s a b).ports = s.ports ∧
    (flagPort s a b).rings = s.rings ∧ (flagPort s a b).cmds = s.cmds ∧ (flagPort s a b).tabs = s.tabs ∧ (flagPort s a b).mapu = s.mapu ∧ (flagPort
    s a b).cist = s.cist ∧ (flagPort s a b).cache = s.cache ∧ (flagPort s a b).med = s.med ∧ (flagPort s a b).keys = s.keys ∧ (flagPort s a b).wear
    = s.wear ∧ (flagPort s a b).drift = s.drift ∧ (flagPort s a b).pair = s.pair ∧ (flagPort s a b).flt = s.flt ∧ (flagPort s a b).ag = s.ag ∧
    (flagPort s a b).qz = s.qz ∧ (flagPort s a b).zir = s.zir ∧ (flagPort s a b).th = s.th ∧ (flagPort s a b).beryl = s.beryl ∧ (flagPort s a b).sec
    = s.sec := by
  first
  | (simp [flagPort]; done)
  | (unfold flagPort; (try simp only []); (repeat' split) <;> (try intro ht) <;> (simp_all; done); done)

@[simp] theorem wellViol_keeps (s : Sys2Proof.Machine.State) (a : ℕ) (b : Option ℕ) (c : ℕ) : (wellViol s a b c).pending = s.pending ∧ (wellViol s a
    b c).freeCtr = s.freeCtr ∧ (wellViol s a b c).tabs = s.tabs ∧ (wellViol s a b c).mapu = s.mapu ∧ (wellViol s a b c).cist = s.cist ∧ (wellViol s
    a b c).cache = s.cache ∧ (wellViol s a b c).med = s.med ∧ (wellViol s a b c).keys = s.keys ∧ (wellViol s a b c).wear = s.wear ∧ (wellViol s a b
    c).drift = s.drift ∧ (wellViol s a b c).zir = s.zir ∧ (wellViol s a b c).th = s.th ∧ (wellViol s a b c).sec = s.sec := by
  first
  | (simp [wellViol]; done)
  | (unfold wellViol; (try simp only []); (repeat' split) <;> (try intro ht) <;> (simp_all; done); done)

@[simp] theorem countFenced_keeps (s : Sys2Proof.Machine.State) (a : ℕ) : (countFenced s a).pending = s.pending ∧ (countFenced s a).out = s.out ∧
    (countFenced s a).freeCtr = s.freeCtr ∧ (countFenced s a).regs = s.regs ∧ (countFenced s a).req = s.req ∧ (countFenced s a).pwr = s.pwr ∧
    (countFenced s a).rings = s.rings ∧ (countFenced s a).cmds = s.cmds ∧ (countFenced s a).tabs = s.tabs ∧ (countFenced s a).mapu = s.mapu ∧
    (countFenced s a).cist = s.cist ∧ (countFenced s a).cache = s.cache ∧ (countFenced s a).med = s.med ∧ (countFenced s a).keys = s.keys ∧
    (countFenced s a).wear = s.wear ∧ (countFenced s a).drift = s.drift ∧ (countFenced s a).pair = s.pair ∧ (countFenced s a).flt = s.flt ∧
    (countFenced s a).ag = s.ag ∧ (countFenced s a).qz = s.qz ∧ (countFenced s a).zir = s.zir ∧ (countFenced s a).th = s.th ∧ (countFenced s
    a).beryl = s.beryl ∧ (countFenced s a).sec = s.sec := by
  first
  | (simp [countFenced]; done)
  | (unfold countFenced; (try simp only []); (repeat' split) <;> (try intro ht) <;> (simp_all; done); done)

@[simp] theorem replayFails_keeps (s : Sys2Proof.Machine.State) (a : ℕ) (b : ℕ) : (replayFails s a b).pending = s.pending ∧ (replayFails s a
    b).freeCtr = s.freeCtr ∧ (replayFails s a b).keys = s.keys ∧ (replayFails s a b).th = s.th ∧ (replayFails s a b).sec = s.sec := by
  first
  | (simp [replayFails]; done)
  | (unfold replayFails; (try simp only []); (repeat' split) <;> (try intro ht) <;> (simp_all; done); done)

@[simp] theorem orphan_keeps (s : Sys2Proof.Machine.State) (a : ℕ) : (orphan s a).pending = s.pending ∧ (orphan s a).out = s.out ∧ (orphan s
    a).freeCtr = s.freeCtr ∧ (orphan s a).regs = s.regs ∧ (orphan s a).req = s.req ∧ (orphan s a).pwr = s.pwr ∧ (orphan s a).ports = s.ports ∧
    (orphan s a).rings = s.rings ∧ (orphan s a).tabs = s.tabs ∧ (orphan s a).mapu = s.mapu ∧ (orphan s a).cist = s.cist ∧ (orphan s a).cache =
    s.cache ∧ (orphan s a).med = s.med ∧ (orphan s a).keys = s.keys ∧ (orphan s a).wear = s.wear ∧ (orphan s a).pair = s.pair ∧ (orphan s a).flt =
    s.flt ∧ (orphan s a).ag = s.ag ∧ (orphan s a).qz = s.qz ∧ (orphan s a).zir = s.zir ∧ (orphan s a).th = s.th ∧ (orphan s a).beryl = s.beryl ∧
    (orphan s a).sec = s.sec := by
  first
  | (simp [orphan]; done)
  | (unfold orphan; (try simp only []); (repeat' split) <;> (try intro ht) <;> (simp_all; done); done)

@[simp] theorem ringError_keeps (s : Sys2Proof.Machine.State) (a : ℕ) (b : ℕ) : (ringError s a b).pending = s.pending ∧ (ringError s a b).freeCtr =
    s.freeCtr ∧ (ringError s a b).tabs = s.tabs ∧ (ringError s a b).mapu = s.mapu ∧ (ringError s a b).cist = s.cist ∧ (ringError s a b).cache =
    s.cache ∧ (ringError s a b).med = s.med ∧ (ringError s a b).keys = s.keys ∧ (ringError s a b).wear = s.wear ∧ (ringError s a b).qz = s.qz ∧
    (ringError s a b).zir = s.zir ∧ (ringError s a b).th = s.th ∧ (ringError s a b).sec = s.sec := by simp [ringError]

@[simp] theorem takeDesc_keeps (s : Sys2Proof.Machine.State) (a : ℕ) (b : BitVec 512) (c : List (BitVec 8)) : (takeDesc s a b c).pending = s.pending
    ∧ (takeDesc s a b c).freeCtr = s.freeCtr ∧ (takeDesc s a b c).req = s.req ∧ (takeDesc s a b c).pwr = s.pwr ∧ (takeDesc s a b c).ports = s.ports
    ∧ (takeDesc s a b c).tabs = s.tabs ∧ (takeDesc s a b c).mapu = s.mapu ∧ (takeDesc s a b c).cist = s.cist ∧ (takeDesc s a b c).cache = s.cache ∧
    (takeDesc s a b c).med = s.med ∧ (takeDesc s a b c).keys = s.keys ∧ (takeDesc s a b c).wear = s.wear ∧ (takeDesc s a b c).drift = s.drift ∧
    (takeDesc s a b c).pair = s.pair ∧ (takeDesc s a b c).flt = s.flt ∧ (takeDesc s a b c).ag = s.ag ∧ (takeDesc s a b c).qz = s.qz ∧ (takeDesc s a
    b c).zir = s.zir ∧ (takeDesc s a b c).th = s.th ∧ (takeDesc s a b c).beryl = s.beryl ∧ (takeDesc s a b c).sec = s.sec := by
  first
  | (simp [takeDesc]; done)
  | (unfold takeDesc; (try simp only []); (repeat' split) <;> (try intro ht) <;> (simp_all; done); done)

@[simp] theorem disarm_keeps (s : Sys2Proof.Machine.State) (a : ℕ) : (disarm s a).pending = s.pending ∧ (disarm s a).out = s.out ∧ (disarm s
    a).freeCtr = s.freeCtr ∧ (disarm s a).regs = s.regs ∧ (disarm s a).pwr = s.pwr ∧ (disarm s a).ports = s.ports ∧ (disarm s a).rings = s.rings ∧
    (disarm s a).cmds = s.cmds ∧ (disarm s a).tabs = s.tabs ∧ (disarm s a).mapu = s.mapu ∧ (disarm s a).cist = s.cist ∧ (disarm s a).cache = s.cache
    ∧ (disarm s a).med = s.med ∧ (disarm s a).keys = s.keys ∧ (disarm s a).wear = s.wear ∧ (disarm s a).drift = s.drift ∧ (disarm s a).pair = s.pair
    ∧ (disarm s a).flt = s.flt ∧ (disarm s a).ag = s.ag ∧ (disarm s a).qz = s.qz ∧ (disarm s a).zir = s.zir ∧ (disarm s a).th = s.th ∧ (disarm s
    a).beryl = s.beryl ∧ (disarm s a).sec = s.sec := by
  first
  | (simp [disarm]; done)
  | (unfold disarm; (try simp only []); (repeat' split) <;> (try intro ht) <;> (simp_all; done); done)

@[simp] theorem modRun_keeps (s : Sys2Proof.Machine.State) (a : Running) (b : Running → Running) : (modRun s a b).pending = s.pending ∧ (modRun s a
    b).out = s.out ∧ (modRun s a b).freeCtr = s.freeCtr ∧ (modRun s a b).regs = s.regs ∧ (modRun s a b).req = s.req ∧ (modRun s a b).pwr = s.pwr ∧
    (modRun s a b).ports = s.ports ∧ (modRun s a b).rings = s.rings ∧ (modRun s a b).tabs = s.tabs ∧ (modRun s a b).mapu = s.mapu ∧ (modRun s a
    b).cist = s.cist ∧ (modRun s a b).cache = s.cache ∧ (modRun s a b).med = s.med ∧ (modRun s a b).keys = s.keys ∧ (modRun s a b).wear = s.wear ∧
    (modRun s a b).drift = s.drift ∧ (modRun s a b).pair = s.pair ∧ (modRun s a b).flt = s.flt ∧ (modRun s a b).ag = s.ag ∧ (modRun s a b).qz = s.qz
    ∧ (modRun s a b).zir = s.zir ∧ (modRun s a b).th = s.th ∧ (modRun s a b).beryl = s.beryl ∧ (modRun s a b).sec = s.sec := by
  first
  | (simp [modRun]; done)
  | (unfold modRun; (try simp only []); (repeat' split) <;> (try intro ht) <;> (simp_all; done); done)

@[simp] theorem violation_keeps (s : Sys2Proof.Machine.State) (a : ℕ) (b : ℕ) (c : ℕ) : (violation s a b c).pending = s.pending ∧ (violation s a b
    c).out = s.out ∧ (violation s a b c).freeCtr = s.freeCtr ∧ (violation s a b c).pwr = s.pwr ∧ (violation s a b c).ports = s.ports ∧ (violation s
    a b c).rings = s.rings ∧ (violation s a b c).cmds = s.cmds ∧ (violation s a b c).tabs = s.tabs ∧ (violation s a b c).mapu = s.mapu ∧ (violation
    s a b c).cist = s.cist ∧ (violation s a b c).cache = s.cache ∧ (violation s a b c).med = s.med ∧ (violation s a b c).keys = s.keys ∧ (violation
    s a b c).wear = s.wear ∧ (violation s a b c).drift = s.drift ∧ (violation s a b c).pair = s.pair ∧ (violation s a b c).flt = s.flt ∧ (violation
    s a b c).ag = s.ag ∧ (violation s a b c).qz = s.qz ∧ (violation s a b c).zir = s.zir ∧ (violation s a b c).th = s.th ∧ (violation s a b c).beryl
    = s.beryl ∧ (violation s a b c).sec = s.sec := by
  first
  | (simp [violation]; done)
  | (unfold violation; (try simp only []); (repeat' split) <;> (try intro ht) <;> (simp_all; done); done)

@[simp] theorem startRun_pending (s : State) (r : Running) (c : Checks) (f : State → Running → Desc → State) (h : ∀ s r d, (f s r d).pending = s.pending) : (startRun s r c f).pending = s.pending := by unfold startRun; (repeat' split) <;> simp_all
@[simp] theorem startRun_freeCtr (s : State) (r : Running) (c : Checks) (f : State → Running → Desc → State) (h : ∀ s r d, (f s r d).freeCtr = s.freeCtr) : (startRun s r c f).freeCtr = s.freeCtr := by unfold startRun; (repeat' split) <;> simp_all
@[simp] theorem startRun_pwr (s : State) (r : Running) (c : Checks) (f : State → Running → Desc → State) (h : ∀ s r d, (f s r d).pwr = s.pwr) : (startRun s r c f).pwr = s.pwr := by unfold startRun; (repeat' split) <;> simp_all
@[simp] theorem startRun_ports (s : State) (r : Running) (c : Checks) (f : State → Running → Desc → State) (h : ∀ s r d, (f s r d).ports = s.ports) : (startRun s r c f).ports = s.ports := by unfold startRun; (repeat' split) <;> simp_all
@[simp] theorem startRun_tabs (s : State) (r : Running) (c : Checks) (f : State → Running → Desc → State) (h : ∀ s r d, (f s r d).tabs = s.tabs) : (startRun s r c f).tabs = s.tabs := by unfold startRun; (repeat' split) <;> simp_all
@[simp] theorem startRun_mapu (s : State) (r : Running) (c : Checks) (f : State → Running → Desc → State) (h : ∀ s r d, (f s r d).mapu = s.mapu) : (startRun s r c f).mapu = s.mapu := by unfold startRun; (repeat' split) <;> simp_all
@[simp] theorem startRun_cist (s : State) (r : Running) (c : Checks) (f : State → Running → Desc → State) (h : ∀ s r d, (f s r d).cist = s.cist) : (startRun s r c f).cist = s.cist := by unfold startRun; (repeat' split) <;> simp_all
@[simp] theorem startRun_cache (s : State) (r : Running) (c : Checks) (f : State → Running → Desc → State) (h : ∀ s r d, (f s r d).cache = s.cache) : (startRun s r c f).cache = s.cache := by unfold startRun; (repeat' split) <;> simp_all
@[simp] theorem startRun_med (s : State) (r : Running) (c : Checks) (f : State → Running → Desc → State) (h : ∀ s r d, (f s r d).med = s.med) : (startRun s r c f).med = s.med := by unfold startRun; (repeat' split) <;> simp_all
@[simp] theorem startRun_keys (s : State) (r : Running) (c : Checks) (f : State → Running → Desc → State) (h : ∀ s r d, (f s r d).keys = s.keys) : (startRun s r c f).keys = s.keys := by unfold startRun; (repeat' split) <;> simp_all
@[simp] theorem startRun_wear (s : State) (r : Running) (c : Checks) (f : State → Running → Desc → State) (h : ∀ s r d, (f s r d).wear = s.wear) : (startRun s r c f).wear = s.wear := by unfold startRun; (repeat' split) <;> simp_all
@[simp] theorem startRun_drift (s : State) (r : Running) (c : Checks) (f : State → Running → Desc → State) (h : ∀ s r d, (f s r d).drift = s.drift) : (startRun s r c f).drift = s.drift := by unfold startRun; (repeat' split) <;> simp_all
@[simp] theorem startRun_pair (s : State) (r : Running) (c : Checks) (f : State → Running → Desc → State) (h : ∀ s r d, (f s r d).pair = s.pair) : (startRun s r c f).pair = s.pair := by unfold startRun; (repeat' split) <;> simp_all
@[simp] theorem startRun_flt (s : State) (r : Running) (c : Checks) (f : State → Running → Desc → State) (h : ∀ s r d, (f s r d).flt = s.flt) : (startRun s r c f).flt = s.flt := by unfold startRun; (repeat' split) <;> simp_all
@[simp] theorem startRun_ag (s : State) (r : Running) (c : Checks) (f : State → Running → Desc → State) (h : ∀ s r d, (f s r d).ag = s.ag) : (startRun s r c f).ag = s.ag := by unfold startRun; (repeat' split) <;> simp_all
@[simp] theorem startRun_qz (s : State) (r : Running) (c : Checks) (f : State → Running → Desc → State) (h : ∀ s r d, (f s r d).qz = s.qz) : (startRun s r c f).qz = s.qz := by unfold startRun; (repeat' split) <;> simp_all
@[simp] theorem startRun_zir (s : State) (r : Running) (c : Checks) (f : State → Running → Desc → State) (h : ∀ s r d, (f s r d).zir = s.zir) : (startRun s r c f).zir = s.zir := by unfold startRun; (repeat' split) <;> simp_all
@[simp] theorem startRun_th (s : State) (r : Running) (c : Checks) (f : State → Running → Desc → State) (h : ∀ s r d, (f s r d).th = s.th) : (startRun s r c f).th = s.th := by unfold startRun; (repeat' split) <;> simp_all
@[simp] theorem startRun_beryl (s : State) (r : Running) (c : Checks) (f : State → Running → Desc → State) (h : ∀ s r d, (f s r d).beryl = s.beryl) : (startRun s r c f).beryl = s.beryl := by unfold startRun; (repeat' split) <;> simp_all
@[simp] theorem startRun_sec (s : State) (r : Running) (c : Checks) (f : State → Running → Desc → State) (h : ∀ s r d, (f s r d).sec = s.sec) : (startRun s r c f).sec = s.sec := by unfold startRun; (repeat' split) <;> simp_all

@[simp] theorem cmdRow_pending (s : State) (a : Nat) (b : BitVec 16) (o : Nat) (sel : Desc → Bool) (c : State → Running → Desc → Checks) (f : State → Running → Desc → State) (h : ∀ s r d, (f s r d).pending = s.pending) : (cmdRow s a b o sel c f).pending = s.pending := by unfold cmdRow; (repeat' split) <;> simp_all
@[simp] theorem cmdRow_th (s : State) (a : Nat) (b : BitVec 16) (o : Nat) (sel : Desc → Bool) (c : State → Running → Desc → Checks) (f : State → Running → Desc → State) (h : ∀ s r d, (f s r d).th = s.th) : (cmdRow s a b o sel c f).th = s.th := by unfold cmdRow; (repeat' split) <;> simp_all

@[simp] theorem finishOut_keeps (s : Sys2Proof.Machine.State) (a : Running) (b : Desc) (c : List (BitVec 8)) (d : ℕ) (e : Bool) : (finishOut s a b c
    d e).pending = s.pending ∧ (finishOut s a b c d e).freeCtr = s.freeCtr ∧ (finishOut s a b c d e).req = s.req ∧ (finishOut s a b c d e).pwr =
    s.pwr ∧ (finishOut s a b c d e).ports = s.ports ∧ (finishOut s a b c d e).tabs = s.tabs ∧ (finishOut s a b c d e).mapu = s.mapu ∧ (finishOut s a
    b c d e).cist = s.cist ∧ (finishOut s a b c d e).cache = s.cache ∧ (finishOut s a b c d e).med = s.med ∧ (finishOut s a b c d e).keys = s.keys ∧
    (finishOut s a b c d e).wear = s.wear ∧ (finishOut s a b c d e).drift = s.drift ∧ (finishOut s a b c d e).pair = s.pair ∧ (finishOut s a b c d
    e).flt = s.flt ∧ (finishOut s a b c d e).ag = s.ag ∧ (finishOut s a b c d e).qz = s.qz ∧ (finishOut s a b c d e).zir = s.zir ∧ (finishOut s a b
    c d e).th = s.th ∧ (finishOut s a b c d e).beryl = s.beryl ∧ (finishOut s a b c d e).sec = s.sec := by
  first
  | (simp [finishOut]; done)
  | (unfold finishOut; (try simp only []); (repeat' split) <;> (try intro ht) <;> (simp_all; done); done)

@[simp] theorem sliceWrite_keeps (s : Sys2Proof.Machine.State) (a : WaitW) : (sliceWrite s a).pending = s.pending ∧ (sliceWrite s a).keys = s.keys ∧
    (sliceWrite s a).th = s.th ∧ (sliceWrite s a).sec = s.sec := by
  first
  | (simp [sliceWrite]; done)
  | (unfold sliceWrite; (try simp only []); (repeat' split) <;> (try intro ht) <;> (simp_all; done); done)

@[simp] theorem forwardWrite_keeps (s : Sys2Proof.Machine.State) (a : Sys2Proof.Port) (b : ℕ) (c : ℕ) (d : Bool) (e : Sys2Proof.Enables) (f :
    Sys2Proof.Line) : (forwardWrite s a b c d e f).pending = s.pending ∧ (forwardWrite s a b c d e f).freeCtr = s.freeCtr ∧ (forwardWrite s a b c d
    e f).regs = s.regs ∧ (forwardWrite s a b c d e f).req = s.req ∧ (forwardWrite s a b c d e f).pwr = s.pwr ∧ (forwardWrite s a b c d e f).ports =
    s.ports ∧ (forwardWrite s a b c d e f).rings = s.rings ∧ (forwardWrite s a b c d e f).cmds = s.cmds ∧ (forwardWrite s a b c d e f).tabs = s.tabs
    ∧ (forwardWrite s a b c d e f).mapu = s.mapu ∧ (forwardWrite s a b c d e f).cist = s.cist ∧ (forwardWrite s a b c d e f).cache = s.cache ∧
    (forwardWrite s a b c d e f).med = s.med ∧ (forwardWrite s a b c d e f).keys = s.keys ∧ (forwardWrite s a b c d e f).wear = s.wear ∧
    (forwardWrite s a b c d e f).drift = s.drift ∧ (forwardWrite s a b c d e f).flt = s.flt ∧ (forwardWrite s a b c d e f).ag = s.ag ∧ (forwardWrite
    s a b c d e f).qz = s.qz ∧ (forwardWrite s a b c d e f).zir = s.zir ∧ (forwardWrite s a b c d e f).th = s.th ∧ (forwardWrite s a b c d e
    f).beryl = s.beryl ∧ (forwardWrite s a b c d e f).sec = s.sec := by
  first
  | (simp [forwardWrite]; done)
  | (unfold forwardWrite; (try simp only []); (repeat' split) <;> (try intro ht) <;> ((try (have p := congrArg Prod.fst ‹_ = (_, _)›; simp only [] at p; subst p)); (try (first | (injection ht with ht; subst ht; simp_all; done) | (subst ht; simp_all; done) | (subst_vars; simp_all; done) | simp_all))); done)

@[simp] theorem routeWrite_keeps (s : Sys2Proof.Machine.State) (a : Sys2Proof.Port) (b : ℕ) (c : ℕ) (d : Bool) (e : Sys2Proof.Enables) (f :
    Sys2Proof.Line) : (routeWrite s a b c d e f).pending = s.pending ∧ (routeWrite s a b c d e f).keys = s.keys ∧ (routeWrite s a b c d e f).th =
    s.th ∧ (routeWrite s a b c d e f).sec = s.sec := by
  first
  | (simp [routeWrite]; done)
  | (unfold routeWrite; (try simp only []); (repeat' split) <;> (try intro ht) <;> (simp_all; done); done)

@[simp] theorem releaseHeld_keeps (s : Sys2Proof.Machine.State) : (releaseHeld s).pending = s.pending ∧ (releaseHeld s).keys = s.keys ∧ (releaseHeld
    s).th = s.th ∧ (releaseHeld s).sec = s.sec := by
  first
  | (simp [releaseHeld]; done)
  | (unfold releaseHeld; (try simp only []); (repeat' split) <;> (try intro ht) <;> (simp_all; done); done)

@[simp] theorem switchHomes_keeps (s : Sys2Proof.Machine.State) (a : Bool) : (switchHomes s a).pending = s.pending ∧ (switchHomes s a).keys = s.keys
    ∧ (switchHomes s a).th = s.th ∧ (switchHomes s a).sec = s.sec := by
  first
  | (simp [switchHomes]; done)
  | (unfold switchHomes; (try simp only []); (repeat' split) <;> (try intro ht) <;> (simp_all; done); done)

@[simp] theorem clearJoin_keeps (s : Sys2Proof.Machine.State) : (clearJoin s).pending = s.pending ∧ (clearJoin s).out = s.out ∧ (clearJoin
    s).freeCtr = s.freeCtr ∧ (clearJoin s).regs = s.regs ∧ (clearJoin s).req = s.req ∧ (clearJoin s).pwr = s.pwr ∧ (clearJoin s).ports = s.ports ∧
    (clearJoin s).rings = s.rings ∧ (clearJoin s).cmds = s.cmds ∧ (clearJoin s).tabs = s.tabs ∧ (clearJoin s).mapu = s.mapu ∧ (clearJoin s).cist =
    s.cist ∧ (clearJoin s).cache = s.cache ∧ (clearJoin s).med = s.med ∧ (clearJoin s).keys = s.keys ∧ (clearJoin s).wear = s.wear ∧ (clearJoin
    s).drift = s.drift ∧ (clearJoin s).flt = s.flt ∧ (clearJoin s).ag = s.ag ∧ (clearJoin s).qz = s.qz ∧ (clearJoin s).zir = s.zir ∧ (clearJoin
    s).th = s.th ∧ (clearJoin s).beryl = s.beryl ∧ (clearJoin s).sec = s.sec := by
  first
  | (simp [clearJoin]; done)
  | (unfold clearJoin; (try simp only []); (repeat' split) <;> (try intro ht) <;> (simp_all; done); done)

@[simp] theorem reachJoined_keeps (s : Sys2Proof.Machine.State) : (reachJoined s).pending = s.pending ∧ (reachJoined s).out = s.out ∧ (reachJoined
    s).freeCtr = s.freeCtr ∧ (reachJoined s).regs = s.regs ∧ (reachJoined s).req = s.req ∧ (reachJoined s).ports = s.ports ∧ (reachJoined s).rings =
    s.rings ∧ (reachJoined s).cmds = s.cmds ∧ (reachJoined s).tabs = s.tabs ∧ (reachJoined s).mapu = s.mapu ∧ (reachJoined s).cist = s.cist ∧
    (reachJoined s).cache = s.cache ∧ (reachJoined s).med = s.med ∧ (reachJoined s).keys = s.keys ∧ (reachJoined s).wear = s.wear ∧ (reachJoined
    s).drift = s.drift ∧ (reachJoined s).pair = s.pair ∧ (reachJoined s).flt = s.flt ∧ (reachJoined s).ag = s.ag ∧ (reachJoined s).qz = s.qz ∧
    (reachJoined s).zir = s.zir ∧ (reachJoined s).th = s.th ∧ (reachJoined s).beryl = s.beryl ∧ (reachJoined s).sec = s.sec := by
  first
  | (simp [reachJoined]; done)
  | (unfold reachJoined; (try simp only []); (repeat' split) <;> (try intro ht) <;> (simp_all; done); done)

@[simp] theorem joinEnded_keeps (s : Sys2Proof.Machine.State) : (joinEnded s).pending = s.pending ∧ (joinEnded s).freeCtr = s.freeCtr ∧ (joinEnded
    s).req = s.req ∧ (joinEnded s).ports = s.ports ∧ (joinEnded s).tabs = s.tabs ∧ (joinEnded s).mapu = s.mapu ∧ (joinEnded s).cist = s.cist ∧
    (joinEnded s).cache = s.cache ∧ (joinEnded s).med = s.med ∧ (joinEnded s).keys = s.keys ∧ (joinEnded s).wear = s.wear ∧ (joinEnded s).drift =
    s.drift ∧ (joinEnded s).flt = s.flt ∧ (joinEnded s).ag = s.ag ∧ (joinEnded s).qz = s.qz ∧ (joinEnded s).zir = s.zir ∧ (joinEnded s).th = s.th ∧
    (joinEnded s).beryl = s.beryl ∧ (joinEnded s).sec = s.sec := by
  first
  | (simp [joinEnded]; done)
  | (unfold joinEnded; (try simp only []); (repeat' split) <;> (try intro ht) <;> (simp_all; done); done)

@[simp] theorem pairUp_keeps (s : Sys2Proof.Machine.State) : (pairUp s).pending = s.pending ∧ (pairUp s).freeCtr = s.freeCtr ∧ (pairUp s).tabs =
    s.tabs ∧ (pairUp s).cache = s.cache ∧ (pairUp s).med = s.med ∧ (pairUp s).keys = s.keys ∧ (pairUp s).wear = s.wear ∧ (pairUp s).drift = s.drift
    ∧ (pairUp s).zir = s.zir ∧ (pairUp s).th = s.th ∧ (pairUp s).sec = s.sec := by
  first
  | (simp [pairUp]; done)
  | (unfold pairUp; (try simp only []); (repeat' split) <;> (try intro ht) <;> (simp_all; done); done)

@[simp] theorem giveSwitch.toPaired_keeps (s : Sys2Proof.Machine.State) : (giveSwitch.toPaired s).pending = s.pending ∧ (giveSwitch.toPaired
    s).freeCtr = s.freeCtr ∧ (giveSwitch.toPaired s).tabs = s.tabs ∧ (giveSwitch.toPaired s).cache = s.cache ∧ (giveSwitch.toPaired s).med = s.med ∧
    (giveSwitch.toPaired s).keys = s.keys ∧ (giveSwitch.toPaired s).wear = s.wear ∧ (giveSwitch.toPaired s).drift = s.drift ∧ (giveSwitch.toPaired
    s).zir = s.zir ∧ (giveSwitch.toPaired s).th = s.th ∧ (giveSwitch.toPaired s).sec = s.sec := by
  first
  | (simp [giveSwitch.toPaired]; done)
  | (unfold giveSwitch.toPaired; (try simp only []); (repeat' split) <;> (try intro ht) <;> (simp_all; done); done)

@[simp] theorem giveSwitch.afterSync_keeps (s : Sys2Proof.Machine.State) : (giveSwitch.afterSync s).pending = s.pending ∧ (giveSwitch.afterSync
    s).freeCtr = s.freeCtr ∧ (giveSwitch.afterSync s).tabs = s.tabs ∧ (giveSwitch.afterSync s).cache = s.cache ∧ (giveSwitch.afterSync s).med =
    s.med ∧ (giveSwitch.afterSync s).keys = s.keys ∧ (giveSwitch.afterSync s).wear = s.wear ∧ (giveSwitch.afterSync s).drift = s.drift ∧
    (giveSwitch.afterSync s).zir = s.zir ∧ (giveSwitch.afterSync s).th = s.th ∧ (giveSwitch.afterSync s).sec = s.sec := by
  first
  | (simp [giveSwitch.afterSync]; done)
  | (unfold giveSwitch.afterSync; (try simp only []); (repeat' split) <;> (try intro ht) <;> (simp_all; done); done)

@[simp] theorem giveSwitch_keeps (s : Sys2Proof.Machine.State) : (giveSwitch s).pending = s.pending ∧ (giveSwitch s).keys = s.keys ∧ (giveSwitch
    s).th = s.th ∧ (giveSwitch s).sec = s.sec := by
  first
  | (simp [giveSwitch]; done)
  | (unfold giveSwitch; (try simp only []); (repeat' split) <;> (try intro ht) <;> (simp_all; done); done)

@[simp] theorem afterAcks_keeps (s : Sys2Proof.Machine.State) : (afterAcks s).pending = s.pending ∧ (afterAcks s).keys = s.keys ∧ (afterAcks s).th =
    s.th ∧ (afterAcks s).sec = s.sec := by
  first
  | (simp [afterAcks]; done)
  | (unfold afterAcks; (try simp only []); (repeat' split) <;> (try intro ht) <;> (simp_all; done); done)

@[simp] theorem replayAll_keeps (s : Sys2Proof.Machine.State) : (replayAll s).pending = s.pending ∧ (replayAll s).freeCtr = s.freeCtr ∧ (replayAll
    s).req = s.req ∧ (replayAll s).pwr = s.pwr ∧ (replayAll s).ports = s.ports ∧ (replayAll s).rings = s.rings ∧ (replayAll s).cmds = s.cmds ∧
    (replayAll s).tabs = s.tabs ∧ (replayAll s).mapu = s.mapu ∧ (replayAll s).cist = s.cist ∧ (replayAll s).cache = s.cache ∧ (replayAll s).med =
    s.med ∧ (replayAll s).keys = s.keys ∧ (replayAll s).wear = s.wear ∧ (replayAll s).drift = s.drift ∧ (replayAll s).flt = s.flt ∧ (replayAll s).ag
    = s.ag ∧ (replayAll s).qz = s.qz ∧ (replayAll s).zir = s.zir ∧ (replayAll s).th = s.th ∧ (replayAll s).beryl = s.beryl ∧ (replayAll s).sec =
    s.sec := by
  first
  | (simp [replayAll]; done)
  | (unfold replayAll; (try simp only []); (repeat' split) <;> (try intro ht) <;> (simp_all; done); done)

@[simp] theorem senseBoth_keeps (s : Sys2Proof.Machine.State) (a : ℕ) (b : ℕ) (c : Sys2Proof.SenseRes) (d : Sys2Proof.SenseRes) : (senseBoth s a b c
    d).1.pending = s.pending ∧ (senseBoth s a b c d).1.out = s.out ∧ (senseBoth s a b c d).1.req = s.req ∧ (senseBoth s a b c d).1.pwr = s.pwr ∧
    (senseBoth s a b c d).1.ports = s.ports ∧ (senseBoth s a b c d).1.rings = s.rings ∧ (senseBoth s a b c d).1.cmds = s.cmds ∧ (senseBoth s a b c
    d).1.tabs = s.tabs ∧ (senseBoth s a b c d).1.cist = s.cist ∧ (senseBoth s a b c d).1.cache = s.cache ∧ (senseBoth s a b c d).1.med = s.med ∧
    (senseBoth s a b c d).1.keys = s.keys ∧ (senseBoth s a b c d).1.pair = s.pair ∧ (senseBoth s a b c d).1.flt = s.flt ∧ (senseBoth s a b c d).1.ag
    = s.ag ∧ (senseBoth s a b c d).1.zir = s.zir ∧ (senseBoth s a b c d).1.th = s.th ∧ (senseBoth s a b c d).1.beryl = s.beryl ∧ (senseBoth s a b c
    d).1.sec = s.sec := by
  first
  | (simp [senseBoth]; done)
  | (unfold senseBoth; (try simp only []); (repeat' split) <;> (try intro ht) <;> (simp_all; done); done)

end Sys2Proof.Machine
end

