-- ==== Sys2Proof/Laws/FramesC.lean ====
section
/-! SUPPORT. What each shared operation leaves unchanged (part 3 of 4): `f_keeps` names every part of State that `f` does not touch,
for whatever state and operands. -/

set_option linter.all false
set_option Elab.async false

namespace Sys2Proof.Machine

@[simp] theorem senseMetaAs_keeps (s : Sys2Proof.Machine.State) (a : ℕ) (b : ℕ) (c : Bool) (d : Sys2Proof.SenseRes × Sys2Proof.SenseRes) (e : ℕ) (f
    : Attr) : (senseMetaAs s a b c d e f).1.pending = s.pending ∧ (senseMetaAs s a b c d e f).1.keys = s.keys ∧ (senseMetaAs s a b c d e f).1.th =
    s.th ∧ (senseMetaAs s a b c d e f).1.sec = s.sec := by
  first
  | (simp [senseMetaAs]; done)
  | (unfold senseMetaAs; (try simp only []); (repeat' split) <;> (try intro ht) <;> ((try (have p := congrArg Prod.fst ‹_ = (_, _)›; simp only [] at p; subst p)); (try (first | (injection ht with ht; subst ht; simp_all; done) | (subst ht; simp_all; done) | (subst_vars; simp_all; done) | simp_all))); done)

@[simp] theorem senseMeta_keeps (s : Sys2Proof.Machine.State) (a : ℕ) (b : ℕ) (c : ℕ) (d : Sys2Proof.SenseRes × Sys2Proof.SenseRes) (e : ℕ) (f :
    Attr) : (senseMeta s a b c d e f).1.pending = s.pending ∧ (senseMeta s a b c d e f).1.keys = s.keys ∧ (senseMeta s a b c d e f).1.th = s.th ∧
    (senseMeta s a b c d e f).1.sec = s.sec := by
  first
  | (simp [senseMeta]; done)
  | (unfold senseMeta; (try simp only []); (repeat' split) <;> (try intro ht) <;> ((try (have p := congrArg Prod.fst ‹_ = (_, _)›; simp only [] at p; subst p)); (try (first | (injection ht with ht; subst ht; simp_all; done) | (subst ht; simp_all; done) | (subst_vars; simp_all; done) | simp_all))); done)

theorem scrubMeta_keeps (s : Sys2Proof.Machine.State) (a : ℕ) (b : ℕ) (c : Sys2Proof.SenseRes) (d : Sys2Proof.SenseRes) : ∀ t, scrubMeta s a b c d =
    some t → t.pending = s.pending ∧ t.keys = s.keys ∧ t.th = s.th ∧ t.sec = s.sec := by
  intro t ht; first
  | (simp [scrubMeta]; done)
  | (unfold scrubMeta at ht; revert ht; (try simp only []); (repeat' split) <;> (try intro ht) <;> ((try (have p := congrArg Prod.fst ‹_ = (_, _)›; simp only [] at p; subst p)); (try (first | (injection ht with ht; subst ht; simp_all; done) | (subst ht; simp_all; done) | (subst_vars; simp_all; done) | simp_all))); done)

@[simp] theorem flagThermal_keeps (s : Sys2Proof.Machine.State) (a : ℕ) : (flagThermal s a).pending = s.pending ∧ (flagThermal s a).out = s.out ∧
    (flagThermal s a).freeCtr = s.freeCtr ∧ (flagThermal s a).req = s.req ∧ (flagThermal s a).pwr = s.pwr ∧ (flagThermal s a).ports = s.ports ∧
    (flagThermal s a).rings = s.rings ∧ (flagThermal s a).cmds = s.cmds ∧ (flagThermal s a).tabs = s.tabs ∧ (flagThermal s a).mapu = s.mapu ∧
    (flagThermal s a).cist = s.cist ∧ (flagThermal s a).cache = s.cache ∧ (flagThermal s a).med = s.med ∧ (flagThermal s a).keys = s.keys ∧
    (flagThermal s a).wear = s.wear ∧ (flagThermal s a).drift = s.drift ∧ (flagThermal s a).pair = s.pair ∧ (flagThermal s a).flt = s.flt ∧
    (flagThermal s a).ag = s.ag ∧ (flagThermal s a).qz = s.qz ∧ (flagThermal s a).zir = s.zir ∧ (flagThermal s a).th = s.th ∧ (flagThermal s
    a).beryl = s.beryl ∧ (flagThermal s a).sec = s.sec := by
  first
  | (simp [flagThermal]; done)
  | (unfold flagThermal; (try simp only []); (repeat' split) <;> (try intro ht) <;> (simp_all; done); done)

@[simp] theorem evalThermal_keeps (s : Sys2Proof.Machine.State) (a : ℕ) (b : ℤ) : (evalThermal s a b).pending = s.pending ∧ (evalThermal s a
    b).freeCtr = s.freeCtr ∧ (evalThermal s a b).tabs = s.tabs ∧ (evalThermal s a b).mapu = s.mapu ∧ (evalThermal s a b).cist = s.cist ∧
    (evalThermal s a b).cache = s.cache ∧ (evalThermal s a b).med = s.med ∧ (evalThermal s a b).keys = s.keys ∧ (evalThermal s a b).wear = s.wear ∧
    (evalThermal s a b).drift = s.drift ∧ (evalThermal s a b).qz = s.qz ∧ (evalThermal s a b).zir = s.zir ∧ (evalThermal s a b).sec = s.sec := by
  first
  | (simp [evalThermal]; done)
  | (unfold evalThermal; (try simp only []); (repeat' split) <;> (try intro ht) <;> (simp_all; done); done)

@[simp] theorem yelFailed_keeps (s : Sys2Proof.Machine.State) : (yelFailed s).pending = s.pending ∧ (yelFailed s).freeCtr = s.freeCtr ∧ (yelFailed
    s).tabs = s.tabs ∧ (yelFailed s).mapu = s.mapu ∧ (yelFailed s).cist = s.cist ∧ (yelFailed s).cache = s.cache ∧ (yelFailed s).med = s.med ∧
    (yelFailed s).keys = s.keys ∧ (yelFailed s).wear = s.wear ∧ (yelFailed s).drift = s.drift ∧ (yelFailed s).qz = s.qz ∧ (yelFailed s).zir = s.zir
    ∧ (yelFailed s).sec = s.sec := by
  first
  | (simp [yelFailed]; done)
  | (unfold yelFailed; (try simp only []); (repeat' split) <;> (try intro ht) <;> (simp_all; done); done)

@[simp] theorem recordTrip_keeps (s : Sys2Proof.Machine.State) (a : ℕ) (b : ℤ) : (recordTrip s a b).pending = s.pending ∧ (recordTrip s a b).freeCtr
    = s.freeCtr ∧ (recordTrip s a b).tabs = s.tabs ∧ (recordTrip s a b).mapu = s.mapu ∧ (recordTrip s a b).cist = s.cist ∧ (recordTrip s a b).cache
    = s.cache ∧ (recordTrip s a b).med = s.med ∧ (recordTrip s a b).keys = s.keys ∧ (recordTrip s a b).wear = s.wear ∧ (recordTrip s a b).drift =
    s.drift ∧ (recordTrip s a b).qz = s.qz ∧ (recordTrip s a b).zir = s.zir ∧ (recordTrip s a b).sec = s.sec := by
  first
  | (simp [recordTrip]; done)
  | (unfold recordTrip; (try simp only []); (repeat' split) <;> (try intro ht) <;> (simp_all; done); done)

@[simp] theorem flagPwr_keeps (s : Sys2Proof.Machine.State) (a : ℕ) : (flagPwr s a).pending = s.pending ∧ (flagPwr s a).out = s.out ∧ (flagPwr s
    a).freeCtr = s.freeCtr ∧ (flagPwr s a).req = s.req ∧ (flagPwr s a).pwr = s.pwr ∧ (flagPwr s a).ports = s.ports ∧ (flagPwr s a).rings = s.rings ∧
    (flagPwr s a).cmds = s.cmds ∧ (flagPwr s a).tabs = s.tabs ∧ (flagPwr s a).mapu = s.mapu ∧ (flagPwr s a).cist = s.cist ∧ (flagPwr s a).cache =
    s.cache ∧ (flagPwr s a).med = s.med ∧ (flagPwr s a).keys = s.keys ∧ (flagPwr s a).wear = s.wear ∧ (flagPwr s a).drift = s.drift ∧ (flagPwr s
    a).pair = s.pair ∧ (flagPwr s a).flt = s.flt ∧ (flagPwr s a).ag = s.ag ∧ (flagPwr s a).qz = s.qz ∧ (flagPwr s a).zir = s.zir ∧ (flagPwr s a).th
    = s.th ∧ (flagPwr s a).beryl = s.beryl ∧ (flagPwr s a).sec = s.sec := by
  first
  | (simp [flagPwr]; done)
  | (unfold flagPwr; (try simp only []); (repeat' split) <;> (try intro ht) <;> (simp_all; done); done)

@[simp] theorem downDom_keeps (s : Sys2Proof.Machine.State) (a : List ℕ) (b : ℕ) : (downDom s a b).pending = s.pending ∧ (downDom s a b).freeCtr =
    s.freeCtr ∧ (downDom s a b).tabs = s.tabs ∧ (downDom s a b).mapu = s.mapu ∧ (downDom s a b).cist = s.cist ∧ (downDom s a b).cache = s.cache ∧
    (downDom s a b).med = s.med ∧ (downDom s a b).keys = s.keys ∧ (downDom s a b).wear = s.wear ∧ (downDom s a b).drift = s.drift ∧ (downDom s a
    b).qz = s.qz ∧ (downDom s a b).zir = s.zir ∧ (downDom s a b).th = s.th ∧ (downDom s a b).sec = s.sec := by
  first
  | (simp [downDom]; done)
  | (unfold downDom; (try simp only []); (repeat' split) <;> (try intro ht) <;> (simp_all; done); done)

@[simp] theorem powerDown_keeps (s : Sys2Proof.Machine.State) (a : List ℕ) : (powerDown s a).pending = s.pending ∧ (powerDown s a).freeCtr =
    s.freeCtr ∧ (powerDown s a).keys = s.keys ∧ (powerDown s a).qz = s.qz ∧ (powerDown s a).th = s.th ∧ (powerDown s a).sec = s.sec := by
  first
  | (simp [powerDown]; done)
  | (unfold powerDown; (try simp only []); (repeat' split) <;> (try intro ht) <;> (simp_all; done); done)

@[simp] theorem tripAction_keeps (s : Sys2Proof.Machine.State) (a : List ℕ) : (tripAction s a).pending = s.pending ∧ (tripAction s a).freeCtr =
    s.freeCtr ∧ (tripAction s a).keys = s.keys ∧ (tripAction s a).th = s.th ∧ (tripAction s a).sec = s.sec := by
  first
  | (simp [tripAction]; done)
  | (unfold tripAction; (try simp only []); (repeat' split) <;> (try intro ht) <;> (simp_all; done); done)

@[simp] theorem thermalRise_keeps (s : Sys2Proof.Machine.State) (a : ℕ) (b : ℤ) : (thermalRise s a b).pending = s.pending ∧ (thermalRise s a
    b).freeCtr = s.freeCtr ∧ (thermalRise s a b).keys = s.keys ∧ (thermalRise s a b).qz = s.qz ∧ (thermalRise s a b).sec = s.sec := by
  first
  | (simp [thermalRise]; done)
  | (unfold thermalRise; (try simp only []); (repeat' split) <;> (try intro ht) <;> (simp_all; done); done)

@[simp] theorem checkShutdown_keeps (s : Sys2Proof.Machine.State) (a : ℕ) (b : ℤ) (c : Bool) (d : List ℕ) : (checkShutdown s a b c d).pending =
    s.pending ∧ (checkShutdown s a b c d).freeCtr = s.freeCtr ∧ (checkShutdown s a b c d).keys = s.keys ∧ (checkShutdown s a b c d).sec = s.sec := by
  first
  | (simp [checkShutdown]; done)
  | (unfold checkShutdown; (try simp only []); (repeat' split) <;> (try intro ht) <;> (simp_all; done); done)

@[simp] theorem trackCool_keeps (s : Sys2Proof.Machine.State) (a : ℤ) : (trackCool s a).pending = s.pending ∧ (trackCool s a).out = s.out ∧
    (trackCool s a).freeCtr = s.freeCtr ∧ (trackCool s a).regs = s.regs ∧ (trackCool s a).req = s.req ∧ (trackCool s a).ports = s.ports ∧ (trackCool
    s a).rings = s.rings ∧ (trackCool s a).cmds = s.cmds ∧ (trackCool s a).tabs = s.tabs ∧ (trackCool s a).mapu = s.mapu ∧ (trackCool s a).cist =
    s.cist ∧ (trackCool s a).cache = s.cache ∧ (trackCool s a).med = s.med ∧ (trackCool s a).keys = s.keys ∧ (trackCool s a).wear = s.wear ∧
    (trackCool s a).drift = s.drift ∧ (trackCool s a).pair = s.pair ∧ (trackCool s a).flt = s.flt ∧ (trackCool s a).ag = s.ag ∧ (trackCool s a).qz =
    s.qz ∧ (trackCool s a).zir = s.zir ∧ (trackCool s a).th = s.th ∧ (trackCool s a).beryl = s.beryl ∧ (trackCool s a).sec = s.sec := by
  first
  | (simp [trackCool]; done)
  | (unfold trackCool; (try simp only []); (repeat' split) <;> (try intro ht) <;> (simp_all; done); done)

@[simp] theorem startTask_keeps (s : Sys2Proof.Machine.State) (a : ℕ) (b : BitVec 512) (c : Bool) (d : List ℕ) : (startTask s a b c d).pending =
    s.pending ∧ (startTask s a b c d).th = s.th ∧ (startTask s a b c d).sec = s.sec := by
  first
  | (simp [startTask]; done)
  | (unfold startTask; (try simp only []); (repeat' split) <;> (try intro ht) <;> (simp_all; done); done)

@[simp] theorem startWaiting_keeps (s : Sys2Proof.Machine.State) : (startWaiting s).pending = s.pending ∧ (startWaiting s).th = s.th ∧ (startWaiting
    s).sec = s.sec := by
  first
  | (simp [startWaiting]; done)
  | (unfold startWaiting; (try simp only []); (repeat' split) <;> (try intro ht) <;> (simp_all; done); done)

@[simp] theorem takeAllHomes_keeps (s : Sys2Proof.Machine.State) : (takeAllHomes s).pending = s.pending ∧ (takeAllHomes s).th = s.th := by
  first
  | (simp [takeAllHomes]; done)
  | (unfold takeAllHomes; (try simp only []); (repeat' split) <;> (try intro ht) <;> (simp_all; done); done)

@[simp] theorem eventReadRun_keeps (a : Bool) (s : Sys2Proof.Machine.State) (b : Running) (c : Desc) : (eventReadRun a s b c).pending = s.pending ∧
    (eventReadRun a s b c).freeCtr = s.freeCtr ∧ (eventReadRun a s b c).req = s.req ∧ (eventReadRun a s b c).pwr = s.pwr ∧ (eventReadRun a s b
    c).ports = s.ports ∧ (eventReadRun a s b c).tabs = s.tabs ∧ (eventReadRun a s b c).mapu = s.mapu ∧ (eventReadRun a s b c).cist = s.cist ∧
    (eventReadRun a s b c).cache = s.cache ∧ (eventReadRun a s b c).med = s.med ∧ (eventReadRun a s b c).keys = s.keys ∧ (eventReadRun a s b c).wear
    = s.wear ∧ (eventReadRun a s b c).drift = s.drift ∧ (eventReadRun a s b c).pair = s.pair ∧ (eventReadRun a s b c).flt = s.flt ∧ (eventReadRun a
    s b c).ag = s.ag ∧ (eventReadRun a s b c).qz = s.qz ∧ (eventReadRun a s b c).zir = s.zir ∧ (eventReadRun a s b c).th = s.th ∧ (eventReadRun a s
    b c).beryl = s.beryl ∧ (eventReadRun a s b c).sec = s.sec := by
  first
  | (simp [eventReadRun]; done)
  | (unfold eventReadRun; (try simp only []); (repeat' split) <;> (try intro ht) <;> (simp_all; done); done)

@[simp] theorem applyRetired_keeps (s : Sys2Proof.Machine.State) : (applyRetired s).pending = s.pending ∧ (applyRetired s).out = s.out ∧
    (applyRetired s).freeCtr = s.freeCtr ∧ (applyRetired s).regs = s.regs ∧ (applyRetired s).req = s.req ∧ (applyRetired s).pwr = s.pwr ∧
    (applyRetired s).ports = s.ports ∧ (applyRetired s).rings = s.rings ∧ (applyRetired s).cmds = s.cmds ∧ (applyRetired s).tabs = s.tabs ∧
    (applyRetired s).mapu = s.mapu ∧ (applyRetired s).cist = s.cist ∧ (applyRetired s).med = s.med ∧ (applyRetired s).keys = s.keys ∧ (applyRetired
    s).wear = s.wear ∧ (applyRetired s).pair = s.pair ∧ (applyRetired s).flt = s.flt ∧ (applyRetired s).ag = s.ag ∧ (applyRetired s).qz = s.qz ∧
    (applyRetired s).zir = s.zir ∧ (applyRetired s).th = s.th ∧ (applyRetired s).beryl = s.beryl ∧ (applyRetired s).sec = s.sec := by
  first
  | (simp [applyRetired]; done)
  | (unfold applyRetired; (try simp only []); (repeat' split) <;> (try intro ht) <;> (simp_all; done); done)

@[simp] theorem flagSec_keeps (s : Sys2Proof.Machine.State) (a : ℕ) : (flagSec s a).pending = s.pending ∧ (flagSec s a).out = s.out ∧ (flagSec s
    a).freeCtr = s.freeCtr ∧ (flagSec s a).req = s.req ∧ (flagSec s a).pwr = s.pwr ∧ (flagSec s a).ports = s.ports ∧ (flagSec s a).rings = s.rings ∧
    (flagSec s a).cmds = s.cmds ∧ (flagSec s a).tabs = s.tabs ∧ (flagSec s a).mapu = s.mapu ∧ (flagSec s a).cist = s.cist ∧ (flagSec s a).cache =
    s.cache ∧ (flagSec s a).med = s.med ∧ (flagSec s a).keys = s.keys ∧ (flagSec s a).wear = s.wear ∧ (flagSec s a).drift = s.drift ∧ (flagSec s
    a).pair = s.pair ∧ (flagSec s a).flt = s.flt ∧ (flagSec s a).ag = s.ag ∧ (flagSec s a).qz = s.qz ∧ (flagSec s a).zir = s.zir ∧ (flagSec s a).th
    = s.th ∧ (flagSec s a).beryl = s.beryl ∧ (flagSec s a).sec = s.sec := by
  first
  | (simp [flagSec]; done)
  | (unfold flagSec; (try simp only []); (repeat' split) <;> (try intro ht) <;> (simp_all; done); done)

@[simp] theorem imageFailed_keeps (s : Sys2Proof.Machine.State) (a : ℕ) (b : Sys2Proof.Image) : (imageFailed s a b).pending = s.pending ∧
    (imageFailed s a b).freeCtr = s.freeCtr ∧ (imageFailed s a b).tabs = s.tabs ∧ (imageFailed s a b).mapu = s.mapu ∧ (imageFailed s a b).cist =
    s.cist ∧ (imageFailed s a b).cache = s.cache ∧ (imageFailed s a b).med = s.med ∧ (imageFailed s a b).keys = s.keys ∧ (imageFailed s a b).wear =
    s.wear ∧ (imageFailed s a b).drift = s.drift ∧ (imageFailed s a b).qz = s.qz ∧ (imageFailed s a b).zir = s.zir ∧ (imageFailed s a b).th = s.th ∧
    (imageFailed s a b).sec = s.sec := by
  first
  | (simp [imageFailed]; done)
  | (unfold imageFailed; (try simp only []); (repeat' split) <;> (try intro ht) <;> (simp_all; done); done)

@[simp] theorem selectImage_keeps (s : Sys2Proof.Machine.State) : (selectImage s).pending = s.pending ∧ (selectImage s).freeCtr = s.freeCtr ∧
    (selectImage s).tabs = s.tabs ∧ (selectImage s).mapu = s.mapu ∧ (selectImage s).cist = s.cist ∧ (selectImage s).cache = s.cache ∧ (selectImage
    s).med = s.med ∧ (selectImage s).keys = s.keys ∧ (selectImage s).wear = s.wear ∧ (selectImage s).drift = s.drift ∧ (selectImage s).qz = s.qz ∧
    (selectImage s).zir = s.zir ∧ (selectImage s).th = s.th := by
  first
  | (simp [selectImage]; done)
  | (unfold selectImage; (try simp only []); (repeat' split) <;> (try intro ht) <;> (simp_all; done); done)

@[simp] theorem loadField_keeps (s : Sys2Proof.Machine.State) (a : Blk) (b : ℕ) (c : FieldT) (d : ℕ) : (loadField s a b c d).pending = s.pending ∧
    (loadField s a b c d).out = s.out ∧ (loadField s a b c d).freeCtr = s.freeCtr ∧ (loadField s a b c d).req = s.req ∧ (loadField s a b c d).pwr =
    s.pwr ∧ (loadField s a b c d).ports = s.ports ∧ (loadField s a b c d).rings = s.rings ∧ (loadField s a b c d).cmds = s.cmds ∧ (loadField s a b c
    d).tabs = s.tabs ∧ (loadField s a b c d).mapu = s.mapu ∧ (loadField s a b c d).cist = s.cist ∧ (loadField s a b c d).cache = s.cache ∧
    (loadField s a b c d).med = s.med ∧ (loadField s a b c d).keys = s.keys ∧ (loadField s a b c d).wear = s.wear ∧ (loadField s a b c d).drift =
    s.drift ∧ (loadField s a b c d).pair = s.pair ∧ (loadField s a b c d).flt = s.flt ∧ (loadField s a b c d).ag = s.ag ∧ (loadField s a b c d).qz =
    s.qz ∧ (loadField s a b c d).zir = s.zir ∧ (loadField s a b c d).th = s.th ∧ (loadField s a b c d).beryl = s.beryl ∧ (loadField s a b c d).sec =
    s.sec := by
  first
  | (simp [loadField]; done)
  | (unfold loadField; (try simp only []); (repeat' split) <;> (try intro ht) <;> (simp_all; done); done)

@[simp] theorem loadStored_keeps (s : Sys2Proof.Machine.State) (a : Blk) (b : ℕ) : (loadStored s a b).pending = s.pending ∧ (loadStored s a b).out =
    s.out ∧ (loadStored s a b).freeCtr = s.freeCtr ∧ (loadStored s a b).req = s.req ∧ (loadStored s a b).pwr = s.pwr ∧ (loadStored s a b).ports =
    s.ports ∧ (loadStored s a b).rings = s.rings ∧ (loadStored s a b).cmds = s.cmds ∧ (loadStored s a b).tabs = s.tabs ∧ (loadStored s a b).mapu =
    s.mapu ∧ (loadStored s a b).cist = s.cist ∧ (loadStored s a b).cache = s.cache ∧ (loadStored s a b).med = s.med ∧ (loadStored s a b).keys =
    s.keys ∧ (loadStored s a b).wear = s.wear ∧ (loadStored s a b).drift = s.drift ∧ (loadStored s a b).pair = s.pair ∧ (loadStored s a b).flt =
    s.flt ∧ (loadStored s a b).ag = s.ag ∧ (loadStored s a b).qz = s.qz ∧ (loadStored s a b).zir = s.zir ∧ (loadStored s a b).th = s.th ∧
    (loadStored s a b).beryl = s.beryl ∧ (loadStored s a b).sec = s.sec := by
  first
  | (simp [loadStored]; done)
  | (unfold loadStored; (try simp only []); (repeat' split) <;> (try intro ht) <;> (simp_all; done); done)

@[simp] theorem readFuses_keeps (s : Sys2Proof.Machine.State) : (readFuses s).pending = s.pending ∧ (readFuses s).out = s.out ∧ (readFuses s).regs =
    s.regs ∧ (readFuses s).req = s.req ∧ (readFuses s).pwr = s.pwr ∧ (readFuses s).ports = s.ports ∧ (readFuses s).rings = s.rings ∧ (readFuses
    s).cmds = s.cmds ∧ (readFuses s).tabs = s.tabs ∧ (readFuses s).mapu = s.mapu ∧ (readFuses s).cist = s.cist ∧ (readFuses s).cache = s.cache ∧
    (readFuses s).med = s.med ∧ (readFuses s).keys = s.keys ∧ (readFuses s).wear = s.wear ∧ (readFuses s).drift = s.drift ∧ (readFuses s).pair =
    s.pair ∧ (readFuses s).flt = s.flt ∧ (readFuses s).ag = s.ag ∧ (readFuses s).qz = s.qz ∧ (readFuses s).zir = s.zir ∧ (readFuses s).th = s.th ∧
    (readFuses s).beryl = s.beryl := by
  first
  | (simp [readFuses]; done)
  | (unfold readFuses; (try simp only []); (repeat' split) <;> (try intro ht) <;> (simp_all; done); done)

@[simp] theorem dirtyClass_keeps (s : Sys2Proof.Machine.State) : (dirtyClass s).pending = s.pending ∧ (dirtyClass s).out = s.out ∧ (dirtyClass
    s).freeCtr = s.freeCtr ∧ (dirtyClass s).regs = s.regs ∧ (dirtyClass s).req = s.req ∧ (dirtyClass s).pwr = s.pwr ∧ (dirtyClass s).ports = s.ports
    ∧ (dirtyClass s).rings = s.rings ∧ (dirtyClass s).cmds = s.cmds ∧ (dirtyClass s).tabs = s.tabs ∧ (dirtyClass s).cist = s.cist ∧ (dirtyClass
    s).cache = s.cache ∧ (dirtyClass s).med = s.med ∧ (dirtyClass s).keys = s.keys ∧ (dirtyClass s).wear = s.wear ∧ (dirtyClass s).drift = s.drift ∧
    (dirtyClass s).pair = s.pair ∧ (dirtyClass s).flt = s.flt ∧ (dirtyClass s).ag = s.ag ∧ (dirtyClass s).qz = s.qz ∧ (dirtyClass s).zir = s.zir ∧
    (dirtyClass s).th = s.th ∧ (dirtyClass s).beryl = s.beryl ∧ (dirtyClass s).sec = s.sec := by
  first
  | (simp [dirtyClass]; done)
  | (unfold dirtyClass; (try simp only []); (repeat' split) <;> (try intro ht) <;> (simp_all; done); done)

@[simp] theorem startUnit_keeps (s : Sys2Proof.Machine.State) : (startUnit s).pending = s.pending ∧ (startUnit s).freeCtr = s.freeCtr ∧ (startUnit
    s).req = s.req ∧ (startUnit s).ports = s.ports ∧ (startUnit s).tabs = s.tabs ∧ (startUnit s).cist = s.cist ∧ (startUnit s).cache = s.cache ∧
    (startUnit s).med = s.med ∧ (startUnit s).keys = s.keys ∧ (startUnit s).wear = s.wear ∧ (startUnit s).pair = s.pair ∧ (startUnit s).flt = s.flt
    ∧ (startUnit s).qz = s.qz ∧ (startUnit s).zir = s.zir ∧ (startUnit s).th = s.th ∧ (startUnit s).sec = s.sec := by
  first
  | (simp [startUnit]; done)
  | (unfold startUnit; (try simp only []); (repeat' split) <;> (try intro ht) <;> (simp_all; done); done)

@[simp] theorem resumeClocks_keeps (s : Sys2Proof.Machine.State) : (resumeClocks s).pending = s.pending ∧ (resumeClocks s).out = s.out ∧
    (resumeClocks s).freeCtr = s.freeCtr ∧ (resumeClocks s).regs = s.regs ∧ (resumeClocks s).req = s.req ∧ (resumeClocks s).pwr = s.pwr ∧
    (resumeClocks s).ports = s.ports ∧ (resumeClocks s).rings = s.rings ∧ (resumeClocks s).cmds = s.cmds ∧ (resumeClocks s).tabs = s.tabs ∧
    (resumeClocks s).mapu = s.mapu ∧ (resumeClocks s).cist = s.cist ∧ (resumeClocks s).cache = s.cache ∧ (resumeClocks s).med = s.med ∧
    (resumeClocks s).keys = s.keys ∧ (resumeClocks s).wear = s.wear ∧ (resumeClocks s).pair = s.pair ∧ (resumeClocks s).flt = s.flt ∧ (resumeClocks
    s).ag = s.ag ∧ (resumeClocks s).qz = s.qz ∧ (resumeClocks s).zir = s.zir ∧ (resumeClocks s).th = s.th ∧ (resumeClocks s).beryl = s.beryl ∧
    (resumeClocks s).sec = s.sec := by
  first
  | (simp [resumeClocks]; done)
  | (unfold resumeClocks; (try simp only []); (repeat' split) <;> (try intro ht) <;> (simp_all; done); done)

@[simp] theorem loadPlan_keeps (s : Sys2Proof.Machine.State) : (loadPlan s).pending = s.pending ∧ (loadPlan s).out = s.out ∧ (loadPlan s).freeCtr =
    s.freeCtr ∧ (loadPlan s).regs = s.regs ∧ (loadPlan s).req = s.req ∧ (loadPlan s).ports = s.ports ∧ (loadPlan s).rings = s.rings ∧ (loadPlan
    s).cmds = s.cmds ∧ (loadPlan s).tabs = s.tabs ∧ (loadPlan s).mapu = s.mapu ∧ (loadPlan s).cache = s.cache ∧ (loadPlan s).med = s.med ∧ (loadPlan
    s).keys = s.keys ∧ (loadPlan s).wear = s.wear ∧ (loadPlan s).pair = s.pair ∧ (loadPlan s).flt = s.flt ∧ (loadPlan s).ag = s.ag ∧ (loadPlan s).qz
    = s.qz ∧ (loadPlan s).th = s.th ∧ (loadPlan s).beryl = s.beryl ∧ (loadPlan s).sec = s.sec := by
  first
  | (simp [loadPlan]; done)
  | (unfold loadPlan; (try simp only []); (repeat' split) <;> (try intro ht) <;> (simp_all; done); done)

@[simp] theorem bootThermal_keeps (s : Sys2Proof.Machine.State) : (bootThermal s).pending = s.pending ∧ (bootThermal s).out = s.out ∧ (bootThermal
    s).freeCtr = s.freeCtr ∧ (bootThermal s).regs = s.regs ∧ (bootThermal s).req = s.req ∧ (bootThermal s).pwr = s.pwr ∧ (bootThermal s).ports =
    s.ports ∧ (bootThermal s).rings = s.rings ∧ (bootThermal s).cmds = s.cmds ∧ (bootThermal s).tabs = s.tabs ∧ (bootThermal s).mapu = s.mapu ∧
    (bootThermal s).cist = s.cist ∧ (bootThermal s).cache = s.cache ∧ (bootThermal s).med = s.med ∧ (bootThermal s).keys = s.keys ∧ (bootThermal
    s).wear = s.wear ∧ (bootThermal s).drift = s.drift ∧ (bootThermal s).pair = s.pair ∧ (bootThermal s).flt = s.flt ∧ (bootThermal s).ag = s.ag ∧
    (bootThermal s).qz = s.qz ∧ (bootThermal s).zir = s.zir ∧ (bootThermal s).beryl = s.beryl ∧ (bootThermal s).sec = s.sec := by
  first
  | (simp [bootThermal]; done)
  | (unfold bootThermal; (try simp only []); (repeat' split) <;> (try intro ht) <;> (simp_all; done); done)

@[simp] theorem enterBoot_keeps (s : Sys2Proof.Machine.State) (a : Bool) : (enterBoot s a).pending = s.pending ∧ (enterBoot s a).tabs = s.tabs ∧
    (enterBoot s a).cache = s.cache ∧ (enterBoot s a).med = s.med ∧ (enterBoot s a).keys = s.keys ∧ (enterBoot s a).wear = s.wear := by
  first
  | (simp [enterBoot]; done)
  | (unfold enterBoot; (try simp only []); (repeat' split) <;> (try intro ht) <;> (simp_all; done); done)

@[simp] theorem setFrame_keeps (s : Sys2Proof.Machine.State) (a : ℕ) (b : ℕ) (c : Frame) : (setFrame s a b c).pending = s.pending ∧ (setFrame s a b
    c).out = s.out ∧ (setFrame s a b c).freeCtr = s.freeCtr ∧ (setFrame s a b c).regs = s.regs ∧ (setFrame s a b c).req = s.req ∧ (setFrame s a b
    c).pwr = s.pwr ∧ (setFrame s a b c).ports = s.ports ∧ (setFrame s a b c).rings = s.rings ∧ (setFrame s a b c).cmds = s.cmds ∧ (setFrame s a b
    c).tabs = s.tabs ∧ (setFrame s a b c).mapu = s.mapu ∧ (setFrame s a b c).cist = s.cist ∧ (setFrame s a b c).cache = s.cache ∧ (setFrame s a b
    c).keys = s.keys ∧ (setFrame s a b c).wear = s.wear ∧ (setFrame s a b c).drift = s.drift ∧ (setFrame s a b c).pair = s.pair ∧ (setFrame s a b
    c).flt = s.flt ∧ (setFrame s a b c).ag = s.ag ∧ (setFrame s a b c).qz = s.qz ∧ (setFrame s a b c).zir = s.zir ∧ (setFrame s a b c).th = s.th ∧
    (setFrame s a b c).beryl = s.beryl ∧ (setFrame s a b c).sec = s.sec := by
  first
  | (simp [setFrame]; done)
  | (unfold setFrame; (try simp only []); (repeat' split) <;> (try intro ht) <;> (simp_all; done); done)

@[simp] theorem setMemActive_keeps (s : Sys2Proof.Machine.State) : (setMemActive s).pending = s.pending ∧ (setMemActive s).out = s.out ∧
    (setMemActive s).freeCtr = s.freeCtr ∧ (setMemActive s).regs = s.regs ∧ (setMemActive s).req = s.req ∧ (setMemActive s).pwr = s.pwr ∧
    (setMemActive s).rings = s.rings ∧ (setMemActive s).cmds = s.cmds ∧ (setMemActive s).tabs = s.tabs ∧ (setMemActive s).mapu = s.mapu ∧
    (setMemActive s).cist = s.cist ∧ (setMemActive s).cache = s.cache ∧ (setMemActive s).med = s.med ∧ (setMemActive s).keys = s.keys ∧
    (setMemActive s).wear = s.wear ∧ (setMemActive s).drift = s.drift ∧ (setMemActive s).pair = s.pair ∧ (setMemActive s).flt = s.flt ∧
    (setMemActive s).ag = s.ag ∧ (setMemActive s).qz = s.qz ∧ (setMemActive s).zir = s.zir ∧ (setMemActive s).th = s.th ∧ (setMemActive s).beryl =
    s.beryl ∧ (setMemActive s).sec = s.sec := by
  first
  | (simp [setMemActive]; done)
  | (unfold setMemActive; (try simp only []); (repeat' split) <;> (try intro ht) <;> (simp_all; done); done)

@[simp] theorem arrive_keeps (s : Sys2Proof.Machine.State) (a : ℕ) : (arrive s a).pending = s.pending ∧ (arrive s a).freeCtr = s.freeCtr ∧ (arrive s
    a).regs = s.regs ∧ (arrive s a).req = s.req ∧ (arrive s a).pwr = s.pwr ∧ (arrive s a).ports = s.ports ∧ (arrive s a).rings = s.rings ∧ (arrive s
    a).cmds = s.cmds ∧ (arrive s a).tabs = s.tabs ∧ (arrive s a).mapu = s.mapu ∧ (arrive s a).cist = s.cist ∧ (arrive s a).cache = s.cache ∧ (arrive
    s a).med = s.med ∧ (arrive s a).keys = s.keys ∧ (arrive s a).wear = s.wear ∧ (arrive s a).drift = s.drift ∧ (arrive s a).flt = s.flt ∧ (arrive s
    a).ag = s.ag ∧ (arrive s a).qz = s.qz ∧ (arrive s a).zir = s.zir ∧ (arrive s a).th = s.th ∧ (arrive s a).beryl = s.beryl ∧ (arrive s a).sec =
    s.sec := by
  first
  | (simp [arrive]; done)
  | (unfold arrive; (try simp only []); (repeat' split) <;> (try intro ht) <;> (simp_all; done); done)

@[simp] theorem joinFails_keeps (s : Sys2Proof.Machine.State) (a : Bool) : (joinFails s a).pending = s.pending ∧ (joinFails s a).freeCtr = s.freeCtr
    ∧ (joinFails s a).keys = s.keys ∧ (joinFails s a).th = s.th ∧ (joinFails s a).sec = s.sec := by
  first
  | (simp [joinFails]; done)
  | (unfold joinFails; (try simp only []); (repeat' split) <;> (try intro ht) <;> (simp_all; done); done)

@[simp] theorem sendWells_keeps (s : Sys2Proof.Machine.State) : (sendWells s).pending = s.pending ∧ (sendWells s).freeCtr = s.freeCtr ∧ (sendWells
    s).regs = s.regs ∧ (sendWells s).req = s.req ∧ (sendWells s).pwr = s.pwr ∧ (sendWells s).ports = s.ports ∧ (sendWells s).rings = s.rings ∧
    (sendWells s).cmds = s.cmds ∧ (sendWells s).tabs = s.tabs ∧ (sendWells s).mapu = s.mapu ∧ (sendWells s).cist = s.cist ∧ (sendWells s).cache =
    s.cache ∧ (sendWells s).med = s.med ∧ (sendWells s).keys = s.keys ∧ (sendWells s).wear = s.wear ∧ (sendWells s).drift = s.drift ∧ (sendWells
    s).flt = s.flt ∧ (sendWells s).ag = s.ag ∧ (sendWells s).qz = s.qz ∧ (sendWells s).zir = s.zir ∧ (sendWells s).th = s.th ∧ (sendWells s).beryl =
    s.beryl ∧ (sendWells s).sec = s.sec := by
  first
  | (simp [sendWells]; done)
  | (unfold sendWells; (try simp only []); (repeat' split) <;> (try intro ht) <;> ((try (have p := congrArg Prod.fst ‹_ = (_, _)›; simp only [] at p; subst p)); (try (first | (injection ht with ht; subst ht; simp_all; done) | (subst ht; simp_all; done) | (subst_vars; simp_all; done) | simp_all))); done)

@[simp] theorem tryDecide_keeps (s : Sys2Proof.Machine.State) : (tryDecide s).pending = s.pending ∧ (tryDecide s).freeCtr = s.freeCtr ∧ (tryDecide
    s).keys = s.keys ∧ (tryDecide s).th = s.th ∧ (tryDecide s).sec = s.sec := by
  first
  | (simp [tryDecide]; done)
  | (unfold tryDecide; (try simp only []); (repeat' split) <;> (try intro ht) <;> (simp_all; done); done)

@[simp] theorem writeUnlock_keeps (s : Sys2Proof.Machine.State) (a : ℕ) (b : ℕ) (c : ℕ) : (writeUnlock s a b c).pending = s.pending ∧ (writeUnlock s
    a b c).out = s.out ∧ (writeUnlock s a b c).freeCtr = s.freeCtr ∧ (writeUnlock s a b c).pwr = s.pwr ∧ (writeUnlock s a b c).ports = s.ports ∧
    (writeUnlock s a b c).rings = s.rings ∧ (writeUnlock s a b c).cmds = s.cmds ∧ (writeUnlock s a b c).tabs = s.tabs ∧ (writeUnlock s a b c).mapu =
    s.mapu ∧ (writeUnlock s a b c).cist = s.cist ∧ (writeUnlock s a b c).cache = s.cache ∧ (writeUnlock s a b c).med = s.med ∧ (writeUnlock s a b
    c).keys = s.keys ∧ (writeUnlock s a b c).wear = s.wear ∧ (writeUnlock s a b c).drift = s.drift ∧ (writeUnlock s a b c).pair = s.pair ∧
    (writeUnlock s a b c).flt = s.flt ∧ (writeUnlock s a b c).ag = s.ag ∧ (writeUnlock s a b c).qz = s.qz ∧ (writeUnlock s a b c).zir = s.zir ∧
    (writeUnlock s a b c).th = s.th ∧ (writeUnlock s a b c).beryl = s.beryl ∧ (writeUnlock s a b c).sec = s.sec := by
  first
  | (simp [writeUnlock]; done)
  | (unfold writeUnlock; (try simp only []); (repeat' split) <;> (try intro ht) <;> (simp_all; done); done)

@[simp] theorem sequence_keeps (s : Sys2Proof.Machine.State) (a : BitVec 512) (b : Option Running) (c : Bool) (d : List ℕ) : (sequence s a b c
    d).pending = s.pending ∧ (sequence s a b c d).th = s.th ∧ (sequence s a b c d).sec = s.sec := by
  first
  | (simp [sequence]; done)
  | (unfold sequence; (try simp only []); (repeat' split) <;> (try intro ht) <;> ((try (have p := congrArg Prod.fst ‹_ = (_, _)›; simp only [] at p; subst p)); (try (first | (injection ht with ht; subst ht; simp_all; done) | (subst ht; simp_all; done) | (subst_vars; simp_all; done) | simp_all))); done)

@[simp] theorem issue_keeps (s : Sys2Proof.Machine.State) (a : BitVec 512) (b : Option Running) (c : List ℕ) : (issue s a b c).pending = s.pending ∧
    (issue s a b c).th = s.th ∧ (issue s a b c).sec = s.sec := by
  first
  | (simp [issue]; done)
  | (unfold issue; (try simp only []); (repeat' split) <;> (try intro ht) <;> ((try (have p := congrArg Prod.fst ‹_ = (_, _)›; simp only [] at p; subst p)); (try (first | (injection ht with ht; subst ht; simp_all; done) | (subst ht; simp_all; done) | (subst_vars; simp_all; done) | simp_all))); done)

@[simp] theorem onBit_pending (w k : Nat) (f : State → State) (s : State) (h : ∀ s, (f s).pending = s.pending) : (onBit w k f s).pending = s.pending := by unfold onBit; (repeat' split) <;> simp_all
@[simp] theorem onBit_out (w k : Nat) (f : State → State) (s : State) (h : ∀ s, (f s).out = s.out) : (onBit w k f s).out = s.out := by unfold onBit; (repeat' split) <;> simp_all
@[simp] theorem onBit_freeCtr (w k : Nat) (f : State → State) (s : State) (h : ∀ s, (f s).freeCtr = s.freeCtr) : (onBit w k f s).freeCtr = s.freeCtr := by unfold onBit; (repeat' split) <;> simp_all
@[simp] theorem onBit_regs (w k : Nat) (f : State → State) (s : State) (h : ∀ s, (f s).regs = s.regs) : (onBit w k f s).regs = s.regs := by unfold onBit; (repeat' split) <;> simp_all
@[simp] theorem onBit_req (w k : Nat) (f : State → State) (s : State) (h : ∀ s, (f s).req = s.req) : (onBit w k f s).req = s.req := by unfold onBit; (repeat' split) <;> simp_all
@[simp] theorem onBit_pwr (w k : Nat) (f : State → State) (s : State) (h : ∀ s, (f s).pwr = s.pwr) : (onBit w k f s).pwr = s.pwr := by unfold onBit; (repeat' split) <;> simp_all
@[simp] theorem onBit_ports (w k : Nat) (f : State → State) (s : State) (h : ∀ s, (f s).ports = s.ports) : (onBit w k f s).ports = s.ports := by unfold onBit; (repeat' split) <;> simp_all
@[simp] theorem onBit_rings (w k : Nat) (f : State → State) (s : State) (h : ∀ s, (f s).rings = s.rings) : (onBit w k f s).rings = s.rings := by unfold onBit; (repeat' split) <;> simp_all
@[simp] theorem onBit_cmds (w k : Nat) (f : State → State) (s : State) (h : ∀ s, (f s).cmds = s.cmds) : (onBit w k f s).cmds = s.cmds := by unfold onBit; (repeat' split) <;> simp_all
@[simp] theorem onBit_tabs (w k : Nat) (f : State → State) (s : State) (h : ∀ s, (f s).tabs = s.tabs) : (onBit w k f s).tabs = s.tabs := by unfold onBit; (repeat' split) <;> simp_all
@[simp] theorem onBit_mapu (w k : Nat) (f : State → State) (s : State) (h : ∀ s, (f s).mapu = s.mapu) : (onBit w k f s).mapu = s.mapu := by unfold onBit; (repeat' split) <;> simp_all
@[simp] theorem onBit_cist (w k : Nat) (f : State → State) (s : State) (h : ∀ s, (f s).cist = s.cist) : (onBit w k f s).cist = s.cist := by unfold onBit; (repeat' split) <;> simp_all
@[simp] theorem onBit_cache (w k : Nat) (f : State → State) (s : State) (h : ∀ s, (f s).cache = s.cache) : (onBit w k f s).cache = s.cache := by unfold onBit; (repeat' split) <;> simp_all
@[simp] theorem onBit_med (w k : Nat) (f : State → State) (s : State) (h : ∀ s, (f s).med = s.med) : (onBit w k f s).med = s.med := by unfold onBit; (repeat' split) <;> simp_all
@[simp] theorem onBit_keys (w k : Nat) (f : State → State) (s : State) (h : ∀ s, (f s).keys = s.keys) : (onBit w k f s).keys = s.keys := by unfold onBit; (repeat' split) <;> simp_all
@[simp] theorem onBit_wear (w k : Nat) (f : State → State) (s : State) (h : ∀ s, (f s).wear = s.wear) : (onBit w k f s).wear = s.wear := by unfold onBit; (repeat' split) <;> simp_all
@[simp] theorem onBit_drift (w k : Nat) (f : State → State) (s : State) (h : ∀ s, (f s).drift = s.drift) : (onBit w k f s).drift = s.drift := by unfold onBit; (repeat' split) <;> simp_all
@[simp] theorem onBit_pair (w k : Nat) (f : State → State) (s : State) (h : ∀ s, (f s).pair = s.pair) : (onBit w k f s).pair = s.pair := by unfold onBit; (repeat' split) <;> simp_all
@[simp] theorem onBit_flt (w k : Nat) (f : State → State) (s : State) (h : ∀ s, (f s).flt = s.flt) : (onBit w k f s).flt = s.flt := by unfold onBit; (repeat' split) <;> simp_all
@[simp] theorem onBit_ag (w k : Nat) (f : State → State) (s : State) (h : ∀ s, (f s).ag = s.ag) : (onBit w k f s).ag = s.ag := by unfold onBit; (repeat' split) <;> simp_all
@[simp] theorem onBit_qz (w k : Nat) (f : State → State) (s : State) (h : ∀ s, (f s).qz = s.qz) : (onBit w k f s).qz = s.qz := by unfold onBit; (repeat' split) <;> simp_all
@[simp] theorem onBit_zir (w k : Nat) (f : State → State) (s : State) (h : ∀ s, (f s).zir = s.zir) : (onBit w k f s).zir = s.zir := by unfold onBit; (repeat' split) <;> simp_all
@[simp] theorem onBit_th (w k : Nat) (f : State → State) (s : State) (h : ∀ s, (f s).th = s.th) : (onBit w k f s).th = s.th := by unfold onBit; (repeat' split) <;> simp_all
@[simp] theorem onBit_beryl (w k : Nat) (f : State → State) (s : State) (h : ∀ s, (f s).beryl = s.beryl) : (onBit w k f s).beryl = s.beryl := by unfold onBit; (repeat' split) <;> simp_all
@[simp] theorem onBit_sec (w k : Nat) (f : State → State) (s : State) (h : ∀ s, (f s).sec = s.sec) : (onBit w k f s).sec = s.sec := by unfold onBit; (repeat' split) <;> simp_all

@[simp] theorem ackGroup_keeps (s : Sys2Proof.Machine.State) (a : ℕ) : (ackGroup s a).pending = s.pending ∧ (ackGroup s a).out = s.out ∧ (ackGroup s
    a).freeCtr = s.freeCtr ∧ (ackGroup s a).regs = s.regs ∧ (ackGroup s a).req = s.req ∧ (ackGroup s a).pwr = s.pwr ∧ (ackGroup s a).ports = s.ports
    ∧ (ackGroup s a).rings = s.rings ∧ (ackGroup s a).cmds = s.cmds ∧ (ackGroup s a).tabs = s.tabs ∧ (ackGroup s a).mapu = s.mapu ∧ (ackGroup s
    a).cist = s.cist ∧ (ackGroup s a).cache = s.cache ∧ (ackGroup s a).med = s.med ∧ (ackGroup s a).keys = s.keys ∧ (ackGroup s a).wear = s.wear ∧
    (ackGroup s a).drift = s.drift ∧ (ackGroup s a).pair = s.pair ∧ (ackGroup s a).ag = s.ag ∧ (ackGroup s a).qz = s.qz ∧ (ackGroup s a).zir = s.zir
    ∧ (ackGroup s a).th = s.th ∧ (ackGroup s a).beryl = s.beryl ∧ (ackGroup s a).sec = s.sec := by
  first
  | (simp [ackGroup]; done)
  | (unfold ackGroup; (try simp only []); (repeat' split) <;> (try intro ht) <;> (simp_all; done); done)

@[simp] theorem ackWrite_keeps (s : Sys2Proof.Machine.State) (a : ℕ) (b : ℕ) : (ackWrite s a b).pending = s.pending ∧ (ackWrite s a b).out = s.out ∧
    (ackWrite s a b).freeCtr = s.freeCtr ∧ (ackWrite s a b).regs = s.regs ∧ (ackWrite s a b).req = s.req ∧ (ackWrite s a b).pwr = s.pwr ∧ (ackWrite
    s a b).ports = s.ports ∧ (ackWrite s a b).rings = s.rings ∧ (ackWrite s a b).cmds = s.cmds ∧ (ackWrite s a b).tabs = s.tabs ∧ (ackWrite s a
    b).mapu = s.mapu ∧ (ackWrite s a b).cist = s.cist ∧ (ackWrite s a b).cache = s.cache ∧ (ackWrite s a b).med = s.med ∧ (ackWrite s a b).keys =
    s.keys ∧ (ackWrite s a b).wear = s.wear ∧ (ackWrite s a b).drift = s.drift ∧ (ackWrite s a b).pair = s.pair ∧ (ackWrite s a b).ag = s.ag ∧
    (ackWrite s a b).qz = s.qz ∧ (ackWrite s a b).zir = s.zir ∧ (ackWrite s a b).th = s.th ∧ (ackWrite s a b).beryl = s.beryl ∧ (ackWrite s a b).sec
    = s.sec := by
  first
  | (simp [ackWrite]; done)
  | (unfold ackWrite; (try simp only []); (repeat' split) <;> (try intro ht) <;> (simp_all; done); done)

@[simp] theorem faultReportF_keeps (s : Sys2Proof.Machine.State) (a : ℕ) (b : ℕ) (c : ℕ) (d : ℕ) (e : ℕ) : (faultReportF s a b c d e).pending =
    s.pending ∧ (faultReportF s a b c d e).freeCtr = s.freeCtr ∧ (faultReportF s a b c d e).keys = s.keys ∧ (faultReportF s a b c d e).th = s.th ∧
    (faultReportF s a b c d e).sec = s.sec := by
  first
  | (simp [faultReportF]; done)
  | (unfold faultReportF; (try simp only []); (repeat' split) <;> (try intro ht) <;> (simp_all; done); done)

@[simp] theorem injectFault_keeps (s : Sys2Proof.Machine.State) : (injectFault s).pending = s.pending ∧ (injectFault s).freeCtr = s.freeCtr ∧
    (injectFault s).keys = s.keys ∧ (injectFault s).th = s.th ∧ (injectFault s).sec = s.sec := by
  first
  | (simp [injectFault]; done)
  | (unfold injectFault; (try simp only []); (repeat' split) <;> (try intro ht) <;> (simp_all; done); done)

@[simp] theorem flushAs_keeps (s : Sys2Proof.Machine.State) (a : List ℕ) (b : Bool) : (flushAs s a b).pending = s.pending ∧ (flushAs s a b).freeCtr
    = s.freeCtr ∧ (flushAs s a b).req = s.req ∧ (flushAs s a b).ports = s.ports ∧ (flushAs s a b).tabs = s.tabs ∧ (flushAs s a b).mapu = s.mapu ∧
    (flushAs s a b).cist = s.cist ∧ (flushAs s a b).cache = s.cache ∧ (flushAs s a b).med = s.med ∧ (flushAs s a b).keys = s.keys ∧ (flushAs s a
    b).wear = s.wear ∧ (flushAs s a b).drift = s.drift ∧ (flushAs s a b).pair = s.pair ∧ (flushAs s a b).flt = s.flt ∧ (flushAs s a b).qz = s.qz ∧
    (flushAs s a b).zir = s.zir ∧ (flushAs s a b).th = s.th ∧ (flushAs s a b).sec = s.sec := by
  first
  | (simp [flushAs]; done)
  | (unfold flushAs; (try simp only []); (repeat' split) <;> (try intro ht) <;> (simp_all; done); done)

@[simp] theorem flushAll_keeps (s : Sys2Proof.Machine.State) (a : Bool) : (flushAll s a).pending = s.pending ∧ (flushAll s a).freeCtr = s.freeCtr ∧
    (flushAll s a).req = s.req ∧ (flushAll s a).ports = s.ports ∧ (flushAll s a).tabs = s.tabs ∧ (flushAll s a).mapu = s.mapu ∧ (flushAll s a).cist
    = s.cist ∧ (flushAll s a).cache = s.cache ∧ (flushAll s a).med = s.med ∧ (flushAll s a).keys = s.keys ∧ (flushAll s a).wear = s.wear ∧ (flushAll
    s a).drift = s.drift ∧ (flushAll s a).pair = s.pair ∧ (flushAll s a).flt = s.flt ∧ (flushAll s a).qz = s.qz ∧ (flushAll s a).zir = s.zir ∧
    (flushAll s a).th = s.th ∧ (flushAll s a).sec = s.sec := by
  first
  | (simp [flushAll]; done)
  | (unfold flushAll; (try simp only []); (repeat' split) <;> (try intro ht) <;> (simp_all; done); done)

@[simp] theorem thawQ_keeps (s : Sys2Proof.Machine.State) : (thawQ s).pending = s.pending ∧ (thawQ s).out = s.out ∧ (thawQ s).freeCtr = s.freeCtr ∧
    (thawQ s).regs = s.regs ∧ (thawQ s).req = s.req ∧ (thawQ s).pwr = s.pwr ∧ (thawQ s).ports = s.ports ∧ (thawQ s).rings = s.rings ∧ (thawQ s).cmds
    = s.cmds ∧ (thawQ s).tabs = s.tabs ∧ (thawQ s).mapu = s.mapu ∧ (thawQ s).cist = s.cist ∧ (thawQ s).cache = s.cache ∧ (thawQ s).med = s.med ∧
    (thawQ s).keys = s.keys ∧ (thawQ s).wear = s.wear ∧ (thawQ s).drift = s.drift ∧ (thawQ s).pair = s.pair ∧ (thawQ s).flt = s.flt ∧ (thawQ s).ag =
    s.ag ∧ (thawQ s).zir = s.zir ∧ (thawQ s).th = s.th ∧ (thawQ s).beryl = s.beryl ∧ (thawQ s).sec = s.sec := by
  first
  | (simp [thawQ]; done)
  | (unfold thawQ; (try simp only []); (repeat' split) <;> (try intro ht) <;> (simp_all; done); done)

@[simp] theorem freezeQ_keeps (s : Sys2Proof.Machine.State) : (freezeQ s).pending = s.pending ∧ (freezeQ s).out = s.out ∧ (freezeQ s).freeCtr =
    s.freeCtr ∧ (freezeQ s).regs = s.regs ∧ (freezeQ s).req = s.req ∧ (freezeQ s).pwr = s.pwr ∧ (freezeQ s).ports = s.ports ∧ (freezeQ s).rings =
    s.rings ∧ (freezeQ s).cmds = s.cmds ∧ (freezeQ s).tabs = s.tabs ∧ (freezeQ s).mapu = s.mapu ∧ (freezeQ s).cist = s.cist ∧ (freezeQ s).cache =
    s.cache ∧ (freezeQ s).med = s.med ∧ (freezeQ s).keys = s.keys ∧ (freezeQ s).wear = s.wear ∧ (freezeQ s).drift = s.drift ∧ (freezeQ s).pair =
    s.pair ∧ (freezeQ s).flt = s.flt ∧ (freezeQ s).ag = s.ag ∧ (freezeQ s).zir = s.zir ∧ (freezeQ s).th = s.th ∧ (freezeQ s).beryl = s.beryl ∧
    (freezeQ s).sec = s.sec := by
  first
  | (simp [freezeQ]; done)
  | (unfold freezeQ; (try simp only []); (repeat' split) <;> (try intro ht) <;> (simp_all; done); done)

@[simp] theorem clearQ_keeps (s : Sys2Proof.Machine.State) : (clearQ s).pending = s.pending ∧ (clearQ s).out = s.out ∧ (clearQ s).freeCtr =
    s.freeCtr ∧ (clearQ s).regs = s.regs ∧ (clearQ s).req = s.req ∧ (clearQ s).pwr = s.pwr ∧ (clearQ s).ports = s.ports ∧ (clearQ s).rings = s.rings
    ∧ (clearQ s).cmds = s.cmds ∧ (clearQ s).tabs = s.tabs ∧ (clearQ s).mapu = s.mapu ∧ (clearQ s).cist = s.cist ∧ (clearQ s).cache = s.cache ∧
    (clearQ s).med = s.med ∧ (clearQ s).keys = s.keys ∧ (clearQ s).wear = s.wear ∧ (clearQ s).drift = s.drift ∧ (clearQ s).pair = s.pair ∧ (clearQ
    s).flt = s.flt ∧ (clearQ s).ag = s.ag ∧ (clearQ s).zir = s.zir ∧ (clearQ s).th = s.th ∧ (clearQ s).beryl = s.beryl ∧ (clearQ s).sec = s.sec := by
  first
  | (simp [clearQ]; done)
  | (unfold clearQ; (try simp only []); (repeat' split) <;> (try intro ht) <;> (simp_all; done); done)

@[simp] theorem putPlan_keeps (s : Sys2Proof.Machine.State) : (putPlan s).pending = s.pending ∧ (putPlan s).out = s.out ∧ (putPlan s).freeCtr =
    s.freeCtr ∧ (putPlan s).regs = s.regs ∧ (putPlan s).req = s.req ∧ (putPlan s).pwr = s.pwr ∧ (putPlan s).ports = s.ports ∧ (putPlan s).rings =
    s.rings ∧ (putPlan s).cmds = s.cmds ∧ (putPlan s).tabs = s.tabs ∧ (putPlan s).mapu = s.mapu ∧ (putPlan s).cist = s.cist ∧ (putPlan s).cache =
    s.cache ∧ (putPlan s).med = s.med ∧ (putPlan s).keys = s.keys ∧ (putPlan s).wear = s.wear ∧ (putPlan s).drift = s.drift ∧ (putPlan s).pair =
    s.pair ∧ (putPlan s).flt = s.flt ∧ (putPlan s).ag = s.ag ∧ (putPlan s).qz = s.qz ∧ (putPlan s).zir = s.zir ∧ (putPlan s).th = s.th ∧ (putPlan
    s).sec = s.sec := by
  first
  | (simp [putPlan]; done)
  | (unfold putPlan; (try simp only []); (repeat' split) <;> (try intro ht) <;> (simp_all; done); done)

@[simp] theorem setVcore_keeps (s : Sys2Proof.Machine.State) (a : ℕ) : (setVcore s a).pending = s.pending ∧ (setVcore s a).out = s.out ∧ (setVcore s
    a).freeCtr = s.freeCtr ∧ (setVcore s a).regs = s.regs ∧ (setVcore s a).req = s.req ∧ (setVcore s a).ports = s.ports ∧ (setVcore s a).rings =
    s.rings ∧ (setVcore s a).cmds = s.cmds ∧ (setVcore s a).tabs = s.tabs ∧ (setVcore s a).mapu = s.mapu ∧ (setVcore s a).cist = s.cist ∧ (setVcore
    s a).cache = s.cache ∧ (setVcore s a).med = s.med ∧ (setVcore s a).keys = s.keys ∧ (setVcore s a).wear = s.wear ∧ (setVcore s a).drift = s.drift
    ∧ (setVcore s a).pair = s.pair ∧ (setVcore s a).flt = s.flt ∧ (setVcore s a).ag = s.ag ∧ (setVcore s a).qz = s.qz ∧ (setVcore s a).th = s.th ∧
    (setVcore s a).beryl = s.beryl ∧ (setVcore s a).sec = s.sec := by
  first
  | (simp [setVcore]; done)
  | (unfold setVcore; (try simp only []); (repeat' split) <;> (try intro ht) <;> (simp_all; done); done)

@[simp] theorem applyVcore_keeps (s : Sys2Proof.Machine.State) (a : ℕ) : (applyVcore s a).pending = s.pending ∧ (applyVcore s a).out = s.out ∧
    (applyVcore s a).freeCtr = s.freeCtr ∧ (applyVcore s a).regs = s.regs ∧ (applyVcore s a).req = s.req ∧ (applyVcore s a).ports = s.ports ∧
    (applyVcore s a).rings = s.rings ∧ (applyVcore s a).cmds = s.cmds ∧ (applyVcore s a).tabs = s.tabs ∧ (applyVcore s a).mapu = s.mapu ∧
    (applyVcore s a).cist = s.cist ∧ (applyVcore s a).cache = s.cache ∧ (applyVcore s a).med = s.med ∧ (applyVcore s a).keys = s.keys ∧ (applyVcore
    s a).wear = s.wear ∧ (applyVcore s a).drift = s.drift ∧ (applyVcore s a).pair = s.pair ∧ (applyVcore s a).flt = s.flt ∧ (applyVcore s a).ag =
    s.ag ∧ (applyVcore s a).qz = s.qz ∧ (applyVcore s a).th = s.th ∧ (applyVcore s a).beryl = s.beryl ∧ (applyVcore s a).sec = s.sec := by
  first
  | (simp [applyVcore]; done)
  | (unfold applyVcore; (try simp only []); (repeat' split) <;> (try intro ht) <;> (simp_all; done); done)

@[simp] theorem applyTables_keeps (s : Sys2Proof.Machine.State) (a : List (ℕ × List ℕ × List ℕ × List ℕ × List ℕ × ℕ)) (b : Option ℕ) : (applyTables
    s a b).pending = s.pending ∧ (applyTables s a b).out = s.out ∧ (applyTables s a b).freeCtr = s.freeCtr ∧ (applyTables s a b).regs = s.regs ∧
    (applyTables s a b).req = s.req ∧ (applyTables s a b).pwr = s.pwr ∧ (applyTables s a b).ports = s.ports ∧ (applyTables s a b).rings = s.rings ∧
    (applyTables s a b).cmds = s.cmds ∧ (applyTables s a b).tabs = s.tabs ∧ (applyTables s a b).mapu = s.mapu ∧ (applyTables s a b).cist = s.cist ∧
    (applyTables s a b).cache = s.cache ∧ (applyTables s a b).med = s.med ∧ (applyTables s a b).keys = s.keys ∧ (applyTables s a b).wear = s.wear ∧
    (applyTables s a b).pair = s.pair ∧ (applyTables s a b).flt = s.flt ∧ (applyTables s a b).ag = s.ag ∧ (applyTables s a b).qz = s.qz ∧
    (applyTables s a b).zir = s.zir ∧ (applyTables s a b).th = s.th ∧ (applyTables s a b).beryl = s.beryl ∧ (applyTables s a b).sec = s.sec := by
  first
  | (simp [applyTables]; done)
  | (unfold applyTables; (try simp only []); (repeat' split) <;> (try intro ht) <;> (simp_all; done); done)

@[simp] theorem applyQuotas_keeps (s : Sys2Proof.Machine.State) (a : List (ℕ × ℕ)) : (applyQuotas s a).pending = s.pending ∧ (applyQuotas s a).out =
    s.out ∧ (applyQuotas s a).freeCtr = s.freeCtr ∧ (applyQuotas s a).regs = s.regs ∧ (applyQuotas s a).req = s.req ∧ (applyQuotas s a).pwr = s.pwr
    ∧ (applyQuotas s a).ports = s.ports ∧ (applyQuotas s a).rings = s.rings ∧ (applyQuotas s a).cmds = s.cmds ∧ (applyQuotas s a).tabs = s.tabs ∧
    (applyQuotas s a).mapu = s.mapu ∧ (applyQuotas s a).cache = s.cache ∧ (applyQuotas s a).med = s.med ∧ (applyQuotas s a).keys = s.keys ∧
    (applyQuotas s a).wear = s.wear ∧ (applyQuotas s a).drift = s.drift ∧ (applyQuotas s a).pair = s.pair ∧ (applyQuotas s a).flt = s.flt ∧
    (applyQuotas s a).ag = s.ag ∧ (applyQuotas s a).qz = s.qz ∧ (applyQuotas s a).zir = s.zir ∧ (applyQuotas s a).th = s.th ∧ (applyQuotas s
    a).beryl = s.beryl ∧ (applyQuotas s a).sec = s.sec := by
  first
  | (simp [applyQuotas]; done)
  | (unfold applyQuotas; (try simp only []); (repeat' split) <;> (try intro ht) <;> (simp_all; done); done)

@[simp] theorem applyPlan_keeps (s : Sys2Proof.Machine.State) (a : Plan) : (applyPlan s a).pending = s.pending ∧ (applyPlan s a).out = s.out ∧
    (applyPlan s a).freeCtr = s.freeCtr ∧ (applyPlan s a).regs = s.regs ∧ (applyPlan s a).req = s.req ∧ (applyPlan s a).ports = s.ports ∧ (applyPlan
    s a).rings = s.rings ∧ (applyPlan s a).cmds = s.cmds ∧ (applyPlan s a).tabs = s.tabs ∧ (applyPlan s a).mapu = s.mapu ∧ (applyPlan s a).cache =
    s.cache ∧ (applyPlan s a).med = s.med ∧ (applyPlan s a).keys = s.keys ∧ (applyPlan s a).wear = s.wear ∧ (applyPlan s a).pair = s.pair ∧
    (applyPlan s a).flt = s.flt ∧ (applyPlan s a).ag = s.ag ∧ (applyPlan s a).qz = s.qz ∧ (applyPlan s a).th = s.th ∧ (applyPlan s a).beryl =
    s.beryl ∧ (applyPlan s a).sec = s.sec := by
  first
  | (simp [applyPlan]; done)
  | (unfold applyPlan; (try simp only []); (repeat' split) <;> (try intro ht) <;> (simp_all; done); done)

@[simp] theorem acceptItems_keeps (s : Sys2Proof.Machine.State) (a : ℕ) : (acceptItems s a).pending = s.pending ∧ (acceptItems s a).out = s.out ∧
    (acceptItems s a).freeCtr = s.freeCtr ∧ (acceptItems s a).regs = s.regs ∧ (acceptItems s a).req = s.req ∧ (acceptItems s a).ports = s.ports ∧
    (acceptItems s a).rings = s.rings ∧ (acceptItems s a).cmds = s.cmds ∧ (acceptItems s a).tabs = s.tabs ∧ (acceptItems s a).mapu = s.mapu ∧
    (acceptItems s a).cache = s.cache ∧ (acceptItems s a).med = s.med ∧ (acceptItems s a).keys = s.keys ∧ (acceptItems s a).wear = s.wear ∧
    (acceptItems s a).pair = s.pair ∧ (acceptItems s a).flt = s.flt ∧ (acceptItems s a).ag = s.ag ∧ (acceptItems s a).qz = s.qz ∧ (acceptItems s
    a).th = s.th ∧ (acceptItems s a).sec = s.sec := by
  first
  | (simp [acceptItems]; done)
  | (unfold acceptItems; (try simp only []); (repeat' split) <;> (try intro ht) <;> (simp_all; done); done)

@[simp] theorem startHeld_keeps (s : Sys2Proof.Machine.State) : (startHeld s).pending = s.pending ∧ (startHeld s).out = s.out ∧ (startHeld
    s).freeCtr = s.freeCtr ∧ (startHeld s).regs = s.regs ∧ (startHeld s).req = s.req ∧ (startHeld s).pwr = s.pwr ∧ (startHeld s).ports = s.ports ∧
    (startHeld s).rings = s.rings ∧ (startHeld s).cmds = s.cmds ∧ (startHeld s).tabs = s.tabs ∧ (startHeld s).mapu = s.mapu ∧ (startHeld s).cist =
    s.cist ∧ (startHeld s).cache = s.cache ∧ (startHeld s).med = s.med ∧ (startHeld s).keys = s.keys ∧ (startHeld s).wear = s.wear ∧ (startHeld
    s).drift = s.drift ∧ (startHeld s).pair = s.pair ∧ (startHeld s).flt = s.flt ∧ (startHeld s).ag = s.ag ∧ (startHeld s).qz = s.qz ∧ (startHeld
    s).zir = s.zir ∧ (startHeld s).th = s.th ∧ (startHeld s).beryl = s.beryl := by
  first
  | (simp [startHeld]; done)
  | (unfold startHeld; (try simp only []); (repeat' split) <;> (try intro ht) <;> (simp_all; done); done)

@[simp] theorem actSlot_keeps (s : Sys2Proof.Machine.State) (a : ℕ) (b : Blk) (c : ℕ) (d : ℕ) : (actSlot s a b c d).pending = s.pending ∧ (actSlot s
    a b c d).freeCtr = s.freeCtr ∧ (actSlot s a b c d).keys = s.keys ∧ (actSlot s a b c d).th = s.th := by
  first
  | (simp [actSlot]; done)
  | (unfold actSlot; (try simp only []); (repeat' split) <;> (try intro ht) <;> (simp_all; done); done)

@[simp] theorem writeWayDis_keeps (s : Sys2Proof.Machine.State) (a : ℕ) (b : ℕ) (c : ℕ) : (writeWayDis s a b c).pending = s.pending ∧ (writeWayDis s
    a b c).freeCtr = s.freeCtr ∧ (writeWayDis s a b c).tabs = s.tabs ∧ (writeWayDis s a b c).mapu = s.mapu ∧ (writeWayDis s a b c).cist = s.cist ∧
    (writeWayDis s a b c).med = s.med ∧ (writeWayDis s a b c).keys = s.keys ∧ (writeWayDis s a b c).wear = s.wear ∧ (writeWayDis s a b c).drift =
    s.drift ∧ (writeWayDis s a b c).qz = s.qz ∧ (writeWayDis s a b c).zir = s.zir ∧ (writeWayDis s a b c).th = s.th ∧ (writeWayDis s a b c).sec =
    s.sec := by
  first
  | (simp [writeWayDis]; done)
  | (unfold writeWayDis; (try simp only []); (repeat' split) <;> (try intro ht) <;> (simp_all; done); done)

@[simp] theorem writeTail_keeps (s : Sys2Proof.Machine.State) (a : ℕ) (b : ℕ) (c : ℕ) : (writeTail s a b c).pending = s.pending ∧ (writeTail s a b
    c).out = s.out ∧ (writeTail s a b c).freeCtr = s.freeCtr ∧ (writeTail s a b c).req = s.req ∧ (writeTail s a b c).pwr = s.pwr ∧ (writeTail s a b
    c).ports = s.ports ∧ (writeTail s a b c).cmds = s.cmds ∧ (writeTail s a b c).tabs = s.tabs ∧ (writeTail s a b c).mapu = s.mapu ∧ (writeTail s a
    b c).cist = s.cist ∧ (writeTail s a b c).cache = s.cache ∧ (writeTail s a b c).med = s.med ∧ (writeTail s a b c).keys = s.keys ∧ (writeTail s a
    b c).wear = s.wear ∧ (writeTail s a b c).drift = s.drift ∧ (writeTail s a b c).pair = s.pair ∧ (writeTail s a b c).flt = s.flt ∧ (writeTail s a
    b c).ag = s.ag ∧ (writeTail s a b c).qz = s.qz ∧ (writeTail s a b c).zir = s.zir ∧ (writeTail s a b c).th = s.th ∧ (writeTail s a b c).beryl =
    s.beryl ∧ (writeTail s a b c).sec = s.sec := by
  first
  | (simp [writeTail]; done)
  | (unfold writeTail; (try simp only []); (repeat' split) <;> (try intro ht) <;> (simp_all; done); done)

@[simp] theorem writeCplHead_keeps (s : Sys2Proof.Machine.State) (a : ℕ) (b : ℕ) (c : ℕ) : (writeCplHead s a b c).pending = s.pending ∧
    (writeCplHead s a b c).out = s.out ∧ (writeCplHead s a b c).freeCtr = s.freeCtr ∧ (writeCplHead s a b c).regs = s.regs ∧ (writeCplHead s a b
    c).req = s.req ∧ (writeCplHead s a b c).pwr = s.pwr ∧ (writeCplHead s a b c).ports = s.ports ∧ (writeCplHead s a b c).cmds = s.cmds ∧
    (writeCplHead s a b c).tabs = s.tabs ∧ (writeCplHead s a b c).mapu = s.mapu ∧ (writeCplHead s a b c).cist = s.cist ∧ (writeCplHead s a b
    c).cache = s.cache ∧ (writeCplHead s a b c).med = s.med ∧ (writeCplHead s a b c).keys = s.keys ∧ (writeCplHead s a b c).wear = s.wear ∧
    (writeCplHead s a b c).drift = s.drift ∧ (writeCplHead s a b c).pair = s.pair ∧ (writeCplHead s a b c).flt = s.flt ∧ (writeCplHead s a b c).ag =
    s.ag ∧ (writeCplHead s a b c).qz = s.qz ∧ (writeCplHead s a b c).zir = s.zir ∧ (writeCplHead s a b c).th = s.th ∧ (writeCplHead s a b c).beryl =
    s.beryl ∧ (writeCplHead s a b c).sec = s.sec := by
  first
  | (simp [writeCplHead]; done)
  | (unfold writeCplHead; (try simp only []); (repeat' split) <;> (try intro ht) <;> (simp_all; done); done)

@[simp] theorem ringOn_keeps (s : Sys2Proof.Machine.State) (a : ℕ) : (ringOn s a).pending = s.pending ∧ (ringOn s a).out = s.out ∧ (ringOn s
    a).freeCtr = s.freeCtr ∧ (ringOn s a).regs = s.regs ∧ (ringOn s a).req = s.req ∧ (ringOn s a).pwr = s.pwr ∧ (ringOn s a).ports = s.ports ∧
    (ringOn s a).cmds = s.cmds ∧ (ringOn s a).tabs = s.tabs ∧ (ringOn s a).mapu = s.mapu ∧ (ringOn s a).cist = s.cist ∧ (ringOn s a).cache = s.cache
    ∧ (ringOn s a).med = s.med ∧ (ringOn s a).keys = s.keys ∧ (ringOn s a).wear = s.wear ∧ (ringOn s a).drift = s.drift ∧ (ringOn s a).pair = s.pair
    ∧ (ringOn s a).flt = s.flt ∧ (ringOn s a).ag = s.ag ∧ (ringOn s a).qz = s.qz ∧ (ringOn s a).zir = s.zir ∧ (ringOn s a).th = s.th ∧ (ringOn s
    a).beryl = s.beryl ∧ (ringOn s a).sec = s.sec := by
  first
  | (simp [ringOn]; done)
  | (unfold ringOn; (try simp only []); (repeat' split) <;> (try intro ht) <;> (simp_all; done); done)

@[simp] theorem ringOff_keeps (s : Sys2Proof.Machine.State) (a : ℕ) : (ringOff s a).pending = s.pending ∧ (ringOff s a).out = s.out ∧ (ringOff s
    a).freeCtr = s.freeCtr ∧ (ringOff s a).regs = s.regs ∧ (ringOff s a).req = s.req ∧ (ringOff s a).pwr = s.pwr ∧ (ringOff s a).ports = s.ports ∧
    (ringOff s a).cmds = s.cmds ∧ (ringOff s a).tabs = s.tabs ∧ (ringOff s a).mapu = s.mapu ∧ (ringOff s a).cist = s.cist ∧ (ringOff s a).cache =
    s.cache ∧ (ringOff s a).med = s.med ∧ (ringOff s a).keys = s.keys ∧ (ringOff s a).wear = s.wear ∧ (ringOff s a).drift = s.drift ∧ (ringOff s
    a).pair = s.pair ∧ (ringOff s a).flt = s.flt ∧ (ringOff s a).ag = s.ag ∧ (ringOff s a).qz = s.qz ∧ (ringOff s a).zir = s.zir ∧ (ringOff s a).th
    = s.th ∧ (ringOff s a).beryl = s.beryl ∧ (ringOff s a).sec = s.sec := by
  first
  | (simp [ringOff]; done)
  | (unfold ringOff; (try simp only []); (repeat' split) <;> (try intro ht) <;> (simp_all; done); done)

@[simp] theorem ringEdge_keeps (s : Sys2Proof.Machine.State) (a : ℕ) (b : Bool) : (ringEdge s a b).pending = s.pending ∧ (ringEdge s a b).out =
    s.out ∧ (ringEdge s a b).freeCtr = s.freeCtr ∧ (ringEdge s a b).regs = s.regs ∧ (ringEdge s a b).req = s.req ∧ (ringEdge s a b).pwr = s.pwr ∧
    (ringEdge s a b).ports = s.ports ∧ (ringEdge s a b).cmds = s.cmds ∧ (ringEdge s a b).tabs = s.tabs ∧ (ringEdge s a b).mapu = s.mapu ∧ (ringEdge
    s a b).cist = s.cist ∧ (ringEdge s a b).cache = s.cache ∧ (ringEdge s a b).med = s.med ∧ (ringEdge s a b).keys = s.keys ∧ (ringEdge s a b).wear
    = s.wear ∧ (ringEdge s a b).drift = s.drift ∧ (ringEdge s a b).pair = s.pair ∧ (ringEdge s a b).flt = s.flt ∧ (ringEdge s a b).ag = s.ag ∧
    (ringEdge s a b).qz = s.qz ∧ (ringEdge s a b).zir = s.zir ∧ (ringEdge s a b).th = s.th ∧ (ringEdge s a b).beryl = s.beryl ∧ (ringEdge s a b).sec
    = s.sec := by
  first
  | (simp [ringEdge]; done)
  | (unfold ringEdge; (try simp only []); (repeat' split) <;> (try intro ht) <;> (simp_all; done); done)

@[simp] theorem applySlot_keeps (s : Sys2Proof.Machine.State) (a : Blk) (b : ℕ) (c : ℕ) (d : ApK) : (applySlot s a b c d).pending = s.pending ∧
    (applySlot s a b c d).out = s.out ∧ (applySlot s a b c d).freeCtr = s.freeCtr ∧ (applySlot s a b c d).req = s.req ∧ (applySlot s a b c d).pwr =
    s.pwr ∧ (applySlot s a b c d).ports = s.ports ∧ (applySlot s a b c d).rings = s.rings ∧ (applySlot s a b c d).cmds = s.cmds ∧ (applySlot s a b c
    d).tabs = s.tabs ∧ (applySlot s a b c d).mapu = s.mapu ∧ (applySlot s a b c d).cist = s.cist ∧ (applySlot s a b c d).cache = s.cache ∧
    (applySlot s a b c d).med = s.med ∧ (applySlot s a b c d).keys = s.keys ∧ (applySlot s a b c d).wear = s.wear ∧ (applySlot s a b c d).drift =
    s.drift ∧ (applySlot s a b c d).pair = s.pair ∧ (applySlot s a b c d).flt = s.flt ∧ (applySlot s a b c d).ag = s.ag ∧ (applySlot s a b c d).qz =
    s.qz ∧ (applySlot s a b c d).zir = s.zir ∧ (applySlot s a b c d).th = s.th ∧ (applySlot s a b c d).beryl = s.beryl ∧ (applySlot s a b c d).sec =
    s.sec := by
  first
  | (simp [applySlot]; done)
  | (unfold applySlot; (try simp only []); (repeat' split) <;> (try intro ht) <;> (simp_all; done); done)

@[simp] theorem writeRing_keeps (s : Sys2Proof.Machine.State) (a : ℕ) (b : ℕ) (c : ℕ) (d : ℕ) : (writeRing s a b c d).pending = s.pending ∧
    (writeRing s a b c d).freeCtr = s.freeCtr ∧ (writeRing s a b c d).req = s.req ∧ (writeRing s a b c d).pwr = s.pwr ∧ (writeRing s a b c d).cmds =
    s.cmds ∧ (writeRing s a b c d).tabs = s.tabs ∧ (writeRing s a b c d).mapu = s.mapu ∧ (writeRing s a b c d).cache = s.cache ∧ (writeRing s a b c
    d).med = s.med ∧ (writeRing s a b c d).keys = s.keys ∧ (writeRing s a b c d).wear = s.wear ∧ (writeRing s a b c d).drift = s.drift ∧ (writeRing
    s a b c d).flt = s.flt ∧ (writeRing s a b c d).ag = s.ag ∧ (writeRing s a b c d).zir = s.zir ∧ (writeRing s a b c d).th = s.th ∧ (writeRing s a
    b c d).sec = s.sec := by
  first
  | (simp [writeRing]; done)
  | (unfold writeRing; (try simp only []); (repeat' split) <;> (try intro ht) <;> (simp_all; done); done)

@[simp] theorem writeFs_keeps (s : Sys2Proof.Machine.State) (a : ℕ) (b : ℕ) (c : ℕ) : (writeFs s a b c).pending = s.pending ∧ (writeFs s a b c).out
    = s.out ∧ (writeFs s a b c).freeCtr = s.freeCtr ∧ (writeFs s a b c).regs = s.regs ∧ (writeFs s a b c).req = s.req ∧ (writeFs s a b c).pwr =
    s.pwr ∧ (writeFs s a b c).ports = s.ports ∧ (writeFs s a b c).rings = s.rings ∧ (writeFs s a b c).cmds = s.cmds ∧ (writeFs s a b c).tabs =
    s.tabs ∧ (writeFs s a b c).mapu = s.mapu ∧ (writeFs s a b c).cist = s.cist ∧ (writeFs s a b c).cache = s.cache ∧ (writeFs s a b c).med = s.med ∧
    (writeFs s a b c).keys = s.keys ∧ (writeFs s a b c).wear = s.wear ∧ (writeFs s a b c).drift = s.drift ∧ (writeFs s a b c).pair = s.pair ∧
    (writeFs s a b c).flt = s.flt ∧ (writeFs s a b c).ag = s.ag ∧ (writeFs s a b c).zir = s.zir ∧ (writeFs s a b c).th = s.th ∧ (writeFs s a b
    c).beryl = s.beryl ∧ (writeFs s a b c).sec = s.sec := by
  first
  | (simp [writeFs]; done)
  | (unfold writeFs; (try simp only []); (repeat' split) <;> (try intro ht) <;> (simp_all; done); done)

@[simp] theorem writeFset_keeps (s : Sys2Proof.Machine.State) (a : ℕ) (b : ℕ) : (writeFset s a b).pending = s.pending ∧ (writeFset s a b).out =
    s.out ∧ (writeFset s a b).freeCtr = s.freeCtr ∧ (writeFset s a b).regs = s.regs ∧ (writeFset s a b).req = s.req ∧ (writeFset s a b).pwr = s.pwr
    ∧ (writeFset s a b).ports = s.ports ∧ (writeFset s a b).rings = s.rings ∧ (writeFset s a b).cmds = s.cmds ∧ (writeFset s a b).tabs = s.tabs ∧
    (writeFset s a b).mapu = s.mapu ∧ (writeFset s a b).cist = s.cist ∧ (writeFset s a b).cache = s.cache ∧ (writeFset s a b).med = s.med ∧
    (writeFset s a b).keys = s.keys ∧ (writeFset s a b).wear = s.wear ∧ (writeFset s a b).drift = s.drift ∧ (writeFset s a b).pair = s.pair ∧
    (writeFset s a b).flt = s.flt ∧ (writeFset s a b).ag = s.ag ∧ (writeFset s a b).zir = s.zir ∧ (writeFset s a b).th = s.th ∧ (writeFset s a
    b).beryl = s.beryl ∧ (writeFset s a b).sec = s.sec := by
  first
  | (simp [writeFset]; done)
  | (unfold writeFset; (try simp only []); (repeat' split) <;> (try intro ht) <;> (simp_all; done); done)

@[simp] theorem writeHeld_keeps (s : Sys2Proof.Machine.State) (a : Blk) (b : ℕ) (c : ℕ) (d : ℕ) (e : ℕ) : (writeHeld s a b c d e).pending =
    s.pending ∧ (writeHeld s a b c d e).freeCtr = s.freeCtr ∧ (writeHeld s a b c d e).tabs = s.tabs ∧ (writeHeld s a b c d e).mapu = s.mapu ∧
    (writeHeld s a b c d e).med = s.med ∧ (writeHeld s a b c d e).keys = s.keys ∧ (writeHeld s a b c d e).wear = s.wear ∧ (writeHeld s a b c d
    e).drift = s.drift ∧ (writeHeld s a b c d e).zir = s.zir ∧ (writeHeld s a b c d e).th = s.th ∧ (writeHeld s a b c d e).sec = s.sec := by
  first
  | (simp [writeHeld]; done)
  | (unfold writeHeld; (try simp only []); (repeat' split) <;> (try intro ht) <;> (simp_all; done); done)

@[simp] theorem takeWrite_keeps (s : Sys2Proof.Machine.State) (a : ℕ) (b : Blk) (c : ℕ) (d : ℕ) (e : ℕ) (f : ℕ) : (takeWrite s a b c d e f).pending
    = s.pending ∧ (takeWrite s a b c d e f).th = s.th := by
  first
  | (simp [takeWrite]; done)
  | (unfold takeWrite; (try simp only []); (repeat' split) <;> (try intro ht) <;> (simp_all; done); done)

@[simp] theorem writeSlot_keeps (s : Sys2Proof.Machine.State) (a : ℕ) (b : ℕ) (c : Blk) (d : ℕ) (e : ℕ) (f : ℕ) : (writeSlot s a b c d e f).pending
    = s.pending ∧ (writeSlot s a b c d e f).th = s.th := by
  first
  | (simp [writeSlot]; done)
  | (unfold writeSlot; (try simp only []); (repeat' split) <;> (try intro ht) <;> (simp_all; done); done)

@[simp] theorem busWrite_keeps (s : Sys2Proof.Machine.State) (a : ℕ) (b : ℕ) (c : ℕ) (d : ℕ) : (busWrite s a b c d).pending = s.pending ∧ (busWrite
    s a b c d).th = s.th := by
  first
  | (simp [busWrite]; done)
  | (unfold busWrite; (try simp only []); (repeat' split) <;> (try intro ht) <;> (simp_all; done); done)

@[simp] theorem jtagNothing_keeps (s : Sys2Proof.Machine.State) (a : Sys2Proof.JtagOp) : (jtagNothing s a).pending = s.pending ∧ (jtagNothing s
    a).freeCtr = s.freeCtr ∧ (jtagNothing s a).regs = s.regs ∧ (jtagNothing s a).req = s.req ∧ (jtagNothing s a).pwr = s.pwr ∧ (jtagNothing s
    a).ports = s.ports ∧ (jtagNothing s a).rings = s.rings ∧ (jtagNothing s a).cmds = s.cmds ∧ (jtagNothing s a).tabs = s.tabs ∧ (jtagNothing s
    a).mapu = s.mapu ∧ (jtagNothing s a).cist = s.cist ∧ (jtagNothing s a).cache = s.cache ∧ (jtagNothing s a).med = s.med ∧ (jtagNothing s a).keys
    = s.keys ∧ (jtagNothing s a).wear = s.wear ∧ (jtagNothing s a).drift = s.drift ∧ (jtagNothing s a).pair = s.pair ∧ (jtagNothing s a).flt = s.flt
    ∧ (jtagNothing s a).ag = s.ag ∧ (jtagNothing s a).qz = s.qz ∧ (jtagNothing s a).zir = s.zir ∧ (jtagNothing s a).th = s.th ∧ (jtagNothing s
    a).beryl = s.beryl ∧ (jtagNothing s a).sec = s.sec := by
  first
  | (simp [jtagNothing]; done)
  | (unfold jtagNothing; (try simp only []); (repeat' split) <;> (try intro ht) <;> (simp_all; done); done)

@[simp] theorem jtagBlocked_keeps (s : Sys2Proof.Machine.State) (a : Sys2Proof.JtagOp) : (jtagBlocked s a).pending = s.pending ∧ (jtagBlocked s
    a).freeCtr = s.freeCtr ∧ (jtagBlocked s a).tabs = s.tabs ∧ (jtagBlocked s a).mapu = s.mapu ∧ (jtagBlocked s a).cist = s.cist ∧ (jtagBlocked s
    a).cache = s.cache ∧ (jtagBlocked s a).med = s.med ∧ (jtagBlocked s a).keys = s.keys ∧ (jtagBlocked s a).wear = s.wear ∧ (jtagBlocked s a).drift
    = s.drift ∧ (jtagBlocked s a).qz = s.qz ∧ (jtagBlocked s a).zir = s.zir ∧ (jtagBlocked s a).th = s.th ∧ (jtagBlocked s a).sec = s.sec := by
  first
  | (simp [jtagBlocked]; done)
  | (unfold jtagBlocked; (try simp only []); (repeat' split) <;> (try intro ht) <;> (simp_all; done); done)

@[simp] theorem rewriteInterrupted_keeps (s : Sys2Proof.Machine.State) (a : ℕ) (b : ℕ) (c : ℕ) (d : BitVec 8) : (rewriteInterrupted s a b c
    d).pending = s.pending ∧ (rewriteInterrupted s a b c d).out = s.out ∧ (rewriteInterrupted s a b c d).freeCtr = s.freeCtr ∧ (rewriteInterrupted s
    a b c d).regs = s.regs ∧ (rewriteInterrupted s a b c d).req = s.req ∧ (rewriteInterrupted s a b c d).pwr = s.pwr ∧ (rewriteInterrupted s a b c
    d).ports = s.ports ∧ (rewriteInterrupted s a b c d).rings = s.rings ∧ (rewriteInterrupted s a b c d).cmds = s.cmds ∧ (rewriteInterrupted s a b c
    d).tabs = s.tabs ∧ (rewriteInterrupted s a b c d).mapu = s.mapu ∧ (rewriteInterrupted s a b c d).cist = s.cist ∧ (rewriteInterrupted s a b c
    d).cache = s.cache ∧ (rewriteInterrupted s a b c d).keys = s.keys ∧ (rewriteInterrupted s a b c d).wear = s.wear ∧ (rewriteInterrupted s a b c
    d).drift = s.drift ∧ (rewriteInterrupted s a b c d).pair = s.pair ∧ (rewriteInterrupted s a b c d).flt = s.flt ∧ (rewriteInterrupted s a b c
    d).ag = s.ag ∧ (rewriteInterrupted s a b c d).qz = s.qz ∧ (rewriteInterrupted s a b c d).zir = s.zir ∧ (rewriteInterrupted s a b c d).th = s.th
    ∧ (rewriteInterrupted s a b c d).beryl = s.beryl ∧ (rewriteInterrupted s a b c d).sec = s.sec := by
  first
  | (simp [rewriteInterrupted]; done)
  | (unfold rewriteInterrupted; (try simp only []); (repeat' split) <;> (try intro ht) <;> (simp_all; done); done)

@[simp] theorem readRaw_keeps (s : Sys2Proof.Machine.State) (a : ℕ) (b : Sys2Proof.SenseRes) (c : Sys2Proof.SenseRes) : (readRaw s a b c).1.pending
    = s.pending ∧ (readRaw s a b c).1.keys = s.keys ∧ (readRaw s a b c).1.th = s.th ∧ (readRaw s a b c).1.sec = s.sec := by
  first
  | (simp [readRaw]; done)
  | (unfold readRaw; (try simp only []); (repeat' split) <;> (try intro ht) <;> ((try (have p := congrArg Prod.fst ‹_ = (_, _)›; simp only [] at p; subst p)); (try (first | (injection ht with ht; subst ht; simp_all; done) | (subst ht; simp_all; done) | (subst_vars; simp_all; done) | simp_all))); done)

@[simp] theorem jtagWrite_keeps (s : Sys2Proof.Machine.State) (a : ℕ) (b : Sys2Proof.Line) : (jtagWrite s a b).pending = s.pending ∧ (jtagWrite s a
    b).keys = s.keys ∧ (jtagWrite s a b).th = s.th ∧ (jtagWrite s a b).sec = s.sec := by
  first
  | (simp [jtagWrite]; done)
  | (unfold jtagWrite; (try simp only []); (repeat' split) <;> (try intro ht) <;> ((try (have p := congrArg Prod.fst ‹_ = (_, _)›; simp only [] at p; subst p)); (try (first | (injection ht with ht; subst ht; simp_all; done) | (subst ht; simp_all; done) | (subst_vars; simp_all; done) | simp_all))); done)

@[simp] theorem applyReplan_keeps (s : Sys2Proof.Machine.State) : (applyReplan s).pending = s.pending ∧ (applyReplan s).out = s.out ∧ (applyReplan
    s).freeCtr = s.freeCtr ∧ (applyReplan s).req = s.req ∧ (applyReplan s).pwr = s.pwr ∧ (applyReplan s).ports = s.ports ∧ (applyReplan s).rings =
    s.rings ∧ (applyReplan s).cmds = s.cmds ∧ (applyReplan s).tabs = s.tabs ∧ (applyReplan s).mapu = s.mapu ∧ (applyReplan s).cist = s.cist ∧
    (applyReplan s).cache = s.cache ∧ (applyReplan s).med = s.med ∧ (applyReplan s).keys = s.keys ∧ (applyReplan s).wear = s.wear ∧ (applyReplan
    s).drift = s.drift ∧ (applyReplan s).pair = s.pair ∧ (applyReplan s).flt = s.flt ∧ (applyReplan s).ag = s.ag ∧ (applyReplan s).qz = s.qz ∧
    (applyReplan s).zir = s.zir ∧ (applyReplan s).th = s.th ∧ (applyReplan s).beryl = s.beryl ∧ (applyReplan s).sec = s.sec := by
  first
  | (simp [applyReplan]; done)
  | (unfold applyReplan; (try simp only []); (repeat' split) <;> (try intro ht) <;> (simp_all; done); done)

@[simp] theorem latchSlot_keeps (s : Sys2Proof.Machine.State) (a : ℕ) (b : Blk) (c : ℕ) : (latchSlot s a b c).pending = s.pending ∧ (latchSlot s a b
    c).out = s.out ∧ (latchSlot s a b c).freeCtr = s.freeCtr ∧ (latchSlot s a b c).regs = s.regs ∧ (latchSlot s a b c).pwr = s.pwr ∧ (latchSlot s a
    b c).ports = s.ports ∧ (latchSlot s a b c).rings = s.rings ∧ (latchSlot s a b c).cmds = s.cmds ∧ (latchSlot s a b c).tabs = s.tabs ∧ (latchSlot
    s a b c).mapu = s.mapu ∧ (latchSlot s a b c).cist = s.cist ∧ (latchSlot s a b c).cache = s.cache ∧ (latchSlot s a b c).med = s.med ∧ (latchSlot
    s a b c).keys = s.keys ∧ (latchSlot s a b c).wear = s.wear ∧ (latchSlot s a b c).drift = s.drift ∧ (latchSlot s a b c).pair = s.pair ∧
    (latchSlot s a b c).flt = s.flt ∧ (latchSlot s a b c).ag = s.ag ∧ (latchSlot s a b c).qz = s.qz ∧ (latchSlot s a b c).zir = s.zir ∧ (latchSlot s
    a b c).th = s.th ∧ (latchSlot s a b c).beryl = s.beryl ∧ (latchSlot s a b c).sec = s.sec := by
  first
  | (simp [latchSlot]; done)
  | (unfold latchSlot; (try simp only []); (repeat' split) <;> (try intro ht) <;> (simp_all; done); done)

@[simp] theorem releaseSlot_keeps (s : Sys2Proof.Machine.State) (a : Blk) (b : ℕ) (c : ℕ) : (releaseSlot s a b c).pending = s.pending ∧ (releaseSlot
    s a b c).out = s.out ∧ (releaseSlot s a b c).freeCtr = s.freeCtr ∧ (releaseSlot s a b c).regs = s.regs ∧ (releaseSlot s a b c).pwr = s.pwr ∧
    (releaseSlot s a b c).ports = s.ports ∧ (releaseSlot s a b c).rings = s.rings ∧ (releaseSlot s a b c).cmds = s.cmds ∧ (releaseSlot s a b c).tabs
    = s.tabs ∧ (releaseSlot s a b c).mapu = s.mapu ∧ (releaseSlot s a b c).cist = s.cist ∧ (releaseSlot s a b c).med = s.med ∧ (releaseSlot s a b
    c).keys = s.keys ∧ (releaseSlot s a b c).wear = s.wear ∧ (releaseSlot s a b c).pair = s.pair ∧ (releaseSlot s a b c).flt = s.flt ∧ (releaseSlot
    s a b c).ag = s.ag ∧ (releaseSlot s a b c).qz = s.qz ∧ (releaseSlot s a b c).zir = s.zir ∧ (releaseSlot s a b c).th = s.th ∧ (releaseSlot s a b
    c).beryl = s.beryl ∧ (releaseSlot s a b c).sec = s.sec := by
  first
  | (simp [releaseSlot]; done)
  | (unfold releaseSlot; (try simp only []); (repeat' split) <;> (try intro ht) <;> (simp_all; done); done)

@[simp] theorem clearSlot_keeps (s : Sys2Proof.Machine.State) (a : Blk) (b : ℕ) (c : ℕ) : (clearSlot s a b c).pending = s.pending ∧ (clearSlot s a b
    c).out = s.out ∧ (clearSlot s a b c).freeCtr = s.freeCtr ∧ (clearSlot s a b c).pwr = s.pwr ∧ (clearSlot s a b c).ports = s.ports ∧ (clearSlot s
    a b c).rings = s.rings ∧ (clearSlot s a b c).cmds = s.cmds ∧ (clearSlot s a b c).tabs = s.tabs ∧ (clearSlot s a b c).mapu = s.mapu ∧ (clearSlot
    s a b c).cist = s.cist ∧ (clearSlot s a b c).med = s.med ∧ (clearSlot s a b c).keys = s.keys ∧ (clearSlot s a b c).wear = s.wear ∧ (clearSlot s
    a b c).pair = s.pair ∧ (clearSlot s a b c).flt = s.flt ∧ (clearSlot s a b c).ag = s.ag ∧ (clearSlot s a b c).qz = s.qz ∧ (clearSlot s a b c).zir
    = s.zir ∧ (clearSlot s a b c).th = s.th ∧ (clearSlot s a b c).beryl = s.beryl ∧ (clearSlot s a b c).sec = s.sec := by
  first
  | (simp [clearSlot]; done)
  | (unfold clearSlot; (try simp only []); (repeat' split) <;> (try intro ht) <;> (simp_all; done); done)

@[simp] theorem readSlot_keeps (s : Sys2Proof.Machine.State) (a : ℕ) (b : Blk) (c : ℕ) (d : ℕ) : (readSlot s a b c d).1.pending = s.pending ∧
    (readSlot s a b c d).1.out = s.out ∧ (readSlot s a b c d).1.freeCtr = s.freeCtr ∧ (readSlot s a b c d).1.pwr = s.pwr ∧ (readSlot s a b c
    d).1.ports = s.ports ∧ (readSlot s a b c d).1.rings = s.rings ∧ (readSlot s a b c d).1.cmds = s.cmds ∧ (readSlot s a b c d).1.tabs = s.tabs ∧
    (readSlot s a b c d).1.mapu = s.mapu ∧ (readSlot s a b c d).1.cist = s.cist ∧ (readSlot s a b c d).1.med = s.med ∧ (readSlot s a b c d).1.keys =
    s.keys ∧ (readSlot s a b c d).1.wear = s.wear ∧ (readSlot s a b c d).1.pair = s.pair ∧ (readSlot s a b c d).1.flt = s.flt ∧ (readSlot s a b c
    d).1.ag = s.ag ∧ (readSlot s a b c d).1.qz = s.qz ∧ (readSlot s a b c d).1.zir = s.zir ∧ (readSlot s a b c d).1.th = s.th ∧ (readSlot s a b c
    d).1.beryl = s.beryl ∧ (readSlot s a b c d).1.sec = s.sec := by
  first
  | (simp [readSlot]; done)
  | (unfold readSlot; (try simp only []); (repeat' split) <;> (try intro ht) <;> (simp_all; done); done)

@[simp] theorem busRead_keeps (s : Sys2Proof.Machine.State) (a : Sys2Proof.Requester) (b : ℕ) (c : ℕ) : (busRead s a b c).pending = s.pending ∧
    (busRead s a b c).freeCtr = s.freeCtr ∧ (busRead s a b c).pwr = s.pwr ∧ (busRead s a b c).ports = s.ports ∧ (busRead s a b c).rings = s.rings ∧
    (busRead s a b c).cmds = s.cmds ∧ (busRead s a b c).tabs = s.tabs ∧ (busRead s a b c).mapu = s.mapu ∧ (busRead s a b c).cist = s.cist ∧ (busRead
    s a b c).med = s.med ∧ (busRead s a b c).keys = s.keys ∧ (busRead s a b c).wear = s.wear ∧ (busRead s a b c).pair = s.pair ∧ (busRead s a b
    c).flt = s.flt ∧ (busRead s a b c).ag = s.ag ∧ (busRead s a b c).qz = s.qz ∧ (busRead s a b c).zir = s.zir ∧ (busRead s a b c).th = s.th ∧
    (busRead s a b c).beryl = s.beryl ∧ (busRead s a b c).sec = s.sec := by
  first
  | (simp [busRead]; done)
  | (unfold busRead; (try simp only []); (repeat' split) <;> (try intro ht) <;> ((try (have p := congrArg Prod.fst ‹_ = (_, _)›; simp only [] at p; subst p)); (try (first | (injection ht with ht; subst ht; simp_all; done) | (subst ht; simp_all; done) | (subst_vars; simp_all; done) | simp_all))); done)

@[simp] theorem progFail_keeps (s : Sys2Proof.Machine.State) (a : Op) (b : Option ℕ) : (progFail s a b).pending = s.pending ∧ (progFail s a
    b).freeCtr = s.freeCtr ∧ (progFail s a b).keys = s.keys ∧ (progFail s a b).th = s.th ∧ (progFail s a b).sec = s.sec := by
  first
  | (simp [progFail]; done)
  | (unfold progFail; (try simp only []); (repeat' split) <;> (try intro ht) <;> (simp_all; done); done)

theorem popTile_keeps (s : Sys2Proof.Machine.State) (a : ℕ) : ∀ k t, popTile s a = some (k, t) → t.pending = s.pending ∧ t.out = s.out ∧ t.freeCtr =
    s.freeCtr ∧ t.regs = s.regs ∧ t.req = s.req ∧ t.pwr = s.pwr ∧ t.ports = s.ports ∧ t.rings = s.rings ∧ t.cmds = s.cmds ∧ t.tabs = s.tabs ∧ t.mapu
    = s.mapu ∧ t.cist = s.cist ∧ t.cache = s.cache ∧ t.med = s.med ∧ t.keys = s.keys ∧ t.drift = s.drift ∧ t.pair = s.pair ∧ t.flt = s.flt ∧ t.ag =
    s.ag ∧ t.qz = s.qz ∧ t.zir = s.zir ∧ t.th = s.th ∧ t.beryl = s.beryl ∧ t.sec = s.sec := by
  intro k t ht; unfold popTile at ht; split at ht
  · injection ht with ht; injection ht with _ ht; subst ht; simp
  · split at ht
    · cases ht
    · split at ht
      · cases ht
      · injection ht with ht; injection ht with _ ht; subst ht; simp

theorem takeTile_keeps (s : Sys2Proof.Machine.State) (a : Bool) (b : Option ℕ) : ∀ k t, takeTile s a b = some (k, t) → t.pending = s.pending ∧ t.out
    = s.out ∧ t.freeCtr = s.freeCtr ∧ t.regs = s.regs ∧ t.req = s.req ∧ t.pwr = s.pwr ∧ t.ports = s.ports ∧ t.rings = s.rings ∧ t.cmds = s.cmds ∧
    t.tabs = s.tabs ∧ t.mapu = s.mapu ∧ t.cist = s.cist ∧ t.cache = s.cache ∧ t.med = s.med ∧ t.keys = s.keys ∧ t.drift = s.drift ∧ t.pair = s.pair
    ∧ t.flt = s.flt ∧ t.ag = s.ag ∧ t.qz = s.qz ∧ t.zir = s.zir ∧ t.th = s.th ∧ t.beryl = s.beryl ∧ t.sec = s.sec := by
  intro k t ht; unfold takeTile at ht; dsimp only at ht; split at ht
  · cases ht
  · split at ht
    · rename_i d _ _; cases hp : popTile s d with
      | none => simp [hp] at ht
      | some x => simp [hp] at ht; have q := popTile_keeps s d x.1 x.2 (by simp [hp]); obtain ⟨_, ht⟩ := ht; subst ht; simp_all
    · split at ht
      · split at ht
        · exact popTile_keeps _ _ _ _ ht
        · cases ht
      · cases ht

theorem takeMeta_keeps (s : Sys2Proof.Machine.State) (a : ℕ) (b : ℕ) : ∀ k t, takeMeta s a b = some (k, t) → t.pending = s.pending ∧ t.out = s.out ∧
    t.freeCtr = s.freeCtr ∧ t.req = s.req ∧ t.pwr = s.pwr ∧ t.ports = s.ports ∧ t.rings = s.rings ∧ t.cmds = s.cmds ∧ t.cist = s.cist ∧ t.cache =
    s.cache ∧ t.keys = s.keys ∧ t.drift = s.drift ∧ t.pair = s.pair ∧ t.flt = s.flt ∧ t.ag = s.ag ∧ t.qz = s.qz ∧ t.th = s.th ∧ t.beryl = s.beryl ∧
    t.sec = s.sec := by
  intro k t ht; unfold takeMeta at ht; split at ht
  · cases ht
  · split at ht
    · cases ht
    · rename_i h; have q := takeTile_keeps _ _ _ _ _ h; injection ht with ht; injection ht with _ ht; subst ht; simp_all

theorem takeNext_keeps (s : Sys2Proof.Machine.State) : ∀ t, takeNext s = some t → t.pending = s.pending ∧ t.out = s.out ∧ t.freeCtr = s.freeCtr ∧
    t.req = s.req ∧ t.pwr = s.pwr ∧ t.ports = s.ports ∧ t.rings = s.rings ∧ t.cmds = s.cmds ∧ t.cist = s.cist ∧ t.cache = s.cache ∧ t.keys = s.keys
    ∧ t.drift = s.drift ∧ t.pair = s.pair ∧ t.flt = s.flt ∧ t.ag = s.ag ∧ t.qz = s.qz ∧ t.th = s.th ∧ t.beryl = s.beryl ∧ t.sec = s.sec := by
  intro t ht; unfold takeNext at ht; simp only [Option.map_eq_some_iff] at ht; obtain ⟨⟨a, b⟩, h, ht⟩ := ht
  have q := takeMeta_keeps _ _ _ _ _ h; subst ht; simp_all

theorem openTile_keeps (s : Sys2Proof.Machine.State) (a : ℕ) (b : ℕ) (c : ℕ) : ∀ t, openTile s a b c = some t → t.pending = s.pending ∧ t.out =
    s.out ∧ t.freeCtr = s.freeCtr ∧ t.req = s.req ∧ t.pwr = s.pwr ∧ t.ports = s.ports ∧ t.rings = s.rings ∧ t.cmds = s.cmds ∧ t.cist = s.cist ∧
    t.cache = s.cache ∧ t.keys = s.keys ∧ t.drift = s.drift ∧ t.pair = s.pair ∧ t.flt = s.flt ∧ t.ag = s.ag ∧ t.qz = s.qz ∧ t.th = s.th ∧ t.beryl =
    s.beryl ∧ t.sec = s.sec := by
  intro t ht; first
  | (simp [openTile]; done)
  | (unfold openTile at ht; revert ht; (try simp only []); (repeat' split) <;> (try intro ht) <;> ((try have q0 := takeNext_keeps _ _ ‹_›); (try (first | (injection ht with ht; subst ht; simp_all; done) | (subst ht; simp_all; done) | (subst_vars; simp_all; done) | simp_all))); done)

@[simp] theorem journalFailed_keeps (a : Op) (s : Sys2Proof.Machine.State) : (journalFailed a s).pending = s.pending ∧ (journalFailed a s).freeCtr =
    s.freeCtr ∧ (journalFailed a s).keys = s.keys ∧ (journalFailed a s).th = s.th ∧ (journalFailed a s).sec = s.sec := by
  first
  | (simp [journalFailed]; done)
  | (unfold journalFailed; (try simp only []); (repeat' split) <;> (try intro ht) <;> ((try have q0 := openTile_keeps _ _ _ _ _ ‹_›); (try (first | (injection ht with ht; subst ht; simp_all; done) | (subst ht; simp_all; done) | (subst_vars; simp_all; done) | simp_all))); done)

@[simp] theorem spdmErr_keeps (s : Sys2Proof.Machine.State) (a : Sys2Proof.SpdmVia) (b : ℕ) : (spdmErr s a b).pending = s.pending ∧ (spdmErr s a
    b).freeCtr = s.freeCtr ∧ (spdmErr s a b).regs = s.regs ∧ (spdmErr s a b).req = s.req ∧ (spdmErr s a b).pwr = s.pwr ∧ (spdmErr s a b).ports =
    s.ports ∧ (spdmErr s a b).rings = s.rings ∧ (spdmErr s a b).cmds = s.cmds ∧ (spdmErr s a b).tabs = s.tabs ∧ (spdmErr s a b).mapu = s.mapu ∧
    (spdmErr s a b).cist = s.cist ∧ (spdmErr s a b).cache = s.cache ∧ (spdmErr s a b).med = s.med ∧ (spdmErr s a b).keys = s.keys ∧ (spdmErr s a
    b).wear = s.wear ∧ (spdmErr s a b).drift = s.drift ∧ (spdmErr s a b).pair = s.pair ∧ (spdmErr s a b).flt = s.flt ∧ (spdmErr s a b).ag = s.ag ∧
    (spdmErr s a b).qz = s.qz ∧ (spdmErr s a b).zir = s.zir ∧ (spdmErr s a b).th = s.th ∧ (spdmErr s a b).beryl = s.beryl ∧ (spdmErr s a b).sec =
    s.sec := by
  first
  | (simp [spdmErr]; done)
  | (unfold spdmErr; (try simp only []); (repeat' split) <;> (try intro ht) <;> (simp_all; done); done)

@[simp] theorem ideKm_pending (s : State) (v : Sys2Proof.SpdmVia) (i : Nat) (f : State → Sys2Proof.Port → State) (h : ∀ s p, (f s p).pending = s.pending) : (ideKm s v i f).pending = s.pending := by unfold ideKm; (repeat' split) <;> simp_all
@[simp] theorem ideKm_freeCtr (s : State) (v : Sys2Proof.SpdmVia) (i : Nat) (f : State → Sys2Proof.Port → State) (h : ∀ s p, (f s p).freeCtr = s.freeCtr) : (ideKm s v i f).freeCtr = s.freeCtr := by unfold ideKm; (repeat' split) <;> simp_all
@[simp] theorem ideKm_regs (s : State) (v : Sys2Proof.SpdmVia) (i : Nat) (f : State → Sys2Proof.Port → State) (h : ∀ s p, (f s p).regs = s.regs) : (ideKm s v i f).regs = s.regs := by unfold ideKm; (repeat' split) <;> simp_all
@[simp] theorem ideKm_req (s : State) (v : Sys2Proof.SpdmVia) (i : Nat) (f : State → Sys2Proof.Port → State) (h : ∀ s p, (f s p).req = s.req) : (ideKm s v i f).req = s.req := by unfold ideKm; (repeat' split) <;> simp_all
@[simp] theorem ideKm_pwr (s : State) (v : Sys2Proof.SpdmVia) (i : Nat) (f : State → Sys2Proof.Port → State) (h : ∀ s p, (f s p).pwr = s.pwr) : (ideKm s v i f).pwr = s.pwr := by unfold ideKm; (repeat' split) <;> simp_all
@[simp] theorem ideKm_ports (s : State) (v : Sys2Proof.SpdmVia) (i : Nat) (f : State → Sys2Proof.Port → State) (h : ∀ s p, (f s p).ports = s.ports) : (ideKm s v i f).ports = s.ports := by unfold ideKm; (repeat' split) <;> simp_all
@[simp] theorem ideKm_rings (s : State) (v : Sys2Proof.SpdmVia) (i : Nat) (f : State → Sys2Proof.Port → State) (h : ∀ s p, (f s p).rings = s.rings) : (ideKm s v i f).rings = s.rings := by unfold ideKm; (repeat' split) <;> simp_all
@[simp] theorem ideKm_cmds (s : State) (v : Sys2Proof.SpdmVia) (i : Nat) (f : State → Sys2Proof.Port → State) (h : ∀ s p, (f s p).cmds = s.cmds) : (ideKm s v i f).cmds = s.cmds := by unfold ideKm; (repeat' split) <;> simp_all
@[simp] theorem ideKm_tabs (s : State) (v : Sys2Proof.SpdmVia) (i : Nat) (f : State → Sys2Proof.Port → State) (h : ∀ s p, (f s p).tabs = s.tabs) : (ideKm s v i f).tabs = s.tabs := by unfold ideKm; (repeat' split) <;> simp_all
@[simp] theorem ideKm_mapu (s : State) (v : Sys2Proof.SpdmVia) (i : Nat) (f : State → Sys2Proof.Port → State) (h : ∀ s p, (f s p).mapu = s.mapu) : (ideKm s v i f).mapu = s.mapu := by unfold ideKm; (repeat' split) <;> simp_all
@[simp] theorem ideKm_cist (s : State) (v : Sys2Proof.SpdmVia) (i : Nat) (f : State → Sys2Proof.Port → State) (h : ∀ s p, (f s p).cist = s.cist) : (ideKm s v i f).cist = s.cist := by unfold ideKm; (repeat' split) <;> simp_all
@[simp] theorem ideKm_cache (s : State) (v : Sys2Proof.SpdmVia) (i : Nat) (f : State → Sys2Proof.Port → State) (h : ∀ s p, (f s p).cache = s.cache) : (ideKm s v i f).cache = s.cache := by unfold ideKm; (repeat' split) <;> simp_all
@[simp] theorem ideKm_med (s : State) (v : Sys2Proof.SpdmVia) (i : Nat) (f : State → Sys2Proof.Port → State) (h : ∀ s p, (f s p).med = s.med) : (ideKm s v i f).med = s.med := by unfold ideKm; (repeat' split) <;> simp_all
@[simp] theorem ideKm_keys (s : State) (v : Sys2Proof.SpdmVia) (i : Nat) (f : State → Sys2Proof.Port → State) (h : ∀ s p, (f s p).keys = s.keys) : (ideKm s v i f).keys = s.keys := by unfold ideKm; (repeat' split) <;> simp_all
@[simp] theorem ideKm_wear (s : State) (v : Sys2Proof.SpdmVia) (i : Nat) (f : State → Sys2Proof.Port → State) (h : ∀ s p, (f s p).wear = s.wear) : (ideKm s v i f).wear = s.wear := by unfold ideKm; (repeat' split) <;> simp_all
@[simp] theorem ideKm_drift (s : State) (v : Sys2Proof.SpdmVia) (i : Nat) (f : State → Sys2Proof.Port → State) (h : ∀ s p, (f s p).drift = s.drift) : (ideKm s v i f).drift = s.drift := by unfold ideKm; (repeat' split) <;> simp_all
@[simp] theorem ideKm_pair (s : State) (v : Sys2Proof.SpdmVia) (i : Nat) (f : State → Sys2Proof.Port → State) (h : ∀ s p, (f s p).pair = s.pair) : (ideKm s v i f).pair = s.pair := by unfold ideKm; (repeat' split) <;> simp_all
@[simp] theorem ideKm_flt (s : State) (v : Sys2Proof.SpdmVia) (i : Nat) (f : State → Sys2Proof.Port → State) (h : ∀ s p, (f s p).flt = s.flt) : (ideKm s v i f).flt = s.flt := by unfold ideKm; (repeat' split) <;> simp_all
@[simp] theorem ideKm_ag (s : State) (v : Sys2Proof.SpdmVia) (i : Nat) (f : State → Sys2Proof.Port → State) (h : ∀ s p, (f s p).ag = s.ag) : (ideKm s v i f).ag = s.ag := by unfold ideKm; (repeat' split) <;> simp_all
@[simp] theorem ideKm_qz (s : State) (v : Sys2Proof.SpdmVia) (i : Nat) (f : State → Sys2Proof.Port → State) (h : ∀ s p, (f s p).qz = s.qz) : (ideKm s v i f).qz = s.qz := by unfold ideKm; (repeat' split) <;> simp_all
@[simp] theorem ideKm_zir (s : State) (v : Sys2Proof.SpdmVia) (i : Nat) (f : State → Sys2Proof.Port → State) (h : ∀ s p, (f s p).zir = s.zir) : (ideKm s v i f).zir = s.zir := by unfold ideKm; (repeat' split) <;> simp_all
@[simp] theorem ideKm_th (s : State) (v : Sys2Proof.SpdmVia) (i : Nat) (f : State → Sys2Proof.Port → State) (h : ∀ s p, (f s p).th = s.th) : (ideKm s v i f).th = s.th := by unfold ideKm; (repeat' split) <;> simp_all
@[simp] theorem ideKm_beryl (s : State) (v : Sys2Proof.SpdmVia) (i : Nat) (f : State → Sys2Proof.Port → State) (h : ∀ s p, (f s p).beryl = s.beryl) : (ideKm s v i f).beryl = s.beryl := by unfold ideKm; (repeat' split) <;> simp_all
@[simp] theorem ideKm_sec (s : State) (v : Sys2Proof.SpdmVia) (i : Nat) (f : State → Sys2Proof.Port → State) (h : ∀ s p, (f s p).sec = s.sec) : (ideKm s v i f).sec = s.sec := by unfold ideKm; (repeat' split) <;> simp_all

@[simp] theorem spdmOk_keeps (s : Sys2Proof.Machine.State) (a : Sys2Proof.SpdmVia) (b : ℕ) (c : List (BitVec 8)) : (spdmOk s a b c).pending =
    s.pending ∧ (spdmOk s a b c).freeCtr = s.freeCtr ∧ (spdmOk s a b c).regs = s.regs ∧ (spdmOk s a b c).req = s.req ∧ (spdmOk s a b c).pwr = s.pwr
    ∧ (spdmOk s a b c).ports = s.ports ∧ (spdmOk s a b c).rings = s.rings ∧ (spdmOk s a b c).cmds = s.cmds ∧ (spdmOk s a b c).tabs = s.tabs ∧
    (spdmOk s a b c).mapu = s.mapu ∧ (spdmOk s a b c).cist = s.cist ∧ (spdmOk s a b c).cache = s.cache ∧ (spdmOk s a b c).med = s.med ∧ (spdmOk s a
    b c).keys = s.keys ∧ (spdmOk s a b c).wear = s.wear ∧ (spdmOk s a b c).drift = s.drift ∧ (spdmOk s a b c).pair = s.pair ∧ (spdmOk s a b c).flt =
    s.flt ∧ (spdmOk s a b c).ag = s.ag ∧ (spdmOk s a b c).qz = s.qz ∧ (spdmOk s a b c).zir = s.zir ∧ (spdmOk s a b c).th = s.th ∧ (spdmOk s a b
    c).beryl = s.beryl ∧ (spdmOk s a b c).sec = s.sec := by
  first
  | (simp [spdmOk]; done)
  | (unfold spdmOk; (try simp only []); (repeat' split) <;> (try intro ht) <;> (simp_all; done); done)

@[simp] theorem releaseBlocks_keeps (s : Sys2Proof.Machine.State) (a : ℕ) (b : ℕ) (c : Sys2Proof.Well) (d : List ℕ) : (releaseBlocks s a b c
    d).pending = s.pending ∧ (releaseBlocks s a b c d).th = s.th := by
  first
  | (simp [releaseBlocks]; done)
  | (unfold releaseBlocks; (try simp only []); (repeat' split) <;> (try intro ht) <;> (simp_all; done); done)

@[simp] theorem presentOpen_keeps (s : Sys2Proof.Machine.State) : (presentOpen s).pending = s.pending ∧ (presentOpen s).out = s.out ∧ (presentOpen
    s).freeCtr = s.freeCtr ∧ (presentOpen s).regs = s.regs ∧ (presentOpen s).req = s.req ∧ (presentOpen s).pwr = s.pwr ∧ (presentOpen s).ports =
    s.ports ∧ (presentOpen s).rings = s.rings ∧ (presentOpen s).cmds = s.cmds ∧ (presentOpen s).tabs = s.tabs ∧ (presentOpen s).mapu = s.mapu ∧
    (presentOpen s).cist = s.cist ∧ (presentOpen s).cache = s.cache ∧ (presentOpen s).med = s.med ∧ (presentOpen s).keys = s.keys ∧ (presentOpen
    s).wear = s.wear ∧ (presentOpen s).drift = s.drift ∧ (presentOpen s).pair = s.pair ∧ (presentOpen s).flt = s.flt ∧ (presentOpen s).ag = s.ag ∧
    (presentOpen s).qz = s.qz ∧ (presentOpen s).zir = s.zir ∧ (presentOpen s).th = s.th ∧ (presentOpen s).sec = s.sec := by
  first
  | (simp [presentOpen]; done)
  | (unfold presentOpen; (try simp only []); (repeat' split) <;> (try intro ht) <;> (simp_all; done); done)

@[simp] theorem sendOpen_keeps (s : Sys2Proof.Machine.State) (a : ℕ) (b : ℕ) (c : List ℕ) : (sendOpen s a b c).pending = s.pending ∧ (sendOpen s a b
    c).freeCtr = s.freeCtr ∧ (sendOpen s a b c).regs = s.regs ∧ (sendOpen s a b c).req = s.req ∧ (sendOpen s a b c).pwr = s.pwr ∧ (sendOpen s a b
    c).ports = s.ports ∧ (sendOpen s a b c).rings = s.rings ∧ (sendOpen s a b c).cmds = s.cmds ∧ (sendOpen s a b c).tabs = s.tabs ∧ (sendOpen s a b
    c).mapu = s.mapu ∧ (sendOpen s a b c).cist = s.cist ∧ (sendOpen s a b c).cache = s.cache ∧ (sendOpen s a b c).med = s.med ∧ (sendOpen s a b
    c).keys = s.keys ∧ (sendOpen s a b c).wear = s.wear ∧ (sendOpen s a b c).drift = s.drift ∧ (sendOpen s a b c).flt = s.flt ∧ (sendOpen s a b
    c).ag = s.ag ∧ (sendOpen s a b c).qz = s.qz ∧ (sendOpen s a b c).zir = s.zir ∧ (sendOpen s a b c).th = s.th ∧ (sendOpen s a b c).beryl = s.beryl
    ∧ (sendOpen s a b c).sec = s.sec := by
  fun_induction sendOpen s a b c <;> (first | (simp_all; done) | simp_all +zetaDelta | (simp_all +zetaDelta; done))

@[simp] theorem sendOpenList_keeps (s : Sys2Proof.Machine.State) (a : List ℕ) : (sendOpenList s a).pending = s.pending ∧ (sendOpenList s a).freeCtr
    = s.freeCtr ∧ (sendOpenList s a).regs = s.regs ∧ (sendOpenList s a).req = s.req ∧ (sendOpenList s a).pwr = s.pwr ∧ (sendOpenList s a).ports =
    s.ports ∧ (sendOpenList s a).rings = s.rings ∧ (sendOpenList s a).cmds = s.cmds ∧ (sendOpenList s a).tabs = s.tabs ∧ (sendOpenList s a).mapu =
    s.mapu ∧ (sendOpenList s a).cist = s.cist ∧ (sendOpenList s a).cache = s.cache ∧ (sendOpenList s a).med = s.med ∧ (sendOpenList s a).keys =
    s.keys ∧ (sendOpenList s a).wear = s.wear ∧ (sendOpenList s a).drift = s.drift ∧ (sendOpenList s a).flt = s.flt ∧ (sendOpenList s a).ag = s.ag ∧
    (sendOpenList s a).qz = s.qz ∧ (sendOpenList s a).zir = s.zir ∧ (sendOpenList s a).th = s.th ∧ (sendOpenList s a).beryl = s.beryl ∧
    (sendOpenList s a).sec = s.sec := by
  first
  | (simp [sendOpenList]; done)
  | (unfold sendOpenList; (try simp only []); (repeat' split) <;> (try intro ht) <;> (simp_all; done); done)

@[simp] theorem sendJoin_keeps (s : Sys2Proof.Machine.State) : (sendJoin s).pending = s.pending ∧ (sendJoin s).freeCtr = s.freeCtr ∧ (sendJoin
    s).regs = s.regs ∧ (sendJoin s).req = s.req ∧ (sendJoin s).pwr = s.pwr ∧ (sendJoin s).ports = s.ports ∧ (sendJoin s).rings = s.rings ∧ (sendJoin
    s).cmds = s.cmds ∧ (sendJoin s).tabs = s.tabs ∧ (sendJoin s).mapu = s.mapu ∧ (sendJoin s).cist = s.cist ∧ (sendJoin s).cache = s.cache ∧
    (sendJoin s).med = s.med ∧ (sendJoin s).keys = s.keys ∧ (sendJoin s).wear = s.wear ∧ (sendJoin s).drift = s.drift ∧ (sendJoin s).flt = s.flt ∧
    (sendJoin s).ag = s.ag ∧ (sendJoin s).qz = s.qz ∧ (sendJoin s).zir = s.zir ∧ (sendJoin s).th = s.th ∧ (sendJoin s).sec = s.sec := by
  first
  | (simp [sendJoin]; done)
  | (unfold sendJoin; (try simp only []); (repeat' split) <;> (try intro ht) <;> (simp_all; done); done)

@[simp] theorem enterJoining_keeps (s : Sys2Proof.Machine.State) : (enterJoining s).pending = s.pending ∧ (enterJoining s).freeCtr = s.freeCtr ∧
    (enterJoining s).tabs = s.tabs ∧ (enterJoining s).mapu = s.mapu ∧ (enterJoining s).cache = s.cache ∧ (enterJoining s).med = s.med ∧
    (enterJoining s).keys = s.keys ∧ (enterJoining s).wear = s.wear ∧ (enterJoining s).drift = s.drift ∧ (enterJoining s).zir = s.zir ∧
    (enterJoining s).th = s.th ∧ (enterJoining s).sec = s.sec := by
  first
  | (simp [enterJoining]; done)
  | (unfold enterJoining; (try simp only []); (repeat' split) <;> (try intro ht) <;> (simp_all; done); done)

@[simp] theorem startJoining_keeps (s : Sys2Proof.Machine.State) : (startJoining s).pending = s.pending ∧ (startJoining s).freeCtr = s.freeCtr ∧
    (startJoining s).keys = s.keys ∧ (startJoining s).th = s.th ∧ (startJoining s).sec = s.sec := by
  first
  | (simp [startJoining]; done)
  | (unfold startJoining; (try simp only []); (repeat' split) <;> (try intro ht) <;> (simp_all; done); done)

theorem tryAdmit_keeps (s : Sys2Proof.Machine.State) (a : WaitW) : ∀ t, tryAdmit s a = some t → t.pending = s.pending ∧ t.keys = s.keys ∧ t.th =
    s.th ∧ t.sec = s.sec := by
  intro t ht; first
  | (simp [tryAdmit]; done)
  | (unfold tryAdmit at ht; revert ht; (try simp only []); (repeat' split) <;> (try intro ht) <;> ((try have q0 := admitWrite_keeps _ _ _ ‹_›); (try (first | (injection ht with ht; subst ht; simp_all; done) | (subst ht; simp_all; done) | (subst_vars; simp_all; done) | simp_all))); done)

theorem admitRound_keeps (s : Sys2Proof.Machine.State) (a : ℕ) (b : ℕ) (c : ℕ) (d : ℕ) : ∀ t, admitRound s a b c d = some t → t.pending = s.pending
    ∧ t.keys = s.keys ∧ t.th = s.th ∧ t.sec = s.sec := by
  intro t ht
  induction b generalizing c d with
  | zero => simp [admitRound] at ht
  | succ n ih =>
    unfold admitRound at ht; dsimp only at ht; split at ht
    · exact ih _ _ ht
    · split at ht
      · exact ih _ _ ht
      · split at ht
        · rename_i h; have q := tryAdmit_keeps _ _ _ h; injection ht with ht; subst ht; simp_all
        · exact ih _ _ ht

@[simp] theorem bitmapAdd_keeps (s : Sys2Proof.Machine.State) (a : List ℕ) : (bitmapAdd s a).pending = s.pending ∧ (bitmapAdd s a).out = s.out ∧
    (bitmapAdd s a).freeCtr = s.freeCtr ∧ (bitmapAdd s a).regs = s.regs ∧ (bitmapAdd s a).req = s.req ∧ (bitmapAdd s a).pwr = s.pwr ∧ (bitmapAdd s
    a).ports = s.ports ∧ (bitmapAdd s a).rings = s.rings ∧ (bitmapAdd s a).cmds = s.cmds ∧ (bitmapAdd s a).tabs = s.tabs ∧ (bitmapAdd s a).mapu =
    s.mapu ∧ (bitmapAdd s a).cist = s.cist ∧ (bitmapAdd s a).cache = s.cache ∧ (bitmapAdd s a).med = s.med ∧ (bitmapAdd s a).keys = s.keys ∧
    (bitmapAdd s a).wear = s.wear ∧ (bitmapAdd s a).drift = s.drift ∧ (bitmapAdd s a).flt = s.flt ∧ (bitmapAdd s a).ag = s.ag ∧ (bitmapAdd s a).qz =
    s.qz ∧ (bitmapAdd s a).zir = s.zir ∧ (bitmapAdd s a).th = s.th ∧ (bitmapAdd s a).beryl = s.beryl ∧ (bitmapAdd s a).sec = s.sec := by
  first
  | (simp [bitmapAdd]; done)
  | (unfold bitmapAdd; (try simp only []); (repeat' split) <;> (try intro ht) <;> (simp_all; done); done)

@[simp] theorem enterSolo_keeps (s : Sys2Proof.Machine.State) (a : ℕ) (b : List ℕ) (c : Bool) : (enterSolo s a b c).pending = s.pending ∧ (enterSolo
    s a b c).th = s.th := by
  first
  | (simp [enterSolo]; done)
  | (unfold enterSolo; (try simp only []); (repeat' split) <;> (try intro ht) <;> (simp_all; done); done)

theorem beginMove_keeps (s : Sys2Proof.Machine.State) (a : ℕ) (b : MoveKind) (c : Sys2Proof.MoveCause) (d : Bool) (e : Bool) : ∀ t, beginMove s a b
    c d e = some t → t.pending = s.pending ∧ t.req = s.req ∧ t.pwr = s.pwr ∧ t.rings = s.rings ∧ t.cmds = s.cmds ∧ t.keys = s.keys ∧ t.drift =
    s.drift ∧ t.flt = s.flt ∧ t.ag = s.ag ∧ t.th = s.th ∧ t.beryl = s.beryl ∧ t.sec = s.sec := by
  intro t ht; unfold beginMove at ht; dsimp only at ht; split at ht
  · cases ht
  · split at ht
    · cases ht
    · rename_i h; have q := takeTile_keeps _ _ _ _ _ h
      (repeat' split at ht) <;> (try (injection ht with ht; subst ht)) <;> simp_all

@[simp] theorem takeTemps.putTemp_keeps (s : Sys2Proof.Machine.State) (a : ℕ) (b : ℕ) (c : ℤ) : (takeTemps.putTemp s a b c).pending = s.pending ∧
    (takeTemps.putTemp s a b c).out = s.out ∧ (takeTemps.putTemp s a b c).freeCtr = s.freeCtr ∧ (takeTemps.putTemp s a b c).regs = s.regs ∧
    (takeTemps.putTemp s a b c).req = s.req ∧ (takeTemps.putTemp s a b c).pwr = s.pwr ∧ (takeTemps.putTemp s a b c).ports = s.ports ∧
    (takeTemps.putTemp s a b c).rings = s.rings ∧ (takeTemps.putTemp s a b c).cmds = s.cmds ∧ (takeTemps.putTemp s a b c).tabs = s.tabs ∧
    (takeTemps.putTemp s a b c).mapu = s.mapu ∧ (takeTemps.putTemp s a b c).cist = s.cist ∧ (takeTemps.putTemp s a b c).cache = s.cache ∧
    (takeTemps.putTemp s a b c).med = s.med ∧ (takeTemps.putTemp s a b c).keys = s.keys ∧ (takeTemps.putTemp s a b c).wear = s.wear ∧
    (takeTemps.putTemp s a b c).pair = s.pair ∧ (takeTemps.putTemp s a b c).flt = s.flt ∧ (takeTemps.putTemp s a b c).ag = s.ag ∧ (takeTemps.putTemp
    s a b c).qz = s.qz ∧ (takeTemps.putTemp s a b c).zir = s.zir ∧ (takeTemps.putTemp s a b c).th = s.th ∧ (takeTemps.putTemp s a b c).beryl =
    s.beryl ∧ (takeTemps.putTemp s a b c).sec = s.sec := by
  first
  | (simp [takeTemps.putTemp]; done)
  | (unfold takeTemps.putTemp; (try simp only []); (repeat' split) <;> (try intro ht) <;> (simp_all; done); done)

@[simp] theorem takeTemps_keeps (s : Sys2Proof.Machine.State) (a : ℕ) (b : ℕ) (c : List (Option ℤ)) : (takeTemps s a b c).pending = s.pending ∧
    (takeTemps s a b c).freeCtr = s.freeCtr ∧ (takeTemps s a b c).tabs = s.tabs ∧ (takeTemps s a b c).mapu = s.mapu ∧ (takeTemps s a b c).cist =
    s.cist ∧ (takeTemps s a b c).cache = s.cache ∧ (takeTemps s a b c).med = s.med ∧ (takeTemps s a b c).keys = s.keys ∧ (takeTemps s a b c).wear =
    s.wear ∧ (takeTemps s a b c).qz = s.qz ∧ (takeTemps s a b c).zir = s.zir ∧ (takeTemps s a b c).th = s.th ∧ (takeTemps s a b c).sec = s.sec := by
  induction c generalizing s b with
  | nil => simp [takeTemps]
  | cons x r ih => unfold takeTemps; dsimp only; split <;> simp only [ih] <;> (repeat' split) <;> simp

@[simp] theorem beginSync_keeps (s : Sys2Proof.Machine.State) : (beginSync s).pending = s.pending ∧ (beginSync s).freeCtr = s.freeCtr ∧ (beginSync
    s).tabs = s.tabs ∧ (beginSync s).mapu = s.mapu ∧ (beginSync s).cache = s.cache ∧ (beginSync s).med = s.med ∧ (beginSync s).keys = s.keys ∧
    (beginSync s).wear = s.wear ∧ (beginSync s).drift = s.drift ∧ (beginSync s).zir = s.zir ∧ (beginSync s).th = s.th ∧ (beginSync s).sec = s.sec := by
  first
  | (simp [beginSync]; done)
  | (unfold beginSync; (try simp only []); (repeat' split) <;> (try intro ht) <;> (simp_all; done); done)

@[simp] theorem takeSet_keeps (s : Sys2Proof.Machine.State) : (takeSet s).pending = s.pending ∧ (takeSet s).freeCtr = s.freeCtr ∧ (takeSet s).tabs =
    s.tabs ∧ (takeSet s).mapu = s.mapu ∧ (takeSet s).cache = s.cache ∧ (takeSet s).med = s.med ∧ (takeSet s).keys = s.keys ∧ (takeSet s).wear =
    s.wear ∧ (takeSet s).drift = s.drift ∧ (takeSet s).zir = s.zir ∧ (takeSet s).th = s.th ∧ (takeSet s).sec = s.sec := by
  first
  | (simp [takeSet]; done)
  | (unfold takeSet; (try simp only []); (repeat' split) <;> (try intro ht) <;> (simp_all; done); done)

@[simp] theorem attestRun_keeps (a : Bool) (s : Sys2Proof.Machine.State) (b : Running) (c : Desc) : (attestRun a s b c).pending = s.pending ∧
    (attestRun a s b c).req = s.req ∧ (attestRun a s b c).pwr = s.pwr ∧ (attestRun a s b c).ports = s.ports ∧ (attestRun a s b c).tabs = s.tabs ∧
    (attestRun a s b c).mapu = s.mapu ∧ (attestRun a s b c).cist = s.cist ∧ (attestRun a s b c).cache = s.cache ∧ (attestRun a s b c).med = s.med ∧
    (attestRun a s b c).keys = s.keys ∧ (attestRun a s b c).wear = s.wear ∧ (attestRun a s b c).drift = s.drift ∧ (attestRun a s b c).pair = s.pair
    ∧ (attestRun a s b c).flt = s.flt ∧ (attestRun a s b c).ag = s.ag ∧ (attestRun a s b c).qz = s.qz ∧ (attestRun a s b c).zir = s.zir ∧ (attestRun
    a s b c).th = s.th ∧ (attestRun a s b c).beryl = s.beryl ∧ (attestRun a s b c).sec = s.sec := by
  first
  | (simp [attestRun]; done)
  | (unfold attestRun; (try simp only []); (repeat' split) <;> (try intro ht) <;> (simp_all; done); done)

@[simp] theorem addTac_keeps (s : Sys2Proof.Machine.State) (a : ℕ) (b : ℤ) : (addTac s a b).pending = s.pending ∧ (addTac s a b).out = s.out ∧
    (addTac s a b).freeCtr = s.freeCtr ∧ (addTac s a b).regs = s.regs ∧ (addTac s a b).req = s.req ∧ (addTac s a b).pwr = s.pwr ∧ (addTac s a
    b).ports = s.ports ∧ (addTac s a b).rings = s.rings ∧ (addTac s a b).cmds = s.cmds ∧ (addTac s a b).tabs = s.tabs ∧ (addTac s a b).mapu = s.mapu
    ∧ (addTac s a b).cist = s.cist ∧ (addTac s a b).cache = s.cache ∧ (addTac s a b).med = s.med ∧ (addTac s a b).keys = s.keys ∧ (addTac s a
    b).wear = s.wear ∧ (addTac s a b).pair = s.pair ∧ (addTac s a b).flt = s.flt ∧ (addTac s a b).ag = s.ag ∧ (addTac s a b).qz = s.qz ∧ (addTac s a
    b).zir = s.zir ∧ (addTac s a b).th = s.th ∧ (addTac s a b).beryl = s.beryl ∧ (addTac s a b).sec = s.sec := by
  first
  | (simp [addTac]; done)
  | (unfold addTac; (try simp only []); (repeat' split) <;> (try intro ht) <;> (simp_all; done); done)

@[simp] theorem enterOff_keeps (s : Sys2Proof.Machine.State) : (enterOff s).pending = s.pending ∧ (enterOff s).out = s.out ∧ (enterOff s).freeCtr =
    s.freeCtr ∧ (enterOff s).keys = s.keys ∧ (enterOff s).sec = s.sec := by
  first
  | (simp [enterOff]; done)
  | (unfold enterOff; (try simp only []); (repeat' split) <;> (try intro ht) <;> (simp_all; done); done)

@[simp] theorem modCkpt_keeps (s : Sys2Proof.Machine.State) (a : Ckpt → Ckpt) : (modCkpt s a).pending = s.pending ∧ (modCkpt s a).out = s.out ∧
    (modCkpt s a).freeCtr = s.freeCtr ∧ (modCkpt s a).regs = s.regs ∧ (modCkpt s a).req = s.req ∧ (modCkpt s a).pwr = s.pwr ∧ (modCkpt s a).ports =
    s.ports ∧ (modCkpt s a).rings = s.rings ∧ (modCkpt s a).cmds = s.cmds ∧ (modCkpt s a).tabs = s.tabs ∧ (modCkpt s a).cist = s.cist ∧ (modCkpt s
    a).cache = s.cache ∧ (modCkpt s a).med = s.med ∧ (modCkpt s a).keys = s.keys ∧ (modCkpt s a).wear = s.wear ∧ (modCkpt s a).drift = s.drift ∧
    (modCkpt s a).pair = s.pair ∧ (modCkpt s a).flt = s.flt ∧ (modCkpt s a).ag = s.ag ∧ (modCkpt s a).qz = s.qz ∧ (modCkpt s a).zir = s.zir ∧
    (modCkpt s a).th = s.th ∧ (modCkpt s a).beryl = s.beryl ∧ (modCkpt s a).sec = s.sec := by
  first
  | (simp [modCkpt]; done)
  | (unfold modCkpt; (try simp only []); (repeat' split) <;> (try intro ht) <;> (simp_all; done); done)

@[simp] theorem takeEyes_keeps (s : Sys2Proof.Machine.State) (a : ℕ) (b : List (ℕ × ℕ)) : (takeEyes s a b).pending = s.pending ∧ (takeEyes s a
    b).freeCtr = s.freeCtr ∧ (takeEyes s a b).tabs = s.tabs ∧ (takeEyes s a b).mapu = s.mapu ∧ (takeEyes s a b).cist = s.cist ∧ (takeEyes s a
    b).cache = s.cache ∧ (takeEyes s a b).med = s.med ∧ (takeEyes s a b).keys = s.keys ∧ (takeEyes s a b).wear = s.wear ∧ (takeEyes s a b).drift =
    s.drift ∧ (takeEyes s a b).qz = s.qz ∧ (takeEyes s a b).th = s.th ∧ (takeEyes s a b).sec = s.sec := by
  fun_induction takeEyes s a b <;> (first | (simp_all; done) | simp_all +zetaDelta | (simp_all +zetaDelta; done))

@[simp] theorem markSource_keeps (s : Sys2Proof.Machine.State) (a : ℕ) (b : ℕ) : (markSource s a b).pending = s.pending ∧ (markSource s a b).out =
    s.out ∧ (markSource s a b).freeCtr = s.freeCtr ∧ (markSource s a b).regs = s.regs ∧ (markSource s a b).req = s.req ∧ (markSource s a b).pwr =
    s.pwr ∧ (markSource s a b).ports = s.ports ∧ (markSource s a b).rings = s.rings ∧ (markSource s a b).cmds = s.cmds ∧ (markSource s a b).tabs =
    s.tabs ∧ (markSource s a b).mapu = s.mapu ∧ (markSource s a b).cist = s.cist ∧ (markSource s a b).cache = s.cache ∧ (markSource s a b).med =
    s.med ∧ (markSource s a b).keys = s.keys ∧ (markSource s a b).drift = s.drift ∧ (markSource s a b).pair = s.pair ∧ (markSource s a b).flt =
    s.flt ∧ (markSource s a b).ag = s.ag ∧ (markSource s a b).qz = s.qz ∧ (markSource s a b).zir = s.zir ∧ (markSource s a b).th = s.th ∧
    (markSource s a b).beryl = s.beryl ∧ (markSource s a b).sec = s.sec := by
  first
  | (simp [markSource]; done)
  | (unfold markSource; (try simp only []); (repeat' split) <;> (try intro ht) <;> (simp_all; done); done)

@[simp] theorem startCkpt_keeps (s : Sys2Proof.Machine.State) : (startCkpt s).pending = s.pending ∧ (startCkpt s).out = s.out ∧ (startCkpt
    s).freeCtr = s.freeCtr ∧ (startCkpt s).regs = s.regs ∧ (startCkpt s).req = s.req ∧ (startCkpt s).pwr = s.pwr ∧ (startCkpt s).ports = s.ports ∧
    (startCkpt s).rings = s.rings ∧ (startCkpt s).tabs = s.tabs ∧ (startCkpt s).cist = s.cist ∧ (startCkpt s).cache = s.cache ∧ (startCkpt s).med =
    s.med ∧ (startCkpt s).keys = s.keys ∧ (startCkpt s).wear = s.wear ∧ (startCkpt s).drift = s.drift ∧ (startCkpt s).pair = s.pair ∧ (startCkpt
    s).flt = s.flt ∧ (startCkpt s).ag = s.ag ∧ (startCkpt s).qz = s.qz ∧ (startCkpt s).zir = s.zir ∧ (startCkpt s).th = s.th ∧ (startCkpt s).beryl =
    s.beryl ∧ (startCkpt s).sec = s.sec := by
  first
  | (simp [startCkpt]; done)
  | (unfold startCkpt; (try simp only []); (repeat' split) <;> (try intro ht) <;> (simp_all; done); done)

@[simp] theorem readJLine_keeps (s : Sys2Proof.Machine.State) (a : ℕ) (b : ℕ) (c : ℕ) (d : ResList) : (readJLine s a b c d).1.pending = s.pending ∧
    (readJLine s a b c d).1.keys = s.keys ∧ (readJLine s a b c d).1.th = s.th ∧ (readJLine s a b c d).1.sec = s.sec := by
  first
  | (simp [readJLine]; done)
  | (unfold readJLine; (try simp only []); (repeat' split) <;> (try intro ht) <;> ((try (have p := congrArg Prod.fst ‹_ = (_, _)›; simp only [] at p; subst p)); (try (first | (injection ht with ht; subst ht; simp_all; done) | (subst ht; simp_all; done) | (subst_vars; simp_all; done) | simp_all))); done)

@[simp] theorem checkWays_keeps (s : Sys2Proof.Machine.State) (a : ℕ) : (checkWays s a).pending = s.pending ∧ (checkWays s a).freeCtr = s.freeCtr ∧
    (checkWays s a).keys = s.keys ∧ (checkWays s a).th = s.th ∧ (checkWays s a).sec = s.sec := by
  first
  | (simp [checkWays]; done)
  | (unfold checkWays; (try simp only []); (repeat' split) <;> (try intro ht) <;> (simp_all; done); done)

@[simp] theorem latchReads_keeps (s : Sys2Proof.Machine.State) (a : ℕ) : (latchReads s a).pending = s.pending ∧ (latchReads s a).out = s.out ∧
    (latchReads s a).freeCtr = s.freeCtr ∧ (latchReads s a).regs = s.regs ∧ (latchReads s a).pwr = s.pwr ∧ (latchReads s a).ports = s.ports ∧
    (latchReads s a).rings = s.rings ∧ (latchReads s a).cmds = s.cmds ∧ (latchReads s a).tabs = s.tabs ∧ (latchReads s a).mapu = s.mapu ∧
    (latchReads s a).cist = s.cist ∧ (latchReads s a).cache = s.cache ∧ (latchReads s a).med = s.med ∧ (latchReads s a).keys = s.keys ∧ (latchReads
    s a).wear = s.wear ∧ (latchReads s a).drift = s.drift ∧ (latchReads s a).pair = s.pair ∧ (latchReads s a).flt = s.flt ∧ (latchReads s a).ag =
    s.ag ∧ (latchReads s a).qz = s.qz ∧ (latchReads s a).zir = s.zir ∧ (latchReads s a).th = s.th ∧ (latchReads s a).beryl = s.beryl ∧ (latchReads s
    a).sec = s.sec := by
  first
  | (simp [latchReads]; done)
  | (unfold latchReads; (try simp only []); (repeat' split) <;> (try intro ht) <;> (simp_all; done); done)

@[simp] theorem nextDseq_keeps (s : Sys2Proof.Machine.State) : (nextDseq s).pending = s.pending ∧ (nextDseq s).out = s.out ∧ (nextDseq s).freeCtr =
    s.freeCtr ∧ (nextDseq s).regs = s.regs ∧ (nextDseq s).req = s.req ∧ (nextDseq s).pwr = s.pwr ∧ (nextDseq s).ports = s.ports ∧ (nextDseq s).rings
    = s.rings ∧ (nextDseq s).cmds = s.cmds ∧ (nextDseq s).tabs = s.tabs ∧ (nextDseq s).mapu = s.mapu ∧ (nextDseq s).cist = s.cist ∧ (nextDseq
    s).cache = s.cache ∧ (nextDseq s).med = s.med ∧ (nextDseq s).keys = s.keys ∧ (nextDseq s).wear = s.wear ∧ (nextDseq s).drift = s.drift ∧
    (nextDseq s).pair = s.pair ∧ (nextDseq s).flt = s.flt ∧ (nextDseq s).ag = s.ag ∧ (nextDseq s).zir = s.zir ∧ (nextDseq s).th = s.th ∧ (nextDseq
    s).beryl = s.beryl ∧ (nextDseq s).sec = s.sec := by
  first
  | (simp [nextDseq]; done)
  | (unfold nextDseq; (try simp only []); (repeat' split) <;> (try intro ht) <;> (simp_all; done); done)

@[simp] theorem snapshotRun_keeps (a : Bool) (s : Sys2Proof.Machine.State) (b : Running) (c : Desc) : (snapshotRun a s b c).pending = s.pending ∧
    (snapshotRun a s b c).freeCtr = s.freeCtr ∧ (snapshotRun a s b c).req = s.req ∧ (snapshotRun a s b c).pwr = s.pwr ∧ (snapshotRun a s b c).ports
    = s.ports ∧ (snapshotRun a s b c).tabs = s.tabs ∧ (snapshotRun a s b c).mapu = s.mapu ∧ (snapshotRun a s b c).cist = s.cist ∧ (snapshotRun a s b
    c).cache = s.cache ∧ (snapshotRun a s b c).med = s.med ∧ (snapshotRun a s b c).keys = s.keys ∧ (snapshotRun a s b c).wear = s.wear ∧
    (snapshotRun a s b c).drift = s.drift ∧ (snapshotRun a s b c).pair = s.pair ∧ (snapshotRun a s b c).flt = s.flt ∧ (snapshotRun a s b c).ag =
    s.ag ∧ (snapshotRun a s b c).zir = s.zir ∧ (snapshotRun a s b c).th = s.th ∧ (snapshotRun a s b c).beryl = s.beryl ∧ (snapshotRun a s b c).sec =
    s.sec := by
  first
  | (simp [snapshotRun]; done)
  | (unfold snapshotRun; (try simp only []); (repeat' split) <;> (try intro ht) <;> (simp_all; done); done)

@[simp] theorem ckptDead_keeps (s : Sys2Proof.Machine.State) : (ckptDead s).pending = s.pending ∧ (ckptDead s).out = s.out ∧ (ckptDead s).freeCtr =
    s.freeCtr ∧ (ckptDead s).regs = s.regs ∧ (ckptDead s).req = s.req ∧ (ckptDead s).pwr = s.pwr ∧ (ckptDead s).ports = s.ports ∧ (ckptDead s).rings
    = s.rings ∧ (ckptDead s).cmds = s.cmds ∧ (ckptDead s).tabs = s.tabs ∧ (ckptDead s).cist = s.cist ∧ (ckptDead s).cache = s.cache ∧ (ckptDead
    s).med = s.med ∧ (ckptDead s).keys = s.keys ∧ (ckptDead s).wear = s.wear ∧ (ckptDead s).drift = s.drift ∧ (ckptDead s).pair = s.pair ∧ (ckptDead
    s).flt = s.flt ∧ (ckptDead s).ag = s.ag ∧ (ckptDead s).qz = s.qz ∧ (ckptDead s).zir = s.zir ∧ (ckptDead s).th = s.th ∧ (ckptDead s).beryl =
    s.beryl ∧ (ckptDead s).sec = s.sec := by
  first
  | (simp [ckptDead]; done)
  | (unfold ckptDead; (try simp only []); (repeat' split) <;> (try intro ht) <;> (simp_all; done); done)

@[simp] theorem drainStep5_keeps (s : Sys2Proof.Machine.State) (a : Drain) (b : List ℕ) : (drainStep5 s a b).pending = s.pending ∧ (drainStep5 s a
    b).freeCtr = s.freeCtr ∧ (drainStep5 s a b).keys = s.keys ∧ (drainStep5 s a b).qz = s.qz ∧ (drainStep5 s a b).th = s.th ∧ (drainStep5 s a b).sec
    = s.sec := by
  first
  | (simp [drainStep5]; done)
  | (unfold drainStep5; (try simp only []); (repeat' split) <;> (try intro ht) <;> (simp_all; done); done)

@[simp] theorem drainFinish_keeps (s : Sys2Proof.Machine.State) (a : List ℕ) : (drainFinish s a).pending = s.pending ∧ (drainFinish s a).freeCtr =
    s.freeCtr ∧ (drainFinish s a).keys = s.keys ∧ (drainFinish s a).qz = s.qz ∧ (drainFinish s a).th = s.th ∧ (drainFinish s a).sec = s.sec := by
  first
  | (simp [drainFinish]; done)
  | (unfold drainFinish; (try simp only []); (repeat' split) <;> (try intro ht) <;> (simp_all; done); done)

@[simp] theorem closeOp_keeps (s : Sys2Proof.Machine.State) (a : List ℕ) : (closeOp s a).pending = s.pending ∧ (closeOp s a).freeCtr = s.freeCtr ∧
    (closeOp s a).keys = s.keys ∧ (closeOp s a).qz = s.qz ∧ (closeOp s a).th = s.th ∧ (closeOp s a).sec = s.sec := by
  first
  | (simp [closeOp]; done)
  | (unfold closeOp; (try simp only []); (repeat' split) <;> (try intro ht) <;> (simp_all; done); done)

@[simp] theorem pageStored_keeps (s : Sys2Proof.Machine.State) (a : ℕ) (b : Sys2Proof.Page) : (pageStored s a b).pending = s.pending ∧ (pageStored s
    a b).freeCtr = s.freeCtr ∧ (pageStored s a b).tabs = s.tabs ∧ (pageStored s a b).mapu = s.mapu ∧ (pageStored s a b).cist = s.cist ∧ (pageStored
    s a b).cache = s.cache ∧ (pageStored s a b).med = s.med ∧ (pageStored s a b).keys = s.keys ∧ (pageStored s a b).wear = s.wear ∧ (pageStored s a
    b).drift = s.drift ∧ (pageStored s a b).qz = s.qz ∧ (pageStored s a b).zir = s.zir ∧ (pageStored s a b).th = s.th ∧ (pageStored s a b).sec =
    s.sec := by
  first
  | (simp [pageStored]; done)
  | (unfold pageStored; (try simp only []); (repeat' split) <;> (try intro ht) <;> (simp_all; done); done)

@[simp] theorem logMemFail_keeps (s : Sys2Proof.Machine.State) (a : Sys2Proof.AgRec) : (logMemFail s a).pending = s.pending ∧ (logMemFail s
    a).freeCtr = s.freeCtr ∧ (logMemFail s a).tabs = s.tabs ∧ (logMemFail s a).mapu = s.mapu ∧ (logMemFail s a).cist = s.cist ∧ (logMemFail s
    a).cache = s.cache ∧ (logMemFail s a).med = s.med ∧ (logMemFail s a).keys = s.keys ∧ (logMemFail s a).wear = s.wear ∧ (logMemFail s a).drift =
    s.drift ∧ (logMemFail s a).qz = s.qz ∧ (logMemFail s a).zir = s.zir ∧ (logMemFail s a).th = s.th ∧ (logMemFail s a).sec = s.sec := by
  first
  | (simp [logMemFail]; done)
  | (unfold logMemFail; (try simp only []); (repeat' split) <;> (try intro ht) <;> (simp_all; done); done)

@[simp] theorem ringPageBad_keeps (s : Sys2Proof.Machine.State) (a : ℕ) : (ringPageBad s a).pending = s.pending ∧ (ringPageBad s a).freeCtr =
    s.freeCtr ∧ (ringPageBad s a).tabs = s.tabs ∧ (ringPageBad s a).mapu = s.mapu ∧ (ringPageBad s a).cist = s.cist ∧ (ringPageBad s a).cache =
    s.cache ∧ (ringPageBad s a).med = s.med ∧ (ringPageBad s a).keys = s.keys ∧ (ringPageBad s a).wear = s.wear ∧ (ringPageBad s a).drift = s.drift
    ∧ (ringPageBad s a).qz = s.qz ∧ (ringPageBad s a).zir = s.zir ∧ (ringPageBad s a).th = s.th ∧ (ringPageBad s a).sec = s.sec := by
  first
  | (simp [ringPageBad]; done)
  | (unfold ringPageBad; (try simp only []); (repeat' split) <;> (try intro ht) <;> (simp_all; done); done)

@[simp] theorem pageFailed_keeps (s : Sys2Proof.Machine.State) (a : ℕ) (b : Sys2Proof.Page) : (pageFailed s a b).pending = s.pending ∧ (pageFailed s
    a b).freeCtr = s.freeCtr ∧ (pageFailed s a b).tabs = s.tabs ∧ (pageFailed s a b).mapu = s.mapu ∧ (pageFailed s a b).cist = s.cist ∧ (pageFailed
    s a b).cache = s.cache ∧ (pageFailed s a b).med = s.med ∧ (pageFailed s a b).keys = s.keys ∧ (pageFailed s a b).wear = s.wear ∧ (pageFailed s a
    b).drift = s.drift ∧ (pageFailed s a b).qz = s.qz ∧ (pageFailed s a b).zir = s.zir ∧ (pageFailed s a b).th = s.th ∧ (pageFailed s a b).sec =
    s.sec := by
  first
  | (simp [pageFailed]; done)
  | (unfold pageFailed; (try simp only []); (repeat' split) <;> (try intro ht) <;> (simp_all; done); done)

@[simp] theorem berylPageVerifyF_keeps (s : Sys2Proof.Machine.State) (a : Bool) (b : List ℕ) : (berylPageVerifyF s a b).pending = s.pending ∧
    (berylPageVerifyF s a b).freeCtr = s.freeCtr ∧ (berylPageVerifyF s a b).keys = s.keys ∧ (berylPageVerifyF s a b).qz = s.qz ∧ (berylPageVerifyF s
    a b).th = s.th ∧ (berylPageVerifyF s a b).sec = s.sec := by
  first
  | (simp [berylPageVerifyF]; done)
  | (unfold berylPageVerifyF; (try simp only []); (repeat' split) <;> (try intro ht) <;> (simp_all; done); done)

@[simp] theorem ringQuiet_keeps (s : Sys2Proof.Machine.State) (a : ℕ) : (ringQuiet s a).pending = s.pending ∧ (ringQuiet s a).out = s.out ∧
    (ringQuiet s a).freeCtr = s.freeCtr ∧ (ringQuiet s a).req = s.req ∧ (ringQuiet s a).pwr = s.pwr ∧ (ringQuiet s a).ports = s.ports ∧ (ringQuiet s
    a).cmds = s.cmds ∧ (ringQuiet s a).tabs = s.tabs ∧ (ringQuiet s a).mapu = s.mapu ∧ (ringQuiet s a).cist = s.cist ∧ (ringQuiet s a).cache =
    s.cache ∧ (ringQuiet s a).med = s.med ∧ (ringQuiet s a).keys = s.keys ∧ (ringQuiet s a).wear = s.wear ∧ (ringQuiet s a).drift = s.drift ∧
    (ringQuiet s a).pair = s.pair ∧ (ringQuiet s a).flt = s.flt ∧ (ringQuiet s a).ag = s.ag ∧ (ringQuiet s a).qz = s.qz ∧ (ringQuiet s a).zir =
    s.zir ∧ (ringQuiet s a).th = s.th ∧ (ringQuiet s a).beryl = s.beryl ∧ (ringQuiet s a).sec = s.sec := by
  first
  | (simp [ringQuiet]; done)
  | (unfold ringQuiet; (try simp only []); (repeat' split) <;> (try intro ht) <;> (simp_all; done); done)

@[simp] theorem resetFailed_keeps (s : Sys2Proof.Machine.State) (a : ℕ) : (resetFailed s a).pending = s.pending ∧ (resetFailed s a).freeCtr =
    s.freeCtr ∧ (resetFailed s a).cist = s.cist ∧ (resetFailed s a).cache = s.cache ∧ (resetFailed s a).keys = s.keys ∧ (resetFailed s a).drift =
    s.drift ∧ (resetFailed s a).qz = s.qz ∧ (resetFailed s a).th = s.th ∧ (resetFailed s a).sec = s.sec := by
  first
  | (simp [resetFailed]; done)
  | (unfold resetFailed; (try simp only []); (repeat' split) <;> (try intro ht) <;> (simp_all; done); done)

@[simp] theorem clearTx_keeps (s : Sys2Proof.Machine.State) : (clearTx s).pending = s.pending ∧ (clearTx s).out = s.out ∧ (clearTx s).freeCtr =
    s.freeCtr ∧ (clearTx s).regs = s.regs ∧ (clearTx s).req = s.req ∧ (clearTx s).pwr = s.pwr ∧ (clearTx s).ports = s.ports ∧ (clearTx s).rings =
    s.rings ∧ (clearTx s).cmds = s.cmds ∧ (clearTx s).tabs = s.tabs ∧ (clearTx s).mapu = s.mapu ∧ (clearTx s).cist = s.cist ∧ (clearTx s).cache =
    s.cache ∧ (clearTx s).med = s.med ∧ (clearTx s).keys = s.keys ∧ (clearTx s).wear = s.wear ∧ (clearTx s).drift = s.drift ∧ (clearTx s).flt =
    s.flt ∧ (clearTx s).ag = s.ag ∧ (clearTx s).qz = s.qz ∧ (clearTx s).zir = s.zir ∧ (clearTx s).th = s.th ∧ (clearTx s).beryl = s.beryl ∧ (clearTx
    s).sec = s.sec := by
  first
  | (simp [clearTx]; done)
  | (unfold clearTx; (try simp only []); (repeat' split) <;> (try intro ht) <;> (simp_all; done); done)

@[simp] theorem dropLink_keeps (s : Sys2Proof.Machine.State) : (dropLink s).pending = s.pending ∧ (dropLink s).out = s.out ∧ (dropLink s).freeCtr =
    s.freeCtr ∧ (dropLink s).regs = s.regs ∧ (dropLink s).req = s.req ∧ (dropLink s).pwr = s.pwr ∧ (dropLink s).ports = s.ports ∧ (dropLink s).rings
    = s.rings ∧ (dropLink s).cmds = s.cmds ∧ (dropLink s).tabs = s.tabs ∧ (dropLink s).mapu = s.mapu ∧ (dropLink s).cist = s.cist ∧ (dropLink
    s).cache = s.cache ∧ (dropLink s).med = s.med ∧ (dropLink s).keys = s.keys ∧ (dropLink s).wear = s.wear ∧ (dropLink s).drift = s.drift ∧
    (dropLink s).flt = s.flt ∧ (dropLink s).ag = s.ag ∧ (dropLink s).qz = s.qz ∧ (dropLink s).zir = s.zir ∧ (dropLink s).th = s.th ∧ (dropLink
    s).beryl = s.beryl ∧ (dropLink s).sec = s.sec := by
  first
  | (simp [dropLink]; done)
  | (unfold dropLink; (try simp only []); (repeat' split) <;> (try intro ht) <;> (simp_all; done); done)

@[simp] theorem preImage_keeps (s : Sys2Proof.Machine.State) (a : ℕ) : (preImage s a).pending = s.pending ∧ (preImage s a).out = s.out ∧ (preImage s
    a).freeCtr = s.freeCtr ∧ (preImage s a).regs = s.regs ∧ (preImage s a).req = s.req ∧ (preImage s a).pwr = s.pwr ∧ (preImage s a).ports = s.ports
    ∧ (preImage s a).rings = s.rings ∧ (preImage s a).cmds = s.cmds ∧ (preImage s a).tabs = s.tabs ∧ (preImage s a).mapu = s.mapu ∧ (preImage s
    a).cist = s.cist ∧ (preImage s a).cache = s.cache ∧ (preImage s a).med = s.med ∧ (preImage s a).keys = s.keys ∧ (preImage s a).wear = s.wear ∧
    (preImage s a).drift = s.drift ∧ (preImage s a).pair = s.pair ∧ (preImage s a).flt = s.flt ∧ (preImage s a).ag = s.ag ∧ (preImage s a).qz = s.qz
    ∧ (preImage s a).zir = s.zir ∧ (preImage s a).th = s.th ∧ (preImage s a).sec = s.sec := by
  first
  | (simp [preImage]; done)
  | (unfold preImage; (try simp only []); (repeat' split) <;> (try intro ht) <;> (simp_all; done); done)

@[simp] theorem resumeSeq_keeps (s : Sys2Proof.Machine.State) : (resumeSeq s).pending = s.pending ∧ (resumeSeq s).freeCtr = s.freeCtr ∧ (resumeSeq
    s).req = s.req ∧ (resumeSeq s).ports = s.ports ∧ (resumeSeq s).tabs = s.tabs ∧ (resumeSeq s).mapu = s.mapu ∧ (resumeSeq s).cist = s.cist ∧
    (resumeSeq s).cache = s.cache ∧ (resumeSeq s).med = s.med ∧ (resumeSeq s).keys = s.keys ∧ (resumeSeq s).wear = s.wear ∧ (resumeSeq s).drift =
    s.drift ∧ (resumeSeq s).pair = s.pair ∧ (resumeSeq s).flt = s.flt ∧ (resumeSeq s).qz = s.qz ∧ (resumeSeq s).zir = s.zir ∧ (resumeSeq s).th =
    s.th ∧ (resumeSeq s).sec = s.sec := by
  first
  | (simp [resumeSeq]; done)
  | (unfold resumeSeq; (try simp only []); (repeat' split) <;> (try intro ht) <;> (simp_all; done); done)

@[simp] theorem defaultPage_keeps (s : Sys2Proof.Machine.State) (a : ℕ) : (defaultPage s a).pending = s.pending ∧ (defaultPage s a).out = s.out ∧
    (defaultPage s a).freeCtr = s.freeCtr ∧ (defaultPage s a).regs = s.regs ∧ (defaultPage s a).req = s.req ∧ (defaultPage s a).pwr = s.pwr ∧
    (defaultPage s a).ports = s.ports ∧ (defaultPage s a).rings = s.rings ∧ (defaultPage s a).cmds = s.cmds ∧ (defaultPage s a).tabs = s.tabs ∧
    (defaultPage s a).mapu = s.mapu ∧ (defaultPage s a).cist = s.cist ∧ (defaultPage s a).cache = s.cache ∧ (defaultPage s a).med = s.med ∧
    (defaultPage s a).keys = s.keys ∧ (defaultPage s a).wear = s.wear ∧ (defaultPage s a).drift = s.drift ∧ (defaultPage s a).pair = s.pair ∧
    (defaultPage s a).flt = s.flt ∧ (defaultPage s a).ag = s.ag ∧ (defaultPage s a).qz = s.qz ∧ (defaultPage s a).zir = s.zir ∧ (defaultPage s a).th
    = s.th ∧ (defaultPage s a).sec = s.sec := by
  first
  | (simp [defaultPage]; done)
  | (unfold defaultPage; (try simp only []); (repeat' split) <;> (try intro ht) <;> (simp_all; done); done)

@[simp] theorem restorePage_keeps (s : Sys2Proof.Machine.State) (a : ℕ) : (restorePage s a).pending = s.pending ∧ (restorePage s a).freeCtr =
    s.freeCtr ∧ (restorePage s a).tabs = s.tabs ∧ (restorePage s a).mapu = s.mapu ∧ (restorePage s a).cist = s.cist ∧ (restorePage s a).cache =
    s.cache ∧ (restorePage s a).med = s.med ∧ (restorePage s a).keys = s.keys ∧ (restorePage s a).wear = s.wear ∧ (restorePage s a).drift = s.drift
    ∧ (restorePage s a).qz = s.qz ∧ (restorePage s a).zir = s.zir ∧ (restorePage s a).th = s.th ∧ (restorePage s a).sec = s.sec := by
  first
  | (simp [restorePage]; done)
  | (unfold restorePage; (try simp only []); (repeat' split) <;> (try intro ht) <;> (simp_all; done); done)

@[simp] theorem loadKeys_keeps (s : Sys2Proof.Machine.State) : (loadKeys s).pending = s.pending ∧ (loadKeys s).out = s.out ∧ (loadKeys s).freeCtr =
    s.freeCtr ∧ (loadKeys s).regs = s.regs ∧ (loadKeys s).req = s.req ∧ (loadKeys s).pwr = s.pwr ∧ (loadKeys s).ports = s.ports ∧ (loadKeys s).rings
    = s.rings ∧ (loadKeys s).cmds = s.cmds ∧ (loadKeys s).tabs = s.tabs ∧ (loadKeys s).mapu = s.mapu ∧ (loadKeys s).cist = s.cist ∧ (loadKeys
    s).cache = s.cache ∧ (loadKeys s).med = s.med ∧ (loadKeys s).wear = s.wear ∧ (loadKeys s).drift = s.drift ∧ (loadKeys s).pair = s.pair ∧
    (loadKeys s).flt = s.flt ∧ (loadKeys s).ag = s.ag ∧ (loadKeys s).qz = s.qz ∧ (loadKeys s).zir = s.zir ∧ (loadKeys s).th = s.th ∧ (loadKeys
    s).beryl = s.beryl ∧ (loadKeys s).sec = s.sec := by
  first
  | (simp [loadKeys]; done)
  | (unfold loadKeys; (try simp only []); (repeat' split) <;> (try intro ht) <;> (simp_all; done); done)

@[simp] theorem loadPersist_keeps (s : Sys2Proof.Machine.State) : (loadPersist s).pending = s.pending ∧ (loadPersist s).out = s.out ∧ (loadPersist
    s).freeCtr = s.freeCtr ∧ (loadPersist s).regs = s.regs ∧ (loadPersist s).req = s.req ∧ (loadPersist s).ports = s.ports ∧ (loadPersist s).rings =
    s.rings ∧ (loadPersist s).cmds = s.cmds ∧ (loadPersist s).tabs = s.tabs ∧ (loadPersist s).mapu = s.mapu ∧ (loadPersist s).cist = s.cist ∧
    (loadPersist s).cache = s.cache ∧ (loadPersist s).med = s.med ∧ (loadPersist s).keys = s.keys ∧ (loadPersist s).wear = s.wear ∧ (loadPersist
    s).drift = s.drift ∧ (loadPersist s).pair = s.pair ∧ (loadPersist s).flt = s.flt ∧ (loadPersist s).ag = s.ag ∧ (loadPersist s).qz = s.qz ∧
    (loadPersist s).beryl = s.beryl := by
  first
  | (simp [loadPersist]; done)
  | (unfold loadPersist; (try simp only []); (repeat' split) <;> (try intro ht) <;> (simp_all; done); done)

@[simp] theorem berylRestore_keeps (s : Sys2Proof.Machine.State) (a : List ℕ) (b : List ℕ) : (berylRestore s a b).pending = s.pending ∧
    (berylRestore s a b).freeCtr = s.freeCtr ∧ (berylRestore s a b).tabs = s.tabs ∧ (berylRestore s a b).mapu = s.mapu ∧ (berylRestore s a b).cist =
    s.cist ∧ (berylRestore s a b).cache = s.cache ∧ (berylRestore s a b).med = s.med ∧ (berylRestore s a b).wear = s.wear ∧ (berylRestore s a
    b).drift = s.drift ∧ (berylRestore s a b).qz = s.qz := by
  first
  | (simp [berylRestore]; done)
  | (unfold berylRestore; (try simp only []); (repeat' split) <;> (try intro ht) <;> (simp_all; done); done)

@[simp] theorem takeGasp_keeps (s : Sys2Proof.Machine.State) : (takeGasp s).pending = s.pending ∧ (takeGasp s).freeCtr = s.freeCtr ∧ (takeGasp
    s).tabs = s.tabs ∧ (takeGasp s).mapu = s.mapu ∧ (takeGasp s).cist = s.cist ∧ (takeGasp s).cache = s.cache ∧ (takeGasp s).med = s.med ∧ (takeGasp
    s).keys = s.keys ∧ (takeGasp s).wear = s.wear ∧ (takeGasp s).drift = s.drift ∧ (takeGasp s).qz = s.qz ∧ (takeGasp s).zir = s.zir ∧ (takeGasp
    s).th = s.th ∧ (takeGasp s).sec = s.sec := by
  first
  | (simp [takeGasp]; done)
  | (unfold takeGasp; (try simp only []); (repeat' split) <;> (try intro ht) <;> ((try (have p := congrArg Prod.fst ‹_ = (_, _)›; simp only [] at p; subst p)); (try (first | (injection ht with ht; subst ht; simp_all; done) | (subst ht; simp_all; done) | (subst_vars; simp_all; done) | simp_all))); done)

@[simp] theorem startDeferred_keeps (s : Sys2Proof.Machine.State) (a : ℕ) : (startDeferred s a).pending = s.pending ∧ (startDeferred s a).mapu =
    s.mapu ∧ (startDeferred s a).cist = s.cist ∧ (startDeferred s a).cache = s.cache ∧ (startDeferred s a).med = s.med ∧ (startDeferred s a).wear =
    s.wear ∧ (startDeferred s a).drift = s.drift ∧ (startDeferred s a).qz = s.qz ∧ (startDeferred s a).zir = s.zir ∧ (startDeferred s a).th = s.th ∧
    (startDeferred s a).sec = s.sec := by
  first
  | (simp [startDeferred]; done)
  | (unfold startDeferred; (try simp only []); (repeat' split) <;> (try intro ht) <;> (simp_all; done); done)

@[simp] theorem resetBlock_keeps (s : Sys2Proof.Machine.State) (a : Blk) (b : ℕ) (c : ℕ → Bool) : (resetBlock s a b c).pending = s.pending ∧
    (resetBlock s a b c).out = s.out ∧ (resetBlock s a b c).freeCtr = s.freeCtr ∧ (resetBlock s a b c).req = s.req ∧ (resetBlock s a b c).pwr =
    s.pwr ∧ (resetBlock s a b c).ports = s.ports ∧ (resetBlock s a b c).rings = s.rings ∧ (resetBlock s a b c).cmds = s.cmds ∧ (resetBlock s a b
    c).tabs = s.tabs ∧ (resetBlock s a b c).mapu = s.mapu ∧ (resetBlock s a b c).cist = s.cist ∧ (resetBlock s a b c).cache = s.cache ∧ (resetBlock
    s a b c).med = s.med ∧ (resetBlock s a b c).keys = s.keys ∧ (resetBlock s a b c).wear = s.wear ∧ (resetBlock s a b c).drift = s.drift ∧
    (resetBlock s a b c).pair = s.pair ∧ (resetBlock s a b c).flt = s.flt ∧ (resetBlock s a b c).ag = s.ag ∧ (resetBlock s a b c).qz = s.qz ∧
    (resetBlock s a b c).zir = s.zir ∧ (resetBlock s a b c).th = s.th ∧ (resetBlock s a b c).beryl = s.beryl ∧ (resetBlock s a b c).sec = s.sec := by
  first
  | (simp [resetBlock]; done)
  | (unfold resetBlock; (try simp only []); (repeat' split) <;> (try intro ht) <;> (simp_all; done); done)

@[simp] theorem configRun_keeps (a : Bool) (s : Sys2Proof.Machine.State) (b : Running) (c : Desc) : (configRun a s b c).pending = s.pending ∧
    (configRun a s b c).freeCtr = s.freeCtr ∧ (configRun a s b c).pwr = s.pwr ∧ (configRun a s b c).ports = s.ports ∧ (configRun a s b c).tabs =
    s.tabs ∧ (configRun a s b c).mapu = s.mapu ∧ (configRun a s b c).cist = s.cist ∧ (configRun a s b c).cache = s.cache ∧ (configRun a s b c).med =
    s.med ∧ (configRun a s b c).keys = s.keys ∧ (configRun a s b c).wear = s.wear ∧ (configRun a s b c).drift = s.drift ∧ (configRun a s b c).pair =
    s.pair ∧ (configRun a s b c).flt = s.flt ∧ (configRun a s b c).ag = s.ag ∧ (configRun a s b c).qz = s.qz ∧ (configRun a s b c).zir = s.zir ∧
    (configRun a s b c).th = s.th ∧ (configRun a s b c).beryl = s.beryl ∧ (configRun a s b c).sec = s.sec := by
  first
  | (simp [configRun]; done)
  | (unfold configRun; (try simp only []); (repeat' split) <;> (try intro ht) <;> (simp_all; done); done)

@[simp] theorem flagRefPast_keeps (s : Sys2Proof.Machine.State) : (flagRefPast s).pending = s.pending ∧ (flagRefPast s).out = s.out ∧ (flagRefPast
    s).freeCtr = s.freeCtr ∧ (flagRefPast s).req = s.req ∧ (flagRefPast s).pwr = s.pwr ∧ (flagRefPast s).ports = s.ports ∧ (flagRefPast s).rings =
    s.rings ∧ (flagRefPast s).cmds = s.cmds ∧ (flagRefPast s).tabs = s.tabs ∧ (flagRefPast s).mapu = s.mapu ∧ (flagRefPast s).cist = s.cist ∧
    (flagRefPast s).cache = s.cache ∧ (flagRefPast s).med = s.med ∧ (flagRefPast s).keys = s.keys ∧ (flagRefPast s).wear = s.wear ∧ (flagRefPast
    s).drift = s.drift ∧ (flagRefPast s).pair = s.pair ∧ (flagRefPast s).flt = s.flt ∧ (flagRefPast s).ag = s.ag ∧ (flagRefPast s).qz = s.qz ∧
    (flagRefPast s).zir = s.zir ∧ (flagRefPast s).th = s.th ∧ (flagRefPast s).beryl = s.beryl ∧ (flagRefPast s).sec = s.sec := by
  first
  | (simp [flagRefPast]; done)
  | (unfold flagRefPast; (try simp only []); (repeat' split) <;> (try intro ht) <;> (simp_all; done); done)

@[simp] theorem raiseVec_keeps (s : Sys2Proof.Machine.State) (a : Sys2Proof.Port) (b : ℕ) : (raiseVec s a b).pending = s.pending ∧ (raiseVec s a
    b).freeCtr = s.freeCtr ∧ (raiseVec s a b).regs = s.regs ∧ (raiseVec s a b).req = s.req ∧ (raiseVec s a b).pwr = s.pwr ∧ (raiseVec s a b).ports =
    s.ports ∧ (raiseVec s a b).cmds = s.cmds ∧ (raiseVec s a b).tabs = s.tabs ∧ (raiseVec s a b).mapu = s.mapu ∧ (raiseVec s a b).cist = s.cist ∧
    (raiseVec s a b).cache = s.cache ∧ (raiseVec s a b).med = s.med ∧ (raiseVec s a b).keys = s.keys ∧ (raiseVec s a b).wear = s.wear ∧ (raiseVec s
    a b).drift = s.drift ∧ (raiseVec s a b).pair = s.pair ∧ (raiseVec s a b).flt = s.flt ∧ (raiseVec s a b).ag = s.ag ∧ (raiseVec s a b).qz = s.qz ∧
    (raiseVec s a b).zir = s.zir ∧ (raiseVec s a b).th = s.th ∧ (raiseVec s a b).beryl = s.beryl ∧ (raiseVec s a b).sec = s.sec := by
  first
  | (simp [raiseVec]; done)
  | (unfold raiseVec; (try simp only []); (repeat' split) <;> (try intro ht) <;> (simp_all; done); done)

@[simp] theorem issueRun_keeps (s : Sys2Proof.Machine.State) (a : Running) (b : Desc) : (issueRun s a b).pending = s.pending ∧ (issueRun s a b).th =
    s.th ∧ (issueRun s a b).sec = s.sec := by
  first
  | (simp [issueRun]; done)
  | (unfold issueRun; (try simp only []); (repeat' split) <;> (try intro ht) <;> (simp_all; done); done)

@[simp] theorem withKey_pending (s : State) (v : Sys2Proof.SpdmVia) (f : State → State) (h : ∀ s, (f s).pending = s.pending) : (withKey s v f).pending = s.pending := by unfold withKey; (repeat' split) <;> simp_all
@[simp] theorem withKey_freeCtr (s : State) (v : Sys2Proof.SpdmVia) (f : State → State) (h : ∀ s, (f s).freeCtr = s.freeCtr) : (withKey s v f).freeCtr = s.freeCtr := by unfold withKey; (repeat' split) <;> simp_all
@[simp] theorem withKey_regs (s : State) (v : Sys2Proof.SpdmVia) (f : State → State) (h : ∀ s, (f s).regs = s.regs) : (withKey s v f).regs = s.regs := by unfold withKey; (repeat' split) <;> simp_all
@[simp] theorem withKey_req (s : State) (v : Sys2Proof.SpdmVia) (f : State → State) (h : ∀ s, (f s).req = s.req) : (withKey s v f).req = s.req := by unfold withKey; (repeat' split) <;> simp_all
@[simp] theorem withKey_pwr (s : State) (v : Sys2Proof.SpdmVia) (f : State → State) (h : ∀ s, (f s).pwr = s.pwr) : (withKey s v f).pwr = s.pwr := by unfold withKey; (repeat' split) <;> simp_all
@[simp] theorem withKey_ports (s : State) (v : Sys2Proof.SpdmVia) (f : State → State) (h : ∀ s, (f s).ports = s.ports) : (withKey s v f).ports = s.ports := by unfold withKey; (repeat' split) <;> simp_all
@[simp] theorem withKey_rings (s : State) (v : Sys2Proof.SpdmVia) (f : State → State) (h : ∀ s, (f s).rings = s.rings) : (withKey s v f).rings = s.rings := by unfold withKey; (repeat' split) <;> simp_all
@[simp] theorem withKey_cmds (s : State) (v : Sys2Proof.SpdmVia) (f : State → State) (h : ∀ s, (f s).cmds = s.cmds) : (withKey s v f).cmds = s.cmds := by unfold withKey; (repeat' split) <;> simp_all
@[simp] theorem withKey_tabs (s : State) (v : Sys2Proof.SpdmVia) (f : State → State) (h : ∀ s, (f s).tabs = s.tabs) : (withKey s v f).tabs = s.tabs := by unfold withKey; (repeat' split) <;> simp_all
@[simp] theorem withKey_mapu (s : State) (v : Sys2Proof.SpdmVia) (f : State → State) (h : ∀ s, (f s).mapu = s.mapu) : (withKey s v f).mapu = s.mapu := by unfold withKey; (repeat' split) <;> simp_all
@[simp] theorem withKey_cist (s : State) (v : Sys2Proof.SpdmVia) (f : State → State) (h : ∀ s, (f s).cist = s.cist) : (withKey s v f).cist = s.cist := by unfold withKey; (repeat' split) <;> simp_all
@[simp] theorem withKey_cache (s : State) (v : Sys2Proof.SpdmVia) (f : State → State) (h : ∀ s, (f s).cache = s.cache) : (withKey s v f).cache = s.cache := by unfold withKey; (repeat' split) <;> simp_all
@[simp] theorem withKey_med (s : State) (v : Sys2Proof.SpdmVia) (f : State → State) (h : ∀ s, (f s).med = s.med) : (withKey s v f).med = s.med := by unfold withKey; (repeat' split) <;> simp_all
@[simp] theorem withKey_keys (s : State) (v : Sys2Proof.SpdmVia) (f : State → State) (h : ∀ s, (f s).keys = s.keys) : (withKey s v f).keys = s.keys := by unfold withKey; (repeat' split) <;> simp_all
@[simp] theorem withKey_wear (s : State) (v : Sys2Proof.SpdmVia) (f : State → State) (h : ∀ s, (f s).wear = s.wear) : (withKey s v f).wear = s.wear := by unfold withKey; (repeat' split) <;> simp_all
@[simp] theorem withKey_drift (s : State) (v : Sys2Proof.SpdmVia) (f : State → State) (h : ∀ s, (f s).drift = s.drift) : (withKey s v f).drift = s.drift := by unfold withKey; (repeat' split) <;> simp_all
@[simp] theorem withKey_pair (s : State) (v : Sys2Proof.SpdmVia) (f : State → State) (h : ∀ s, (f s).pair = s.pair) : (withKey s v f).pair = s.pair := by unfold withKey; (repeat' split) <;> simp_all
@[simp] theorem withKey_flt (s : State) (v : Sys2Proof.SpdmVia) (f : State → State) (h : ∀ s, (f s).flt = s.flt) : (withKey s v f).flt = s.flt := by unfold withKey; (repeat' split) <;> simp_all
@[simp] theorem withKey_ag (s : State) (v : Sys2Proof.SpdmVia) (f : State → State) (h : ∀ s, (f s).ag = s.ag) : (withKey s v f).ag = s.ag := by unfold withKey; (repeat' split) <;> simp_all
@[simp] theorem withKey_qz (s : State) (v : Sys2Proof.SpdmVia) (f : State → State) (h : ∀ s, (f s).qz = s.qz) : (withKey s v f).qz = s.qz := by unfold withKey; (repeat' split) <;> simp_all
@[simp] theorem withKey_zir (s : State) (v : Sys2Proof.SpdmVia) (f : State → State) (h : ∀ s, (f s).zir = s.zir) : (withKey s v f).zir = s.zir := by unfold withKey; (repeat' split) <;> simp_all
@[simp] theorem withKey_th (s : State) (v : Sys2Proof.SpdmVia) (f : State → State) (h : ∀ s, (f s).th = s.th) : (withKey s v f).th = s.th := by unfold withKey; (repeat' split) <;> simp_all
@[simp] theorem withKey_beryl (s : State) (v : Sys2Proof.SpdmVia) (f : State → State) (h : ∀ s, (f s).beryl = s.beryl) : (withKey s v f).beryl = s.beryl := by unfold withKey; (repeat' split) <;> simp_all
@[simp] theorem withKey_sec (s : State) (v : Sys2Proof.SpdmVia) (f : State → State) (h : ∀ s, (f s).sec = s.sec) : (withKey s v f).sec = s.sec := by unfold withKey; (repeat' split) <;> simp_all

end Sys2Proof.Machine
end

