-- ==== Sys2Proof/Laws/FramesD.lean ====
section
/-! SUPPORT. What each shared operation leaves unchanged (part 4 of 4): `f_keeps` names every part of State that `f` does not touch,
for whatever state and operands. -/

set_option linter.all false
set_option Elab.async false

namespace Sys2Proof.Machine

@[simp] theorem flagDom_keeps (s : Sys2Proof.Machine.State) (a : ℕ) : (flagDom s a).pending = s.pending ∧ (flagDom s a).out = s.out ∧ (flagDom s
    a).freeCtr = s.freeCtr ∧ (flagDom s a).req = s.req ∧ (flagDom s a).pwr = s.pwr ∧ (flagDom s a).ports = s.ports ∧ (flagDom s a).rings = s.rings ∧
    (flagDom s a).cmds = s.cmds ∧ (flagDom s a).tabs = s.tabs ∧ (flagDom s a).mapu = s.mapu ∧ (flagDom s a).cist = s.cist ∧ (flagDom s a).cache =
    s.cache ∧ (flagDom s a).med = s.med ∧ (flagDom s a).keys = s.keys ∧ (flagDom s a).wear = s.wear ∧ (flagDom s a).drift = s.drift ∧ (flagDom s
    a).pair = s.pair ∧ (flagDom s a).flt = s.flt ∧ (flagDom s a).ag = s.ag ∧ (flagDom s a).qz = s.qz ∧ (flagDom s a).zir = s.zir ∧ (flagDom s a).th
    = s.th ∧ (flagDom s a).beryl = s.beryl ∧ (flagDom s a).sec = s.sec := by
  first
  | (simp [flagDom]; done)
  | (unfold flagDom; (try simp only []); (repeat' split) <;> (try intro ht) <;> (simp_all; done); done)

@[simp] theorem glitch_keeps (s : Sys2Proof.Machine.State) (a : ℕ) : (glitch s a).pending = s.pending ∧ (glitch s a).freeCtr = s.freeCtr ∧ (glitch s
    a).tabs = s.tabs ∧ (glitch s a).mapu = s.mapu ∧ (glitch s a).cist = s.cist ∧ (glitch s a).cache = s.cache ∧ (glitch s a).med = s.med ∧ (glitch s
    a).keys = s.keys ∧ (glitch s a).wear = s.wear ∧ (glitch s a).drift = s.drift ∧ (glitch s a).qz = s.qz ∧ (glitch s a).zir = s.zir ∧ (glitch s
    a).th = s.th ∧ (glitch s a).sec = s.sec := by
  first
  | (simp [glitch]; done)
  | (unfold glitch; (try simp only []); (repeat' split) <;> (try intro ht) <;> (simp_all; done); done)

@[simp] theorem railFault_keeps (s : Sys2Proof.Machine.State) (a : ℕ) : (railFault s a).pending = s.pending ∧ (railFault s a).freeCtr = s.freeCtr ∧
    (railFault s a).keys = s.keys ∧ (railFault s a).th = s.th ∧ (railFault s a).sec = s.sec := by
  first
  | (simp [railFault]; done)
  | (unfold railFault; (try simp only []); (repeat' split) <;> (try intro ht) <;> (simp_all; done); done)

@[simp] theorem startDom_keeps (s : Sys2Proof.Machine.State) (a : ℕ) : (startDom s a).pending = s.pending ∧ (startDom s a).out = s.out ∧ (startDom s
    a).freeCtr = s.freeCtr ∧ (startDom s a).regs = s.regs ∧ (startDom s a).req = s.req ∧ (startDom s a).ports = s.ports ∧ (startDom s a).rings =
    s.rings ∧ (startDom s a).cmds = s.cmds ∧ (startDom s a).tabs = s.tabs ∧ (startDom s a).mapu = s.mapu ∧ (startDom s a).cist = s.cist ∧ (startDom
    s a).cache = s.cache ∧ (startDom s a).med = s.med ∧ (startDom s a).keys = s.keys ∧ (startDom s a).wear = s.wear ∧ (startDom s a).drift = s.drift
    ∧ (startDom s a).pair = s.pair ∧ (startDom s a).flt = s.flt ∧ (startDom s a).ag = s.ag ∧ (startDom s a).qz = s.qz ∧ (startDom s a).zir = s.zir ∧
    (startDom s a).th = s.th ∧ (startDom s a).beryl = s.beryl ∧ (startDom s a).sec = s.sec := by
  first
  | (simp [startDom]; done)
  | (unfold startDom; (try simp only []); (repeat' split) <;> (try intro ht) <;> (simp_all; done); done)

@[simp] theorem advanceSeq_keeps (a : ℕ) (s : Sys2Proof.Machine.State) : (advanceSeq a s).pending = s.pending ∧ (advanceSeq a s).out = s.out ∧
    (advanceSeq a s).freeCtr = s.freeCtr ∧ (advanceSeq a s).regs = s.regs ∧ (advanceSeq a s).req = s.req ∧ (advanceSeq a s).ports = s.ports ∧
    (advanceSeq a s).rings = s.rings ∧ (advanceSeq a s).cmds = s.cmds ∧ (advanceSeq a s).tabs = s.tabs ∧ (advanceSeq a s).mapu = s.mapu ∧
    (advanceSeq a s).cist = s.cist ∧ (advanceSeq a s).cache = s.cache ∧ (advanceSeq a s).med = s.med ∧ (advanceSeq a s).keys = s.keys ∧ (advanceSeq
    a s).wear = s.wear ∧ (advanceSeq a s).drift = s.drift ∧ (advanceSeq a s).pair = s.pair ∧ (advanceSeq a s).flt = s.flt ∧ (advanceSeq a s).ag =
    s.ag ∧ (advanceSeq a s).qz = s.qz ∧ (advanceSeq a s).zir = s.zir ∧ (advanceSeq a s).th = s.th ∧ (advanceSeq a s).beryl = s.beryl ∧ (advanceSeq a
    s).sec = s.sec := by
  fun_induction advanceSeq a s <;> (first | (simp_all; done) | simp_all +zetaDelta | (simp_all +zetaDelta; done))

@[simp] theorem beginPage_keeps (s : Sys2Proof.Machine.State) (a : ℕ) : (beginPage s a).pending = s.pending ∧ (beginPage s a).out = s.out ∧
    (beginPage s a).freeCtr = s.freeCtr ∧ (beginPage s a).regs = s.regs ∧ (beginPage s a).req = s.req ∧ (beginPage s a).pwr = s.pwr ∧ (beginPage s
    a).ports = s.ports ∧ (beginPage s a).rings = s.rings ∧ (beginPage s a).cmds = s.cmds ∧ (beginPage s a).tabs = s.tabs ∧ (beginPage s a).mapu =
    s.mapu ∧ (beginPage s a).cist = s.cist ∧ (beginPage s a).cache = s.cache ∧ (beginPage s a).med = s.med ∧ (beginPage s a).keys = s.keys ∧
    (beginPage s a).wear = s.wear ∧ (beginPage s a).drift = s.drift ∧ (beginPage s a).pair = s.pair ∧ (beginPage s a).flt = s.flt ∧ (beginPage s
    a).ag = s.ag ∧ (beginPage s a).qz = s.qz ∧ (beginPage s a).zir = s.zir ∧ (beginPage s a).th = s.th ∧ (beginPage s a).sec = s.sec := by
  first
  | (simp [beginPage]; done)
  | (unfold beginPage; (try simp only []); (repeat' split) <;> (try intro ht) <;> (simp_all; done); done)

@[simp] theorem enterStandby_keeps (s : Sys2Proof.Machine.State) : (enterStandby s).pending = s.pending ∧ (enterStandby s).freeCtr = s.freeCtr ∧
    (enterStandby s).tabs = s.tabs ∧ (enterStandby s).mapu = s.mapu ∧ (enterStandby s).cist = s.cist ∧ (enterStandby s).cache = s.cache ∧
    (enterStandby s).med = s.med ∧ (enterStandby s).keys = s.keys ∧ (enterStandby s).wear = s.wear ∧ (enterStandby s).drift = s.drift ∧
    (enterStandby s).qz = s.qz ∧ (enterStandby s).zir = s.zir ∧ (enterStandby s).th = s.th := by
  first
  | (simp [enterStandby]; done)
  | (unfold enterStandby; (try simp only []); (repeat' split) <;> (try intro ht) <;> (simp_all; done); done)

@[simp] theorem bootToStandby_keeps (s : Sys2Proof.Machine.State) : (bootToStandby s).pending = s.pending ∧ (bootToStandby s).freeCtr = s.freeCtr ∧
    (bootToStandby s).keys = s.keys ∧ (bootToStandby s).qz = s.qz ∧ (bootToStandby s).th = s.th := by
  first
  | (simp [bootToStandby]; done)
  | (unfold bootToStandby; (try simp only []); (repeat' split) <;> (try intro ht) <;> (simp_all; done); done)

@[simp] theorem bootFirmware_keeps (s : Sys2Proof.Machine.State) : (bootFirmware s).pending = s.pending ∧ (bootFirmware s).freeCtr = s.freeCtr ∧
    (bootFirmware s).keys = s.keys ∧ (bootFirmware s).qz = s.qz ∧ (bootFirmware s).th = s.th := by
  first
  | (simp [bootFirmware]; done)
  | (unfold bootFirmware; (try simp only []); (repeat' split) <;> (try intro ht) <;> (simp_all; done); done)

@[simp] theorem exitHaltThermal_keeps (s : Sys2Proof.Machine.State) : (exitHaltThermal s).pending = s.pending ∧ (exitHaltThermal s).freeCtr =
    s.freeCtr ∧ (exitHaltThermal s).tabs = s.tabs ∧ (exitHaltThermal s).mapu = s.mapu ∧ (exitHaltThermal s).cist = s.cist ∧ (exitHaltThermal
    s).cache = s.cache ∧ (exitHaltThermal s).med = s.med ∧ (exitHaltThermal s).keys = s.keys ∧ (exitHaltThermal s).wear = s.wear ∧ (exitHaltThermal
    s).drift = s.drift ∧ (exitHaltThermal s).qz = s.qz ∧ (exitHaltThermal s).zir = s.zir ∧ (exitHaltThermal s).sec = s.sec := by
  first
  | (simp [exitHaltThermal]; done)
  | (unfold exitHaltThermal; (try simp only []); (repeat' split) <;> (try intro ht) <;> (simp_all; done); done)

@[simp] theorem copySource_keeps (s : Sys2Proof.Machine.State) (a : Move) (b : ℕ) (c : Sys2Proof.SenseRes) (d : Sys2Proof.SenseRes) : (copySource s
    a b c d).1.pending = s.pending ∧ (copySource s a b c d).1.keys = s.keys ∧ (copySource s a b c d).1.th = s.th ∧ (copySource s a b c d).1.sec =
    s.sec := by
  first
  | (simp [copySource]; done)
  | (unfold copySource; (try simp only []); (repeat' split) <;> (try intro ht) <;> ((try (have p := congrArg Prod.fst ‹_ = (_, _)›; simp only [] at p; subst p)); (try (first | (injection ht with ht; subst ht; simp_all; done) | (subst ht; simp_all; done) | (subst_vars; simp_all; done) | simp_all))); done)

@[simp] theorem markCopied_keeps (s : Sys2Proof.Machine.State) (a : ℕ) (b : ℕ) : (markCopied s a b).pending = s.pending ∧ (markCopied s a b).out =
    s.out ∧ (markCopied s a b).freeCtr = s.freeCtr ∧ (markCopied s a b).regs = s.regs ∧ (markCopied s a b).req = s.req ∧ (markCopied s a b).pwr =
    s.pwr ∧ (markCopied s a b).ports = s.ports ∧ (markCopied s a b).rings = s.rings ∧ (markCopied s a b).cmds = s.cmds ∧ (markCopied s a b).tabs =
    s.tabs ∧ (markCopied s a b).mapu = s.mapu ∧ (markCopied s a b).cist = s.cist ∧ (markCopied s a b).cache = s.cache ∧ (markCopied s a b).med =
    s.med ∧ (markCopied s a b).keys = s.keys ∧ (markCopied s a b).drift = s.drift ∧ (markCopied s a b).pair = s.pair ∧ (markCopied s a b).flt =
    s.flt ∧ (markCopied s a b).ag = s.ag ∧ (markCopied s a b).qz = s.qz ∧ (markCopied s a b).zir = s.zir ∧ (markCopied s a b).th = s.th ∧
    (markCopied s a b).beryl = s.beryl ∧ (markCopied s a b).sec = s.sec := by
  first
  | (simp [markCopied]; done)
  | (unfold markCopied; (try simp only []); (repeat' split) <;> (try intro ht) <;> (simp_all; done); done)

theorem takeTok_keeps (s : Sys2Proof.Machine.State) (a : ℕ) (b : Bool) : ∀ t, takeTok s a b = some t → t.pending = s.pending ∧ t.out = s.out ∧
    t.freeCtr = s.freeCtr ∧ t.regs = s.regs ∧ t.req = s.req ∧ t.pwr = s.pwr ∧ t.ports = s.ports ∧ t.rings = s.rings ∧ t.cmds = s.cmds ∧ t.tabs =
    s.tabs ∧ t.mapu = s.mapu ∧ t.cache = s.cache ∧ t.med = s.med ∧ t.keys = s.keys ∧ t.wear = s.wear ∧ t.drift = s.drift ∧ t.pair = s.pair ∧ t.flt =
    s.flt ∧ t.ag = s.ag ∧ t.qz = s.qz ∧ t.zir = s.zir ∧ t.th = s.th ∧ t.beryl = s.beryl ∧ t.sec = s.sec := by
  intro t ht; first
  | (simp [takeTok]; done)
  | (unfold takeTok at ht; revert ht; (try simp only []); (repeat' split) <;> (try intro ht) <;> ( (try (first | (injection ht with ht; subst ht; simp_all; done) | (subst ht; simp_all; done) | (subst_vars; simp_all; done) | simp_all))); done)

theorem grantTok_keeps (s : Sys2Proof.Machine.State) (a : ℕ) (b : ℕ) : ∀ t, grantTok s a b = some t → t.pending = s.pending ∧ t.out = s.out ∧
    t.freeCtr = s.freeCtr ∧ t.regs = s.regs ∧ t.req = s.req ∧ t.pwr = s.pwr ∧ t.ports = s.ports ∧ t.rings = s.rings ∧ t.cmds = s.cmds ∧ t.tabs =
    s.tabs ∧ t.mapu = s.mapu ∧ t.cache = s.cache ∧ t.med = s.med ∧ t.keys = s.keys ∧ t.wear = s.wear ∧ t.drift = s.drift ∧ t.pair = s.pair ∧ t.flt =
    s.flt ∧ t.ag = s.ag ∧ t.qz = s.qz ∧ t.zir = s.zir ∧ t.th = s.th ∧ t.beryl = s.beryl ∧ t.sec = s.sec := by
  intro t ht; first
  | (simp [grantTok]; done)
  | (unfold grantTok at ht; revert ht; (try simp only []); (repeat' split) <;> (try intro ht) <;> ((try have q0 := takeTok_keeps _ _ _ _ ‹_›); (try (first | (injection ht with ht; subst ht; simp_all; done) | (subst ht; simp_all; done) | (subst_vars; simp_all; done) | simp_all))); done)

@[simp] theorem noteStart_keeps (s : Sys2Proof.Machine.State) (a : Sys2Proof.ProgRef) (b : Target) : (noteStart s a b).pending = s.pending ∧
    (noteStart s a b).out = s.out ∧ (noteStart s a b).freeCtr = s.freeCtr ∧ (noteStart s a b).regs = s.regs ∧ (noteStart s a b).req = s.req ∧
    (noteStart s a b).pwr = s.pwr ∧ (noteStart s a b).ports = s.ports ∧ (noteStart s a b).rings = s.rings ∧ (noteStart s a b).cmds = s.cmds ∧
    (noteStart s a b).tabs = s.tabs ∧ (noteStart s a b).cache = s.cache ∧ (noteStart s a b).keys = s.keys ∧ (noteStart s a b).wear = s.wear ∧
    (noteStart s a b).drift = s.drift ∧ (noteStart s a b).pair = s.pair ∧ (noteStart s a b).flt = s.flt ∧ (noteStart s a b).ag = s.ag ∧ (noteStart s
    a b).qz = s.qz ∧ (noteStart s a b).zir = s.zir ∧ (noteStart s a b).th = s.th ∧ (noteStart s a b).beryl = s.beryl ∧ (noteStart s a b).sec = s.sec
    := by
  first
  | (simp [noteStart]; done)
  | (unfold noteStart; (try simp only []); (repeat' split) <;> (try intro ht) <;> (simp_all; done); done)

@[simp] theorem beginProg_keeps (s : Sys2Proof.Machine.State) (a : Sys2Proof.ProgRef) (b : Target) : (beginProg s a b).pending = s.pending ∧
    (beginProg s a b).out = s.out ∧ (beginProg s a b).freeCtr = s.freeCtr ∧ (beginProg s a b).regs = s.regs ∧ (beginProg s a b).req = s.req ∧
    (beginProg s a b).pwr = s.pwr ∧ (beginProg s a b).ports = s.ports ∧ (beginProg s a b).rings = s.rings ∧ (beginProg s a b).cmds = s.cmds ∧
    (beginProg s a b).tabs = s.tabs ∧ (beginProg s a b).cache = s.cache ∧ (beginProg s a b).keys = s.keys ∧ (beginProg s a b).wear = s.wear ∧
    (beginProg s a b).drift = s.drift ∧ (beginProg s a b).pair = s.pair ∧ (beginProg s a b).flt = s.flt ∧ (beginProg s a b).ag = s.ag ∧ (beginProg s
    a b).qz = s.qz ∧ (beginProg s a b).zir = s.zir ∧ (beginProg s a b).th = s.th ∧ (beginProg s a b).beryl = s.beryl ∧ (beginProg s a b).sec = s.sec
    := by
  first
  | (simp [beginProg]; done)
  | (unfold beginProg; (try simp only []); (repeat' split) <;> (try intro ht) <;> (simp_all; done); done)

@[simp] theorem startProg_keeps (s : Sys2Proof.Machine.State) (a : Sys2Proof.ProgRef) : (startProg s a).pending = s.pending ∧ (startProg s a).out =
    s.out ∧ (startProg s a).freeCtr = s.freeCtr ∧ (startProg s a).req = s.req ∧ (startProg s a).pwr = s.pwr ∧ (startProg s a).ports = s.ports ∧
    (startProg s a).rings = s.rings ∧ (startProg s a).cmds = s.cmds ∧ (startProg s a).tabs = s.tabs ∧ (startProg s a).cache = s.cache ∧ (startProg s
    a).keys = s.keys ∧ (startProg s a).wear = s.wear ∧ (startProg s a).drift = s.drift ∧ (startProg s a).pair = s.pair ∧ (startProg s a).flt = s.flt
    ∧ (startProg s a).ag = s.ag ∧ (startProg s a).qz = s.qz ∧ (startProg s a).zir = s.zir ∧ (startProg s a).th = s.th ∧ (startProg s a).beryl =
    s.beryl ∧ (startProg s a).sec = s.sec := by
  first
  | (simp [startProg]; done)
  | (unfold startProg; (try simp only []); (repeat' split) <;> (try intro ht) <;> ((try have q0 := grantTok_keeps _ _ _ _ ‹_›); (try (first | (injection ht with ht; subst ht; simp_all; done) | (subst ht; simp_all; done) | (subst_vars; simp_all; done) | simp_all))); done)

@[simp] theorem sendRanges_keeps (s : Sys2Proof.Machine.State) (a : ℕ) (b : ℕ) (c : List (ℕ × ℕ)) : (sendRanges s a b c).pending = s.pending ∧
    (sendRanges s a b c).freeCtr = s.freeCtr ∧ (sendRanges s a b c).regs = s.regs ∧ (sendRanges s a b c).req = s.req ∧ (sendRanges s a b c).pwr =
    s.pwr ∧ (sendRanges s a b c).ports = s.ports ∧ (sendRanges s a b c).rings = s.rings ∧ (sendRanges s a b c).cmds = s.cmds ∧ (sendRanges s a b
    c).tabs = s.tabs ∧ (sendRanges s a b c).mapu = s.mapu ∧ (sendRanges s a b c).cist = s.cist ∧ (sendRanges s a b c).cache = s.cache ∧ (sendRanges
    s a b c).med = s.med ∧ (sendRanges s a b c).keys = s.keys ∧ (sendRanges s a b c).wear = s.wear ∧ (sendRanges s a b c).drift = s.drift ∧
    (sendRanges s a b c).flt = s.flt ∧ (sendRanges s a b c).ag = s.ag ∧ (sendRanges s a b c).qz = s.qz ∧ (sendRanges s a b c).zir = s.zir ∧
    (sendRanges s a b c).th = s.th ∧ (sendRanges s a b c).beryl = s.beryl ∧ (sendRanges s a b c).sec = s.sec := by
  fun_induction sendRanges s a b c <;> (first | (simp_all; done) | simp_all +zetaDelta | (simp_all +zetaDelta; done))

@[simp] theorem formSet_keeps (s : Sys2Proof.Machine.State) : (formSet s).pending = s.pending ∧ (formSet s).freeCtr = s.freeCtr ∧ (formSet s).tabs =
    s.tabs ∧ (formSet s).mapu = s.mapu ∧ (formSet s).cache = s.cache ∧ (formSet s).med = s.med ∧ (formSet s).keys = s.keys ∧ (formSet s).wear =
    s.wear ∧ (formSet s).drift = s.drift ∧ (formSet s).zir = s.zir ∧ (formSet s).th = s.th ∧ (formSet s).sec = s.sec := by
  first
  | (simp [formSet]; done)
  | (unfold formSet; (try simp only []); (repeat' split) <;> (try intro ht) <;> (simp_all; done); done)

@[simp] theorem dropSense_keeps (s : Sys2Proof.Machine.State) (a : ℕ) : (dropSense s a).pending = s.pending ∧ (dropSense s a).out = s.out ∧
    (dropSense s a).freeCtr = s.freeCtr ∧ (dropSense s a).regs = s.regs ∧ (dropSense s a).req = s.req ∧ (dropSense s a).pwr = s.pwr ∧ (dropSense s
    a).ports = s.ports ∧ (dropSense s a).rings = s.rings ∧ (dropSense s a).cmds = s.cmds ∧ (dropSense s a).tabs = s.tabs ∧ (dropSense s a).mapu =
    s.mapu ∧ (dropSense s a).cist = s.cist ∧ (dropSense s a).cache = s.cache ∧ (dropSense s a).keys = s.keys ∧ (dropSense s a).wear = s.wear ∧
    (dropSense s a).drift = s.drift ∧ (dropSense s a).pair = s.pair ∧ (dropSense s a).flt = s.flt ∧ (dropSense s a).ag = s.ag ∧ (dropSense s a).qz =
    s.qz ∧ (dropSense s a).zir = s.zir ∧ (dropSense s a).th = s.th ∧ (dropSense s a).beryl = s.beryl ∧ (dropSense s a).sec = s.sec := by
  first
  | (simp [dropSense]; done)
  | (unfold dropSense; (try simp only []); (repeat' split) <;> (try intro ht) <;> (simp_all; done); done)

@[simp] theorem mergeGot_keeps (s : Sys2Proof.Machine.State) (a : WaitW) (b : ℕ) (c : Got) : (mergeGot s a b c).pending = s.pending ∧ (mergeGot s a
    b c).freeCtr = s.freeCtr ∧ (mergeGot s a b c).keys = s.keys ∧ (mergeGot s a b c).th = s.th ∧ (mergeGot s a b c).sec = s.sec := by
  unfold mergeGot; split
  · simp
  dsimp only; split
  · rename_i h; have q := applyWrite_keeps _ _ _ _ _ h; (repeat' split) <;> simp_all
  · simp

@[simp] theorem answerGot_keeps (s : Sys2Proof.Machine.State) (a : Waiter) (b : ℕ) (c : Got) (d : ℕ) (e : RdFlags) : (answerGot s a b c d e).pending
    = s.pending ∧ (answerGot s a b c d e).freeCtr = s.freeCtr ∧ (answerGot s a b c d e).keys = s.keys ∧ (answerGot s a b c d e).th = s.th ∧
    (answerGot s a b c d e).sec = s.sec := by
  first
  | (simp [answerGot]; done)
  | (unfold answerGot; (try simp only []); (repeat' split) <;> (try intro ht) <;> (simp_all; done); done)

@[simp] theorem serveWaiters_keeps (s : Sys2Proof.Machine.State) (a : ℕ) (b : Got) (c : ℕ) (d : RdFlags) (e : List Waiter) : (serveWaiters s a b c d
    e).pending = s.pending ∧ (serveWaiters s a b c d e).freeCtr = s.freeCtr ∧ (serveWaiters s a b c d e).keys = s.keys ∧ (serveWaiters s a b c d
    e).th = s.th ∧ (serveWaiters s a b c d e).sec = s.sec := by
  induction e generalizing s with
  | nil => simp [serveWaiters]
  | cons x r ih => unfold serveWaiters; dsimp only; simp only [ih]; cases x <;> dsimp only <;> (try split) <;> simp

@[simp] theorem endSense_keeps (s : Sys2Proof.Machine.State) (a : Sense) (b : Got) (c : ℕ) : (endSense s a b c).pending = s.pending ∧ (endSense s a
    b c).freeCtr = s.freeCtr ∧ (endSense s a b c).keys = s.keys ∧ (endSense s a b c).th = s.th ∧ (endSense s a b c).sec = s.sec := by
  first
  | (simp [endSense]; done)
  | (unfold endSense; (try simp only []); (repeat' split) <;> (try intro ht) <;> (simp_all; done); done)

@[simp] theorem prefetch_keeps (s : Sys2Proof.Machine.State) (a : ℕ) (b : Bool) (c : Attr) : (prefetch s a b c).pending = s.pending ∧ (prefetch s a
    b c).out = s.out ∧ (prefetch s a b c).req = s.req ∧ (prefetch s a b c).pwr = s.pwr ∧ (prefetch s a b c).ports = s.ports ∧ (prefetch s a b
    c).rings = s.rings ∧ (prefetch s a b c).cmds = s.cmds ∧ (prefetch s a b c).tabs = s.tabs ∧ (prefetch s a b c).cist = s.cist ∧ (prefetch s a b
    c).cache = s.cache ∧ (prefetch s a b c).keys = s.keys ∧ (prefetch s a b c).pair = s.pair ∧ (prefetch s a b c).flt = s.flt ∧ (prefetch s a b
    c).ag = s.ag ∧ (prefetch s a b c).zir = s.zir ∧ (prefetch s a b c).th = s.th ∧ (prefetch s a b c).beryl = s.beryl ∧ (prefetch s a b c).sec =
    s.sec := by
  first
  | (simp [prefetch]; done)
  | (unfold prefetch; (try simp only []); (repeat' split) <;> (try intro ht) <;> (simp_all; done); done)

@[simp] theorem prefetchNext_keeps (s : Sys2Proof.Machine.State) (a : ℕ) (b : Attr) : (prefetchNext s a b).pending = s.pending ∧ (prefetchNext s a
    b).out = s.out ∧ (prefetchNext s a b).req = s.req ∧ (prefetchNext s a b).pwr = s.pwr ∧ (prefetchNext s a b).ports = s.ports ∧ (prefetchNext s a
    b).rings = s.rings ∧ (prefetchNext s a b).cmds = s.cmds ∧ (prefetchNext s a b).tabs = s.tabs ∧ (prefetchNext s a b).cist = s.cist ∧
    (prefetchNext s a b).cache = s.cache ∧ (prefetchNext s a b).keys = s.keys ∧ (prefetchNext s a b).pair = s.pair ∧ (prefetchNext s a b).flt =
    s.flt ∧ (prefetchNext s a b).ag = s.ag ∧ (prefetchNext s a b).zir = s.zir ∧ (prefetchNext s a b).th = s.th ∧ (prefetchNext s a b).beryl =
    s.beryl ∧ (prefetchNext s a b).sec = s.sec := by
  first
  | (simp [prefetchNext]; done)
  | (unfold prefetchNext; (try simp only []); (repeat' split) <;> (try intro ht) <;> (simp_all; done); done)

@[simp] theorem finishFrame_keeps (s : Sys2Proof.Machine.State) (a : Sense) (b : Sensed) (c : Bool) (d : ℕ) : (finishFrame s a b c d).pending =
    s.pending ∧ (finishFrame s a b c d).keys = s.keys ∧ (finishFrame s a b c d).th = s.th ∧ (finishFrame s a b c d).sec = s.sec := by
  first
  | (simp [finishFrame]; done)
  | (unfold finishFrame; (try simp only []); (repeat' split) <;> (try intro ht) <;> (simp_all; done); done)

@[simp] theorem ringPerst_keeps (s : Sys2Proof.Machine.State) (a : ℕ) : (ringPerst s a).pending = s.pending ∧ (ringPerst s a).freeCtr = s.freeCtr ∧
    (ringPerst s a).tabs = s.tabs ∧ (ringPerst s a).mapu = s.mapu ∧ (ringPerst s a).cist = s.cist ∧ (ringPerst s a).cache = s.cache ∧ (ringPerst s
    a).med = s.med ∧ (ringPerst s a).keys = s.keys ∧ (ringPerst s a).wear = s.wear ∧ (ringPerst s a).qz = s.qz ∧ (ringPerst s a).zir = s.zir ∧
    (ringPerst s a).th = s.th ∧ (ringPerst s a).sec = s.sec := by
  first
  | (simp [ringPerst]; done)
  | (unfold ringPerst; (try simp only []); (repeat' split) <;> (try intro ht) <;> (simp_all; done); done)

@[simp] theorem readTile_keeps (s : Sys2Proof.Machine.State) (a : ℕ) (b : ℕ) (c : ResList) (d : ℕ) (e : ℕ) : (readTile s a b c d e).1.pending =
    s.pending ∧ (readTile s a b c d e).1.keys = s.keys ∧ (readTile s a b c d e).1.th = s.th ∧ (readTile s a b c d e).1.sec = s.sec := by
  induction d generalizing s e with
  | zero => simp [readTile]
  | succ n ih => unfold readTile; dsimp only; split; · simp
                 split <;> (rename_i h; have p := congrArg Prod.fst h; dsimp only at p; subst p; simp [ih])

@[simp] theorem hotRestart_keeps (s : Sys2Proof.Machine.State) (a : ℕ) (b : ℤ) : (hotRestart s a b).pending = s.pending ∧ (hotRestart s a b).freeCtr
    = s.freeCtr ∧ (hotRestart s a b).keys = s.keys ∧ (hotRestart s a b).qz = s.qz ∧ (hotRestart s a b).th = s.th ∧ (hotRestart s a b).sec = s.sec := by
  first
  | (simp [hotRestart]; done)
  | (unfold hotRestart; (try simp only []); (repeat' split) <;> (try intro ht) <;> (simp_all; done); done)

@[simp] theorem resetRegs_keeps (s : Sys2Proof.Machine.State) (a : Blk) (b : ℕ) (c : ℕ → Bool) : (resetRegs s a b c).pending = s.pending ∧
    (resetRegs s a b c).out = s.out ∧ (resetRegs s a b c).freeCtr = s.freeCtr ∧ (resetRegs s a b c).req = s.req ∧ (resetRegs s a b c).pwr = s.pwr ∧
    (resetRegs s a b c).ports = s.ports ∧ (resetRegs s a b c).rings = s.rings ∧ (resetRegs s a b c).cmds = s.cmds ∧ (resetRegs s a b c).tabs =
    s.tabs ∧ (resetRegs s a b c).mapu = s.mapu ∧ (resetRegs s a b c).cist = s.cist ∧ (resetRegs s a b c).cache = s.cache ∧ (resetRegs s a b c).med =
    s.med ∧ (resetRegs s a b c).keys = s.keys ∧ (resetRegs s a b c).wear = s.wear ∧ (resetRegs s a b c).drift = s.drift ∧ (resetRegs s a b c).pair =
    s.pair ∧ (resetRegs s a b c).flt = s.flt ∧ (resetRegs s a b c).ag = s.ag ∧ (resetRegs s a b c).qz = s.qz ∧ (resetRegs s a b c).zir = s.zir ∧
    (resetRegs s a b c).th = s.th ∧ (resetRegs s a b c).beryl = s.beryl ∧ (resetRegs s a b c).sec = s.sec := by
  first
  | (simp [resetRegs]; done)
  | (unfold resetRegs; (try simp only []); (repeat' split) <;> (try intro ht) <;> (simp_all; done); done)

@[simp] theorem domBlocks_keeps (s : Sys2Proof.Machine.State) (a : ℕ) : (domBlocks s a).pending = s.pending ∧ (domBlocks s a).out = s.out ∧
    (domBlocks s a).freeCtr = s.freeCtr ∧ (domBlocks s a).req = s.req ∧ (domBlocks s a).pwr = s.pwr ∧ (domBlocks s a).ports = s.ports ∧ (domBlocks s
    a).rings = s.rings ∧ (domBlocks s a).cmds = s.cmds ∧ (domBlocks s a).tabs = s.tabs ∧ (domBlocks s a).mapu = s.mapu ∧ (domBlocks s a).cist =
    s.cist ∧ (domBlocks s a).cache = s.cache ∧ (domBlocks s a).med = s.med ∧ (domBlocks s a).keys = s.keys ∧ (domBlocks s a).wear = s.wear ∧
    (domBlocks s a).drift = s.drift ∧ (domBlocks s a).pair = s.pair ∧ (domBlocks s a).flt = s.flt ∧ (domBlocks s a).ag = s.ag ∧ (domBlocks s a).qz =
    s.qz ∧ (domBlocks s a).zir = s.zir ∧ (domBlocks s a).th = s.th ∧ (domBlocks s a).beryl = s.beryl ∧ (domBlocks s a).sec = s.sec := by
  first
  | (simp [domBlocks]; done)
  | (unfold domBlocks; (try simp only []); (repeat' split) <;> (try intro ht) <;> (simp_all; done); done)

@[simp] theorem fillTokens_keeps (s : Sys2Proof.Machine.State) (a : ℕ) : (fillTokens s a).pending = s.pending ∧ (fillTokens s a).out = s.out ∧
    (fillTokens s a).freeCtr = s.freeCtr ∧ (fillTokens s a).regs = s.regs ∧ (fillTokens s a).req = s.req ∧ (fillTokens s a).pwr = s.pwr ∧
    (fillTokens s a).ports = s.ports ∧ (fillTokens s a).rings = s.rings ∧ (fillTokens s a).cmds = s.cmds ∧ (fillTokens s a).tabs = s.tabs ∧
    (fillTokens s a).mapu = s.mapu ∧ (fillTokens s a).cache = s.cache ∧ (fillTokens s a).med = s.med ∧ (fillTokens s a).keys = s.keys ∧ (fillTokens
    s a).wear = s.wear ∧ (fillTokens s a).drift = s.drift ∧ (fillTokens s a).pair = s.pair ∧ (fillTokens s a).flt = s.flt ∧ (fillTokens s a).ag =
    s.ag ∧ (fillTokens s a).qz = s.qz ∧ (fillTokens s a).zir = s.zir ∧ (fillTokens s a).th = s.th ∧ (fillTokens s a).beryl = s.beryl ∧ (fillTokens s
    a).sec = s.sec := by
  first
  | (simp [fillTokens]; done)
  | (unfold fillTokens; (try simp only []); (repeat' split) <;> (try intro ht) <;> (simp_all; done); done)

@[simp] theorem domainUp_keeps (s : Sys2Proof.Machine.State) (a : ℕ) : (domainUp s a).pending = s.pending ∧ (domainUp s a).out = s.out ∧ (domainUp s
    a).freeCtr = s.freeCtr ∧ (domainUp s a).req = s.req ∧ (domainUp s a).ports = s.ports ∧ (domainUp s a).rings = s.rings ∧ (domainUp s a).cmds =
    s.cmds ∧ (domainUp s a).tabs = s.tabs ∧ (domainUp s a).mapu = s.mapu ∧ (domainUp s a).cache = s.cache ∧ (domainUp s a).med = s.med ∧ (domainUp s
    a).keys = s.keys ∧ (domainUp s a).wear = s.wear ∧ (domainUp s a).drift = s.drift ∧ (domainUp s a).pair = s.pair ∧ (domainUp s a).flt = s.flt ∧
    (domainUp s a).ag = s.ag ∧ (domainUp s a).qz = s.qz ∧ (domainUp s a).zir = s.zir ∧ (domainUp s a).th = s.th ∧ (domainUp s a).beryl = s.beryl ∧
    (domainUp s a).sec = s.sec := by
  first
  | (simp [domainUp]; done)
  | (unfold domainUp; (try simp only []); (repeat' split) <;> (try intro ht) <;> (simp_all; done); done)

@[simp] theorem putChanRetired_keeps (s : Sys2Proof.Machine.State) (a : ℕ) : (putChanRetired s a).pending = s.pending ∧ (putChanRetired s a).out =
    s.out ∧ (putChanRetired s a).freeCtr = s.freeCtr ∧ (putChanRetired s a).regs = s.regs ∧ (putChanRetired s a).req = s.req ∧ (putChanRetired s
    a).pwr = s.pwr ∧ (putChanRetired s a).ports = s.ports ∧ (putChanRetired s a).rings = s.rings ∧ (putChanRetired s a).cmds = s.cmds ∧
    (putChanRetired s a).tabs = s.tabs ∧ (putChanRetired s a).mapu = s.mapu ∧ (putChanRetired s a).cist = s.cist ∧ (putChanRetired s a).cache =
    s.cache ∧ (putChanRetired s a).med = s.med ∧ (putChanRetired s a).keys = s.keys ∧ (putChanRetired s a).wear = s.wear ∧ (putChanRetired s
    a).drift = s.drift ∧ (putChanRetired s a).pair = s.pair ∧ (putChanRetired s a).flt = s.flt ∧ (putChanRetired s a).ag = s.ag ∧ (putChanRetired s
    a).qz = s.qz ∧ (putChanRetired s a).zir = s.zir ∧ (putChanRetired s a).th = s.th ∧ (putChanRetired s a).sec = s.sec := by
  first
  | (simp [putChanRetired]; done)
  | (unfold putChanRetired; (try simp only []); (repeat' split) <;> (try intro ht) <;> (simp_all; done); done)

@[simp] theorem noteDieRetired_keeps (s : Sys2Proof.Machine.State) (a : ℕ) : (noteDieRetired s a).pending = s.pending ∧ (noteDieRetired s a).freeCtr
    = s.freeCtr ∧ (noteDieRetired s a).tabs = s.tabs ∧ (noteDieRetired s a).mapu = s.mapu ∧ (noteDieRetired s a).cist = s.cist ∧ (noteDieRetired s
    a).cache = s.cache ∧ (noteDieRetired s a).med = s.med ∧ (noteDieRetired s a).keys = s.keys ∧ (noteDieRetired s a).drift = s.drift ∧
    (noteDieRetired s a).qz = s.qz ∧ (noteDieRetired s a).th = s.th ∧ (noteDieRetired s a).sec = s.sec := by
  first
  | (simp [noteDieRetired]; done)
  | (unfold noteDieRetired; (try simp only []); (repeat' split) <;> (try intro ht) <;> (simp_all; done); done)

@[simp] theorem retireChannel_keeps (s : Sys2Proof.Machine.State) (a : ℕ) : (retireChannel s a).pending = s.pending ∧ (retireChannel s a).freeCtr =
    s.freeCtr ∧ (retireChannel s a).tabs = s.tabs ∧ (retireChannel s a).mapu = s.mapu ∧ (retireChannel s a).cist = s.cist ∧ (retireChannel s
    a).cache = s.cache ∧ (retireChannel s a).med = s.med ∧ (retireChannel s a).keys = s.keys ∧ (retireChannel s a).qz = s.qz ∧ (retireChannel s
    a).th = s.th ∧ (retireChannel s a).sec = s.sec := by
  first
  | (simp [retireChannel]; done)
  | (unfold retireChannel; (try simp only []); (repeat' split) <;> (try intro ht) <;> (simp_all; done); done)

@[simp] theorem domainFail_keeps (s : Sys2Proof.Machine.State) (a : ℕ) : (domainFail s a).pending = s.pending ∧ (domainFail s a).freeCtr = s.freeCtr
    ∧ (domainFail s a).keys = s.keys ∧ (domainFail s a).th = s.th := by
  first
  | (simp [domainFail]; done)
  | (unfold domainFail; (try simp only []); (repeat' split) <;> (try intro ht) <;> (simp_all; done); done)

@[simp] theorem followMove_keeps (s : Sys2Proof.Machine.State) (a : Cis) : (followMove s a).pending = s.pending ∧ (followMove s a).out = s.out ∧
    (followMove s a).freeCtr = s.freeCtr ∧ (followMove s a).req = s.req ∧ (followMove s a).pwr = s.pwr ∧ (followMove s a).ports = s.ports ∧
    (followMove s a).rings = s.rings ∧ (followMove s a).cmds = s.cmds ∧ (followMove s a).tabs = s.tabs ∧ (followMove s a).mapu = s.mapu ∧
    (followMove s a).cache = s.cache ∧ (followMove s a).med = s.med ∧ (followMove s a).keys = s.keys ∧ (followMove s a).wear = s.wear ∧ (followMove
    s a).drift = s.drift ∧ (followMove s a).pair = s.pair ∧ (followMove s a).flt = s.flt ∧ (followMove s a).ag = s.ag ∧ (followMove s a).qz = s.qz ∧
    (followMove s a).zir = s.zir ∧ (followMove s a).th = s.th ∧ (followMove s a).beryl = s.beryl ∧ (followMove s a).sec = s.sec := by
  first
  | (simp [followMove]; done)
  | (unfold followMove; (try simp only []); (repeat' split) <;> (try intro ht) <;> (simp_all; done); done)

@[simp] theorem noteFresh_keeps (s : Sys2Proof.Machine.State) (a : ℕ) : (noteFresh s a).pending = s.pending ∧ (noteFresh s a).out = s.out ∧
    (noteFresh s a).freeCtr = s.freeCtr ∧ (noteFresh s a).regs = s.regs ∧ (noteFresh s a).req = s.req ∧ (noteFresh s a).pwr = s.pwr ∧ (noteFresh s
    a).ports = s.ports ∧ (noteFresh s a).rings = s.rings ∧ (noteFresh s a).cmds = s.cmds ∧ (noteFresh s a).tabs = s.tabs ∧ (noteFresh s a).mapu =
    s.mapu ∧ (noteFresh s a).cist = s.cist ∧ (noteFresh s a).cache = s.cache ∧ (noteFresh s a).med = s.med ∧ (noteFresh s a).keys = s.keys ∧
    (noteFresh s a).wear = s.wear ∧ (noteFresh s a).drift = s.drift ∧ (noteFresh s a).flt = s.flt ∧ (noteFresh s a).ag = s.ag ∧ (noteFresh s a).qz =
    s.qz ∧ (noteFresh s a).zir = s.zir ∧ (noteFresh s a).th = s.th ∧ (noteFresh s a).beryl = s.beryl ∧ (noteFresh s a).sec = s.sec := by
  first
  | (simp [noteFresh]; done)
  | (unfold noteFresh; (try simp only []); (repeat' split) <;> (try intro ht) <;> (simp_all; done); done)

@[simp] theorem scanClass_keeps (s : Sys2Proof.Machine.State) (a : ℕ) (b : ℕ) (c : ℕ) : (scanClass s a b c).pending = s.pending ∧ (scanClass s a b
    c).out = s.out ∧ (scanClass s a b c).freeCtr = s.freeCtr ∧ (scanClass s a b c).regs = s.regs ∧ (scanClass s a b c).req = s.req ∧ (scanClass s a
    b c).pwr = s.pwr ∧ (scanClass s a b c).ports = s.ports ∧ (scanClass s a b c).rings = s.rings ∧ (scanClass s a b c).cmds = s.cmds ∧ (scanClass s
    a b c).tabs = s.tabs ∧ (scanClass s a b c).mapu = s.mapu ∧ (scanClass s a b c).cist = s.cist ∧ (scanClass s a b c).cache = s.cache ∧ (scanClass
    s a b c).med = s.med ∧ (scanClass s a b c).keys = s.keys ∧ (scanClass s a b c).wear = s.wear ∧ (scanClass s a b c).pair = s.pair ∧ (scanClass s
    a b c).flt = s.flt ∧ (scanClass s a b c).ag = s.ag ∧ (scanClass s a b c).qz = s.qz ∧ (scanClass s a b c).zir = s.zir ∧ (scanClass s a b c).th =
    s.th ∧ (scanClass s a b c).beryl = s.beryl ∧ (scanClass s a b c).sec = s.sec := by
  first
  | (simp [scanClass]; done)
  | (unfold scanClass; (try simp only []); (repeat' split) <;> (try intro ht) <;> (simp_all; done); done)

@[simp] theorem scanEntry_keeps (s : Sys2Proof.Machine.State) (a : ℕ) : (scanEntry s a).pending = s.pending ∧ (scanEntry s a).out = s.out ∧
    (scanEntry s a).freeCtr = s.freeCtr ∧ (scanEntry s a).req = s.req ∧ (scanEntry s a).pwr = s.pwr ∧ (scanEntry s a).ports = s.ports ∧ (scanEntry s
    a).rings = s.rings ∧ (scanEntry s a).cmds = s.cmds ∧ (scanEntry s a).tabs = s.tabs ∧ (scanEntry s a).mapu = s.mapu ∧ (scanEntry s a).cist =
    s.cist ∧ (scanEntry s a).cache = s.cache ∧ (scanEntry s a).med = s.med ∧ (scanEntry s a).keys = s.keys ∧ (scanEntry s a).wear = s.wear ∧
    (scanEntry s a).pair = s.pair ∧ (scanEntry s a).flt = s.flt ∧ (scanEntry s a).ag = s.ag ∧ (scanEntry s a).qz = s.qz ∧ (scanEntry s a).zir =
    s.zir ∧ (scanEntry s a).th = s.th ∧ (scanEntry s a).beryl = s.beryl ∧ (scanEntry s a).sec = s.sec := by
  first
  | (simp [scanEntry]; done)
  | (unfold scanEntry; (try simp only []); (repeat' split) <;> (try intro ht) <;> (simp_all; done); done)

@[simp] theorem setSessions_keeps (s : Sys2Proof.Machine.State) (a : Sys2Proof.SpdmVia) (b : List Session) : (setSessions s a b).pending = s.pending
    ∧ (setSessions s a b).out = s.out ∧ (setSessions s a b).freeCtr = s.freeCtr ∧ (setSessions s a b).regs = s.regs ∧ (setSessions s a b).req =
    s.req ∧ (setSessions s a b).pwr = s.pwr ∧ (setSessions s a b).rings = s.rings ∧ (setSessions s a b).cmds = s.cmds ∧ (setSessions s a b).tabs =
    s.tabs ∧ (setSessions s a b).mapu = s.mapu ∧ (setSessions s a b).cist = s.cist ∧ (setSessions s a b).cache = s.cache ∧ (setSessions s a b).med =
    s.med ∧ (setSessions s a b).keys = s.keys ∧ (setSessions s a b).wear = s.wear ∧ (setSessions s a b).drift = s.drift ∧ (setSessions s a b).pair =
    s.pair ∧ (setSessions s a b).flt = s.flt ∧ (setSessions s a b).ag = s.ag ∧ (setSessions s a b).qz = s.qz ∧ (setSessions s a b).zir = s.zir ∧
    (setSessions s a b).th = s.th ∧ (setSessions s a b).beryl = s.beryl := by
  first
  | (simp [setSessions]; done)
  | (unfold setSessions; (try simp only []); (repeat' split) <;> (try intro ht) <;> (simp_all; done); done)

@[simp] theorem modSession_keeps (s : Sys2Proof.Machine.State) (a : Sys2Proof.SpdmVia) (b : ℕ) (c : Session → Session) : (modSession s a b
    c).pending = s.pending ∧ (modSession s a b c).out = s.out ∧ (modSession s a b c).freeCtr = s.freeCtr ∧ (modSession s a b c).regs = s.regs ∧
    (modSession s a b c).req = s.req ∧ (modSession s a b c).pwr = s.pwr ∧ (modSession s a b c).rings = s.rings ∧ (modSession s a b c).cmds = s.cmds
    ∧ (modSession s a b c).tabs = s.tabs ∧ (modSession s a b c).mapu = s.mapu ∧ (modSession s a b c).cist = s.cist ∧ (modSession s a b c).cache =
    s.cache ∧ (modSession s a b c).med = s.med ∧ (modSession s a b c).keys = s.keys ∧ (modSession s a b c).wear = s.wear ∧ (modSession s a b
    c).drift = s.drift ∧ (modSession s a b c).pair = s.pair ∧ (modSession s a b c).flt = s.flt ∧ (modSession s a b c).ag = s.ag ∧ (modSession s a b
    c).qz = s.qz ∧ (modSession s a b c).zir = s.zir ∧ (modSession s a b c).th = s.th ∧ (modSession s a b c).beryl = s.beryl := by
  first
  | (simp [modSession]; done)
  | (unfold modSession; (try simp only []); (repeat' split) <;> (try intro ht) <;> (simp_all; done); done)

@[simp] theorem drainTx_keeps (s : Sys2Proof.Machine.State) (a : List Msg) (b : List Msg) : (drainTx s a b).pending = s.pending ∧ (drainTx s a
    b).freeCtr = s.freeCtr ∧ (drainTx s a b).regs = s.regs ∧ (drainTx s a b).req = s.req ∧ (drainTx s a b).pwr = s.pwr ∧ (drainTx s a b).ports =
    s.ports ∧ (drainTx s a b).rings = s.rings ∧ (drainTx s a b).cmds = s.cmds ∧ (drainTx s a b).tabs = s.tabs ∧ (drainTx s a b).mapu = s.mapu ∧
    (drainTx s a b).cist = s.cist ∧ (drainTx s a b).cache = s.cache ∧ (drainTx s a b).med = s.med ∧ (drainTx s a b).keys = s.keys ∧ (drainTx s a
    b).wear = s.wear ∧ (drainTx s a b).drift = s.drift ∧ (drainTx s a b).flt = s.flt ∧ (drainTx s a b).ag = s.ag ∧ (drainTx s a b).qz = s.qz ∧
    (drainTx s a b).zir = s.zir ∧ (drainTx s a b).th = s.th ∧ (drainTx s a b).beryl = s.beryl ∧ (drainTx s a b).sec = s.sec := by
  fun_induction drainTx s a b <;> (first | (simp_all; done) | simp_all +zetaDelta | (simp_all +zetaDelta; done))

@[simp] theorem pumpTx_keeps (s : Sys2Proof.Machine.State) : (pumpTx s).pending = s.pending ∧ (pumpTx s).freeCtr = s.freeCtr ∧ (pumpTx s).regs =
    s.regs ∧ (pumpTx s).req = s.req ∧ (pumpTx s).pwr = s.pwr ∧ (pumpTx s).ports = s.ports ∧ (pumpTx s).rings = s.rings ∧ (pumpTx s).cmds = s.cmds ∧
    (pumpTx s).tabs = s.tabs ∧ (pumpTx s).mapu = s.mapu ∧ (pumpTx s).cist = s.cist ∧ (pumpTx s).cache = s.cache ∧ (pumpTx s).med = s.med ∧ (pumpTx
    s).keys = s.keys ∧ (pumpTx s).wear = s.wear ∧ (pumpTx s).drift = s.drift ∧ (pumpTx s).flt = s.flt ∧ (pumpTx s).ag = s.ag ∧ (pumpTx s).qz = s.qz
    ∧ (pumpTx s).zir = s.zir ∧ (pumpTx s).th = s.th ∧ (pumpTx s).beryl = s.beryl ∧ (pumpTx s).sec = s.sec := by
  first
  | (simp [pumpTx]; done)
  | (unfold pumpTx; (try simp only []); (repeat' split) <;> (try intro ht) <;> (simp_all; done); done)

@[simp] theorem convertedRec_keeps (s : Sys2Proof.Machine.State) : (convertedRec s).pending = s.pending ∧ (convertedRec s).freeCtr = s.freeCtr ∧
    (convertedRec s).tabs = s.tabs ∧ (convertedRec s).cist = s.cist ∧ (convertedRec s).cache = s.cache ∧ (convertedRec s).med = s.med ∧
    (convertedRec s).keys = s.keys ∧ (convertedRec s).wear = s.wear ∧ (convertedRec s).drift = s.drift ∧ (convertedRec s).qz = s.qz ∧ (convertedRec
    s).zir = s.zir ∧ (convertedRec s).th = s.th ∧ (convertedRec s).sec = s.sec := by
  first
  | (simp [convertedRec]; done)
  | (unfold convertedRec; (try simp only []); (repeat' split) <;> (try intro ht) <;> (simp_all; done); done)

@[simp] theorem becomeTarget_keeps (s : Sys2Proof.Machine.State) (a : List ℕ) : (becomeTarget s a).pending = s.pending ∧ (becomeTarget s a).freeCtr
    = s.freeCtr ∧ (becomeTarget s a).req = s.req ∧ (becomeTarget s a).pwr = s.pwr ∧ (becomeTarget s a).rings = s.rings ∧ (becomeTarget s a).cmds =
    s.cmds ∧ (becomeTarget s a).tabs = s.tabs ∧ (becomeTarget s a).mapu = s.mapu ∧ (becomeTarget s a).cache = s.cache ∧ (becomeTarget s a).med =
    s.med ∧ (becomeTarget s a).keys = s.keys ∧ (becomeTarget s a).drift = s.drift ∧ (becomeTarget s a).flt = s.flt ∧ (becomeTarget s a).ag = s.ag ∧
    (becomeTarget s a).zir = s.zir ∧ (becomeTarget s a).th = s.th ∧ (becomeTarget s a).beryl = s.beryl ∧ (becomeTarget s a).sec = s.sec := by
  first
  | (simp [becomeTarget]; done)
  | (unfold becomeTarget; (try simp only []); (repeat' split) <;> (try intro ht) <;> (simp_all; done); done)

@[simp] theorem noteProgram_keeps (s : Sys2Proof.Machine.State) (a : ℕ) : (noteProgram s a).pending = s.pending ∧ (noteProgram s a).out = s.out ∧
    (noteProgram s a).req = s.req ∧ (noteProgram s a).pwr = s.pwr ∧ (noteProgram s a).ports = s.ports ∧ (noteProgram s a).rings = s.rings ∧
    (noteProgram s a).cmds = s.cmds ∧ (noteProgram s a).tabs = s.tabs ∧ (noteProgram s a).cist = s.cist ∧ (noteProgram s a).cache = s.cache ∧
    (noteProgram s a).med = s.med ∧ (noteProgram s a).keys = s.keys ∧ (noteProgram s a).pair = s.pair ∧ (noteProgram s a).flt = s.flt ∧ (noteProgram
    s a).ag = s.ag ∧ (noteProgram s a).zir = s.zir ∧ (noteProgram s a).th = s.th ∧ (noteProgram s a).beryl = s.beryl ∧ (noteProgram s a).sec = s.sec
    := by
  first
  | (simp [noteProgram]; done)
  | (unfold noteProgram; (try simp only []); (repeat' split) <;> (try intro ht) <;> (simp_all; done); done)

@[simp] theorem dropOp_keeps (s : Sys2Proof.Machine.State) (a : OpKind) : (dropOp s a).pending = s.pending ∧ (dropOp s a).out = s.out ∧ (dropOp s
    a).freeCtr = s.freeCtr ∧ (dropOp s a).regs = s.regs ∧ (dropOp s a).req = s.req ∧ (dropOp s a).pwr = s.pwr ∧ (dropOp s a).ports = s.ports ∧
    (dropOp s a).rings = s.rings ∧ (dropOp s a).cmds = s.cmds ∧ (dropOp s a).tabs = s.tabs ∧ (dropOp s a).mapu = s.mapu ∧ (dropOp s a).cist = s.cist
    ∧ (dropOp s a).cache = s.cache ∧ (dropOp s a).keys = s.keys ∧ (dropOp s a).wear = s.wear ∧ (dropOp s a).drift = s.drift ∧ (dropOp s a).pair =
    s.pair ∧ (dropOp s a).flt = s.flt ∧ (dropOp s a).ag = s.ag ∧ (dropOp s a).qz = s.qz ∧ (dropOp s a).zir = s.zir ∧ (dropOp s a).th = s.th ∧
    (dropOp s a).beryl = s.beryl ∧ (dropOp s a).sec = s.sec := by
  first
  | (simp [dropOp]; done)
  | (unfold dropOp; (try simp only []); (repeat' split) <;> (try intro ht) <;> (simp_all; done); done)

@[simp] theorem endProg_pending (s : State) (u : Sys2Proof.ProgRef) (k : Bool) (ns : ℕ) (f g : Op → State → State) (hf : ∀ o s, (f o s).pending = s.pending) (hg : ∀ o s, (g o s).pending = s.pending) : (endProg s u k ns f g).pending = s.pending := by unfold endProg; split <;> dsimp only <;> (repeat' split) <;> simp [hf, hg]
@[simp] theorem endProg_out (s : State) (u : Sys2Proof.ProgRef) (k : Bool) (ns : ℕ) (f g : Op → State → State) (hf : ∀ o s, (f o s).out = s.out) (hg : ∀ o s, (g o s).out = s.out) : (endProg s u k ns f g).out = s.out := by unfold endProg; split <;> dsimp only <;> (repeat' split) <;> simp [hf, hg]
@[simp] theorem endProg_req (s : State) (u : Sys2Proof.ProgRef) (k : Bool) (ns : ℕ) (f g : Op → State → State) (hf : ∀ o s, (f o s).req = s.req) (hg : ∀ o s, (g o s).req = s.req) : (endProg s u k ns f g).req = s.req := by unfold endProg; split <;> dsimp only <;> (repeat' split) <;> simp [hf, hg]
@[simp] theorem endProg_pwr (s : State) (u : Sys2Proof.ProgRef) (k : Bool) (ns : ℕ) (f g : Op → State → State) (hf : ∀ o s, (f o s).pwr = s.pwr) (hg : ∀ o s, (g o s).pwr = s.pwr) : (endProg s u k ns f g).pwr = s.pwr := by unfold endProg; split <;> dsimp only <;> (repeat' split) <;> simp [hf, hg]
@[simp] theorem endProg_ports (s : State) (u : Sys2Proof.ProgRef) (k : Bool) (ns : ℕ) (f g : Op → State → State) (hf : ∀ o s, (f o s).ports = s.ports) (hg : ∀ o s, (g o s).ports = s.ports) : (endProg s u k ns f g).ports = s.ports := by unfold endProg; split <;> dsimp only <;> (repeat' split) <;> simp [hf, hg]
@[simp] theorem endProg_rings (s : State) (u : Sys2Proof.ProgRef) (k : Bool) (ns : ℕ) (f g : Op → State → State) (hf : ∀ o s, (f o s).rings = s.rings) (hg : ∀ o s, (g o s).rings = s.rings) : (endProg s u k ns f g).rings = s.rings := by unfold endProg; split <;> dsimp only <;> (repeat' split) <;> simp [hf, hg]
@[simp] theorem endProg_cmds (s : State) (u : Sys2Proof.ProgRef) (k : Bool) (ns : ℕ) (f g : Op → State → State) (hf : ∀ o s, (f o s).cmds = s.cmds) (hg : ∀ o s, (g o s).cmds = s.cmds) : (endProg s u k ns f g).cmds = s.cmds := by unfold endProg; split <;> dsimp only <;> (repeat' split) <;> simp [hf, hg]
@[simp] theorem endProg_tabs (s : State) (u : Sys2Proof.ProgRef) (k : Bool) (ns : ℕ) (f g : Op → State → State) (hf : ∀ o s, (f o s).tabs = s.tabs) (hg : ∀ o s, (g o s).tabs = s.tabs) : (endProg s u k ns f g).tabs = s.tabs := by unfold endProg; split <;> dsimp only <;> (repeat' split) <;> simp [hf, hg]
@[simp] theorem endProg_cache (s : State) (u : Sys2Proof.ProgRef) (k : Bool) (ns : ℕ) (f g : Op → State → State) (hf : ∀ o s, (f o s).cache = s.cache) (hg : ∀ o s, (g o s).cache = s.cache) : (endProg s u k ns f g).cache = s.cache := by unfold endProg; split <;> dsimp only <;> (repeat' split) <;> simp [hf, hg]
@[simp] theorem endProg_keys (s : State) (u : Sys2Proof.ProgRef) (k : Bool) (ns : ℕ) (f g : Op → State → State) (hf : ∀ o s, (f o s).keys = s.keys) (hg : ∀ o s, (g o s).keys = s.keys) : (endProg s u k ns f g).keys = s.keys := by unfold endProg; split <;> dsimp only <;> (repeat' split) <;> simp [hf, hg]
@[simp] theorem endProg_pair (s : State) (u : Sys2Proof.ProgRef) (k : Bool) (ns : ℕ) (f g : Op → State → State) (hf : ∀ o s, (f o s).pair = s.pair) (hg : ∀ o s, (g o s).pair = s.pair) : (endProg s u k ns f g).pair = s.pair := by unfold endProg; split <;> dsimp only <;> (repeat' split) <;> simp [hf, hg]
@[simp] theorem endProg_flt (s : State) (u : Sys2Proof.ProgRef) (k : Bool) (ns : ℕ) (f g : Op → State → State) (hf : ∀ o s, (f o s).flt = s.flt) (hg : ∀ o s, (g o s).flt = s.flt) : (endProg s u k ns f g).flt = s.flt := by unfold endProg; split <;> dsimp only <;> (repeat' split) <;> simp [hf, hg]
@[simp] theorem endProg_ag (s : State) (u : Sys2Proof.ProgRef) (k : Bool) (ns : ℕ) (f g : Op → State → State) (hf : ∀ o s, (f o s).ag = s.ag) (hg : ∀ o s, (g o s).ag = s.ag) : (endProg s u k ns f g).ag = s.ag := by unfold endProg; split <;> dsimp only <;> (repeat' split) <;> simp [hf, hg]
@[simp] theorem endProg_zir (s : State) (u : Sys2Proof.ProgRef) (k : Bool) (ns : ℕ) (f g : Op → State → State) (hf : ∀ o s, (f o s).zir = s.zir) (hg : ∀ o s, (g o s).zir = s.zir) : (endProg s u k ns f g).zir = s.zir := by unfold endProg; split <;> dsimp only <;> (repeat' split) <;> simp [hf, hg]
@[simp] theorem endProg_th (s : State) (u : Sys2Proof.ProgRef) (k : Bool) (ns : ℕ) (f g : Op → State → State) (hf : ∀ o s, (f o s).th = s.th) (hg : ∀ o s, (g o s).th = s.th) : (endProg s u k ns f g).th = s.th := by unfold endProg; split <;> dsimp only <;> (repeat' split) <;> simp [hf, hg]
@[simp] theorem endProg_beryl (s : State) (u : Sys2Proof.ProgRef) (k : Bool) (ns : ℕ) (f g : Op → State → State) (hf : ∀ o s, (f o s).beryl = s.beryl) (hg : ∀ o s, (g o s).beryl = s.beryl) : (endProg s u k ns f g).beryl = s.beryl := by unfold endProg; split <;> dsimp only <;> (repeat' split) <;> simp [hf, hg]
@[simp] theorem endProg_sec (s : State) (u : Sys2Proof.ProgRef) (k : Bool) (ns : ℕ) (f g : Op → State → State) (hf : ∀ o s, (f o s).sec = s.sec) (hg : ∀ o s, (g o s).sec = s.sec) : (endProg s u k ns f g).sec = s.sec := by unfold endProg; split <;> dsimp only <;> (repeat' split) <;> simp [hf, hg]

@[simp] theorem rewriteEnd_keeps (s : Sys2Proof.Machine.State) (a : ℕ) (b : ℕ) (c : Bool) (d : ℕ) : (rewriteEnd s a b c d).pending = s.pending ∧
    (rewriteEnd s a b c d).keys = s.keys ∧ (rewriteEnd s a b c d).th = s.th ∧ (rewriteEnd s a b c d).sec = s.sec := by
  refine ⟨?_, ?_, ?_, ?_⟩
  · unfold rewriteEnd; apply endProg_pending <;> intros <;> (try dsimp only) <;> (repeat' split) <;> simp
  · unfold rewriteEnd; apply endProg_keys <;> intros <;> (try dsimp only) <;> (repeat' split) <;> simp
  · unfold rewriteEnd; apply endProg_th <;> intros <;> (try dsimp only) <;> (repeat' split) <;> simp
  · unfold rewriteEnd; apply endProg_sec <;> intros <;> (try dsimp only) <;> (repeat' split) <;> simp


@[simp] theorem senseTile_keeps (s : Sys2Proof.Machine.State) (a : ℕ) (b : ℕ) (c : ℕ) (d : List (ℕ × Sys2Proof.SenseRes × Sys2Proof.SenseRes)) (e :
    ℕ) (f : ℕ) : (senseTile s a b c d e f).1.pending = s.pending ∧ (senseTile s a b c d e f).1.keys = s.keys ∧ (senseTile s a b c d e f).1.th = s.th
    ∧ (senseTile s a b c d e f).1.sec = s.sec := by
  induction e generalizing s f with
  | zero => simp [senseTile]
  | succ n ih => unfold senseTile; dsimp only; simp [ih]

@[simp] theorem flagMapUe_keeps (s : Sys2Proof.Machine.State) : (flagMapUe s).pending = s.pending ∧ (flagMapUe s).out = s.out ∧ (flagMapUe
    s).freeCtr = s.freeCtr ∧ (flagMapUe s).req = s.req ∧ (flagMapUe s).pwr = s.pwr ∧ (flagMapUe s).ports = s.ports ∧ (flagMapUe s).rings = s.rings ∧
    (flagMapUe s).cmds = s.cmds ∧ (flagMapUe s).tabs = s.tabs ∧ (flagMapUe s).mapu = s.mapu ∧ (flagMapUe s).cist = s.cist ∧ (flagMapUe s).cache =
    s.cache ∧ (flagMapUe s).med = s.med ∧ (flagMapUe s).keys = s.keys ∧ (flagMapUe s).wear = s.wear ∧ (flagMapUe s).drift = s.drift ∧ (flagMapUe
    s).pair = s.pair ∧ (flagMapUe s).flt = s.flt ∧ (flagMapUe s).ag = s.ag ∧ (flagMapUe s).qz = s.qz ∧ (flagMapUe s).zir = s.zir ∧ (flagMapUe s).th
    = s.th ∧ (flagMapUe s).beryl = s.beryl ∧ (flagMapUe s).sec = s.sec := by
  first
  | (simp [flagMapUe]; done)
  | (unfold flagMapUe; (try simp only []); (repeat' split) <;> (try intro ht) <;> (simp_all; done); done)

@[simp] theorem mapLost_keeps (s : Sys2Proof.Machine.State) (a : List ℕ) : (mapLost s a).pending = s.pending ∧ (mapLost s a).freeCtr = s.freeCtr ∧
    (mapLost s a).keys = s.keys ∧ (mapLost s a).th = s.th ∧ (mapLost s a).sec = s.sec := by
  first
  | (simp [mapLost]; done)
  | (unfold mapLost; (try simp only []); (repeat' split) <;> (try intro ht) <;> (simp_all; done); done)

@[simp] theorem markLoaded_keeps (s : Sys2Proof.Machine.State) (a : ℕ) : (markLoaded s a).pending = s.pending ∧ (markLoaded s a).out = s.out ∧
    (markLoaded s a).freeCtr = s.freeCtr ∧ (markLoaded s a).regs = s.regs ∧ (markLoaded s a).req = s.req ∧ (markLoaded s a).pwr = s.pwr ∧
    (markLoaded s a).ports = s.ports ∧ (markLoaded s a).rings = s.rings ∧ (markLoaded s a).cmds = s.cmds ∧ (markLoaded s a).tabs = s.tabs ∧
    (markLoaded s a).cist = s.cist ∧ (markLoaded s a).cache = s.cache ∧ (markLoaded s a).med = s.med ∧ (markLoaded s a).keys = s.keys ∧ (markLoaded
    s a).wear = s.wear ∧ (markLoaded s a).drift = s.drift ∧ (markLoaded s a).pair = s.pair ∧ (markLoaded s a).flt = s.flt ∧ (markLoaded s a).ag =
    s.ag ∧ (markLoaded s a).qz = s.qz ∧ (markLoaded s a).zir = s.zir ∧ (markLoaded s a).th = s.th ∧ (markLoaded s a).beryl = s.beryl ∧ (markLoaded s
    a).sec = s.sec := by
  first
  | (simp [markLoaded]; done)
  | (unfold markLoaded; (try simp only []); (repeat' split) <;> (try intro ht) <;> (simp_all; done); done)

@[simp] theorem installPage_keeps (s : Sys2Proof.Machine.State) (a : ℕ) (b : Bool) : (installPage s a b).pending = s.pending ∧ (installPage s a
    b).out = s.out ∧ (installPage s a b).freeCtr = s.freeCtr ∧ (installPage s a b).regs = s.regs ∧ (installPage s a b).req = s.req ∧ (installPage s
    a b).pwr = s.pwr ∧ (installPage s a b).ports = s.ports ∧ (installPage s a b).rings = s.rings ∧ (installPage s a b).cmds = s.cmds ∧ (installPage
    s a b).cist = s.cist ∧ (installPage s a b).cache = s.cache ∧ (installPage s a b).med = s.med ∧ (installPage s a b).keys = s.keys ∧ (installPage
    s a b).wear = s.wear ∧ (installPage s a b).drift = s.drift ∧ (installPage s a b).pair = s.pair ∧ (installPage s a b).flt = s.flt ∧ (installPage
    s a b).ag = s.ag ∧ (installPage s a b).qz = s.qz ∧ (installPage s a b).zir = s.zir ∧ (installPage s a b).th = s.th ∧ (installPage s a b).beryl =
    s.beryl ∧ (installPage s a b).sec = s.sec := by
  first
  | (simp [installPage]; done)
  | (unfold installPage; (try simp only []); (repeat' split) <;> (try intro ht) <;> (simp_all; done); done)

@[simp] theorem pinLoad_keeps (a : List (ℕ × Sys2Proof.SenseRes × Sys2Proof.SenseRes)) (s : Sys2Proof.Machine.State) (b : ℕ) : (pinLoad a s
    b).pending = s.pending ∧ (pinLoad a s b).keys = s.keys ∧ (pinLoad a s b).th = s.th ∧ (pinLoad a s b).sec = s.sec := by
  first
  | (simp [pinLoad]; done)
  | (unfold pinLoad; (try simp only []); (repeat' split) <;> (try intro ht) <;> ((try (have p := congrArg Prod.fst ‹_ = (_, _)›; simp only [] at p; subst p)); (try (first | (injection ht with ht; subst ht; simp_all; done) | (subst ht; simp_all; done) | (subst_vars; simp_all; done) | simp_all))); done)

@[simp] theorem enterWarm_keeps (s : Sys2Proof.Machine.State) : (enterWarm s).pending = s.pending ∧ (enterWarm s).out = s.out ∧ (enterWarm
    s).freeCtr = s.freeCtr ∧ (enterWarm s).regs = s.regs ∧ (enterWarm s).req = s.req ∧ (enterWarm s).ports = s.ports ∧ (enterWarm s).rings = s.rings
    ∧ (enterWarm s).cmds = s.cmds ∧ (enterWarm s).tabs = s.tabs ∧ (enterWarm s).mapu = s.mapu ∧ (enterWarm s).cist = s.cist ∧ (enterWarm s).cache =
    s.cache ∧ (enterWarm s).med = s.med ∧ (enterWarm s).keys = s.keys ∧ (enterWarm s).wear = s.wear ∧ (enterWarm s).drift = s.drift ∧ (enterWarm
    s).pair = s.pair ∧ (enterWarm s).flt = s.flt ∧ (enterWarm s).ag = s.ag ∧ (enterWarm s).qz = s.qz ∧ (enterWarm s).th = s.th ∧ (enterWarm s).beryl
    = s.beryl ∧ (enterWarm s).sec = s.sec := by
  first
  | (simp [enterWarm]; done)
  | (unfold enterWarm; (try simp only []); (repeat' split) <;> (try intro ht) <;> (simp_all; done); done)

@[simp] theorem pinPagesF_keeps (s : Sys2Proof.Machine.State) (a : Running) (b : Desc) (c : List (ℕ × Sys2Proof.SenseRes × Sys2Proof.SenseRes)) :
    (pinPagesF s a b c).pending = s.pending ∧ (pinPagesF s a b c).keys = s.keys ∧ (pinPagesF s a b c).th = s.th ∧ (pinPagesF s a b c).sec = s.sec := by
  first
  | (simp [pinPagesF]; done)
  | (unfold pinPagesF; (try simp only []); (repeat' split) <;> (try intro ht) <;> (simp_all; done); done)

@[simp] theorem witnessLostF_keeps (s : Sys2Proof.Machine.State) : (witnessLostF s).pending = s.pending ∧ (witnessLostF s).freeCtr = s.freeCtr ∧
    (witnessLostF s).tabs = s.tabs ∧ (witnessLostF s).mapu = s.mapu ∧ (witnessLostF s).cist = s.cist ∧ (witnessLostF s).cache = s.cache ∧
    (witnessLostF s).med = s.med ∧ (witnessLostF s).keys = s.keys ∧ (witnessLostF s).wear = s.wear ∧ (witnessLostF s).drift = s.drift ∧
    (witnessLostF s).qz = s.qz ∧ (witnessLostF s).zir = s.zir ∧ (witnessLostF s).th = s.th ∧ (witnessLostF s).sec = s.sec := by
  first
  | (simp [witnessLostF]; done)
  | (unfold witnessLostF; (try simp only []); (repeat' split) <;> (try intro ht) <;> (simp_all; done); done)

@[simp] theorem afterPlacement_keeps (s : Sys2Proof.Machine.State) (a : ℕ) (b : BitVec 8) : (afterPlacement s a b).pending = s.pending ∧
    (afterPlacement s a b).req = s.req ∧ (afterPlacement s a b).ports = s.ports ∧ (afterPlacement s a b).mapu = s.mapu ∧ (afterPlacement s a b).cist
    = s.cist ∧ (afterPlacement s a b).cache = s.cache ∧ (afterPlacement s a b).med = s.med ∧ (afterPlacement s a b).wear = s.wear ∧ (afterPlacement
    s a b).drift = s.drift ∧ (afterPlacement s a b).pair = s.pair ∧ (afterPlacement s a b).flt = s.flt ∧ (afterPlacement s a b).qz = s.qz ∧
    (afterPlacement s a b).zir = s.zir ∧ (afterPlacement s a b).th = s.th ∧ (afterPlacement s a b).sec = s.sec := by
  first
  | (simp [afterPlacement]; done)
  | (unfold afterPlacement; (try simp only []); (repeat' split) <;> (try intro ht) <;> (simp_all; done); done)

@[simp] theorem commitMove_keeps (s : Sys2Proof.Machine.State) (a : Move) : (commitMove s a).pending = s.pending ∧ (commitMove s a).cache = s.cache
    ∧ (commitMove s a).drift = s.drift ∧ (commitMove s a).th = s.th ∧ (commitMove s a).sec = s.sec := by
  first
  | (simp [commitMove]; done)
  | (unfold commitMove; (try simp only []); (repeat' split) <;> (try intro ht) <;> (simp_all; done); done)

theorem loadObject_keeps (s : Sys2Proof.Machine.State) (a : ℕ) (b : ℕ) (c : List (ℕ × Sys2Proof.SenseRes × Sys2Proof.SenseRes)) : ∀ t k, loadObject
    s a b c = some (t, k) → t.pending = s.pending ∧ t.keys = s.keys ∧ t.th = s.th ∧ t.sec = s.sec := by
  intro t k ht; unfold loadObject at ht; split at ht
  · injection ht with ht; injection ht with ht _; subst ht; simp
  · split at ht
    · cases ht
    · injection ht with ht
      have q := senseTile_keeps s ‹ℕ› (mseqAt s ‹ℕ›) b c 256 0
      rw [ht] at q; exact q

@[simp] theorem applyQueued_keeps (s : Sys2Proof.Machine.State) (a : ℕ) : (applyQueued s a).pending = s.pending ∧ (applyQueued s a).out = s.out ∧
    (applyQueued s a).freeCtr = s.freeCtr ∧ (applyQueued s a).req = s.req ∧ (applyQueued s a).pwr = s.pwr ∧ (applyQueued s a).ports = s.ports ∧
    (applyQueued s a).rings = s.rings ∧ (applyQueued s a).cmds = s.cmds ∧ (applyQueued s a).tabs = s.tabs ∧ (applyQueued s a).cist = s.cist ∧
    (applyQueued s a).cache = s.cache ∧ (applyQueued s a).med = s.med ∧ (applyQueued s a).keys = s.keys ∧ (applyQueued s a).pair = s.pair ∧
    (applyQueued s a).flt = s.flt ∧ (applyQueued s a).ag = s.ag ∧ (applyQueued s a).qz = s.qz ∧ (applyQueued s a).zir = s.zir ∧ (applyQueued s a).th
    = s.th ∧ (applyQueued s a).beryl = s.beryl ∧ (applyQueued s a).sec = s.sec := by
  first
  | (simp [applyQueued]; done)
  | (unfold applyQueued; (try simp only []); (repeat' split) <;> (try intro ht) <;> (simp_all; done); done)

@[simp] theorem loadLedgers_keeps (s : Sys2Proof.Machine.State) (a : List (ℕ × Sys2Proof.SenseRes × Sys2Proof.SenseRes)) : (loadLedgers s a).pending
    = s.pending ∧ (loadLedgers s a).keys = s.keys ∧ (loadLedgers s a).th = s.th ∧ (loadLedgers s a).sec = s.sec := by
  have q := loadObject_keeps
  unfold loadLedgers; dsimp only; (repeat' constructor) <;> (first | (rw [foldl_pending]) | rw [foldl_th] | rw [foldl_sec] | rw [foldl_keys]) <;>
    (intro s o; split
     · rfl
     · rename_i h; have q := q _ _ _ _ _ _ h; simp_all)

@[simp] theorem failBank_keeps (s : Sys2Proof.Machine.State) : (failBank s).pending = s.pending ∧ (failBank s).freeCtr = s.freeCtr ∧ (failBank
    s).tabs = s.tabs ∧ (failBank s).mapu = s.mapu ∧ (failBank s).cist = s.cist ∧ (failBank s).cache = s.cache ∧ (failBank s).med = s.med ∧ (failBank
    s).keys = s.keys ∧ (failBank s).wear = s.wear ∧ (failBank s).drift = s.drift ∧ (failBank s).qz = s.qz ∧ (failBank s).zir = s.zir ∧ (failBank
    s).th = s.th ∧ (failBank s).sec = s.sec := by
  first
  | (simp [failBank]; done)
  | (unfold failBank; (try simp only []); (repeat' split) <;> (try intro ht) <;> (simp_all; done); done)

@[simp] theorem logBank_keeps (s : Sys2Proof.Machine.State) : (logBank s).pending = s.pending ∧ (logBank s).out = s.out ∧ (logBank s).freeCtr =
    s.freeCtr ∧ (logBank s).regs = s.regs ∧ (logBank s).req = s.req ∧ (logBank s).pwr = s.pwr ∧ (logBank s).ports = s.ports ∧ (logBank s).rings =
    s.rings ∧ (logBank s).cmds = s.cmds ∧ (logBank s).tabs = s.tabs ∧ (logBank s).mapu = s.mapu ∧ (logBank s).cist = s.cist ∧ (logBank s).cache =
    s.cache ∧ (logBank s).med = s.med ∧ (logBank s).keys = s.keys ∧ (logBank s).wear = s.wear ∧ (logBank s).drift = s.drift ∧ (logBank s).pair =
    s.pair ∧ (logBank s).flt = s.flt ∧ (logBank s).ag = s.ag ∧ (logBank s).qz = s.qz ∧ (logBank s).th = s.th ∧ (logBank s).sec = s.sec := by
  first
  | (simp [logBank]; done)
  | (unfold logBank; (try simp only []); (repeat' split) <;> (try intro ht) <;> (simp_all; done); done)

@[simp] theorem flagZircon_keeps (s : Sys2Proof.Machine.State) (a : ℕ) : (flagZircon s a).pending = s.pending ∧ (flagZircon s a).out = s.out ∧
    (flagZircon s a).freeCtr = s.freeCtr ∧ (flagZircon s a).req = s.req ∧ (flagZircon s a).pwr = s.pwr ∧ (flagZircon s a).ports = s.ports ∧
    (flagZircon s a).rings = s.rings ∧ (flagZircon s a).cmds = s.cmds ∧ (flagZircon s a).tabs = s.tabs ∧ (flagZircon s a).mapu = s.mapu ∧
    (flagZircon s a).cist = s.cist ∧ (flagZircon s a).cache = s.cache ∧ (flagZircon s a).med = s.med ∧ (flagZircon s a).keys = s.keys ∧ (flagZircon
    s a).wear = s.wear ∧ (flagZircon s a).drift = s.drift ∧ (flagZircon s a).pair = s.pair ∧ (flagZircon s a).flt = s.flt ∧ (flagZircon s a).ag =
    s.ag ∧ (flagZircon s a).qz = s.qz ∧ (flagZircon s a).zir = s.zir ∧ (flagZircon s a).th = s.th ∧ (flagZircon s a).beryl = s.beryl ∧ (flagZircon s
    a).sec = s.sec := by
  first
  | (simp [flagZircon]; done)
  | (unfold flagZircon; (try simp only []); (repeat' split) <;> (try intro ht) <;> (simp_all; done); done)

@[simp] theorem declareLost_keeps (s : Sys2Proof.Machine.State) : (declareLost s).pending = s.pending ∧ (declareLost s).th = s.th := by
  first
  | (simp [declareLost]; done)
  | (unfold declareLost; (try simp only []); (repeat' split) <;> (try intro ht) <;> (simp_all; done); done)

@[simp] theorem demandFrames_keeps (s : Sys2Proof.Machine.State) (a : ℕ) (b : List (ℕ × Sys2Proof.SenseRes × Sys2Proof.SenseRes)) (c : ℕ) (d : ℕ) :
    (demandFrames s a b c d).1.pending = s.pending ∧ (demandFrames s a b c d).1.keys = s.keys ∧ (demandFrames s a b c d).1.th = s.th ∧ (demandFrames
    s a b c d).1.sec = s.sec := by
  induction c generalizing s d with
  | zero => simp [demandFrames]
  | succ n ih => unfold demandFrames; dsimp only; simp only [ih]; (repeat' split) <;> simp

@[simp] theorem putSense_keeps (s : Sys2Proof.Machine.State) (a : Sense) : (putSense s a).pending = s.pending ∧ (putSense s a).out = s.out ∧
    (putSense s a).freeCtr = s.freeCtr ∧ (putSense s a).regs = s.regs ∧ (putSense s a).req = s.req ∧ (putSense s a).pwr = s.pwr ∧ (putSense s
    a).ports = s.ports ∧ (putSense s a).rings = s.rings ∧ (putSense s a).cmds = s.cmds ∧ (putSense s a).tabs = s.tabs ∧ (putSense s a).mapu = s.mapu
    ∧ (putSense s a).cist = s.cist ∧ (putSense s a).cache = s.cache ∧ (putSense s a).keys = s.keys ∧ (putSense s a).wear = s.wear ∧ (putSense s
    a).drift = s.drift ∧ (putSense s a).pair = s.pair ∧ (putSense s a).flt = s.flt ∧ (putSense s a).ag = s.ag ∧ (putSense s a).qz = s.qz ∧ (putSense
    s a).zir = s.zir ∧ (putSense s a).th = s.th ∧ (putSense s a).beryl = s.beryl ∧ (putSense s a).sec = s.sec := by
  first
  | (simp [putSense]; done)
  | (unfold putSense; (try simp only []); (repeat' split) <;> (try intro ht) <;> (simp_all; done); done)

@[simp] theorem continueSense_keeps (s : Sys2Proof.Machine.State) (a : Sense) (b : RdFlags) (c : ℕ) : (continueSense s a b c).pending = s.pending ∧
    (continueSense s a b c).keys = s.keys ∧ (continueSense s a b c).th = s.th ∧ (continueSense s a b c).sec = s.sec := by
  first
  | (simp [continueSense]; done)
  | (unfold continueSense; (try simp only []); (repeat' split) <;> (try intro ht) <;> ((try (have p := congrArg Prod.fst ‹_ = (_, _)›; simp only [] at p; subst p)); (try (first | (injection ht with ht; subst ht; simp_all; done) | (subst ht; simp_all; done) | (subst_vars; simp_all; done) | simp_all))); done)

@[simp] theorem addLost_keeps (s : Sys2Proof.Machine.State) : (addLost s).pending = s.pending ∧ (addLost s).out = s.out ∧ (addLost s).freeCtr =
    s.freeCtr ∧ (addLost s).regs = s.regs ∧ (addLost s).req = s.req ∧ (addLost s).pwr = s.pwr ∧ (addLost s).ports = s.ports ∧ (addLost s).rings =
    s.rings ∧ (addLost s).cmds = s.cmds ∧ (addLost s).tabs = s.tabs ∧ (addLost s).mapu = s.mapu ∧ (addLost s).cist = s.cist ∧ (addLost s).cache =
    s.cache ∧ (addLost s).med = s.med ∧ (addLost s).keys = s.keys ∧ (addLost s).wear = s.wear ∧ (addLost s).drift = s.drift ∧ (addLost s).flt =
    s.flt ∧ (addLost s).ag = s.ag ∧ (addLost s).qz = s.qz ∧ (addLost s).zir = s.zir ∧ (addLost s).th = s.th ∧ (addLost s).beryl = s.beryl ∧ (addLost
    s).sec = s.sec := by
  first
  | (simp [addLost]; done)
  | (unfold addLost; (try simp only []); (repeat' split) <;> (try intro ht) <;> (simp_all; done); done)

@[simp] theorem tokenDie_keeps (s : Sys2Proof.Machine.State) (a : ℕ) (b : ℕ) : (tokenDie s a b).pending = s.pending ∧ (tokenDie s a b).out = s.out ∧
    (tokenDie s a b).freeCtr = s.freeCtr ∧ (tokenDie s a b).regs = s.regs ∧ (tokenDie s a b).req = s.req ∧ (tokenDie s a b).pwr = s.pwr ∧ (tokenDie
    s a b).ports = s.ports ∧ (tokenDie s a b).rings = s.rings ∧ (tokenDie s a b).cmds = s.cmds ∧ (tokenDie s a b).tabs = s.tabs ∧ (tokenDie s a
    b).mapu = s.mapu ∧ (tokenDie s a b).cache = s.cache ∧ (tokenDie s a b).med = s.med ∧ (tokenDie s a b).keys = s.keys ∧ (tokenDie s a b).wear =
    s.wear ∧ (tokenDie s a b).drift = s.drift ∧ (tokenDie s a b).pair = s.pair ∧ (tokenDie s a b).flt = s.flt ∧ (tokenDie s a b).ag = s.ag ∧
    (tokenDie s a b).qz = s.qz ∧ (tokenDie s a b).zir = s.zir ∧ (tokenDie s a b).th = s.th ∧ (tokenDie s a b).beryl = s.beryl ∧ (tokenDie s a b).sec
    = s.sec := by
  first
  | (simp [tokenDie]; done)
  | (unfold tokenDie; (try simp only []); (repeat' split) <;> (try intro ht) <;> (simp_all; done); done)

@[simp] theorem setBudget_keeps (s : Sys2Proof.Machine.State) : (setBudget s).pending = s.pending ∧ (setBudget s).out = s.out ∧ (setBudget
    s).freeCtr = s.freeCtr ∧ (setBudget s).regs = s.regs ∧ (setBudget s).req = s.req ∧ (setBudget s).pwr = s.pwr ∧ (setBudget s).ports = s.ports ∧
    (setBudget s).rings = s.rings ∧ (setBudget s).cmds = s.cmds ∧ (setBudget s).tabs = s.tabs ∧ (setBudget s).mapu = s.mapu ∧ (setBudget s).cache =
    s.cache ∧ (setBudget s).med = s.med ∧ (setBudget s).keys = s.keys ∧ (setBudget s).wear = s.wear ∧ (setBudget s).drift = s.drift ∧ (setBudget
    s).pair = s.pair ∧ (setBudget s).flt = s.flt ∧ (setBudget s).ag = s.ag ∧ (setBudget s).qz = s.qz ∧ (setBudget s).zir = s.zir ∧ (setBudget s).th
    = s.th ∧ (setBudget s).beryl = s.beryl ∧ (setBudget s).sec = s.sec := by
  first
  | (simp [setBudget]; done)
  | (unfold setBudget; (try simp only []); (repeat' split) <;> (try intro ht) <;> (simp_all; done); done)

@[simp] theorem evalPacing_keeps (s : Sys2Proof.Machine.State) : (evalPacing s).pending = s.pending ∧ (evalPacing s).out = s.out ∧ (evalPacing
    s).freeCtr = s.freeCtr ∧ (evalPacing s).regs = s.regs ∧ (evalPacing s).req = s.req ∧ (evalPacing s).pwr = s.pwr ∧ (evalPacing s).ports = s.ports
    ∧ (evalPacing s).rings = s.rings ∧ (evalPacing s).cmds = s.cmds ∧ (evalPacing s).tabs = s.tabs ∧ (evalPacing s).mapu = s.mapu ∧ (evalPacing
    s).cache = s.cache ∧ (evalPacing s).med = s.med ∧ (evalPacing s).keys = s.keys ∧ (evalPacing s).wear = s.wear ∧ (evalPacing s).drift = s.drift ∧
    (evalPacing s).pair = s.pair ∧ (evalPacing s).flt = s.flt ∧ (evalPacing s).ag = s.ag ∧ (evalPacing s).qz = s.qz ∧ (evalPacing s).zir = s.zir ∧
    (evalPacing s).th = s.th ∧ (evalPacing s).beryl = s.beryl ∧ (evalPacing s).sec = s.sec := by
  first
  | (simp [evalPacing]; done)
  | (unfold evalPacing; (try simp only []); (repeat' split) <;> (try intro ht) <;> (simp_all; done); done)

@[simp] theorem payBudget_keeps (s : Sys2Proof.Machine.State) (a : ℕ) : (payBudget s a).pending = s.pending ∧ (payBudget s a).out = s.out ∧
    (payBudget s a).freeCtr = s.freeCtr ∧ (payBudget s a).regs = s.regs ∧ (payBudget s a).req = s.req ∧ (payBudget s a).pwr = s.pwr ∧ (payBudget s
    a).rings = s.rings ∧ (payBudget s a).cmds = s.cmds ∧ (payBudget s a).tabs = s.tabs ∧ (payBudget s a).mapu = s.mapu ∧ (payBudget s a).cache =
    s.cache ∧ (payBudget s a).med = s.med ∧ (payBudget s a).keys = s.keys ∧ (payBudget s a).wear = s.wear ∧ (payBudget s a).drift = s.drift ∧
    (payBudget s a).pair = s.pair ∧ (payBudget s a).flt = s.flt ∧ (payBudget s a).ag = s.ag ∧ (payBudget s a).qz = s.qz ∧ (payBudget s a).zir =
    s.zir ∧ (payBudget s a).th = s.th ∧ (payBudget s a).beryl = s.beryl ∧ (payBudget s a).sec = s.sec := by
  first
  | (simp [payBudget]; done)
  | (unfold payBudget; (try simp only []); (repeat' split) <;> (try intro ht) <;> (simp_all; done); done)

@[simp] theorem releaseFreed_keeps (s : Sys2Proof.Machine.State) : (releaseFreed s).pending = s.pending ∧ (releaseFreed s).out = s.out ∧
    (releaseFreed s).freeCtr = s.freeCtr ∧ (releaseFreed s).regs = s.regs ∧ (releaseFreed s).req = s.req ∧ (releaseFreed s).pwr = s.pwr ∧
    (releaseFreed s).ports = s.ports ∧ (releaseFreed s).rings = s.rings ∧ (releaseFreed s).cmds = s.cmds ∧ (releaseFreed s).tabs = s.tabs ∧
    (releaseFreed s).mapu = s.mapu ∧ (releaseFreed s).cist = s.cist ∧ (releaseFreed s).cache = s.cache ∧ (releaseFreed s).med = s.med ∧
    (releaseFreed s).keys = s.keys ∧ (releaseFreed s).drift = s.drift ∧ (releaseFreed s).pair = s.pair ∧ (releaseFreed s).flt = s.flt ∧
    (releaseFreed s).ag = s.ag ∧ (releaseFreed s).qz = s.qz ∧ (releaseFreed s).zir = s.zir ∧ (releaseFreed s).th = s.th ∧ (releaseFreed s).beryl =
    s.beryl ∧ (releaseFreed s).sec = s.sec := by
  first
  | (simp [releaseFreed]; done)
  | (unfold releaseFreed; (try simp only []); (repeat' split) <;> (try intro ht) <;> (simp_all; done); done)

@[simp] theorem freeMeta_keeps (s : Sys2Proof.Machine.State) (a : List ℕ) (b : ℕ) : (freeMeta s a b).pending = s.pending ∧ (freeMeta s a b).freeCtr
    = s.freeCtr ∧ (freeMeta s a b).cist = s.cist ∧ (freeMeta s a b).cache = s.cache ∧ (freeMeta s a b).keys = s.keys ∧ (freeMeta s a b).drift =
    s.drift ∧ (freeMeta s a b).qz = s.qz ∧ (freeMeta s a b).th = s.th ∧ (freeMeta s a b).sec = s.sec := by
  first
  | (simp [freeMeta]; done)
  | (unfold freeMeta; (try simp only []); (repeat' split) <;> (try intro ht) <;> (simp_all; done); done)

@[simp] theorem stageLast_keeps (a : List (BitVec 8)) (s : Sys2Proof.Machine.State) (b : Running) : (stageLast a s b).pending = s.pending ∧
    (stageLast a s b).freeCtr = s.freeCtr ∧ (stageLast a s b).tabs = s.tabs ∧ (stageLast a s b).mapu = s.mapu ∧ (stageLast a s b).cist = s.cist ∧
    (stageLast a s b).cache = s.cache ∧ (stageLast a s b).med = s.med ∧ (stageLast a s b).keys = s.keys ∧ (stageLast a s b).wear = s.wear ∧
    (stageLast a s b).drift = s.drift ∧ (stageLast a s b).qz = s.qz ∧ (stageLast a s b).zir = s.zir ∧ (stageLast a s b).th = s.th := by
  first
  | (simp [stageLast]; done)
  | (unfold stageLast; (try simp only []); (repeat' split) <;> (try intro ht) <;> (simp_all; done); done)

@[simp] theorem fwStageRun_keeps (a : Bool) (b : List (BitVec 8)) (s : Sys2Proof.Machine.State) (c : Running) (d : Desc) : (fwStageRun a b s c
    d).pending = s.pending ∧ (fwStageRun a b s c d).freeCtr = s.freeCtr ∧ (fwStageRun a b s c d).tabs = s.tabs ∧ (fwStageRun a b s c d).mapu =
    s.mapu ∧ (fwStageRun a b s c d).cist = s.cist ∧ (fwStageRun a b s c d).cache = s.cache ∧ (fwStageRun a b s c d).med = s.med ∧ (fwStageRun a b s
    c d).keys = s.keys ∧ (fwStageRun a b s c d).wear = s.wear ∧ (fwStageRun a b s c d).drift = s.drift ∧ (fwStageRun a b s c d).qz = s.qz ∧
    (fwStageRun a b s c d).zir = s.zir ∧ (fwStageRun a b s c d).th = s.th := by
  first
  | (simp [fwStageRun]; done)
  | (unfold fwStageRun; (try simp only []); (repeat' split) <;> (try intro ht) <;> (simp_all; done); done)

@[simp] theorem clearLost_keeps (s : Sys2Proof.Machine.State) : (clearLost s).pending = s.pending ∧ (clearLost s).freeCtr = s.freeCtr ∧ (clearLost
    s).req = s.req ∧ (clearLost s).ports = s.ports ∧ (clearLost s).tabs = s.tabs ∧ (clearLost s).mapu = s.mapu ∧ (clearLost s).cist = s.cist ∧
    (clearLost s).cache = s.cache ∧ (clearLost s).med = s.med ∧ (clearLost s).wear = s.wear ∧ (clearLost s).drift = s.drift ∧ (clearLost s).pair =
    s.pair ∧ (clearLost s).flt = s.flt ∧ (clearLost s).qz = s.qz ∧ (clearLost s).zir = s.zir ∧ (clearLost s).th = s.th ∧ (clearLost s).sec = s.sec
    := by
  first
  | (simp [clearLost]; done)
  | (unfold clearLost; (try simp only []); (repeat' split) <;> (try intro ht) <;> (simp_all; done); done)

@[simp] theorem adoptAnchor_keeps (s : Sys2Proof.Machine.State) : (adoptAnchor s).pending = s.pending ∧ (adoptAnchor s).th = s.th := by
  first
  | (simp [adoptAnchor]; done)
  | (unfold adoptAnchor; (try simp only []); (repeat' split) <;> (try intro ht) <;> (simp_all; done); done)

@[simp] theorem anchorEnd_keeps (s : Sys2Proof.Machine.State) (a : ℕ) (b : Bool) (c : ℕ) : (anchorEnd s a b c).pending = s.pending ∧ (anchorEnd s a
    b c).th = s.th := by
  first
  | (simp [anchorEnd]; done)
  | (unfold anchorEnd; (try simp only []); (repeat' split) <;> (try intro ht) <;> (simp_all; done); done)

@[simp] theorem endMoves_keeps (s : Sys2Proof.Machine.State) : (endMoves s).pending = s.pending ∧ (endMoves s).out = s.out ∧ (endMoves s).freeCtr =
    s.freeCtr ∧ (endMoves s).req = s.req ∧ (endMoves s).pwr = s.pwr ∧ (endMoves s).ports = s.ports ∧ (endMoves s).rings = s.rings ∧ (endMoves
    s).cmds = s.cmds ∧ (endMoves s).tabs = s.tabs ∧ (endMoves s).mapu = s.mapu ∧ (endMoves s).cist = s.cist ∧ (endMoves s).cache = s.cache ∧
    (endMoves s).med = s.med ∧ (endMoves s).keys = s.keys ∧ (endMoves s).pair = s.pair ∧ (endMoves s).flt = s.flt ∧ (endMoves s).ag = s.ag ∧
    (endMoves s).qz = s.qz ∧ (endMoves s).zir = s.zir ∧ (endMoves s).th = s.th ∧ (endMoves s).beryl = s.beryl ∧ (endMoves s).sec = s.sec := by
  first
  | (simp [endMoves]; done)
  | (unfold endMoves; (try simp only []); (repeat' split) <;> (try intro ht) <;> (simp_all; done); done)

@[simp] theorem afterDurable_keeps (s : Sys2Proof.Machine.State) : (afterDurable s).pending = s.pending ∧ (afterDurable s).freeCtr = s.freeCtr ∧
    (afterDurable s).tabs = s.tabs ∧ (afterDurable s).mapu = s.mapu ∧ (afterDurable s).cist = s.cist ∧ (afterDurable s).cache = s.cache ∧
    (afterDurable s).med = s.med ∧ (afterDurable s).keys = s.keys ∧ (afterDurable s).qz = s.qz ∧ (afterDurable s).th = s.th ∧ (afterDurable s).sec =
    s.sec := by
  first
  | (simp [afterDurable]; done)
  | (unfold afterDurable; (try simp only []); (repeat' split) <;> (try intro ht) <;> (simp_all; done); done)

@[simp] theorem setDie_keeps (s : Sys2Proof.Machine.State) (a : ℕ) (b : ℕ) : (setDie s a b).pending = s.pending ∧ (setDie s a b).freeCtr = s.freeCtr
    ∧ (setDie s a b).req = s.req ∧ (setDie s a b).pwr = s.pwr ∧ (setDie s a b).rings = s.rings ∧ (setDie s a b).cmds = s.cmds ∧ (setDie s a b).tabs
    = s.tabs ∧ (setDie s a b).mapu = s.mapu ∧ (setDie s a b).med = s.med ∧ (setDie s a b).keys = s.keys ∧ (setDie s a b).wear = s.wear ∧ (setDie s a
    b).drift = s.drift ∧ (setDie s a b).flt = s.flt ∧ (setDie s a b).ag = s.ag ∧ (setDie s a b).zir = s.zir ∧ (setDie s a b).th = s.th ∧ (setDie s a
    b).beryl = s.beryl ∧ (setDie s a b).sec = s.sec := by
  first
  | (simp [setDie]; done)
  | (unfold setDie; (try simp only []); (repeat' split) <;> (try intro ht) <;> (simp_all; done); done)

@[simp] theorem allocate_keeps (s : Sys2Proof.Machine.State) (a : ℕ) (b : ℕ) : (allocate s a b).pending = s.pending ∧ (allocate s a b).drift =
    s.drift ∧ (allocate s a b).th = s.th ∧ (allocate s a b).sec = s.sec := by
  unfold allocate; split
  · simp
  · split
    · simp
    · rename_i h; have q := takeTile_keeps _ _ _ _ _ h; simp_all

@[simp] theorem takeWell_keeps (s : Sys2Proof.Machine.State) (a : ℕ) (b : Sys2Proof.Well) : (takeWell s a b).1.pending = s.pending ∧ (takeWell s a
    b).1.th = s.th ∧ (takeWell s a b).1.sec = s.sec := by
  first
  | (simp [takeWell]; done)
  | (unfold takeWell; (try simp only []); (repeat' split) <;> (try intro ht) <;> (simp_all; done); done)

@[simp] theorem takeWells_keeps (s : Sys2Proof.Machine.State) (a : Store Sys2Proof.Well) : (takeWells s a).pending = s.pending ∧ (takeWells s a).th
    = s.th ∧ (takeWells s a).sec = s.sec := by
  first
  | (simp [takeWells]; done)
  | (unfold takeWells; (try simp only []); (repeat' split) <;> (try intro ht) <;> ((try (have p := congrArg Prod.fst ‹_ = (_, _)›; simp only [] at p; subst p)); (try (first | (injection ht with ht; subst ht; simp_all; done) | (subst ht; simp_all; done) | (subst_vars; simp_all; done) | simp_all))); done)

@[simp] theorem takeOver_keeps (s : Sys2Proof.Machine.State) : (takeOver s).pending = s.pending ∧ (takeOver s).th = s.th ∧ (takeOver s).sec = s.sec := by
  first
  | (simp [takeOver]; done)
  | (unfold takeOver; (try simp only []); (repeat' split) <;> (try intro ht) <;> (simp_all; done); done)

@[simp] theorem prefetchFailed_keeps (s : Sys2Proof.Machine.State) (a : Sense) (b : Sensed) : (prefetchFailed s a b).pending = s.pending ∧
    (prefetchFailed s a b).keys = s.keys ∧ (prefetchFailed s a b).th = s.th ∧ (prefetchFailed s a b).sec = s.sec := by
  first
  | (simp [prefetchFailed]; done)
  | (unfold prefetchFailed; (try simp only []); (repeat' split) <;> (try intro ht) <;> (simp_all; done); done)

theorem admitOwn_keeps (s : Sys2Proof.Machine.State) (a : List ℕ) (b : List WaitW) : ∀ t, admitOwn s a b = some t → t.pending = s.pending ∧ t.keys =
    s.keys ∧ t.th = s.th ∧ t.sec = s.sec := by
  intro t ht
  induction b generalizing a with
  | nil => simp [admitOwn] at ht
  | cons x r ih =>
    unfold admitOwn at ht; split at ht
    · exact ih _ ht
    · split at ht
      · injection ht with ht; subst ht; rename_i h; exact tryAdmit_keeps _ _ _ h
      · exact ih _ ht

@[simp] theorem writeAdmitF_keeps (s : Sys2Proof.Machine.State) (a : ℕ) : (writeAdmitF s a).pending = s.pending ∧ (writeAdmitF s a).keys = s.keys ∧
    (writeAdmitF s a).th = s.th ∧ (writeAdmitF s a).sec = s.sec := by
  unfold writeAdmitF; split
  · split
    · rename_i h; exact admitOwn_keeps _ _ _ _ h
    · dsimp only
      cases h : admitRound s a 9 (sGet (0, 0) s.cist.rr a).1 (sGet (0, 0) s.cist.rr a).2 with
      | none => simp
      | some x => simpa using admitRound_keeps _ _ _ _ _ _ h
  · simp

@[simp] theorem retireSlot_keeps (s : Sys2Proof.Machine.State) (a : ℕ) : (retireSlot s a).pending = s.pending ∧ (retireSlot s a).freeCtr = s.freeCtr
    ∧ (retireSlot s a).tabs = s.tabs ∧ (retireSlot s a).mapu = s.mapu ∧ (retireSlot s a).cist = s.cist ∧ (retireSlot s a).cache = s.cache ∧
    (retireSlot s a).med = s.med ∧ (retireSlot s a).keys = s.keys ∧ (retireSlot s a).wear = s.wear ∧ (retireSlot s a).drift = s.drift ∧ (retireSlot
    s a).qz = s.qz ∧ (retireSlot s a).zir = s.zir ∧ (retireSlot s a).th = s.th ∧ (retireSlot s a).sec = s.sec := by
  first
  | (simp [retireSlot]; done)
  | (unfold retireSlot; (try simp only []); (repeat' split) <;> (try intro ht) <;> (simp_all; done); done)

@[simp] theorem resolveByMove_keeps (s : Sys2Proof.Machine.State) (a : ℕ) (b : MoveKind) : (resolveByMove s a b).pending = s.pending ∧
    (resolveByMove s a b).keys = s.keys ∧ (resolveByMove s a b).drift = s.drift ∧ (resolveByMove s a b).th = s.th ∧ (resolveByMove s a b).sec =
    s.sec := by
  first
  | (simp [resolveByMove]; done)
  | (unfold resolveByMove; (try simp only []); (repeat' split) <;> (try intro ht) <;> ((try have q0 := beginMove_keeps _ _ _ _ _ _ _ ‹_›); (try (first | (injection ht with ht; subst ht; simp_all; done) | (subst ht; simp_all; done) | (subst_vars; simp_all; done) | simp_all))); done)

@[simp] theorem dieResolveF_keeps (s : Sys2Proof.Machine.State) (a : ℕ) : (dieResolveF s a).pending = s.pending ∧ (dieResolveF s a).drift = s.drift
    ∧ (dieResolveF s a).th = s.th ∧ (dieResolveF s a).sec = s.sec := by
  first
  | (simp [dieResolveF]; done)
  | (unfold dieResolveF; (try simp only []); (repeat' split) <;> (try intro ht) <;> (simp_all; done); done)

@[simp] theorem sanitizeResume_keeps (s : Sys2Proof.Machine.State) : (sanitizeResume s).pending = s.pending ∧ (sanitizeResume s).req = s.req ∧
    (sanitizeResume s).ports = s.ports ∧ (sanitizeResume s).cist = s.cist ∧ (sanitizeResume s).cache = s.cache ∧ (sanitizeResume s).med = s.med ∧
    (sanitizeResume s).drift = s.drift ∧ (sanitizeResume s).pair = s.pair ∧ (sanitizeResume s).flt = s.flt ∧ (sanitizeResume s).qz = s.qz ∧
    (sanitizeResume s).zir = s.zir ∧ (sanitizeResume s).th = s.th ∧ (sanitizeResume s).sec = s.sec := by
  first
  | (simp [sanitizeResume]; done)
  | (unfold sanitizeResume; (try simp only []); (repeat' split) <;> (try intro ht) <;> (simp_all; done); done)

@[simp] theorem resumeFrom_keeps (s : Sys2Proof.Machine.State) (a : AnchorF) : (resumeFrom s a).pending = s.pending ∧ (resumeFrom s a).req = s.req ∧
    (resumeFrom s a).ports = s.ports ∧ (resumeFrom s a).cist = s.cist ∧ (resumeFrom s a).cache = s.cache ∧ (resumeFrom s a).med = s.med ∧
    (resumeFrom s a).drift = s.drift ∧ (resumeFrom s a).pair = s.pair ∧ (resumeFrom s a).flt = s.flt ∧ (resumeFrom s a).qz = s.qz ∧ (resumeFrom s
    a).zir = s.zir ∧ (resumeFrom s a).th = s.th ∧ (resumeFrom s a).sec = s.sec := by
  first
  | (simp [resumeFrom]; done)
  | (unfold resumeFrom; (try simp only []); (repeat' split) <;> (try intro ht) <;> (simp_all; done); done)

@[simp] theorem laterValid_keeps (a : ℕ) (b : ℕ) (c : ResList) (d : ℕ) (e : ℕ) (s : Sys2Proof.Machine.State) : (laterValid a b c d e s).1.pending =
    s.pending ∧ (laterValid a b c d e s).1.keys = s.keys ∧ (laterValid a b c d e s).1.th = s.th ∧ (laterValid a b c d e s).1.sec = s.sec := by
  induction d generalizing s e with
  | zero => simp [laterValid]
  | succ n ih =>
    have k := readJLine_keeps s a b e c
    unfold laterValid; split <;> (rename_i h; rw [h] at k; simp_all)

@[simp] theorem lostKeys_keeps (s : Sys2Proof.Machine.State) (a : List (ℕ × Sys2Proof.Well)) : (lostKeys s a).pending = s.pending ∧ (lostKeys s
    a).tabs = s.tabs ∧ (lostKeys s a).mapu = s.mapu ∧ (lostKeys s a).cist = s.cist ∧ (lostKeys s a).cache = s.cache ∧ (lostKeys s a).med = s.med ∧
    (lostKeys s a).wear = s.wear ∧ (lostKeys s a).drift = s.drift ∧ (lostKeys s a).qz = s.qz ∧ (lostKeys s a).zir = s.zir ∧ (lostKeys s a).th = s.th
    ∧ (lostKeys s a).sec = s.sec := by
  fun_induction lostKeys s a <;> (first | (simp_all; done) | simp_all +zetaDelta | (simp_all +zetaDelta; done))

@[simp] theorem rebuildPool_keeps (s : Sys2Proof.Machine.State) (a : ℕ) : (rebuildPool s a).pending = s.pending ∧ (rebuildPool s a).out = s.out ∧
    (rebuildPool s a).freeCtr = s.freeCtr ∧ (rebuildPool s a).regs = s.regs ∧ (rebuildPool s a).req = s.req ∧ (rebuildPool s a).pwr = s.pwr ∧
    (rebuildPool s a).ports = s.ports ∧ (rebuildPool s a).rings = s.rings ∧ (rebuildPool s a).cmds = s.cmds ∧ (rebuildPool s a).tabs = s.tabs ∧
    (rebuildPool s a).mapu = s.mapu ∧ (rebuildPool s a).cist = s.cist ∧ (rebuildPool s a).cache = s.cache ∧ (rebuildPool s a).med = s.med ∧
    (rebuildPool s a).keys = s.keys ∧ (rebuildPool s a).drift = s.drift ∧ (rebuildPool s a).pair = s.pair ∧ (rebuildPool s a).flt = s.flt ∧
    (rebuildPool s a).ag = s.ag ∧ (rebuildPool s a).qz = s.qz ∧ (rebuildPool s a).zir = s.zir ∧ (rebuildPool s a).th = s.th ∧ (rebuildPool s
    a).beryl = s.beryl ∧ (rebuildPool s a).sec = s.sec := by
  first
  | (simp [rebuildPool]; done)
  | (unfold rebuildPool; (try simp only []); (repeat' split) <;> (try intro ht) <;> (simp_all; done); done)

@[simp] theorem requeueResets_keeps (s : Sys2Proof.Machine.State) : (requeueResets s).pending = s.pending ∧ (requeueResets s).out = s.out ∧
    (requeueResets s).freeCtr = s.freeCtr ∧ (requeueResets s).regs = s.regs ∧ (requeueResets s).req = s.req ∧ (requeueResets s).pwr = s.pwr ∧
    (requeueResets s).ports = s.ports ∧ (requeueResets s).rings = s.rings ∧ (requeueResets s).cmds = s.cmds ∧ (requeueResets s).tabs = s.tabs ∧
    (requeueResets s).mapu = s.mapu ∧ (requeueResets s).cist = s.cist ∧ (requeueResets s).cache = s.cache ∧ (requeueResets s).med = s.med ∧
    (requeueResets s).keys = s.keys ∧ (requeueResets s).drift = s.drift ∧ (requeueResets s).pair = s.pair ∧ (requeueResets s).flt = s.flt ∧
    (requeueResets s).ag = s.ag ∧ (requeueResets s).qz = s.qz ∧ (requeueResets s).zir = s.zir ∧ (requeueResets s).th = s.th ∧ (requeueResets
    s).beryl = s.beryl ∧ (requeueResets s).sec = s.sec := by
  first
  | (simp [requeueResets]; done)
  | (unfold requeueResets; (try simp only []); (repeat' split) <;> (try intro ht) <;> (simp_all; done); done)

/-- What a walk through the medium leaves unchanged. -/
abbrev SameRest (a b : State) : Prop := a.pending = b.pending ∧ a.keys = b.keys ∧ a.th = b.th ∧ a.sec = b.sec

theorem SameRest.foldl {α β} (get : β → State) (f : β → α → β) (h : ∀ w a, SameRest (get (f w a)) (get w)) (l : List α) (w : β) :
    SameRest (get (l.foldl f w)) (get w) := by
  induction l generalizing w with
  | nil => exact ⟨rfl, rfl, rfl, rfl⟩
  | cons a l ih => have p := ih (f w a); have q := h w a; simp_all [SameRest]

theorem scanAnchor_keeps (res : ResList) (x : State × Option AnchorF) (fr : Nat × Nat) : SameRest (scanAnchor res x fr).1 x.1 := by
  unfold scanAnchor; dsimp only; split <;> simp [SameRest]

theorem readNode_keeps (res : ResList) (w : TreeWalk) (n : Nat × Nat × Nat) : SameRest (readNode res w n).s w.s := by
  have k := readTile_keeps w.s n.2.1 n.2.2 res 256 0
  unfold readNode; split
  · exact ⟨rfl, rfl, rfl, rfl⟩
  · dsimp only; split
    · exact ⟨rfl, rfl, rfl, rfl⟩
    · split <;> (rename_i h; rw [h] at k)
      · exact k
      · split <;> exact k

theorem readTree_keeps (res : ResList) (s : State) (root : Nat) : SameRest (readTree res s root).s s :=
  SameRest.foldl (·.s) (readNode res) (readNode_keeps res) _ _

theorem walkPage_keeps (nodes : List (Nat × Nat × Nat)) (res : ResList) (w : JWalk) (p : Nat) : SameRest (walkPage nodes res w p).s w.s := by
  unfold walkPage; split
  · exact ⟨rfl, rfl, rfl, rfl⟩
  · dsimp only; split
    · exact senseTile_keeps _ _ _ _ _ _ _
    · exact ⟨rfl, rfl, rfl, rfl⟩

theorem applyGroup_keeps (nodes : List (Nat × Nat × Nat)) (res : ResList) (w : JWalk) : SameRest (applyGroup nodes res w).s w.s :=
  SameRest.foldl (·.s) (walkPage nodes res) (walkPage_keeps nodes res) _ w

theorem walkRec_keeps (nodes : List (Nat × Nat × Nat)) (res : ResList) (w : JWalk) (r : RecRead) : SameRest (walkRec nodes res w r).s w.s := by
  unfold walkRec; (repeat' split) <;> first | exact ⟨rfl, rfl, rfl, rfl⟩ | exact applyGroup_keeps nodes res _

theorem walkStep_keeps (nodes : List (Nat × Nat × Nat)) (res : ResList) (w : JWalk) : SameRest (walkStep nodes res w).s w.s := by
  have k1 := readJLine_keeps w.s w.tile w.mseq 0 res
  have k2 := readJLine_keeps w.s w.tile w.mseq w.line res
  have kl := fun (s : State) t m res n l => laterValid_keeps t m res n l s
  have kj := readJLine_keeps
  have kf := fun w l => SameRest.foldl (·.s) (walkRec nodes res) (walkRec_keeps nodes res) l w
  unfold walkStep; split
  · split
    · rename_i h; rw [h] at k1; exact k1
    · rename_i s h e; rw [e] at k1; dsimp only
      have k3 := kj s (headerNext h).1 (headerNext h).2 0 res
      split <;> (rename_i e2; rw [e2] at k3; simp_all [SameRest, enterTile])
  · split
    · rename_i s d e; rw [e] at k2
      have q := kf { w with s := s } (recsOf d); simp_all [SameRest]
    · rename_i s e; rw [e] at k2; (try dsimp only)
      have k4 := kl s w.tile w.mseq res (255 - w.line) (w.line + 1)
      have k5 := kj (laterValid w.tile w.mseq res (255 - w.line) (w.line + 1) s).1 w.tile w.mseq 0 res
      split
      · rename_i e; rw [e] at k5; simp_all [SameRest]
      · rename_i s2 h e; rw [e] at k5; (try dsimp only)
        have k6 := kj s2 (headerNext h).1 (headerNext h).2 0 res
        split
        · rename_i e; rw [e] at k6; simp_all [SameRest]
        · rename_i s3 g e; rw [e] at k6
          split
          · simp_all [SameRest, enterTile]
          · have k7 := kl s3 (headerNext h).1 (headerNext h).2 res 255 1
            simp_all [SameRest]

theorem walkAll_keeps (nodes : List (Nat × Nat × Nat)) (res : ResList) (n : Nat) (w : JWalk) : SameRest (walkAll nodes res n w).s w.s := by
  induction n generalizing w with
  | zero => exact ⟨rfl, rfl, rfl, rfl⟩
  | succ n ih =>
    unfold walkAll; split
    · exact ⟨rfl, rfl, rfl, rfl⟩
    · have p := ih (walkStep nodes res w); have q := walkStep_keeps nodes res w; simp_all [SameRest]

theorem findAnchor_keeps (s : State) (res : ResList) : SameRest (findAnchor s res).1 s :=
  SameRest.foldl (·.1) (scanAnchor res) (scanAnchor_keeps res) _ (s, none)

theorem walkJournal_keeps (t : TreeWalk) (a : AnchorF) (res : ResList) : SameRest (walkJournal t a res).s t.s := walkAll_keeps _ _ _ _

theorem nextOf_keeps (w : JWalk) (res : ResList) : SameRest (nextOf w res).1 w.s := by
  have k := readJLine_keeps w.s w.tile w.mseq 0 res
  unfold nextOf; split <;> (rename_i h; rw [h] at k; exact k)

theorem replayFrom_keeps (s : State) (a : AnchorF) (t : TreeWalk) (w : JWalk) (res : ResList) :
    (replayFrom s a t w res).pending = w.s.pending ∧ (replayFrom s a t w res).th = w.s.th ∧ (replayFrom s a t w res).sec = w.s.sec := by
  have k := nextOf_keeps w res
  simp only [SameRest] at k
  unfold replayFrom; dsimp only
  refine ⟨?_, ?_, ?_⟩ <;> (simp; (repeat' split) <;> simp [k])

theorem replayF_keeps (s : State) (res : ResList) :
    (replayF s res).pending = s.pending ∧ (replayF s res).th = s.th ∧ (replayF s res).sec = s.sec := by
  unfold replayF; split
  · dsimp only
    have k := findAnchor_keeps { s with pwr := { s.pwr with bootStep := 6 } } res
    split
    · simp
    · split
      · rename_i h; rw [h] at k; simp_all [SameRest]
      · rename_i s1 a h; rw [h] at k
        have k2 := readTree_keeps res s1 a.root
        split
        · simp_all [SameRest]
        split
        · simp_all [SameRest]
        split
        · simp_all [SameRest]
        · have k3 := walkJournal_keeps (readTree res s1 a.root) a res
          split <;> simp_all [SameRest, replayFrom_keeps]
  · exact ⟨rfl, rfl, rfl⟩

@[simp] theorem emergency_keeps (s : Sys2Proof.Machine.State) (a : ℕ) : (emergency s a).pending = s.pending ∧ (emergency s a).freeCtr = s.freeCtr ∧
    (emergency s a).tabs = s.tabs ∧ (emergency s a).mapu = s.mapu ∧ (emergency s a).cist = s.cist ∧ (emergency s a).cache = s.cache ∧ (emergency s
    a).med = s.med ∧ (emergency s a).keys = s.keys ∧ (emergency s a).wear = s.wear ∧ (emergency s a).drift = s.drift ∧ (emergency s a).qz = s.qz ∧
    (emergency s a).th = s.th ∧ (emergency s a).sec = s.sec := by
  first
  | (simp [emergency]; done)
  | (unfold emergency; (try simp only []); (repeat' split) <;> (try intro ht) <;> (simp_all; done); done)

@[simp] theorem blankTile_keeps (s : Sys2Proof.Machine.State) (a : ℕ) : (blankTile s a).pending = s.pending ∧ (blankTile s a).out = s.out ∧
    (blankTile s a).freeCtr = s.freeCtr ∧ (blankTile s a).regs = s.regs ∧ (blankTile s a).req = s.req ∧ (blankTile s a).pwr = s.pwr ∧ (blankTile s
    a).ports = s.ports ∧ (blankTile s a).rings = s.rings ∧ (blankTile s a).cmds = s.cmds ∧ (blankTile s a).tabs = s.tabs ∧ (blankTile s a).mapu =
    s.mapu ∧ (blankTile s a).cist = s.cist ∧ (blankTile s a).cache = s.cache ∧ (blankTile s a).keys = s.keys ∧ (blankTile s a).wear = s.wear ∧
    (blankTile s a).drift = s.drift ∧ (blankTile s a).pair = s.pair ∧ (blankTile s a).flt = s.flt ∧ (blankTile s a).ag = s.ag ∧ (blankTile s a).qz =
    s.qz ∧ (blankTile s a).zir = s.zir ∧ (blankTile s a).th = s.th ∧ (blankTile s a).beryl = s.beryl ∧ (blankTile s a).sec = s.sec := by
  first
  | (simp [blankTile]; done)
  | (unfold blankTile; (try simp only []); (repeat' split) <;> (try intro ht) <;> (simp_all; done); done)

@[simp] theorem sendLines.sent_keeps (s : Sys2Proof.Machine.State) : (sendLines.sent s).pending = s.pending ∧ (sendLines.sent s).out = s.out ∧
    (sendLines.sent s).freeCtr = s.freeCtr ∧ (sendLines.sent s).regs = s.regs ∧ (sendLines.sent s).req = s.req ∧ (sendLines.sent s).pwr = s.pwr ∧
    (sendLines.sent s).ports = s.ports ∧ (sendLines.sent s).rings = s.rings ∧ (sendLines.sent s).cmds = s.cmds ∧ (sendLines.sent s).tabs = s.tabs ∧
    (sendLines.sent s).mapu = s.mapu ∧ (sendLines.sent s).cist = s.cist ∧ (sendLines.sent s).cache = s.cache ∧ (sendLines.sent s).med = s.med ∧
    (sendLines.sent s).keys = s.keys ∧ (sendLines.sent s).wear = s.wear ∧ (sendLines.sent s).drift = s.drift ∧ (sendLines.sent s).flt = s.flt ∧
    (sendLines.sent s).ag = s.ag ∧ (sendLines.sent s).qz = s.qz ∧ (sendLines.sent s).zir = s.zir ∧ (sendLines.sent s).th = s.th ∧ (sendLines.sent
    s).beryl = s.beryl ∧ (sendLines.sent s).sec = s.sec := by
  first
  | (simp [sendLines.sent]; done)
  | (unfold sendLines.sent; (try simp only []); (repeat' split) <;> (try intro ht) <;> (simp_all; done); done)

@[simp] theorem sendLines_keeps (a : List (ℕ × Sys2Proof.SenseRes × Sys2Proof.SenseRes)) (b : List ℕ) (s : Sys2Proof.Machine.State) : (sendLines a b
    s).pending = s.pending ∧ (sendLines a b s).keys = s.keys ∧ (sendLines a b s).th = s.th ∧ (sendLines a b s).sec = s.sec := by
  induction b generalizing s with
  | nil => unfold sendLines; split <;> simp
  | cons x r ih =>
    unfold sendLines; split
    · simp
    · dsimp only; (repeat' split) <;> (try (rename_i h; have k := readRaw_keeps s x (by assumption) (by assumption))) <;> simp_all

@[simp] theorem applyBlock_keeps (s : Sys2Proof.Machine.State) (a : Blk) (b : ℕ) (c : ApK) : (applyBlock s a b c).pending = s.pending ∧ (applyBlock
    s a b c).out = s.out ∧ (applyBlock s a b c).freeCtr = s.freeCtr ∧ (applyBlock s a b c).req = s.req ∧ (applyBlock s a b c).pwr = s.pwr ∧
    (applyBlock s a b c).ports = s.ports ∧ (applyBlock s a b c).rings = s.rings ∧ (applyBlock s a b c).cmds = s.cmds ∧ (applyBlock s a b c).tabs =
    s.tabs ∧ (applyBlock s a b c).mapu = s.mapu ∧ (applyBlock s a b c).cist = s.cist ∧ (applyBlock s a b c).cache = s.cache ∧ (applyBlock s a b
    c).med = s.med ∧ (applyBlock s a b c).keys = s.keys ∧ (applyBlock s a b c).wear = s.wear ∧ (applyBlock s a b c).drift = s.drift ∧ (applyBlock s
    a b c).pair = s.pair ∧ (applyBlock s a b c).flt = s.flt ∧ (applyBlock s a b c).ag = s.ag ∧ (applyBlock s a b c).qz = s.qz ∧ (applyBlock s a b
    c).zir = s.zir ∧ (applyBlock s a b c).th = s.th ∧ (applyBlock s a b c).beryl = s.beryl ∧ (applyBlock s a b c).sec = s.sec := by
  first
  | (simp [applyBlock]; done)
  | (unfold applyBlock; (try simp only []); (repeat' split) <;> (try intro ht) <;> (simp_all; done); done)

@[simp] theorem applyDump_keeps (s : Sys2Proof.Machine.State) : (applyDump s).pending = s.pending ∧ (applyDump s).out = s.out ∧ (applyDump
    s).freeCtr = s.freeCtr ∧ (applyDump s).req = s.req ∧ (applyDump s).pwr = s.pwr ∧ (applyDump s).ports = s.ports ∧ (applyDump s).rings = s.rings ∧
    (applyDump s).cmds = s.cmds ∧ (applyDump s).tabs = s.tabs ∧ (applyDump s).mapu = s.mapu ∧ (applyDump s).cist = s.cist ∧ (applyDump s).cache =
    s.cache ∧ (applyDump s).med = s.med ∧ (applyDump s).keys = s.keys ∧ (applyDump s).wear = s.wear ∧ (applyDump s).drift = s.drift ∧ (applyDump
    s).pair = s.pair ∧ (applyDump s).flt = s.flt ∧ (applyDump s).ag = s.ag ∧ (applyDump s).zir = s.zir ∧ (applyDump s).th = s.th ∧ (applyDump
    s).beryl = s.beryl ∧ (applyDump s).sec = s.sec := by
  first
  | (simp [applyDump]; done)
  | (unfold applyDump; (try simp only []); (repeat' split) <;> (try intro ht) <;> (simp_all; done); done)

@[simp] theorem takePlan_keeps (s : Sys2Proof.Machine.State) (a : Plan) : (takePlan s a).pending = s.pending ∧ (takePlan s a).out = s.out ∧
    (takePlan s a).freeCtr = s.freeCtr ∧ (takePlan s a).regs = s.regs ∧ (takePlan s a).req = s.req ∧ (takePlan s a).ports = s.ports ∧ (takePlan s
    a).rings = s.rings ∧ (takePlan s a).cmds = s.cmds ∧ (takePlan s a).tabs = s.tabs ∧ (takePlan s a).mapu = s.mapu ∧ (takePlan s a).cache = s.cache
    ∧ (takePlan s a).med = s.med ∧ (takePlan s a).keys = s.keys ∧ (takePlan s a).wear = s.wear ∧ (takePlan s a).pair = s.pair ∧ (takePlan s a).flt =
    s.flt ∧ (takePlan s a).ag = s.ag ∧ (takePlan s a).qz = s.qz ∧ (takePlan s a).th = s.th ∧ (takePlan s a).beryl = s.beryl ∧ (takePlan s a).sec =
    s.sec := by
  first
  | (simp [takePlan]; done)
  | (unfold takePlan; (try simp only []); (repeat' split) <;> (try intro ht) <;> (simp_all; done); done)

@[simp] theorem restartMove_keeps (s : Sys2Proof.Machine.State) (a : Move) : (restartMove s a).pending = s.pending ∧ (restartMove s a).keys = s.keys
    ∧ (restartMove s a).drift = s.drift ∧ (restartMove s a).th = s.th ∧ (restartMove s a).sec = s.sec := by
  unfold restartMove; dsimp only; split
  · rename_i h; simp only [Option.ite_none_right_eq_some] at h; have q := beginMove_keeps _ _ _ _ _ _ _ h.2; simp_all
  · simp

@[simp] theorem copyEnd_keeps (s : Sys2Proof.Machine.State) (a : ℕ) (b : ℕ) (c : Bool) (d : ℕ) : (copyEnd s a b c d).pending = s.pending ∧ (copyEnd
    s a b c d).keys = s.keys ∧ (copyEnd s a b c d).th = s.th ∧ (copyEnd s a b c d).sec = s.sec := by
  refine ⟨?_, ?_, ?_, ?_⟩
  · unfold copyEnd; apply endProg_pending <;> intros <;> (try dsimp only) <;> (repeat' split) <;> simp
  · unfold copyEnd; apply endProg_keys <;> intros <;> (try dsimp only) <;> (repeat' split) <;> simp
  · unfold copyEnd; apply endProg_th <;> intros <;> (try dsimp only) <;> (repeat' split) <;> simp
  · unfold copyEnd; apply endProg_sec <;> intros <;> (try dsimp only) <;> (repeat' split) <;> simp


@[simp] theorem abandonOps_keeps (s : Sys2Proof.Machine.State) : (abandonOps s).pending = s.pending ∧ (abandonOps s).out = s.out ∧ (abandonOps
    s).freeCtr = s.freeCtr ∧ (abandonOps s).regs = s.regs ∧ (abandonOps s).req = s.req ∧ (abandonOps s).pwr = s.pwr ∧ (abandonOps s).ports = s.ports
    ∧ (abandonOps s).rings = s.rings ∧ (abandonOps s).cmds = s.cmds ∧ (abandonOps s).tabs = s.tabs ∧ (abandonOps s).mapu = s.mapu ∧ (abandonOps
    s).cist = s.cist ∧ (abandonOps s).cache = s.cache ∧ (abandonOps s).keys = s.keys ∧ (abandonOps s).wear = s.wear ∧ (abandonOps s).drift = s.drift
    ∧ (abandonOps s).pair = s.pair ∧ (abandonOps s).flt = s.flt ∧ (abandonOps s).ag = s.ag ∧ (abandonOps s).qz = s.qz ∧ (abandonOps s).zir = s.zir ∧
    (abandonOps s).th = s.th ∧ (abandonOps s).beryl = s.beryl ∧ (abandonOps s).sec = s.sec := by
  first
  | (simp [abandonOps]; done)
  | (unfold abandonOps; (try simp only []); (repeat' split) <;> (try intro ht) <;> (simp_all; done); done)

@[simp] theorem lowEnergy_keeps (s : Sys2Proof.Machine.State) (a : ℕ) : (lowEnergy s a).pending = s.pending ∧ (lowEnergy s a).freeCtr = s.freeCtr ∧
    (lowEnergy s a).tabs = s.tabs ∧ (lowEnergy s a).mapu = s.mapu ∧ (lowEnergy s a).cist = s.cist ∧ (lowEnergy s a).cache = s.cache ∧ (lowEnergy s
    a).med = s.med ∧ (lowEnergy s a).keys = s.keys ∧ (lowEnergy s a).wear = s.wear ∧ (lowEnergy s a).drift = s.drift ∧ (lowEnergy s a).qz = s.qz ∧
    (lowEnergy s a).zir = s.zir ∧ (lowEnergy s a).th = s.th ∧ (lowEnergy s a).sec = s.sec := by
  first
  | (simp [lowEnergy]; done)
  | (unfold lowEnergy; (try simp only []); (repeat' split) <;> (try intro ht) <;> (simp_all; done); done)

@[simp] theorem closeInterval_keeps (s : Sys2Proof.Machine.State) (a : ℕ) (b : ℕ) : (closeInterval s a b).pending = s.pending ∧ (closeInterval s a
    b).out = s.out ∧ (closeInterval s a b).freeCtr = s.freeCtr ∧ (closeInterval s a b).regs = s.regs ∧ (closeInterval s a b).req = s.req ∧
    (closeInterval s a b).pwr = s.pwr ∧ (closeInterval s a b).ports = s.ports ∧ (closeInterval s a b).rings = s.rings ∧ (closeInterval s a b).cmds =
    s.cmds ∧ (closeInterval s a b).tabs = s.tabs ∧ (closeInterval s a b).mapu = s.mapu ∧ (closeInterval s a b).cache = s.cache ∧ (closeInterval s a
    b).med = s.med ∧ (closeInterval s a b).keys = s.keys ∧ (closeInterval s a b).wear = s.wear ∧ (closeInterval s a b).pair = s.pair ∧
    (closeInterval s a b).flt = s.flt ∧ (closeInterval s a b).ag = s.ag ∧ (closeInterval s a b).qz = s.qz ∧ (closeInterval s a b).th = s.th ∧
    (closeInterval s a b).beryl = s.beryl ∧ (closeInterval s a b).sec = s.sec := by
  first
  | (simp [closeInterval]; done)
  | (unfold closeInterval; (try simp only []); (repeat' split) <;> (try intro ht) <;> (simp_all; done); done)

@[simp] theorem planItems_keeps (s : Sys2Proof.Machine.State) (a : Sys2Proof.Measured) : (planItems s a).pending = s.pending ∧ (planItems s
    a).freeCtr = s.freeCtr ∧ (planItems s a).tabs = s.tabs ∧ (planItems s a).mapu = s.mapu ∧ (planItems s a).cache = s.cache ∧ (planItems s a).med =
    s.med ∧ (planItems s a).keys = s.keys ∧ (planItems s a).wear = s.wear ∧ (planItems s a).th = s.th ∧ (planItems s a).sec = s.sec := by
  first
  | (simp [planItems]; done)
  | (unfold planItems; (try simp only []); (repeat' split) <;> (try intro ht) <;> (simp_all; done); done)

@[simp] theorem formLife_keeps (s : Sys2Proof.Machine.State) : (formLife s).pending = s.pending ∧ (formLife s).tabs = s.tabs ∧ (formLife s).mapu =
    s.mapu ∧ (formLife s).cist = s.cist ∧ (formLife s).cache = s.cache ∧ (formLife s).med = s.med ∧ (formLife s).keys = s.keys ∧ (formLife s).wear =
    s.wear ∧ (formLife s).drift = s.drift ∧ (formLife s).qz = s.qz ∧ (formLife s).th = s.th ∧ (formLife s).sec = s.sec := by
  first
  | (simp [formLife]; done)
  | (unfold formLife; (try simp only []); (repeat' split) <;> (try intro ht) <;> (simp_all; done); done)

@[simp] theorem storePlan_keeps (s : Sys2Proof.Machine.State) : (storePlan s).pending = s.pending ∧ (storePlan s).freeCtr = s.freeCtr ∧ (storePlan
    s).req = s.req ∧ (storePlan s).ports = s.ports ∧ (storePlan s).tabs = s.tabs ∧ (storePlan s).mapu = s.mapu ∧ (storePlan s).cist = s.cist ∧
    (storePlan s).cache = s.cache ∧ (storePlan s).med = s.med ∧ (storePlan s).keys = s.keys ∧ (storePlan s).wear = s.wear ∧ (storePlan s).drift =
    s.drift ∧ (storePlan s).pair = s.pair ∧ (storePlan s).flt = s.flt ∧ (storePlan s).qz = s.qz ∧ (storePlan s).th = s.th ∧ (storePlan s).sec =
    s.sec := by
  first
  | (simp [storePlan]; done)
  | (unfold storePlan; (try simp only []); (repeat' split) <;> (try intro ht) <;> (simp_all; done); done)

@[simp] theorem logPlan_keeps (s : Sys2Proof.Machine.State) : (logPlan s).pending = s.pending ∧ (logPlan s).out = s.out ∧ (logPlan s).freeCtr =
    s.freeCtr ∧ (logPlan s).regs = s.regs ∧ (logPlan s).req = s.req ∧ (logPlan s).pwr = s.pwr ∧ (logPlan s).ports = s.ports ∧ (logPlan s).rings =
    s.rings ∧ (logPlan s).cmds = s.cmds ∧ (logPlan s).tabs = s.tabs ∧ (logPlan s).mapu = s.mapu ∧ (logPlan s).cist = s.cist ∧ (logPlan s).cache =
    s.cache ∧ (logPlan s).med = s.med ∧ (logPlan s).keys = s.keys ∧ (logPlan s).wear = s.wear ∧ (logPlan s).drift = s.drift ∧ (logPlan s).pair =
    s.pair ∧ (logPlan s).flt = s.flt ∧ (logPlan s).ag = s.ag ∧ (logPlan s).qz = s.qz ∧ (logPlan s).th = s.th ∧ (logPlan s).sec = s.sec := by
  first
  | (simp [logPlan]; done)
  | (unfold logPlan; (try simp only []); (repeat' split) <;> (try intro ht) <;> (simp_all; done); done)

@[simp] theorem offIfDark_keeps (s : Sys2Proof.Machine.State) : (offIfDark s).pending = s.pending ∧ (offIfDark s).out = s.out ∧ (offIfDark
    s).freeCtr = s.freeCtr ∧ (offIfDark s).keys = s.keys ∧ (offIfDark s).sec = s.sec := by
  first
  | (simp [offIfDark]; done)
  | (unfold offIfDark; (try simp only []); (repeat' split) <;> (try intro ht) <;> (simp_all; done); done)

@[simp] theorem measureSens_keeps (s : Sys2Proof.Machine.State) (a : ℕ) : (measureSens s a).pending = s.pending ∧ (measureSens s a).out = s.out ∧
    (measureSens s a).freeCtr = s.freeCtr ∧ (measureSens s a).regs = s.regs ∧ (measureSens s a).req = s.req ∧ (measureSens s a).pwr = s.pwr ∧
    (measureSens s a).ports = s.ports ∧ (measureSens s a).rings = s.rings ∧ (measureSens s a).cmds = s.cmds ∧ (measureSens s a).tabs = s.tabs ∧
    (measureSens s a).mapu = s.mapu ∧ (measureSens s a).cist = s.cist ∧ (measureSens s a).cache = s.cache ∧ (measureSens s a).med = s.med ∧
    (measureSens s a).keys = s.keys ∧ (measureSens s a).wear = s.wear ∧ (measureSens s a).drift = s.drift ∧ (measureSens s a).pair = s.pair ∧
    (measureSens s a).flt = s.flt ∧ (measureSens s a).ag = s.ag ∧ (measureSens s a).qz = s.qz ∧ (measureSens s a).th = s.th ∧ (measureSens s
    a).beryl = s.beryl ∧ (measureSens s a).sec = s.sec := by
  first
  | (simp [measureSens]; done)
  | (unfold measureSens; (try simp only []); (repeat' split) <;> (try intro ht) <;> (simp_all; done); done)

@[simp] theorem headDurable_keeps (s : Sys2Proof.Machine.State) : (headDurable s).pending = s.pending ∧ (headDurable s).th = s.th := by
  first
  | (simp [headDurable]; done)
  | (unfold headDurable; (try simp only []); (repeat' split) <;> (try intro ht) <;> (simp_all; done); done)

@[simp] theorem bootQuotas_keeps (s : Sys2Proof.Machine.State) : (bootQuotas s).pending = s.pending ∧ (bootQuotas s).freeCtr = s.freeCtr ∧
    (bootQuotas s).tabs = s.tabs ∧ (bootQuotas s).mapu = s.mapu ∧ (bootQuotas s).cache = s.cache ∧ (bootQuotas s).med = s.med ∧ (bootQuotas s).keys
    = s.keys ∧ (bootQuotas s).wear = s.wear ∧ (bootQuotas s).drift = s.drift ∧ (bootQuotas s).qz = s.qz ∧ (bootQuotas s).zir = s.zir ∧ (bootQuotas
    s).th = s.th ∧ (bootQuotas s).sec = s.sec := by
  first
  | (simp [bootQuotas]; done)
  | (unfold bootQuotas; (try simp only []); (repeat' split) <;> (try intro ht) <;> (simp_all; done); done)

@[simp] theorem putCursor_keeps (s : Sys2Proof.Machine.State) (a : ℕ) (b : ℕ) : (putCursor s a b).pending = s.pending ∧ (putCursor s a b).out =
    s.out ∧ (putCursor s a b).freeCtr = s.freeCtr ∧ (putCursor s a b).regs = s.regs ∧ (putCursor s a b).req = s.req ∧ (putCursor s a b).pwr = s.pwr
    ∧ (putCursor s a b).ports = s.ports ∧ (putCursor s a b).rings = s.rings ∧ (putCursor s a b).cmds = s.cmds ∧ (putCursor s a b).tabs = s.tabs ∧
    (putCursor s a b).mapu = s.mapu ∧ (putCursor s a b).cist = s.cist ∧ (putCursor s a b).cache = s.cache ∧ (putCursor s a b).med = s.med ∧
    (putCursor s a b).keys = s.keys ∧ (putCursor s a b).wear = s.wear ∧ (putCursor s a b).pair = s.pair ∧ (putCursor s a b).flt = s.flt ∧ (putCursor
    s a b).ag = s.ag ∧ (putCursor s a b).qz = s.qz ∧ (putCursor s a b).zir = s.zir ∧ (putCursor s a b).th = s.th ∧ (putCursor s a b).beryl = s.beryl
    ∧ (putCursor s a b).sec = s.sec := by
  first
  | (simp [putCursor]; done)
  | (unfold putCursor; (try simp only []); (repeat' split) <;> (try intro ht) <;> (simp_all; done); done)

@[simp] theorem flagScrub_keeps (s : Sys2Proof.Machine.State) (a : ℕ) : (flagScrub s a).pending = s.pending ∧ (flagScrub s a).out = s.out ∧
    (flagScrub s a).freeCtr = s.freeCtr ∧ (flagScrub s a).req = s.req ∧ (flagScrub s a).pwr = s.pwr ∧ (flagScrub s a).ports = s.ports ∧ (flagScrub s
    a).rings = s.rings ∧ (flagScrub s a).cmds = s.cmds ∧ (flagScrub s a).tabs = s.tabs ∧ (flagScrub s a).mapu = s.mapu ∧ (flagScrub s a).cist =
    s.cist ∧ (flagScrub s a).cache = s.cache ∧ (flagScrub s a).med = s.med ∧ (flagScrub s a).keys = s.keys ∧ (flagScrub s a).wear = s.wear ∧
    (flagScrub s a).drift = s.drift ∧ (flagScrub s a).pair = s.pair ∧ (flagScrub s a).flt = s.flt ∧ (flagScrub s a).ag = s.ag ∧ (flagScrub s a).qz =
    s.qz ∧ (flagScrub s a).zir = s.zir ∧ (flagScrub s a).th = s.th ∧ (flagScrub s a).beryl = s.beryl ∧ (flagScrub s a).sec = s.sec := by
  first
  | (simp [flagScrub]; done)
  | (unfold flagScrub; (try simp only []); (repeat' split) <;> (try intro ht) <;> (simp_all; done); done)

@[simp] theorem walkOn_keeps (s : Sys2Proof.Machine.State) (a : ℕ) (b : ℕ) : (walkOn s a b).pending = s.pending ∧ (walkOn s a b).out = s.out ∧
    (walkOn s a b).freeCtr = s.freeCtr ∧ (walkOn s a b).req = s.req ∧ (walkOn s a b).pwr = s.pwr ∧ (walkOn s a b).ports = s.ports ∧ (walkOn s a
    b).rings = s.rings ∧ (walkOn s a b).cmds = s.cmds ∧ (walkOn s a b).tabs = s.tabs ∧ (walkOn s a b).mapu = s.mapu ∧ (walkOn s a b).cist = s.cist ∧
    (walkOn s a b).cache = s.cache ∧ (walkOn s a b).med = s.med ∧ (walkOn s a b).keys = s.keys ∧ (walkOn s a b).wear = s.wear ∧ (walkOn s a b).pair
    = s.pair ∧ (walkOn s a b).flt = s.flt ∧ (walkOn s a b).ag = s.ag ∧ (walkOn s a b).qz = s.qz ∧ (walkOn s a b).zir = s.zir ∧ (walkOn s a b).th =
    s.th ∧ (walkOn s a b).beryl = s.beryl ∧ (walkOn s a b).sec = s.sec := by
  first
  | (simp [walkOn]; done)
  | (unfold walkOn; (try simp only []); (repeat' split) <;> (try intro ht) <;> (simp_all; done); done)

@[simp] theorem flagDump_keeps (s : Sys2Proof.Machine.State) (a : ℕ) : (flagDump s a).pending = s.pending ∧ (flagDump s a).out = s.out ∧ (flagDump s
    a).freeCtr = s.freeCtr ∧ (flagDump s a).req = s.req ∧ (flagDump s a).pwr = s.pwr ∧ (flagDump s a).ports = s.ports ∧ (flagDump s a).rings =
    s.rings ∧ (flagDump s a).cmds = s.cmds ∧ (flagDump s a).tabs = s.tabs ∧ (flagDump s a).mapu = s.mapu ∧ (flagDump s a).cist = s.cist ∧ (flagDump
    s a).cache = s.cache ∧ (flagDump s a).med = s.med ∧ (flagDump s a).keys = s.keys ∧ (flagDump s a).wear = s.wear ∧ (flagDump s a).drift = s.drift
    ∧ (flagDump s a).pair = s.pair ∧ (flagDump s a).flt = s.flt ∧ (flagDump s a).ag = s.ag ∧ (flagDump s a).qz = s.qz ∧ (flagDump s a).zir = s.zir ∧
    (flagDump s a).th = s.th ∧ (flagDump s a).beryl = s.beryl ∧ (flagDump s a).sec = s.sec := by
  first
  | (simp [flagDump]; done)
  | (unfold flagDump; (try simp only []); (repeat' split) <;> (try intro ht) <;> (simp_all; done); done)

@[simp] theorem dumpWrite_keeps (s : Sys2Proof.Machine.State) (a : Bool) (b : Bool) : (dumpWrite s a b).pending = s.pending ∧ (dumpWrite s a
    b).freeCtr = s.freeCtr ∧ (dumpWrite s a b).req = s.req ∧ (dumpWrite s a b).pwr = s.pwr ∧ (dumpWrite s a b).ports = s.ports ∧ (dumpWrite s a
    b).rings = s.rings ∧ (dumpWrite s a b).cmds = s.cmds ∧ (dumpWrite s a b).tabs = s.tabs ∧ (dumpWrite s a b).mapu = s.mapu ∧ (dumpWrite s a
    b).cist = s.cist ∧ (dumpWrite s a b).cache = s.cache ∧ (dumpWrite s a b).med = s.med ∧ (dumpWrite s a b).keys = s.keys ∧ (dumpWrite s a b).wear
    = s.wear ∧ (dumpWrite s a b).drift = s.drift ∧ (dumpWrite s a b).pair = s.pair ∧ (dumpWrite s a b).flt = s.flt ∧ (dumpWrite s a b).ag = s.ag ∧
    (dumpWrite s a b).zir = s.zir ∧ (dumpWrite s a b).th = s.th ∧ (dumpWrite s a b).beryl = s.beryl ∧ (dumpWrite s a b).sec = s.sec := by
  first
  | (simp [dumpWrite]; done)
  | (unfold dumpWrite; (try simp only []); (repeat' split) <;> (try intro ht) <;> (simp_all; done); done)

@[simp] theorem journalEnd_keeps (s : Sys2Proof.Machine.State) (a : Bool) (b : ℕ) : (journalEnd s a b).pending = s.pending ∧ (journalEnd s a b).th =
    s.th := by
  first
  | (simp [journalEnd]; done)
  | (unfold journalEnd; (try simp only []); (repeat' split) <;> (try intro ht) <;> (simp_all; done); done)

@[simp] theorem putRows_keeps (s : Sys2Proof.Machine.State) (a : ℕ) (b : List ℕ) : (putRows s a b).pending = s.pending ∧ (putRows s a b).out = s.out
    ∧ (putRows s a b).freeCtr = s.freeCtr ∧ (putRows s a b).regs = s.regs ∧ (putRows s a b).req = s.req ∧ (putRows s a b).pwr = s.pwr ∧ (putRows s a
    b).ports = s.ports ∧ (putRows s a b).rings = s.rings ∧ (putRows s a b).cmds = s.cmds ∧ (putRows s a b).tabs = s.tabs ∧ (putRows s a b).mapu =
    s.mapu ∧ (putRows s a b).cist = s.cist ∧ (putRows s a b).cache = s.cache ∧ (putRows s a b).med = s.med ∧ (putRows s a b).keys = s.keys ∧
    (putRows s a b).wear = s.wear ∧ (putRows s a b).drift = s.drift ∧ (putRows s a b).pair = s.pair ∧ (putRows s a b).flt = s.flt ∧ (putRows s a
    b).ag = s.ag ∧ (putRows s a b).qz = s.qz ∧ (putRows s a b).zir = s.zir ∧ (putRows s a b).th = s.th ∧ (putRows s a b).sec = s.sec := by
  fun_induction putRows s a b <;> (first | (simp_all; done) | simp_all +zetaDelta | (simp_all +zetaDelta; done))

theorem openJournal_keeps (s : Sys2Proof.Machine.State) : ∀ t, openJournal s = some t → t.pending = s.pending ∧ t.out = s.out ∧ t.freeCtr =
    s.freeCtr ∧ t.req = s.req ∧ t.pwr = s.pwr ∧ t.ports = s.ports ∧ t.rings = s.rings ∧ t.cmds = s.cmds ∧ t.cist = s.cist ∧ t.cache = s.cache ∧
    t.keys = s.keys ∧ t.drift = s.drift ∧ t.pair = s.pair ∧ t.flt = s.flt ∧ t.ag = s.ag ∧ t.qz = s.qz ∧ t.th = s.th ∧ t.beryl = s.beryl ∧ t.sec =
    s.sec := by
  intro t ht; unfold openJournal at ht; split at ht
  · have q := openTile_keeps _ _ _ _ _ ht; simp_all
  · simp only [Option.bind_eq_some_iff] at ht; obtain ⟨x, hx, ht⟩ := ht
    have p := takeNext_keeps _ _ hx; have q := openTile_keeps _ _ _ _ _ ht; simp_all

theorem journalRoom_keeps (s : Sys2Proof.Machine.State) : ∀ t, journalRoom s = some t → t.pending = s.pending ∧ t.out = s.out ∧ t.freeCtr =
    s.freeCtr ∧ t.req = s.req ∧ t.pwr = s.pwr ∧ t.ports = s.ports ∧ t.rings = s.rings ∧ t.cmds = s.cmds ∧ t.cist = s.cist ∧ t.cache = s.cache ∧
    t.keys = s.keys ∧ t.drift = s.drift ∧ t.pair = s.pair ∧ t.flt = s.flt ∧ t.ag = s.ag ∧ t.qz = s.qz ∧ t.th = s.th ∧ t.beryl = s.beryl ∧ t.sec =
    s.sec := by
  intro t ht; first
  | (simp [journalRoom]; done)
  | (unfold journalRoom at ht; revert ht; (try simp only []); (repeat' split) <;> (try intro ht) <;> ((try have q0 := openJournal_keeps _ _ ‹_›); (try (first | (injection ht with ht; subst ht; simp_all; done) | (subst ht; simp_all; done) | (subst_vars; simp_all; done) | simp_all))); done)

@[simp] theorem formLine_keeps (s : Sys2Proof.Machine.State) : (formLine s).pending = s.pending ∧ (formLine s).out = s.out ∧ (formLine s).freeCtr =
    s.freeCtr ∧ (formLine s).req = s.req ∧ (formLine s).pwr = s.pwr ∧ (formLine s).ports = s.ports ∧ (formLine s).rings = s.rings ∧ (formLine
    s).cmds = s.cmds ∧ (formLine s).cist = s.cist ∧ (formLine s).cache = s.cache ∧ (formLine s).keys = s.keys ∧ (formLine s).drift = s.drift ∧
    (formLine s).pair = s.pair ∧ (formLine s).flt = s.flt ∧ (formLine s).ag = s.ag ∧ (formLine s).qz = s.qz ∧ (formLine s).th = s.th ∧ (formLine
    s).beryl = s.beryl ∧ (formLine s).sec = s.sec := by
  first
  | (simp [formLine]; done)
  | (unfold formLine; (try simp only []); (repeat' split) <;> (try intro ht) <;> ((try have q0 := journalRoom_keeps _ _ ‹_›); (try (first | (injection ht with ht; subst ht; simp_all; done) | (subst ht; simp_all; done) | (subst_vars; simp_all; done) | simp_all))); done)

@[simp] theorem ackOne_keeps (s : Sys2Proof.Machine.State) (a : ℕ) : (ackOne s a).pending = s.pending ∧ (ackOne s a).freeCtr = s.freeCtr ∧ (ackOne s
    a).req = s.req ∧ (ackOne s a).pwr = s.pwr ∧ (ackOne s a).rings = s.rings ∧ (ackOne s a).cmds = s.cmds ∧ (ackOne s a).tabs = s.tabs ∧ (ackOne s
    a).mapu = s.mapu ∧ (ackOne s a).cache = s.cache ∧ (ackOne s a).med = s.med ∧ (ackOne s a).keys = s.keys ∧ (ackOne s a).wear = s.wear ∧ (ackOne s
    a).drift = s.drift ∧ (ackOne s a).flt = s.flt ∧ (ackOne s a).ag = s.ag ∧ (ackOne s a).zir = s.zir ∧ (ackOne s a).th = s.th ∧ (ackOne s a).beryl
    = s.beryl ∧ (ackOne s a).sec = s.sec := by
  first
  | (simp [ackOne]; done)
  | (unfold ackOne; (try simp only []); (repeat' split) <;> (try intro ht) <;> (simp_all; done); done)

@[simp] theorem putDieFailed_keeps (s : Sys2Proof.Machine.State) (a : ℕ) : (putDieFailed s a).pending = s.pending ∧ (putDieFailed s a).out = s.out ∧
    (putDieFailed s a).freeCtr = s.freeCtr ∧ (putDieFailed s a).regs = s.regs ∧ (putDieFailed s a).req = s.req ∧ (putDieFailed s a).pwr = s.pwr ∧
    (putDieFailed s a).ports = s.ports ∧ (putDieFailed s a).rings = s.rings ∧ (putDieFailed s a).cmds = s.cmds ∧ (putDieFailed s a).tabs = s.tabs ∧
    (putDieFailed s a).mapu = s.mapu ∧ (putDieFailed s a).cist = s.cist ∧ (putDieFailed s a).cache = s.cache ∧ (putDieFailed s a).med = s.med ∧
    (putDieFailed s a).keys = s.keys ∧ (putDieFailed s a).wear = s.wear ∧ (putDieFailed s a).drift = s.drift ∧ (putDieFailed s a).pair = s.pair ∧
    (putDieFailed s a).flt = s.flt ∧ (putDieFailed s a).ag = s.ag ∧ (putDieFailed s a).qz = s.qz ∧ (putDieFailed s a).zir = s.zir ∧ (putDieFailed s
    a).th = s.th ∧ (putDieFailed s a).sec = s.sec := by
  first
  | (simp [putDieFailed]; done)
  | (unfold putDieFailed; (try simp only []); (repeat' split) <;> (try intro ht) <;> (simp_all; done); done)

@[simp] theorem failDies_keeps (s : Sys2Proof.Machine.State) (a : List ℕ) (b : ℕ) : (failDies s a b).pending = s.pending ∧ (failDies s a b).freeCtr
    = s.freeCtr ∧ (failDies s a b).tabs = s.tabs ∧ (failDies s a b).mapu = s.mapu ∧ (failDies s a b).cist = s.cist ∧ (failDies s a b).cache =
    s.cache ∧ (failDies s a b).med = s.med ∧ (failDies s a b).keys = s.keys ∧ (failDies s a b).qz = s.qz ∧ (failDies s a b).th = s.th ∧ (failDies s
    a b).sec = s.sec := by
  first
  | (simp [failDies]; done)
  | (unfold failDies; (try simp only []); (repeat' split) <;> (try intro ht) <;> (simp_all; done); done)

@[simp] theorem takeSlacks_keeps (s : Sys2Proof.Machine.State) (a : ℕ) (b : List ℕ) : (takeSlacks s a b).pending = s.pending ∧ (takeSlacks s a
    b).out = s.out ∧ (takeSlacks s a b).freeCtr = s.freeCtr ∧ (takeSlacks s a b).regs = s.regs ∧ (takeSlacks s a b).req = s.req ∧ (takeSlacks s a
    b).pwr = s.pwr ∧ (takeSlacks s a b).ports = s.ports ∧ (takeSlacks s a b).rings = s.rings ∧ (takeSlacks s a b).cmds = s.cmds ∧ (takeSlacks s a
    b).tabs = s.tabs ∧ (takeSlacks s a b).mapu = s.mapu ∧ (takeSlacks s a b).cist = s.cist ∧ (takeSlacks s a b).cache = s.cache ∧ (takeSlacks s a
    b).med = s.med ∧ (takeSlacks s a b).keys = s.keys ∧ (takeSlacks s a b).wear = s.wear ∧ (takeSlacks s a b).drift = s.drift ∧ (takeSlacks s a
    b).pair = s.pair ∧ (takeSlacks s a b).flt = s.flt ∧ (takeSlacks s a b).ag = s.ag ∧ (takeSlacks s a b).qz = s.qz ∧ (takeSlacks s a b).th = s.th ∧
    (takeSlacks s a b).beryl = s.beryl ∧ (takeSlacks s a b).sec = s.sec := by
  fun_induction takeSlacks s a b <;> (first | (simp_all; done) | simp_all +zetaDelta | (simp_all +zetaDelta; done))

@[simp] theorem checkLowered_keeps (s : Sys2Proof.Machine.State) (a : ℕ) : (checkLowered s a).pending = s.pending ∧ (checkLowered s a).out = s.out ∧
    (checkLowered s a).freeCtr = s.freeCtr ∧ (checkLowered s a).regs = s.regs ∧ (checkLowered s a).req = s.req ∧ (checkLowered s a).ports = s.ports
    ∧ (checkLowered s a).rings = s.rings ∧ (checkLowered s a).cmds = s.cmds ∧ (checkLowered s a).tabs = s.tabs ∧ (checkLowered s a).mapu = s.mapu ∧
    (checkLowered s a).cist = s.cist ∧ (checkLowered s a).cache = s.cache ∧ (checkLowered s a).med = s.med ∧ (checkLowered s a).keys = s.keys ∧
    (checkLowered s a).wear = s.wear ∧ (checkLowered s a).drift = s.drift ∧ (checkLowered s a).pair = s.pair ∧ (checkLowered s a).flt = s.flt ∧
    (checkLowered s a).ag = s.ag ∧ (checkLowered s a).qz = s.qz ∧ (checkLowered s a).th = s.th ∧ (checkLowered s a).beryl = s.beryl ∧ (checkLowered
    s a).sec = s.sec := by
  first
  | (simp [checkLowered]; done)
  | (unfold checkLowered; (try simp only []); (repeat' split) <;> (try intro ht) <;> (simp_all; done); done)

@[simp] theorem countLeft_keeps (s : Sys2Proof.Machine.State) : (countLeft s).pending = s.pending ∧ (countLeft s).out = s.out ∧ (countLeft
    s).freeCtr = s.freeCtr ∧ (countLeft s).regs = s.regs ∧ (countLeft s).req = s.req ∧ (countLeft s).ports = s.ports ∧ (countLeft s).rings = s.rings
    ∧ (countLeft s).cmds = s.cmds ∧ (countLeft s).tabs = s.tabs ∧ (countLeft s).mapu = s.mapu ∧ (countLeft s).cist = s.cist ∧ (countLeft s).cache =
    s.cache ∧ (countLeft s).med = s.med ∧ (countLeft s).keys = s.keys ∧ (countLeft s).wear = s.wear ∧ (countLeft s).drift = s.drift ∧ (countLeft
    s).pair = s.pair ∧ (countLeft s).flt = s.flt ∧ (countLeft s).ag = s.ag ∧ (countLeft s).qz = s.qz ∧ (countLeft s).zir = s.zir ∧ (countLeft s).th
    = s.th ∧ (countLeft s).beryl = s.beryl ∧ (countLeft s).sec = s.sec := by
  first
  | (simp [countLeft]; done)
  | (unfold countLeft; (try simp only []); (repeat' split) <;> (try intro ht) <;> (simp_all; done); done)

@[simp] theorem refusedFrameFailed_keeps (s : Sys2Proof.Machine.State) (a : Cis) : (refusedFrameFailed s a).pending = s.pending ∧
    (refusedFrameFailed s a).freeCtr = s.freeCtr ∧ (refusedFrameFailed s a).keys = s.keys ∧ (refusedFrameFailed s a).th = s.th ∧ (refusedFrameFailed
    s a).sec = s.sec := by
  first
  | (simp [refusedFrameFailed]; done)
  | (unfold refusedFrameFailed; (try simp only []); (repeat' split) <;> (try intro ht) <;> (simp_all; done); done)

@[simp] theorem frameFailed_keeps (a : Cis) (b : Op) (s : Sys2Proof.Machine.State) : (frameFailed a b s).pending = s.pending ∧ (frameFailed a b
    s).freeCtr = s.freeCtr ∧ (frameFailed a b s).keys = s.keys ∧ (frameFailed a b s).th = s.th ∧ (frameFailed a b s).sec = s.sec := by
  first
  | (simp [frameFailed]; done)
  | (unfold frameFailed; (try simp only []); (repeat' split) <;> (try intro ht) <;> (simp_all; done); done)

@[simp] theorem lineEnd_keeps (s : Sys2Proof.Machine.State) (a : ℕ) (b : Bool) (c : ℕ) : (lineEnd s a b c).pending = s.pending ∧ (lineEnd s a b
    c).keys = s.keys ∧ (lineEnd s a b c).th = s.th ∧ (lineEnd s a b c).sec = s.sec := by
  first
  | (simp [lineEnd]; done)
  | (unfold lineEnd; (try simp only []); (repeat' split) <;> (try intro ht) <;> (simp_all; done); done)

@[simp] theorem nodeEnd_keeps (s : Sys2Proof.Machine.State) (a : ℕ) (b : ℕ) (c : Bool) (d : ℕ) : (nodeEnd s a b c d).pending = s.pending ∧ (nodeEnd
    s a b c d).keys = s.keys ∧ (nodeEnd s a b c d).th = s.th ∧ (nodeEnd s a b c d).sec = s.sec := by
  first
  | (simp [nodeEnd]; done)
  | (unfold nodeEnd; (try simp only []); (repeat' split) <;> (try intro ht) <;> (simp_all; done); done)

@[simp] theorem sentinelEnd_keeps (s : Sys2Proof.Machine.State) (a : ℕ) (b : ℕ) (c : Bool) (d : ℕ) : (sentinelEnd s a b c d).pending = s.pending ∧
    (sentinelEnd s a b c d).keys = s.keys ∧ (sentinelEnd s a b c d).th = s.th ∧ (sentinelEnd s a b c d).sec = s.sec := by
  first
  | (simp [sentinelEnd]; done)
  | (unfold sentinelEnd; (try simp only []); (repeat' split) <;> (try intro ht) <;> (simp_all; done); done)

@[simp] theorem cleaningF_keeps (s : Sys2Proof.Machine.State) (a : ℕ) : (cleaningF s a).pending = s.pending ∧ (cleaningF s a).keys = s.keys ∧
    (cleaningF s a).th = s.th ∧ (cleaningF s a).sec = s.sec := by
  first
  | (simp [cleaningF]; done)
  | (unfold cleaningF; (try simp only []); (repeat' split) <;> (try intro ht) <;> (simp_all; done); done)

@[simp] theorem endRange_keeps (s : Sys2Proof.Machine.State) (a : ℕ) : (endRange s a).pending = s.pending ∧ (endRange s a).freeCtr = s.freeCtr ∧
    (endRange s a).req = s.req ∧ (endRange s a).pwr = s.pwr ∧ (endRange s a).ports = s.ports ∧ (endRange s a).tabs = s.tabs ∧ (endRange s a).mapu =
    s.mapu ∧ (endRange s a).cist = s.cist ∧ (endRange s a).cache = s.cache ∧ (endRange s a).med = s.med ∧ (endRange s a).keys = s.keys ∧ (endRange s
    a).wear = s.wear ∧ (endRange s a).pair = s.pair ∧ (endRange s a).flt = s.flt ∧ (endRange s a).ag = s.ag ∧ (endRange s a).qz = s.qz ∧ (endRange s
    a).zir = s.zir ∧ (endRange s a).th = s.th ∧ (endRange s a).beryl = s.beryl ∧ (endRange s a).sec = s.sec := by
  first
  | (simp [endRange]; done)
  | (unfold endRange; (try simp only []); (repeat' split) <;> (try intro ht) <;> (simp_all; done); done)

theorem scrubUser_keeps (s : Sys2Proof.Machine.State) (a : ℕ) (b : ℕ) (c : Sys2Proof.SenseRes) (d : Sys2Proof.SenseRes) : ∀ t, scrubUser s a b c d =
    some t → t.pending = s.pending ∧ t.keys = s.keys ∧ t.th = s.th ∧ t.sec = s.sec := by
  intro t ht; unfold scrubUser at ht; dsimp only at ht
  split at ht
  · cases ht
  · (repeat' split at ht) <;> (first | (injection ht with ht; subst ht; simp; done) | (simp only [Option.map_eq_some_iff] at ht; obtain ⟨x, hx, ht⟩ := ht; have q := takeTok_keeps _ _ _ _ hx; subst ht; simp_all; done) | (injection ht with ht; subst ht; (repeat' split) <;> simp))

@[simp] theorem settleRange_keeps (s : Sys2Proof.Machine.State) : (settleRange s).pending = s.pending ∧ (settleRange s).freeCtr = s.freeCtr ∧
    (settleRange s).req = s.req ∧ (settleRange s).pwr = s.pwr ∧ (settleRange s).ports = s.ports ∧ (settleRange s).tabs = s.tabs ∧ (settleRange
    s).mapu = s.mapu ∧ (settleRange s).cist = s.cist ∧ (settleRange s).cache = s.cache ∧ (settleRange s).med = s.med ∧ (settleRange s).keys = s.keys
    ∧ (settleRange s).wear = s.wear ∧ (settleRange s).pair = s.pair ∧ (settleRange s).flt = s.flt ∧ (settleRange s).ag = s.ag ∧ (settleRange s).qz =
    s.qz ∧ (settleRange s).zir = s.zir ∧ (settleRange s).th = s.th ∧ (settleRange s).beryl = s.beryl ∧ (settleRange s).sec = s.sec := by
  first
  | (simp [settleRange]; done)
  | (unfold settleRange; (try simp only []); (repeat' split) <;> (try intro ht) <;> (simp_all; done); done)

@[simp] theorem scrubLate_keeps (s : Sys2Proof.Machine.State) : (scrubLate s).pending = s.pending ∧ (scrubLate s).freeCtr = s.freeCtr ∧ (scrubLate
    s).tabs = s.tabs ∧ (scrubLate s).mapu = s.mapu ∧ (scrubLate s).cist = s.cist ∧ (scrubLate s).cache = s.cache ∧ (scrubLate s).med = s.med ∧
    (scrubLate s).keys = s.keys ∧ (scrubLate s).wear = s.wear ∧ (scrubLate s).drift = s.drift ∧ (scrubLate s).zir = s.zir ∧ (scrubLate s).th = s.th
    ∧ (scrubLate s).sec = s.sec := by
  first
  | (simp [scrubLate]; done)
  | (unfold scrubLate; (try simp only []); (repeat' split) <;> (try intro ht) <;> (simp_all; done); done)

@[simp] theorem takeNode_keeps (s : Sys2Proof.Machine.State) (a : ℕ) : (takeNode s a).pending = s.pending ∧ (takeNode s a).out = s.out ∧ (takeNode s
    a).freeCtr = s.freeCtr ∧ (takeNode s a).req = s.req ∧ (takeNode s a).pwr = s.pwr ∧ (takeNode s a).ports = s.ports ∧ (takeNode s a).rings =
    s.rings ∧ (takeNode s a).cmds = s.cmds ∧ (takeNode s a).cist = s.cist ∧ (takeNode s a).cache = s.cache ∧ (takeNode s a).keys = s.keys ∧
    (takeNode s a).drift = s.drift ∧ (takeNode s a).pair = s.pair ∧ (takeNode s a).flt = s.flt ∧ (takeNode s a).ag = s.ag ∧ (takeNode s a).qz = s.qz
    ∧ (takeNode s a).th = s.th ∧ (takeNode s a).beryl = s.beryl ∧ (takeNode s a).sec = s.sec := by
  unfold takeNode; split
  · simp
  · split
    · simp
    · split
      · simp
      · rename_i h; have q := takeMeta_keeps _ _ _ _ _ h; simp_all

@[simp] theorem startAdvance_keeps (s : Sys2Proof.Machine.State) : (startAdvance s).pending = s.pending ∧ (startAdvance s).out = s.out ∧
    (startAdvance s).freeCtr = s.freeCtr ∧ (startAdvance s).regs = s.regs ∧ (startAdvance s).req = s.req ∧ (startAdvance s).pwr = s.pwr ∧
    (startAdvance s).ports = s.ports ∧ (startAdvance s).rings = s.rings ∧ (startAdvance s).cmds = s.cmds ∧ (startAdvance s).tabs = s.tabs ∧
    (startAdvance s).mapu = s.mapu ∧ (startAdvance s).cist = s.cist ∧ (startAdvance s).cache = s.cache ∧ (startAdvance s).med = s.med ∧
    (startAdvance s).keys = s.keys ∧ (startAdvance s).wear = s.wear ∧ (startAdvance s).drift = s.drift ∧ (startAdvance s).pair = s.pair ∧
    (startAdvance s).flt = s.flt ∧ (startAdvance s).ag = s.ag ∧ (startAdvance s).qz = s.qz ∧ (startAdvance s).zir = s.zir ∧ (startAdvance s).th =
    s.th ∧ (startAdvance s).beryl = s.beryl := by
  first
  | (simp [startAdvance]; done)
  | (unfold startAdvance; (try simp only []); (repeat' split) <;> (try intro ht) <;> (simp_all; done); done)

@[simp] theorem takeNodes_keeps (s : Sys2Proof.Machine.State) : (takeNodes s).pending = s.pending ∧ (takeNodes s).out = s.out ∧ (takeNodes
    s).freeCtr = s.freeCtr ∧ (takeNodes s).req = s.req ∧ (takeNodes s).pwr = s.pwr ∧ (takeNodes s).ports = s.ports ∧ (takeNodes s).rings = s.rings ∧
    (takeNodes s).cmds = s.cmds ∧ (takeNodes s).cist = s.cist ∧ (takeNodes s).cache = s.cache ∧ (takeNodes s).keys = s.keys ∧ (takeNodes s).drift =
    s.drift ∧ (takeNodes s).pair = s.pair ∧ (takeNodes s).flt = s.flt ∧ (takeNodes s).ag = s.ag ∧ (takeNodes s).qz = s.qz ∧ (takeNodes s).th = s.th
    ∧ (takeNodes s).beryl = s.beryl ∧ (takeNodes s).sec = s.sec := by
  first
  | (simp [takeNodes]; done)
  | (unfold takeNodes; (try simp only []); (repeat' split) <;> (try intro ht) <;> (simp_all; done); done)

@[simp] theorem noteReset_keeps (s : Sys2Proof.Machine.State) (a : ℕ) : (noteReset s a).pending = s.pending ∧ (noteReset s a).out = s.out ∧
    (noteReset s a).req = s.req ∧ (noteReset s a).pwr = s.pwr ∧ (noteReset s a).ports = s.ports ∧ (noteReset s a).rings = s.rings ∧ (noteReset s
    a).cmds = s.cmds ∧ (noteReset s a).tabs = s.tabs ∧ (noteReset s a).cist = s.cist ∧ (noteReset s a).cache = s.cache ∧ (noteReset s a).med = s.med
    ∧ (noteReset s a).keys = s.keys ∧ (noteReset s a).pair = s.pair ∧ (noteReset s a).flt = s.flt ∧ (noteReset s a).ag = s.ag ∧ (noteReset s a).zir
    = s.zir ∧ (noteReset s a).th = s.th ∧ (noteReset s a).beryl = s.beryl ∧ (noteReset s a).sec = s.sec := by
  first
  | (simp [noteReset]; done)
  | (unfold noteReset; (try simp only []); (repeat' split) <;> (try intro ht) <;> (simp_all; done); done)

@[simp] theorem dropPortRequests_keeps (s : Sys2Proof.Machine.State) (a : ℕ) : (dropPortRequests s a).pending = s.pending ∧ (dropPortRequests s
    a).out = s.out ∧ (dropPortRequests s a).freeCtr = s.freeCtr ∧ (dropPortRequests s a).regs = s.regs ∧ (dropPortRequests s a).req = s.req ∧
    (dropPortRequests s a).pwr = s.pwr ∧ (dropPortRequests s a).ports = s.ports ∧ (dropPortRequests s a).rings = s.rings ∧ (dropPortRequests s
    a).cmds = s.cmds ∧ (dropPortRequests s a).tabs = s.tabs ∧ (dropPortRequests s a).mapu = s.mapu ∧ (dropPortRequests s a).keys = s.keys ∧
    (dropPortRequests s a).wear = s.wear ∧ (dropPortRequests s a).drift = s.drift ∧ (dropPortRequests s a).flt = s.flt ∧ (dropPortRequests s a).ag =
    s.ag ∧ (dropPortRequests s a).qz = s.qz ∧ (dropPortRequests s a).zir = s.zir ∧ (dropPortRequests s a).th = s.th ∧ (dropPortRequests s a).beryl =
    s.beryl ∧ (dropPortRequests s a).sec = s.sec := by
  first
  | (simp [dropPortRequests]; done)
  | (unfold dropPortRequests; (try simp only []); (repeat' split) <;> (try intro ht) <;> (simp_all; done); done)

@[simp] theorem tick_keeps (s : Sys2Proof.Machine.State) : (tick s).pending = s.pending ∧ (tick s).out = s.out ∧ (tick s).freeCtr = s.freeCtr ∧
    (tick s).regs = s.regs ∧ (tick s).req = s.req ∧ (tick s).ports = s.ports ∧ (tick s).rings = s.rings ∧ (tick s).cmds = s.cmds ∧ (tick s).tabs =
    s.tabs ∧ (tick s).mapu = s.mapu ∧ (tick s).cist = s.cist ∧ (tick s).cache = s.cache ∧ (tick s).med = s.med ∧ (tick s).keys = s.keys ∧ (tick
    s).wear = s.wear ∧ (tick s).drift = s.drift ∧ (tick s).pair = s.pair ∧ (tick s).flt = s.flt ∧ (tick s).ag = s.ag ∧ (tick s).qz = s.qz ∧ (tick
    s).zir = s.zir ∧ (tick s).th = s.th ∧ (tick s).beryl = s.beryl ∧ (tick s).sec = s.sec := by
  first
  | (simp [tick]; done)
  | (unfold tick; (try simp only []); (repeat' split) <;> (try intro ht) <;> (simp_all; done); done)

end Sys2Proof.Machine
end

