-- ==== Sys2Proof/Laws/Store.lean ====
section
/-! SUPPORT. Reading after writing sparse data, and the canonical form that every operation on it keeps (log entry 4). The medium, the
maps, the Beryl image and every indexed unit of State are such data, so this is also what memory operations do. -/

namespace Sys2Proof.Machine

variable {α : Type}

@[simp] theorem sGet_nil (d : α) (k : Nat) : sGet d [] k = d := rfl

theorem sGet_sIns (d v : α) (m : Store α) (k k' : Nat) : sGet d (sIns k v m) k' = if k = k' then v else sGet d m k' := by
  induction m with
  | nil => simp [sIns, sGet]
  | cons x m ih =>
    obtain ⟨j, w⟩ := x
    simp only [sIns]
    split
    · simp [sGet]
    · split
      · subst_vars
        simp only [sGet]
        split <;> simp_all
      · simp only [sGet, ih]
        split
        · rw [if_neg (by omega)]
        · rfl

theorem sGet_sDel (d : α) (m : Store α) (k k' : Nat) : sGet d (sDel k m) k' = if k = k' then d else sGet d m k' := by
  induction m with
  | nil => simp [sDel, sGet]
  | cons x m ih =>
    obtain ⟨j, w⟩ := x
    simp only [sDel]
    split
    · subst_vars
      simp only [ih, sGet]
      split <;> simp_all
    · simp only [sGet, ih]
      split
      · rw [if_neg (by omega)]
      · rfl

/-- Reading after writing: the value written where it was written, and what stood there everywhere else. -/
theorem sGet_sSet [DecidableEq α] (d : α) (m : Store α) (k : Nat) (v : α) (k' : Nat) :
    sGet d (sSet d m k v) k' = if k = k' then v else sGet d m k' := by
  unfold sSet
  split
  · rw [sGet_sDel]
    simp_all
  · rw [sGet_sIns]

@[simp] theorem sGet_sSet_same [DecidableEq α] (d : α) (m : Store α) (k : Nat) (v : α) : sGet d (sSet d m k v) k = v := by
  simp [sGet_sSet]

@[simp] theorem sGet_sMod_same [DecidableEq α] (d : α) (m : Store α) (k : Nat) (f : α → α) :
    sGet d (sMod d m k f) k = f (sGet d m k) := by
  simp [sMod]

theorem sGet_sSet_other [DecidableEq α] (d : α) (m : Store α) (v : α) {k k' : Nat} (h : k ≠ k') :
    sGet d (sSet d m k v) k' = sGet d m k' := by
  simp [sGet_sSet, h]

theorem sGet_sMod [DecidableEq α] (d : α) (m : Store α) (k : Nat) (f : α → α) (k' : Nat) :
    sGet d (sMod d m k f) k' = if k = k' then f (sGet d m k) else sGet d m k' := by
  simp [sMod, sGet_sSet]

theorem sGet_sMod_other [DecidableEq α] (d : α) (m : Store α) (f : α → α) {k k' : Nat} (h : k ≠ k') :
    sGet d (sMod d m k f) k' = sGet d m k' := by
  simp [sGet_sMod, h]

/-! ## The canonical form -/

theorem mem_sIns {k : Nat} {v : α} {m : Store α} {x : Nat × α} (h : x ∈ sIns k v m) : x = (k, v) ∨ x ∈ m := by
  induction m with
  | nil => simpa [sIns] using h
  | cons y m ih =>
    obtain ⟨j, w⟩ := y
    simp only [sIns] at h
    split at h
    · simpa using h
    · split at h
      · simp only [List.mem_cons] at h ⊢
        tauto
      · simp only [List.mem_cons] at h ⊢
        rcases h with h | h
        · tauto
        · have := ih h
          tauto

theorem mem_sDel {k : Nat} {m : Store α} {x : Nat × α} (h : x ∈ sDel k m) : x ∈ m := by
  induction m with
  | nil => simp [sDel] at h
  | cons y m ih =>
    obtain ⟨j, w⟩ := y
    simp only [sDel] at h
    split at h
    · exact List.mem_cons_of_mem _ (ih h)
    · simp only [List.mem_cons] at h ⊢
      rcases h with h | h
      · exact .inl h
      · exact .inr (ih h)

/-- The canonical form as a property of the list. -/
theorem sWf_iff [DecidableEq α] (d : Nat → α) (j : Nat) (v : α) (m : Store α) :
    sWf d ((j, v) :: m) = true ↔ v ≠ d j ∧ (∀ x ∈ m, j < x.1) ∧ sWf d m = true := by
  simp [sWf, List.all_eq_true, and_assoc]

theorem sWf_sDel [DecidableEq α] (d : Nat → α) (k : Nat) (m : Store α) (h : sWf d m = true) : sWf d (sDel k m) = true := by
  induction m with
  | nil => rfl
  | cons y m ih =>
    obtain ⟨j, w⟩ := y
    rw [sWf_iff] at h
    simp only [sDel]
    split
    · exact ih h.2.2
    · exact (sWf_iff ..).2 ⟨h.1, fun x hx => h.2.1 x (mem_sDel hx), ih h.2.2⟩

theorem sWf_sIns [DecidableEq α] (d : Nat → α) (k : Nat) (v : α) (m : Store α) (hv : v ≠ d k) (h : sWf d m = true) :
    sWf d (sIns k v m) = true := by
  induction m with
  | nil => simp [sIns, sWf, hv]
  | cons y m ih =>
    obtain ⟨j, w⟩ := y
    have h0 := h
    rw [sWf_iff] at h
    simp only [sIns]
    split
    · rename_i hk
      refine (sWf_iff ..).2 ⟨hv, ?_, h0⟩
      intro x hx
      rcases List.mem_cons.1 hx with rfl | hx
      · exact hk
      · exact Nat.lt_trans hk (h.2.1 x hx)
    · split
      · subst_vars
        exact (sWf_iff ..).2 ⟨hv, h.2.1, h.2.2⟩
      · refine (sWf_iff ..).2 ⟨h.1, ?_, ih h.2.2⟩
        intro x hx
        rcases mem_sIns hx with rfl | hx
        · simp only
          omega
        · exact h.2.1 x hx

/-- A write keeps the canonical form, whatever each index reads as where nothing is listed. -/
theorem sWf_sSet [DecidableEq α] (d : Nat → α) (m : Store α) (k : Nat) (v : α) (h : sWf d m = true) : sWf d (sSet (d k) m k v) = true := by
  unfold sSet
  split
  · exact sWf_sDel d k m h
  · exact sWf_sIns d k v m ‹_› h

theorem sWf_sMod [DecidableEq α] (d : Nat → α) (m : Store α) (k : Nat) (f : α → α) (h : sWf d m = true) :
    sWf d (sMod (d k) m k f) = true := sWf_sSet d m k _ h

/-- Changing every value listed keeps the canonical form. -/
theorem sWf_sMap [DecidableEq α] (d : Nat → α) (f : α → α) (m : Store α) (h : sWf d m = true) : sWf d (sMap d f m) = true := by
  induction m with
  | nil => rfl
  | cons y m ih =>
    obtain ⟨j, w⟩ := y
    rw [sWf_iff] at h
    have step : ∀ x ∈ sMap d f m, j < x.1 := by
      intro x hx
      simp only [sMap, List.mem_filter, List.mem_map] at hx
      obtain ⟨⟨y, hy, rfl⟩, -⟩ := hx
      exact h.2.1 y hy
    by_cases e : f w = d j
    · have : sMap d f ((j, w) :: m) = sMap d f m := by simp [sMap, e]
      rw [this]
      exact ih h.2.2
    · have : sMap d f ((j, w) :: m) = (j, f w) :: sMap d f m := by simp [sMap, e]
      rw [this]
      exact (sWf_iff ..).2 ⟨e, step, ih h.2.2⟩

/-- The indexes are below everything that follows: what the head of a canonical store says of an index it is not. -/
theorem sGet_of_lt (d : α) (m : Store α) (k : Nat) (h : ∀ x ∈ m, k < x.1) : sGet d m k = d := by
  induction m with
  | nil => rfl
  | cons y m ih =>
    obtain ⟨j, w⟩ := y
    have hj : k < j := h (j, w) (by simp)
    rw [sGet, if_neg (by omega)]
    exact ih fun x hx => h x (by simp [hx])

/-- Equal contents are equal data: two stores in canonical form that read alike everywhere are the same list. -/
theorem sWf_ext [DecidableEq α] (d : α) : ∀ m n : Store α, sWf (fun _ => d) m = true → sWf (fun _ => d) n = true →
    (∀ k, sGet d m k = sGet d n k) → m = n
  | [], [], _, _, _ => rfl
  | [], (j, w) :: n, _, hn, h => by
    have := h j
    simp [sGet] at this
    exact absurd this.symm ((sWf_iff ..).1 hn).1
  | (j, w) :: m, [], hm, _, h => by
    have := h j
    simp [sGet] at this
    exact absurd this ((sWf_iff ..).1 hm).1
  | (i, v) :: m, (j, w) :: n, hm, hn, h => by
    have hm' := (sWf_iff ..).1 hm
    have hn' := (sWf_iff ..).1 hn
    have hij : i = j := by
      rcases Nat.lt_trichotomy i j with hlt | heq | hgt
      · have e := h i
        rw [sGet, if_pos rfl, sGet_of_lt d ((j, w) :: n) i (by
          intro x hx
          rcases List.mem_cons.1 hx with rfl | hx
          · exact hlt
          · exact Nat.lt_trans hlt (hn'.2.1 x hx))] at e
        exact absurd e hm'.1
      · exact heq
      · have e := h j
        rw [sGet_of_lt d ((i, v) :: m) j (by
          intro x hx
          rcases List.mem_cons.1 hx with rfl | hx
          · exact hgt
          · exact Nat.lt_trans hgt (hm'.2.1 x hx)), sGet, if_pos rfl] at e
        exact absurd e.symm hn'.1
    subst hij
    have hvw : v = w := by simpa [sGet] using h i
    subst hvw
    have : m = n := by
      apply sWf_ext d m n hm'.2.2 hn'.2.2
      intro k
      by_cases e : i = k
      · subst e
        rw [sGet_of_lt d m i hm'.2.1, sGet_of_lt d n i hn'.2.1]
      · simpa [sGet, e] using h k
    rw [this]

end Sys2Proof.Machine
end

