-- ==== Sys2Proof/Laws/State.lean ====
section
/-! SUPPORT. One lemma per part of State for each elementary update, and what a unit reads as after it. -/

namespace Sys2Proof.Machine

/-! ## emit -/

@[simp] theorem emit_pending (s : State) (o : Out) : (emit s o).pending = s.pending := rfl
@[simp] theorem emit_out (s : State) (o : Out) : (emit s o).out = s.out ++ [o] := rfl
@[simp] theorem emit_freeCtr (s : State) (o : Out) : (emit s o).freeCtr = s.freeCtr := rfl
@[simp] theorem emit_regs (s : State) (o : Out) : (emit s o).regs = s.regs := rfl
@[simp] theorem emit_req (s : State) (o : Out) : (emit s o).req = s.req := rfl
@[simp] theorem emit_pwr (s : State) (o : Out) : (emit s o).pwr = s.pwr := rfl
@[simp] theorem emit_ports (s : State) (o : Out) : (emit s o).ports = s.ports := rfl
@[simp] theorem emit_rings (s : State) (o : Out) : (emit s o).rings = s.rings := rfl
@[simp] theorem emit_cmds (s : State) (o : Out) : (emit s o).cmds = s.cmds := rfl
@[simp] theorem emit_tabs (s : State) (o : Out) : (emit s o).tabs = s.tabs := rfl
@[simp] theorem emit_mapu (s : State) (o : Out) : (emit s o).mapu = s.mapu := rfl
@[simp] theorem emit_cist (s : State) (o : Out) : (emit s o).cist = s.cist := rfl
@[simp] theorem emit_cache (s : State) (o : Out) : (emit s o).cache = s.cache := rfl
@[simp] theorem emit_med (s : State) (o : Out) : (emit s o).med = s.med := rfl
@[simp] theorem emit_keys (s : State) (o : Out) : (emit s o).keys = s.keys := rfl
@[simp] theorem emit_wear (s : State) (o : Out) : (emit s o).wear = s.wear := rfl
@[simp] theorem emit_drift (s : State) (o : Out) : (emit s o).drift = s.drift := rfl
@[simp] theorem emit_pair (s : State) (o : Out) : (emit s o).pair = s.pair := rfl
@[simp] theorem emit_flt (s : State) (o : Out) : (emit s o).flt = s.flt := rfl
@[simp] theorem emit_ag (s : State) (o : Out) : (emit s o).ag = s.ag := rfl
@[simp] theorem emit_qz (s : State) (o : Out) : (emit s o).qz = s.qz := rfl
@[simp] theorem emit_zir (s : State) (o : Out) : (emit s o).zir = s.zir := rfl
@[simp] theorem emit_th (s : State) (o : Out) : (emit s o).th = s.th := rfl
@[simp] theorem emit_beryl (s : State) (o : Out) : (emit s o).beryl = s.beryl := rfl
@[simp] theorem emit_sec (s : State) (o : Out) : (emit s o).sec = s.sec := rfl

/-! ## bump -/

@[simp] theorem bump_pending (s : State) : (bump s).pending = s.pending := rfl
@[simp] theorem bump_out (s : State) : (bump s).out = s.out := rfl
@[simp] theorem bump_freeCtr (s : State) : (bump s).freeCtr = s.freeCtr + 1 := rfl
@[simp] theorem bump_regs (s : State) : (bump s).regs = s.regs := rfl
@[simp] theorem bump_req (s : State) : (bump s).req = s.req := rfl
@[simp] theorem bump_pwr (s : State) : (bump s).pwr = s.pwr := rfl
@[simp] theorem bump_ports (s : State) : (bump s).ports = s.ports := rfl
@[simp] theorem bump_rings (s : State) : (bump s).rings = s.rings := rfl
@[simp] theorem bump_cmds (s : State) : (bump s).cmds = s.cmds := rfl
@[simp] theorem bump_tabs (s : State) : (bump s).tabs = s.tabs := rfl
@[simp] theorem bump_mapu (s : State) : (bump s).mapu = s.mapu := rfl
@[simp] theorem bump_cist (s : State) : (bump s).cist = s.cist := rfl
@[simp] theorem bump_cache (s : State) : (bump s).cache = s.cache := rfl
@[simp] theorem bump_med (s : State) : (bump s).med = s.med := rfl
@[simp] theorem bump_keys (s : State) : (bump s).keys = s.keys := rfl
@[simp] theorem bump_wear (s : State) : (bump s).wear = s.wear := rfl
@[simp] theorem bump_drift (s : State) : (bump s).drift = s.drift := rfl
@[simp] theorem bump_pair (s : State) : (bump s).pair = s.pair := rfl
@[simp] theorem bump_flt (s : State) : (bump s).flt = s.flt := rfl
@[simp] theorem bump_ag (s : State) : (bump s).ag = s.ag := rfl
@[simp] theorem bump_qz (s : State) : (bump s).qz = s.qz := rfl
@[simp] theorem bump_zir (s : State) : (bump s).zir = s.zir := rfl
@[simp] theorem bump_th (s : State) : (bump s).th = s.th := rfl
@[simp] theorem bump_beryl (s : State) : (bump s).beryl = s.beryl := rfl
@[simp] theorem bump_sec (s : State) : (bump s).sec = s.sec := rfl

/-! ## setCell -/

@[simp] theorem setCell_pending (s : State) (b : Blk) (i slot : Nat) (c : RegCell) : (setCell s b i slot c).pending = s.pending := rfl
@[simp] theorem setCell_out (s : State) (b : Blk) (i slot : Nat) (c : RegCell) : (setCell s b i slot c).out = s.out := rfl
@[simp] theorem setCell_freeCtr (s : State) (b : Blk) (i slot : Nat) (c : RegCell) : (setCell s b i slot c).freeCtr = s.freeCtr := rfl
@[simp] theorem setCell_regs (s : State) (b : Blk) (i slot : Nat) (c : RegCell) : (setCell s b i slot c).regs = sSet (resetCell b slot) s.regs (regKey b i slot) c := rfl
@[simp] theorem setCell_req (s : State) (b : Blk) (i slot : Nat) (c : RegCell) : (setCell s b i slot c).req = s.req := rfl
@[simp] theorem setCell_pwr (s : State) (b : Blk) (i slot : Nat) (c : RegCell) : (setCell s b i slot c).pwr = s.pwr := rfl
@[simp] theorem setCell_ports (s : State) (b : Blk) (i slot : Nat) (c : RegCell) : (setCell s b i slot c).ports = s.ports := rfl
@[simp] theorem setCell_rings (s : State) (b : Blk) (i slot : Nat) (c : RegCell) : (setCell s b i slot c).rings = s.rings := rfl
@[simp] theorem setCell_cmds (s : State) (b : Blk) (i slot : Nat) (c : RegCell) : (setCell s b i slot c).cmds = s.cmds := rfl
@[simp] theorem setCell_tabs (s : State) (b : Blk) (i slot : Nat) (c : RegCell) : (setCell s b i slot c).tabs = s.tabs := rfl
@[simp] theorem setCell_mapu (s : State) (b : Blk) (i slot : Nat) (c : RegCell) : (setCell s b i slot c).mapu = s.mapu := rfl
@[simp] theorem setCell_cist (s : State) (b : Blk) (i slot : Nat) (c : RegCell) : (setCell s b i slot c).cist = s.cist := rfl
@[simp] theorem setCell_cache (s : State) (b : Blk) (i slot : Nat) (c : RegCell) : (setCell s b i slot c).cache = s.cache := rfl
@[simp] theorem setCell_med (s : State) (b : Blk) (i slot : Nat) (c : RegCell) : (setCell s b i slot c).med = s.med := rfl
@[simp] theorem setCell_keys (s : State) (b : Blk) (i slot : Nat) (c : RegCell) : (setCell s b i slot c).keys = s.keys := rfl
@[simp] theorem setCell_wear (s : State) (b : Blk) (i slot : Nat) (c : RegCell) : (setCell s b i slot c).wear = s.wear := rfl
@[simp] theorem setCell_drift (s : State) (b : Blk) (i slot : Nat) (c : RegCell) : (setCell s b i slot c).drift = s.drift := rfl
@[simp] theorem setCell_pair (s : State) (b : Blk) (i slot : Nat) (c : RegCell) : (setCell s b i slot c).pair = s.pair := rfl
@[simp] theorem setCell_flt (s : State) (b : Blk) (i slot : Nat) (c : RegCell) : (setCell s b i slot c).flt = s.flt := rfl
@[simp] theorem setCell_ag (s : State) (b : Blk) (i slot : Nat) (c : RegCell) : (setCell s b i slot c).ag = s.ag := rfl
@[simp] theorem setCell_qz (s : State) (b : Blk) (i slot : Nat) (c : RegCell) : (setCell s b i slot c).qz = s.qz := rfl
@[simp] theorem setCell_zir (s : State) (b : Blk) (i slot : Nat) (c : RegCell) : (setCell s b i slot c).zir = s.zir := rfl
@[simp] theorem setCell_th (s : State) (b : Blk) (i slot : Nat) (c : RegCell) : (setCell s b i slot c).th = s.th := rfl
@[simp] theorem setCell_beryl (s : State) (b : Blk) (i slot : Nat) (c : RegCell) : (setCell s b i slot c).beryl = s.beryl := rfl
@[simp] theorem setCell_sec (s : State) (b : Blk) (i slot : Nat) (c : RegCell) : (setCell s b i slot c).sec = s.sec := rfl

/-! ## modPort -/

@[simp] theorem modPort_pending (s : State) (p : Nat) (f : PortSt → PortSt) : (modPort s p f).pending = s.pending := rfl
@[simp] theorem modPort_out (s : State) (p : Nat) (f : PortSt → PortSt) : (modPort s p f).out = s.out := rfl
@[simp] theorem modPort_freeCtr (s : State) (p : Nat) (f : PortSt → PortSt) : (modPort s p f).freeCtr = s.freeCtr := rfl
@[simp] theorem modPort_regs (s : State) (p : Nat) (f : PortSt → PortSt) : (modPort s p f).regs = s.regs := rfl
@[simp] theorem modPort_req (s : State) (p : Nat) (f : PortSt → PortSt) : (modPort s p f).req = s.req := rfl
@[simp] theorem modPort_pwr (s : State) (p : Nat) (f : PortSt → PortSt) : (modPort s p f).pwr = s.pwr := rfl
@[simp] theorem modPort_ports (s : State) (p : Nat) (f : PortSt → PortSt) : (modPort s p f).ports = sMod portInit s.ports p f := rfl
@[simp] theorem modPort_rings (s : State) (p : Nat) (f : PortSt → PortSt) : (modPort s p f).rings = s.rings := rfl
@[simp] theorem modPort_cmds (s : State) (p : Nat) (f : PortSt → PortSt) : (modPort s p f).cmds = s.cmds := rfl
@[simp] theorem modPort_tabs (s : State) (p : Nat) (f : PortSt → PortSt) : (modPort s p f).tabs = s.tabs := rfl
@[simp] theorem modPort_mapu (s : State) (p : Nat) (f : PortSt → PortSt) : (modPort s p f).mapu = s.mapu := rfl
@[simp] theorem modPort_cist (s : State) (p : Nat) (f : PortSt → PortSt) : (modPort s p f).cist = s.cist := rfl
@[simp] theorem modPort_cache (s : State) (p : Nat) (f : PortSt → PortSt) : (modPort s p f).cache = s.cache := rfl
@[simp] theorem modPort_med (s : State) (p : Nat) (f : PortSt → PortSt) : (modPort s p f).med = s.med := rfl
@[simp] theorem modPort_keys (s : State) (p : Nat) (f : PortSt → PortSt) : (modPort s p f).keys = s.keys := rfl
@[simp] theorem modPort_wear (s : State) (p : Nat) (f : PortSt → PortSt) : (modPort s p f).wear = s.wear := rfl
@[simp] theorem modPort_drift (s : State) (p : Nat) (f : PortSt → PortSt) : (modPort s p f).drift = s.drift := rfl
@[simp] theorem modPort_pair (s : State) (p : Nat) (f : PortSt → PortSt) : (modPort s p f).pair = s.pair := rfl
@[simp] theorem modPort_flt (s : State) (p : Nat) (f : PortSt → PortSt) : (modPort s p f).flt = s.flt := rfl
@[simp] theorem modPort_ag (s : State) (p : Nat) (f : PortSt → PortSt) : (modPort s p f).ag = s.ag := rfl
@[simp] theorem modPort_qz (s : State) (p : Nat) (f : PortSt → PortSt) : (modPort s p f).qz = s.qz := rfl
@[simp] theorem modPort_zir (s : State) (p : Nat) (f : PortSt → PortSt) : (modPort s p f).zir = s.zir := rfl
@[simp] theorem modPort_th (s : State) (p : Nat) (f : PortSt → PortSt) : (modPort s p f).th = s.th := rfl
@[simp] theorem modPort_beryl (s : State) (p : Nat) (f : PortSt → PortSt) : (modPort s p f).beryl = s.beryl := rfl
@[simp] theorem modPort_sec (s : State) (p : Nat) (f : PortSt → PortSt) : (modPort s p f).sec = s.sec := rfl

/-! ## modRing -/

@[simp] theorem modRing_pending (s : State) (p : Nat) (f : Ring → Ring) : (modRing s p f).pending = s.pending := rfl
@[simp] theorem modRing_out (s : State) (p : Nat) (f : Ring → Ring) : (modRing s p f).out = s.out := rfl
@[simp] theorem modRing_freeCtr (s : State) (p : Nat) (f : Ring → Ring) : (modRing s p f).freeCtr = s.freeCtr := rfl
@[simp] theorem modRing_regs (s : State) (p : Nat) (f : Ring → Ring) : (modRing s p f).regs = s.regs := rfl
@[simp] theorem modRing_req (s : State) (p : Nat) (f : Ring → Ring) : (modRing s p f).req = s.req := rfl
@[simp] theorem modRing_pwr (s : State) (p : Nat) (f : Ring → Ring) : (modRing s p f).pwr = s.pwr := rfl
@[simp] theorem modRing_ports (s : State) (p : Nat) (f : Ring → Ring) : (modRing s p f).ports = s.ports := rfl
@[simp] theorem modRing_rings (s : State) (p : Nat) (f : Ring → Ring) : (modRing s p f).rings = sMod ringInit s.rings p f := rfl
@[simp] theorem modRing_cmds (s : State) (p : Nat) (f : Ring → Ring) : (modRing s p f).cmds = s.cmds := rfl
@[simp] theorem modRing_tabs (s : State) (p : Nat) (f : Ring → Ring) : (modRing s p f).tabs = s.tabs := rfl
@[simp] theorem modRing_mapu (s : State) (p : Nat) (f : Ring → Ring) : (modRing s p f).mapu = s.mapu := rfl
@[simp] theorem modRing_cist (s : State) (p : Nat) (f : Ring → Ring) : (modRing s p f).cist = s.cist := rfl
@[simp] theorem modRing_cache (s : State) (p : Nat) (f : Ring → Ring) : (modRing s p f).cache = s.cache := rfl
@[simp] theorem modRing_med (s : State) (p : Nat) (f : Ring → Ring) : (modRing s p f).med = s.med := rfl
@[simp] theorem modRing_keys (s : State) (p : Nat) (f : Ring → Ring) : (modRing s p f).keys = s.keys := rfl
@[simp] theorem modRing_wear (s : State) (p : Nat) (f : Ring → Ring) : (modRing s p f).wear = s.wear := rfl
@[simp] theorem modRing_drift (s : State) (p : Nat) (f : Ring → Ring) : (modRing s p f).drift = s.drift := rfl
@[simp] theorem modRing_pair (s : State) (p : Nat) (f : Ring → Ring) : (modRing s p f).pair = s.pair := rfl
@[simp] theorem modRing_flt (s : State) (p : Nat) (f : Ring → Ring) : (modRing s p f).flt = s.flt := rfl
@[simp] theorem modRing_ag (s : State) (p : Nat) (f : Ring → Ring) : (modRing s p f).ag = s.ag := rfl
@[simp] theorem modRing_qz (s : State) (p : Nat) (f : Ring → Ring) : (modRing s p f).qz = s.qz := rfl
@[simp] theorem modRing_zir (s : State) (p : Nat) (f : Ring → Ring) : (modRing s p f).zir = s.zir := rfl
@[simp] theorem modRing_th (s : State) (p : Nat) (f : Ring → Ring) : (modRing s p f).th = s.th := rfl
@[simp] theorem modRing_beryl (s : State) (p : Nat) (f : Ring → Ring) : (modRing s p f).beryl = s.beryl := rfl
@[simp] theorem modRing_sec (s : State) (p : Nat) (f : Ring → Ring) : (modRing s p f).sec = s.sec := rfl

/-! ## modDom -/

@[simp] theorem modDom_pending (s : State) (d : Nat) (f : Dom → Dom) : (modDom s d f).pending = s.pending := rfl
@[simp] theorem modDom_out (s : State) (d : Nat) (f : Dom → Dom) : (modDom s d f).out = s.out := rfl
@[simp] theorem modDom_freeCtr (s : State) (d : Nat) (f : Dom → Dom) : (modDom s d f).freeCtr = s.freeCtr := rfl
@[simp] theorem modDom_regs (s : State) (d : Nat) (f : Dom → Dom) : (modDom s d f).regs = s.regs := rfl
@[simp] theorem modDom_req (s : State) (d : Nat) (f : Dom → Dom) : (modDom s d f).req = s.req := rfl
@[simp] theorem modDom_pwr (s : State) (d : Nat) (f : Dom → Dom) : (modDom s d f).pwr = { s.pwr with doms := sMod domInit s.pwr.doms d f } := rfl
@[simp] theorem modDom_ports (s : State) (d : Nat) (f : Dom → Dom) : (modDom s d f).ports = s.ports := rfl
@[simp] theorem modDom_rings (s : State) (d : Nat) (f : Dom → Dom) : (modDom s d f).rings = s.rings := rfl
@[simp] theorem modDom_cmds (s : State) (d : Nat) (f : Dom → Dom) : (modDom s d f).cmds = s.cmds := rfl
@[simp] theorem modDom_tabs (s : State) (d : Nat) (f : Dom → Dom) : (modDom s d f).tabs = s.tabs := rfl
@[simp] theorem modDom_mapu (s : State) (d : Nat) (f : Dom → Dom) : (modDom s d f).mapu = s.mapu := rfl
@[simp] theorem modDom_cist (s : State) (d : Nat) (f : Dom → Dom) : (modDom s d f).cist = s.cist := rfl
@[simp] theorem modDom_cache (s : State) (d : Nat) (f : Dom → Dom) : (modDom s d f).cache = s.cache := rfl
@[simp] theorem modDom_med (s : State) (d : Nat) (f : Dom → Dom) : (modDom s d f).med = s.med := rfl
@[simp] theorem modDom_keys (s : State) (d : Nat) (f : Dom → Dom) : (modDom s d f).keys = s.keys := rfl
@[simp] theorem modDom_wear (s : State) (d : Nat) (f : Dom → Dom) : (modDom s d f).wear = s.wear := rfl
@[simp] theorem modDom_drift (s : State) (d : Nat) (f : Dom → Dom) : (modDom s d f).drift = s.drift := rfl
@[simp] theorem modDom_pair (s : State) (d : Nat) (f : Dom → Dom) : (modDom s d f).pair = s.pair := rfl
@[simp] theorem modDom_flt (s : State) (d : Nat) (f : Dom → Dom) : (modDom s d f).flt = s.flt := rfl
@[simp] theorem modDom_ag (s : State) (d : Nat) (f : Dom → Dom) : (modDom s d f).ag = s.ag := rfl
@[simp] theorem modDom_qz (s : State) (d : Nat) (f : Dom → Dom) : (modDom s d f).qz = s.qz := rfl
@[simp] theorem modDom_zir (s : State) (d : Nat) (f : Dom → Dom) : (modDom s d f).zir = s.zir := rfl
@[simp] theorem modDom_th (s : State) (d : Nat) (f : Dom → Dom) : (modDom s d f).th = s.th := rfl
@[simp] theorem modDom_beryl (s : State) (d : Nat) (f : Dom → Dom) : (modDom s d f).beryl = s.beryl := rfl
@[simp] theorem modDom_sec (s : State) (d : Nat) (f : Dom → Dom) : (modDom s d f).sec = s.sec := rfl

/-! ## modChan -/

@[simp] theorem modChan_pending (s : State) (c : Nat) (f : Chan → Chan) : (modChan s c f).pending = s.pending := rfl
@[simp] theorem modChan_out (s : State) (c : Nat) (f : Chan → Chan) : (modChan s c f).out = s.out := rfl
@[simp] theorem modChan_freeCtr (s : State) (c : Nat) (f : Chan → Chan) : (modChan s c f).freeCtr = s.freeCtr := rfl
@[simp] theorem modChan_regs (s : State) (c : Nat) (f : Chan → Chan) : (modChan s c f).regs = s.regs := rfl
@[simp] theorem modChan_req (s : State) (c : Nat) (f : Chan → Chan) : (modChan s c f).req = s.req := rfl
@[simp] theorem modChan_pwr (s : State) (c : Nat) (f : Chan → Chan) : (modChan s c f).pwr = s.pwr := rfl
@[simp] theorem modChan_ports (s : State) (c : Nat) (f : Chan → Chan) : (modChan s c f).ports = s.ports := rfl
@[simp] theorem modChan_rings (s : State) (c : Nat) (f : Chan → Chan) : (modChan s c f).rings = s.rings := rfl
@[simp] theorem modChan_cmds (s : State) (c : Nat) (f : Chan → Chan) : (modChan s c f).cmds = s.cmds := rfl
@[simp] theorem modChan_tabs (s : State) (c : Nat) (f : Chan → Chan) : (modChan s c f).tabs = s.tabs := rfl
@[simp] theorem modChan_mapu (s : State) (c : Nat) (f : Chan → Chan) : (modChan s c f).mapu = s.mapu := rfl
@[simp] theorem modChan_cist (s : State) (c : Nat) (f : Chan → Chan) : (modChan s c f).cist = s.cist := rfl
@[simp] theorem modChan_cache (s : State) (c : Nat) (f : Chan → Chan) : (modChan s c f).cache = s.cache := rfl
@[simp] theorem modChan_med (s : State) (c : Nat) (f : Chan → Chan) : (modChan s c f).med = s.med := rfl
@[simp] theorem modChan_keys (s : State) (c : Nat) (f : Chan → Chan) : (modChan s c f).keys = s.keys := rfl
@[simp] theorem modChan_wear (s : State) (c : Nat) (f : Chan → Chan) : (modChan s c f).wear = s.wear := rfl
@[simp] theorem modChan_drift (s : State) (c : Nat) (f : Chan → Chan) : (modChan s c f).drift = { s.drift with chans := sMod (chanDefault s) s.drift.chans c f } := rfl
@[simp] theorem modChan_pair (s : State) (c : Nat) (f : Chan → Chan) : (modChan s c f).pair = s.pair := rfl
@[simp] theorem modChan_flt (s : State) (c : Nat) (f : Chan → Chan) : (modChan s c f).flt = s.flt := rfl
@[simp] theorem modChan_ag (s : State) (c : Nat) (f : Chan → Chan) : (modChan s c f).ag = s.ag := rfl
@[simp] theorem modChan_qz (s : State) (c : Nat) (f : Chan → Chan) : (modChan s c f).qz = s.qz := rfl
@[simp] theorem modChan_zir (s : State) (c : Nat) (f : Chan → Chan) : (modChan s c f).zir = s.zir := rfl
@[simp] theorem modChan_th (s : State) (c : Nat) (f : Chan → Chan) : (modChan s c f).th = s.th := rfl
@[simp] theorem modChan_beryl (s : State) (c : Nat) (f : Chan → Chan) : (modChan s c f).beryl = s.beryl := rfl
@[simp] theorem modChan_sec (s : State) (c : Nat) (f : Chan → Chan) : (modChan s c f).sec = s.sec := rfl

/-! ## modSlice -/

@[simp] theorem modSlice_pending (s : State) (n : Nat) (f : SliceT → SliceT) : (modSlice s n f).pending = s.pending := rfl
@[simp] theorem modSlice_out (s : State) (n : Nat) (f : SliceT → SliceT) : (modSlice s n f).out = s.out := rfl
@[simp] theorem modSlice_freeCtr (s : State) (n : Nat) (f : SliceT → SliceT) : (modSlice s n f).freeCtr = s.freeCtr := rfl
@[simp] theorem modSlice_regs (s : State) (n : Nat) (f : SliceT → SliceT) : (modSlice s n f).regs = s.regs := rfl
@[simp] theorem modSlice_req (s : State) (n : Nat) (f : SliceT → SliceT) : (modSlice s n f).req = s.req := rfl
@[simp] theorem modSlice_pwr (s : State) (n : Nat) (f : SliceT → SliceT) : (modSlice s n f).pwr = s.pwr := rfl
@[simp] theorem modSlice_ports (s : State) (n : Nat) (f : SliceT → SliceT) : (modSlice s n f).ports = s.ports := rfl
@[simp] theorem modSlice_rings (s : State) (n : Nat) (f : SliceT → SliceT) : (modSlice s n f).rings = s.rings := rfl
@[simp] theorem modSlice_cmds (s : State) (n : Nat) (f : SliceT → SliceT) : (modSlice s n f).cmds = s.cmds := rfl
@[simp] theorem modSlice_tabs (s : State) (n : Nat) (f : SliceT → SliceT) : (modSlice s n f).tabs = s.tabs := rfl
@[simp] theorem modSlice_mapu (s : State) (n : Nat) (f : SliceT → SliceT) : (modSlice s n f).mapu = s.mapu := rfl
@[simp] theorem modSlice_cist (s : State) (n : Nat) (f : SliceT → SliceT) : (modSlice s n f).cist = s.cist := rfl
@[simp] theorem modSlice_cache (s : State) (n : Nat) (f : SliceT → SliceT) : (modSlice s n f).cache = { s.cache with slices := sMod sliceInit s.cache.slices n f } := rfl
@[simp] theorem modSlice_med (s : State) (n : Nat) (f : SliceT → SliceT) : (modSlice s n f).med = s.med := rfl
@[simp] theorem modSlice_keys (s : State) (n : Nat) (f : SliceT → SliceT) : (modSlice s n f).keys = s.keys := rfl
@[simp] theorem modSlice_wear (s : State) (n : Nat) (f : SliceT → SliceT) : (modSlice s n f).wear = s.wear := rfl
@[simp] theorem modSlice_drift (s : State) (n : Nat) (f : SliceT → SliceT) : (modSlice s n f).drift = s.drift := rfl
@[simp] theorem modSlice_pair (s : State) (n : Nat) (f : SliceT → SliceT) : (modSlice s n f).pair = s.pair := rfl
@[simp] theorem modSlice_flt (s : State) (n : Nat) (f : SliceT → SliceT) : (modSlice s n f).flt = s.flt := rfl
@[simp] theorem modSlice_ag (s : State) (n : Nat) (f : SliceT → SliceT) : (modSlice s n f).ag = s.ag := rfl
@[simp] theorem modSlice_qz (s : State) (n : Nat) (f : SliceT → SliceT) : (modSlice s n f).qz = s.qz := rfl
@[simp] theorem modSlice_zir (s : State) (n : Nat) (f : SliceT → SliceT) : (modSlice s n f).zir = s.zir := rfl
@[simp] theorem modSlice_th (s : State) (n : Nat) (f : SliceT → SliceT) : (modSlice s n f).th = s.th := rfl
@[simp] theorem modSlice_beryl (s : State) (n : Nat) (f : SliceT → SliceT) : (modSlice s n f).beryl = s.beryl := rfl
@[simp] theorem modSlice_sec (s : State) (n : Nat) (f : SliceT → SliceT) : (modSlice s n f).sec = s.sec := rfl

/-! ## setFrame -/

@[simp] theorem setFrame_pending (s : State) (ptn fslot : Nat) (x : Frame) : (setFrame s ptn fslot x).pending = s.pending := rfl
@[simp] theorem setFrame_out (s : State) (ptn fslot : Nat) (x : Frame) : (setFrame s ptn fslot x).out = s.out := rfl
@[simp] theorem setFrame_freeCtr (s : State) (ptn fslot : Nat) (x : Frame) : (setFrame s ptn fslot x).freeCtr = s.freeCtr := rfl
@[simp] theorem setFrame_regs (s : State) (ptn fslot : Nat) (x : Frame) : (setFrame s ptn fslot x).regs = s.regs := rfl
@[simp] theorem setFrame_req (s : State) (ptn fslot : Nat) (x : Frame) : (setFrame s ptn fslot x).req = s.req := rfl
@[simp] theorem setFrame_pwr (s : State) (ptn fslot : Nat) (x : Frame) : (setFrame s ptn fslot x).pwr = s.pwr := rfl
@[simp] theorem setFrame_ports (s : State) (ptn fslot : Nat) (x : Frame) : (setFrame s ptn fslot x).ports = s.ports := rfl
@[simp] theorem setFrame_rings (s : State) (ptn fslot : Nat) (x : Frame) : (setFrame s ptn fslot x).rings = s.rings := rfl
@[simp] theorem setFrame_cmds (s : State) (ptn fslot : Nat) (x : Frame) : (setFrame s ptn fslot x).cmds = s.cmds := rfl
@[simp] theorem setFrame_tabs (s : State) (ptn fslot : Nat) (x : Frame) : (setFrame s ptn fslot x).tabs = s.tabs := rfl
@[simp] theorem setFrame_mapu (s : State) (ptn fslot : Nat) (x : Frame) : (setFrame s ptn fslot x).mapu = s.mapu := rfl
@[simp] theorem setFrame_cist (s : State) (ptn fslot : Nat) (x : Frame) : (setFrame s ptn fslot x).cist = s.cist := rfl
@[simp] theorem setFrame_cache (s : State) (ptn fslot : Nat) (x : Frame) : (setFrame s ptn fslot x).cache = s.cache := rfl
@[simp] theorem setFrame_med (s : State) (ptn fslot : Nat) (x : Frame) : (setFrame s ptn fslot x).med = { s.med with frames := sSet frameInit s.med.frames (frameKey ptn fslot) x } := rfl
@[simp] theorem setFrame_keys (s : State) (ptn fslot : Nat) (x : Frame) : (setFrame s ptn fslot x).keys = s.keys := rfl
@[simp] theorem setFrame_wear (s : State) (ptn fslot : Nat) (x : Frame) : (setFrame s ptn fslot x).wear = s.wear := rfl
@[simp] theorem setFrame_drift (s : State) (ptn fslot : Nat) (x : Frame) : (setFrame s ptn fslot x).drift = s.drift := rfl
@[simp] theorem setFrame_pair (s : State) (ptn fslot : Nat) (x : Frame) : (setFrame s ptn fslot x).pair = s.pair := rfl
@[simp] theorem setFrame_flt (s : State) (ptn fslot : Nat) (x : Frame) : (setFrame s ptn fslot x).flt = s.flt := rfl
@[simp] theorem setFrame_ag (s : State) (ptn fslot : Nat) (x : Frame) : (setFrame s ptn fslot x).ag = s.ag := rfl
@[simp] theorem setFrame_qz (s : State) (ptn fslot : Nat) (x : Frame) : (setFrame s ptn fslot x).qz = s.qz := rfl
@[simp] theorem setFrame_zir (s : State) (ptn fslot : Nat) (x : Frame) : (setFrame s ptn fslot x).zir = s.zir := rfl
@[simp] theorem setFrame_th (s : State) (ptn fslot : Nat) (x : Frame) : (setFrame s ptn fslot x).th = s.th := rfl
@[simp] theorem setFrame_beryl (s : State) (ptn fslot : Nat) (x : Frame) : (setFrame s ptn fslot x).beryl = s.beryl := rfl
@[simp] theorem setFrame_sec (s : State) (ptn fslot : Nat) (x : Frame) : (setFrame s ptn fslot x).sec = s.sec := rfl

/-! ## setPage -/

@[simp] theorem setPage_pending (s : State) (n : Nat) (pg : Page) : (setPage s n pg).pending = s.pending := rfl
@[simp] theorem setPage_out (s : State) (n : Nat) (pg : Page) : (setPage s n pg).out = s.out := rfl
@[simp] theorem setPage_freeCtr (s : State) (n : Nat) (pg : Page) : (setPage s n pg).freeCtr = s.freeCtr := rfl
@[simp] theorem setPage_regs (s : State) (n : Nat) (pg : Page) : (setPage s n pg).regs = s.regs := rfl
@[simp] theorem setPage_req (s : State) (n : Nat) (pg : Page) : (setPage s n pg).req = s.req := rfl
@[simp] theorem setPage_pwr (s : State) (n : Nat) (pg : Page) : (setPage s n pg).pwr = s.pwr := rfl
@[simp] theorem setPage_ports (s : State) (n : Nat) (pg : Page) : (setPage s n pg).ports = s.ports := rfl
@[simp] theorem setPage_rings (s : State) (n : Nat) (pg : Page) : (setPage s n pg).rings = s.rings := rfl
@[simp] theorem setPage_cmds (s : State) (n : Nat) (pg : Page) : (setPage s n pg).cmds = s.cmds := rfl
@[simp] theorem setPage_tabs (s : State) (n : Nat) (pg : Page) : (setPage s n pg).tabs = s.tabs := rfl
@[simp] theorem setPage_mapu (s : State) (n : Nat) (pg : Page) : (setPage s n pg).mapu = s.mapu := rfl
@[simp] theorem setPage_cist (s : State) (n : Nat) (pg : Page) : (setPage s n pg).cist = s.cist := rfl
@[simp] theorem setPage_cache (s : State) (n : Nat) (pg : Page) : (setPage s n pg).cache = s.cache := rfl
@[simp] theorem setPage_med (s : State) (n : Nat) (pg : Page) : (setPage s n pg).med = s.med := rfl
@[simp] theorem setPage_keys (s : State) (n : Nat) (pg : Page) : (setPage s n pg).keys = s.keys := rfl
@[simp] theorem setPage_wear (s : State) (n : Nat) (pg : Page) : (setPage s n pg).wear = s.wear := rfl
@[simp] theorem setPage_drift (s : State) (n : Nat) (pg : Page) : (setPage s n pg).drift = s.drift := rfl
@[simp] theorem setPage_pair (s : State) (n : Nat) (pg : Page) : (setPage s n pg).pair = s.pair := rfl
@[simp] theorem setPage_flt (s : State) (n : Nat) (pg : Page) : (setPage s n pg).flt = s.flt := rfl
@[simp] theorem setPage_ag (s : State) (n : Nat) (pg : Page) : (setPage s n pg).ag = s.ag := rfl
@[simp] theorem setPage_qz (s : State) (n : Nat) (pg : Page) : (setPage s n pg).qz = s.qz := rfl
@[simp] theorem setPage_zir (s : State) (n : Nat) (pg : Page) : (setPage s n pg).zir = s.zir := rfl
@[simp] theorem setPage_th (s : State) (n : Nat) (pg : Page) : (setPage s n pg).th = s.th := rfl
@[simp] theorem setPage_beryl (s : State) (n : Nat) (pg : Page) : (setPage s n pg).beryl = { s.beryl with image := sSet (factoryPage n) s.beryl.image n pg, dirty := sSet false s.beryl.dirty n true } := rfl
@[simp] theorem setPage_sec (s : State) (n : Nat) (pg : Page) : (setPage s n pg).sec = s.sec := rfl

/-! ## tick -/

@[simp] theorem tick_pending (s : State) : (tick s).pending = s.pending := rfl
@[simp] theorem tick_out (s : State) : (tick s).out = s.out := rfl
@[simp] theorem tick_freeCtr (s : State) : (tick s).freeCtr = s.freeCtr := rfl
@[simp] theorem tick_regs (s : State) : (tick s).regs = s.regs := rfl
@[simp] theorem tick_req (s : State) : (tick s).req = s.req := rfl
@[simp] theorem tick_pwr (s : State) : (tick s).pwr = { s.pwr with time := if s.pwr.st = .off then s.pwr.time else s.pwr.time + 10 } := rfl
@[simp] theorem tick_ports (s : State) : (tick s).ports = s.ports := rfl
@[simp] theorem tick_rings (s : State) : (tick s).rings = s.rings := rfl
@[simp] theorem tick_cmds (s : State) : (tick s).cmds = s.cmds := rfl
@[simp] theorem tick_tabs (s : State) : (tick s).tabs = s.tabs := rfl
@[simp] theorem tick_mapu (s : State) : (tick s).mapu = s.mapu := rfl
@[simp] theorem tick_cist (s : State) : (tick s).cist = s.cist := rfl
@[simp] theorem tick_cache (s : State) : (tick s).cache = s.cache := rfl
@[simp] theorem tick_med (s : State) : (tick s).med = s.med := rfl
@[simp] theorem tick_keys (s : State) : (tick s).keys = s.keys := rfl
@[simp] theorem tick_wear (s : State) : (tick s).wear = s.wear := rfl
@[simp] theorem tick_drift (s : State) : (tick s).drift = s.drift := rfl
@[simp] theorem tick_pair (s : State) : (tick s).pair = s.pair := rfl
@[simp] theorem tick_flt (s : State) : (tick s).flt = s.flt := rfl
@[simp] theorem tick_ag (s : State) : (tick s).ag = s.ag := rfl
@[simp] theorem tick_qz (s : State) : (tick s).qz = s.qz := rfl
@[simp] theorem tick_zir (s : State) : (tick s).zir = s.zir := rfl
@[simp] theorem tick_th (s : State) : (tick s).th = s.th := rfl
@[simp] theorem tick_beryl (s : State) : (tick s).beryl = s.beryl := rfl
@[simp] theorem tick_sec (s : State) : (tick s).sec = s.sec := rfl

/-! ## setWay -/

@[simp] theorem setWay_pending (s : State) (k : Nat) (w : WayT) : (setWay s k w).pending = s.pending := rfl
@[simp] theorem setWay_out (s : State) (k : Nat) (w : WayT) : (setWay s k w).out = s.out := rfl
@[simp] theorem setWay_freeCtr (s : State) (k : Nat) (w : WayT) : (setWay s k w).freeCtr = s.freeCtr := rfl
@[simp] theorem setWay_regs (s : State) (k : Nat) (w : WayT) : (setWay s k w).regs = s.regs := rfl
@[simp] theorem setWay_req (s : State) (k : Nat) (w : WayT) : (setWay s k w).req = s.req := rfl
@[simp] theorem setWay_pwr (s : State) (k : Nat) (w : WayT) : (setWay s k w).pwr = s.pwr := rfl
@[simp] theorem setWay_ports (s : State) (k : Nat) (w : WayT) : (setWay s k w).ports = s.ports := rfl
@[simp] theorem setWay_rings (s : State) (k : Nat) (w : WayT) : (setWay s k w).rings = s.rings := rfl
@[simp] theorem setWay_cmds (s : State) (k : Nat) (w : WayT) : (setWay s k w).cmds = s.cmds := rfl
@[simp] theorem setWay_tabs (s : State) (k : Nat) (w : WayT) : (setWay s k w).tabs = s.tabs := rfl
@[simp] theorem setWay_mapu (s : State) (k : Nat) (w : WayT) : (setWay s k w).mapu = s.mapu := rfl
@[simp] theorem setWay_cist (s : State) (k : Nat) (w : WayT) : (setWay s k w).cist = s.cist := rfl
@[simp] theorem setWay_cache (s : State) (k : Nat) (w : WayT) : (setWay s k w).cache = { s.cache with ways := sSet wayInit s.cache.ways k w } := rfl
@[simp] theorem setWay_med (s : State) (k : Nat) (w : WayT) : (setWay s k w).med = s.med := rfl
@[simp] theorem setWay_keys (s : State) (k : Nat) (w : WayT) : (setWay s k w).keys = s.keys := rfl
@[simp] theorem setWay_wear (s : State) (k : Nat) (w : WayT) : (setWay s k w).wear = s.wear := rfl
@[simp] theorem setWay_drift (s : State) (k : Nat) (w : WayT) : (setWay s k w).drift = s.drift := rfl
@[simp] theorem setWay_pair (s : State) (k : Nat) (w : WayT) : (setWay s k w).pair = s.pair := rfl
@[simp] theorem setWay_flt (s : State) (k : Nat) (w : WayT) : (setWay s k w).flt = s.flt := rfl
@[simp] theorem setWay_ag (s : State) (k : Nat) (w : WayT) : (setWay s k w).ag = s.ag := rfl
@[simp] theorem setWay_qz (s : State) (k : Nat) (w : WayT) : (setWay s k w).qz = s.qz := rfl
@[simp] theorem setWay_zir (s : State) (k : Nat) (w : WayT) : (setWay s k w).zir = s.zir := rfl
@[simp] theorem setWay_th (s : State) (k : Nat) (w : WayT) : (setWay s k w).th = s.th := rfl
@[simp] theorem setWay_beryl (s : State) (k : Nat) (w : WayT) : (setWay s k w).beryl = s.beryl := rfl
@[simp] theorem setWay_sec (s : State) (k : Nat) (w : WayT) : (setWay s k w).sec = s.sec := rfl

/-! ## Units after an update -/

@[simp] theorem portAt_modPort (s : State) (p : Nat) (f : PortSt → PortSt) (q : Nat) :
    portAt (modPort s p f) q = if p = q then f (portAt s p) else portAt s q := by
  simp [portAt, sGet_sMod]

@[simp] theorem ringAt_modRing (s : State) (p : Nat) (f : Ring → Ring) (q : Nat) :
    ringAt (modRing s p f) q = if p = q then f (ringAt s p) else ringAt s q := by
  simp [ringAt, sGet_sMod]

@[simp] theorem domAt_modDom (s : State) (d : Nat) (f : Dom → Dom) (e : Nat) :
    domAt (modDom s d f) e = if d = e then f (domAt s d) else domAt s e := by
  simp [domAt, sGet_sMod]

@[simp] theorem chanAt_modChan (s : State) (c : Nat) (f : Chan → Chan) (e : Nat) :
    chanAt (modChan s c f) e = if c = e then f (chanAt s c) else chanAt s e := by
  simp only [chanAt, modChan_drift, show chanDefault (modChan s c f) = chanDefault s from rfl, sGet_sMod]

@[simp] theorem sliceAt_modSlice (s : State) (n : Nat) (f : SliceT → SliceT) (m : Nat) :
    sliceAt (modSlice s n f) m = if n = m then f (sliceAt s n) else sliceAt s m := by
  simp [sliceAt, sGet_sMod]

/-- A frame reads as it was written, and every other frame as before. -/
theorem frameAt_setFrame (s : State) (ptn fslot : Nat) (x : Frame) (q f : Nat) :
    frameAt (setFrame s ptn fslot x) q f = if frameKey ptn fslot = frameKey q f then x else frameAt s q f := by
  simp [frameAt, sGet_sSet]

/-- Frames of frame slots below 256 have keys of their own. -/
theorem frameKey_inj {p f q g : Nat} (hf : f < 256) (hg : g < 256) : frameKey p f = frameKey q g ↔ p = q ∧ f = g := by
  simp only [frameKey]
  omega

/-- A page of the Beryl image reads as it was written, and every other page as before. -/
theorem pageAt_setPage (s : State) (n : Nat) (pg : Page) (k : Nat) : pageAt (setPage s n pg) k = if n = k then pg else pageAt s k := by
  by_cases h : n = k
  · subst h
    simp [pageAt]
  · simp only [pageAt, setPage_beryl, if_neg h]
    unfold sSet
    split
    · rw [sGet_sDel, if_neg h]
    · rw [sGet_sIns, if_neg h]

/-- Register slots have keys of their own. -/
theorem cellAt_setCell_same (s : State) (b : Blk) (i slot : Nat) (c : RegCell) : cellAt (setCell s b i slot c) b i slot = c := by
  simp [cellAt]

theorem cellAt_setCell_other (s : State) (b : Blk) (i slot : Nat) (c : RegCell) (b' : Blk) (i' slot' : Nat)
    (h : regKey b i slot ≠ regKey b' i' slot') : cellAt (setCell s b i slot c) b' i' slot' = cellAt s b' i' slot' := by
  simp only [cellAt, setCell_regs]
  unfold sSet
  split
  · rw [sGet_sDel, if_neg h]
  · rw [sGet_sIns, if_neg h]

end Sys2Proof.Machine
end

