-- ==== Sys2Proof/Laws/Read.lean ====
section
/-! SUPPORT. What the readers of State look at: a reader answers the same in two states that agree on that part. With the frame lemmas
these carry a hypothesis about a state over to the state after an operation. -/

namespace Sys2Proof.Machine

theorem now_congr {s t : State} (h : t.pwr = s.pwr) : now t = now s := by rw [now, now, h]
theorem domAt_congr {s t : State} (h : t.pwr = s.pwr) (d : Nat) : domAt t d = domAt s d := by rw [domAt, domAt, h]
theorem domOn_congr {s t : State} (h : t.pwr = s.pwr) (d : Nat) : domOn t d = domOn s d := by simp only [domOn, domAt_congr h, h]
theorem portAt_congr {s t : State} (h : t.ports = s.ports) (p : Nat) : portAt t p = portAt s p := by rw [portAt, portAt, h]
theorem ringAt_congr {s t : State} (h : t.rings = s.rings) (p : Nat) : ringAt t p = ringAt s p := by rw [ringAt, ringAt, h]
theorem sliceAt_congr {s t : State} (h : t.cache = s.cache) (n : Nat) : sliceAt t n = sliceAt s n := by rw [sliceAt, sliceAt, h]
theorem findWay_congr {s t : State} (h : t.cache = s.cache) (dln : Nat) : findWay t dln = findWay s dln := by rw [findWay, findWay, h]
theorem findCis_congr {s t : State} (h : t.cist = s.cist) (dln : Nat) : findCis t dln = findCis s dln := by rw [findCis, findCis, h]
theorem frameAt_congr {s t : State} (h : t.med = s.med) (p f : Nat) : frameAt t p f = frameAt s p f := by rw [frameAt, frameAt, h]
theorem lockHeld_congr {s t : State} (hm : t.med = s.med) (hc : t.cache = s.cache) (dln : Nat) : lockHeld t dln = lockHeld s dln := by
  rw [lockHeld, lockHeld, hm, hc]
theorem entryAt_congr {s t : State} (h : t.tabs = s.tabs) (ltn : Nat) : entryAt t ltn = entryAt s ltn := by rw [entryAt, entryAt, h]
theorem tileAt_congr {s t : State} (h : t.tabs = s.tabs) (ptn : Nat) : tileAt t ptn = tileAt s ptn := by rw [tileAt, tileAt, h]
theorem keyAt_congr {s t : State} (h : t.keys = s.keys) (k : Nat) : keyAt t k = keyAt s k := by rw [keyAt, keyAt, h]
theorem ledAt_congr {s t : State} (h : t.wear = s.wear) (ptn : Nat) : ledAt t ptn = ledAt s ptn := by rw [ledAt, ledAt, h]
theorem poolAt_congr {s t : State} (h : t.wear = s.wear) (die : Nat) : poolAt t die = poolAt s die := by rw [poolAt, poolAt, h]
theorem pageAt_congr {s t : State} (h : t.beryl = s.beryl) (n : Nat) : pageAt t n = pageAt s n := by rw [pageAt, pageAt, h]
theorem cellAt_congr {s t : State} (h : t.regs = s.regs) (b : Blk) (i slot : Nat) : cellAt t b i slot = cellAt s b i slot := by
  rw [cellAt, cellAt, h]
theorem regF_congr {s t : State} (h : t.regs = s.regs) (b : Blk) (i slot hi lo : Nat) : regF t b i slot hi lo = regF s b i slot hi lo := by
  rw [regF, regF, cellAt_congr h]
theorem regB_congr {s t : State} (h : t.regs = s.regs) (b : Blk) (i slot k : Nat) : regB t b i slot k = regB s b i slot k := by
  rw [regB, regB, cellAt_congr h]
theorem expertEn_congr {s t : State} (h : t.regs = s.regs) (k : Nat) : expertEn t k = expertEn s k := regB_congr h ..
theorem isArmed_congr {s t : State} (hp : t.pwr = s.pwr) (hr : t.req = s.req) (r : Nat) : isArmed t r = isArmed s r := by
  rw [isArmed, isArmed, now_congr hp, hr]
theorem chanAt_congr {s t : State} (hd : t.drift = s.drift) (hs : t.sec = s.sec) (c : Nat) : chanAt t c = chanAt s c := by
  simp only [chanAt, chanDefault, hd, hs]
theorem dieLive_congr {s t : State} (hd : t.drift = s.drift) (hs : t.sec = s.sec) (ix : Nat) : dieLive t ix = dieLive s ix := by
  simp only [dieLive, chanAt_congr hd hs]

/-! ## Register flags

Setting RC flags changes no active and no pending word, so no setting reads differently after it. -/

theorem cellAt_setRC (s : State) (b : Blk) (i slot m : Nat) (b' : Blk) (i' slot' : Nat) :
    (cellAt (setRC s b i slot m) b' i' slot').act = (cellAt s b' i' slot').act
      ∨ regKey b i slot = regKey b' i' slot' ∧ resetCell b slot ≠ resetCell b' slot' := by
  by_cases h : regKey b i slot = regKey b' i' slot'
  · by_cases e : resetCell b slot = resetCell b' slot'
    · left
      simp only [setRC, cellAt, setCell_regs, h, e, sGet_sSet_same]
    · exact .inr ⟨h, e⟩
  · left
    rw [setRC, cellAt_setCell_other _ _ _ _ _ _ _ _ h]

/-- A setting of the same block kind reads the same after any flag is set. -/
theorem regF_setRC_same (s : State) (b : Blk) (i slot m hi lo : Nat) : regF (setRC s b i slot m) b i slot hi lo = regF s b i slot hi lo := by
  simp [regF, setRC, cellAt_setCell_same]

theorem regF_setRC_other (s : State) (b : Blk) (i slot m : Nat) (b' : Blk) (i' slot' hi lo : Nat)
    (h : regKey b i slot ≠ regKey b' i' slot') : regF (setRC s b i slot m) b' i' slot' hi lo = regF s b' i' slot' hi lo := by
  simp only [regF, setRC, cellAt_setCell_other _ _ _ _ _ _ _ _ h]

/-! ## Completions and the unlock -/

/-- A completion raises the flag of a full completion ring and joins its port's ring (12 R368, R373). -/
theorem postCpl_port (s : State) (p : Nat) (hp : p < 4) (d : Desc) (status result : Nat) (bytes : List (BitVec 8)) :
    postCpl s p d status result bytes = modRing (flagCplFull s p) p (fun r => { r with wait := r.wait ++
      [{ tag := d.tag, status := status, opcode := d.opcode, result := (if status = 0 ∨ status = 0x0B then result else 0),
         noirq := d.noirq, vec := d.vec }] }) := by
  unfold postCpl
  rw [if_pos hp]

/-- Disarming one requester leaves the others armed as they were. -/
theorem isArmed_disarm (s : State) (r q : Nat) : isArmed (disarm s r) q = (if r = q then false else isArmed s q) := by
  unfold isArmed disarm now
  by_cases h : r = q
  · subst h
    simp
  · simp [h, sGet_sSet]

end Sys2Proof.Machine
end

