-- ==== Sys2Proof/Laws/Settle.lean ====
section
/-! SUPPORT. Where no ring command runs and no tile is being synced, letting every command go on changes nothing: most commands end by
that operation, and in such a state they are their own effect alone. -/

namespace Sys2Proof.Machine

open Sys2Proof.Safety

@[simp] theorem ackTile_idle (s : State) (h : s.pair.syncing = none) : ackTile s = s := by
  simp [ackTile, h]

/-- The state of the ring commands at reset waits for nothing. -/
theorem settleTasks_idle (s : State) (h : s.cmds = cmdsReset) : settleTasks s = s := by
  unfold settleTasks
  split
  · rfl
  · have e : setHold s = s := by
      cases s
      simp only at h
      subst h
      rfl
    rw [e]
    have t : s.cmds.tasks = [] := by rw [h]; rfl
    have z : sanitizeEnd s = s := by
      have : s.cmds.sanStep = 0 := by rw [h]; rfl
      unfold sanitizeEnd
      simp_all [cmdsReset]
    simp only [t, List.map_nil, List.foldl_nil, z, e]

/-- A key slot that no store lists as rotating is not. -/
theorem sGet_all {α : Type} (p : α → Bool) (d : α) (m : Store α) (k : Nat) (hd : p d = true) (h : m.all (fun x => p x.2) = true) :
    p (sGet d m k) = true := by
  induction m with
  | nil => exact hd
  | cons x m ih =>
    obtain ⟨j, v⟩ := x
    simp only [List.all_cons, Bool.and_eq_true] at h
    unfold sGet
    split
    · exact h.1
    · exact ih h.2

/-- No rotation under way: none ends. -/
theorem endRotations_idle (s : State) (h : s.keys.slots.all (fun x => !x.2.rotating) = true) : endRotations s = s := by
  have e : ∀ i w, endRotation s i w = s := by
    intro i w
    have r : (!(keyAt s w.key).rotating) = true := sGet_all (fun x => !x.rotating) keyInit s.keys.slots w.key (by decide) h
    unfold endRotation
    simp_all
  have : ∀ l : List (Nat × Well), l.foldl (fun s x => endRotation s x.1 x.2) s = s := by
    intro l
    induction l with
    | nil => rfl
    | cons x l ih => simp only [List.foldl_cons, e, ih]
  exact this _

/-- Nothing goes on. -/
theorem settle_idle (s : State) (h : Quiescent s) : settle s = s := by
  unfold settle
  split
  · rfl
  · rw [ackTile_idle s h.2.1, settleTasks_idle s h.1]
    have r : s.cmds.run = [] := by rw [h.1]; rfl
    simp only [r, List.foldl_nil]
    exact endRotations_idle s h.2.2

end Sys2Proof.Machine
end

