-- ==== Sys2Proof/Machine/Flit.lean ====
section
/-! DEFINITION. A Spinel flit bit by bit (10 R311, R312, R315 to R318): message slots, flit header, CRC-32 and forward error correction. The state keeps
the messages themselves (`Msg`); these functions give the bits that stand for them on the link. -/

namespace Sys2Proof.Machine

/-! ## GF(2^8) (10 R311) -/

/-- Multiply by α in GF(2^8) with x^8 + x^4 + x^3 + x^2 + 1. -/
def g8X (a : Nat) : Nat := if 128 ≤ a then (2 * a) ^^^ 0x11D else 2 * a

/-- α^j times a field element. -/
def g8Shift (a : Nat) : Nat → Nat
  | 0 => a
  | j + 1 => g8X (g8Shift a j)

/-- Bytes as the coefficients of a polynomial, the first one highest, at α^j (log entry 86). -/
def g8At (j : Nat) (bs : List Nat) : Nat := bs.foldl (fun r b => g8Shift r j ^^^ b) 0

/-- One step of the division by (x − α^0)(x − α^1) = x^2 + 3x + 2: the remainder, high coefficient first, takes in the next byte. -/
def fecStep (r : Nat × Nat) (b : Nat) : Nat × Nat :=
  let f := b ^^^ r.1
  (r.2 ^^^ g8X f ^^^ f, g8X f)

/-- The two check bytes of a way. -/
def fecCheck (bs : List Nat) : Nat × Nat := bs.foldl fecStep (0, 0)

/-- The bytes of a way among the first 250: those at i with i mod 3 = w. -/
def wayBytes (x w : Nat) : List Nat := ((List.range 250).filter (fun i => decide (i % 3 = w))).map (fun i => bitsOf x (8 * i + 7) (8 * i))

/-- A flit with the check bytes of its first 250 bytes. -/
def withFec (x : Nat) : Nat :=
  x % 2 ^ 2000 + sumOf (fun w => let c := fecCheck (wayBytes x w)
    c.1 * 2 ^ (8 * (250 + w)) + c.2 * 2 ^ (8 * (253 + w))) [0, 1, 2]

/-- The places of a way in a flit, in the order of its codeword. -/
def wayPlaces (w : Nat) : List Nat := (List.range 250).filter (fun i => decide (i % 3 = w)) ++ [250 + w, 253 + w]

/-- Correct one byte of a way: with syndromes S0 and S1 the error S0 lies where S1 = S0 × α^k, k places before the end. -/
def fixWay (x w : Nat) : Nat :=
  let ps := wayPlaces w
  let bs := ps.map (fun i => bitsOf x (8 * i + 7) (8 * i))
  let s0 := g8At 0 bs
  let s1 := g8At 1 bs
  match (List.range ps.length).find? (fun k => decide (g8Shift s0 k = s1)) with
  | some k => if s0 = 0 then x else x ^^^ (s0 * 2 ^ (8 * nth 0 ps (ps.length - 1 - k)))
  | none => x

/-- A received flit after correction. -/
def fecFix (x : Nat) : Nat := [0, 1, 2].foldl fixWay x

/-- Whether a flit passes its CRC-32 after correction (10 R311, R313). -/
def flitOk (x : Nat) : Bool :=
  let y := fecFix x
  decide (bitsOf y 1999 1968 = crc32 (y % 2 ^ 1968) 1968)

/-! ## Message slots (10 R316, R317) -/

/-- The header of a message slot. -/
structure SlotHead where
  type : Nat
  op : Nat
  mtag : Nat
  p : Bool
  pcause : Nat
  port : Nat
  dln : Nat
  /-- bits 127:71 -/
  spec : Nat
deriving DecidableEq, Repr

/-- A header with nothing in it but its type and operation. -/
def headOf (type op : Nat) : SlotHead := { type := type, op := op, mtag := 0, p := false, pcause := 0, port := 0, dln := 0, spec := 0 }

/-- The 640 bits of a slot: header and data. -/
def slotBits (h : SlotHead) (data : Nat) : Nat :=
  h.type % 16 + h.op % 16 * 2 ^ 4 + h.mtag % 2 ^ 16 * 2 ^ 8 + b2n h.p * 2 ^ 24 + (if h.p then h.pcause % 4 else 0) * 2 ^ 25 + h.port % 4 * 2 ^ 28
    + h.dln % 2 ^ 39 * 2 ^ 32 + h.spec % 2 ^ 57 * 2 ^ 71 + data % 2 ^ 512 * 2 ^ 128

/-- The data area of a HEARTBEAT (10 R318). -/
def hbBits (h : HbInfo) : Nat :=
  h.time % 2 ^ 64 + h.epoch % 2 ^ 40 * 2 ^ 64 + h.role % 8 * 2 ^ 104 + b2n h.seat * 2 ^ 107 + b2n h.warm * 2 ^ 108 + h.fill % 2 ^ 20 * 2 ^ 128
    + h.drate % 2 ^ 20 * 2 ^ 148 + h.hseq % 2 ^ 32 * 2 ^ 168 + h.remain % 2 ^ 20 * 2 ^ 200 + h.size % 2 ^ 20 * 2 ^ 220 + h.wact % 64 * 2 ^ 240

/-- CLASS of an ENTRY and CAUSE of a PROMOTE_NOTE. -/
def classCode (c : TileClass) : Nat :=
  match c with
  | .unwritten => 0 | .data => 1 | .const => 2 | .lost => 3
def noteCode (c : NoteCause) : Nat :=
  match c with
  | .leave => 0 | .drain => 1 | .thermal => 2

/-- Items of `w` bits, the first one lowest. -/
def itemBits (w : Nat) (xs : List Nat) : Nat := sumOf (fun i => nth 0 xs i % 2 ^ w * 2 ^ (w * i)) (List.range xs.length)

/-- An in-use range. -/
def rangeBits (r : Nat × Nat) : Nat := r.1 % 2 ^ 31 + (r.2 - 1) % 2 ^ 31 * 2 ^ 31 + 2 ^ 63

/-- The slots of a message: one, and for a WR_PART the EXT slot after it. -/
def msgSlots (m : Msg) : List Nat :=
  match m with
  | .mirrorWrite mtag p pc port dln ftag waited d =>
    [slotBits { headOf 1 (b2n ftag.isSome) with mtag := mtag, p := p, pcause := pc.toNat, port := port.val, dln := dln
                                                spec := if ftag.isSome then ftag.getD 0 % 2 ^ 16 + b2n waited * 2 ^ 16 else 0 } d.toNat]
  | .mirrorAck ts => [slotBits { headOf 2 0 with mtag := ts.headD 0, spec := (ts.drop 1).length % 64 } (itemBits 16 (ts.drop 1))]
  | .fwdFull mtag port dln p d => [slotBits { headOf 3 0 with mtag := mtag, p := p, port := port.val, dln := dln } d.toNat]
  | .fwdPart mtag port dln p be d =>
    [slotBits { headOf 3 1 with mtag := mtag, p := p, port := port.val, dln := dln } d.toNat, slotBits (headOf 0xA 0) be.toNat]
  | .fwdRd mtag port dln => [slotBits { headOf 3 2 with mtag := mtag, port := port.val, dln := dln } 0]
  | .fwdRdData mtag ue p d => [slotBits { headOf 3 3 with mtag := mtag, p := p, spec := b2n ue } d.toNat]
  | .fwdRefuse mtag dln => [slotBits { headOf 3 4 with mtag := mtag, dln := dln } 0]
  | .stateCmd mtag q desc => [slotBits { headOf 4 0 with mtag := mtag, spec := q.getD 0 % 2 ^ 40 } desc.toNat]
  | .stateTile mtag ltn q => [slotBits { headOf 4 1 with mtag := mtag, spec := ltn % 2 ^ 31 + q % 2 ^ 26 * 2 ^ 31 } 0]
  | .stateDone q st => [slotBits { headOf 4 2 with spec := q % 2 ^ 40 + st % 2 ^ 8 * 2 ^ 40 } 0]
  | .heartbeat h => [slotBits (headOf 5 0) (hbBits h)]
  | .entry mtag ltn c pat =>
    [slotBits { headOf 6 0 with mtag := mtag, spec := ltn % 2 ^ 31 + classCode c * 2 ^ 31 } (if c = .const then pat.toNat else 0)]
  | .line dln p pc d => [slotBits { headOf 6 1 with dln := dln, p := p, pcause := pc.toNat } d.toNat]
  | .tileEnd ltn n => [slotBits { headOf 6 2 with spec := ltn % 2 ^ 31 + n % 2 ^ 9 * 2 ^ 31 } 0]
  | .tileAck ltn => [slotBits { headOf 6 3 with spec := ltn % 2 ^ 31 } 0]
  | .lineReq mtag dln => [slotBits { headOf 6 4 with mtag := mtag, dln := dln } 0]
  | .lineRsp mtag dln ok p pc d =>
    [slotBits { headOf 6 5 with mtag := mtag, dln := dln, p := p, pcause := pc.toNat, spec := b2n ok } d.toNat]
  | .doneReq => [slotBits (headOf 7 0) 0]
  | .doneAck => [slotBits (headOf 7 1) 0]
  | .doneSwitch => [slotBits (headOf 7 2) 0]
  | .agateCopy rs => [slotBits { headOf 8 0 with spec := rs.length % 4 } (itemBits 256 (rs.map agBits))]
  | .promoteNote c => [slotBits { headOf 9 0 with spec := noteCode c } 0]
  | .joinPage k d => [slotBits { headOf 0xB 0 with spec := k % 4 } d.toNat]
  | .joinOpen i ls => [slotBits { headOf 0xB 1 with spec := i % 2 ^ 7 } (itemBits 32 ls)]
  | .joinWells i ws => [slotBits { headOf 0xB 2 with spec := i % 8 } (itemBits 64 (ws.map wellVal))]
  | .joinInuse rs => [slotBits (headOf 0xB 3) (itemBits 64 (rs.map rangeBits))]
  | .joinEnd l n => [slotBits { headOf 0xB 4 with spec := l % 4 + n % 2 ^ 32 * 2 ^ 2 } 0]

/-! ## Flits (10 R311, R312) -/

/-- The flit header. -/
structure FlitHead where
  fseq : Nat
  ackseq : Nat
  nak : Bool
  idle : Bool
  mir : Nat
  req : Nat
  bulk : Nat
deriving DecidableEq, Repr

def flitHeadBits (h : FlitHead) : Nat :=
  h.fseq % 1024 + h.ackseq % 1024 * 2 ^ 10 + b2n h.nak * 2 ^ 20 + b2n h.idle * 2 ^ 21 + h.mir % 256 * 2 ^ 22 + h.req % 256 * 2 ^ 30 + h.bulk % 256 * 2 ^ 38

/-- The 256 bytes of a flit, byte i in bits 8i to 8i + 7: up to three slots, an empty one reading zero, the header, CRC-32 over bytes 0 to 245, and the
check bytes. -/
def flitBits (slots : List Nat) (h : FlitHead) : BitVec 2048 :=
  let x := itemBits 640 (slots.take 3) + flitHeadBits h * 2 ^ 1920
  BitVec.ofNat 2048 (withFec (x + crc32 x 1968 * 2 ^ 1968))

/-- The flit of one message of this module (log entry 15). -/
def msgFlit (s : State) (q : Nat) (m : Msg) : BitVec 2048 :=
  flitBits (msgSlots m) { fseq := q, ackseq := s.pair.rxSeq, nak := false, idle := false, mir := s.pair.owedMir, req := s.pair.owedReq, bulk := s.pair.owedBulk }

end Sys2Proof.Machine
end

