-- ==== Sys2Proof/Tests/States.lean ====
section
/-! SUPPORT. Small states for the tests and for the witnesses of the statements' hypotheses. -/

namespace Sys2Proof.Tests

open Sys2Proof Sys2Proof.Machine Sys2Proof.Safety

/-- Every switched domain on. -/
def allOn : Store Dom := (List.range 79).map (fun d => (d + 1, { domInit with st := 2 }))

/-- A trained port with one decoder over the first TiB. -/
def portUp : PortSt :=
  { portInit with
    linkUp := true
    memActive := true
    width := 8
    rate := 3
    hdm := [(0, { committed := true, base := 0, size := 2 ^ 40, ways := 1, gran := 256, dpaBase := 0 })] }

/-- A well of 1 GiB at 0, owned by every port. -/
def well0 : Well := { wellInit with live := true, size := 4, mask := 0xF, shared := true, key := 3 }

/-- A module in SERVICE, unpaired, with one well, its first map page resident and its rings enabled. -/
def svc : State :=
  { State.reset with
    pwr := { pwrReset with st := .service, time := 10 ^ 12, mainOn := true, auxOn := true, vinMv := 12000, doms := allOn, perst := 0, bootStep := 7,
                           vbankMv := 35000 }
    ports := [(0, portUp), (1, portUp), (2, portUp), (3, portUp)]
    rings := [(0, { ringInit with enabled := true }), (1, { ringInit with enabled := true }), (2, { ringInit with enabled := true }),
              (3, { ringInit with enabled := true })]
    tabs := { tablesInit with wells := [(0, well0)] }
    mapu := { mapReset with resident := [(0, true)], ckptAt := 10 ^ 12, ctrLimit := 2 ^ 32 } }

/-- The same with the always-on state of other power states. -/
def inState (x : PState) (k : Nat) : State := { svc with pwr := { svc.pwr with st := x, bootStep := k } }

def stby : State :=
  { State.reset with
    pwr := { pwrReset with st := .standby, time := 10 ^ 12, auxOn := true }
    beryl := { berylReset with restored := true } }

/-- Paired, as seat A, with credits. -/
def psvc : State :=
  { svc with pair := { svc.pair with role := .paired, home := .bySeat, linkUp := true, mir := 8, req := 8, bulk := 8, witOk := true } }

/-- Paired, as seat A, resynchronising. -/
def rsvc : State := { psvc with pair := { psvc.pair with role := .resync, syncSrc := true } }

/-- A valid line of the cache. -/
def wayOf (dln : Nat) (d : Bool) : WayT := setD { wayInit with v := true, dk := d, dln := dln, data := 5 } d

/-- One line of the cache, in way 0 of its set. -/
def withLine (s : State) (dln : Nat) (d : Bool) : State :=
  { s with cache := { s.cache with ways := [(wayKey (sliceOf s.cache dln) (setOf dln) 0, wayOf dln d)] } }

/-- The map entry of tile 0: mapped to the first tile of die 0 that holds lines. -/
def mapped0 : MapEntry := { entryInit with st := .mapped, ptn := 64, gen := 1 }

/-- Tile 0 mapped. -/
def withTile (s : State) : State := { s with tabs := { s.tabs with map := [(0, mapped0)], tile := [(64, 1)] } }

/-- A descriptor. -/
def mkDesc (op arg0 addr0 addr1 len arg1 : Nat) : BitVec 512 :=
  BitVec.ofNat 512 (op + arg0 * 2 ^ 32 + addr0 * 2 ^ 64 + addr1 * 2 ^ 128 + len * 2 ^ 192 + arg1 * 2 ^ 256)

/-- A fetched descriptor that has not started. -/
def fresh (src : Nat) (d : BitVec 512) : Running :=
  { src := src, desc := d, payload := [], started := false, ord := 0, prog := 0, waitJ := none, waitLines := [], sseq := none, waitStore := none,
    status := 0, result := 0 }

/-- It is the one descriptor that runs. -/
def running (s : State) (r : Running) : State := { s with cmds := { cmdsReset with run := [r] } }

/-- The unlock of a requester armed. -/
def armed (s : State) (r : Nat) : State := { s with req := { s.req with armed := sSet 0 s.req.armed r (now s + 100000001) } }

/-- A cache with as many dirty lines of die 0 as the stop level allows. -/
def crowded : State :=
  { withTile svc with
    cist := { svc.cist with dirtyLim := 0 }
    cache := { svc.cache with ways := (List.range 1024).map (fun i => (i, { wayOf 0 true with dln := i })) } }

/-- A module of which a checkpoint has been asked. -/
def asked : State := { svc with mapu := { svc.mapu with ckptReq := true } }

/-- A module with one live die, in channel 1, at boot step 5. -/
def atReplay : State :=
  { svc with
    pwr := { svc.pwr with st := .boot, bootStep := 5 }
    drift := { svc.drift with chans := (List.range 32).map (fun c => (c, { chanInit with live := if c = 1 then 1 else 0, retired := decide (c ≠ 1) })) } }

/-- The same with an empty medium. -/
def atReplayBare : State := { atReplay with med := { atReplay.med with frames := [] } }


/-- A record of the Agate log. -/
def agX : AgRec :=
  { seq := 5, time := 10 ^ 12, source := 16, cls := 2, repeats := 1, code := 0x201, urgent := false, peer := false, arg0 := 1, arg1 := 2, arg2 := 3 }

/-- The slice of a line as an index. -/
def sliceFin (s : State) (d : Nat) : Slice := ⟨sliceOf s.cache d % 8, Nat.mod_lt _ (by decide)⟩

/-- Counters that all stand at 15 are all counted. -/
theorem countP_full (n : Nat) : countP (fun x : Nat × Nat => decide (x.2 = 15)) (List.replicate n (0, 15)) = n := by
  induction n with
  | zero => rfl
  | succ n ih =>
    simp only [List.replicate_succ, countP, decide_true, b2n, ih, if_true]
    omega

/-- A filter with more than 65,536 counters at 15. -/
theorem full_filter : 65536 < fullCounters { svc with cist := { svc.cist with filter := List.replicate 65537 (0, 15) } } := by
  simp only [fullCounters, countP_full]
  decide

end Sys2Proof.Tests
end

