-- ==== Sys2Proof/Tests/BootRead.lean ====
section
/-! SUPPORT. A module that starts with the anchor it was delivered with, and one with no anchor: what the scan and the walk of the journal find, for
the witnesses of BootEndsInService. The draws of the ledger are free values, so the senses are followed by lemmas and not by evaluation. -/

namespace Sys2Proof.Tests

open Sys2Proof Sys2Proof.Machine

/-- `t` has the medium, the power state and the stores of `s`. -/
def Agrees (s t : State) : Prop := t.med = s.med ∧ t.pwr = s.pwr ∧ t.sec = s.sec ∧ t.beryl = s.beryl ∧ t.keys = s.keys

theorem agrees_refl (s : State) : Agrees s s := ⟨rfl, rfl, rfl, rfl, rfl⟩

/-- What a sense of a frame with nothing wrong shows. -/
def seen (s : State) (p l : Nat) : Sensed := senseFrame s p l cleanRes false

/-- It is a line without errors, or nothing. -/
def fine (f : Sensed) : Bool :=
  match f with
  | .never | .line _ _ _ 0 => true
  | .line .. | .interrupted | .wZero | .tagFault | .uncorr | .again => false

theorem seen_same {s t : State} (h : t.med = s.med) (p l : Nat) : seen t p l = seen s p l := by
  have e : frameAt t p l = frameAt s p l := by rw [frameAt, frameAt, h]
  simp [seen, e, senseFrame, decodeFrame, cleanRes]

/-- A sense that shows a line without errors, or nothing, disturbs nothing but the ledger and the counts. -/
theorem senseMetaAs_fine {s t : State} (h : Agrees s t) (p l src : Nat) (own : Bool) (a : Attr)
    (hc : scrambledRes (frameAt s p l) own cleanRes = cleanRes) (hf : fine (seen s p l) = true) :
    ∃ u, senseMetaAs t p l own (cleanRes, cleanRes) src a = (u, seen s p l, false) ∧ Agrees s u := by
  have e : frameAt t p l = frameAt s p l := by rw [frameAt, frameAt, h.1]
  have hs := seen_same h.1 p l
  have ht : senseTwice t p l cleanRes cleanRes = (seen s p l, false) := by
    unfold senseTwice
    rw [show senseFrame t p l cleanRes false = seen s p l from hs]
    cases hq : seen s p l <;> simp_all [fine]
  obtain ⟨h1, h2, h3, h4, h5⟩ := h
  simp only [senseMetaAs, senseBoth, e, hc, ht]
  refine ⟨_, rfl, ?_⟩
  cases hq : seen s p l with
  | never => simp_all [account, Agrees, bump]
  | line d po pc n =>
    have hn : n = 0 := by
      rw [hq] at hf
      cases n with
      | zero => rfl
      | succ n => simp [fine] at hf
    subst hn
    simp_all [account, Agrees, bump]
  | interrupted => rw [hq] at hf; simp [fine] at hf
  | wZero => rw [hq] at hf; simp [fine] at hf
  | tagFault => rw [hq] at hf; simp [fine] at hf
  | uncorr => rw [hq] at hf; simp [fine] at hf
  | again => rw [hq] at hf; simp [fine] at hf

/-! ## The scan for the anchor -/

/-- What the scan keeps of a frame that shows `f`. -/
def pick (v : Variant) (o : Option AnchorF) (f : Sensed) : Option AnchorF :=
  match f with
  | .line d .. => if ((anchorFrom d).y16 == decide (v = .y16)) && (match o with
      | some b => decide (b.aseq < (anchorFrom d).aseq)
      | none => true) then some (anchorFrom d) else o
  | .never | .interrupted | .wZero | .tagFault | .uncorr | .again => o

/-- A frame that the scan can follow: not scrambled or not written, and fine. -/
def clear (s : State) (fr : Nat × Nat) : Bool :=
  decide (scrambledRes (frameAt s fr.1 fr.2) (frameAt s fr.1 fr.2).key.isNone cleanRes = cleanRes) && fine (seen s fr.1 fr.2)

theorem resOf_nil (k : Nat) : resOf [] k = (cleanRes, cleanRes) := rfl

theorem scan_fold (s : State) : ∀ (l : List (Nat × Nat)) (t : State) (o : Option AnchorF), Agrees s t → l.all (clear s) = true →
    ∃ u, l.foldl (scanAnchor []) (t, o) = (u, l.foldl (fun o fr => pick s.sec.variant o (seen s fr.1 fr.2)) o) ∧ Agrees s u
  | [], t, o, h, _ => ⟨t, rfl, h⟩
  | fr :: l, t, o, h, ha => by
    simp only [List.all_cons, Bool.and_eq_true, clear, decide_eq_true_eq] at ha
    have e : frameAt t fr.1 fr.2 = frameAt s fr.1 fr.2 := by rw [frameAt, frameAt, h.1]
    obtain ⟨u, hu, hA⟩ := senseMetaAs_fine h fr.1 fr.2 0 (frameAt s fr.1 fr.2).key.isNone attrMeta ha.1.1 ha.1.2
    have hx : scanAnchor [] (t, o) fr = (u, pick s.sec.variant o (seen s fr.1 fr.2)) := by
      simp only [scanAnchor, resOf_nil, e, hu]
      rw [hA.2.2.1]
      cases seen s fr.1 fr.2 <;> rfl
    obtain ⟨w, hw, hB⟩ := scan_fold s l u (pick s.sec.variant o (seen s fr.1 fr.2)) hA ha.2
    exact ⟨w, by rw [List.foldl_cons, hx, hw, List.foldl_cons], hB⟩

/-! ## The walk of a journal that holds nothing -/

/-- No frame of a tile was ever written. -/
def empty (s : State) (p : Nat) : Bool := (List.range 256).all (fun l => decide ((frameAt s p l).marker = .blank))

theorem readJLine_empty {s t : State} (h : Agrees s t) (p m l : Nat) (hb : (frameAt s p l).marker = .blank) :
    ∃ u, readJLine t p m l [] = (u, none) ∧ Agrees s u := by
  have hn : seen s p l = .never := by simp [seen, senseFrame, hb, cleanRes]
  obtain ⟨u, hu, hA⟩ := senseMetaAs_fine h p l 0 (metaOwn t (frameAt t p l) m) attrMeta (by simp [scrambledRes, hb]) (by rw [hn]; rfl)
  refine ⟨u, ?_, hA⟩
  simp only [readJLine, senseMeta, resOf_nil, hu, hn]

theorem laterValid_empty {s : State} {p : Nat} (he : empty s p = true) (m : Nat) :
    ∀ (n l : Nat) (t : State), l + n ≤ 256 → Agrees s t → ∃ u, laterValid p m [] n l t = (u, false) ∧ Agrees s u
  | 0, l, t, _, h => ⟨t, rfl, h⟩
  | n + 1, l, t, hl, h => by
    have hb : (frameAt s p l).marker = .blank := by
      have := List.all_eq_true.1 he l (by simp; omega)
      exact of_decide_eq_true this
    obtain ⟨u, hu, hA⟩ := readJLine_empty h p m l hb
    obtain ⟨w, hw, hB⟩ := laterValid_empty he m n (l + 1) u (by omega) hA
    exact ⟨w, by simp only [laterValid, hu, hw], hB⟩

theorem walk_empty {s t : State} (h : Agrees s t) (a : AnchorF) (nodes : List (Nat × Nat × Nat)) (x : Loaded) (he : empty s (locPtn a.jtile) = true)
    (hl : a.jline < 256) : ∃ w, walkJournal { s := t, nodes := nodes, x := x, bad := none } a [] = w ∧ w.broken = false ∧ w.lost = []
      ∧ (nextOf w []).1.pwr = s.pwr := by
  have blank (l : Nat) (hb : l < 256) : (frameAt s (locPtn a.jtile) l).marker = .blank :=
    of_decide_eq_true (List.all_eq_true.1 he l (by simpa using hb))
  obtain ⟨u, hu, hA⟩ := readJLine_empty h _ (locMseq a.jtile) a.jline (blank _ hl)
  obtain ⟨v, hv, hB⟩ := laterValid_empty he (locMseq a.jtile) (255 - a.jline) (a.jline + 1) u (by omega) hA
  obtain ⟨y, hy, hC⟩ := readJLine_empty hB _ (locMseq a.jtile) 0 (blank 0 (by omega))
  obtain ⟨z, hz, hD⟩ := readJLine_empty hC _ (locMseq a.jtile) 0 (blank 0 (by omega))
  refine ⟨_, rfl, ?_, ?_, ?_⟩ <;>
    simp [walkJournal, walkAll, walkStep, hu, hv, hy, Nat.ne_of_lt hl, nextOf, hz, hD.2.1]

/-! ## The witnesses -/

/-- Boot step 6. -/
def atSix (s : State) : State := { s with pwr := { s.pwr with bootStep := 6 } }

/-- Boot step 6 of a module with an empty medium finds no anchor. -/
theorem bare_scan : ∃ s1, findAnchor (atSix atReplayBare) [] = (s1, none) := by
  obtain ⟨u, hu, _⟩ := scan_fold (atSix atReplayBare) _ _ none (agrees_refl _)
    (by decide +kernel : (anchorFrames (atSix atReplayBare)).all _ = true)
  have ha : List.foldl (fun o fr => pick (atSix atReplayBare).sec.variant o (seen (atSix atReplayBare) fr.1 fr.2)) none
      (anchorFrames (atSix atReplayBare)) = none := by decide +kernel
  exact ⟨u, by rw [findAnchor, hu, ha]⟩

/-- Boot step 6 of a module as it is delivered finds its anchor, an empty tree and an empty journal. -/
theorem born_scan : ∃ s1 a w, findAnchor (atSix atReplay) [] = (s1, some a)
    ∧ (∃ k < 64, s1.beryl.defaulted.contains (pgKeys + k) = false) ∧ (∀ k < 64, sanRun s1 k = false) ∧ (readTree [] s1 a.root).bad = none
    ∧ w = walkJournal (readTree [] s1 a.root) a [] ∧ w.broken = false ∧ w.lost = [] ∧ (nextOf w []).1.pwr.st = .boot
    ∧ (nextOf w []).1.pwr.bootStep = 6 := by
  obtain ⟨u, hu, hA⟩ := scan_fold (atSix atReplay) _ _ none (agrees_refl _)
    (by decide +kernel : (anchorFrames (atSix atReplay)).all _ = true)
  have ha : List.foldl (fun o fr => pick (atSix atReplay).sec.variant o (seen (atSix atReplay) fr.1 fr.2)) none
      (anchorFrames (atSix atReplay)) = some (anchorFrom (anchorBorn .y32)) := by decide +kernel
  have hr : (anchorFrom (anchorBorn .y32)).root = 0 := by decide +kernel
  have ht : readTree [] u 0 = { s := u, nodes := [], x := { tabs := tablesInit, led := [], pageSeq := [] }, bad := none } := rfl
  obtain ⟨w, hw, h1, h2, h3⟩ := walk_empty hA (anchorFrom (anchorBorn .y32)) [] { tabs := tablesInit, led := [], pageSeq := [] }
    (by decide +kernel) (by decide +kernel)
  refine ⟨u, anchorFrom (anchorBorn .y32), w, ?_, ?_, ?_, ?_, ?_, h1, h2, ?_, ?_⟩
  · rw [findAnchor, hu, ha]
  · refine ⟨0, by decide, ?_⟩
    rw [hA.2.2.2.1]
    decide +kernel
  · have : ∀ k, sanRun u k = sanRun (atSix atReplay) k := fun k => by
      rw [sanRun, sanRun, pageAt_congr hA.2.2.2.1]
    intro k hk
    rw [this]
    exact (by decide +kernel : ∀ k < 64, sanRun (atSix atReplay) k = false) k hk
  · rw [hr, ht]
  · rw [hr, ht, hw]
  · rw [h3]; rfl
  · rw [h3]; rfl

end Sys2Proof.Tests
end

