-- ==== Sys2Proof/Tests/Encodings.lean ====
section
/-! SUPPORT. The encodings of the medium and of the link against what their rules say of them: a codeword whose syndromes vanish (06 R188, R189),
the correction of a byte in each way of a flit (10 R311) and the fields of an anchor (07 R210). -/

namespace Sys2Proof.Tests

open Sys2Proof Sys2Proof.Machine

/-- A frame as it is encoded for PTN 0x0AC95C2F5, frame slot 7. -/
def someFrame : Nat := encodeFrame (0x123456789 * 2 ^ 300 + 0xABC) (flagByte true false 5 0) (tagOf 0x0AC95C2F5 7)

/-- The twelve syndromes of an encoded frame vanish. -/
theorem test_syndromes : (syndromes someFrame 0x0AC95C2F5 7).all (fun x => x == 0) = true := by decide +kernel

/-- One wrong byte in each way of a flit is corrected. -/
theorem test_flit_correction : fecFix (withFec 0x123456789 ^^^ (0xFF * 2 ^ 8 + 0x11 * 2 ^ 88)) = withFec 0x123456789 := by decide +kernel

/-- What an anchor holds is read back. -/
theorem test_anchor : anchorFrom (anchorLine 9 8 (locator 70 3) 1234 (locator 71 4) 17 (2 ^ 33) .y16)
    = { aseq := 9, ckptNo := 8, root := locator 70 3, replay := 1234, jtile := locator 71 4, jline := 17, ctrLimit := 2 ^ 33, y16 := true } := by
  decide +kernel

end Sys2Proof.Tests
end

