-- ==== Sys2Proof/WellFormed.lean ====
section
/-! DEFINITION. Which commands a sender can form: the operand ranges that the manual fixes for both variants (02 R32, 06 R165, 07 R206,
10 R304 to R338, 11 R340, 13 R402, 14 R434, 16 R469). A command outside them still has a meaning; no sender can form it. -/

namespace Sys2Proof

/-- A DPA of the largest variant (02 R32). -/
def wfDpa (x : Nat) : Bool := decide (x < 2 ^ 45)
/-- A DLN (02 R32). -/
def wfDln (x : Nat) : Bool := decide (x < 2 ^ 39)
/-- An LTN (02 R32). -/
def wfLtn (x : Nat) : Bool := decide (x < 2 ^ 31)
/-- A map page (07 R206). -/
def wfPage (x : Nat) : Bool := decide (x < 2 ^ 20)
/-- A die index, channel × 8 + die (06 R165). -/
def wfDie (x : Nat) : Bool := decide (x < 256) && decide (x % 8 < 6)
/-- A physical tile (06 R165). -/
def wfPtn (x : Nat) : Bool := decide (x < 2 ^ 32) && wfDie (x / 2 ^ 24)
/-- A host tag: 16 bits (11 R342). -/
def wfTag (x : Nat) : Bool := decide (x < 2 ^ 16)
/-- A message tag MTAG: 16 bits (10 R304). -/
def wfMtag (x : Nat) : Bool := decide (x < 2 ^ 16)
/-- A host physical address: 52 bits (11 R340). -/
def wfHpa (x : Nat) : Bool := decide (x < 2 ^ 52)
/-- A register access of 4 or 8 bytes, aligned to its size (13 R402). -/
def wfAccess (off : BitVec 20) (size : Nat) : Bool := (size == 4 || size == 8) && off.toNat % size == 0

/-- An HDM decoder setting a host may commit: the interleaves and granularities of the manual (11 R340, R345). -/
def Hdm.wf (d : Hdm) : Bool :=
  [1, 2, 3, 4, 6, 8, 12, 16].contains d.ways && [256, 512, 1024, 2048, 4096, 8192, 16384].contains d.gran && wfHpa d.base

/-- A record whose fields fit their widths (14 R434). -/
def AgRec.wf (r : AgRec) : Bool :=
  decide (r.seq < 2 ^ 40) && decide (r.repeats < 2 ^ 20) && decide (r.cls < 4) && decide (r.time < 2 ^ 64)
    && decide (r.source < 2 ^ 16) && decide (r.code < 2 ^ 16) && decide (r.arg0 < 2 ^ 40) && decide (r.arg1 < 2 ^ 40)
    && decide (r.arg2 < 2 ^ 16)

/-- A sense returns at most the 68 symbols of its frame wrong (06 R190). -/
def SenseRes.wf (r : SenseRes) : Bool := decide (r.errs ≤ 68)

/-- What senses return, by frames numbered below `n`. -/
def wfSenses (n : Nat) (l : List (Nat × SenseRes × SenseRes)) : Bool := l.all (fun x => decide (x.1 < n) && x.2.1.wf && x.2.2.wf)
/-- Errors that the cache arrays show, by line (05 R155). -/
def wfUpset (l : List (Nat × ArrErr)) : Bool := l.all (fun x => wfDln x.1)
/-- A frame that can be programmed (04 R127, R128). -/
def ProgRef.wf (u : ProgRef) : Bool :=
  match u with
  | .line _ | .journal => true
  | .copy ltn l => wfLtn ltn && decide (l < 256)
  | .rewrite ptn fslot => wfPtn ptn && decide (fslot < 256)
  | .node _ l => decide (l < 256)
  | .anchor k => decide (k < 4)
  | .sentinel die l => wfDie die && decide (l < 256)

/-- Whether a sender can form the command. -/
def Instr.wf (i : Instr) : Bool :=
  match i with
  | .dieDiscovery failed => failed.all wfDie
  | .aonQualify _ _ _ corr ue => corr.all (fun n => decide (n < 4096)) && ue.all (fun n => decide (n < 8192))
  | .replay res | .pacingEpoch res => wfSenses (2 ^ 40) res
  | .warmerPageLoad res => wfSenses 256 res
  | .inputTrigger _ vin _ | .inputDip vin => decide (vin < 2 ^ 16)
  | .faultReport src code a0 a1 a2 =>
    decide (src < 2 ^ 16) && decide (code < 2 ^ 16) && decide (a0 < 2 ^ 40) && decide (a1 < 2 ^ 40) && decide (a2 < 2 ^ 16)
  | .spinelLinkActive lanes _ _ _ | .spinelLinkDown lanes _ => decide (lanes ≤ 16)
  | .mirrorWrite mtag _ _ _ dln ft _ _ => wfMtag mtag && wfDln dln && (match ft with | some x => wfMtag x | none => true)
  | .mirrorAck tags _ => tags.all wfMtag
  | .homeFwdWrFull mtag _ dln _ _ | .homeFwdWrPart mtag _ dln _ _ _  | .homeFwdRd mtag _ dln =>
    wfMtag mtag && wfDln dln
  | .homeFwdRefuse mtag dln _ => wfMtag mtag && wfDln dln
  | .homeFwdRdData mtag _ _ _ _ => wfMtag mtag
  | .stateOpCmd mtag sseq _ ue => wfMtag mtag && decide (sseq < 2 ^ 40) && ue.all wfDln
  | .stateOpTile mtag ltn sseq => wfMtag mtag && wfLtn ltn && decide (sseq < 2 ^ 26)
  | .stateOpDone sseq st => decide (sseq < 2 ^ 40) && decide (st < 256)
  | .resyncTileEntry mtag ltn _ _ => wfMtag mtag && wfLtn ltn
  | .resyncTileLine dln _ _ _ => wfDln dln
  | .tileEnd ltn lines => wfLtn ltn && decide (lines ≤ 256)
  | .tileAck ltn => wfLtn ltn
  | .lineReq mtag dln res retry => wfMtag mtag && wfDln dln && res.wf && retry.wf
  | .lineRsp mtag dln _ _ _ _ => wfMtag mtag && wfDln dln
  | .agateCopy recs => recs.all AgRec.wf && (recs.length == 1 || recs.length == 2)
  | .joinOpen _ ltns => ltns.all wfLtn && decide (ltns.length ≤ 16)
  | .joinWells _ ws => decide (ws.length ≤ 8)
  | .joinInuse rs => rs.all (fun r => decide (r.1 < 2 ^ 31) && decide (r.2 ≤ 2 ^ 31))
  | .linkTraining _ lanes _ _ => decide (lanes ≤ 16)
  | .hdmDecoderCommit _ _ d => d.wf
  | .memrd _ tag hpa _ | .memrddata _ tag hpa _ => wfTag tag && wfHpa hpa
  | .memwr _ tag hpa _ _ upset | .memwrptl _ tag hpa _ _ _ upset => wfTag tag && wfHpa hpa && wfUpset upset
  | .memspecrd _ hpa | .memrdfwd _ hpa | .memwrfwd _ hpa => wfHpa hpa
  | .meminv _ tag | .meminvnt _ tag | .memclnevct _ tag => wfTag tag
  | .frameSenseDone _ res _ | .retrySenseDone _ res _ => res.wf
  | .demandMapReadDone page res _ => wfPage page && wfSenses 256 res
  | .programResume die part => wfDie die && decide (part < 64)
  | .dieResolve dln => wfDln dln
  | .resyncTileStart bad => bad.all (fun x => wfDln x.1 && x.2.1.wf && x.2.2.wf)
  | .cleaning die upset => wfDie die && wfUpset upset
  | .tileResetStart die | .sentinelProgram die => wfDie die
  | .programDispatch u | .programVerifyDone u _ _ => u.wf
  | .cacheMaint _ _ upset | .wayDisable _ upset => wfUpset upset
  | .pinMap _ _ res => wfSenses (2 ^ 28) res
  | .moveStart ltn _ | .moveCommit ltn | .refreshScan ltn => wfLtn ltn
  | .moveCopy ltn _ res retry => wfLtn ltn && res.wf && retry.wf
  | .resetDone ptn _ => wfPtn ptn
  | .mediaTempSample _ temps _ => decide (temps.length ≤ 6)
  | .scrubSense _ res retry _ => res.wf && retry.wf
  | .canarySample sl => decide (sl.length ≤ 64)
  | .eyeMarginSample eyes => decide (eyes.length ≤ 5)
  | .poisonClear _ _ ls => ls.all wfDln
  | .clearEventRecords _ _ seqs => seqs.all (fun x => decide (x < 2 ^ 40))
  | .releaseDynamicCapacity _ dpa len => wfDpa dpa && decide (len ≤ 2 ^ 45)
  | .jtagMemAccess _ dpa _ res => wfDpa dpa && res.wf
  | .regWrite _ off size _ | .rcRead _ off size => wfAccess off size
  | .mainInputQualify | .bootSettings | .bootSequencing | .domainQualEnd .. | .domainQualRetry ..
  | .dramTraining .. | .enterCold | .thermalRestart | .auxLost | .inputCollapse .. | .mainInputCycle | .perstAssert ..
  | .perstDeassert .. | .pgDeassert .. | .bankCutoff | .drainLinesDone .. | .drainOverrun .. | .drainFinalStoreDone
  | .agateFlush .. | .firmwareAck .. | .watchdog .. | .aliveToggle | .flitCrcError | .replayTimeout | .heartbeatSend
  | .heartbeat .. | .hbWindowEnd | .witOutToggle | .witnessLost | .soloGuardEnd | .soloPageDurable | .joinTimeout
  | .resyncDoneReq | .resyncDoneAck | .resyncDoneSwitch | .promoteNote .. | .joinPage .. | .joinEnd ..
  | .ideIntegrityFailure .. | .globalPersistentFlush .. | .burstMeterSlot .. | .loadWindowEnd .. | .writeAdmit ..
  | .filterRebuild | .journalLineProgram | .journalLineVerify .. | .checkpointStart | .checkpointAnchor | .checkpointFree
  | .epochUnitStart | .diodeSample .. | .scrubAutoResume | .replanStart .. | .planInstant .. | .bankTestStart .. | .bankTestEnd ..
  | .berylPageProgram | .berylPageVerify .. | .dumpBoundary .. | .fuseBlow .. | .entropyTestFail
  | .descriptorFetch .. | .completionWrite .. | .coalWindowEnd .. | .sidebandDescriptor .. | .setEndpointId .. | .wellCreate ..
  | .wellDestroy .. | .wellModify .. | .fill .. | .clone .. | .flushToMedia .. | .eventRead ..
  | .counterSnapshot .. | .dumpConfig .. | .settingsStore .. | .fwStage .. | .fwActivate .. | .sanitize .. | .twinControlJoin ..
  | .twinControlLeave .. | .twinControlPromote .. | .twinControlDiscard .. | .capacityRelease .. | .healthReport ..
  | .errorTableRead .. | .scrubControlPause .. | .scrubControlResume .. | .scrubControlRange .. | .scrubControlAbortRange ..
  | .keyRotate .. | .identityRead .. | .attest .. | .getEventRecords .. | .getEventInterruptPolicy .. | .setEventInterruptPolicy ..
  | .getFwInfo .. | .getTimestamp .. | .setTimestamp .. | .getSupportedLogs .. | .getLog .. | .identifyMemoryDevice ..
  | .getPartitionInfo .. | .getHealthInfo .. | .getAlertConfiguration .. | .setAlertConfiguration .. | .getShutdownState ..
  | .setShutdownState .. | .getDynamicCapacityConfiguration .. | .getDynamicCapacityExtentList .. | .addDynamicCapacityResponse ..
  | .getVersion .. | .getCapabilities .. | .negotiateAlgorithms .. | .getDigests .. | .getCertificate .. | .challenge ..
  | .getMeasurements .. | .keyExchange .. | .finish .. | .endSession .. | .keyUpdate .. | .query .. | .keyProg .. | .kSetGo ..
  | .kSetStop .. | .getKey .. | .jtagTestMode .. | .regApply .. | .unlock .. | .unlockExpire .. | .timeLatchRead ..
  | .lastgaspAck .. | .ack .. | .inject .. | .flush .. | .newSeqRead .. | .cmdTail .. | .cplHead .. | .ringEnable ..
  | .ringDisable .. | .dumpHead .. | .freeze .. | .thaw .. | .ctrLoRead .. | .clear .. | .ckptNow .. | .replanNow .. | .testNow ..
  | .accept .. | .advNow .. | .store .. | .wayDis .. | .witInEdge | .flitNak .. | .flitAck .. | .entropyTestPass
  | .railVoltageFault .. | .aonPowerLost | .auxRestored => true

end Sys2Proof
end

