-- ==== Sys2Proof/Tests/Slice0.lean ====
section
/-! SUPPORT. Small tests. The first part shows that each check of well-formedness refuses an ill-formed command. The second takes its
expected results from the manual's worked examples and tables, named at each test. -/

namespace Sys2Proof.Tests

open Sys2Proof Sys2Proof.Machine

/-! ## Ill-formed commands -/

/-- A sense with more wrong symbols than a frame has. -/
def tooMany : SenseRes := { errs := 69, markerOk := true }

/-- An HDM setting with a way count that the manual does not give. -/
def badHdm : Hdm := { committed := true, base := 0, size := 2 ^ 28, ways := 5, gran := 256, dpaBase := 0 }

theorem test_wf_dies : (Instr.dieDiscovery [6]).wf = false ∧ (Instr.cleaning 7 []).wf = false ∧ (Instr.tileResetStart 256).wf = false
    ∧ (Instr.sentinelProgram 14).wf = false ∧ (Instr.programResume 6 0).wf = false ∧ (Instr.programResume 0 64).wf = false
    ∧ (Instr.dieDiscovery [5, 253]).wf = true := by decide

theorem test_wf_pages : (Instr.demandMapReadDone (2 ^ 20) [] 0).wf = false ∧ (Instr.demandMapReadDone 0 [(256, cleanRes, cleanRes)] 0).wf = false
    ∧ (Instr.replay [(2 ^ 40, cleanRes, cleanRes)]).wf = false ∧ (Instr.warmerPageLoad [(0, tooMany, cleanRes)]).wf = false
    ∧ (Instr.pinMap 0 0 [(2 ^ 28, cleanRes, cleanRes)]).wf = false ∧ (Instr.pacingEpoch [(2 ^ 40, cleanRes, cleanRes)]).wf = false
    ∧ (Instr.aonQualify false false 0 [4096] []).wf = false ∧ (Instr.replay [(2 ^ 40 - 1, cleanRes, tooMany)]).wf = false
    ∧ (Instr.demandMapReadDone (2 ^ 20 - 1) [(255, cleanRes, cleanRes)] 0).wf = true := by decide

theorem test_wf_programs : (Instr.programDispatch (.copy 0 256)).wf = false ∧ (Instr.programDispatch (.sentinel 6 0)).wf = false
    ∧ (Instr.programVerifyDone (.rewrite (2 ^ 32) 0) true 0).wf = false ∧ (Instr.programDispatch (.anchor 4)).wf = false
    ∧ (Instr.programDispatch (.node 0 256)).wf = false ∧ (Instr.programVerifyDone (.copy (2 ^ 31 - 1) 255) true 1600).wf = true := by decide

theorem test_wf_upset : (Instr.cacheMaint 0 0 [(2 ^ 39, .dataUe)]).wf = false ∧ (Instr.wayDisable 0 [(2 ^ 39, .tagUe)]).wf = false
    ∧ (Instr.memwr 0 0 0 false 0 [(2 ^ 39, .corrected)]).wf = false ∧ (Instr.cleaning 5 [(2 ^ 39 - 1, .corrected)]).wf = true := by decide

theorem test_wf_inputs : (Instr.inputDip (2 ^ 16)).wf = false ∧ (Instr.inputTrigger true (2 ^ 16) []).wf = false
    ∧ (Instr.faultReport 0 0 (2 ^ 40) 0 0).wf = false ∧ (Instr.inputDip 12000).wf = true := by decide

theorem test_wf_lines : (Instr.dieResolve (2 ^ 39)).wf = false ∧ (Instr.lineReq 0 (2 ^ 39) { errs := 0, markerOk := true } { errs := 0, markerOk := true }).wf = false
    ∧ (Instr.poisonClear 4 0 [2 ^ 39]).wf = false ∧ (Instr.resyncTileLine (2 ^ 39) false 0 0).wf = false
    ∧ (Instr.dieResolve (2 ^ 39 - 1)).wf = true := by decide

theorem test_wf_tiles : (Instr.moveCommit (2 ^ 31)).wf = false ∧ (Instr.tileAck (2 ^ 31)).wf = false ∧ (Instr.tileEnd 0 257).wf = false
    ∧ (Instr.stateOpTile 0 (2 ^ 31) 0).wf = false ∧ (Instr.resetDone (2 ^ 32) true).wf = false ∧ (Instr.resetDone (6 * 2 ^ 24) true).wf = false
    ∧ (Instr.moveCommit (2 ^ 31 - 1)).wf = true := by decide

theorem test_wf_senses : (Instr.frameSenseDone 0 tooMany 0).wf = false ∧ (Instr.retrySenseDone 0 tooMany 0).wf = false
    ∧ (Instr.moveCopy 0 0 tooMany { errs := 0, markerOk := true }).wf = false
    ∧ (Instr.frameSenseDone 0 { errs := 68, markerOk := true } 0).wf = true := by decide

theorem test_wf_link : (Instr.spinelLinkActive 17 .y32 false 0).wf = false ∧ (Instr.linkTraining 0 17 3 false).wf = false
    ∧ (Instr.tileAck (2 ^ 31 - 1)).wf = true ∧ (Instr.mirrorAck [2 ^ 16] false).wf = false ∧ (Instr.homeFwdRefuse (2 ^ 16) 0 false).wf = false
    ∧ (Instr.agateCopy []).wf = false ∧ (Instr.joinOpen 0 [2 ^ 31]).wf = false ∧ (Instr.joinInuse [(0, 2 ^ 31 + 1)]).wf = false := by decide

theorem test_wf_ports : (Instr.hdmDecoderCommit 0 0 badHdm).wf = false ∧ (Instr.memwr 0 (2 ^ 16) 0 false 0 []).wf = false
    ∧ (Instr.memwr 0 0 (2 ^ 52) false 0 []).wf = false ∧ (Instr.meminv 0 (2 ^ 16)).wf = false ∧ (Instr.memspecrd 0 (2 ^ 52)).wf = false
    ∧ (Instr.releaseDynamicCapacity 0 (2 ^ 45) 0).wf = false ∧ (Instr.memwr 0 65535 (2 ^ 52 - 1) false 0 []).wf = true := by decide

theorem test_wf_registers : (Instr.regWrite 0 4 8 0).wf = false ∧ (Instr.regWrite 0 8 2 0).wf = false ∧ (Instr.rcRead 0 2 4).wf = false
    ∧ (Instr.regWrite 0 0x70 8 0x6B1D4).wf = true := by decide

theorem test_wf_samples : (Instr.mediaTempSample 0 (List.replicate 7 none) []).wf = false
    ∧ (Instr.eyeMarginSample [(0, 0), (0, 0), (0, 0), (0, 0), (0, 0), (0, 0)]).wf = false ∧ (Instr.eyeMarginSample []).wf = true := by decide

/-! ## Addresses (the worked examples of 00, 02, 05 and 07) -/

/-- 02: the load at interleave offset 0x00048_C0000_082C0 over three pairs reaches DPA 0x00018_40000_002C0. -/
theorem test_interleave : hdmDpa { committed := true, base := 0, size := 2 ^ 48, ways := 3, gran := 16384, dpaBase := 0 } 0x48C0000082C0
    = some 0x1840000002C0 := by decide

/-- 02: the same DPA's DLN, LTN, line within the tile, map page and entry. -/
theorem test_worked_dpa : dlnOf 0x1840000002C0 = 0x610000000B ∧ ltnOf 0x610000000B = 0x61000000 ∧ lineOf 0x610000000B = 11
    ∧ pageOf 0x61000000 = 794624 ∧ entryOf 0x61000000 = 0 ∧ seatOf 0x61000000 = false := by decide

/-- 05: DLN 0x00000_00204 lies in slice 4, set 516. -/
theorem test_slice_and_set : sliceOf cacheReset 0x204 = 4 ∧ setOf 0x204 = 516 := by decide

/-- 07: the 60-bit entry of the ledger tile. -/
theorem test_map_entry : entryVal { entryInit with st := .mapped, ptn := 0x0AC95C2F5, rot := 0x3A, epoch := 0x91, gen := 7 } = 0x071913AAC95C2F5 := by
  decide

/-- 09: PTN 0x0071C_AB10C lies in channel 14. -/
theorem test_channel_of_ptn : ptnChan 0x71CAB10C = 14 := by decide

/-! ## Data -/

/-- 02: bytes 16 to 23 take the written values and the other 56 are zero. -/
theorem test_merge_bytes : mergeLine 0 (BitVec.allOnes 512) (BitVec.ofNat 64 (0xFF * 2 ^ 16)) = BitVec.ofNat 512 ((2 ^ 64 - 1) * 2 ^ 128) := by
  decide +kernel

/-! ## Registers (the worked example of 13) -/

/-- Step 1: the key arms the unlock of port 0; UNLOCK_STAT then reads 1. -/
theorem test_unlock : isArmed (unlockF svc 0 0x6B1D4) 0 = true ∧ regRead (unlockF svc 0 0x6B1D4) 0 .global 0 15 = 1 := by decide +kernel

/-- The state after step 2: EXPERT_EN of the write path is set beside that of the well function. -/
def step2 : State := regWriteF (unlockF { svc with regs := [(18, { act := 1, pend := 1, rc := 0 })] } 0 0x6B1D4) 0 0x90 8 0x400004

/-- Step 2: the unlock is consumed, and EXPERT_EN reads 0x00005_00005. -/
theorem test_expert_en : isArmed step2 0 = false ∧ regRead step2 0 .global 0 18 = 0x500005 := by decide +kernel

/-- The state after step 4. -/
def step4 : State := regWriteF (unlockF step2 0 0x6B1D4) 0 0xB110 8 0x1F0000800

/-- Step 5: QUOTA_CTL reads 0x00828_01028, at its alias 0x8B110 too. -/
theorem test_quota_ctl : (rcReadF step4 0 0xB110 8).out = step4.out ++ [.regRead 0 0x82801028]
    ∧ (rcReadF step4 0 0x8B110 8).out = step4.out ++ [.regRead 0 0x82801028] := by decide +kernel

/-- Without step 3 the write of step 4 is ignored. -/
theorem test_locked : regRead (regWriteF step2 0 0xB110 8 0x1F0000800) 0 .mapctl 0 34 = regRead step2 0 .mapctl 0 34 := by decide +kernel

/-! ## The queue -/

/-- The host's words spell no command. -/
theorem test_no_words (n w : Nat) : decodeTableWord n w = none := rfl

/-- A queued command runs with the rest of the queue, and the time of an empty queue passes. -/
theorem test_queue : (match step { svc with pending := [.filterRebuild, .aliveToggle] } with
      | .next t => decide (t.pending = [.aliveToggle]) | _ => false) = true
    ∧ (match step svc with | .next t => decide (t.pwr.time = svc.pwr.time + 10) | _ => false) = true := by decide +kernel

end Sys2Proof.Tests
end

