-- ==== Sys2Proof/Tests/WitnessA.lean ====
section
/-! SUPPORT. For every statement with hypotheses, states and operands that meet them, clause by clause. -/

set_option linter.all false
set_option Elab.async false

namespace Sys2Proof.Tests

open Sys2Proof Sys2Proof.Machine Sys2Proof.Safety

/-- What the clauses of PowerOnReachesStandbyAndBoot assume can hold. -/
theorem witness_PowerOnReachesStandbyAndBoot :
    (∃ (s : State), s.pwr.st = .off) ∧
    (∃ (s : State), s.pwr.st = .standby ∧ s.pwr.pwrFail = false ∧ s.beryl.restored = true ∧ s.sec.selected = false ∧ imageFault s
      s.sec.active = 0) ∧
    (∃ (s : State), s.pwr.st = .standby ∧ s.pwr.pwrFail = false ∧ s.beryl.restored = true ∧ s.sec.selected = false ∧ imageFault s
      s.sec.active ≠ 0) := by
  refine ⟨⟨State.reset, ?_⟩,
    ⟨stby, ?_⟩,
    ⟨{ stby with sec := { stby.sec with active := { stby.sec.active with svn := 65 } } : State }, ?_⟩⟩ <;>
    ((try unfold Issued); (try unfold Quiescent); (try and_intros) <;> first | decide +kernel | rfl | (left; decide +kernel) | (intros; decide +kernel))

/-- What the clauses of InputEventsActByPowerState assume can hold. -/
theorem witness_InputEventsActByPowerState :
    (∃ (s : State) (vin : _), s.pwr.st ≠ .off ∧ drainThr s ≤ vin) ∧
    (∃ (s : State), s.pwr.st = .standby) ∧
    (∃ (s : State), s.pwr.st = .service ∧ s.pwr.bankFailed = false) ∧
    (∃ (s : State), s.pwr.st ≠ .off ∧ s.pwr.mainOn = true) ∧
    (∃ (s : State) (vin : _), s.pwr.st ≠ .off ∧ vin < 10800 ∧ drainThr s < vin) ∧
    (∃ (s : State), (s.pwr.st = .standby ∨ s.pwr.st = .boot ∨ s.pwr.st = .halt) ∧ s.pwr.testMode = false) ∧
    (∃ (s : State), s.pwr.st ≠ .off) := by
  refine ⟨⟨svc, 11000, ?_⟩,
    ⟨stby, ?_⟩,
    ⟨svc, ?_⟩,
    ⟨svc, ?_⟩,
    ⟨svc, 10700, ?_⟩,
    ⟨stby, ?_⟩,
    ⟨svc, ?_⟩⟩ <;>
    ((try unfold Issued); (try unfold Quiescent); (try and_intros) <;> first | decide +kernel | rfl | (left; decide +kernel) | (intros; decide +kernel))

/-- What the clauses of MainInputCycleLeavesHalt assume can hold. -/
theorem witness_MainInputCycleLeavesHalt :
    (∃ (s : State), s.pwr.st = .halt ∧ s.pwr.perstLatch = 0xF ∧ s.pwr.auxOn = true) ∧
    (∃ (s : State), s.pwr.st = .halt ∧ s.pwr.perstLatch ≠ 0xF) := by
  refine ⟨⟨{ (inState .halt 0) with pwr := { (inState .halt 0).pwr with perstLatch := 0xF } : State }, ?_⟩,
    ⟨{ (inState .halt 0) with pwr := { (inState .halt 0).pwr with perstLatch := 7 } : State }, ?_⟩⟩ <;>
    ((try unfold Issued); (try unfold Quiescent); (try and_intros) <;> first | decide +kernel | rfl | (left; decide +kernel) | (intros; decide +kernel))

/-- What the clauses of DrainEndsByItsTriggers assume can hold. -/
theorem witness_DrainEndsByItsTriggers :
    (∃ (s : State) (d : _), s.pwr.st = .drain ∧ s.pwr.drain = some d ∧ d.linesDone = false ∧ drainPending s = false ∧ d.stored = false) ∧
    (∃ (s : State) (d : _), s.pwr.st = .drain ∧ s.pwr.drain = some d ∧ (d.linesDone = true ∨ drainPending s = false) ∧ d.stored = true ∧
      d.recorded = false ∧ journalDone s = true) ∧
    (∃ (s : State) (d : _), s.pwr.st = .drain ∧ s.pwr.drain = some d ∧ d.linesDone = false ∧ d.start + 39200000 ≤ s.pwr.time ∧ d.stored =
      false) ∧
    (∃ (s : State) (d : _), s.pwr.st = .drain ∧ s.pwr.drain = some d ∧ d.recorded = true ∧ s.beryl.prog = [] ∧ s.beryl.ops = []) := by
  refine ⟨⟨{ (inState .drain 7) with pwr := { (inState .drain 7).pwr with drain := some ({ start := 10 ^ 12, toHalt := false, thermal := false, lost := false, linesDone := false, stored := false, recorded := false, overrun := false, lines := 0 }) } : State }, { start := 10 ^ 12, toHalt := false, thermal := false, lost := false, linesDone := false, stored := false, recorded := false, overrun := false, lines := 0 }, ?_⟩,
    ⟨{ (inState .drain 7) with pwr := { (inState .drain 7).pwr with drain := some ({ start := 10 ^ 12, toHalt := false, thermal := false, lost := false, linesDone := false, stored := true, recorded := false, overrun := false, lines := 0 }) } : State }, { start := 10 ^ 12, toHalt := false, thermal := false, lost := false, linesDone := false, stored := true, recorded := false, overrun := false, lines := 0 }, ?_⟩,
    ⟨{ (inState .drain 7) with pwr := { (inState .drain 7).pwr with drain := some ({ start := 10 ^ 12, toHalt := false, thermal := false, lost := false, linesDone := false, stored := false, recorded := false, overrun := false, lines := 0 }), time := 10 ^ 12 + 39200000 } : State }, { start := 10 ^ 12, toHalt := false, thermal := false, lost := false, linesDone := false, stored := false, recorded := false, overrun := false, lines := 0 }, ?_⟩,
    ⟨{ (inState .drain 7) with pwr := { (inState .drain 7).pwr with drain := some ({ start := 10 ^ 12, toHalt := false, thermal := false, lost := false, linesDone := false, stored := false, recorded := true, overrun := false, lines := 0 }) } : State }, { start := 10 ^ 12, toHalt := false, thermal := false, lost := false, linesDone := false, stored := false, recorded := true, overrun := false, lines := 0 }, ?_⟩⟩ <;>
    ((try unfold Issued); (try unfold Quiescent); (try and_intros) <;> first | decide +kernel | rfl | (left; decide +kernel) | (intros; decide +kernel))

/-- What the clauses of LinkLossDecidesTheRole assume can hold. -/
theorem witness_LinkLossDecidesTheRole :
    (∃ (s : State) (c : _), s.pwr.st = .service ∧ s.pair.role = .paired ∧ s.pair.note = false ∧ s.pwr.seat = false ∧ s.pwr.time % 10000 = 0
      ∧ s.pair.counting = some c ∧ c < hbWindow s.pwr.time ∧ s.pair.seen.contains (hbWindow s.pwr.time - 1) = false ∧ regF s .spinel 0 2 10
      7 ≤ s.pair.misses + 1 ∧ 1 ≤ regF s .spinel 0 2 10 7 ∧ s.cmds.run = [] ∧ s.wear.moves = []) ∧
    (∃ (s : State) (c : _), s.pwr.st = .service ∧ s.pair.role = .paired ∧ s.pair.note = false ∧ s.pwr.seat = true ∧ s.pwr.time % 10000 = 0 ∧
      s.pair.counting = some c ∧ c < hbWindow s.pwr.time ∧ s.pair.seen.contains (hbWindow s.pwr.time - 1) = false ∧ regF s .spinel 0 2 10 7
      ≤ s.pair.misses + 1 ∧ s.cmds.run = [] ∧ s.wear.moves = [] ∧ s.cist.waits = [] ∧ s.med.senses = [] ∧ s.pair.opens = [] ∧ s.pair.fwds =
      [] ∧ s.pair.fwdRds = [] ∧ s.pair.heldW = [] ∧ s.pair.soloHeld = []) ∧
    (∃ (s : State), s.pwr.st = .service ∧ s.pair.linkUp = true ∧ s.pair.role = .paired ∧ s.pair.fwds = [] ∧ s.pair.heldW = [] ∧ s.wear.moves
      = [] ∧ Quiescent s) ∧
    (∃ (s : State), s.pwr.st = .service ∧ s.pair.linkUp = true ∧ s.pair.role ≠ .paired ∧ s.pair.role ≠ .resync) ∧
    (∃ (s : State) (g : _), s.pair.role = .solo ∧ s.pair.guardEnd = some g ∧ s.pwr.time < g) ∧
    (∃ (s : State) (g : _), s.pair.role = .solo ∧ s.pair.guardEnd = some g ∧ g ≤ s.pwr.time ∧ s.pair.fwds = [] ∧ s.pair.heldW = [] ∧
      Quiescent s) ∧
    (∃ (s : State), s.pair.role = .solo ∧ s.pair.soloDurable = false ∧ pairingBusy s = false ∧ s.pair.soloHeld = []) ∧
    (∃ (s : State), s.pair.role = .joining ∧ s.pwr.st = .service ∧ s.pair.decided = false ∧ hasIdentity s = true ∧ s.pwr.time <
      s.pair.joinAt + regF s .spinel 0 2 6 1 * 1000000000) ∧
    (∃ (s : State), s.pair.role = .joining ∧ s.pwr.st = .service ∧ s.pair.decided = false ∧ hasIdentity s = false ∧ s.pair.linkUp = true ∧
      s.pair.linkAt + 100000000 ≤ s.pwr.time) := by
  refine ⟨⟨{ psvc with pair := { psvc.pair with counting := some 5, misses := 2, seen := [] } : State }, 5, ?_⟩,
    ⟨{ psvc with pair := { psvc.pair with counting := some 5, misses := 2, seen := [] }, pwr := { psvc.pwr with seat := true } : State }, 5, ?_⟩,
    ⟨psvc, ?_⟩,
    ⟨{ psvc with pair := { psvc.pair with role := .solo } : State }, ?_⟩,
    ⟨{ psvc with pair := { psvc.pair with role := .solo, guardEnd := some (10 ^ 12 + 10) } : State }, (10 ^ 12 + 10), ?_⟩,
    ⟨{ psvc with pair := { psvc.pair with role := .solo, guardEnd := some (10 ^ 12) } : State }, (10 ^ 12), ?_⟩,
    ⟨{ psvc with pair := { psvc.pair with role := .solo } : State }, ?_⟩,
    ⟨{ psvc with pair := { psvc.pair with role := .joining, joinAt := 10 ^ 12 }, beryl := { psvc.beryl with image := [(3072, BitVec.allOnes 2048)] } : State }, ?_⟩,
    ⟨{ psvc with pair := { psvc.pair with role := .joining, linkAt := 10 ^ 12 - 100000000 } : State }, ?_⟩⟩ <;>
    ((try unfold Issued); (try unfold Quiescent); (try and_intros) <;> first | decide +kernel | rfl | (left; decide +kernel) | (intros; decide +kernel))

/-- What the clauses of HomesChangeHandsAtSwitch assume can hold. -/
theorem witness_HomesChangeHandsAtSwitch :
    (∃ (s : State), works s = true ∧ s.pair.role = .resync ∧ s.pair.isTarget = true ∧ s.pair.txq = [] ∧ s.pair.flits.length < 512 ∧ 0 <
      s.pair.req) ∧
    (∃ (s : State), works s = true ∧ s.pair.role = .solo) ∧
    (∃ (s : State), works s = true ∧ s.pair.hand = .none) ∧
    (∃ (s : State), works s = true ∧ s.pair.role = .resync ∧ s.pair.syncSrc = false ∧ s.pair.hand = .giving false ∧ s.pair.opens = [] ∧
      homeWaits s = false ∧ s.pair.heldW = [] ∧ Quiescent s ∧ s.pair.txq = []) ∧
    (∃ (s : State), works s = true ∧ s.pair.hand = .none) ∧
    (∃ (s : State), works s = true ∧ s.pair.role = .paired ∧ s.pair.isTarget = false ∧ s.pair.hand = .taking ∧ s.pair.heldW = [] ∧ Quiescent
      s) := by
  refine ⟨⟨{ rsvc with pair := { rsvc.pair with syncSrc := false, isTarget := true } : State }, ?_⟩,
    ⟨{ psvc with pair := { psvc.pair with role := .solo, home := .all } : State }, ?_⟩,
    ⟨rsvc, ?_⟩,
    ⟨{ rsvc with pair := { rsvc.pair with syncSrc := false, hand := .giving false } : State }, ?_⟩,
    ⟨rsvc, ?_⟩,
    ⟨{ psvc with pair := { psvc.pair with hand := .taking } : State }, ?_⟩⟩ <;>
    ((try unfold Issued); (try unfold Quiescent); (try and_intros) <;> first | decide +kernel | rfl | (left; decide +kernel) | (intros; decide +kernel))

/-- What the clauses of ReadsAreCheckedThenServed assume can hold. -/
theorem witness_ReadsAreCheckedThenServed :
    (∃ (s : State) (p : Port), memOpen s p.val = false) ∧
    (∃ (s : State) (p : Port) (hpa : _), memOpen s p.val = true ∧ (portAt s p.val).rdOut < reqPool s p.val ∧ portCheck s p.val hpa =
      .poison) ∧
    (∃ (s : State) (p : Port) (hpa : _) (d : _) (w : _), memOpen s p.val = true ∧ (portAt s p.val).rdOut < reqPool s p.val ∧ portCheck s
      p.val hpa = .viol d w) ∧
    (∃ (s : State) (p : Port) (hpa : _) (d : _), memOpen s p.val = true ∧ (portAt s p.val).rdOut < reqPool s p.val ∧ portCheck s p.val hpa =
      .fenced d ∧ fencedRole s.pair.role = true) ∧
    (∃ (s : State) (p : Port) (hpa : _) (d : _), memOpen s p.val = true ∧ portCheck s p.val hpa = .fenced d ∧ s.pair.role = .fenced) ∧
    (∃ (s : State) (p : Port) (hpa : _) (env : RdEnv) (dln : _) (k : _) (w : _), memOpen s p.val = true ∧ (portAt s p.val).rdOut < reqPool s
      p.val ∧ portCheck s p.val hpa = .pass dln ∧ forwards s (ltnOf dln) = false ∧ lockHeld s dln = false ∧ env.arr = .none ∧ s.cache.upset
      = [] ∧ findWay s dln = some (k, w) ∧ w.pf = false ∧ boundNow s p.val = none) ∧
    (∃ (s : State) (p : Port) (hpa : _) (env : RdEnv) (dln : _) (d : _), memOpen s p.val = true ∧ (portAt s p.val).rdOut < reqPool s p.val ∧
      portCheck s p.val hpa = .pass dln ∧ forwards s (ltnOf dln) = false ∧ lockHeld s dln = false ∧ findWay s dln = none ∧ findCis s dln =
      none ∧ env.mapUe = false ∧ tlbEn s = false ∧ pageHere s (pageOf (ltnOf dln)) = true ∧ s.mapu.overflow = [] ∧ mapAns s dln = .const d ∧
      boundNow s p.val = none) ∧
    (∃ (s : State) (p : Port) (hpa : _) (dln : _), memOpen s p.val = true ∧ (portAt s p.val).rdOut < reqPool s p.val ∧ portCheck s p.val hpa
      = .pass dln ∧ forwards s (ltnOf dln) = false ∧ prefetchOk s dln = true) ∧
    (∃ (s : State) (p : Port) (hpa : _) (dln : _), memOpen s p.val = true ∧ (portAt s p.val).rdOut < reqPool s p.val ∧ portCheck s p.val hpa
      = .pass dln ∧ forwards s (ltnOf dln) = true ∧ s.pair.linkUp = true ∧ canSend s.pair s.pair.txq (.fwdRd s.pair.mtag p dln) = true) := by
  refine ⟨⟨stby, 0, ?_⟩,
    ⟨{ svc with ports := [(0, { portUp with viral := true })] : State }, 0, 0, ?_⟩,
    ⟨{ svc with tabs := { svc.tabs with wells := [] } : State }, 0, 0, (some 0), 0x7F, ?_⟩,
    ⟨{ svc with pair := { svc.pair with role := .fenced } : State }, 0, 0, 0, ?_⟩,
    ⟨{ svc with pair := { svc.pair with role := .fenced } : State }, 0, 0, 0, ?_⟩,
    ⟨(withLine svc 0 false), 0, 63, { lat := 200, arr := .none, mapUe := false }, 0, (wayKey (sliceOf cacheReset 0) (setOf 0) 0), (wayOf 0 false), ?_⟩,
    ⟨{ svc with tabs := { svc.tabs with map := [(0, { entryInit with st := .const, ptn := 0xA5 })] }, regs := [(1414, { act := 0, pend := 0, rc := 0 })] : State }, 0, 64, { lat := 200, arr := .none, mapUe := false }, 1, (patternLine 0xA5), ?_⟩,
    ⟨(withTile svc), 0, 0, 0, ?_⟩,
    ⟨{ rsvc with pair := { rsvc.pair with syncSrc := false, isTarget := true, sync := [(0, true)] } : State }, 0, 0, 0, ?_⟩⟩ <;>
    ((try unfold Issued); (try unfold Quiescent); (try and_intros) <;> first | decide +kernel | rfl | (left; decide +kernel) | (intros; decide +kernel))

/-- What the clauses of DirtyLinesReachTheCistern assume can hold. -/
theorem witness_DirtyLinesReachTheCistern :
    (∃ (s : State), s.pwr.st ≠ .service) ∧
    (∃ (s : State), s.cist.waits = [] ∧ Quiescent s) ∧
    (∃ (s : State) (n : Slice) (w : _) (p : Port) (tag : _) (k : _) (old : _), s.pwr.st = .service ∧ Quiescent s ∧ s.cist.waits = [w] ∧
      sliceOf s.cache w.dln = n.val ∧ w.org = .host p tag ∧ w.be = BitVec.allOnes 64 ∧ sGet (0, 0) s.cist.rr n.val = (p.val, 0) ∧ 0 <
      rrWeight s p.val ∧ s.pair.role = .unpaired ∧ lockHeld s w.dln = false ∧ s.cache.upset = [] ∧ findWay s w.dln = some (k, old)) ∧
    (∃ (s : State) (dln : _), findWay s dln = none ∧ Quiescent s) ∧
    (∃ (s : State) (dln : _) (k : _) (w : _), s.pwr.st = .service ∧ Quiescent s ∧ findWay s dln = some (k, w) ∧ dirtyW w = true ∧ w.dk =
      false ∧ tailFull s = false ∧ pageHere s (pageOf (ltnOf dln)) = true ∧ carrierOf s (ltnOf dln) = none ∧ (entryAt s (ltnOf dln)).st =
      .mapped) ∧
    (∃ (s : State) (die : _), s.pwr.st ≠ .drain ∧ oldestDirty s die = none ∧ Quiescent s) ∧
    (∃ (s : State) (die : _), s.pwr.st = .drain ∧ nextDirty s die = none) ∧
    (∃ (s : State) (die : _) (k : _) (w : _), s.pwr.st = .service ∧ Quiescent s ∧ hasRoom s die = true ∧ stopLevel s ≤ dirtyOf s die ∧
      oldestDirty s die = some (k, w) ∧ sGet wayInit s.cache.ways k = w ∧ s.cache.upset = [] ∧ findCis s w.dln = none ∧ wornOut s (ltnOf
      w.dln) = false ∧ (entryAt s (ltnOf w.dln)).st = .mapped) ∧
    (∃ (s : State) (die : _) (k : _) (w : _), s.pwr.st = .drain ∧ nextDirty s die = some (k, w) ∧ sGet wayInit s.cache.ways k = w ∧
      s.cache.upset = [] ∧ s.cache.locks = [] ∧ findCis s w.dln = none ∧ wornOut s (ltnOf w.dln) = false ∧ (entryAt s (ltnOf w.dln)).st =
      .mapped) := by
  refine ⟨⟨stby, ?_⟩,
    ⟨svc, ?_⟩,
    ⟨{ (withLine (withTile svc) 0 false) with cist := { (withLine (withTile svc) 0 false).cist with waits := [{ ord := 3, dln := 0, org := .host 1 9, poison := false, pcause := 0, be := BitVec.allOnes 64, data := 7, part := false, waited := true, fill := none }], rr := [(0, (1, 0))] } : State }, (sliceFin (withLine (withTile svc) 0 false) 0), { ord := 3, dln := 0, org := .host 1 9, poison := false, pcause := 0, be := BitVec.allOnes 64, data := 7, part := false, waited := true, fill := none }, 1, 9, (wayKey (sliceOf cacheReset 0) (setOf 0) 0), (wayOf 0 false), ?_⟩,
    ⟨svc, 0, ?_⟩,
    ⟨{ (withLine (withTile svc) 0 true) with cache := { (withLine (withTile svc) 0 true).cache with ways := [(wayKey (sliceOf cacheReset 0) (setOf 0) 0, { wayOf 0 true with dk := false })] } : State }, 0, (wayKey (sliceOf cacheReset 0) (setOf 0) 0), { wayOf 0 true with dk := false }, ?_⟩,
    ⟨svc, 0, ?_⟩,
    ⟨(inState .drain 7), 0, ?_⟩,
    ⟨crowded, 0, 0, { wayOf 0 true with dln := 0 }, ?_⟩,
    ⟨{ (withLine (withTile svc) 0 true) with pwr := { (withLine (withTile svc) 0 true).pwr with st := .drain } : State }, 0, (wayKey (sliceOf cacheReset 0) (setOf 0) 0), (wayOf 0 true), ?_⟩⟩ <;>
    ((try unfold Issued); (try unfold Quiescent); (try and_intros) <;> first | decide +kernel | rfl | (left; decide +kernel) | (intros; decide +kernel))

/-- What the clauses of MovesTakeCopyAndCommit assume can hold. -/
theorem witness_MovesTakeCopyAndCommit :
    (∃ (s : State) (ltn : _) (c : _), queuedFor s ltn c = none) ∧
    (∃ (s : State) (ltn : _) (c : _) (q : _), s.pwr.st = .service ∧ s.cmds.sanStep = 0 ∧ queuedFor s ltn c = some q ∧ q.kind = .move ∧
      tailFull s = false ∧ pageHere s (pageOf ltn) = true ∧ (entryAt s ltn).st = .mapped ∧ causeTakes s .move q.cause = true ∧ (beginMove s
      ltn .move q.cause q.walker q.past).isSome = true) ∧
    (∃ (s : State) (ltn : _), moveOf s ltn = none) ∧
    (∃ (s : State) (ltn : _) (line : Fin 256) (m : _), s.pwr.st = .service ∧ Quiescent s ∧ moveOf s ltn = some m ∧ copyTurn s m line.val =
      true ∧ s.cist.ents.any (fun e => decide (e.dln = m.ltn * 256 + line.val) && e.held) = true) ∧
    (∃ (s : State) (ltn : _) (line : Fin 256) (m : _), programsRun s = true ∧ moveOf s ltn = some m ∧ ownMove s m.ltn = some m ∧ copyTurn s
      m line.val = true ∧ s.cist.ents.any (fun e => decide (e.dln = m.ltn * 256 + line.val) && e.held) = false ∧ isRefused s.tabs (m.ltn *
      256 + line.val) = false ∧ m.kind = .materialise ∧ m.prev.st = .const) ∧
    (∃ (s : State) (ltn : _) (line : _) (m : _) (o : _) (ns : _), Quiescent s ∧ ns ≤ 2400 ∧ line < 256 ∧ ownMove s ltn = some m ∧ m.dst =
      o.ptn ∧ findP (fun o : Op => decide (o.kind = .program (.copy ltn line)) && !o.suspended) s.med.ops = some o) ∧
    (∃ (s : State) (ltn : _), moveOf s ltn = none) ∧
    (∃ (s : State) (ltn : Nat) (m : Move), s.pwr.st = .drain ∧ moveOf s ltn = some m ∧ copyDone m = true ∧ m.commitJ = none ∧ m.kind =
      .materialise ∧ tailFull s = false) := by
  refine ⟨⟨svc, 0, .readCount, ?_⟩,
    ⟨{ (withTile svc) with drift := { (withTile svc).drift with refq := [(0, false, 0)] } : State }, 0, .readCount, { kind := .move, cause := .readCount, walker := false, past := false }, ?_⟩,
    ⟨svc, 0, ?_⟩,
    ⟨{ (withTile svc) with wear := { (withTile svc).wear with moves := [{ ltn := 0, kind := .move, cause := .readCount, prev := mapped0, dst := 65, rot := 0, gen := 2, takeJ := 0, copied := 0, asked := [], got := [], commitJ := none, failed := false, walker := false, past := false }] }, cist := { (withTile svc).cist with ents := [{ slot := 0, idx := 0, next := chainEnd, dln := 0, ptn := 64, fslot := 0, gen := 1, p := false, pcause := 0, prog := false, super := false, held := true, also := none, waitJ := 0, failed := false, direct := false, data := 7 }] } : State }, 0, 0, { ltn := 0, kind := .move, cause := .readCount, prev := mapped0, dst := 65, rot := 0, gen := 2, takeJ := 0, copied := 0, asked := [], got := [], commitJ := none, failed := false, walker := false, past := false }, ?_⟩,
    ⟨{ svc with wear := { svc.wear with moves := [{ ltn := 0, kind := .materialise, cause := .readCount, prev := { entryInit with st := .const }, dst := 65, rot := 0, gen := 2, takeJ := 0, copied := 0, asked := [], got := [], commitJ := none, failed := false, walker := false, past := false }] } : State }, 0, 0, { ltn := 0, kind := .materialise, cause := .readCount, prev := { entryInit with st := .const }, dst := 65, rot := 0, gen := 2, takeJ := 0, copied := 0, asked := [], got := [], commitJ := none, failed := false, walker := false, past := false }, ?_⟩,
    ⟨{ svc with wear := { svc.wear with moves := [{ ltn := 0, kind := .materialise, cause := .readCount, prev := { entryInit with st := .const }, dst := 65, rot := 0, gen := 2, takeJ := 0, copied := 0, asked := [], got := [], commitJ := none, failed := false, walker := false, past := false }] }, med := { svc.med with ops := [{ kind := .program (.copy 0 5), die := 0, part := 0, ptn := 65, fslot := 5, frame := writtenFrame svc 65 5 2 0 7 false 0, fails := 0, suspended := false }] } : State }, 0, 5, { ltn := 0, kind := .materialise, cause := .readCount, prev := { entryInit with st := .const }, dst := 65, rot := 0, gen := 2, takeJ := 0, copied := 0, asked := [], got := [], commitJ := none, failed := false, walker := false, past := false }, { kind := .program (.copy 0 5), die := 0, part := 0, ptn := 65, fslot := 5, frame := writtenFrame svc 65 5 2 0 7 false 0, fails := 0, suspended := false }, 1600, ?_⟩,
    ⟨svc, 0, ?_⟩,
    ⟨{ svc with pwr := { svc.pwr with st := .drain }, wear := { svc.wear with moves := [{ ltn := 0, kind := .materialise, cause := .readCount, prev := { entryInit with st := .const }, dst := 65, rot := 0, gen := 2, takeJ := 0, copied := BitVec.allOnes 256, asked := [], got := [], commitJ := none, failed := false, walker := false, past := false }] } : State }, 0, { ltn := 0, kind := .materialise, cause := .readCount, prev := { entryInit with st := .const }, dst := 65, rot := 0, gen := 2, takeJ := 0, copied := BitVec.allOnes 256, asked := [], got := [], commitJ := none, failed := false, walker := false, past := false }, ?_⟩⟩ <;>
    ((try unfold Issued); (try unfold Quiescent); (try and_intros) <;> first | decide +kernel | rfl | (left; decide +kernel) | (intros; decide +kernel))

/-- What the clauses of CheckpointsReplaceTheLast assume can hold. -/
theorem witness_CheckpointsReplaceTheLast :
    (∃ (s : State), s.mapu.ckpt = none ∧ ckptDue s = false) ∧
    (∃ (s : State), s.pwr.st = .service ∧ s.mapu.ckpt = none ∧ ckptDue s = true) ∧
    (∃ (s : State), s.mapu.ckpt = none) ∧
    (∃ (s : State) (n : _) (line : _) (x : _) (o : _) (ns : _), Quiescent s ∧ ns ≤ 2400 ∧ ckptTile s n = some x ∧ o.ptn = x.tile ∧ findP
      (fun o : Op => decide (o.kind = .program (.node n line)) && !o.suspended) s.med.ops = some o) ∧
    (∃ (s : State) (c : _), s.mapu.ckpt = some c ∧ (c.todo ≠ [] ∨ s.mapu.durable < c.jc)) ∧
    (∃ (s : State) (c : _), s.pwr.st = .service ∧ s.mapu.ckpt = some c ∧ c.anchor = none ∧ c.todo = [] ∧ c.tiles.all tileDone = true ∧ c.jc
      ≤ s.mapu.durable) ∧
    (∃ (s : State) (c : _) (w : _) (k : _) (x : _) (o : _) (ns : _), Quiescent s ∧ ns ≤ 2400 ∧ s.mapu.ckpt = some c ∧ c.anchor = some w ∧
      s.mapu.aseq < w.aseq ∧ w.copies = List.replicate k (x.1, x.2.1, true) ++ [x] ∧ findP (fun o : Op => decide (o.kind = .program (.anchor
      k)) && !o.suspended) s.med.ops = some o) ∧
    (∃ (s : State) (c : _) (w : _), s.pwr.st = .service ∧ s.mapu.ckpt = some c ∧ c.anchor = some w ∧ s.mapu.aseq = w.aseq ∧ tailFull s =
      false) := by
  refine ⟨⟨svc, ?_⟩,
    ⟨asked, ?_⟩,
    ⟨svc, ?_⟩,
    ⟨{ svc with mapu := { svc.mapu with ckpt := some ({ no := 2, jc := 0, todo := [], tiles := [{ node := 7, tile := 70, takeJ := 0, done := 1 }], bad := [], anchor := none }) }, med := { svc.med with ops := [{ kind := .program (.node 7 3), die := 0, part := 0, ptn := 70, fslot := 3, frame := metaFrame svc 70 3 7, fails := 0, suspended := false }] } : State }, 7, 3, { node := 7, tile := 70, takeJ := 0, done := 1 }, { kind := .program (.node 7 3), die := 0, part := 0, ptn := 70, fslot := 3, frame := metaFrame svc 70 3 7, fails := 0, suspended := false }, 1600, ?_⟩,
    ⟨{ svc with mapu := { svc.mapu with ckpt := some ({ no := 2, jc := 0, todo := [7], tiles := [], bad := [], anchor := none }) } : State }, { no := 2, jc := 0, todo := [7], tiles := [], bad := [], anchor := none }, ?_⟩,
    ⟨{ svc with mapu := { svc.mapu with ckpt := some ({ no := 2, jc := 0, todo := [], tiles := [], bad := [], anchor := none }) } : State }, { no := 2, jc := 0, todo := [], tiles := [], bad := [], anchor := none }, ?_⟩,
    ⟨{ svc with mapu := { svc.mapu with aseq := 2, ckpt := some ({ no := 2, jc := 0, todo := [], tiles := [], bad := [], anchor := some { aseq := 3, data := 7, ctrLimit := 2 ^ 33, copies := [(80, 1, false)] } }) }, med := { svc.med with ops := [{ kind := .program (.anchor 0), die := 0, part := 0, ptn := 80, fslot := 1, frame := anchorFrameOf svc 80 1 7, fails := 0, suspended := false }] } : State }, { no := 2, jc := 0, todo := [], tiles := [], bad := [], anchor := some { aseq := 3, data := 7, ctrLimit := 2 ^ 33, copies := [(80, 1, false)] } }, { aseq := 3, data := 7, ctrLimit := 2 ^ 33, copies := [(80, 1, false)] }, 0, (80, 1, false), { kind := .program (.anchor 0), die := 0, part := 0, ptn := 80, fslot := 1, frame := anchorFrameOf svc 80 1 7, fails := 0, suspended := false }, 1600, ?_⟩,
    ⟨{ svc with mapu := { svc.mapu with aseq := 3, ckpt := some ({ no := 2, jc := 0, todo := [], tiles := [], bad := [], anchor := some { aseq := 3, data := 7, ctrLimit := 2 ^ 33, copies := [(80, 1, true)] } }) } : State }, { no := 2, jc := 0, todo := [], tiles := [], bad := [], anchor := some { aseq := 3, data := 7, ctrLimit := 2 ^ 33, copies := [(80, 1, true)] } }, { aseq := 3, data := 7, ctrLimit := 2 ^ 33, copies := [(80, 1, true)] }, ?_⟩⟩ <;>
    ((try unfold Issued); (try unfold Quiescent); (try and_intros) <;> first | decide +kernel | rfl | (left; decide +kernel) | (intros; decide +kernel))

/-- What the clauses of SlowUnitsAdvance assume can hold. -/
theorem witness_SlowUnitsAdvance :
    (∃ (s : State), regB s .quartz 0 11 0 = false) ∧
    (∃ (s : State), s.pwr.st = .service ∧ regB s .quartz 0 11 0 = true ∧ now s % (regF s .quartz 0 12 9 0 * 1000000) = 0 ∧ applyDump s = s ∧
      (s.qz.dumpTail + 1) % dumpSlots s ≠ regF s .quartz 0 16 7 0 % dumpSlots s) ∧
    (∃ (s : State), s.pwr.st = .service ∧ regB s .quartz 0 11 0 = true ∧ now s % (regF s .quartz 0 12 9 0 * 1000000) = 0 ∧ applyDump s = s ∧
      (s.qz.dumpTail + 1) % dumpSlots s = regF s .quartz 0 16 7 0 % dumpSlots s) ∧
    (∃ (s : State), s.sec.blowing = false) ∧
    (∃ (s : State), s.pwr.st = .service ∧ s.sec.blowing = true ∧ s.sec.f < s.sec.active.svn) ∧
    (∃ (s : State), s.pwr.st = .service ∧ s.sec.blowing = true ∧ s.sec.f < s.sec.active.svn) ∧
    (∃ (s : State), domOn s 1 = true) ∧
    (∃ (s : State), domOn s 1 = false) ∧
    (∃ (s : State), domOn s 1 = true ∧ s.keys.deferred = []) ∧
    (∃ (s : State) (n : Slice), Quiescent s ∧ (sliceAt s n.val).disabling = []) ∧
    (∃ (s : State) (n : Slice) (w : _) (set : _) (rest : _) (k : _) (x : _) (y : _), s.pwr.st = .service ∧ Quiescent s ∧ (sliceAt s
      n.val).disabling = (w, set) :: rest ∧ nextOfWay s n.val w set = some (k, x) ∧ lockHeld s x.dln = false ∧ dirtyW x = false ∧
      s.cache.upset = [] ∧ nextOfWay (setWay s k wayInit) n.val w set = some y) := by
  refine ⟨⟨svc, ?_⟩,
    ⟨(putBoth svc .quartz 0 11 1 1), ?_⟩,
    ⟨{ (putBoth svc .quartz 0 11 1 1) with qz := { (putBoth svc .quartz 0 11 1 1).qz with dumpTail := dumpSlots (putBoth svc .quartz 0 11 1 1) - 1 } : State }, ?_⟩,
    ⟨svc, ?_⟩,
    ⟨{ svc with sec := { svc.sec with blowing := true, active := { svc.sec.active with svn := 1 } } : State }, ?_⟩,
    ⟨{ svc with sec := { svc.sec with blowing := true, active := { svc.sec.active with svn := 1 } } : State }, ?_⟩,
    ⟨svc, ?_⟩,
    ⟨stby, ?_⟩,
    ⟨svc, ?_⟩,
    ⟨svc, 0, ?_⟩,
    ⟨{ svc with cache := { svc.cache with ways := [(3, wayOf 0 false), (19, wayOf 1 false)], slices := [(0, { sliceInit with disabling := [(3, 0)] })] } : State }, 0, 3, 0, [], 3, (wayOf 0 false), (19, wayOf 1 false), ?_⟩⟩ <;>
    ((try unfold Issued); (try unfold Quiescent); (try and_intros) <;> first | decide +kernel | rfl | (left; decide +kernel) | (intros; decide +kernel))

/-- What the clauses of WellsFollowTheirCommands assume can hold. -/
theorem witness_WellsFollowTheirCommands :
    (∃ (s : State) (r : _) (src : Src) (tag : _), Issued s r src.val tag 0x01 ∧ s.pair.role = .unpaired ∧ tailFull s = false ∧ checkStatus s
      r.src (wellCreateChecks s r (descOf r.desc)) = 0) ∧
    (∃ (s : State) (r : _) (src : Src) (tag : _), Issued s r src.val tag 0x03 ∧ s.pair.role = .unpaired ∧ tailFull s = false ∧ checkStatus s
      r.src (wellModifyChecks s r (descOf r.desc)) = 0) ∧
    (∃ (s : State) (r : _) (src : Src) (tag : _), Issued s r src.val tag 0x02 ∧ s.pair.role = .unpaired ∧ tailFull s = false ∧ checkStatus s
      r.src (wellDestroyChecks s r (descOf r.desc)) = 0) ∧
    (∃ (s : State) (r : _) (src : Src) (tag : _) (e : _) (ltn : _), Issued s r src.val tag 0x16 ∧ s.pair.role = .unpaired ∧ checkStatus s
      r.src (keyRotateChecks s r (descOf r.desc)) = 0 ∧ (∀ x ∈ s.tabs.wells, x.2.key = (wellNo s ((descOf r.desc).arg0 % 64)).key → x.2 =
      wellNo s ((descOf r.desc).arg0 % 64) ∧ x.1 = (descOf r.desc).arg0 % 64) ∧ (ltn, e) ∈ s.tabs.map ∧ e.st = .mapped ∧ (wellNo s ((descOf
      r.desc).arg0 % 64)).base * 16384 ≤ ltn ∧ ltn < wellEnd (wellNo s ((descOf r.desc).arg0 % 64))) := by
  refine ⟨⟨(running (svc) (fresh 0 (mkDesc 1 1 1073741824 0 268435456 1))), (fresh 0 (mkDesc 1 1 1073741824 0 268435456 1)), 0, 0, ?_⟩,
    ⟨(running (svc) (fresh 0 (mkDesc 3 0 0 0 0 0x1F))), (fresh 0 (mkDesc 3 0 0 0 0 0x1F)), 0, 0, ?_⟩,
    ⟨(running (svc) (fresh 0 (mkDesc 2 0 0 0 0 0))), (fresh 0 (mkDesc 2 0 0 0 0 0)), 0, 0, ?_⟩,
    ⟨(running (withTile svc) (fresh 0 (mkDesc 0x16 0 0 0 0 0))), (fresh 0 (mkDesc 0x16 0 0 0 0 0)), 0, 0, mapped0, 0, ?_⟩⟩ <;>
    ((try unfold Issued); (try unfold Quiescent); (try and_intros) <;> first | decide +kernel | rfl | (left; decide +kernel) | (intros; decide +kernel))

/-- What the clauses of LineCommandsTreatTheirLines assume can hold. -/
theorem witness_LineCommandsTreatTheirLines :
    (∃ (s : State) (r : _) (p : Port) (tag : _) (k : _) (w : _), Issued s r p.val tag 0x06 ∧ checkStatus s r.src (cacheMaintChecks s r
      (descOf r.desc)) = 0 ∧ bitOf (descOf r.desc).arg0 4 = true ∧ (descOf r.desc).arg0 % 4 = 1 ∧ s.cache.ways = [(k, w)] ∧ w.v = true ∧
      dirtyW w = false ∧ s.med.senses = [] ∧ s.cache.locks = [] ∧ s.cache.upset = []) ∧
    (∃ (s : State) (r : _) (p : Port) (tag : _), Issued s r p.val tag 0x08 ∧ checkStatus s r.src (pinMapChecks s r (descOf r.desc)) = 0 ∧
      (descOf r.desc).len = 2 ^ 25 ∧ s.pwr.warm = true ∧ s.mapu.badSlots = [] ∧ nodeTile s ((descOf r.desc).addr0 / 2 ^ 25) = none) ∧
    (∃ (s : State) (r : _) (src : Src) (tag : _) (res : ResList), Issued s r src.val tag 0x08 ∧ checkStatus s r.src (pinMapChecks s r
      (descOf r.desc)) = 0 ∧ (descOf r.desc).len = 2 ^ 25 ∧ s.pwr.warm = true ∧ s.mapu.badSlots = [] ∧ (tailFull s = true → res = [])) ∧
    (∃ (s : State) (res : ResList), tailFull s = true ∧ res ≠ []) ∧
    (∃ (s : State) (r : _) (p : Port) (tag : _), Issued s r p.val tag 0x09 ∧ s.pwr.st = .service ∧ checkStatus s r.src (checksOf .service
      (unused r.desc 0 false false false 0)) = 0 ∧ flushItems s = []) ∧
    (∃ (s : State) (r : _) (src : Src) (tag : _) (k : _) (w : _), Issued s r src.val tag 0x09 ∧ s.pwr.st = .service ∧ checkStatus s r.src
      (checksOf .service (unused r.desc 0 false false false 0)) = 0 ∧ s.cache.ways = [(k, w)] ∧ w.v = true ∧ dirtyW w = true ∧ s.cache.upset
      = [] ∧ lockHeld s w.dln = false ∧ canHandOff s w = true ∧ s.cist.ents = [] ∧ wornOut s (ltnOf w.dln) = false ∧ (entryAt s (ltnOf
      w.dln)).st = .mapped) := by
  refine ⟨⟨(running (withLine svc 0 false) (fresh 0 (mkDesc 6 17 0 0 0 0))), (fresh 0 (mkDesc 6 17 0 0 0 0)), 0, 0, (wayKey (sliceOf cacheReset 0) (setOf 0) 0), (wayOf 0 false), ?_⟩,
    ⟨(running ({ svc with pwr := { svc.pwr with warm := true } }) (fresh 0 (mkDesc 8 0 0 0 33554432 0))), (fresh 0 (mkDesc 8 0 0 0 33554432 0)), 0, 0, ?_⟩,
    ⟨(running ({ svc with pwr := { svc.pwr with warm := true } }) (fresh 0 (mkDesc 8 0 0 0 33554432 0))), (fresh 0 (mkDesc 8 0 0 0 33554432 0)), 0, 0, [], ?_⟩,
    ⟨{ svc with mapu := { svc.mapu with jnext := 2 ^ 21, durable := 0 } : State }, [(0, { errs := 0, markerOk := true }, { errs := 0, markerOk := true })], ?_⟩,
    ⟨(running (svc) (fresh 0 (mkDesc 9 0 0 0 0 0))), (fresh 0 (mkDesc 9 0 0 0 0 0)), 0, 0, ?_⟩,
    ⟨(running (withLine (withTile svc) 0 true) (fresh 0 (mkDesc 9 0 0 0 0 0))), (fresh 0 (mkDesc 9 0 0 0 0 0)), 0, 0, (wayKey (sliceOf cacheReset 0) (setOf 0) 0), (wayOf 0 true), ?_⟩⟩ <;>
    ((try unfold Issued); (try unfold Quiescent); (try and_intros) <;> first | decide +kernel | rfl | (left; decide +kernel) | (intros; decide +kernel))

/-- What the clauses of BufferCommandsWriteThenComplete assume can hold. -/
theorem witness_BufferCommandsWriteThenComplete :
    (∃ (s : State) (r : _) (p : Port) (tag : _), Issued s r p.val tag 0x0A ∧ checkStatus s r.src (eventReadChecks s r (descOf r.desc)) = 0) ∧
    (∃ (s : State) (r : _) (p : Port) (tag : _), Issued s r p.val tag 0x0B ∧ checkStatus s r.src (outChecks .boot r (descOf r.desc) 0 0
      4416) = 0) ∧
    (∃ (s : State) (r : _) (p : Port) (tag : _), Issued s r p.val tag 0x0C ∧ checkStatus s r.src (outChecks .boot r (descOf r.desc) 0 0
      8848) = 0) ∧
    (∃ (s : State) (r : _) (p : Port) (tag : _), Issued s r p.val tag 0x13 ∧ checkStatus s r.src (outChecks .always r (descOf r.desc) 0 0
      256) = 0) ∧
    (∃ (s : State) (r : _) (p : Port) (tag : _), Issued s r p.val tag 0x14 ∧ checkStatus s r.src (outChecks .service r (descOf r.desc) 6 0
      (if bitOf (descOf r.desc).arg0 5 then 8192 else 256)) = 0) ∧
    (∃ (s : State) (r : _) (p : Port) (tag : _), Issued s r p.val tag 0x17 ∧ checkStatus s r.src (outChecks .boot r (descOf r.desc) 0 0
      4096) = 0) ∧
    (∃ (s : State) (r : _) (p : Port) (tag : _), Issued s r p.val tag 0x18 ∧ checkStatus s r.src (attestChecks s r (descOf r.desc)) = 0) := by
  refine ⟨⟨(running (svc) (fresh 0 (mkDesc 0x0A 0 0 0 32 0))), (fresh 0 (mkDesc 0x0A 0 0 0 32 0)), 0, 0, ?_⟩,
    ⟨(running (svc) (fresh 0 (mkDesc 0x0B 0 0 0 4416 0))), (fresh 0 (mkDesc 0x0B 0 0 0 4416 0)), 0, 0, ?_⟩,
    ⟨(running (svc) (fresh 0 (mkDesc 0x0C 0 0 0 8848 0))), (fresh 0 (mkDesc 0x0C 0 0 0 8848 0)), 0, 0, ?_⟩,
    ⟨(running (svc) (fresh 0 (mkDesc 0x13 0 0 0 256 0))), (fresh 0 (mkDesc 0x13 0 0 0 256 0)), 0, 0, ?_⟩,
    ⟨(running (svc) (fresh 0 (mkDesc 0x14 0 0 0 256 0))), (fresh 0 (mkDesc 0x14 0 0 0 256 0)), 0, 0, ?_⟩,
    ⟨(running (svc) (fresh 0 (mkDesc 0x17 0 0 0 4096 0))), (fresh 0 (mkDesc 0x17 0 0 0 4096 0)), 0, 0, ?_⟩,
    ⟨(running (svc) (fresh 0 (mkDesc 0x18 0 0 0 4096 0))), (fresh 0 (mkDesc 0x18 0 0 0 4096 0)), 0, 0, ?_⟩⟩ <;>
    ((try unfold Issued); (try unfold Quiescent); (try and_intros) <;> first | decide +kernel | rfl | (left; decide +kernel) | (intros; decide +kernel))

/-- What the clauses of SpdmRequestsAreAnswered assume can hold. -/
theorem witness_SpdmRequestsAreAnswered :
    (∃ (s : State) (v : SpdmVia) (k : Fin 8), viaOpen s v = true ∧ k ≠ 0) ∧
    (∃ (s : State) (v : _), viaOpen s v = true ∧ domOn s 1 = false) ∧
    (∃ (s : State) (v : _), viaOpen s v = true ∧ domOn s 1 = false) ∧
    (∃ (s : State) (v : _), viaOpen s v = true ∧ domOn s 1 = false) ∧
    (∃ (s : State) (v : SpdmVia) (i : BitVec 8), viaOpen s v = true ∧ domOn s 1 = true ∧ (i.toNat ≤ 5 ∨ i.toNat = 0xFF)) ∧
    (∃ (s : State) (v : _), viaOpen s v = true ∧ domOn s 1 = true) ∧
    (∃ (s : State) (v : _), viaOpen s v = true ∧ domOn s 1 = true ∧ (sessionMax v ≤ (sessionsAt s v).length ∨ s.sec.entropyOk = false)) ∧
    (∃ (s : State) (v : _) (id : _), viaOpen s v = true ∧ domOn s 1 = true ∧ (sessionsAt s v).length < sessionMax v ∧ s.sec.entropyOk = true
      ∧ (∀ x ∈ sessionsAt s v, x.id ≠ id)) ∧
    (∃ (s : State) (v : _) (id : _) (k : _), viaOpen s v = true ∧ domOn s 1 = true ∧ sessionsAt s v = [{ id := id, established := false, keyGen := k }]) ∧
    (∃ (s : State) (v : _) (id : _) (k : _), viaOpen s v = true ∧ domOn s 1 = true ∧ sessionsAt s v = [{ id := id, established := true, keyGen := k }]) := by
  refine ⟨⟨svc, .doe 0, 1, ?_⟩,
    ⟨stby, .sideband, ?_⟩,
    ⟨stby, .sideband, ?_⟩,
    ⟨stby, .sideband, ?_⟩,
    ⟨svc, .doe 0, 5, ?_⟩,
    ⟨svc, .sideband, ?_⟩,
    ⟨{ svc with sec := { svc.sec with entropyOk := false } : State }, .sideband, ?_⟩,
    ⟨svc, (.doe 3), 1, ?_⟩,
    ⟨{ svc with ports := [(0, { portUp with sessions := [{ id := 1, established := false, keyGen := 0 }] })] : State }, (.doe 0), 1, 0, ?_⟩,
    ⟨{ svc with ports := [(0, { portUp with sessions := [{ id := 1, established := true, keyGen := 0 }] })] : State }, (.doe 0), 1, 0, ?_⟩⟩ <;>
    ((try unfold Issued); (try unfold Quiescent); (try and_intros) <;> first | decide +kernel | rfl | (left; decide +kernel) | (intros; decide +kernel))

/-- What the clauses of JtagReachesWhatItMay assume can hold. -/
theorem witness_JtagReachesWhatItMay :
    (∃ s : State, s.pwr.st ≠ .off ∧ s.pwr.st ≠ .service) ∧
    (∃ (s : State) (dpa : Nat), s.pwr.st = .service ∧ (wellAt s.tabs.wells dpa = none ∨ (∃ i w, wellAt s.tabs.wells dpa = some (i, w) ∧
      w.prot = true))) ∧
    (∃ (s : State) (dpa i k : Nat) (w : Well) (x : WayT), regB s .security 0 7 0 = true ∧ s.pwr.st = .service ∧ s.pair.role = .unpaired ∧
      s.cmds.sanitizing = false ∧ wellAt s.tabs.wells dpa = some (i, w) ∧ w.prot = false ∧ s.cache.ways = [(k, x)] ∧ x.v = true ∧ x.dln =
      dlnOf dpa ∧ findWay s (dlnOf dpa) = some (k, x) ∧ isHome s (ltnOf (dlnOf dpa)) = true ∧ handHolds s (ltnOf (dlnOf dpa)) = false ∧
      s.cist.waits = [] ∧ s.cmds.hold = [] ∧ s.cache.upset = [] ∧ lockHeld s (dlnOf dpa) = false) ∧
    (∃ (s : State), s.pwr.st = .standby ∧ regB s .security 0 7 1 = true) ∧
    (∃ (s : State) (d : Domain), s.pwr.st = .standby ∧ regB s .security 0 7 1 = true ∧ s.pwr.testMode = true ∧ d.val ≠ 0) ∧
    (∃ (s : State), s.pwr.st = .standby ∧ regB s .security 0 7 1 = true) ∧
    (∃ (s : State), s.pwr.st ≠ .off ∧ (s.pwr.st ≠ .standby ∨ regB s .security 0 7 1 = false)) := by
  refine ⟨⟨stby, ?_⟩,
    ⟨{ svc with tabs := { svc.tabs with wells := [] } }, 0, by decide +kernel, .inl rfl⟩,
    ⟨{ withLine (withTile svc) 0 false with regs := [(2311, { act := 1, pend := 1, rc := 0 })] }, 0, 0, wayKey (sliceOf cacheReset 0) (setOf 0) 0, well0, wayOf 0 false, ?_⟩,
    ⟨{ stby with regs := [(2311, { act := 2, pend := 2, rc := 0 })] : State }, ?_⟩,
    ⟨{ stby with regs := [(2311, { act := 2, pend := 2, rc := 0 })], pwr := { stby.pwr with testMode := true } : State }, 79, ?_⟩,
    ⟨{ stby with regs := [(2311, { act := 2, pend := 2, rc := 0 })] : State }, ?_⟩,
    ⟨svc, ?_⟩⟩ <;>
    ((try unfold Issued); (try unfold Quiescent); (try and_intros) <;> first | decide +kernel | rfl | (left; decide +kernel) | (intros; decide +kernel))

/-- What the clauses of RingRegistersAndApplyPoints assume can hold. -/
theorem witness_RingRegistersAndApplyPoints :
    (∃ (s : State) (p : Port) (v : BitVec 64), s.pwr.st ≠ .off ∧ domOn s (2 + p.val) = true ∧ v.toNat < 4096 ∧ (ringAt s p.val).tail < 4096
      ∧ (ringAt s p.val).cplHead < 4096 ∧ v.toNat < cmdSize s p.val) ∧
    (∃ (s : State) (p : Port) (v : BitVec 64), s.pwr.st ≠ .off ∧ domOn s (2 + p.val) = true ∧ v.toNat < 4096 ∧ (ringAt s p.val).tail < 4096
      ∧ (ringAt s p.val).cplHead < 4096 ∧ cmdSize s p.val ≤ v.toNat) ∧
    (∃ (s : State) (p : Port) (v : BitVec 64), s.pwr.st ≠ .off ∧ domOn s (2 + p.val) = true ∧ v.toNat < 4096 ∧ (ringAt s p.val).tail < 4096
      ∧ (ringAt s p.val).cplHead < 4096) ∧
    (∃ (s : State) (p : Port), domOn s (2 + p.val) = true ∧ regB s .ring p.val 7 0 = false ∧ bitOf (cellAt s .ring p.val 7).pend.toNat 0 =
      true) ∧
    (∃ (s : State) (p : Port), domOn s (2 + p.val) = true ∧ regB s .ring p.val 7 0 = true ∧ bitOf (cellAt s .ring p.val 7).pend.toNat 0 =
      false) ∧
    (∃ (s : State) (p : Port), domOn s (2 + p.val) = true ∧ bitOf (cellAt s .ring p.val 7).pend.toNat 0 = regB s .ring p.val 7 0) ∧
    (∃ (s : State) (p : Port), domOn s (2 + p.val) = false) ∧
    (∃ (s : State), domOn s 6 = true ∧ (works s = true → s.pair.role = .unpaired → regB s .spinel 0 2 0 = true ∨ bitOf (cellAt s .spinel 0
      2).pend.toNat 0 = false)) ∧
    (∃ (s : State), domOn s 6 = true ∧ works s = true ∧ s.pair.role = .unpaired ∧ regB s .spinel 0 2 0 = false ∧ bitOf (cellAt s .spinel 0
      2).pend.toNat 0 = true ∧ peerPageNat s = none) ∧
    (∃ (s : State), domOn s 6 = true) ∧
    (∃ (s : State), regB s .quartz 0 11 0 = false) := by
  refine ⟨⟨svc, 0, 63, ?_⟩,
    ⟨svc, 0, 64, ?_⟩,
    ⟨svc, 0, 4095, ?_⟩,
    ⟨{ svc with regs := [(775, { act := 0, pend := 1, rc := 0 })] : State }, 0, ?_⟩,
    ⟨{ svc with regs := [(775, { act := 1, pend := 0, rc := 0 })] : State }, 0, ?_⟩,
    ⟨svc, 0, ?_⟩,
    ⟨stby, 0, ?_⟩,
    ⟨svc, ?_⟩,
    ⟨{ svc with pair := { svc.pair with linkUp := true }, regs := [(1282, { act := 0, pend := 1, rc := 0 })] : State }, ?_⟩,
    ⟨svc, ?_⟩,
    ⟨svc, ?_⟩⟩ <;>
    ((try unfold Issued); (try unfold Quiescent); (try and_intros) <;> first | decide +kernel | rfl | (left; decide +kernel) | (intros; decide +kernel))

/-- What the clauses of LinesPatternsAndBins assume can hold. -/
theorem witness_LinesPatternsAndBins :
    (∃ (l : _), l < 256) ∧
    (∃ (f : _), f < 256) ∧
    (∃ (s : State) (p : Port) (hpa : _) (env : RdEnv) (dln : _), memOpen s p.val = true ∧ (portAt s p.val).rdOut < reqPool s p.val ∧
      portCheck s p.val hpa = .pass dln ∧ forwards s (ltnOf dln) = false ∧ lockHeld s dln = false ∧ findWay s dln = none ∧ findCis s dln =
      none ∧ env.mapUe = false ∧ tlbEn s = false ∧ pageHere s (pageOf (ltnOf dln)) = true ∧ s.mapu.overflow = [] ∧ (entryAt s (ltnOf
      dln)).st = .const ∧ boundNow s p.val = none) := by
  refine ⟨⟨255, ?_⟩,
    ⟨255, ?_⟩,
    ⟨{ svc with tabs := { svc.tabs with map := [(0, { entryInit with st := .const, ptn := 0xA5 })] }, regs := [(1414, { act := 0, pend := 0, rc := 0 })] : State }, 0, 64, { lat := 200, arr := .none, mapUe := false }, 1, ?_⟩⟩ <;>
    ((try unfold Issued); (try unfold Quiescent); (try and_intros) <;> first | decide +kernel | rfl | (left; decide +kernel) | (intros; decide +kernel))

end Sys2Proof.Tests
end

