-- ==== Sys2Proof/Tests/WitnessB.lean ====
section
/-! SUPPORT. For every statement with hypotheses, states and operands that meet them, clause by clause. -/

set_option linter.all false
set_option Elab.async false

namespace Sys2Proof.Tests

open Sys2Proof Sys2Proof.Machine Sys2Proof.Safety

/-- What the clauses of BootStepsFollowInOrder assume can hold. -/
theorem witness_BootStepsFollowInOrder :
    (∃ (s : State), s.pwr.st = .boot ∧ s.pwr.bootStep = 1 ∧ (domAt s 1).st = 2 ∧ (∀ n < 8, sliceRetiredPg s n = false) ∧ (∀ n < 8, 12 ≤
      openWays s n)) ∧
    (∃ (s : State), s.pwr.st = .boot ∧ s.pwr.bootStep = 1 ∧ (domAt s 1).st ≠ 2) ∧
    (∃ (s : State), s.pwr.st = .boot ∧ s.pwr.bootStep = 2) ∧
    (∃ (s : State) (d : Domain), s.pwr.st = .boot ∧ (s.pwr.seqStep < 2 ∨ d.val ∈ upStep s.pwr.seqStep) ∧ (d.val < 48 ∨ s.pwr.coolSince =
      none) ∧ (domAt s d.val).st = 1 ∧ (domAt s d.val).cause = 0) ∧
    (∃ (s : State) (d : Domain) (how : QualEnd), s.pwr.st = .boot ∧ (domAt s d.val).st = 1 ∧ (domAt s d.val).cause = 0 ∧ how ≠ .ok ∧ (domAt
      s d.val).attempts < 3) ∧
    (∃ (s : State) (d : Domain), s.pwr.st = .boot ∧ (domAt s d.val).st = 1 ∧ (domAt s d.val).cause ≠ 0 ∧ (domAt s d.val).attempts < 3) ∧
    (∃ (s : State), s.pwr.st = .boot ∧ s.pwr.bootStep = 3 ∧ s.pwr.seqStep = 0) ∧
    (∃ (s : State), s.pwr.st = .boot ∧ s.pwr.bootStep = 3 ∧ s.pwr.seqStep = 0) ∧
    (∃ (s : State), s.pwr.st = .boot ∧ s.pwr.bootStep = 4) := by
  refine ⟨⟨(inState .boot 1), ?_⟩,
    ⟨{ (inState .boot 1) with pwr := { (inState .boot 1).pwr with doms := [] } : State }, ?_⟩,
    ⟨(inState .boot 2), ?_⟩,
    ⟨{ (inState .boot 3) with pwr := { (inState .boot 3).pwr with doms := [(8, { domInit with st := 1 })], coolSince := none } : State }, 8, ?_⟩,
    ⟨{ (inState .boot 3) with pwr := { (inState .boot 3).pwr with doms := [(8, { domInit with st := 1 })] } : State }, 8, .noPowerGood, ?_⟩,
    ⟨{ (inState .boot 3) with pwr := { (inState .boot 3).pwr with doms := [(8, { domInit with st := 1, cause := 1, attempts := 2 })] } : State }, 8, ?_⟩,
    ⟨{ (inState .boot 3) with pwr := { (inState .boot 3).pwr with seqStep := 0 } : State }, ?_⟩,
    ⟨{ (inState .boot 3) with pwr := { (inState .boot 3).pwr with seqStep := 0 } : State }, ?_⟩,
    ⟨(inState .boot 4), ?_⟩⟩ <;>
    ((try unfold Issued); (try unfold Quiescent); (try and_intros) <;> first | decide +kernel | rfl | (left; decide +kernel) | (intros; decide +kernel))

/-- What the clauses of RunningRailsStopTheModule assume can hold. -/
theorem witness_RunningRailsStopTheModule :
    (∃ (s : State) (d : Domain) (n : _), (domAt s d.val).st = 2 ∧ n < regF s .power 0 89 9 4) ∧
    (∃ (s : State) (d : Domain) (n : _), s.pwr.st = .service ∧ (domAt s d.val).st = 2 ∧ regF s .power 0 89 9 4 ≤ n) ∧
    (∃ (s : State) (d : Domain), s.pwr.st = .service ∧ (domAt s d.val).st = 2) ∧
    (∃ (s : State), s.pwr.st = .drain ∧ s.pwr.mainOn = true) := by
  refine ⟨⟨svc, 8, 0, ?_⟩,
    ⟨svc, 8, 511, ?_⟩,
    ⟨svc, 79, ?_⟩,
    ⟨(inState .drain 7), ?_⟩⟩ <;>
    ((try unfold Issued); (try unfold Quiescent); (try and_intros) <;> first | decide +kernel | rfl | (left; decide +kernel) | (intros; decide +kernel))

/-- What the clauses of ReportsLatchByClass assume can hold. -/
theorem witness_ReportsLatchByClass :
    (∃ (s : State) (c : _), s.pwr.st ≠ .off ∧ codeClass c = 4) ∧
    (∃ (s : State) (c : _), s.pwr.st ≠ .off ∧ 0x0201 ≤ c ∧ c ≤ 0x0207 ∧ s.flt.uc.valid = false) ∧
    (∃ (s : State) (c : _), s.pwr.st = .standby ∧ 0x0301 ≤ c ∧ c ≤ 0x0308 ∧ s.flt.ft.valid = false) ∧
    (∃ (s : State) (c : _), s.pwr.st = .standby ∧ 0x0301 ≤ c ∧ c ≤ 0x0308 ∧ s.flt.ft.valid = true) := by
  refine ⟨⟨svc, 0x400, ?_⟩,
    ⟨svc, 0x201, ?_⟩,
    ⟨stby, 0x308, ?_⟩,
    ⟨{ stby with flt := { stby.flt with ft := { latchInit with valid := true, code := 0x301 } } : State }, 0x301, ?_⟩⟩ <;>
    ((try unfold Issued); (try unfold Quiescent); (try and_intros) <;> first | decide +kernel | rfl | (left; decide +kernel) | (intros; decide +kernel))

/-- What the clauses of FlitsReplayUntilAcknowledged assume can hold. -/
theorem witness_FlitsReplayUntilAcknowledged :
    (∃ (s : State), s.pair.linkUp = true) ∧
    (∃ (s : State) (q : _) (ft : _) (n : _) (r : _), s.pair.linkUp = true ∧ s.pair.flits = (q, ft, n) :: r ∧ ft + 4000 ≤ s.pwr.time) ∧
    (∃ (s : State) (q : _) (ft : _) (n : _) (r : _), s.pair.linkUp = true ∧ s.pair.flits = (q, ft, n) :: r ∧ s.pwr.time < ft + 4000) ∧
    (∃ (s : State) (k : Fin 1024), s.pair.linkUp = true ∧ flitsAfter s.pair.flits k.val = [] ∧ s.pair.txq = [] ∧ Quiescent s) ∧
    (∃ (s : State) (k : Fin 1024) (q : _) (ft : _) (n : _) (r : _), s.pair.linkUp = true ∧ flitsAfter s.pair.flits k.val = (q, ft, n) :: r ∧
      s.pair.txq = [] ∧ Quiescent s ∧ (∀ x ∈ (q, ft, n) :: r, x.2.2 < 7)) ∧
    (∃ (s : State), s.pair.linkUp = true ∧ s.pair.txq = [] ∧ Quiescent s) ∧
    (∃ (s : State) (lanes : _) (cable : _), s.pair.linkUp = true ∧ (cable = true ∨ lanes < 8)) ∧
    (∃ (s : State) (lanes : _), s.pair.linkUp = true ∧ 8 ≤ lanes) := by
  refine ⟨⟨psvc, ?_⟩,
    ⟨{ psvc with pair := { psvc.pair with flits := [(0, 10 ^ 12 - 4000, 0)] } : State }, 0, (10 ^ 12 - 4000), 0, [], ?_⟩,
    ⟨{ psvc with pair := { psvc.pair with flits := [(0, 10 ^ 12 - 3990, 0)] } : State }, 0, (10 ^ 12 - 3990), 0, [], ?_⟩,
    ⟨psvc, 0, ?_⟩,
    ⟨{ psvc with pair := { psvc.pair with flits := [(3, 5, 0), (4, 6, 0)], fseq := 5 } : State }, 3, 4, 6, 0, [], ?_⟩,
    ⟨{ psvc with pair := { psvc.pair with flits := [(3, 10 ^ 12 - 10, 0), (4, 10 ^ 12 - 5, 0)], fseq := 5 } : State }, ?_⟩,
    ⟨psvc, 7, false, ?_⟩,
    ⟨psvc, 8, ?_⟩⟩ <;>
    ((try unfold Issued); (try unfold Quiescent); (try and_intros) <;> first | decide +kernel | rfl | (left; decide +kernel) | (intros; decide +kernel))

/-- What the clauses of PeerReadsAreAnsweredOnce assume can hold. -/
theorem witness_PeerReadsAreAnsweredOnce :
    (∃ (s : State), works s = true ∧ s.pair.role ≠ .resync) ∧
    (∃ (s : State) (dln : _) (k : _) (w : _), works s = true ∧ s.pair.role = .resync ∧ s.pair.syncSrc = true ∧ lockHeld s dln = false ∧
      s.cache.upset = [] ∧ findWay s dln = some (k, w) ∧ w.p = false ∧ s.pair.txq = [] ∧ s.pair.flits.length < 512) ∧
    (∃ (s : State), hears s = true ∧ s.pair.fwdRds = []) ∧
    (∃ (s : State) (mtag : _) (rd : _) (dln : _), hears s = true ∧ s.pair.fwdRds = [⟨mtag, dln, rd⟩]) ∧
    (∃ (s : State) (dln : _) (k : _) (w : _), works s = true ∧ s.pair.txq = [] ∧ s.cache.upset = [] ∧ findWay s dln = some (k, w) ∧
      s.pair.flits.length < 512) ∧
    (∃ (s : State), works s = true ∧ s.pair.repairs = [] ∧ s.wear.moves = []) ∧
    (∃ (s : State), hears s = true) := by
  refine ⟨⟨psvc, ?_⟩,
    ⟨(withLine rsvc 0 false), 0, (wayKey (sliceOf cacheReset 0) (setOf 0) 0), (wayOf 0 false), ?_⟩,
    ⟨psvc, ?_⟩,
    ⟨{ psvc with pair := { psvc.pair with fwdRds := [⟨1, 0, { port := 1, tag := 9, cmp := true, bound := none, at_ := 10 ^ 12 - 100, lat0 := 0 }⟩] } : State }, 1, { port := 1, tag := 9, cmp := true, bound := none, at_ := 10 ^ 12 - 100, lat0 := 0 }, 0, ?_⟩,
    ⟨(withLine psvc 0 false), 0, (wayKey (sliceOf cacheReset 0) (setOf 0) 0), (wayOf 0 false), ?_⟩,
    ⟨psvc, ?_⟩,
    ⟨psvc, ?_⟩⟩ <;>
    ((try unfold Issued); (try unfold Quiescent); (try and_intros) <;> first | decide +kernel | rfl | (left; decide +kernel) | (intros; decide +kernel))

/-- What the clauses of PairCommandsWaitForTheirOrder assume can hold. -/
theorem witness_PairCommandsWaitForTheirOrder :
    (∃ (s : State), works s = true ∧ mirroring s = false ∧ s.pair.role ≠ .joining) ∧
    (∃ (s : State), works s = true ∧ mirroring s = true ∧ s.pwr.seat = false) ∧
    (∃ (s : State), works s = true ∧ mirroring s = true ∧ s.pwr.seat = true) ∧
    (∃ (s : State), works s = true ∧ mirroring s = true ∧ Quiescent s) ∧
    (∃ (s : State) (q : _), works s = true ∧ mirroring s = true ∧ taskAt s q = none) := by
  refine ⟨⟨{ svc with pair := { svc.pair with linkUp := true } : State }, ?_⟩,
    ⟨psvc, ?_⟩,
    ⟨{ psvc with pwr := { psvc.pwr with seat := true } : State }, ?_⟩,
    ⟨psvc, ?_⟩,
    ⟨psvc, 0, ?_⟩⟩ <;>
    ((try unfold Issued); (try unfold Quiescent); (try and_intros) <;> first | decide +kernel | rfl | (left; decide +kernel) | (intros; decide +kernel))

/-- What the clauses of TilesSyncOneByOne assume can hold. -/
theorem witness_TilesSyncOneByOne :
    (∃ (s : State), s.pair.role = .resync ∧ s.pair.syncSrc = true ∧ s.pair.linkUp = true ∧ s.pwr.st = .service ∧ s.pair.hand = .none ∧
      s.pair.syncing = none ∧ s.pair.mir = 0) ∧
    (∃ (s : State) (l : _), s.pair.role = .resync ∧ s.pair.syncSrc = true ∧ s.pair.linkUp = true ∧ s.pwr.st = .service ∧ s.pair.hand = .none
      ∧ s.pair.syncing = none ∧ 0 < s.pair.mir ∧ nextSync s = some l ∧ pageHere s (pageOf l) = true ∧ syncClass s l = (.unwritten, 0, []) ∧
      s.pair.txq = [] ∧ s.pair.flits.length < 511) ∧
    (∃ (s : State), works s = true ∧ Quiescent s ∧ s.pair.role = .resync ∧ s.pair.isTarget = true) ∧
    (∃ (s : State) (dln : _), works s = true ∧ s.pair.role = .resync ∧ s.pair.isTarget = true ∧ dln ∈ s.pair.fresh) ∧
    (∃ (s : State) (dln : _) (k : _) (old : _), works s = true ∧ s.pair.role = .resync ∧ s.pair.isTarget = true ∧ ¬ dln ∈ s.pair.fresh ∧
      Quiescent s ∧ s.cist.waits = [] ∧ lockHeld s dln = false ∧ s.cache.upset = [] ∧ findWay s dln = some (k, old)) ∧
    (∃ (s : State), s.pwr.st = .service ∧ s.pair.linkUp = true ∧ s.pair.role = .resync ∧ s.pair.isTarget = true ∧ Quiescent s ∧ s.cist.waits
      = [] ∧ s.pair.txq = [] ∧ s.pair.flits.length < 512) ∧
    (∃ (s : State) (ltn : _), works s = true ∧ s.pair.role = .resync ∧ s.pair.syncSrc = true ∧ s.pair.syncing = some ltn) ∧
    (∃ (s : State) (ltn : _), hears s = true ∧ s.pair.syncing ≠ some ltn) := by
  refine ⟨⟨{ rsvc with pair := { rsvc.pair with mir := 0 } : State }, ?_⟩,
    ⟨{ rsvc with pair := { rsvc.pair with sync := [(0, true)] } : State }, 0, ?_⟩,
    ⟨{ rsvc with pair := { rsvc.pair with syncSrc := false, isTarget := true } : State }, ?_⟩,
    ⟨{ rsvc with pair := { rsvc.pair with syncSrc := false, isTarget := true, fresh := [3] } : State }, 3, ?_⟩,
    ⟨{ (withLine rsvc 0 false) with pair := { (withLine rsvc 0 false).pair with syncSrc := false, isTarget := true } : State }, 0, (wayKey (sliceOf cacheReset 0) (setOf 0) 0), (wayOf 0 false), ?_⟩,
    ⟨{ rsvc with pair := { rsvc.pair with syncSrc := false, isTarget := true, sync := [(0, true)] } : State }, ?_⟩,
    ⟨{ rsvc with pair := { rsvc.pair with syncing := some 0, sync := [(0, true)] } : State }, 0, ?_⟩,
    ⟨rsvc, 0, ?_⟩⟩ <;>
    ((try unfold Issued); (try unfold Quiescent); (try and_intros) <;> first | decide +kernel | rfl | (left; decide +kernel) | (intros; decide +kernel))

/-- What the clauses of RequestsWithoutDataComplete assume can hold. -/
theorem witness_RequestsWithoutDataComplete :
    (∃ (s : State) (p : Port), memOpen s p.val = true) ∧
    (∃ (s : State) (p : Port), memOpen s p.val = true ∧ s.ag.badSlots.length < 2048) ∧
    (∃ (s : State) (p : Port), memOpen s p.val = false) ∧
    (∃ (s : State) (p : Port), (portAt s p.val).linkUp = true) := by
  refine ⟨⟨svc, 0, ?_⟩,
    ⟨svc, 0, ?_⟩,
    ⟨stby, 0, ?_⟩,
    ⟨svc, 0, ?_⟩⟩ <;>
    ((try unfold Issued); (try unfold Quiescent); (try and_intros) <;> first | decide +kernel | rfl | (left; decide +kernel) | (intros; decide +kernel))

/-- What the clauses of SensesEndByTheirResult assume can hold. -/
theorem witness_SensesEndByTheirResult :
    (∃ (s : State) (sid : _), senseAt s sid false = none) ∧
    (∃ (s : State) (sid : _), senseAt s sid true = none) ∧
    (∃ (s : State) (sid : _) (x : _), senseAt s sid false = some x ∧ senseRuns s x = false) ∧
    (∃ (s : State) (sid : _) (res : _) (x : _) (r : _), senseAt s sid false = some x ∧ senseRuns s x = true ∧ x.waiters = [.host r] ∧
      r.bound = none ∧ senseFrame s x.ptn.toNat x.fslot res false = .never ∧ findWay s x.dln = none ∧ zeroPolicy s x.dln = true) ∧
    (∃ (s : State) (sid : _) (res : _) (x : _) (r : _) (d : _) (po : _) (pc : _) (k : _), s.pwr.st = .service ∧ senseAt s sid false = some x
      ∧ senseRuns s x = true ∧ x.stale = false ∧ x.waiters = [.host r] ∧ r.bound = none ∧ senseFrame s x.ptn.toNat x.fslot res false = .line
      d po pc 0 ∧ findWay s x.dln = none ∧ victimWay s x.dln cleanOk = some k ∧ (sGet wayInit s.cache.ways k).v = false) ∧
    (∃ (s : State) (sid : _) (res : _) (x : _), senseAt s sid false = some x ∧ senseRuns s x = true ∧ x.prefetch = false ∧ senseFrame s
      x.ptn.toNat x.fslot res false = .again) ∧
    (∃ (s : State) (sid : _) (res : _) (x : _), senseAt s sid false = some x ∧ senseRuns s x = true ∧ x.prefetch = true ∧ x.waiters = [] ∧
      senseFrame s x.ptn.toNat x.fslot res false = .again) ∧
    (∃ (s : State) (sid : _) (res : _) (x : _) (r : _) (d : _) (po : _) (pc : _) (k : _), s.pwr.st = .service ∧ senseAt s sid true = some x
      ∧ senseRuns s x = true ∧ x.stale = false ∧ x.waiters = [.host r] ∧ r.bound = none ∧ senseFrame s x.ptn.toNat x.fslot res true = .line
      d po pc 0 ∧ findWay s x.dln = none ∧ victimWay s x.dln cleanOk = some k ∧ (sGet wayInit s.cache.ways k).v = false) ∧
    (∃ (s : State) (page : _), demandOf s page = none) ∧
    (∃ (s : State) (page : _) (m : _) (x : _) (r : _) (d : _), s.pwr.warm = false ∧ demandOf s page = some m ∧ nodeTile s page = none ∧
      s.med.senses = [x] ∧ x.waitPage = true ∧ pageOf (ltnOf x.dln) = page ∧ x.waiters = [.host r] ∧ r.bound = none ∧ mapAns s x.dln =
      .const d ∧ findWay s x.dln = none) := by
  refine ⟨⟨svc, 4, ?_⟩,
    ⟨svc, 4, ?_⟩,
    ⟨{ (withTile svc) with med := { (withTile svc).med with senses := [{ sid := 4, prefetch := false, dln := 0, ptn := 64, fslot := 0, gen := 1, epoch := 0, refs := 0, waitPage := false, retrying := false, stale := false, flags := flags0, waiters := [.host { port := 1, tag := 9, cmp := true, bound := none, at_ := 10 ^ 12 - 100, lat0 := 0 }] }], frames := [(frameKey 64 0, writtenFrame svc 64 0 1 0 7 false 0)], ops := [{ kind := .program (.line 9), die := 0, part := 0, ptn := 64, fslot := 0, frame := writtenFrame svc 64 0 1 0 7 false 0, fails := 0, suspended := false }] } : State }, 4, { sid := 4, prefetch := false, dln := 0, ptn := 64, fslot := 0, gen := 1, epoch := 0, refs := 0, waitPage := false, retrying := false, stale := false, flags := flags0, waiters := [.host { port := 1, tag := 9, cmp := true, bound := none, at_ := 10 ^ 12 - 100, lat0 := 0 }] }, ?_⟩,
    ⟨{ (withTile svc) with med := { (withTile svc).med with senses := [{ sid := 4, prefetch := false, dln := 0, ptn := 64, fslot := 0, gen := 1, epoch := 0, refs := 0, waitPage := false, retrying := false, stale := false, flags := flags0, waiters := [.host { port := 1, tag := 9, cmp := true, bound := none, at_ := 10 ^ 12 - 100, lat0 := 0 }] }] }, tabs := { (withTile svc).tabs with wells := [(0, { well0 with ruZero := true })] } : State }, 4, { errs := 0, markerOk := true }, { sid := 4, prefetch := false, dln := 0, ptn := 64, fslot := 0, gen := 1, epoch := 0, refs := 0, waitPage := false, retrying := false, stale := false, flags := flags0, waiters := [.host { port := 1, tag := 9, cmp := true, bound := none, at_ := 10 ^ 12 - 100, lat0 := 0 }] }, { port := 1, tag := 9, cmp := true, bound := none, at_ := 10 ^ 12 - 100, lat0 := 0 }, ?_⟩,
    ⟨{ (withTile svc) with med := { (withTile svc).med with senses := [{ sid := 4, prefetch := false, dln := 0, ptn := 64, fslot := 0, gen := 1, epoch := 0, refs := 0, waitPage := false, retrying := false, stale := false, flags := flags0, waiters := [.host { port := 1, tag := 9, cmp := true, bound := none, at_ := 10 ^ 12 - 100, lat0 := 0 }] }], frames := [(frameKey 64 0, writtenFrame svc 64 0 1 0 7 false 0)] } : State }, 4, { errs := 0, markerOk := true }, { sid := 4, prefetch := false, dln := 0, ptn := 64, fslot := 0, gen := 1, epoch := 0, refs := 0, waitPage := false, retrying := false, stale := false, flags := flags0, waiters := [.host { port := 1, tag := 9, cmp := true, bound := none, at_ := 10 ^ 12 - 100, lat0 := 0 }] }, { port := 1, tag := 9, cmp := true, bound := none, at_ := 10 ^ 12 - 100, lat0 := 0 }, 7, false, 0, (wayKey (sliceOf cacheReset 0) (setOf 0) 0), ?_⟩,
    ⟨{ (withTile svc) with med := { (withTile svc).med with senses := [{ sid := 4, prefetch := false, dln := 0, ptn := 64, fslot := 0, gen := 1, epoch := 0, refs := 0, waitPage := false, retrying := false, stale := false, flags := flags0, waiters := [.host { port := 1, tag := 9, cmp := true, bound := none, at_ := 10 ^ 12 - 100, lat0 := 0 }] }], frames := [(frameKey 64 0, writtenFrame svc 64 0 1 0 7 false 0)] } : State }, 4, { errs := 5, markerOk := true }, { sid := 4, prefetch := false, dln := 0, ptn := 64, fslot := 0, gen := 1, epoch := 0, refs := 0, waitPage := false, retrying := false, stale := false, flags := flags0, waiters := [.host { port := 1, tag := 9, cmp := true, bound := none, at_ := 10 ^ 12 - 100, lat0 := 0 }] }, ?_⟩,
    ⟨{ (withTile svc) with med := { (withTile svc).med with senses := [{ sid := 4, prefetch := true, dln := 0, ptn := 64, fslot := 0, gen := 1, epoch := 0, refs := 0, waitPage := false, retrying := false, stale := false, flags := flags0, waiters := [] }], frames := [(frameKey 64 0, writtenFrame svc 64 0 1 0 7 false 0)] } : State }, 4, { errs := 5, markerOk := true }, { sid := 4, prefetch := true, dln := 0, ptn := 64, fslot := 0, gen := 1, epoch := 0, refs := 0, waitPage := false, retrying := false, stale := false, flags := flags0, waiters := [] }, ?_⟩,
    ⟨{ (withTile svc) with med := { (withTile svc).med with senses := [{ sid := 4, prefetch := false, dln := 0, ptn := 64, fslot := 0, gen := 1, epoch := 0, refs := 0, waitPage := false, retrying := true, stale := false, flags := flags0, waiters := [.host { port := 1, tag := 9, cmp := true, bound := none, at_ := 10 ^ 12 - 100, lat0 := 0 }] }], frames := [(frameKey 64 0, writtenFrame svc 64 0 1 0 7 false 0)] } : State }, 4, { errs := 0, markerOk := true }, { sid := 4, prefetch := false, dln := 0, ptn := 64, fslot := 0, gen := 1, epoch := 0, refs := 0, waitPage := false, retrying := true, stale := false, flags := flags0, waiters := [.host { port := 1, tag := 9, cmp := true, bound := none, at_ := 10 ^ 12 - 100, lat0 := 0 }] }, { port := 1, tag := 9, cmp := true, bound := none, at_ := 10 ^ 12 - 100, lat0 := 0 }, 7, false, 0, (wayKey (sliceOf cacheReset 0) (setOf 0) 0), ?_⟩,
    ⟨svc, 0, ?_⟩,
    ⟨{ svc with med := { svc.med with senses := [{ sid := 4, prefetch := false, dln := 0, ptn := 64, fslot := 0, gen := 1, epoch := 0, refs := 0, waitPage := true, retrying := false, stale := false, flags := flags0, waiters := [.host { port := 1, tag := 9, cmp := true, bound := none, at_ := 10 ^ 12 - 100, lat0 := 0 }] }] }, mapu := { svc.mapu with resident := [], demand := [{ page := 0, first := 0, frames := 1, flags := flags0 }] }, tabs := { svc.tabs with map := [(0, { entryInit with st := .const, ptn := 0xA5 })] } : State }, 0, { page := 0, first := 0, frames := 1, flags := flags0 }, { sid := 4, prefetch := false, dln := 0, ptn := 64, fslot := 0, gen := 1, epoch := 0, refs := 0, waitPage := true, retrying := false, stale := false, flags := flags0, waiters := [.host { port := 1, tag := 9, cmp := true, bound := none, at_ := 10 ^ 12 - 100, lat0 := 0 }] }, { port := 1, tag := 9, cmp := true, bound := none, at_ := 10 ^ 12 - 100, lat0 := 0 }, (patternLine 0xA5), ?_⟩⟩ <;>
    ((try unfold Issued); (try unfold Quiescent); (try and_intros) <;> first | decide +kernel | rfl | (left; decide +kernel) | (intros; decide +kernel))

/-- What the clauses of DriftIsWatched assume can hold. -/
theorem witness_DriftIsWatched :
    (∃ (s : State), now s < s.drift.unitStart + unitNs) ∧
    (∃ (s : State), s.pwr.st ≠ .off ∧ (s.pwr.st ≠ .standby ∨ s.pwr.bootStep ≠ 0) ∧ s.drift.unitStart + unitNs ≤ now s) ∧
    (∃ (s : State), s.pwr.st ≠ .service) ∧
    (∃ (s : State) (ltn : _), s.pwr.st = .service ∧ ltn < logicalTiles s.sec.variant ∧ pageHere s (pageOf ltn) = true ∧ inUse (entryAt s
      ltn) = true ∧ refreshRep s ltn = ltn ∧ moveOf s ltn = none ∧ (ledAt s (entryAt s ltn).ptn.toNat).reads = 255 ∧ s.drift.refq = []) ∧
    (∃ (s : State), s.drift.range = none ∧ s.drift.pausedAt.isSome = true) ∧
    (∃ (s : State) (line : Fin 256) (a : _) (cur : _), s.pwr.st = .service ∧ s.cmds.sanitizing = false ∧ s.drift.range = none ∧
      s.drift.pausedAt = none ∧ scrubAt s s.drift.cursor s.drift.line = some (cur, line.val) ∧ cur < 2 ^ 31 ∧ partBusy s (entryAt s
      cur).ptn.toNat = false ∧ line.val < 255 ∧ senseFrame s (entryAt s cur).ptn.toNat (fslotOf line.val (entryAt s cur).rot) a false =
      .never) ∧
    (∃ (s : State) (x : _), s.drift.pausedAt = some x ∧ x + dayNs ≤ now s) ∧
    (∃ (s : State) (x : _), s.drift.pausedAt = some x ∧ now s < x + dayNs) ∧
    (∃ (s : State) (die : _), sentinelDue s die = false ∧ sentinelNext s die = none) ∧
    (∃ (s : State) (die : _), s.pwr.st = .service ∧ dieLive s die = true ∧ sentinelNext s die = none ∧ sentinelDue s die = true) ∧
    (∃ (s : State) (die : _) (l : _), s.pwr.st = .service ∧ dieLive s die = true ∧ sentinelNext s die = some l ∧ startable s (.sentinel die
      l) = true ∧ higherWaits s (ptnDieIx (sentinelTile die (sGet 0 s.drift.sentinel die))) 10 = false ∧ 4 ≤ freeTok s (ptnDieIx
      (sentinelTile die (sGet 0 s.drift.sentinel die)))) ∧
    (∃ (s : State) (die : _) (l : _) (o : _) (ns : _), Quiescent s ∧ ns ≤ 2400 ∧ sGet 0 s.drift.sentLeft die = BitVec.ofNat 256 (2 ^ l) ∧
      findP (fun o : Op => decide (o.kind = .program (.sentinel die l)) && !o.suspended) s.med.ops = some o) := by
  refine ⟨⟨{ svc with drift := { svc.drift with unitStart := 10 ^ 12 } : State }, ?_⟩,
    ⟨{ svc with pwr := { svc.pwr with time := 10 ^ 15 } : State }, ?_⟩,
    ⟨stby, ?_⟩,
    ⟨{ (withTile svc) with wear := { (withTile svc).wear with led := [(64, { ledInit with reads := 255 })] } : State }, 0, ?_⟩,
    ⟨{ svc with drift := { svc.drift with pausedAt := some 0 } : State }, ?_⟩,
    ⟨(withTile svc), 0, { errs := 0, markerOk := true }, 0, ?_⟩,
    ⟨{ svc with drift := { svc.drift with pausedAt := some 0 }, pwr := { svc.pwr with time := 10 ^ 15 } : State }, 0, ?_⟩,
    ⟨{ svc with drift := { svc.drift with pausedAt := some (10 ^ 12) } : State }, (10 ^ 12), ?_⟩,
    ⟨{ svc with drift := { svc.drift with sentAt := [(0, 1)] } : State }, 0, ?_⟩,
    ⟨svc, 0, ?_⟩,
    ⟨{ svc with drift := { svc.drift with sentLeft := [(0, BitVec.allOnes 256)] }, cist := { svc.cist with tok := [(0, 16)] } : State }, 0, 0, ?_⟩,
    ⟨{ svc with drift := { svc.drift with sentLeft := [(0, BitVec.ofNat 256 (2 ^ 3))] }, med := { svc.med with ops := [{ kind := .program (.sentinel 0 3), die := 0, part := 0, ptn := (sentinelTile 0 0), fslot := 3, frame := writtenFrame svc 0 3 0 0 7 false 0, fails := 0, suspended := false }] } : State }, 0, 3, { kind := .program (.sentinel 0 3), die := 0, part := 0, ptn := (sentinelTile 0 0), fslot := 3, frame := writtenFrame svc 0 3 0 0 7 false 0, fails := 0, suspended := false }, 1600, ?_⟩⟩ <;>
    ((try unfold Issued); (try unfold Quiescent); (try and_intros) <;> first | decide +kernel | rfl | (left; decide +kernel) | (intros; decide +kernel))

/-- What the clauses of ZirconPlansAndMeasures assume can hold. -/
theorem witness_ZirconPlansAndMeasures :
    (∃ (s : State) (c : Fin 8), causeHolds s c.val = false) ∧
    (∃ (s : State) (c : Fin 8), s.pwr.st = .service ∧ s.zir.forming = none ∧ causeHolds s c.val = true ∧ causeReady s c.val = true) ∧
    (∃ (s : State), s.zir.forming = none) ∧
    (∃ (s : State) (x : _), s.pwr.st = .service ∧ s.zir.forming = some x) ∧
    (∃ (s : State), s.pwr.st ≠ .service) ∧
    (∃ (s : State), s.pwr.st ≠ .service) ∧
    (∃ (s : State) (x : _), s.pwr.st = .service ∧ 300 ≤ x ∧ x ≤ 0x3FF ∧ s.zir.sensFrom = none ∧ s.zir.checkReq = none) ∧
    (∃ (s : State) (x : _), s.pwr.st = .service ∧ x < 300 ∧ s.zir.sensFrom = none ∧ s.zir.checkReq = none ∧ s.pwr.vcore < vcoreTop s) ∧
    (∃ (s : State) (x : _), s.pwr.st = .service ∧ x < 300 ∧ s.zir.sensFrom = none ∧ s.zir.checkReq = none ∧ vcoreTop s ≤ s.pwr.vcore ∧
      s.zir.guardShort = false) ∧
    (∃ (s : State) (a : _) (b : _), s.pwr.st = .service ∧ (portAt s 0).linkUp = true ∧ 50 ≤ a ∧ a ≤ 0x3FF ∧ b ≤ 0x3FF) ∧
    (∃ (s : State), testDue s = false) ∧
    (∃ (s : State), s.zir.testing = false ∧ testDue s = true ∧ s.zir.testNext ≤ now s ∧ testAllowed s = true) ∧
    (∃ (s : State), s.pwr.st = .service ∧ s.zir.testing = false ∧ testDue s = true ∧ s.zir.testNext ≤ now s ∧ testAllowed s = false) ∧
    (∃ (s : State), s.zir.testing = false) ∧
    (∃ (s : State) (us : _), s.pwr.st = .service ∧ s.zir.testing = true ∧ eFail s ≤ 5145 * us * 100 ∧ s.zir.testStepMv ≤ 400 ∧ us ≤ 100000) ∧
    (∃ (s : State), s.pwr.st = .service ∧ s.zir.testing = true) := by
  refine ⟨⟨stby, 0, ?_⟩,
    ⟨{ svc with zir := { svc.zir with waiting := [3] } : State }, 3, ?_⟩,
    ⟨svc, ?_⟩,
    ⟨{ svc with zir := { svc.zir with forming := some (3, 5) } : State }, (3, 5), ?_⟩,
    ⟨stby, ?_⟩,
    ⟨stby, ?_⟩,
    ⟨svc, 300, ?_⟩,
    ⟨{ svc with pwr := { svc.pwr with vcore := 800 } : State }, 299, ?_⟩,
    ⟨{ svc with pwr := { svc.pwr with vcore := 1100 } : State }, 299, ?_⟩,
    ⟨svc, 50, 0x3FF, ?_⟩,
    ⟨svc, ?_⟩,
    ⟨{ svc with zir := { svc.zir with testReq := true } : State }, ?_⟩,
    ⟨{ svc with zir := { svc.zir with testReq := true }, pwr := { svc.pwr with vbankMv := 0 } : State }, ?_⟩,
    ⟨svc, ?_⟩,
    ⟨{ svc with zir := { svc.zir with testing := true, testStepMv := 100 } : State }, 24000, ?_⟩,
    ⟨{ svc with zir := { svc.zir with testing := true } : State }, ?_⟩⟩ <;>
    ((try unfold Issued); (try unfold Quiescent); (try and_intros) <;> first | decide +kernel | rfl | (left; decide +kernel) | (intros; decide +kernel))

/-- What the clauses of OutstandingTagsAreBusy assume can hold. -/
theorem witness_OutstandingTagsAreBusy :
    (∃ (s : State) (p : Port) (d : _), (s.pwr.st = .boot ∨ s.pwr.st = .service) ∧ domOn s (2 + p.val) = true ∧ (ringAt s p.val).enabled =
      true ∧ (ringAt s p.val).head ≠ (ringAt s p.val).tail ∧ runCount s p.val < maxRun s p.val ∧ ((∃ r ∈ s.cmds.run, r.src = p.val ∧ (descOf
      r.desc).tag = (descOf d).tag) ∨ ∃ c ∈ (ringAt s p.val).wait, c.tag = (descOf d).tag)) ∧
    (∃ (s : State) (d : _), s.pwr.st ≠ .off ∧ s.pwr.st ≠ .drain ∧ runCount s 4 < 64 ∧ (∃ r ∈ s.cmds.run, r.src = 4 ∧ (descOf r.desc).tag =
      (descOf d).tag)) := by
  refine ⟨⟨{ (running svc (fresh 0 (mkDesc 4 0 0 0 16384 0))) with rings := [(0, { ringInit with enabled := true, tail := 1 })] : State }, 0, mkDesc 4 0 0 0 16384 0, ?_⟩,
    ⟨(running svc (fresh 4 (mkDesc 4 0 0 0 16384 0))), mkDesc 4 0 0 0 16384 0, ?_⟩⟩ <;>
    ((try unfold Issued); (try unfold Quiescent); (try and_intros) <;> first | decide +kernel | rfl | (left; decide +kernel) | (intros; decide +kernel))

/-- What the clauses of RefusedDescriptorsChangeNothing assume can hold. -/
theorem witness_RefusedDescriptorsChangeNothing :
    (∃ (s : State) (r : _) (src : Src) (tag : _) (x : _), x ≠ 0 ∧ x ≠ 5 ∧ Issued s r src.val tag 0x01 ∧ checkStatus s r.src
      (wellCreateChecks s r (descOf r.desc)) = x) ∧
    (∃ (s : State) (r : _) (src : Src) (tag : _) (x : _), x ≠ 0 ∧ x ≠ 5 ∧ Issued s r src.val tag 0x02 ∧ checkStatus s r.src
      (wellDestroyChecks s r (descOf r.desc)) = x) ∧
    (∃ (s : State) (r : _) (src : Src) (tag : _) (x : _), x ≠ 0 ∧ x ≠ 5 ∧ Issued s r src.val tag 0x03 ∧ checkStatus s r.src
      (wellModifyChecks s r (descOf r.desc)) = x) ∧
    (∃ (s : State) (r : _) (src : Src) (tag : _) (x : _), x ≠ 0 ∧ x ≠ 5 ∧ Issued s r src.val tag 0x04 ∧ checkStatus s r.src (fillChecks s r
      (descOf r.desc)) = x) ∧
    (∃ (s : State) (r : _) (src : Src) (tag : _) (x : _), x ≠ 0 ∧ x ≠ 5 ∧ Issued s r src.val tag 0x05 ∧ checkStatus s r.src (cloneChecks s r
      (descOf r.desc)) = x) ∧
    (∃ (s : State) (r : _) (src : Src) (tag : _) (x : _), x ≠ 0 ∧ x ≠ 5 ∧ Issued s r src.val tag 0x06 ∧ checkStatus s r.src
      (cacheMaintChecks s r (descOf r.desc)) = x) ∧
    (∃ (s : State) (r : _) (src : Src) (tag : _) (x : _), x ≠ 0 ∧ x ≠ 5 ∧ Issued s r src.val tag 0x16 ∧ checkStatus s r.src (keyRotateChecks
      s r (descOf r.desc)) = x) ∧
    (∃ (s : State) (r : _) (src : Src) (tag : _), Issued s r src.val tag 0x12 ∧ checkStatus s r.src (capacityReleaseChecks s r (descOf
      r.desc)) = 5) ∧
    (∃ (s : State) (r : _) (src : Src) (tag : _), Issued s r src.val tag 0x10 ∧ checkStatus s r.src (sanitizeChecks s r (descOf r.desc)) =
      5) := by
  refine ⟨⟨(running (svc) (fresh 0 (mkDesc 1 0 0 0 268435456 0))), (fresh 0 (mkDesc 1 0 0 0 268435456 0)), 0, 0, 2, ?_⟩,
    ⟨(running (svc) (fresh 0 (mkDesc 2 5 0 0 0 0))), (fresh 0 (mkDesc 2 5 0 0 0 0)), 0, 0, 4, ?_⟩,
    ⟨(running (svc) (fresh 0 (mkDesc 3 5 0 0 0 1))), (fresh 0 (mkDesc 3 5 0 0 0 1)), 0, 0, 4, ?_⟩,
    ⟨(running (svc) (fresh 0 (mkDesc 4 0 1 0 16384 0))), (fresh 0 (mkDesc 4 0 1 0 16384 0)), 0, 0, 2, ?_⟩,
    ⟨(running (svc) (fresh 0 (mkDesc 5 0 0 0 16384 0))), (fresh 0 (mkDesc 5 0 0 0 16384 0)), 0, 0, 0x0A, ?_⟩,
    ⟨(running (svc) (fresh 0 (mkDesc 6 3 0 0 64 0))), (fresh 0 (mkDesc 6 3 0 0 64 0)), 0, 0, 2, ?_⟩,
    ⟨(running (svc) (fresh 0 (mkDesc 0x16 5 0 0 0 0))), (fresh 0 (mkDesc 0x16 5 0 0 0 0)), 0, 0, 4, ?_⟩,
    ⟨(running (svc) (fresh 0 (mkDesc 0x12 0 0 0 268435456 0))), (fresh 0 (mkDesc 0x12 0 0 0 268435456 0)), 0, 0, ?_⟩,
    ⟨(running (svc) (fresh 0 (mkDesc 0x10 0 0 0 0 0))), (fresh 0 (mkDesc 0x10 0 0 0 0 0)), 0, 0, ?_⟩⟩ <;>
    ((try unfold Issued); (try unfold Quiescent); (try and_intros) <;> first | decide +kernel | rfl | (left; decide +kernel) | (intros; decide +kernel))

/-- What the clauses of FirmwareIsStagedAndSelected assume can hold. -/
theorem witness_FirmwareIsStagedAndSelected :
    (∃ (s : State) (r : _) (src : Src) (tag : _) (n : _) (ns : _), Issued s r src.val tag 0x0D ∧ s.pwr.st = .boot ∧ checkStatus s r.src
      (checksOf .boot (unused r.desc 25 false false false 0 || (!bitOf (descOf r.desc).arg0 0 && decide (4096 < bitsOf (descOf r.desc).arg0
      12 1 + bitsOf (descOf r.desc).arg0 24 13)))) = 0 ∧ s.beryl.ops = [] ∧ dirtyIn s [storeRange (descOf r.desc)] = n :: ns) ∧
    (∃ (s : State) (r : _) (p : Port) (tag : _), Issued s r p.val tag 0x0E ∧ s.pwr.st = .boot ∧ checkStatus s r.src (fwStageChecks s r
      (descOf r.desc)) = 0 ∧ bitOf (descOf r.desc).arg0 1 = false) ∧
    (∃ (s : State) (r : _) (p : Port) (tag : _) (chunk : _) (i : _), Issued s r p.val tag 0x0E ∧ s.pwr.st = .boot ∧ checkStatus s r.src
      (fwStageChecks s r (descOf r.desc)) = 0 ∧ bitOf (descOf r.desc).arg0 1 = true ∧ i = imageOf s (stagedBytes s (bitOf (descOf
      r.desc).arg0 0) ++ fitBytes (descOf r.desc).len chunk)) ∧
    (∃ (s : State) (r : _) (p : Port) (tag : _), Issued s r p.val tag 0x0E ∧ s.pwr.st = .boot ∧ checkStatus s r.src (fwStageChecks s r
      (descOf r.desc)) = 0) ∧
    (∃ (s : State) (r : _) (p : Port) (tag : _), Issued s r p.val tag 0x0F ∧ s.pwr.st = .boot ∧ checkStatus s r.src { checksOf .boot (unused r.desc 1 false false false 0) with wrongState := !bitOf (descOf r.desc).arg0 0 && !isVerified s.sec.staged } = 0) := by
  refine ⟨⟨(running ({ inState .boot 3 with beryl := { berylReset with dirty := [(0, true)] } }) (fresh 0 (mkDesc 0x0D 1 0 0 0 0))), (fresh 0 (mkDesc 0x0D 1 0 0 0 0)), 0, 0, 0, [], ?_⟩,
    ⟨(running (inState .boot 3) (fresh 0 (mkDesc 0x0E 1 0 0 64 0))), (fresh 0 (mkDesc 0x0E 1 0 0 64 0)), 0, 0, ?_⟩,
    ⟨(running (inState .boot 3) (fresh 0 (mkDesc 0x0E 3 0 0 64 0))), (fresh 0 (mkDesc 0x0E 3 0 0 64 0)), 0, 0, [], (imageOf (running (inState .boot 3) (fresh 0 (mkDesc 0x0E 3 0 0 64 0))) (stagedBytes (running (inState .boot 3) (fresh 0 (mkDesc 0x0E 3 0 0 64 0))) (bitOf (descOf (mkDesc 0x0E 3 0 0 64 0)).arg0 0) ++ fitBytes (descOf (mkDesc 0x0E 3 0 0 64 0)).len [])), ?_⟩,
    ⟨(running (inState .boot 3) (fresh 0 (mkDesc 0x0E 1 0 0 64 0))), (fresh 0 (mkDesc 0x0E 1 0 0 64 0)), 0, 0, ?_⟩,
    ⟨(running (inState .boot 3) (fresh 0 (mkDesc 0x0F 1 0 0 0 0))), (fresh 0 (mkDesc 0x0F 1 0 0 0 0)), 0, 0, ?_⟩⟩ <;>
    ((try unfold Issued); (try unfold Quiescent); (try and_intros) <;> first | decide +kernel | rfl | (left; decide +kernel) | (intros; decide +kernel))

/-- What the clauses of MailboxReadsAnswer assume can hold. -/
theorem witness_MailboxReadsAnswer :
    (∃ (s : State) (p : Port), (portAt s p.val).linkUp = true ∧ (s.pwr.st = .service ∨ s.pwr.st = .boot)) ∧
    (∃ (s : State) (p : Port), (portAt s p.val).linkUp = true ∧ (s.pwr.st = .service ∨ s.pwr.st = .boot)) ∧
    (∃ (s : State) (p : Port), (portAt s p.val).linkUp = true ∧ s.pwr.st = .service) ∧
    (∃ (s : State) (p : Port) (c : _), (portAt s p.val).linkUp = true ∧ s.pwr.st = .boot ∧ c ∈ [Instr.getShutdownState p, .setShutdownState
      p true, .setShutdownState p false, .getDynamicCapacityConfiguration p, .getDynamicCapacityExtentList p]) := by
  refine ⟨⟨svc, 0, ?_⟩,
    ⟨svc, 0, ?_⟩,
    ⟨svc, 0, ?_⟩,
    ⟨(inState .boot 3), 0, (.getShutdownState 0), ?_⟩⟩ <;>
    ((try unfold Issued); (try unfold Quiescent); (try and_intros) <;> first | decide +kernel | rfl | (left; decide +kernel) | (intros; decide +kernel))

/-- What the clauses of MailboxWritesSetTheirPort assume can hold. -/
theorem witness_MailboxWritesSetTheirPort :
    (∃ (s : State) (p : Port), (portAt s p.val).linkUp = true ∧ (s.pwr.st = .service ∨ s.pwr.st = .boot)) ∧
    (∃ (s : State) (p : Port), (portAt s p.val).linkUp = true ∧ (s.pwr.st = .service ∨ s.pwr.st = .boot)) ∧
    (∃ (s : State) (p : Port), (portAt s p.val).linkUp = true ∧ (s.pwr.st = .service ∨ s.pwr.st = .boot)) ∧
    (∃ (s : State) (p : Port), (portAt s p.val).linkUp = true ∧ s.pwr.st = .service) ∧
    (∃ (s : State) (p : Port) (i : Fin 64), (portAt s p.val).linkUp = true ∧ s.pwr.st = .service ∧ (extAt s p.val i.val).offered = true ∧
      (extAt s p.val i.val).accepted = false) ∧
    (∃ (s : State) (p : Port) (dpa : _) (len : Nat), (portAt s p.val).linkUp = true ∧ s.pwr.st = .service ∧ (dpa % 2 ^ 28 ≠ 0 ∨ len % 2 ^ 28
      ≠ 0 ∨ len = 0)) ∧
    (∃ (s : State) (p : Port) (q : Port) (i : _) (w : _), (portAt s p.val).linkUp = true ∧ s.pwr.st = .service ∧ s.tabs.wells = [(i, w)] ∧
      w.live = true ∧ 0 < w.size ∧ (extAt s p.val i).accepted = true ∧ (extAt s p.val i).released = [] ∧ q ≠ p ∧ w.mask.getLsbD q.val = true
      ∧ (extAt s q.val i).accepted = true ∧ (extAt s q.val i).released = [] ∧ Quiescent s) ∧
    (∃ (s : State) (p : Port) (i : _) (w : _), (portAt s p.val).linkUp = true ∧ s.pwr.st = .service ∧ s.tabs.wells = [(i, w)] ∧ w.live =
      true ∧ 0 < w.size ∧ (extAt s p.val i).accepted = true) ∧
    (∃ (s : State) (p : Port) (x : _) (log : Fin 5), (portAt s p.val).linkUp = true ∧ (s.pwr.st = .service ∨ s.pwr.st = .boot) ∧ (portAt s
      p.val).logs = [(log.val, x)] ∧ log.val ≠ 4 ∧ ofLatch s.flt.uc x = true) ∧
    (∃ (s : State) (p : Port) (x : _) (log : Fin 5), (portAt s p.val).linkUp = true ∧ (s.pwr.st = .service ∨ s.pwr.st = .boot) ∧ (portAt s
      p.val).logs = [(log.val, x)] ∧ ofLatch s.flt.uc x = false) := by
  refine ⟨⟨svc, 0, ?_⟩,
    ⟨svc, 0, ?_⟩,
    ⟨svc, 0, ?_⟩,
    ⟨svc, 0, ?_⟩,
    ⟨{ svc with ports := [(0, { portUp with exts := [(0, { offered := true, accepted := false, released := [] })] })] : State }, 0, 0, ?_⟩,
    ⟨svc, 0, 1, 0, ?_⟩,
    ⟨{ svc with ports := [(0, { portUp with exts := [(0, { offered := true, accepted := true, released := [] })] }), (1, { portUp with exts := [(0, { offered := true, accepted := true, released := [] })] })] : State }, 0, 1, 0, well0, ?_⟩,
    ⟨{ svc with ports := [(0, { portUp with exts := [(0, { offered := true, accepted := true, released := [] })] })] : State }, 0, 0, well0, ?_⟩,
    ⟨{ svc with flt := { svc.flt with uc := { latchInit with valid := true, source := 16, code := 0x201, arg0 := 1, arg1 := 2, arg2 := 3, time := 10 ^ 12 } }, ports := [(0, { portUp with logs := [(2, agX)] })] : State }, 0, agX, 2, ?_⟩,
    ⟨{ svc with ports := [(0, { portUp with logs := [(0, agX)] })] : State }, 0, agX, 0, ?_⟩⟩ <;>
    ((try unfold Issued); (try unfold Quiescent); (try and_intros) <;> first | decide +kernel | rfl | (left; decide +kernel) | (intros; decide +kernel))

/-- What the clauses of ReadsAnswerLatchAndClear assume can hold. -/
theorem witness_ReadsAnswerLatchAndClear :
    (∃ (s : State) (r : Requester) (off : BitVec 20), reqReaches s r.val = true ∧ slotOf off.toNat = none) ∧
    (∃ (s : State) (p : Port) (off : BitVec 20) (b : _) (i : _) (slot : _), reqReaches s p.val = true ∧ off.toNat % 8 = 0 ∧ slotOf off.toNat
      = some (b, i, slot) ∧ slotAnswers s b i slot = true) ∧
    (∃ (s : State) (off : BitVec 20) (b : _) (i : _) (slot : _), s.pwr.st ≠ .off ∧ slotOf off.toNat = some (b, i, slot)) ∧
    (∃ (s : State) (p : Port) (off : BitVec 20) (b : _) (i : _) (slot : _), reqReaches s p.val = true ∧ off.toNat % 8 = 4 ∧ slotOf off.toNat
      = some (b, i, slot)) ∧
    (∃ (s : State) (p : Port) (size : _), reqReaches s p.val = true ∧ size ≠ 8 ∧ size ≠ 4) ∧
    (∃ (s : State) (r : Requester), reqReaches s r.val = true ∧ slotAnswers s .global 0 10 = true) ∧
    (∃ (s : State) (r : Requester), reqReaches s r.val = true ∧ slotAnswers s .agate 0 1 = true) ∧
    (∃ (s : State) (r : Requester), reqReaches s r.val = true ∧ slotAnswers s .quartz 0 9 = true) := by
  refine ⟨⟨svc, 4, 0x1F000, ?_⟩,
    ⟨svc, 0, 0x80, .global, 0, 16, ?_⟩,
    ⟨svc, 0x80, .global, 0, 16, ?_⟩,
    ⟨svc, 0, 0x84, .global, 0, 16, ?_⟩,
    ⟨svc, 0, 2, ?_⟩,
    ⟨svc, 0, ?_⟩,
    ⟨svc, 4, ?_⟩,
    ⟨svc, 4, ?_⟩⟩ <;>
    ((try unfold Issued); (try unfold Quiescent); (try and_intros) <;> first | decide +kernel | rfl | (left; decide +kernel) | (intros; decide +kernel))

/-- What the clauses of GuardedWritesNeedTheUnlock assume can hold. -/
theorem witness_GuardedWritesNeedTheUnlock :
    (∃ (s : State) (r : Requester), reqReaches s r.val = true ∧ s.pwr.st ≠ .off) ∧
    (∃ (s : State) (r : Requester) (v : BitVec 64), reqReaches s r.val = true ∧ s.pwr.st ≠ .off ∧ v.toNat < 2 ^ 20 ∧ v.toNat ≠ 0x6B1D4) ∧
    (∃ (s : State) (r : Requester), isArmed s r.val = true) ∧
    (∃ (s : State) (r : Requester), isArmed s r.val = false) ∧
    (∃ (s : State) (r : Requester) (off : BitVec 20) (v : BitVec 64) (b : _) (i : _) (slot : _), reqReaches s r.val = true ∧ coverOf r.val
      off.toNat 8 = .whole ∧ slotOf off.toNat = some (b, i, slot) ∧ domOn s (blkDom b i) = true ∧ b ≠ .security ∧ wrMask v.toNat &&& rwkMask
      b slot ≠ 0 ∧ isArmed s r.val = false) ∧
    (∃ (s : State) (r : Requester) (off : BitVec 20) (v : BitVec 64) (b : _) (i : _) (slot : _), reqReaches s r.val = true ∧ coverOf r.val
      off.toNat 8 = .whole ∧ slotOf off.toNat = some (b, i, slot) ∧ domOn s (blkDom b i) = true ∧ b ≠ .security ∧ wrMask v.toNat &&& rwkMask
      b slot ≠ 0 ∧ isArmed s r.val = true ∧ expertOk s b slot (wrMask v.toNat) = false) ∧
    (∃ (s : State) (r : Requester) (v : BitVec 64), reqReaches s r.val = true ∧ s.pwr.st ≠ .off ∧ isArmed s r.val = true ∧ v.toNat < 2 ^ 18) ∧
    (∃ (s : State) (p : Port) (off : BitVec 20) (size : _), reqReaches s p.val = true ∧ (size ≠ 8 ∨ off.toNat % 8 ≠ 0)) ∧
    (∃ (s : State) (off : BitVec 20), reqReaches s 4 = true ∧ slotOf off.toNat = none) := by
  refine ⟨⟨svc, 4, ?_⟩,
    ⟨svc, 4, 5, ?_⟩,
    ⟨(armed svc 4), 4, ?_⟩,
    ⟨svc, 4, ?_⟩,
    ⟨svc, 4, 144, 1, .global, 0, 18, ?_⟩,
    ⟨(armed svc 4), 4, 0xB008, 0x40000400, .mapctl, 0, 1, ?_⟩,
    ⟨(armed svc 4), 4, 0x3FFFF, ?_⟩,
    ⟨svc, 0, 4, 8, ?_⟩,
    ⟨svc, 0x1F000, ?_⟩⟩ <;>
    ((try unfold Issued); (try unfold Quiescent); (try and_intros) <;> first | decide +kernel | rfl | (left; decide +kernel) | (intros; decide +kernel))

/-- What the clauses of StepTakesTheFront assume can hold. -/
theorem witness_StepTakesTheFront :
    (∃ (s : State), s.pending = [] ∧ s.pwr.st ≠ .off) ∧
    (∃ (s : State), s.pending = [] ∧ s.pwr.st = .off) := by
  refine ⟨⟨svc, ?_⟩,
    ⟨State.reset, ?_⟩⟩ <;>
    ((try unfold Issued); (try unfold Quiescent); (try and_intros) <;> first | decide +kernel | rfl | (left; decide +kernel) | (intros; decide +kernel))

/-- What the clauses of WhatNoCommandChanges assume can hold. -/
theorem witness_WhatNoCommandChanges :
    ∃ (c : _) (s : State) (t : _), exec c s = .next t := by
  refine ⟨.filterRebuild, svc, filterRebuildF svc, ?_⟩ <;>
    ((try unfold Issued); (try unfold Quiescent); (try and_intros) <;> first | decide +kernel | rfl | (left; decide +kernel) | (intros; decide +kernel))

/-- What the clauses of CommandsKeepTheRest assume can hold. -/
theorem witness_CommandsKeepTheRest :
    (∃ (c : Instr) (s t : State), ((∃ p tag, c = .meminv p tag) ∨ (∃ p tag, c = .meminvnt p tag) ∨ (∃ p tag, c = .memclnevct p tag) ∨ (∃ p
      phase2, c = .globalPersistentFlush p phase2) ∨ (∃ p log, c = .getEventRecords p log) ∨ (∃ p, c = .getEventInterruptPolicy p) ∨ (∃ p, c
      = .getFwInfo p) ∨ (∃ p, c = .getTimestamp p) ∨ (∃ p, c = .getSupportedLogs p) ∨ (∃ p cel, c = .getLog p cel) ∨ (∃ p, c =
      .identifyMemoryDevice p) ∨ (∃ p, c = .getPartitionInfo p) ∨ (∃ p, c = .getHealthInfo p) ∨ (∃ p, c = .getAlertConfiguration p) ∨ (∃ p,
      c = .getShutdownState p) ∨ (∃ p, c = .getDynamicCapacityConfiguration p) ∨ (∃ p, c = .getDynamicCapacityExtentList p) ∨ (∃ via, c =
      .getVersion via) ∨ (∃ via, c = .getCapabilities via) ∨ (∃ via offers, c = .negotiateAlgorithms via offers) ∨ (∃ via, c = .getDigests
      via) ∨ (∃ via slot off len, c = .getCertificate via slot off len) ∨ (∃ via session, c = .query via session)) ∧ exec c s = .next t) ∧
    (∃ (c : Instr) (s t : State), (∃ r, c = .unlockExpire r) ∧ exec c s = .next t) ∧
    (∃ (c : Instr) (s t : State), (c = .bootSequencing ∨ (∃ d, c = .domainQualRetry d) ∨ c = .aliveToggle ∨ c = .witOutToggle ∨ c =
      .auxRestored) ∧ exec c s = .next t) ∧
    (∃ (c : Instr) (s t : State), (∃ p j d, c = .hdmDecoderCommit p j d) ∧ exec c s = .next t) ∧
    (∃ (c : Instr) (s t : State), c = .checkpointAnchor ∧ exec c s = .next t) ∧
    (∃ (c : Instr) (s t : State), c = .filterRebuild ∧ exec c s = .next t) ∧
    (∃ (c : Instr) (s t : State), (∃ die part, c = .programResume die part) ∧ exec c s = .next t) ∧
    (∃ (c : Instr) (s t : State), ((∃ ch, c = .burstMeterSlot ch) ∨ c = .scrubAutoResume) ∧ exec c s = .next t) ∧
    (∃ (c : Instr) (s t : State), (∃ uc, c = .firmwareAck uc) ∧ exec c s = .next t) ∧
    (∃ (c : Instr) (s t : State), ((∃ cause, c = .replanStart cause) ∨ (∃ stepMv, c = .bankTestStart stepMv)) ∧ exec c s = .next t) ∧
    (∃ (c : Instr) (s t : State), ((∃ via slot nonce, c = .challenge via slot nonce) ∨ (∃ via index nonce, c = .getMeasurements via index
      nonce) ∨ (∃ via session, c = .getKey via session)) ∧ exec c s = .next t) ∧
    (∃ (c : Instr) (s t : State), ((∃ eid, c = .setEndpointId eid) ∨ (∃ tt, c = .jtagTestMode tt)) ∧ exec c s = .next t) ∧
    (∃ (c : Instr) (s t : State), ((∃ p vec, c = .setEventInterruptPolicy p vec) ∨ (∃ p ts, c = .setTimestamp p ts) ∨ (∃ p life temp ce, c =
      .setAlertConfiguration p life temp ce) ∨ (∃ p well accept, c = .addDynamicCapacityResponse p well accept) ∨ (∃ via session mem tx kset
      key, c = .keyProg via session mem tx kset key) ∨ (∃ via session mem kset, c = .kSetGo via session mem kset) ∨ (∃ via session mem kset,
      c = .kSetStop via session mem kset)) ∧ exec c s = .next t) ∧
    (∃ (c : Instr) (s t : State), (∃ p vec, c = .coalWindowEnd p vec) ∧ exec c s = .next t) ∧
    (∃ (c : Instr) (s t : State), (c = .flitCrcError ∨ c = .heartbeatSend ∨ (∃ h, c = .heartbeat h) ∨ (∃ ltn, c = .tileAck ltn) ∨ (∃ index
      ltns, c = .joinOpen index ltns) ∨ (∃ index wells, c = .joinWells index wells) ∨ (∃ ranges, c = .joinInuse ranges) ∨ (∃ lanes cable, c
      = .spinelLinkDown lanes cable)) ∧ exec c s = .next t) ∧
    (∃ (c : Instr) (s t : State), (∃ p lanes rate hostClk, c = .linkTraining p lanes rate hostClk) ∧ exec c s = .next t) ∧
    (∃ (c : Instr) (s t : State), ((∃ p, c = .ringEnable p) ∨ (∃ p, c = .ringDisable p)) ∧ exec c s = .next t) ∧
    (∃ (c : Instr) (s t : State), (∃ p, c = .ideIntegrityFailure p) ∧ exec c s = .next t) ∧
    (∃ (c : Instr) (s t : State), c = .replayTimeout ∧ exec c s = .next t) ∧
    (∃ (c : Instr) (s t : State), (∃ dmaOk, c = .dumpBoundary dmaOk) ∧ exec c s = .next t) ∧
    (∃ (c : Instr) (s t : State), (∃ p, c = .perstDeassert p) ∧ exec c s = .next t) ∧
    (∃ (c : Instr) (s t : State), (∃ p log seqs, c = .clearEventRecords p log seqs) ∧ exec c s = .next t) ∧
    (∃ (c : Instr) (s t : State), ((∃ via session ok, c = .finish via session ok) ∨ (∃ via session, c = .endSession via session) ∨ (∃ via
      session, c = .keyUpdate via session)) ∧ exec c s = .next t) ∧
    (∃ (c : Instr) (s t : State), (∃ ch, c = .loadWindowEnd ch) ∧ exec c s = .next t) ∧
    (∃ (c : Instr) (s t : State), (∃ via session, c = .keyExchange via session) ∧ exec c s = .next t) ∧
    (∃ (c : Instr) (s t : State), (∃ desc payload, c = .sidebandDescriptor desc payload) ∧ exec c s = .next t) ∧
    (∃ (c : Instr) (s t : State), (∃ ltn, c = .refreshScan ltn) ∧ exec c s = .next t) ∧
    (∃ (c : Instr) (s t : State), (∃ u, c = .programDispatch u) ∧ exec c s = .next t) ∧
    (∃ (c : Instr) (s t : State), (∃ die, c = .tileResetStart die) ∧ exec c s = .next t) ∧
    (∃ (c : Instr) (s t : State), ((∃ r off size, c = .rcRead r off size) ∨ (∃ r, c = .timeLatchRead r) ∨ (∃ r, c = .newSeqRead r) ∨ (∃ r, c
      = .ctrLoRead r)) ∧ exec c s = .next t) ∧
    (∃ (c : Instr) (s t : State), (∃ die, c = .sentinelProgram die) ∧ exec c s = .next t) ∧
    (∃ (c : Instr) (s t : State), c = .soloPageDurable ∧ exec c s = .next t) ∧
    (∃ (c : Instr) (s t : State), (c = .berylPageProgram ∨ (∃ p clean, c = .setShutdownState p clean)) ∧ exec c s = .next t) ∧
    (∃ (c : Instr) (s t : State), c = .regApply .heartbeat ∧ exec c s = .next t) ∧
    (∃ (c : Instr) (s t : State), (∃ at_, c = .regApply at_ ∧ (at_ = .heartbeat → works s = true → s.pair.role ≠ .unpaired)) ∧ exec c s =
      .next t) ∧
    (∃ (c : Instr) (s t : State), c = .resyncDoneReq ∧ exec c s = .next t) ∧
    (∃ (c : Instr) (s t : State), c = .checkpointStart ∧ exec c s = .next t) ∧
    (∃ (c : Instr) (s t : State), c = .journalLineProgram ∧ exec c s = .next t) ∧
    (∃ (c : Instr) (s t : State), (∃ failed, c = .dieDiscovery failed) ∧ exec c s = .next t) ∧
    (∃ (c : Instr) (s t : State), c = .enterCold ∧ exec c s = .next t) ∧
    (∃ (c : Instr) (s t : State), ((∃ seat sbSel sbAddr corr ue, c = .aonQualify seat sbSel sbAddr corr ue) ∨ (∃ vinMv, c = .inputDip vinMv)
      ∨ (∃ ue, c = .agateFlush ue) ∨ c = .witnessLost ∨ (∃ recs, c = .agateCopy recs) ∨ (∃ p hpa, c = .memrdfwd p hpa) ∨ (∃ p hpa, c =
      .memwrfwd p hpa) ∨ c = .witInEdge ∨ c = .mainInputCycle ∨ c = .epochUnitStart ∨ (∃ slacks, c = .canarySample slacks) ∨ (∃ eyes, c =
      .eyeMarginSample eyes) ∨ (∃ us reached33 recharged, c = .bankTestEnd us reached33 recharged) ∨ (∃ ok, c = .fuseBlow ok) ∨ c =
      .entropyTestFail ∨ (∃ p desc, c = .descriptorFetch p desc) ∨ (∃ p dmaOk, c = .completionWrite p dmaOk)) ∧ exec c s = .next t) := by
  refine ⟨⟨(.meminv 0 0), svc, _, .inl ⟨_, _, rfl⟩, rfl⟩,
    ⟨(.unlockExpire 4), svc, _, ⟨_, rfl⟩, rfl⟩,
    ⟨.bootSequencing, svc, _, .inl rfl, rfl⟩,
    ⟨(.hdmDecoderCommit 0 0 hdmInit), svc, _, ⟨_, _, _, rfl⟩, rfl⟩,
    ⟨.checkpointAnchor, svc, _, rfl, rfl⟩,
    ⟨.filterRebuild, svc, _, rfl, rfl⟩,
    ⟨(.programResume 0 0), svc, _, ⟨_, _, rfl⟩, rfl⟩,
    ⟨(.burstMeterSlot 0), svc, _, .inl ⟨_, rfl⟩, rfl⟩,
    ⟨(.firmwareAck false), svc, _, ⟨_, rfl⟩, rfl⟩,
    ⟨(.replanStart 0), svc, _, .inl ⟨_, rfl⟩, rfl⟩,
    ⟨(.challenge .sideband 0 0), svc, _, .inl ⟨_, _, _, rfl⟩, rfl⟩,
    ⟨(.setEndpointId 0), svc, _, .inl ⟨_, rfl⟩, rfl⟩,
    ⟨(.setEventInterruptPolicy 0 0), svc, _, .inl ⟨_, _, rfl⟩, rfl⟩,
    ⟨(.coalWindowEnd 0 0), svc, _, ⟨_, _, rfl⟩, rfl⟩,
    ⟨.flitCrcError, svc, _, .inl rfl, rfl⟩,
    ⟨(.linkTraining 0 0 0 false), svc, _, ⟨_, _, _, _, rfl⟩, rfl⟩,
    ⟨(.ringEnable 0), svc, _, .inl ⟨_, rfl⟩, rfl⟩,
    ⟨(.ideIntegrityFailure 0), svc, _, ⟨_, rfl⟩, rfl⟩,
    ⟨.replayTimeout, svc, _, rfl, rfl⟩,
    ⟨(.dumpBoundary false), svc, _, ⟨_, rfl⟩, rfl⟩,
    ⟨(.perstDeassert 0), svc, _, ⟨_, rfl⟩, rfl⟩,
    ⟨(.clearEventRecords 0 0 []), svc, _, ⟨_, _, _, rfl⟩, rfl⟩,
    ⟨(.finish .sideband 0 false), svc, _, .inl ⟨_, _, _, rfl⟩, rfl⟩,
    ⟨(.loadWindowEnd 0), svc, _, ⟨_, rfl⟩, rfl⟩,
    ⟨(.keyExchange .sideband 0), svc, _, ⟨_, _, rfl⟩, rfl⟩,
    ⟨(.sidebandDescriptor 0 []), svc, _, ⟨_, _, rfl⟩, rfl⟩,
    ⟨(.refreshScan 0), svc, _, ⟨_, rfl⟩, rfl⟩,
    ⟨(.programDispatch .journal), svc, _, ⟨_, rfl⟩, rfl⟩,
    ⟨(.tileResetStart 0), svc, _, ⟨_, rfl⟩, rfl⟩,
    ⟨(.rcRead 4 0 0), svc, _, .inl ⟨_, _, _, rfl⟩, rfl⟩,
    ⟨(.sentinelProgram 0), svc, _, ⟨_, rfl⟩, rfl⟩,
    ⟨.soloPageDurable, svc, _, rfl, rfl⟩,
    ⟨.berylPageProgram, svc, _, .inl rfl, rfl⟩,
    ⟨(.regApply .heartbeat), svc, _, rfl, rfl⟩,
    ⟨(.regApply .now), svc, _, ⟨_, rfl, nofun⟩, rfl⟩,
    ⟨.resyncDoneReq, svc, _, rfl, rfl⟩,
    ⟨.checkpointStart, svc, _, rfl, rfl⟩,
    ⟨.journalLineProgram, svc, _, rfl, rfl⟩,
    ⟨(.dieDiscovery []), svc, _, ⟨_, rfl⟩, rfl⟩,
    ⟨.enterCold, svc, _, rfl, rfl⟩,
    ⟨(.aonQualify false false 0 [] []), svc, _, .inl ⟨_, _, _, _, _, rfl⟩, rfl⟩⟩

end Sys2Proof.Tests
end

