-- ==== Sys2Proof/Tests/WitnessC.lean ====
section
/-! SUPPORT. For every statement with hypotheses, states and operands that meet them, clause by clause. -/

set_option linter.all false
set_option Elab.async false

namespace Sys2Proof.Tests

open Sys2Proof Sys2Proof.Machine Sys2Proof.Safety

/-- What the clauses of BootEndsInService assume can hold. -/
theorem witness_BootEndsInService :
    (∃ (s : State), s.pwr.st = .boot ∧ s.pwr.bootStep = 5 ∧ (liveChans s).isEmpty = true) ∧
    (∃ (s : State) (res : ResList) (s1 : State), s.pwr.st = .boot ∧ s.pwr.bootStep = 5 ∧ (liveChans s).isEmpty = false ∧ findAnchor { s with pwr := { s.pwr with bootStep := 6 } } res = (s1, none)) ∧
    (∃ (s : State) (res : ResList) (s1 : State) (a : AnchorF) (w : JWalk), s.pwr.st = .boot ∧ s.pwr.bootStep = 5 ∧ (liveChans s).isEmpty = false ∧ findAnchor { s with pwr := { s.pwr with bootStep := 6 } } res = (s1, some a) ∧ (∃ k < 64, s1.beryl.defaulted.contains (pgKeys + k) = false) ∧ (∀ k < 64, sanRun s1 k = false) ∧ (readTree res s1 a.root).bad = none ∧ w = walkJournal (readTree res s1 a.root) a res ∧ w.broken = false ∧ w.lost = [] ∧ (nextOf w res).1.pwr.st = .boot ∧ (nextOf w res).1.pwr.bootStep = 6) ∧
    (∃ (s : State), s.pwr.st = .boot ∧ s.pwr.bootStep = 6) ∧
    (∃ (s : State), s.pwr.st = .boot ∧ s.pwr.bootStep = 7 ∧ shutCode s = 1 ∧ sGet false s.beryl.dirty pgShutdown = false ∧ (∀ x ∈
      s.beryl.prog, x.1 ≠ pgShutdown)) ∧
    (∃ (s : State) (p : _), s.pwr.st = .service ∧ s.pwr.warm = false ∧ warmerPage s = some p ∧ nodeTile s p = none ∧ s.mapu.badSlots = []) ∧
    (∃ (s : State) (x : _), s.pwr.st = .halt ∧ s.pwr.haltTh = true ∧ expertEn s 12 = true ∧ s.pwr.restartBlk = false ∧ s.pwr.coolSince =
      some x ∧ x + 60000000000 ≤ s.pwr.time ∧ s.sec.selected = false ∧ imageFault s s.sec.active = 0) := by
  refine ⟨⟨{ (inState .boot 5) with drift := { (inState .boot 5).drift with chans := (List.range 32).map (fun c => (c, { chanInit with live := 0, retired := true })) } : State }, ?_⟩,
    ⟨atReplayBare, [], bare_scan.choose, by decide +kernel, by decide +kernel, by decide +kernel, bare_scan.choose_spec⟩,
    born_scan.elim fun s1 h => h.elim fun a h => h.elim fun w h => ⟨atReplay, [], s1, a, w, by decide +kernel, by decide +kernel, by decide +kernel, h⟩,
    ⟨(inState .boot 6), ?_⟩,
    ⟨{ (inState .boot 7) with beryl := { (inState .boot 7).beryl with image := [(1, 1)] } : State }, ?_⟩,
    ⟨{ svc with mapu := { svc.mapu with resident := [] } : State }, 0, ?_⟩,
    ⟨{ (inState .halt 0) with pwr := { (inState .halt 0).pwr with haltTh := true, coolSince := some 5 }, regs := [(18, { act := 0x1000, pend := 0x1000, rc := 0 })] : State }, 5, ?_⟩⟩ <;>
    ((try unfold Issued); (try unfold Quiescent); (try and_intros) <;> first | decide +kernel | rfl | (left; decide +kernel) | (intros; decide +kernel))

/-- What the clauses of PerstResetsOnePort assume can hold. -/
theorem witness_PerstResetsOnePort :
    (∃ (s : State), s.pwr.st = .halt) ∧
    (∃ (s : State), s.pwr.st = .service) ∧
    (∃ (s : State), s.pwr.st ≠ .service) ∧
    (∃ (s : State), s.pwr.st = .service) := by
  refine ⟨⟨(inState .halt 0), ?_⟩,
    ⟨svc, ?_⟩,
    ⟨stby, ?_⟩,
    ⟨svc, ?_⟩⟩ <;>
    ((try unfold Issued); (try unfold Quiescent); (try and_intros) <;> first | decide +kernel | rfl | (left; decide +kernel) | (intros; decide +kernel))

/-- What the clauses of FaultUnitKeepsItsOwnTime assume can hold. -/
theorem witness_FaultUnitKeepsItsOwnTime :
    (∃ (s : State), s.pwr.st ≠ .off ∧ s.ag.full = true) ∧
    (∃ (s : State) (uc : Bool), regB s .fault 0 37 (if uc then 1 else 0) = true ∧ domOn s 1 = true) ∧
    (∃ (s : State), s.pwr.st = .standby) ∧
    (∃ (s : State), s.pwr.st = .service) ∧
    (∃ (s : State), s.pwr.st = .service ∧ s.pwr.fatal = false ∧ s.pwr.wdOk = true) ∧
    (∃ (s : State), s.pwr.st = .halt) := by
  refine ⟨⟨{ svc with ag := { svc.ag with full := true } : State }, ?_⟩,
    ⟨svc, false, ?_⟩,
    ⟨stby, ?_⟩,
    ⟨svc, ?_⟩,
    ⟨svc, ?_⟩,
    ⟨(inState .halt 0), ?_⟩⟩ <;>
    ((try unfold Issued); (try unfold Quiescent); (try and_intros) <;> first | decide +kernel | rfl | (left; decide +kernel) | (intros; decide +kernel))

/-- What the clauses of WitnessAndHeartbeatsChangeNoRole assume can hold. -/
theorem witness_WitnessAndHeartbeatsChangeNoRole :
    (∃ (s : State), s.pwr.st ≠ .off) ∧
    (∃ (s : State), s.pwr.st ≠ .off ∧ s.pair.witOk = true ∧ s.pair.witLast + 20000 ≤ s.pwr.time) ∧
    (∃ (s : State), s.pwr.st ≠ .off ∧ s.pair.witOk = true ∧ s.pwr.time < s.pair.witLast + 20000) ∧
    (∃ (s : State), s.pwr.st = .service ∧ s.pair.linkUp = true ∧ s.pair.hbSent ≤ hbWindow s.pwr.time) ∧
    (∃ (s : State), s.pwr.st = .service ∧ s.pair.linkUp = true) ∧
    (∃ (s : State) (c : _), s.pwr.st = .service ∧ s.pwr.time % 10000 = 0 ∧ s.pair.counting = some c ∧ c < hbWindow s.pwr.time ∧
      s.pair.seen.contains (hbWindow s.pwr.time - 1) = false ∧ s.pair.misses + 1 < regF s .spinel 0 2 10 7 ∧ s.cmds.run = []) := by
  refine ⟨⟨svc, ?_⟩,
    ⟨{ psvc with pair := { psvc.pair with witLast := 10 ^ 12 - 20000 } : State }, ?_⟩,
    ⟨{ psvc with pair := { psvc.pair with witLast := 10 ^ 12 - 19990 } : State }, ?_⟩,
    ⟨psvc, ?_⟩,
    ⟨psvc, ?_⟩,
    ⟨{ psvc with pair := { psvc.pair with counting := some 5, seen := [] } : State }, 5, ?_⟩⟩ <;>
    ((try unfold Issued); (try unfold Quiescent); (try and_intros) <;> first | decide +kernel | rfl | (left; decide +kernel) | (intros; decide +kernel))

/-- What the clauses of MirroredWritesInstallAndAcknowledge assume can hold. -/
theorem witness_MirroredWritesInstallAndAcknowledge :
    (∃ (s : State) (dln : _) (k : _) (old : _), works s = true ∧ mirroring s = true ∧ Quiescent s ∧ s.cist.waits = [] ∧ lockHeld s dln =
      false ∧ s.cache.upset = [] ∧ findWay s dln = some (k, old)) ∧
    (∃ (s : State) (dln : _), works s = true ∧ fwdHere s dln = false) ∧
    (∃ (s : State) (dln : _), works s = true ∧ fwdHere s dln = false) ∧
    (∃ (s : State) (dln : _) (k : _) (old : _), works s = true ∧ fwdHere s dln = true ∧ Quiescent s ∧ s.cist.waits = [] ∧ lockHeld s dln =
      false ∧ 0 < s.pair.mir ∧ s.cache.upset = [] ∧ findWay s dln = some (k, old)) ∧
    (∃ (s : State) (dln : _) (be : _) (k : _) (old : _), works s = true ∧ fwdHere s dln = true ∧ Quiescent s ∧ s.cist.waits = [] ∧ lockHeld
      s dln = false ∧ 0 < s.pair.mir ∧ be ≠ 0 ∧ be ≠ BitVec.allOnes 64 ∧ s.cache.upset = [] ∧ findWay s dln = some (k, old)) ∧
    (∃ (s : State) (dln : _) (ov : _), works s = true ∧ (fwdHere s dln = false ∨ ov = true)) ∧
    (∃ (s : State) (dln : _) (k : _) (old : _), works s = true ∧ fwdHere s dln = true ∧ Quiescent s ∧ s.cist.waits = [] ∧ s.pair.opens = []
      ∧ lockHeld s dln = false ∧ 0 < s.pair.mir ∧ s.cache.upset = [] ∧ findWay s dln = some (k, old)) ∧
    (∃ (s : State), hears s = true ∧ s.pwr.st = .service ∧ s.pair.opens = [] ∧ s.pair.hand = .none ∧ s.pair.txq = [] ∧ Quiescent s) ∧
    (∃ (s : State) (dln : _) (port : _) (tag : _) (part : _), hears s = true ∧ s.pwr.st = .service ∧ s.pair.role = .paired ∧ s.pair.hand =
      .none ∧ s.pair.txq = [] ∧ Quiescent s ∧ s.pair.opens = [.write 7 dln (.host port tag) part]) := by
  refine ⟨⟨(withLine (withTile psvc) 0 false), 0, (wayKey (sliceOf cacheReset 0) (setOf 0) 0), (wayOf 0 false), ?_⟩,
    ⟨{ psvc with pair := { psvc.pair with linkUp := true } : State }, 256, ?_⟩,
    ⟨psvc, 256, ?_⟩,
    ⟨(withLine (withTile psvc) 0 false), 0, (wayKey (sliceOf cacheReset 0) (setOf 0) 0), (wayOf 0 false), ?_⟩,
    ⟨(withLine (withTile psvc) 0 false), 0, 1, (wayKey (sliceOf cacheReset 0) (setOf 0) 0), (wayOf 0 false), ?_⟩,
    ⟨psvc, 256, true, ?_⟩,
    ⟨(withLine (withTile psvc) 0 false), 0, (wayKey (sliceOf cacheReset 0) (setOf 0) 0), (wayOf 0 false), ?_⟩,
    ⟨psvc, ?_⟩,
    ⟨{ psvc with pair := { psvc.pair with opens := [.write 7 0 (.host 1 9) false] } : State }, 0, 1, 9, false, ?_⟩⟩ <;>
    ((try unfold Issued); (try unfold Quiescent); (try and_intros) <;> first | decide +kernel | rfl | (left; decide +kernel) | (intros; decide +kernel))

/-- What the clauses of JoinListsAreKept assume can hold. -/
theorem witness_JoinListsAreKept :
    (∃ (lanes : _), lanes < 8) ∧
    (∃ (s : State) (lanes : _), 8 ≤ lanes ∧ domOn s 6 = true ∧ s.pwr.st = .service ∧ s.pair.role = .unpaired ∧ s.pair.joinCmd = false ∧ regB
      s .spinel 0 2 0 = false) ∧
    (∃ (s : State), s.pair.linkUp = true ∧ s.pair.role ≠ .joining) ∧
    (∃ (s : State) (index : _), s.pair.linkUp = true ∧ index ≠ 0) ∧
    (∃ (s : State), s.pair.linkUp = true) ∧
    (∃ (s : State), s.pair.linkUp = true) ∧
    (∃ (s : State), s.pair.linkUp = true ∧ s.pair.role ≠ .joining ∧ s.pair.syncSrc = false) := by
  refine ⟨⟨7, ?_⟩,
    ⟨{ svc with regs := [(1282, { act := 0, pend := 0, rc := 0 })] : State }, 8, ?_⟩,
    ⟨psvc, ?_⟩,
    ⟨psvc, 1, ?_⟩,
    ⟨psvc, ?_⟩,
    ⟨psvc, ?_⟩,
    ⟨psvc, ?_⟩⟩ <;>
    ((try unfold Issued); (try unfold Quiescent); (try and_intros) <;> first | decide +kernel | rfl | (left; decide +kernel) | (intros; decide +kernel))

/-- What the clauses of PortsTrainAndDecode assume can hold. -/
theorem witness_PortsTrainAndDecode :
    (∃ (s : State) (p : Port), canTrain s p.val = false) ∧
    (∃ (s : State) (p : Port) (clk : _), canTrain s p.val = true ∧ clk ≠ regB s .port p.val 1 0) ∧
    (∃ (s : State) (p : Port) (lanes : _) (rate : Fin 4), canTrain s p.val = true ∧ 4 ≤ lanes ∧ 0 < rate.val ∧ 0 < regF s .port p.val 1 2 1
      ∧ 0 < regF s .port p.val 1 4 3) ∧
    (∃ (s : State) (p : Port), (portAt s p.val).linkUp = true ∧ (portAt s p.val).ideMem = true) ∧
    (∃ (s : State) (p : Port), (portAt s p.val).ideMem = false) ∧
    (∃ (s : State) (p : Port), domOn s (2 + p.val) = true) ∧
    (∃ (s : State) (p : Port), domOn s (2 + p.val) = false) := by
  refine ⟨⟨stby, 0, ?_⟩,
    ⟨svc, 0, true, ?_⟩,
    ⟨svc, 0, 4, 1, ?_⟩,
    ⟨{ svc with ports := [(0, { portUp with ideMem := true })] : State }, 0, ?_⟩,
    ⟨svc, 0, ?_⟩,
    ⟨svc, 0, ?_⟩,
    ⟨stby, 0, ?_⟩⟩ <;>
    ((try unfold Issued); (try unfold Quiescent); (try and_intros) <;> first | decide +kernel | rfl | (left; decide +kernel) | (intros; decide +kernel))

/-- What the clauses of WritesReachTheirHome assume can hold. -/
theorem witness_WritesReachTheirHome :
    (∃ (s : State) (p : Port), memOpen s p.val = false) ∧
    (∃ (s : State) (p : Port) (hpa : Nat), memOpen s p.val = true ∧ (portAt s p.val).wrOut < rwdPool s p.val ∧ (portCheck s p.val hpa =
      .poison ∨ (∃ x w, portCheck s p.val hpa = .viol x w) ∨ (∃ x, portCheck s p.val hpa = .fenced x))) ∧
    (∃ (s : State) (p : Port) (hpa : _) (dln : _), memOpen s p.val = true ∧ (portAt s p.val).wrOut < rwdPool s p.val ∧ portCheck s p.val hpa
      = .pass dln ∧ s.pair.role ≠ .solo) ∧
    (∃ (s : State) (p : Port) (hpa : _) (be : _) (dln : _), memOpen s p.val = true ∧ (portAt s p.val).wrOut < rwdPool s p.val ∧ portCheck s
      p.val hpa = .pass dln ∧ be ≠ 0 ∧ handHolds s (ltnOf dln) = true) ∧
    (∃ (s : State) (p : Port) (hpa : _) (po : _) (d : _) (dln : _), memOpen s p.val = true ∧ (portAt s p.val).wrOut < rwdPool s p.val ∧
      portCheck s p.val hpa = .pass dln ∧ handHolds s (ltnOf dln) = false ∧ isHome s (ltnOf dln) = false ∧ s.pair.linkUp = true ∧ canSend
      s.pair s.pair.txq (.fwdFull s.pair.mtag p dln po d) = true) ∧
    (∃ (s : State) (p : Port) (hpa : _) (dln : _) (k : _) (old : _), memOpen s p.val = true ∧ (portAt s p.val).wrOut < rwdPool s p.val ∧
      portCheck s p.val hpa = .pass dln ∧ s.pair.role = .unpaired ∧ handHolds s (ltnOf dln) = false ∧ isHome s (ltnOf dln) = true ∧
      s.cist.waits = [] ∧ s.cmds.hold = [] ∧ lockHeld s dln = false ∧ s.cache.upset = [] ∧ findWay s dln = some (k, old)) ∧
    (∃ (s : State) (p : Port) (hpa : _) (be : _) (dln : _) (k : _) (old : _), memOpen s p.val = true ∧ (portAt s p.val).wrOut < rwdPool s
      p.val ∧ portCheck s p.val hpa = .pass dln ∧ s.pair.role = .unpaired ∧ handHolds s (ltnOf dln) = false ∧ isHome s (ltnOf dln) = true ∧
      s.cist.waits = [] ∧ s.cmds.hold = [] ∧ lockHeld s dln = false ∧ be ≠ 0 ∧ be ≠ BitVec.allOnes 64 ∧ s.cache.upset = [] ∧ findWay s dln =
      some (k, old)) := by
  refine ⟨⟨stby, 0, ?_⟩,
    ⟨{ svc with pair := { svc.pair with role := .fenced } }, 0, 0, by decide +kernel, by decide +kernel, .inr (.inr ⟨_, rfl⟩)⟩,
    ⟨svc, 0, 0, 0, ?_⟩,
    ⟨{ psvc with pair := { psvc.pair with hand := .leaving } : State }, 0, 0, 1, 0, ?_⟩,
    ⟨psvc, 0, 16384, false, 7, 256, ?_⟩,
    ⟨(withLine (withTile svc) 0 false), 0, 0, 0, (wayKey (sliceOf cacheReset 0) (setOf 0) 0), (wayOf 0 false), ?_⟩,
    ⟨(withLine (withTile svc) 0 false), 0, 0, 3, 0, (wayKey (sliceOf cacheReset 0) (setOf 0) 0), (wayOf 0 false), ?_⟩⟩ <;>
    ((try unfold Issued); (try unfold Quiescent); (try and_intros) <;> first | decide +kernel | rfl | (left; decide +kernel) | (intros; decide +kernel))

/-- What the clauses of ChannelsKeepTheirMeters assume can hold. -/
theorem witness_ChannelsKeepTheirMeters :
    (∃ (s : State) (die : _) (part : _), partitionRead s die part = true) ∧
    (∃ (s : State) (die : _) (part : _), partitionRead s die part = false) ∧
    (∃ (s : State), s.pwr.time % 2000 ≠ 0) ∧
    (∃ (s : State), s.pwr.time % 2000 = 0) := by
  refine ⟨⟨{ svc with med := { svc.med with senses := [{ sid := 4, prefetch := false, dln := 0, ptn := 64, fslot := 0, gen := 1, epoch := 0, refs := 0, waitPage := false, retrying := false, stale := false, flags := flags0, waiters := [.host { port := 1, tag := 9, cmp := true, bound := none, at_ := 10 ^ 12 - 100, lat0 := 0 }] }] } : State }, 0, 0, ?_⟩,
    ⟨svc, 0, 0, ?_⟩,
    ⟨{ svc with pwr := { svc.pwr with time := 10 ^ 12 + 10 } : State }, ?_⟩,
    ⟨svc, ?_⟩⟩ <;>
    ((try unfold Issued); (try unfold Quiescent); (try and_intros) <;> first | decide +kernel | rfl | (left; decide +kernel) | (intros; decide +kernel))

/-- What the clauses of TheCisternIsProgrammed assume can hold. -/
theorem witness_TheCisternIsProgrammed :
    (∃ (s : State), s.pwr.st ≠ .service) ∧
    (∃ (s : State), s.pwr.st = .service ∧ s.wear.ledQ = []) ∧
    (∃ (s : State) (u : _), progTarget s u = none) ∧
    (∃ (s : State) (u : _), startable s u = false) ∧
    (∃ (s : State) (n : _) (e : _), s.pwr.st = .service ∧ cisNo s n = some e ∧ startable s (.line n) = true ∧ rankOf s (.line n) = 0 ∧ 4 ≤
      freeTok s (ptnDieIx e.ptn.toNat)) ∧
    (∃ (s : State) (n : _) (e : _) (o : _) (ns : _), Quiescent s ∧ ns ≤ 2400 ∧ cisNo s n = some e ∧ findP (fun o : Op => decide (o.kind =
      .program (.line n)) && !o.suspended) s.med.ops = some o) ∧
    (∃ (s : State) (n : _) (e : _) (o : _) (ok : _) (ns : _), Quiescent s ∧ cisNo s n = some e ∧ (ok = false ∨ 2400 < ns) ∧ o.fails = 0 ∧
      findP (fun o : Op => decide (o.kind = .program (.line n)) && !o.suspended) s.med.ops = some o) ∧
    (∃ (s : State), fullCounters s ≤ 65536) ∧
    (∃ s : State, 65536 < fullCounters s) := by
  refine ⟨⟨stby, ?_⟩,
    ⟨svc, ?_⟩,
    ⟨svc, .line 0, ?_⟩,
    ⟨svc, .line 0, ?_⟩,
    ⟨{ (withTile svc) with cist := { (withTile svc).cist with ents := [{ slot := 0, idx := 0, next := chainEnd, dln := 0, ptn := 64, fslot := 0, gen := 1, p := false, pcause := 0, prog := false, super := false, held := false, also := none, waitJ := 0, failed := false, direct := false, data := 7 }], tok := [(0, 16)] } : State }, 0, { slot := 0, idx := 0, next := chainEnd, dln := 0, ptn := 64, fslot := 0, gen := 1, p := false, pcause := 0, prog := false, super := false, held := false, also := none, waitJ := 0, failed := false, direct := false, data := 7 }, ?_⟩,
    ⟨{ (withTile svc) with cist := { (withTile svc).cist with ents := [{ slot := 0, idx := 0, next := chainEnd, dln := 0, ptn := 64, fslot := 0, gen := 1, p := false, pcause := 0, prog := true, super := false, held := false, also := none, waitJ := 0, failed := false, direct := false, data := 7 }] }, med := { (withTile svc).med with ops := [{ kind := .program (.line 0), die := 0, part := 0, ptn := 64, fslot := 0, frame := writtenFrame svc 64 0 1 0 7 false 0, fails := 0, suspended := false }] } : State }, 0, { slot := 0, idx := 0, next := chainEnd, dln := 0, ptn := 64, fslot := 0, gen := 1, p := false, pcause := 0, prog := true, super := false, held := false, also := none, waitJ := 0, failed := false, direct := false, data := 7 }, { kind := .program (.line 0), die := 0, part := 0, ptn := 64, fslot := 0, frame := writtenFrame svc 64 0 1 0 7 false 0, fails := 0, suspended := false }, 1600, ?_⟩,
    ⟨{ (withTile svc) with cist := { (withTile svc).cist with ents := [{ slot := 0, idx := 0, next := chainEnd, dln := 0, ptn := 64, fslot := 0, gen := 1, p := false, pcause := 0, prog := true, super := false, held := false, also := none, waitJ := 0, failed := false, direct := false, data := 7 }] }, med := { (withTile svc).med with ops := [{ kind := .program (.line 0), die := 0, part := 0, ptn := 64, fslot := 0, frame := writtenFrame svc 64 0 1 0 7 false 0, fails := 0, suspended := false }] } : State }, 0, { slot := 0, idx := 0, next := chainEnd, dln := 0, ptn := 64, fslot := 0, gen := 1, p := false, pcause := 0, prog := true, super := false, held := false, also := none, waitJ := 0, failed := false, direct := false, data := 7 }, { kind := .program (.line 0), die := 0, part := 0, ptn := 64, fslot := 0, frame := writtenFrame svc 64 0 1 0 7 false 0, fails := 0, suspended := false }, true, 2401, ?_⟩,
    ⟨svc, ?_⟩,
    ⟨{ svc with cist := { svc.cist with filter := List.replicate 65537 (0, 15) } }, full_filter⟩⟩ <;>
    ((try unfold Issued); (try unfold Quiescent); (try and_intros) <;> first | decide +kernel | rfl | (left; decide +kernel) | (intros; decide +kernel))

/-- What the clauses of FreedTilesAreReset assume can hold. -/
theorem witness_FreedTilesAreReset :
    (∃ (s : State) (die : _), resetReady (releaseFreed s) die = none ∧ tailFull s = false) ∧
    (∃ (s : State) (die : _) (p : _) (r : _), s.wear.freeing = [] ∧ sGet [] s.wear.resetq die = p :: r ∧ resetReady s die = some p ∧
      higherWaits s die (rankReset s die) = false ∧ 4 ≤ freeTok s die) ∧
    (∃ (s : State) (ptn : _), findP (fun o : Op => decide (o.kind = .reset) && decide (o.ptn = ptn) && !o.suspended) s.med.ops = none) ∧
    (∃ (s : State) (ptn : _) (o : _), Quiescent s ∧ findP (fun o : Op => decide (o.kind = .reset) && decide (o.ptn = ptn) && !o.suspended)
      s.med.ops = some o ∧ tailFull s = false) ∧
    (∃ (s : State) (ptn : _) (o : _), Quiescent s ∧ findP (fun o : Op => decide (o.kind = .reset) && decide (o.ptn = ptn) && !o.suspended)
      s.med.ops = some o ∧ tailFull s = false ∧ sGet 0 s.wear.rfail ptn < 2) := by
  refine ⟨⟨stby, 0, ?_⟩,
    ⟨{ svc with wear := { svc.wear with resetq := [(0, [64])] }, cist := { svc.cist with tok := [(0, 16)] } : State }, 0, 64, [], ?_⟩,
    ⟨svc, 64, ?_⟩,
    ⟨{ svc with med := { svc.med with ops := [{ kind := .reset, die := 0, part := 0, ptn := 64, fslot := 0, frame := writtenFrame svc 64 0 1 0 7 false 0, fails := 0, suspended := false }] } : State }, 64, { kind := .reset, die := 0, part := 0, ptn := 64, fslot := 0, frame := writtenFrame svc 64 0 1 0 7 false 0, fails := 0, suspended := false }, ?_⟩,
    ⟨{ svc with med := { svc.med with ops := [{ kind := .reset, die := 0, part := 0, ptn := 64, fslot := 0, frame := writtenFrame svc 64 0 1 0 7 false 0, fails := 0, suspended := false }] } : State }, 64, { kind := .reset, die := 0, part := 0, ptn := 64, fslot := 0, frame := writtenFrame svc 64 0 1 0 7 false 0, fails := 0, suspended := false }, ?_⟩⟩ <;>
    ((try unfold Issued); (try unfold Quiescent); (try and_intros) <;> first | decide +kernel | rfl | (left; decide +kernel) | (intros; decide +kernel))

/-- What the clauses of TemperaturesSetTheLevels assume can hold. -/
theorem witness_TemperaturesSetTheLevels :
    (∃ (s : State), s.pwr.st = .off) ∧
    (∃ (s : State) (x : Int), s.pwr.st ≠ .off ∧ -160 ≤ x ∧ x < 460 ∧ s.th.yelFail = false ∧ s.th.tripped = false) ∧
    (∃ (s : State) (x : Int), s.pwr.st = .service ∧ 460 ≤ x ∧ x < 500 ∧ s.th.yelFail = false ∧ s.th.tripped = false) ∧
    (∃ (s : State), s.pwr.st ≠ .off ∧ s.th.yelMiss = 2 ∧ s.th.yelFail = false) ∧
    (∃ (s : State), s.pwr.st = .standby) ∧
    (∃ (s : State) (c : Channel), s.pwr.st ≠ .standby ∧ domOn s (48 + c.val) = false) ∧
    (∃ (s : State) (c : Channel) (x : Int), s.pwr.st = .service ∧ domOn s (48 + c.val) = true ∧ (chanAt s c.val).retired = false ∧ (chanAt s
      c.val).live = 1 ∧ (chanAt s c.val).sensBad = [] ∧ x < 360) := by
  refine ⟨⟨State.reset, ?_⟩,
    ⟨svc, 459, ?_⟩,
    ⟨svc, 460, ?_⟩,
    ⟨{ svc with th := { svc.th with yelMiss := 2 } : State }, ?_⟩,
    ⟨stby, ?_⟩,
    ⟨{ (inState .boot 3) with pwr := { (inState .boot 3).pwr with doms := [] } : State }, 0, ?_⟩,
    ⟨{ svc with drift := { svc.drift with chans := [(0, { chanInit with live := 1 })] } : State }, 0, 359, ?_⟩⟩ <;>
    ((try unfold Issued); (try unfold Quiescent); (try and_intros) <;> first | decide +kernel | rfl | (left; decide +kernel) | (intros; decide +kernel))

/-- What the clauses of JournalLinesBecomeDurable assume can hold. -/
theorem witness_JournalLinesBecomeDurable :
    (∃ (s : State), lineDue s = false ∧ startable s .journal = false) ∧
    (∃ (s : State), journalRuns s = true ∧ lineDue s = true ∧ s.mapu.lines.length < 8 ∧ s.mapu.jtile ≠ 0 ∧ s.mapu.jline < 256) ∧
    (∃ (s : State) (l : _), s.pwr.st = .service ∧ lineDue s = false ∧ findP (fun l => !l.started) s.mapu.lines = some l ∧ startable s
      .journal = true ∧ 4 ≤ freeTok s (ptnDieIx s.mapu.jtile)) ∧
    (∃ (s : State), findP (fun o : Op => decide (o.kind = .program .journal) && !o.suspended) s.med.ops = none) ∧
    (∃ (s : State) (o : _) (l : _) (r : _) (ns : _), s.pwr.st = .service ∧ Quiescent s ∧ s.wear.moves = [] ∧ s.mapu.lines = l :: r ∧ ns ≤
      2400 ∧ findP (fun o : Op => decide (o.kind = .program .journal) && !o.suspended) s.med.ops = some o) ∧
    (∃ (s : State) (o : _) (ok : _) (ns : _), (ok = false ∨ 2400 < ns) ∧ o.fails = 0 ∧ findP (fun o : Op => decide (o.kind = .program
      .journal) && !o.suspended) s.med.ops = some o) := by
  refine ⟨⟨svc, ?_⟩,
    ⟨{ svc with mapu := { svc.mapu with tail := [{ seq := 0, last := true, val := .tileTake 64 0 0 }], tailAt := [0], jtile := 64, jline := 255, jnext := 1 } : State }, ?_⟩,
    ⟨{ svc with mapu := { svc.mapu with jtile := 64, jline := 6, jnext := 1, lines := [{ line := 5, recs := [{ seq := 0, last := true, val := .tileTake 64 0 0 }], data := 7, started := false }] }, cist := { svc.cist with tok := [(0, 16)] } : State }, { line := 5, recs := [{ seq := 0, last := true, val := .tileTake 64 0 0 }], data := 7, started := false }, ?_⟩,
    ⟨svc, ?_⟩,
    ⟨{ svc with mapu := { svc.mapu with jtile := 64, jline := 6, jnext := 1, lines := [{ line := 5, recs := [{ seq := 0, last := true, val := .tileTake 64 0 0 }], data := 7, started := true }] }, med := { svc.med with ops := [{ kind := .program .journal, die := 0, part := 0, ptn := 64, fslot := 5, frame := metaFrame svc 64 5 7, fails := 0, suspended := false }] } : State }, { kind := .program .journal, die := 0, part := 0, ptn := 64, fslot := 5, frame := metaFrame svc 64 5 7, fails := 0, suspended := false }, { line := 5, recs := [{ seq := 0, last := true, val := .tileTake 64 0 0 }], data := 7, started := true }, [], 1600, ?_⟩,
    ⟨{ svc with mapu := { svc.mapu with jtile := 64, jline := 6, jnext := 1, lines := [{ line := 5, recs := [{ seq := 0, last := true, val := .tileTake 64 0 0 }], data := 7, started := true }] }, med := { svc.med with ops := [{ kind := .program .journal, die := 0, part := 0, ptn := 64, fslot := 5, frame := metaFrame svc 64 5 7, fails := 0, suspended := false }] } : State }, { kind := .program .journal, die := 0, part := 0, ptn := 64, fslot := 5, frame := metaFrame svc 64 5 7, fails := 0, suspended := false }, false, 1600, ?_⟩⟩ <;>
    ((try unfold Issued); (try unfold Quiescent); (try and_intros) <;> first | decide +kernel | rfl | (left; decide +kernel) | (intros; decide +kernel))

/-- What the clauses of BerylPagesComeIntoForce assume can hold. -/
theorem witness_BerylPagesComeIntoForce :
    (∃ (s : State), s.pwr.st ≠ .drain ∧ s.beryl.ops = []) ∧
    (∃ (s : State) (op : _) (rest : _) (n : _) (ps : _), s.pwr.st ≠ .drain ∧ s.beryl.ops = op :: rest ∧ s.beryl.prog = [] ∧ op.pages = n ::
      ps) ∧
    (∃ (s : State), Quiescent s ∧ s.beryl.prog = []) ∧
    (∃ (s : State) (n : _) (pg : _) (f : _), Quiescent s ∧ s.beryl.prog = [(n, pg, f)] ∧ s.beryl.ops = [] ∧ n < 4096 ∧ ((slotAt s n (forceOf
      s n)).psq + 1) % 2 ^ 20 < regF s .beryl 0 13 6 0 * 1024) ∧
    (∃ (s : State) (n : _) (pg : _) (r : _), Quiescent s ∧ s.beryl.prog = (n, pg, 0) :: r) := by
  refine ⟨⟨svc, ?_⟩,
    ⟨{ svc with beryl := { svc.beryl with ops := [{ num := 1, ranges := [(5, 6)], begun := true, pages := [5, 6], total := 2, fails := false, kind := 0 }] } : State }, { num := 1, ranges := [(5, 6)], begun := true, pages := [5, 6], total := 2, fails := false, kind := 0 }, [], 5, [6], ?_⟩,
    ⟨svc, ?_⟩,
    ⟨{ svc with beryl := { svc.beryl with prog := [(5, 7, 0)] } : State }, 5, 7, 0, ?_⟩,
    ⟨{ svc with beryl := { svc.beryl with prog := [(0, 0, 0)] } : State }, 0, 0, [], ?_⟩⟩ <;>
    ((try unfold Issued); (try unfold Quiescent); (try and_intros) <;> first | decide +kernel | rfl | (left; decide +kernel) | (intros; decide +kernel))

/-- What the clauses of RingsFetchAndComplete assume can hold. -/
theorem witness_RingsFetchAndComplete :
    (∃ (s : State) (p : Port), (ringAt s p.val).enabled = false ∨ (ringAt s p.val).head = (ringAt s p.val).tail) ∧
    (∃ (s : State) (p : Port) (d : _), s.pwr.st = .service ∧ domOn s (2 + p.val) = true ∧ (ringAt s p.val).enabled = true ∧ (ringAt s
      p.val).head ≠ (ringAt s p.val).tail ∧ runCount s p.val < maxRun s p.val ∧ tagBusy s p.val (descOf d).tag = false ∧ opKnown (descOf
      d).opcode = true ∧ sanBusy s = false) ∧
    (∃ (s : State) (p : Port) (d : _), s.pwr.st = .service ∧ domOn s (2 + p.val) = true ∧ (ringAt s p.val).enabled = true ∧ (ringAt s
      p.val).head ≠ (ringAt s p.val).tail ∧ runCount s p.val < maxRun s p.val ∧ tagBusy s p.val (descOf d).tag = false ∧ opKnown (descOf
      d).opcode = false) ∧
    (∃ (s : State) (p : Port), (ringAt s p.val).wait = []) ∧
    (∃ (s : State) (p : Port) (c : _) (rest : _), s.pwr.st = .service ∧ domOn s (2 + p.val) = true ∧ (ringAt s p.val).wait = c :: rest ∧
      ((ringAt s p.val).cplTail + 1) % cplSize s p.val ≠ (ringAt s p.val).cplHead) ∧
    (∃ (s : State) (p : Port) (c : _) (rest : _), s.pwr.st = .service ∧ domOn s (2 + p.val) = true ∧ (ringAt s p.val).wait = c :: rest ∧
      ((ringAt s p.val).cplTail + 1) % cplSize s p.val = (ringAt s p.val).cplHead) ∧
    (∃ (s : State) (p : Port) (v : Fin 16), sGet 0 (ringAt s p.val).vecs v.val ≠ 0 ∧ sGet 0 (ringAt s p.val).vecs v.val ≤ now s + 1) ∧
    (∃ (s : State) (p : Port) (v : Fin 16), sGet 0 (ringAt s p.val).vecs v.val = 0) ∧
    (∃ (s : State) (d : _), s.pwr.st = .service ∧ runCount s 4 < 64 ∧ tagBusy s 4 (descOf d).tag = false ∧ opKnown (descOf d).opcode = true
      ∧ sanBusy s = false) ∧
    (∃ (s : State) (d : _), s.pwr.st = .standby ∧ tagBusy s 4 (descOf d).tag = false ∧ opKnown (descOf d).opcode = true ∧ (descOf d).opcode
      ≠ 0x0A ∧ (descOf d).opcode ≠ 0x13) ∧
    (∃ (s : State), s.pwr.st ≠ .off) ∧
    (∃ (s : State), s.pwr.st = .off) := by
  refine ⟨⟨svc, 0, ?_⟩,
    ⟨{ svc with rings := [(0, { ringInit with enabled := true, tail := 1 })] : State }, 0, mkDesc 4 0 0 0 16384 0, ?_⟩,
    ⟨{ svc with rings := [(0, { ringInit with enabled := true, tail := 1 })] : State }, 0, mkDesc 0xFE 0 0 0 0 0, ?_⟩,
    ⟨svc, 0, ?_⟩,
    ⟨{ svc with rings := [(0, { ringInit with enabled := true, wait := [{ tag := 0, status := 0, opcode := 4, result := 0, noirq := false, vec := 0 }] })] : State }, 0, { tag := 0, status := 0, opcode := 4, result := 0, noirq := false, vec := 0 }, [], ?_⟩,
    ⟨{ svc with rings := [(0, { ringInit with enabled := true, cplHead := 1, wait := [{ tag := 0, status := 0, opcode := 4, result := 0, noirq := false, vec := 0 }] })] : State }, 0, { tag := 0, status := 0, opcode := 4, result := 0, noirq := false, vec := 0 }, [], ?_⟩,
    ⟨{ svc with rings := [(0, { ringInit with enabled := true, vecs := [(15, 5)] })] : State }, 0, 15, ?_⟩,
    ⟨svc, 0, 0, ?_⟩,
    ⟨svc, mkDesc 4 0 0 0 16384 0, ?_⟩,
    ⟨stby, mkDesc 4 0 0 0 16384 0, ?_⟩,
    ⟨stby, ?_⟩,
    ⟨State.reset, ?_⟩⟩ <;>
    ((try unfold Issued); (try unfold Quiescent); (try and_intros) <;> first | decide +kernel | rfl | (left; decide +kernel) | (intros; decide +kernel))

/-- What the clauses of TilesFollowTheirCommands assume can hold. -/
theorem witness_TilesFollowTheirCommands :
    (∃ (s : State) (r : _) (src : Src) (tag : _), Issued s r src.val tag 0x04 ∧ s.pair.role = .unpaired ∧ s.pair.hand = .none ∧ s.pair.home
      = .all ∧ checkStatus s r.src (fillChecks s r (descOf r.desc)) = 0 ∧ (descOf r.desc).len = 16384 ∧ tailFull s = false ∧ underMove s
      ((descOf r.desc).addr0 / 16384) = false) ∧
    (∃ (s : State) (r : _) (src : Src) (tag : _), Issued s r src.val tag 0x05 ∧ s.pair.role = .unpaired ∧ s.pair.hand = .none ∧ s.pair.home
      = .all ∧ checkStatus s r.src (cloneChecks s r (descOf r.desc)) = 0 ∧ (descOf r.desc).len = 16384 ∧ tailFull s = false ∧ s.wear.moves =
      [] ∧ s.cache.ways = [] ∧ s.cist.ents = [] ∧ pageHere s (pageOf ((descOf r.desc).addr0 / 16384)) = true ∧ (entryAt s ((descOf
      r.desc).addr0 / 16384)).st = .const) ∧
    (∃ (s : State) (r : _) (src : Src) (tag : _) (k : _) (w : _), Issued s r src.val tag 0x07 ∧ s.pair.role = .unpaired ∧ s.pair.hand =
      .none ∧ s.pair.home = .all ∧ checkStatus s r.src (poisonClearChecks s r (descOf r.desc)) = 0 ∧ (descOf r.desc).len = 64 ∧ s.cist.waits
      = [] ∧ pageHere s (pageOf (ltnOf ((descOf r.desc).addr0 / 64))) = true ∧ lockHeld s ((descOf r.desc).addr0 / 64) = false ∧
      s.cache.upset = [] ∧ findWay s ((descOf r.desc).addr0 / 64) = some (k, w) ∧ w.p = true) ∧
    (∃ (s : State) (r : _) (src : Src) (tag : _), Issued s r src.val tag 0x12 ∧ s.pair.role = .unpaired ∧ s.pair.hand = .none ∧ s.pair.home
      = .all ∧ checkStatus s r.src (capacityReleaseChecks s r (descOf r.desc)) = 0 ∧ 0 < (descOf r.desc).len ∧ tailFull s = false) ∧
    (∃ (s : State) (r : _) (src : Src) (tag : _), Issued s r src.val tag 0x10 ∧ s.pair.role = .unpaired ∧ checkStatus s r.src
      (sanitizeChecks s r (descOf r.desc)) = 0) := by
  refine ⟨⟨(running (svc) (fresh 0 (mkDesc 4 0 0 0 16384 0xA5))), (fresh 0 (mkDesc 4 0 0 0 16384 0xA5)), 0, 0, ?_⟩,
    ⟨(running ({ svc with tabs := { svc.tabs with map := [(0, { entryInit with st := .const, ptn := 0xA5 })] } }) (fresh 0 (mkDesc 5 0 0 16384 16384 0))), (fresh 0 (mkDesc 5 0 0 16384 16384 0)), 0, 0, ?_⟩,
    ⟨(running ({ withTile svc with cache := { svc.cache with ways := [(wayKey (sliceOf cacheReset 0) (setOf 0) 0, { wayOf 0 false with p := true })] } }) (fresh 0 (mkDesc 7 0 0 0 64 0))), (fresh 0 (mkDesc 7 0 0 0 64 0)), 0, 0, (wayKey (sliceOf cacheReset 0) (setOf 0) 0), { wayOf 0 false with p := true }, ?_⟩,
    ⟨(running (armed svc 0) (fresh 0 (mkDesc 0x12 0 0 0 268435456 0))), (fresh 0 (mkDesc 0x12 0 0 0 268435456 0)), 0, 0, ?_⟩,
    ⟨(running (armed svc 0) (fresh 0 (mkDesc 0x10 0 0 0 0 0))), (fresh 0 (mkDesc 0x10 0 0 0 0 0)), 0, 0, ?_⟩⟩ <;>
    ((try unfold Issued); (try unfold Quiescent); (try and_intros) <;> first | decide +kernel | rfl | (left; decide +kernel) | (intros; decide +kernel))

/-- What the clauses of PairAndScrubFollowTheirCommands assume can hold. -/
theorem witness_PairAndScrubFollowTheirCommands :
    (∃ (s : State) (r : _) (src : Src) (tag : _), Issued s r src.val tag 0x11 ∧ twinIs 0 (descOf r.desc) = true ∧ checkStatus s r.src
      (twinJoinChecks s r (descOf r.desc)) = 0 ∧ s.pair.linkUp = false) ∧
    (∃ (s : State) (r : _) (src : Src) (tag : _), Issued s r src.val tag 0x11 ∧ twinIs 1 (descOf r.desc) = true ∧ s.pair.opens ≠ [] ∧ checkStatus s r.src { checksOf .service (twinBad r (descOf r.desc)) with wrongState := decide (s.pair.role ≠ .paired) } = 0) ∧
    (∃ (s : State) (r : _) (tag : _), Issued s r 4 tag 0x11 ∧ twinIs 2 (descOf r.desc) = true ∧ checkStatus s r.src (twinPromoteChecks s r
      (descOf r.desc)) = 0) ∧
    (∃ (s : State) (r : _) (p : Port) (tag : _), Issued s r p.val tag 0x11 ∧ twinIs 2 (descOf r.desc) = true ∧ twinBad r (descOf r.desc) =
      false) ∧
    (∃ (s : State) (r : _) (src : Src) (tag : _), Issued s r src.val tag 0x11 ∧ twinIs 3 (descOf r.desc) = true ∧ checkStatus s r.src { checksOf .service (twinBad r (descOf r.desc)) with unlock := true, wrongState := !s.pair.diverged } = 0) ∧
    (∃ (s : State) (r : _) (p : Port) (tag : _), Issued s r p.val tag 0x15 ∧ scrubIs 0 (descOf r.desc) = true ∧ checkStatus s r.src
      (checksOf .service (unused r.desc 2 false false false 0)) = 0) ∧
    (∃ (s : State) (r : _) (p : Port) (tag : _), Issued s r p.val tag 0x15 ∧ scrubIs 1 (descOf r.desc) = true ∧ checkStatus s r.src
      (checksOf .service (unused r.desc 2 false false false 0)) = 0) ∧
    (∃ (s : State) (r : _) (src : Src) (tag : _) (x : _), Issued s r src.val tag 0x15 ∧ scrubIs 2 (descOf r.desc) = true ∧ checkStatus s
      r.src (scrubRangeChecks s r (descOf r.desc)) = 0 ∧ rangeAt s ⟨r.src, tag, dlnOf (descOf r.desc).addr0, ((descOf r.desc).addr0 +
      (descOf r.desc).len) / 16384, 0⟩ = some x) ∧
    (∃ (s : State) (r : _) (p : Port) (tag : _) (g : _), Issued s r p.val tag 0x15 ∧ scrubIs 3 (descOf r.desc) = true ∧ s.drift.range = some g ∧ (descOf r.desc).tag ≠ g.tag ∧ checkStatus s r.src { checksOf .service (unused r.desc 2 false false false 0) with wrongState := s.drift.range.isNone } = 0) := by
  refine ⟨⟨(running (svc) (fresh 0 (mkDesc 0x11 0 0 0 0 0))), (fresh 0 (mkDesc 0x11 0 0 0 0 0)), 0, 0, ?_⟩,
    ⟨(running ({ psvc with pair := { psvc.pair with opens := [.write 7 0 (.host 1 9) false] } }) (fresh 0 (mkDesc 0x11 1 0 0 0 0))), (fresh 0 (mkDesc 0x11 1 0 0 0 0)), 0, 0, ?_⟩,
    ⟨(running (armed { svc with pair := { svc.pair with role := .fenced } } 4) (fresh 4 (mkDesc 0x11 2 0 0 0 0))), (fresh 4 (mkDesc 0x11 2 0 0 0 0)), 0, ?_⟩,
    ⟨(running (svc) (fresh 0 (mkDesc 0x11 2 0 0 0 0))), (fresh 0 (mkDesc 0x11 2 0 0 0 0)), 0, 0, ?_⟩,
    ⟨(running (armed { svc with pair := { svc.pair with diverged := true } } 0) (fresh 0 (mkDesc 0x11 3 0 0 0 0))), (fresh 0 (mkDesc 0x11 3 0 0 0 0)), 0, 0, ?_⟩,
    ⟨(running (svc) (fresh 0 (mkDesc 0x15 0 0 0 0 0))), (fresh 0 (mkDesc 0x15 0 0 0 0 0)), 0, 0, ?_⟩,
    ⟨(running (svc) (fresh 0 (mkDesc 0x15 1 0 0 0 0))), (fresh 0 (mkDesc 0x15 1 0 0 0 0)), 0, 0, ?_⟩,
    ⟨(running (withTile svc) (fresh 0 (mkDesc 0x15 2 0 0 16384 0))), (fresh 0 (mkDesc 0x15 2 0 0 16384 0)), 0, 0, (0, 0), ?_⟩,
    ⟨{ (running (svc) (fresh 0 (mkDesc 0x15 3 0 0 0 0))) with drift := { (running (svc) (fresh 0 (mkDesc 0x15 3 0 0 0 0))).drift with range := some { src := 0, tag := 7, next := 0, last := 1, sensed := 0 } } : State }, (fresh 0 (mkDesc 0x15 3 0 0 0 0)), 0, 0, { src := 0, tag := 7, next := 0, last := 1, sensed := 0 }, ?_⟩⟩ <;>
    ((try unfold Issued); (try unfold Quiescent); (try and_intros) <;> first | decide +kernel | rfl | (left; decide +kernel) | (intros; decide +kernel))

/-- What the clauses of IdeKeysNeedSecuredSessions assume can hold. -/
theorem witness_IdeKeysNeedSecuredSessions :
    (∃ (s : State) (p : Port) (id : _), (portAt s p.val).linkUp = true ∧ secured s (.doe p) id = true) ∧
    (∃ (s : State) (p : Port) (id : _) (mem : _) (kset : _), (portAt s p.val).linkUp = true ∧ secured s (.doe p) id = true ∧ keysReady
      (portAt s p.val) mem kset = true) ∧
    (∃ (s : State) (p : Port) (id : _) (mem : _) (kset : _), (portAt s p.val).linkUp = true ∧ secured s (.doe p) id = true ∧ keysReady
      (portAt s p.val) mem kset = false) ∧
    (∃ (s : State) (p : Port) (id : _), (portAt s p.val).linkUp = true ∧ secured s (.doe p) id = true ∧ s.sec.entropyOk = true) ∧
    (∃ (s : State) (p : Port) (id : _), (portAt s p.val).linkUp = true ∧ secured s (.doe p) id = true ∧ s.sec.entropyOk = false) ∧
    (∃ (s : State) (p : Port) (id : _), (portAt s p.val).linkUp = true ∧ secured s (.doe p) id = true) ∧
    (∃ (s : State) (p : Port) (id : _) (mem : _) (tx : _) (kset : _) (key : _) (c : _), (portAt s p.val).linkUp = true ∧ secured s (.doe p)
      id = false ∧ c ∈ [Instr.query (.doe p) id, .keyProg (.doe p) id mem tx kset key, .kSetGo (.doe p) id mem kset, .kSetStop (.doe p) id
      mem kset, .getKey (.doe p) id]) ∧
    (∃ (s : State) (id : _) (mem : _) (tx : _) (kset : _) (key : _) (c : _), s.pwr.st ≠ .off ∧ c ∈ [Instr.query .sideband id, .keyProg
      .sideband id mem tx kset key, .kSetGo .sideband id mem kset, .kSetStop .sideband id mem kset, .getKey .sideband id]) := by
  refine ⟨⟨{ svc with ports := [(0, { portUp with sessions := [{ id := 1, established := true, keyGen := 0 }], ideKeys := [(0, 5), (2, 6)] })] : State }, 0, 1, ?_⟩,
    ⟨{ svc with ports := [(0, { portUp with sessions := [{ id := 1, established := true, keyGen := 0 }], ideKeys := [(0, 5), (2, 6)] })] : State }, 0, 1, false, false, ?_⟩,
    ⟨{ svc with ports := [(0, { portUp with sessions := [{ id := 1, established := true, keyGen := 0 }], ideKeys := [(0, 5), (2, 6)] })] : State }, 0, 1, true, false, ?_⟩,
    ⟨{ svc with ports := [(0, { portUp with sessions := [{ id := 1, established := true, keyGen := 0 }], ideKeys := [(0, 5), (2, 6)] })] : State }, 0, 1, ?_⟩,
    ⟨{ svc with ports := [(0, { portUp with sessions := [{ id := 1, established := true, keyGen := 0 }], ideKeys := [(0, 5), (2, 6)] })], sec := { svc.sec with entropyOk := false } : State }, 0, 1, ?_⟩,
    ⟨{ svc with ports := [(0, { portUp with sessions := [{ id := 1, established := true, keyGen := 0 }], ideKeys := [(0, 5), (2, 6)] })] : State }, 0, 1, ?_⟩,
    ⟨svc, 0, 1, true, true, true, 9, (.query (.doe 0) 1), ?_⟩,
    ⟨stby, 1, true, true, true, 9, (.getKey .sideband 1), ?_⟩⟩ <;>
    ((try unfold Issued); (try unfold Quiescent); (try and_intros) <;> first | decide +kernel | rfl | (left; decide +kernel) | (intros; decide +kernel))

/-- What the clauses of ActionFieldsTakeEffect assume can hold. -/
theorem witness_ActionFieldsTakeEffect :
    (∃ (s : State), s.pwr.st ≠ .off ∧ unflushedPages s ≠ []) ∧
    (∃ (s : State), s.pwr.st ≠ .off ∧ unflushedPages s = []) ∧
    (∃ (s : State), s.pwr.st ≠ .off) ∧
    (∃ (s : State), s.pwr.st ≠ .off ∧ domOn s 1 = true ∧ 3 ≤ codeClass (regF s .fault 0 42 15 0)) ∧
    (∃ (s : State), s.pwr.st ≠ .off ∧ domOn s 1 = true ∧ codeClass (regF s .fault 0 42 15 0) = 2 ∧ escalating (regF s .fault 0 42 15 0) =
      true ∧ s.flt.uc.valid = false) ∧
    (∃ (s : State) (v : BitVec 64), s.pwr.st ≠ .off ∧ domOn s 1 = true ∧ v.toNat < 256) ∧
    (∃ (s : State) (v : BitVec 64), s.pwr.st ≠ .off ∧ domOn s 1 = true ∧ s.zir.pend = planInit ∧ v.toNat < 32 ∧ v ≠ 0) ∧
    (∃ (s : State) (f : _), s.pwr.st ≠ .off ∧ domOn s 1 = true ∧ s.zir.pend = { planInit with floor := some f }) ∧
    (∃ (s : State), s.pwr.st ≠ .off ∧ domOn s 1 = true ∧ s.sec.advPending = true) ∧
    (∃ (s : State), s.pwr.st ≠ .off ∧ domOn s 1 = true ∧ s.sec.advPending = false) ∧
    (∃ (s : State), s.pwr.st ≠ .off ∧ domOn s 1 = true) ∧
    (∃ (s : State) (n : Slice) (w : _), s.pwr.st ≠ .off ∧ domOn s (8 + n.val) = true ∧ w < 16 ∧ isArmed s 4 = true ∧ expertOk s .cache 1 (2
      ^ w) = true ∧ (sliceAt s n.val).retired = false ∧ 12 < countP (fun k => wayUsable s n.val k) (List.range 16) ∧ regB s .cache n.val 1 w
      = false) := by
  refine ⟨⟨{ svc with ag := { svc.ag with buf := [(0, (agX, false))] } : State }, ?_⟩,
    ⟨svc, ?_⟩,
    ⟨svc, ?_⟩,
    ⟨{ svc with regs := [(1834, { act := 0x301, pend := 0x301, rc := 0 })] : State }, ?_⟩,
    ⟨{ svc with regs := [(1834, { act := 0x201, pend := 0x201, rc := 0 })] : State }, ?_⟩,
    ⟨svc, 255, ?_⟩,
    ⟨svc, 31, ?_⟩,
    ⟨{ svc with zir := { svc.zir with pend := { planInit with floor := some 3 } } : State }, 3, ?_⟩,
    ⟨{ svc with sec := { svc.sec with advPending := true } : State }, ?_⟩,
    ⟨svc, ?_⟩,
    ⟨svc, ?_⟩,
    ⟨{ (armed svc 4) with regs := [(18, { act := 0x3FFFF, pend := 0x3FFFF, rc := 0 })] : State }, 7, 15, ?_⟩⟩ <;>
    ((try unfold Issued); (try unfold Quiescent); (try and_intros) <;> first | decide +kernel | rfl | (left; decide +kernel) | (intros; decide +kernel))

/-- What the clauses of ThermalConditionIsKept assume can hold. -/
theorem witness_ThermalConditionIsKept :
    ∃ (s : State) (t : _), ThermalInv s ∧ step s = .next t := by
  refine ⟨svc, tick svc, ?_⟩ <;>
    ((try unfold Issued); (try unfold Quiescent); (try and_intros) <;> first | decide +kernel | rfl | (left; decide +kernel) | (intros; decide +kernel))

end Sys2Proof.Tests
end

section
/-! PROOF. The statements of the module at a glance: the power unit under the operations that record or store. -/

namespace Sys2Proof.Proofs.Glance

open Sys2Proof Sys2Proof.Machine Sys2Proof.Safety

/-! ## What recording and storing do to the power unit -/

/-- A Drain whose step 4 has ended. -/
def markStored (d : Drain) : Drain := { d with stored := true }

/-- All that a record or a store operation can do to the power unit: an operation that ends may be the one of a Drain's step 4. -/
def KeepsPower (p q : Power) : Prop := q = p ∨ q = { p with drain := p.drain.map markStored }

namespace KeepsPower

variable {p q r : Power}

theorem of_eq (h : q = p) : KeepsPower p q := .inl h

theorem after (e : q = p) (k : KeepsPower q r) : KeepsPower p r := e ▸ k

theorem trans (h : KeepsPower p q) (k : KeepsPower q r) : KeepsPower p r := by
  rcases h with rfl | rfl <;> rcases k with rfl | rfl
  · exact .inl rfl
  · exact .inr rfl
  · exact .inr rfl
  · exact .inr (by cases p.drain <;> rfl)

theorem st (h : KeepsPower p q) : q.st = p.st := by rcases h with rfl | rfl <;> rfl
theorem fatal (h : KeepsPower p q) : q.fatal = p.fatal := by rcases h with rfl | rfl <;> rfl
theorem perstLatch (h : KeepsPower p q) : q.perstLatch = p.perstLatch := by rcases h with rfl | rfl <;> rfl

/-- A Drain that has stored stays as it is. -/
theorem drain_of_stored (h : KeepsPower p q) {d : Drain} (hd : p.drain = some d) (hs : d.stored = true) : q.drain = some d := by
  rcases h with rfl | rfl
  · exact hd
  · cases d
    subst hs
    simp [hd, markStored]

end KeepsPower

theorem opEnded_keepsPower (s : State) (op : StoreOp) : KeepsPower s.pwr (opEnded s op).pwr := by
  by_cases hk : op.kind = 2
  · refine .inr ?_
    unfold opEnded
    simp only [hk]
    split <;> simp <;> rfl
  · refine .inl ?_
    unfold opEnded
    simp only [hk]
    split <;> simp

theorem promoteOps_keepsPower (n : Nat) (s : State) : KeepsPower s.pwr (promoteOps n s).pwr := by
  induction n generalizing s with
  | zero => exact .of_eq rfl
  | succ n ih =>
    unfold promoteOps
    split
    · exact .of_eq rfl
    · next op rest _ =>
      have hend := opEnded_keepsPower { s with beryl := { s.beryl with ops := rest } } op
      simp only
      split
      · exact .of_eq rfl
      · split
        · exact hend.trans (ih _)
        · exact .of_eq rfl

theorem startStore_keepsPower (s : State) (kind : Nat) (rs : List (Nat × Nat)) (ahead : Bool) :
    KeepsPower s.pwr (startStore s kind rs ahead).pwr := promoteOps_keepsPower _ _

theorem agNextSeq_keepsPower (s : State) : KeepsPower s.pwr (agNextSeq s).pwr := by
  unfold agNextSeq
  simp only
  split
  · exact startStore_keepsPower (pgPut _ _ _ _ _) _ _ _
  · exact .of_eq rfl

theorem agOpen_keepsPower (s : State) (r : AgRec) : KeepsPower s.pwr (agAdd.agOpen s r).1.pwr := by
  unfold agAdd.agOpen
  simp only
  split
  · simpa using agNextSeq_keepsPower s
  · split
    · exact agNextSeq_keepsPower _
    · exact agNextSeq_keepsPower _

theorem agAdd_keepsPower (s : State) (r : AgRec) : KeepsPower s.pwr (agAdd s r).1.pwr := by
  unfold agAdd
  split
  · split
    · exact .of_eq rfl
    · exact agOpen_keepsPower s r
  · exact agOpen_keepsPower s r

theorem recordOnly_keepsPower (s : State) (r : AgRec) : KeepsPower s.pwr (recordOnly s r).pwr := by
  have h := agAdd_keepsPower s r
  unfold recordOnly
  split <;> simp_all

theorem lostRec_keepsPower (s : State) (r : AgRec) : KeepsPower s.pwr (lostRec s r).pwr := by
  unfold lostRec
  split
  · simpa using recordOnly_keepsPower (countTotal s 0x020C) (mkRec s srcAgate 0x020C r.seq 0 0 false)
  · exact .of_eq rfl

theorem recordEv_keepsPower (s : State) (src code a0 a1 a2 : Nat) (urgent : Bool) :
    KeepsPower s.pwr (recordEv s src code a0 a1 a2 urgent).pwr :=
  (recordOnly_keepsPower s _).trans (lostRec_keepsPower _ _)

/-- An event that is recorded leaves the power unit alone, but for the end of a Drain's step 4. -/
theorem noteEv_keepsPower (s : State) (src code a0 a1 a2 : Nat) : KeepsPower s.pwr (noteEv s src code a0 a1 a2).pwr := by
  have h := recordEv_keepsPower (countTotal s code) src code a0 a1 a2 false
  simp only [countTotal_keeps] at h
  exact h

@[simp] theorem noteEv_st (s : State) (src code a0 a1 a2 : Nat) : (noteEv s src code a0 a1 a2).pwr.st = s.pwr.st :=
  (noteEv_keepsPower ..).st

@[simp] theorem startStore_st (s : State) (kind : Nat) (rs : List (Nat × Nat)) (ahead : Bool) :
    (startStore s kind rs ahead).pwr.st = s.pwr.st := (startStore_keepsPower ..).st

/-! ## Thermal evaluation -/

/-- The condition that an evaluation finds (18 R517). -/
def foundCond (s : State) : Therm := if s.th.tripped then .shutdown else thermOf (topLevel s)

/-- The thermal unit once the condition found has taken force. -/
def withCond (s : State) : Thermal := { thermTime s.th (now s) with cond := foundCond s }

theorem evalThermal_eq (s : State) (src : Nat) (t4 : Int) : evalThermal s src t4 = if foundCond s = s.th.cond then s
    else noteEv (flagThermal { s with th := withCond s } 0) srcThermal 0x0190 (thermCode (foundCond s)) src (tempCode t4) := rfl

theorem evalThermal_keepsPower (s : State) (src : Nat) (t4 : Int) : KeepsPower s.pwr (evalThermal s src t4).pwr := by
  rw [evalThermal_eq]
  split
  · exact .of_eq rfl
  · have h := noteEv_keepsPower (flagThermal { s with th := withCond s } 0) srcThermal 0x0190 (thermCode (foundCond s)) src (tempCode t4)
    simpa using h

theorem withCond_readings (s : State) : (withCond s).yel = s.th.yel ∧ (withCond s).yelMiss = s.th.yelMiss ∧
    (withCond s).yelLvl = s.th.yelLvl ∧ (withCond s).yelFail = s.th.yelFail ∧ (withCond s).tripped = s.th.tripped ∧
    (withCond s).shutCnt = s.th.shutCnt := by
  unfold withCond thermTime
  cases s.th.cond <;> simp

/-- An evaluation of the thermal condition changes no reading, level or trip. -/
@[simp] theorem evalThermal_readings (s : State) (src : Nat) (t4 : Int) : (evalThermal s src t4).th.yel = s.th.yel ∧
    (evalThermal s src t4).th.yelMiss = s.th.yelMiss ∧ (evalThermal s src t4).th.yelLvl = s.th.yelLvl ∧
    (evalThermal s src t4).th.yelFail = s.th.yelFail ∧ (evalThermal s src t4).th.tripped = s.th.tripped ∧
    (evalThermal s src t4).th.shutCnt = s.th.shutCnt := by
  rw [evalThermal_eq]
  split
  · simp
  · simpa using withCond_readings s

@[simp] theorem evalThermal_cond (s : State) (src : Nat) (t4 : Int) : (evalThermal s src t4).th.cond = foundCond s := by
  rw [evalThermal_eq]
  split
  · next h => exact h.symm
  · simp [withCond]

@[simp] theorem evalThermal_st (s : State) (src : Nat) (t4 : Int) : (evalThermal s src t4).pwr.st = s.pwr.st :=
  (evalThermal_keepsPower ..).st

/-! ## Entry to STANDBY -/

/-- The last-gasp record is taken into Agate, and the power unit keeps the rest. -/
theorem takeGasp_keepsPower (s : State) : KeepsPower { s.pwr with gasp := none } (takeGasp s).pwr := by
  unfold takeGasp
  split
  · next r _ =>
    have hopen := agOpen_keepsPower { s with pwr := { s.pwr with gasp := none } } { r with arg2 := r.arg2 % 2 ^ 15 + 2 ^ 15 }
    exact hopen.trans (lostRec_keepsPower _ _)
  · next h => exact .of_eq (by rw [← h])

@[simp] theorem send_role (s : State) (m : Msg) : (send s m).pair.role = s.pair.role := by
  unfold send
  split
  · split <;> rfl
  · split <;> rfl

@[simp] theorem agLose_role (s : State) (r : AgRec) : (agLose s r).pair.role = s.pair.role := by
  unfold agLose
  simp only
  split
  · exact send_role ..
  · rfl

@[simp] theorem agOpen_role (s : State) (r : AgRec) : (agAdd.agOpen s r).1.pair.role = s.pair.role := by
  unfold agAdd.agOpen
  simp only
  split
  · simp
  · split <;> simp

@[simp] theorem agAdd_role (s : State) (r : AgRec) : (agAdd s r).1.pair.role = s.pair.role := by
  unfold agAdd
  split
  · split
    · rfl
    · exact agOpen_role ..
  · exact agOpen_role ..

@[simp] theorem recordOnly_role (s : State) (r : AgRec) : (recordOnly s r).pair.role = s.pair.role := by
  have h := agAdd_role s r
  unfold recordOnly
  split <;> simp_all

@[simp] theorem lostRec_role (s : State) (r : AgRec) : (lostRec s r).pair.role = s.pair.role := by
  unfold lostRec
  split
  · simp
  · rfl

@[simp] theorem takeGasp_role (s : State) : (takeGasp s).pair.role = s.pair.role := by
  unfold takeGasp
  split
  · simp
  · rfl

@[simp] theorem enterStandby_st (s : State) : (enterStandby s).pwr.st = .standby := (takeGasp_keepsPower _).st
@[simp] theorem enterStandby_fatal (s : State) : (enterStandby s).pwr.fatal = s.pwr.fatal := (takeGasp_keepsPower _).fatal
@[simp] theorem enterStandby_perstLatch (s : State) : (enterStandby s).pwr.perstLatch = 0 := (takeGasp_keepsPower _).perstLatch
@[simp] theorem enterStandby_role (s : State) : (enterStandby s).pair.role = .unpaired := takeGasp_role _

/-! ## The exit from HALT -/

theorem exitHaltThermal_tripped (s : State) : (exitHaltThermal s).th.tripped = false := by
  simp [exitHaltThermal]

theorem exitHaltThermal_fatal (s : State) : (exitHaltThermal s).pwr.fatal = s.pwr.fatal :=
  (evalThermal_keepsPower { s with th := { s.th with tripped := false } } 0xFF s.th.yel).fatal

/-- Settles O5: the cycle ends in STANDBY, entered from a state whose fatal flag and trip have just been cleared. -/
theorem mainInputCycleLeavesHalt : Obligations.MainInputCycleLeavesHalt := by
  unfold Obligations.MainInputCycleLeavesHalt
  constructor
  · intro s hst hlatch haux
    refine ⟨_, rfl, ?_⟩
    simp [mainInputCycleF, hst, hlatch, haux, exitHaltThermal_tripped, exitHaltThermal_fatal]
  · intro s hst hlatch
    exact ⟨_, rfl, if_neg (by simp_all)⟩

/-! ## The end of the Drain -/

@[simp] theorem enterOff_st (s : State) : (enterOff s).pwr.st = .off := rfl

/-- The module is in a Drain, as `d` records it, and step 4 of the Drain has stored. -/
def StoredDrain (d : Drain) (s : State) : Prop := s.pwr.st = .drain ∧ s.pwr.drain = some d ∧ d.stored = true

theorem StoredDrain.of_keepsPower {d : Drain} {s t : State} (h : StoredDrain d s) (k : KeepsPower s.pwr t.pwr) : StoredDrain d t := by
  obtain ⟨hst, hd, hs⟩ := h
  exact ⟨k.st.trans hst, k.drain_of_stored hd hs, hs⟩

theorem StoredDrain.downDom {d : Drain} {s : State} (h : StoredDrain d s) (stuck : List Nat) (k : Nat) : StoredDrain d (downDom s stuck k) := by
  unfold Machine.downDom
  split
  · exact h
  · split
    · have hfail : StoredDrain d (flagPwr (modDom s k (fun x => { x with st := 3, cause := 4 })) 3) := by
        unfold StoredDrain at h ⊢
        simpa using h
      exact hfail.of_keepsPower (noteEv_keepsPower ..)
    · exact h

theorem StoredDrain.downDoms {d : Drain} {s : State} (h : StoredDrain d s) (stuck ks : List Nat) :
    StoredDrain d (ks.foldl (fun s k => Machine.downDom s stuck k) s) :=
  List.foldlRecOn (motive := StoredDrain d) ks _ h (fun _ hs k _ => hs.downDom stuck k)

theorem StoredDrain.powerDown {d : Drain} {s : State} (h : StoredDrain d s) (stuck : List Nat) : StoredDrain d (powerDown s stuck) := by
  have hdoms := h.downDoms stuck downSteps.flatten
  unfold Machine.powerDown
  generalize downSteps.flatten.foldl _ s = t at hdoms ⊢
  exact hdoms

/-- Switching the domains off loses the lines held in them, and no frame. -/
theorem powerDown_lines (s : State) (stuck : List Nat) :
    (powerDown s stuck).cache.ways = [] ∧ (powerDown s stuck).cist.ents = [] ∧ (powerDown s stuck).med.frames = s.med.frames := by
  have hmed : (downSteps.flatten.foldl (fun s d => downDom s stuck d) s).med = s.med := foldl_med _ _ _ (fun s d => by simp)
  unfold powerDown
  generalize downSteps.flatten.foldl _ s = t at hmed ⊢
  exact ⟨rfl, rfl, congrArg (·.frames) hmed⟩

/-- A Drain whose step 2 has ended, one whose step 2 has run over its time, and one that has been recorded. -/
def markLinesDone (d : Drain) : Drain := { d with linesDone := true }
def markOverrun (d : Drain) : Drain := { d with linesDone := true, overrun := true }
def markRecorded (d : Drain) : Drain := { d with recorded := true }

/-- The state with `d` as what it knows of its Drain. -/
def withDrain (s : State) (d : Drain) : State := { s with pwr := { s.pwr with drain := some d } }

/-- Step 5 records the Drain, and then stores and powers down (16 R477). -/
theorem drainStep5_eq (s : State) (d : Drain) (stuck : List Nat) : ∃ u : State, u.pwr.st = s.pwr.st ∧ u.med = s.med ∧
    drainStep5 s d stuck = powerDown (startStore (withDrain u (markRecorded d)) 3 [(0, 3455)] false) stuck := by
  unfold drainStep5
  refine ⟨_, ?_, ?_, rfl⟩
  · split <;> split <;> simp
  · split <;> split <;> simp

theorem drainStep5_storedDrain (s : State) (d : Drain) (stuck : List Nat) (hst : s.pwr.st = .drain) (hs : d.stored = true) :
    StoredDrain (markRecorded d) (drainStep5 s d stuck) := by
  obtain ⟨u, hu, -, h⟩ := drainStep5_eq s d stuck
  have hbegin : StoredDrain (markRecorded d) (withDrain u (markRecorded d)) := ⟨hu.trans hst, rfl, hs⟩
  rw [h]
  exact (hbegin.of_keepsPower (startStore_keepsPower ..)).powerDown stuck

theorem drainStep5_lines (s : State) (d : Drain) (stuck : List Nat) : (drainStep5 s d stuck).cache.ways = [] ∧
    (drainStep5 s d stuck).cist.ents = [] ∧ (drainStep5 s d stuck).med.frames = s.med.frames := by
  obtain ⟨u, -, hmed, h⟩ := drainStep5_eq s d stuck
  rw [h]
  simpa [withDrain, hmed] using powerDown_lines (startStore (withDrain u (markRecorded d)) 3 [(0, 3455)] false) stuck

/-- The Drain does not go on to its step 5 before step 4 has stored. -/
theorem drainFinish_of_not_stored (s : State) (stuck : List Nat) {d : Drain} (hd : s.pwr.drain = some d) (hs : d.stored = false) :
    drainFinish s stuck = s := by
  simp [drainFinish, hd, hs]

theorem drainFinish_of_stored (s : State) (stuck : List Nat) {d : Drain} (hd : s.pwr.drain = some d) (hl : d.linesDone = true)
    (hs : d.stored = true) (hr : d.recorded = false) (hj : journalDone s = true) : drainFinish s stuck = drainStep5 s d stuck := by
  simp [drainFinish, hd, hl, hs, hr, hj]

theorem drainLinesDoneF_of_open (s : State) (stuck : List Nat) {d : Drain} (hst : s.pwr.st = .drain) (hd : s.pwr.drain = some d)
    (h : d.linesDone = true ∨ drainPending s = false) :
    drainLinesDoneF s stuck = drainFinish (withDrain s (markLinesDone d)) stuck := by
  have hopen : (decide (s.pwr.st = .drain) && (d.linesDone || !drainPending s)) = true := by
    rcases h with h | h <;> simp [hst, h]
  simp only [drainLinesDoneF, hd, hopen, if_true]
  rfl

theorem drainOverrunF_of_due (s : State) (stuck : List Nat) {d : Drain} (hst : s.pwr.st = .drain) (hd : s.pwr.drain = some d)
    (hl : d.linesDone = false) (ht : d.start + 39200000 ≤ s.pwr.time) :
    drainOverrunF s stuck = drainFinish (abandonOps (withDrain s (markOverrun d))) stuck := by
  have hdue : (decide (s.pwr.st = .drain) && !d.linesDone && decide (d.start + 39200000 ≤ now s)) = true := by
    simp [hst, hl, now, ht]
  simp only [drainOverrunF, hd, hdue, if_true]
  rfl

/-- Once the final store has verified, the Drain ends where its trigger and the inputs lead (01 R21, R24). -/
theorem drainFinalStoreDoneF_of_stored (s : State) {d : Drain} (hst : s.pwr.st = .drain) (hd : s.pwr.drain = some d) (hr : d.recorded = true)
    (hprog : s.beryl.prog = []) (hops : s.beryl.ops = []) : drainFinalStoreDoneF s =
      if d.toHalt then offIfDark (syncPersist (enterHalt s d.thermal)) else if s.pwr.auxOn then enterStandby s else enterOff s := by
  simp [drainFinalStoreDoneF, hd, hst, hr, hprog, hops]

/-- A HALT without either input ends in OFF. -/
theorem offIfDark_halt_st (s : State) (h : s.pwr.st = .halt) :
    (offIfDark s).pwr.st = if s.pwr.auxOn || s.pwr.mainOn then .halt else .off := by
  unfold offIfDark
  cases s.pwr.auxOn <;> cases s.pwr.mainOn <;> simp [h]

/-- Settles O7: each trigger's condition opens its branch, and the lemmas on step 5 and on HALT, STANDBY and OFF give the end. -/
theorem drainEndsByItsTriggers : Obligations.DrainEndsByItsTriggers := by
  unfold Obligations.DrainEndsByItsTriggers
  refine ⟨?_, ?_, ?_, ?_⟩
  · intro s d stuck hst hd _ hpend hs
    refine ⟨drainLinesDoneF s stuck, rfl, ?_⟩
    rw [drainLinesDoneF_of_open s stuck hst hd (.inr hpend)]
    exact drainFinish_of_not_stored _ stuck rfl hs
  · intro s d stuck hst hd hdone hs hr hj
    refine ⟨drainLinesDoneF s stuck, rfl, ?_⟩
    rw [drainLinesDoneF_of_open s stuck hst hd hdone,
      drainFinish_of_stored (withDrain s (markLinesDone d)) stuck rfl rfl hs hr hj]
    obtain ⟨hst', hd', -⟩ := drainStep5_storedDrain (withDrain s (markLinesDone d)) (markLinesDone d) stuck hst hs
    exact ⟨hst', hd', drainStep5_lines (withDrain s (markLinesDone d)) _ stuck⟩
  · intro s d stuck hst hd hl ht hs
    refine ⟨drainOverrunF s stuck, rfl, ?_⟩
    rw [drainOverrunF_of_due s stuck hst hd hl ht, drainFinish_of_not_stored (d := markOverrun d) _ stuck rfl hs]
    exact ⟨rfl, hst, rfl, rfl, rfl⟩
  · intro s d hst hd hr hprog hops
    refine ⟨drainFinalStoreDoneF s, rfl, ?_⟩
    rw [drainFinalStoreDoneF_of_stored s hst hd hr hprog hops]
    cases d.toHalt
    · cases s.pwr.auxOn <;> simp
    · simpa [enterHalt] using offIfDark_halt_st (syncPersist (enterHalt s d.thermal)) (by simp [enterHalt])

/-! ## Temperatures -/

@[simp] theorem thrOf_yel_shutdown : thrOf true 0 4 = 460 := by decide
@[simp] theorem thrOf_yel_switchOff : thrOf true 0 5 = 500 := by decide
@[simp] theorem thrOf_media_shutdown : thrOf false 0 4 = 360 := by decide
@[simp] theorem thrOf_media_switchOff : thrOf false 0 5 = 400 := by decide

/-- A reading below the SHUTDOWN threshold of its source is evaluated, and has no other consequence. -/
theorem checkShutdown_of_below (s : State) (src : Nat) (t4 : Int) (yel : Bool) (stuck : List Nat) (h4 : t4 < thrOf yel 0 4)
    (h5 : t4 < thrOf yel 0 5) : checkShutdown s src t4 yel stuck = syncPersist (evalThermal s src t4) := by
  simp [checkShutdown, Int.not_le.2 h4, Int.not_le.2 h5]

@[simp] theorem recordTrip_st (s : State) (src : Nat) (t4 : Int) : (recordTrip s src t4).pwr.st = s.pwr.st := by
  simp [recordTrip]

/-- The thermal unit once a trip has been recorded. -/
def trippedTh (th : Thermal) (src : Nat) (t4 : Int) : Thermal :=
  { th with tripped := true, shutCnt := satAdd 0xFFFFF th.shutCnt 1, lastShut := tempCode t4 + src % 256 * 2 ^ 10 }

theorem recordTrip_th (s : State) (src : Nat) (t4 : Int) : (recordTrip s src t4).th = trippedTh s.th src t4 := by
  simp [recordTrip, trippedTh]

/-- A reading from the SHUTDOWN threshold up to the switch-off threshold trips in SERVICE, and starts a Drain to HALT (18 R519). -/
theorem checkShutdown_of_trip (s : State) (src : Nat) (t4 : Int) (yel : Bool) (stuck : List Nat) (hst : s.pwr.st = .service)
    (htr : s.th.tripped = false) (h4 : thrOf yel 0 4 ≤ t4) (h5 : t4 < thrOf yel 0 5) :
    checkShutdown s src t4 yel stuck = syncPersist (drainStart (evalThermal (recordTrip s src t4) src t4) true true false) := by
  have hact : tripAction (evalThermal (recordTrip s src t4) src t4) stuck =
      drainStart (evalThermal (recordTrip s src t4) src t4) true true false := by
    simp [tripAction, hst]
  simp [checkShutdown, htr, h4, Int.not_le.2 h5, hact]

/-! ## The start of a Drain -/

theorem noteRetired_keepsPower (s : State) (ptn cause : Nat) : KeepsPower s.pwr (noteRetired s ptn cause).pwr := by
  have h := noteEv_keepsPower (addRetired s 1) srcMap 0x0005 ptn cause 0
  simpa [noteRetired] using h

theorem noteVacated_keepsPower (s : State) (ptn : Nat) (c : Option Nat) : KeepsPower s.pwr (noteVacated s ptn c).pwr := by
  cases c with
  | none => exact .of_eq rfl
  | some c => exact noteRetired_keepsPower s ptn c

theorem abandonMove_keepsPower (s : State) (m : Move) : KeepsPower s.pwr (abandonMove s m).pwr := by
  unfold abandonMove
  simp only [evalStop_keeps, count_keeps, flagMove_keeps, dropMove_keeps, ite_pwr, ite_self]
  split
  · exact .after (by simp) (noteRetired_keepsPower _ _ _)
  · exact .after (by simp) (noteVacated_keepsPower _ _ _)

theorem drainMoves_keepsPower (ms : List Move) (s : State) : KeepsPower s.pwr (drainMoves s ms).pwr := by
  induction ms generalizing s with
  | nil => exact .of_eq rfl
  | cons m ms ih =>
    unfold drainMoves
    split
    · exact (abandonMove_keepsPower s m).trans (ih _)
    · exact ih s

theorem drainStep4_keepsPower (s : State) : KeepsPower s.pwr (drainStep4 s).pwr := by
  have h := startStore_keepsPower (stopStores (storeCursor (flushPages s ((unflushedPages s).take 8)))) 2 [(0, 3455)] false
  simpa [drainStep4] using h

/-- What the start of a Drain does in DRAIN: moves are abandoned, the peer is told, and step 4 begins unless writes wait for the peer. -/
def drainStep1 (u : State) (thermal lost : Bool) : State :=
  let moved := drainMoves (mapWaiters u (fun _ ws => readersOf ws)) u.wear.moves
  let noted := sendNote moved (noteOf thermal)
  let listed := if hasIdentity noted && !fencedRole noted.pair.role then writeOpenList noted (openTiles noted) (!lost) else noted
  if linked listed && !listed.pair.opens.isEmpty then listed else drainStep4 listed

theorem drainStart_eq (s : State) (toHalt thermal lost : Bool) :
    ∃ u : State, u.pwr.st = .drain ∧ drainStart s toHalt thermal lost = drainStep1 u thermal lost := ⟨_, rfl, rfl⟩

theorem drainStep1_keepsPower (u : State) (thermal lost : Bool) : KeepsPower u.pwr (drainStep1 u thermal lost).pwr := by
  unfold drainStep1
  extract_lets moved noted listed
  have hmoved : KeepsPower u.pwr moved.pwr := .after (by simp) (drainMoves_keepsPower u.wear.moves (mapWaiters u _))
  have hlisted : listed.pwr = moved.pwr := by
    simp only [listed, noted]
    split <;> simp
  split
  · exact hlisted ▸ hmoved
  · exact hmoved.trans (.after hlisted (drainStep4_keepsPower listed))

theorem drainStart_st (s : State) (toHalt thermal lost : Bool) : (drainStart s toHalt thermal lost).pwr.st = .drain := by
  obtain ⟨u, hu, h⟩ := drainStart_eq s toHalt thermal lost
  rw [h, (drainStep1_keepsPower u thermal lost).st, hu]

/-! ## Samples of the Yelrid diode -/

/-- The state with the reading of a diode that has not failed. -/
def withReading (s : State) (x : Int) : State :=
  { s with th := { s.th with
    yelMiss := 0, yel := x, yelPeak := if s.th.yelPeak < x then x else s.th.yelPeak, yelLvl := nextLevel (thrYel s) 20 x s.th.yelLvl } }

/-- A conversion within the diode's range becomes the reading, and its consequences follow (18 R514). -/
theorem diodeSampleF_of_reading (s : State) (x : Int) (stuck : List Nat) (hst : s.pwr.st ≠ .off) (hlo : -160 ≤ x) (hhi : x ≤ 600)
    (hfail : s.th.yelFail = false) :
    diodeSampleF s (some x) stuck = checkShutdown (trackCool (withReading s x) x) 0xFF x true stuck := by
  have hrange : ¬ (x < -160 ∨ 600 < x) := by omega
  simp [diodeSampleF, hst, hrange, hfail, withReading]

@[simp] theorem trackCool_st (s : State) (x : Int) : (trackCool s x).pwr.st = s.pwr.st := by
  unfold trackCool
  split <;> rfl

theorem trackCool_of_running (s : State) (x : Int) (h : s.pwr.st ≠ .halt) : trackCool s x = s := by
  rw [trackCool, if_neg h]

/-- The state after `n` missing conversions in a row. -/
def withMisses (s : State) (n : Nat) : State := { s with th := { s.th with yelMiss := n } }

theorem diodeSampleF_of_third_miss (s : State) (stuck : List Nat) (hst : s.pwr.st ≠ .off) (h : s.th.yelMiss = 2) :
    diodeSampleF s none stuck = yelFailed (withMisses s 3) := by
  simp [diodeSampleF, hst, h, withMisses]

/-- The state in which the diode counts as failed, its level held at THROTTLE2. -/
def withFailed (s : State) : State := { s with th := { s.th with yelFail := true, yelLvl := 3 } }

/-- A diode that fails is recorded, and the condition is evaluated (18 R514). -/
theorem yelFailed_of_working (s : State) (h : s.th.yelFail = false) : yelFailed s =
    evalThermal (noteEv (flagThermal (withFailed s) 3) srcThermal 0x0293 3 0xFF 0) 0xFF
      (noteEv (flagThermal (withFailed s) 3) srcThermal 0x0293 3 0xFF 0).th.yel := by
  rw [yelFailed, if_neg (by simp [h])]
  rfl

/-! ## Samples of the media -/

theorem thrMedia_congr {s t : State} (h : t.regs = s.regs) : thrMedia t = thrMedia s := by
  funext l
  simp only [thrMedia, mediaOfs, expertEn_congr h, regF_congr h]

/-- A reading of die 0 is taken where the die is live and its sensor counts as working. -/
theorem takeTemps_of_reading (s : State) (c : Nat) (x : Int) (hlive : (chanAt s c).live.getLsbD 0 = true) (hbad : (chanAt s c).sensBad = []) :
    takeTemps s c 0 [some x] =
      modChan (takeTemps.putTemp s c 0 x) c (fun ch => { ch with sensFail := takeTemps.setNth ch.sensFail 0 0 }) := by
  simp [takeTemps, hlive, hbad]

theorem hotDie_of_one_live (ch : Chan) (hlive : ch.live = 1) (ht : 0 < ch.temps.length) : hotDie ch = some (0, nth (-160) ch.temps 0) := by
  have hdies : (List.range 6).filter (fun d => ch.live.getLsbD d && decide (d < ch.temps.length)) = [0] := by
    simp [hlive, List.range, List.range.loop, ht]
  simp only [hotDie, hdies]
  rfl

/-- Where die 0 is the one live die, a reading of it is the channel's hottest. -/
theorem hotDie_takeTemps (s : State) (c : Nat) (x : Int) (hlive : (chanAt s c).live = 1) (hbad : (chanAt s c).sensBad = []) :
    hotDie (chanAt (takeTemps s c 0 [some x]) c) = some (0, x) := by
  rw [takeTemps_of_reading s c x (by simp [hlive]) hbad]
  simp only [takeTemps.putTemp, chanAt_modChan, if_true]
  refine (hotDie_of_one_live _ ?_ ?_).trans rfl
  · exact hlive
  · simp

/-- Channel `c` aged by a reading, and at the level that the reading gives (09 R274; 18 R516). -/
def withSample (s : State) (c : Nat) (t4 : Int) : State :=
  modChan (addTac s c t4) c (fun ch => { ch with level := nextLevel (thrMedia s) 12 t4 ch.level })

/-- Where a channel that is on has a hottest die, the channel takes that die's temperature and its consequences follow; beside the channels the
sample touches the highest bin and the hottest die of the module alone. -/
theorem mediaTempSampleF_of_hot (s : State) (c : Nat) (temps : List (Option Int)) (stuck : List Nat) (d : Nat) (t4 : Int)
    (hst : s.pwr.st ≠ .standby) (hon : domOn s (48 + c) = true) (hret : (chanAt s c).retired = false)
    (hhot : hotDie (chanAt (takeTemps s c 0 temps) c) = some (d, t4)) :
    ∃ u : State, u.pwr = (takeTemps s c 0 temps).pwr ∧ u.tabs = s.tabs ∧ u.sec = s.sec ∧
      u.drift.chans = (withSample (takeTemps s c 0 temps) c t4).drift.chans ∧
      mediaTempSampleF s c temps stuck = checkShutdown u (c * 8 + d) t4 false stuck := by
  have hlevel : withSample (takeTemps s c 0 temps) c t4 = modChan (addTac (takeTemps s c 0 temps) c t4) c
      (fun ch => { ch with level := nextLevel (thrMedia (addTac (takeTemps s c 0 temps) c t4)) 12 t4 ch.level }) := by
    rw [thrMedia_congr (t := addTac (takeTemps s c 0 temps) c t4) rfl]
    rfl
  rw [hlevel]
  unfold mediaTempSampleF
  simp only [if_neg hst, hon, hret, hhot]
  refine ⟨_, ?_, ?_, ?_, ?_, rfl⟩ <;> split <;> simp [addTac]

theorem chanAt_addTac (s : State) (c : Nat) (t4 : Int) (q : Nat) : chanAt (addTac s c t4) q =
    if c = q then { chanAt s c with tac := ((chanAt s c).tac + ageFactor (tempBin t4)) % 2 ^ 56 } else chanAt s q :=
  chanAt_modChan ..

/-- Settles O31: a sample below its threshold is evaluated alone, one at the threshold trips into a Drain, and the channels age by their lemma. -/
theorem temperaturesSetTheLevels : Obligations.TemperaturesSetTheLevels := by
  unfold Obligations.TemperaturesSetTheLevels
  refine ⟨?_, ?_, ?_, ?_, ?_, ?_, ?_⟩
  · intro s x st hoff
    exact ⟨s, by simp [exec, execDiodeSample, diodeSampleF, hoff], rfl⟩
  · intro s x st hst hlo hhi hfail htr
    refine ⟨diodeSampleF s (some x) st, rfl, ?_⟩
    rw [diodeSampleF_of_reading s x st hst hlo (by omega) hfail, checkShutdown_of_below _ _ _ _ _ (by simp; omega) (by simp; omega)]
    simp [withReading, htr]
  · intro s x st hst hlo hhi hfail htr
    refine ⟨diodeSampleF s (some x) st, rfl, ?_⟩
    rw [diodeSampleF_of_reading s x st (by simp [hst]) (by omega) (by omega) hfail,
      trackCool_of_running (withReading s x) x (by simp [withReading, hst]),
      checkShutdown_of_trip (withReading s x) 0xFF x true st hst htr (by simp; omega) (by simp; omega)]
    simp [recordTrip_th, trippedTh, withReading, foundCond, drainStart_st]
  · intro s st hst hmiss hfail
    refine ⟨diodeSampleF s none st, rfl, ?_⟩
    rw [diodeSampleF_of_third_miss s st hst hmiss, yelFailed_of_working (withMisses s 3) hfail]
    simp [withFailed, withMisses]
  · intro s c ts st hst
    refine ⟨mediaTempSampleF s c.val ts st, rfl, ?_⟩
    rw [mediaTempSampleF, if_pos hst]
    exact ⟨by simp [chanAt_addTac], rfl, rfl, fun q hq => by rw [chanAt_addTac, if_neg hq.symm]⟩
  · intro s c ts st hst hoff
    exact ⟨s, by simp [exec, execMediaTempSample, mediaTempSampleF, hst, hoff], rfl⟩
  · intro s c x st hst hon hret hlive hbad hx
    refine ⟨mediaTempSampleF s c.val [some x] st, rfl, ?_⟩
    have hhot := hotDie_takeTemps s c x hlive hbad
    have htake := takeTemps_of_reading s c x (by simp [hlive]) hbad
    obtain ⟨u, hpwr, htabs, hsec, hchans, h⟩ := mediaTempSampleF_of_hot s c [some x] st 0 x (by simp [hst]) hon hret hhot
    rw [h, checkShutdown_of_below _ _ _ _ _ (by simp; omega) (by simp; omega)]
    have hchan : chanAt (syncPersist (evalThermal u (c * 8 + 0) x)) c = chanAt (withSample (takeTemps s c 0 [some x]) c x) c := by
      simp [chanAt, chanDefault, hchans, hsec, withSample, addTac]
    have hthr : thrMedia (takeTemps s c 0 [some x]) = thrMedia s := thrMedia_congr (by simp [htake, takeTemps.putTemp])
    refine ⟨?_, ?_, ?_, ?_⟩
    · rw [hchan]
      simp [withSample, chanAt_addTac, htake, takeTemps.putTemp]
    · rw [hchan, withSample, hthr]
      simp [chanAt_addTac, htake, takeTemps.putTemp]
    · simp [hpwr, htake, takeTemps.putTemp, hst]
    · simp [htabs]

/-! ## The queue and reset -/

theorem step_of_empty (s : State) (h : s.pending = []) : step s = .next (tick s) := by
  rw [step, h]

theorem tick_of_on (s : State) (h : s.pwr.st ≠ .off) : tick s = { s with pwr := { s.pwr with time := s.pwr.time + 10 } } := by
  rw [tick, if_neg h]

theorem tick_of_off (s : State) (h : s.pwr.st = .off) : tick s = s := by
  rw [tick, if_pos h]

/-- Settles O55: a step reads the queue's front, and ticks where there is none. -/
theorem stepTakesTheFront : Obligations.StepTakesTheFront := by
  unfold Obligations.StepTakesTheFront
  refine ⟨fun c rest s => rfl, ?_, ?_⟩
  · intro s hempty hst
    rw [step_of_empty s hempty, tick_of_on s hst]
  · intro s hempty hst
    rw [step_of_empty s hempty, tick_of_off s hst]

/-- Settles O56: nothing is listed at reset, so every unit and register reads its reset value. -/
theorem resetState : Obligations.ResetState := by
  unfold Obligations.ResetState
  have hdom : ∀ d, domOn State.reset d = false := by
    intro d
    unfold domOn
    split <;> rfl
  have hthermal : ThermalInv State.reset := by
    unfold ThermalInv
    decide
  exact ⟨rfl, rfl, hdom, rfl, rfl, rfl, rfl, rfl, rfl, rfl, rfl, rfl, rfl, fun _ => rfl, fun _ => rfl, rfl, fun _ _ _ => rfl, hthermal⟩

/-! ## Entry to BOOT -/

/-- A store operation that has not begun and has no page to store. -/
def emptyStore : StoreOp := { num := 0, ranges := [], begun := false, pages := [], total := 0, fails := false, kind := 0 }

/-- A descriptor of port 0's ring that waits for that operation. -/
def storeWaiter : Running :=
  { src := 0, desc := 0, payload := [], started := true, ord := 0, prog := 0, waitJ := none, waitLines := [], sseq := none, waitStore := some 0,
    status := 0, result := 0 }

/-- STANDBY with a good image, in which that descriptor still runs. -/
def standbyWithWaiter : State :=
  { State.reset with
    pwr := { pwrReset with st := .standby, auxOn := true }
    beryl := { berylReset with restored := true, ops := [emptyStore], nextOp := 1 }
    cmds := { cmdsReset with run := [storeWaiter] } }

/-- At entry to BOOT the snapshot's store starts the operations that wait; the empty one ends at once, and its completion goes to the ring that
has just been reset. -/
theorem rings_of_standbyWithWaiter :
    (mainInputQualifyF standbyWithWaiter).rings = [(0, { ringInit with wait := [cplOf (descOf storeWaiter.desc) 0 0] })] := by
  decide +kernel

/-- Refutes O1 in its clause `t.rings = []`, which is stated of every STANDBY state: where a ring command still waits for a store operation that has
not begun, the rings are not as after reset. No run reaches such a STANDBY (the power-down drops the commands, and the first operation of the queue
has always begun), but the statement does not exclude it. -/
theorem not_powerOnReachesStandbyAndBoot : ¬ Obligations.PowerOnReachesStandbyAndBoot := by
  unfold Obligations.PowerOnReachesStandbyAndBoot
  rintro ⟨-, hboot, -⟩
  obtain ⟨t, ht, -, -, -, -, -, hrings, -⟩ := hboot standbyWithWaiter rfl rfl rfl rfl (by decide)
  have hnext : mainInputQualifyF standbyWithWaiter = t := Host.Outcome.next.inj ht
  rw [← hnext, rings_of_standbyWithWaiter] at hrings
  exact List.cons_ne_nil _ _ hrings

end Sys2Proof.Proofs.Glance
end

section
/-! PROOF. The statements of the memory model: requests and reads, the peer's reads, and the ring commands on wells, tiles and lines. -/

namespace Sys2Proof.Proofs.Memory

open Sys2Proof Sys2Proof.Machine Sys2Proof.Safety Sys2Proof.Proofs.Glance

/-! ## What recording and storing leave as it was -/

theorem mem_of_mem_dropFirst {α : Type} (p : α → Bool) (x : α) (l : List α) (h : x ∈ dropFirst p l) : x ∈ l := by
  induction l with
  | nil => exact h
  | cons y l ih =>
    unfold dropFirst at h
    split at h
    · exact List.mem_cons_of_mem _ h
    · rcases List.mem_cons.1 h with rfl | h
      · exact List.mem_cons_self
      · exact List.mem_cons_of_mem _ (ih h)

/-- A task but for what the end of a store operation writes in it. -/
def taskCore (t : Task) : Task := { t with waitStore := none, status := 0 }

/-- What every operation that records an event or stores pages leaves as it was, beside the parts of State that it does not touch at all: the
power state, the unlocks, the role, the SANITIZE, the tasks but for their store operations, and the descriptors, which can only end. -/
structure Recorded (s t : State) : Prop where
  st : t.pwr.st = s.pwr.st
  armed : t.req.armed = s.req.armed
  role : t.pair.role = s.pair.role
  sanitizing : t.cmds.sanitizing = s.cmds.sanitizing
  sanStep : t.cmds.sanStep = s.cmds.sanStep
  tasks : t.cmds.tasks.map taskCore = s.cmds.tasks.map taskCore
  run : t.cmds.run.map (·.desc) ⊆ s.cmds.run.map (·.desc)
  badSlots : t.ag.badSlots = s.ag.badSlots
  peerCnt : t.ag.peerCnt = s.ag.peerCnt

namespace Recorded

theorem of_eq {s t : State} (hpwr : t.pwr.st = s.pwr.st := by simp) (hreq : t.req.armed = s.req.armed := by simp)
    (hrole : t.pair.role = s.pair.role := by simp) (hcmds : t.cmds = s.cmds := by simp)
    (hbad : t.ag.badSlots = s.ag.badSlots := by simp) (hcnt : t.ag.peerCnt = s.ag.peerCnt := by simp) : Recorded s t :=
  ⟨hpwr, hreq, hrole, by rw [hcmds], by rw [hcmds], by rw [hcmds], by rw [hcmds]; exact List.Subset.refl _, hbad, hcnt⟩

theorem refl (s : State) : Recorded s s := of_eq

theorem trans {s t u : State} (h : Recorded s t) (k : Recorded t u) : Recorded s u :=
  ⟨k.st.trans h.st, k.armed.trans h.armed, k.role.trans h.role, k.sanitizing.trans h.sanitizing, k.sanStep.trans h.sanStep,
    k.tasks.trans h.tasks, List.Subset.trans k.run h.run, k.badSlots.trans h.badSlots, k.peerCnt.trans h.peerCnt⟩

theorem ite {s t u : State} (c : Prop) [Decidable c] (h : Recorded s t) (k : Recorded s u) : Recorded s (if c then t else u) := by
  split
  · exact h
  · exact k

theorem foldl {α : Type} (f : State → α → State) (l : List α) (h : ∀ s x, Recorded s (f s x)) (s : State) : Recorded s (l.foldl f s) :=
  List.foldlRecOn (motive := Recorded s) l f (refl s) (fun _ hs _ _ => hs.trans (h _ _))

end Recorded

@[simp] theorem completeRun_cmds (s : State) (r : Running) (status result : Nat) (bytes : List (BitVec 8)) :
    (completeRun s r status result bytes).cmds =
      { s.cmds with run := dropFirst (fun x => x.src = r.src && x.desc = r.desc) s.cmds.run } := by
  simp [completeRun]

theorem completeRun_recorded (s : State) (r : Running) (status result : Nat) (bytes : List (BitVec 8)) :
    Recorded s (completeRun s r status result bytes) where
  st := by simp
  armed := by simp
  role := by simp
  sanitizing := by simp
  sanStep := by simp
  tasks := by simp
  run := by
    rw [completeRun_cmds]
    exact List.map_subset _ (fun x hx => mem_of_mem_dropFirst _ x _ hx)
  badSlots := by simp
  peerCnt := by simp

/-- The state in which the tasks know that a store operation has ended. -/
def tasksStored (s : State) (op : StoreOp) : State :=
  { s with cmds := { s.cmds with tasks := s.cmds.tasks.map (fun t => if t.waitStore = some op.num then
    { t with waitStore := none, status := if op.fails then 0x11 else t.status } else t) } }

theorem tasksStored_recorded (s : State) (op : StoreOp) : Recorded s (tasksStored s op) where
  st := rfl
  armed := rfl
  role := rfl
  sanitizing := rfl
  sanStep := rfl
  tasks := by
    simp only [tasksStored, List.map_map]
    refine List.map_congr_left (fun t _ => ?_)
    simp only [Function.comp]
    split <;> rfl
  run := List.Subset.refl _
  badSlots := rfl
  peerCnt := rfl

/-- The flags that the end of a store operation sets. -/
def storeFlags (s : State) (op : StoreOp) : State :=
  let s := if op.fails then s else flagBeryl s 0
  let s := if op.kind = 1 then { s with ag := { s.ag with busy := false } } else s
  if op.kind = 2 then { s with pwr := { s.pwr with drain := s.pwr.drain.map (fun d => { d with stored := true }) } } else s

theorem opEnded_eq (s : State) (op : StoreOp) : opEnded s op =
    match findP (fun r => r.waitStore = some op.num) (tasksStored (storeFlags s op) op).cmds.run with
    | some r => completeRun (tasksStored (storeFlags s op) op) r (if op.fails then 0x11 else 0) op.total []
    | none => tasksStored (storeFlags s op) op := rfl

theorem storeFlags_recorded (s : State) (op : StoreOp) : Recorded s (storeFlags s op) := by
  have hdone : Recorded s (if op.fails then s else flagBeryl s 0) := .ite _ (.refl s) .of_eq
  have hbusy (u : State) : Recorded u (if op.kind = 1 then { u with ag := { u.ag with busy := false } } else u) := .ite _ .of_eq (.refl u)
  exact (hdone.trans (hbusy _)).trans (.ite _ .of_eq (.refl _))

theorem opEnded_recorded (s : State) (op : StoreOp) : Recorded s (opEnded s op) := by
  have h := (storeFlags_recorded s op).trans (tasksStored_recorded _ op)
  rw [opEnded_eq]
  split
  · exact h.trans (completeRun_recorded ..)
  · exact h

theorem promoteOps_recorded (n : Nat) (s : State) : Recorded s (promoteOps n s) := by
  induction n generalizing s with
  | zero => exact .refl s
  | succ n ih =>
    unfold promoteOps
    split
    · exact .refl s
    · next op rest _ =>
      have hend : Recorded s (opEnded { s with beryl := { s.beryl with ops := rest } } op) :=
        .trans .of_eq (opEnded_recorded { s with beryl := { s.beryl with ops := rest } } op)
      simp only
      split
      · exact .refl s
      · split
        · exact hend.trans (ih _)
        · exact .of_eq

theorem startStore_recorded (s : State) (kind : Nat) (rs : List (Nat × Nat)) (ahead : Bool) : Recorded s (startStore s kind rs ahead) :=
  .trans .of_eq (promoteOps_recorded _ _)

theorem agNextSeq_recorded (s : State) : Recorded s (agNextSeq s) := by
  unfold agNextSeq
  refine .ite _ (.trans ?_ (startStore_recorded _ _ _ _)) ?_
  · exact .of_eq
  · exact .of_eq

theorem agLose_recorded (s : State) (r : AgRec) : Recorded s (agLose s r) := by
  have harmed : (agLose s r).req.armed = s.req.armed := by
    unfold agLose
    split <;> simp
  exact .of_eq (hreq := harmed)

theorem agOpen_recorded (s : State) (r : AgRec) : Recorded s (agAdd.agOpen s r).1 := by
  unfold agAdd.agOpen
  simp only
  split
  · exact (agNextSeq_recorded s).trans (agLose_recorded _ _)
  · refine .trans ?_ (agNextSeq_recorded _)
    split
    · exact .of_eq
    · exact .of_eq

theorem agAdd_recorded (s : State) (r : AgRec) : Recorded s (agAdd s r).1 := by
  unfold agAdd
  split
  · split
    · exact .of_eq
    · exact agOpen_recorded s r
  · exact agOpen_recorded s r

theorem recordOnly_recorded (s : State) (r : AgRec) : Recorded s (recordOnly s r) := by
  have h := agAdd_recorded s r
  unfold recordOnly
  split
  · next u x e =>
    rw [e] at h
    exact h.trans .of_eq
  · next u e =>
    rw [e] at h
    exact h

theorem lostRec_recorded (s : State) (r : AgRec) : Recorded s (lostRec s r) := by
  unfold lostRec
  exact .ite _ (.trans .of_eq (recordOnly_recorded _ _)) (.refl s)

theorem recordEv_recorded (s : State) (src code a0 a1 a2 : Nat) (urgent : Bool) : Recorded s (recordEv s src code a0 a1 a2 urgent) :=
  (recordOnly_recorded _ _).trans (lostRec_recorded _ _)

theorem noteEv_recorded (s : State) (src code a0 a1 a2 : Nat) : Recorded s (noteEv s src code a0 a1 a2) :=
  .trans .of_eq (recordEv_recorded (countTotal s code) src code a0 a1 a2 false)

/-- A record that the buffer keeps raises no LOG_MEM_FAIL (14 R441). -/
theorem lostRec_of_room (s : State) (r : AgRec) (h : s.ag.badSlots.length < 2048) : lostRec s r = s := by
  rw [lostRec, if_neg (by omega)]

/-- Where the buffer keeps records, an event changes no fault total but that of its class. -/
theorem noteEv_flt (s : State) (src code a0 a1 a2 : Nat) (h : s.ag.badSlots.length < 2048) :
    (noteEv s src code a0 a1 a2).flt = (countTotal s code).flt := by
  have hkept := (recordOnly_recorded (countTotal s code) (mkRec (countTotal s code) src code a0 a1 a2 false)).badSlots
  rw [noteEv, recordEv, lostRec_of_room]
  · simp
  · rw [hkept]
    simpa using h

/-! ## Requests without data -/

theorem cmpOnly_of_open (s : State) (p : Port) (tag : Nat) (h : memOpen s p.val = true) : cmpOnly s p tag = emit s (.ndr p tag) := by
  simp [cmpOnly, h]

theorem cmpOnly_of_closed (s : State) (p : Port) (tag : Nat) (h : memOpen s p.val = false) : cmpOnly s p tag = s := by simp [cmpOnly, h]

theorem fwdDropped_of_closed (s : State) (p : Port) (hpa : Nat) (h : memOpen s p.val = false) : fwdDropped s p hpa = s := by
  simp [fwdDropped, h]

/-- A dropped forward counts as one uncorrected fault and touches no line (11 R342). -/
theorem fwdDropped_of_open (s : State) (p : Port) (hpa : Nat) (h : memOpen s p.val = true) (hroom : s.ag.badSlots.length < 2048) :
    (fwdDropped s p hpa).flt.ucTotal = satAdd 0xFFFFF s.flt.ucTotal 1 ∧ (fwdDropped s p hpa).cache = s.cache ∧
      (fwdDropped s p hpa).med = s.med ∧ (fwdDropped s p hpa).tabs = s.tabs := by
  have htotal : (countTotal s 0x020B).flt = { s.flt with ucTotal := satAdd 0xFFFFF s.flt.ucTotal 1 } := rfl
  simp [fwdDropped, h, noteEv_flt _ _ _ _ _ _ hroom, htotal]

/-- Settles O23: each request's function on an open and on a closed port. -/
theorem requestsWithoutDataComplete : Obligations.RequestsWithoutDataComplete := by
  unfold Obligations.RequestsWithoutDataComplete
  refine ⟨?_, ?_, ?_, ?_⟩
  · intro s p tag h
    exact ⟨⟨_, rfl, cmpOnly_of_open s p tag h⟩, ⟨_, rfl, cmpOnly_of_open s p tag h⟩, ⟨_, rfl, cmpOnly_of_open s p tag h⟩⟩
  · intro s p hpa h hroom
    exact ⟨⟨_, rfl, fwdDropped_of_open s p hpa h hroom⟩, ⟨_, rfl, fwdDropped_of_open s p hpa h hroom⟩⟩
  · intro s p hpa tag h
    exact ⟨⟨_, rfl, fwdDropped_of_closed s p hpa h⟩, ⟨_, rfl, fwdDropped_of_closed s p hpa h⟩, ⟨_, rfl, cmpOnly_of_closed s p tag h⟩⟩
  · intro s p ph h
    exact ⟨globalPersistentFlushF s p ph, rfl, by simp [globalPersistentFlushF, h]⟩


/-! ## Answers to reads -/

/-- A read that no bound tests is answered by its data, its Cmp and nothing more (03 R98 to R101). -/
theorem answerHost_of_untested (s : State) (p : Port) (tag : Nat) (cmp : Bool) (bound dln : Option Nat) (v : LineV) (lat : Nat) (f : RdFlags)
    (path : Path) (h : bound = none ∨ noFlags f = false) :
    (answerHost s p tag cmp bound dln v lat f path).out = s.out ++ .drs p tag v.data v.p :: (if cmp then [.ndr p tag] else []) ∧
      (answerHost s p tag cmp bound dln v lat f path).pair = s.pair := by
  unfold answerHost
  cases bound with
  | none => cases cmp <;> simp [countLate]
  | some b =>
    have hflags : noFlags f = false := by simpa using h
    cases cmp <;> simp [hflags, countLate]

/-! ## Reads through the map -/

/-- The entry of a resident page is known without the TLB (07 R212, R215). -/
theorem lookMap_of_resident (s : State) (ltn : Nat) (a : Attr) (htlb : tlbEn s = false) (hpage : pageHere s (pageOf ltn) = true)
    (hover : s.mapu.overflow = []) : lookMap s ltn a = (s, true) := by
  simp [lookMap, htlb, hpage, hover, tlbInstall]

theorem putUpset_of_no_way (s : State) (dln : Nat) (a : ArrErr) (h : findWay s dln = none) : putUpset s dln a = s := by
  simp [putUpset, h]

theorem checkLine_of_no_way (s : State) (dln : Nat) (h : findWay s dln = none) : checkLine s dln = s := by
  simp [checkLine, h]

/-- A line of a CONST tile that nothing holds is answered with the tile's pattern (02 R68). -/
theorem serveRead_of_const (s : State) (dln : Nat) (w : Waiter) (env : RdEnv) (hlock : lockHeld s dln = false) (hway : findWay s dln = none)
    (hcis : findCis s dln = none) (hue : env.mapUe = false) (htlb : tlbEn s = false) (hpage : pageHere s (pageOf (ltnOf dln)) = true)
    (hover : s.mapu.overflow = []) (hconst : (entryAt s (ltnOf dln)).st = .const) :
    serveRead s dln w env = answer s w dln (cleanLine (patternLine (entryAt s (ltnOf dln)).ptn)) false env.lat flags0 .miss := by
  simp [serveRead, hlock, putUpset_of_no_way s dln env.arr hway, checkLine_of_no_way s dln hway, hway, hcis, hue,
    lookMap_of_resident s (ltnOf dln) _ htlb hpage hover, mapAns, hconst]

/-- `n` copies of a 32-bit word, one after the other. -/
def copies (p : Nat) : Nat → Nat
  | 0 => 0
  | n + 1 => p + 2 ^ 32 * copies p n

theorem copies_lt (p n : Nat) (h : p < 2 ^ 32) : copies p n < 2 ^ (32 * n) := by
  induction n with
  | zero => simp [copies]
  | succ n ih =>
    rw [copies, Nat.mul_succ, Nat.pow_add]
    omega

/-- Byte i of the copies is byte i mod 4 of the word. -/
theorem copies_byte (p n i : Nat) (h : p < 2 ^ 32) (hi : i < 4 * n) : copies p n / 2 ^ (8 * i) % 256 = p / 2 ^ (8 * (i % 4)) % 256 := by
  induction n generalizing i with
  | zero => omega
  | succ n ih =>
    rw [copies]
    by_cases hword : i < 4
    · rw [Nat.mod_eq_of_lt hword]
      interval_cases i <;> omega
    · obtain ⟨j, rfl⟩ : ∃ j, i = j + 4 := ⟨i - 4, by omega⟩
      have hshift : 2 ^ (8 * (j + 4)) = 2 ^ 32 * 2 ^ (8 * j) := by rw [← Nat.pow_add]; congr 1; omega
      have hrest : (p + 2 ^ 32 * copies p n) / 2 ^ 32 = copies p n := by omega
      rw [hshift, ← Nat.div_div_eq_div_mul, hrest, ih j (by omega), Nat.add_mod_right]

theorem copies_eq_mul (p n : Nat) : copies p n = p * copies 1 n := by
  induction n with
  | zero => rfl
  | succ n ih =>
    rw [copies, copies, ih]
    ring

theorem patternLine_toNat (ptn : BitVec 32) : (patternLine ptn).toNat = copies ptn.toNat 16 := by
  have hsum : sumOf (fun i => 2 ^ (32 * i)) (List.range 16) = copies 1 16 := by decide
  rw [patternLine, hsum, ← copies_eq_mul, BitVec.toNat_ofNat, Nat.mod_eq_of_lt (copies_lt _ 16 ptn.isLt)]

/-! ## The line that a read of a CONST tile answers -/

/-- The state in which one more read counts against a port's credits. -/
def withRead (s : State) (p : Port) : State := modPort s p.val (fun x => { x with rdOut := x.rdOut + 1 })

theorem portCheck_withRead (s : State) (p : Port) (hpa : Nat) : portCheck (withRead s p) p.val hpa = portCheck s p.val hpa := by
  simp [portCheck, withRead]

/-- A read past the checks is served where it arrives, unless the resync target forwards it (03 R80; 10 R335). -/
theorem hostRead_of_pass (s : State) (p : Port) (tag hpa : Nat) (cmp : Bool) (env : RdEnv) (dln : Nat) (hopen : memOpen s p.val = true)
    (hcredit : (portAt s p.val).rdOut < reqPool s p.val) (hcheck : portCheck s p.val hpa = .pass dln) (hfwd : forwards s (ltnOf dln) = false) :
    hostRead s p tag hpa cmp env = serveRead (withRead s p) dln (.host (hostRd (withRead s p) p tag cmp env.lat)) env := by
  have hcheck' : portCheck (withRead s p) p.val hpa = .pass dln := (portCheck_withRead s p hpa).trans hcheck
  have hfwd' : forwards (withRead s p) (ltnOf dln) = false := hfwd
  unfold withRead at hcheck' hfwd' ⊢
  rw [hostRead, if_pos (by simp [hopen, hcredit])]
  simp only [hcheck', hfwd', Bool.false_eq_true, if_false]

/-- No bound tests the read where none tested one before it. -/
theorem boundNow_withRead (s : State) (p : Port) (h : boundNow s p.val = none) : boundNow (withRead s p) p.val = none := by
  unfold boundNow at h ⊢
  split at h
  · exact absurd h (by simp)
  · next hoff => exact if_neg hoff

/-- Settles O59: the rotation is addition modulo 256, a CONST tile is answered with the copies of its pattern, and the bin is clamped. -/
theorem linesPatternsAndBins : Obligations.LinesPatternsAndBins := by
  unfold Obligations.LinesPatternsAndBins
  refine ⟨?_, ?_, ?_, ?_, ?_⟩
  · exact fun l rot _ => ⟨rfl, Nat.mod_lt _ (by decide)⟩
  · intro f rot h
    have hrot := rot.isLt
    unfold fslotOf
    omega
  · intro s x
    unfold dispatchSense
    simp only
    split <;> rfl
  · intro s p tag hpa env dln hopen hcredit hcheck hfwd hlock hway hcis hue htlb hpage hover hconst hbound
    refine ⟨_, rfl, patternLine (entryAt s (ltnOf dln)).ptn, ?_, ?_⟩
    · rw [hostRead_of_pass s p tag hpa false env dln hopen hcredit hcheck hfwd,
        serveRead_of_const (withRead s p) dln _ env hlock hway hcis hue htlb hpage hover hconst]
      have hout := (answerHost_of_untested (withRead s p) p tag false (boundNow (withRead s p) p.val) (some dln)
        (cleanLine (patternLine (entryAt s (ltnOf dln)).ptn)) env.lat flags0 .miss (.inl (boundNow_withRead s p hbound))).1
      exact hout ▸ List.mem_append_right _ List.mem_cons_self
    · intro i hi
      rw [patternLine_toNat, copies_byte _ 16 i (entryAt s (ltnOf dln)).ptn.isLt (by omega)]
  · intro s ptn fslot gen key data p pc
    simp only [writtenFrame, dieBin, tempBin, clampTo, BitVec.toNat_ofNat]
    generalize nth 0 (chanAt s (ptnDieIx ptn / 8)).temps (ptnDieIx ptn % 8) = t4
    split_ifs <;> omega

/-! ## Messages of the peer -/

/-- A module whose link works hears what the peer sends. -/
theorem hears_of_works (s : State) (h : works s = true) : s.pair.linkUp = true := by
  simp only [works, Bool.and_eq_true] at h
  exact h.1

@[simp] theorem arrive_keeps_lines (s : State) (cls : Nat) : (arrive s cls).cache = s.cache ∧ (arrive s cls).med = s.med ∧
    (arrive s cls).cist = s.cist ∧ (arrive s cls).tabs = s.tabs ∧ (arrive s cls).wear = s.wear ∧ (arrive s cls).ag = s.ag ∧
    (arrive s cls).flt = s.flt := by
  simp

/-- The pair once a message has arrived in order (10 R313). -/
def withArrival (p : Pair) : Pair := { p with rxSeq := (p.rxSeq + 1) % 1024, rxDiscard := false }

@[simp] theorem arrive_pair (s : State) (cls : Nat) : (arrive s cls).pair = withArrival s.pair := by
  unfold arrive
  simp only
  split
  · rfl
  · split <;> rfl

/-- A request gives its credit back at once; a response took none (10 R312, R314). -/
@[simp] theorem arrive_req_out (s : State) : (arrive s 1).out = s.out ++ [.cret 0 1 0] := rfl
@[simp] theorem arrive_rsp_out (s : State) : (arrive s 3).out = s.out := rfl

/-- A response that nothing waits before leaves at once: it needs no credit (10 R313 to R315). -/
theorem send_rsp_out (s : State) (m : Msg) (hm : msgClass m = 3) (hlink : s.pair.linkUp = true) (htx : s.pair.txq = [])
    (hflits : s.pair.flits.length < 512) : (send s m).out = s.out ++ [.msg m] := by
  have hcan : canSend s.pair s.pair.txq m = true := by simp [canSend, hm, htx, hflits]
  simp [send, hlink, hcan, sendNow]

/-! ## Lines that a way holds -/

/-- A way whose arrays show no error is read as it stands (05 R155). -/
theorem checkWay_of_no_upset (s : State) (k : Nat) (h : s.cache.upset = []) : checkWay s k = s := by
  have hread : sGet .none s.cache.upset k = .none := by rw [h]; rfl
  have hkept : sSet .none s.cache.upset k .none = s.cache.upset := by simp [h, sSet, sDel]
  unfold checkWay
  rw [hkept, hread]
  change wayErr s k .none = s
  simp [wayErr]

theorem checkLine_of_no_upset (s : State) (dln : Nat) (h : s.cache.upset = []) : checkLine s dln = s := by
  unfold checkLine
  split
  · exact checkWay_of_no_upset s _ h
  · rfl

/-- A line of the cache is read out of its way (03 R80). -/
theorem serveRead_of_way (s : State) (dln : Nat) (w : Waiter) (env : RdEnv) (k : Nat) (x : WayT) (hlock : lockHeld s dln = false)
    (harr : env.arr = .none) (hup : s.cache.upset = []) (hway : findWay s dln = some (k, x)) :
    serveRead s dln w env = answer (touchWay (if x.pf then setWay s k { x with pf := false } else s) k) w dln
      { data := x.data, p := x.p, pcause := x.pcause } false env.lat flags0 .hit := by
  have hput : putUpset s dln env.arr = s := by simp [putUpset, harr, hway]
  simp [serveRead, hlock, hput, checkLine_of_no_upset s dln hup, hway]

theorem readRaw_of_way (s : State) (dln : Nat) (res retry : SenseRes) (k : Nat) (x : WayT) (hup : s.cache.upset = [])
    (hway : findWay s dln = some (k, x)) :
    readRaw s dln res retry = (s, .line { data := x.data, p := x.p, pcause := x.pcause }) := by
  simp [readRaw, checkLine_of_no_upset s dln hup, hway]

/-! ## Reads forwarded by the peer, and its answers -/

theorem homeFwdRdF_of_no_source (s : State) (mtag : Nat) (port : Port) (dln : Nat) (h : works s = true) (hrole : s.pair.role ≠ .resync) :
    homeFwdRdF s mtag port dln = arrive s 1 := by
  simp [homeFwdRdF, h, withArrival, hrole]

/-- The resync source reads a line of its cache for the peer (10 R335). -/
theorem homeFwdRdF_of_way (s : State) (mtag : Nat) (port : Port) (dln k : Nat) (w : WayT) (h : works s = true) (hrole : s.pair.role = .resync)
    (hsrc : s.pair.syncSrc = true) (hlock : lockHeld s dln = false) (hup : s.cache.upset = []) (hway : findWay s dln = some (k, w))
    (htx : s.pair.txq = []) (hflits : s.pair.flits.length < 512) :
    .msg (.fwdRdData mtag false w.p w.data) ∈ (homeFwdRdF s mtag port dln).out := by
  have hread := serveRead_of_way (arrive s 1) dln (.peerRd mtag port) { lat := 0, arr := .none, mapUe := false } k w
    (by rw [lockHeld_congr (s := s) (by simp) (by simp), hlock]) rfl (by simp [hup]) (by rw [findWay_congr (s := s) (by simp), hway])
  have hf : homeFwdRdF s mtag port dln = send (touchWay (if w.pf then setWay (arrive s 1) k { w with pf := false } else arrive s 1) k)
      (.fwdRdData mtag false w.p w.data) := by
    simp only [homeFwdRdF, h, if_true, arrive_pair, withArrival, hrole, hsrc, hread]
    rfl
  have hpair : (touchWay (if w.pf then setWay (arrive s 1) k { w with pf := false } else arrive s 1) k).pair = withArrival s.pair := by simp
  rw [hf, send_rsp_out _ _ rfl (by rw [hpair]; exact hears_of_works s h) (by rw [hpair]; exact htx) (by rw [hpair]; exact hflits)]
  exact List.mem_append_right _ List.mem_cons_self

theorem homeFwdRdDataF_of_no_read (s : State) (mtag : Nat) (p : Bool) (data : Line) (lat : Nat) (h : hears s = true) (hrds : s.pair.fwdRds = []) :
    homeFwdRdDataF s mtag p data lat = arrive s 3 := by
  simp [homeFwdRdDataF, h, withArrival, hrds, findP]

/-- The state in which a forwarded read waits no more. -/
def withoutFwdRd (s : State) (mtag : Nat) : State :=
  { s with pair := { s.pair with fwdRds := dropFirst (fun r => decide (r.mtag = mtag)) s.pair.fwdRds } }

/-- The answer to a forwarded read completes it at the port that asked, with the FORWARD flag set (10 R335). -/
theorem homeFwdRdDataF_of_read (s : State) (mtag : Nat) (p : Bool) (data : Line) (lat dln : Nat) (rd : HostRd) (h : hears s = true)
    (hrds : s.pair.fwdRds = [⟨mtag, dln, rd⟩]) : homeFwdRdDataF s mtag p data lat =
      answerHost (withoutFwdRd (arrive s 3) mtag) rd.port rd.tag rd.cmp rd.bound (some dln) { data := data, p := p, pcause := 0 } lat
        { flags0 with forward := true } .miss := by
  simp [homeFwdRdDataF, h, withArrival, hrds, findP, withoutFwdRd]

/-- A line of the cache is answered with its poison (10 R338). -/
theorem lineReqF_of_way (s : State) (mtag dln : Nat) (res retry : SenseRes) (k : Nat) (w : WayT) (h : works s = true)
    (hup : s.cache.upset = []) (hway : findWay s dln = some (k, w)) :
    lineReqF s mtag dln res retry = send (arrive s 1) (.lineRsp mtag dln true w.p w.pcause w.data) := by
  have hraw := readRaw_of_way (arrive s 1) dln res retry k w (by simp [hup]) (by rw [findWay_congr (s := s) (by simp), hway])
  simp [lineReqF, h, hraw]

/-- An answer that no repair and no move waits for is dropped (10 R338). -/
theorem lineRspF_of_no_wait (s : State) (mtag dln : Nat) (ok p : Bool) (pc : BitVec 2) (data : Line) (h : works s = true)
    (hrep : s.pair.repairs = []) (hmoves : s.wear.moves = []) : lineRspF s mtag dln ok p pc data = arrive s 3 := by
  simp [lineRspF, h, withArrival, hrep, findP, moveOf, hmoves]

/-! ## Records of the peer -/

/-- A record of the peer opens one here (14 R440). -/
def takePeerRec (s : State) (r : AgRec) : State := lostRec (agAdd.agOpen s { r with peer := true }).1 { r with seq := s.ag.next }

theorem takePeerRec_recorded (s : State) (r : AgRec) : Recorded s (takePeerRec s r) :=
  (agOpen_recorded s _).trans (lostRec_recorded _ _)

theorem takePeerRec_flt (s : State) (r : AgRec) (h : s.ag.badSlots.length < 2048) : (takePeerRec s r).flt = s.flt := by
  rw [takePeerRec, lostRec_of_room]
  · simp
  · rw [(agOpen_recorded s _).badSlots]
    exact h

theorem agateCopyF_of_one (s : State) (r : AgRec) (h : hears s = true) : agateCopyF s [r] =
    { takePeerRec (arrive s 2) r with ag := { (takePeerRec (arrive s 2) r).ag with
        peerCnt := satAdd 0xFFFFF (takePeerRec (arrive s 2) r).ag.peerCnt 1 } } := by
  simp [agateCopyF, h, takePeerRec]

/-- Settles O15: each message's function in the case that its clause states, and what an answer or a record leaves. -/
theorem peerReadsAreAnsweredOnce : Obligations.PeerReadsAreAnsweredOnce := by
  unfold Obligations.PeerReadsAreAnsweredOnce
  refine ⟨?_, ?_, ?_, ?_, ?_, ?_, ?_⟩
  · intro s mtag port dln h hrole
    refine ⟨homeFwdRdF s mtag port dln, rfl, ?_⟩
    rw [homeFwdRdF_of_no_source s mtag port dln h hrole]
    simp
  · intro s mtag port dln k w h hrole hsrc hlock hup hway hp htx hflits
    exact ⟨homeFwdRdF s mtag port dln, rfl, hp ▸ homeFwdRdF_of_way s mtag port dln k w h hrole hsrc hlock hup hway htx hflits⟩
  · intro s mtag ue p data lat h hrds
    refine ⟨homeFwdRdDataF s mtag p data lat, rfl, ?_⟩
    rw [homeFwdRdDataF_of_no_read s mtag p data lat h hrds]
    simp [withArrival]
  · intro s mtag ue data lat rd dln h hrds
    refine ⟨homeFwdRdDataF s mtag false data lat, rfl, ?_⟩
    rw [homeFwdRdDataF_of_read s mtag false data lat dln rd h hrds]
    obtain ⟨hout, hpair⟩ := answerHost_of_untested (withoutFwdRd (arrive s 3) mtag) rd.port rd.tag rd.cmp rd.bound (some dln)
      { data := data, p := false, pcause := 0 } lat { flags0 with forward := true } .miss (.inr rfl)
    rw [hout, hpair]
    exact ⟨by simp [withoutFwdRd, withArrival, hrds, dropFirst], List.mem_append_right _ List.mem_cons_self⟩
  · intro s mtag dln res retry k w h htx hup hway hflits
    refine ⟨lineReqF s mtag dln res retry, rfl, ?_⟩
    rw [lineReqF_of_way s mtag dln res retry k w h hup hway, send_rsp_out _ _ rfl (by simpa [withArrival] using hears_of_works s h)
      (by simp [withArrival, htx]) (by simpa [withArrival] using hflits)]
    simp
  · intro s mtag dln ok p pc data h hrep hmoves
    refine ⟨lineRspF s mtag dln ok p pc data, rfl, ?_⟩
    rw [lineRspF_of_no_wait s mtag dln ok p pc data h hrep hmoves]
    simp [withArrival]
  · intro s r h
    refine ⟨agateCopyF s [r], rfl, ?_⟩
    rw [agateCopyF_of_one s r h]
    refine ⟨?_, by simp [takePeerRec], fun hroom => ?_⟩
    · simp only [(takePeerRec_recorded (arrive s 2) r).peerCnt, arrive_keeps_lines]
    · simpa using takePeerRec_flt (arrive s 2) r (by simpa using hroom)

/-! ## CACHE_MAINT with a RESULT that already stands -/

/-- CACHE_MAINT with ALL and invalidation (ARG0 = 17), not yet started, whose RESULT already stands at 5. -/
def maintWithResult : Running :=
  { src := 0, desc := BitVec.ofNat 512 (0x06 + 17 * 2 ^ 32), payload := [], started := false, ord := 0, prog := 0, waitJ := none, waitLines := [],
    sseq := none, waitStore := none, status := 0, result := 5 }

/-- A clean line of the cache. -/
def cleanWay : WayT := { wayInit with v := true }

/-- SERVICE with one clean line in the cache, that descriptor being the one that runs. -/
def serviceWithMaint : State :=
  { State.reset with
    pwr := { pwrReset with st := .service }
    cmds := { cmdsReset with run := [maintWithResult] }
    cache := { cacheReset with ways := [(0, cleanWay)] } }

theorem issued_serviceWithMaint : Issued serviceWithMaint maintWithResult 0 0 0x06 := by
  unfold Issued NoRotation
  decide +kernel

/-- The completion carries the RESULT with which the descriptor started. -/
theorem wait_of_serviceWithMaint :
    (ringAt (cacheMaintF (putUpsets serviceWithMaint []) 0 0) 0).wait = [cplOf (descOf maintWithResult.desc) 0 5] := by
  decide +kernel

/-- Refutes O42 in its clause on CACHE_MAINT, which claims a completion with RESULT 0 of every issued descriptor: the command ends with the RESULT
that its entry holds, and `Issued` leaves that field free. No run reaches such an entry (a fetch enters RESULT 0, 12 R383), but the statement does
not exclude it. -/
theorem not_lineCommandsTreatTheirLines : ¬ Obligations.LineCommandsTreatTheirLines := by
  unfold Obligations.LineCommandsTreatTheirLines
  rintro ⟨hmaint, -⟩
  obtain ⟨t, ht, -, ⟨hwait, -⟩, -⟩ := hmaint serviceWithMaint maintWithResult 0 0 0 cleanWay issued_serviceWithMaint (by decide +kernel)
    (by decide +kernel) (by decide +kernel) rfl rfl (by decide +kernel) rfl rfl rfl
  have hnext : cacheMaintF (putUpsets serviceWithMaint []) 0 0 = t := Host.Outcome.next.inj ht
  have hposted : (ringAt t 0).wait = [cplOf (descOf maintWithResult.desc) 0 0] := hwait
  rw [← hnext, wait_of_serviceWithMaint] at hposted
  exact absurd hposted (by decide +kernel)

/-! ## The start of a command that acts on wells, tiles or lines -/

/-- The descriptor that has started as the module's first, with the next state sequence number (10 R304). -/
def launchedRun (s : State) (r : Running) : Running := { r with started := true, ord := 0, sseq := some s.pair.sseq }

/-- Its task at the start: every unit of this module's tiles is still to treat. -/
def launchedTask (s : State) (r : Running) (ue : List Nat) : Task :=
  { sseq := s.pair.sseq, ord := 1, desc := r.desc, mine := true,
    todo := (unitsOf (descOf r.desc)).filter (fun u => isHome s (unitTile (descOf r.desc).opcode u)),
    theirs := if (descOf r.desc).opcode = 0x07 then []
      else (unitsOf (descOf r.desc)).filter (fun u => !isHome s (unitTile (descOf r.desc).opcode u)),
    inbox := [], count := 0, status := 0, ue := ue, waitJ := 0, waitStore := none, startDue := false, doneSent := false, peerDone := false }

/-- The state in which a descriptor and its task, the module's only ones, have started, the unlock consumed where it needs one. -/
def launched (s : State) (r : Running) (ue : List Nat) (unlock : Bool) : State :=
  { s with
    req := if unlock then (disarm s (r.src % 8)).req else s.req
    cmds := { cmdsReset with starts := 2, run := [launchedRun s r], tasks := [launchedTask s r ue] }
    pair := { s.pair with sseq := (s.pair.sseq + 1) % 2 ^ 40 } }

theorem opcode_of_issued {s : State} {r : Running} {src : Nat} {tag : BitVec 16} {op : Nat} (h : Issued s r src tag op) :
    (descOf r.desc).opcode = op := by
  obtain ⟨-, -, -, -, -, hop, -⟩ := h
  exact hop

theorem noRotation_of_issued {s : State} {r : Running} {src : Nat} {tag : BitVec 16} {op : Nat} (h : Issued s r src tag op) : NoRotation s := by
  obtain ⟨-, -, hrot, -⟩ := h
  exact hrot

theorem runOf_of_issued {s : State} {r : Running} {src : Nat} {tag : BitVec 16} {op : Nat} (h : Issued s r src tag op) :
    runOf s src tag op anyDesc = some r := by
  obtain ⟨hcmds, -, -, hsrc, htag, hop, -⟩ := h
  simp [runOf, hcmds, findP, fromSrc, hsrc, htag, hop, anyDesc]

/-- A descriptor that passes its checks starts as its own task's, and the module lets it go on. -/
theorem cmdRow_of_issued {s : State} {r : Running} {src : Nat} {tag : BitVec 16} {op : Nat} (c : State → Running → Desc → Checks)
    (ue : List Nat) (h : Issued s r src tag op) (hrole : s.pair.role = .unpaired)
    (hcheck : checkStatus s r.src (c s r (descOf r.desc)) = 0) :
    cmdRow s src tag op anyDesc c (fun s r _ => issue s r.desc (some r) ue) =
      settle (startIfRoom (launched s r ue (c s r (descOf r.desc)).unlock) (launchedTask s r ue)) := by
  have hrun := runOf_of_issued h
  obtain ⟨hcmds, -, -, -, -, -, hstarted, hmay⟩ := h
  have hstart : startRun s r (c s r (descOf r.desc)) (fun s r _ => issue s r.desc (some r) ue) =
      startIfRoom (launched s r ue (c s r (descOf r.desc)).unlock) (launchedTask s r ue) := by
    cases hun : (c s r (descOf r.desc)).unlock <;>
      simp [startRun, hcheck, hun, issue, peerSequences, mirroring, hrole, Machine.sequence, modRun, disarm, modFirst, hcmds, startTask, cmdsReset,
        findP, launched, launchedTask, launchedRun, isHome]
  simp [cmdRow, hrun, hstarted, hmay, hstart]

/-! ## The end of a command -/

/-- What the end of a command leaves as it was: the tables, the lines, the medium, the keys and the unlocks; a SANITIZE goes no further, and
the descriptors can only end. -/
structure Ended (s t : State) : Prop where
  req : t.req = s.req
  tabs : t.tabs = s.tabs
  cist : t.cist = s.cist
  cache : t.cache = s.cache
  med : t.med = s.med
  keys : t.keys = s.keys
  wear : t.wear = s.wear
  sanitizing : t.cmds.sanitizing = s.cmds.sanitizing
  sanStep : t.cmds.sanStep = s.cmds.sanStep
  run : t.cmds.run.map (·.desc) ⊆ s.cmds.run.map (·.desc)

namespace Ended

theorem of_eq {s t : State} (hsan : t.cmds.sanitizing = s.cmds.sanitizing := by simp) (hstep : t.cmds.sanStep = s.cmds.sanStep := by simp)
    (hrun : t.cmds.run = s.cmds.run := by simp) (hreq : t.req = s.req := by simp) (htabs : t.tabs = s.tabs := by simp)
    (hcist : t.cist = s.cist := by simp) (hcache : t.cache = s.cache := by simp) (hmed : t.med = s.med := by simp)
    (hkeys : t.keys = s.keys := by simp) (hwear : t.wear = s.wear := by simp) : Ended s t :=
  ⟨hreq, htabs, hcist, hcache, hmed, hkeys, hwear, hsan, hstep, by rw [hrun]; exact List.Subset.refl _⟩

theorem trans {s t u : State} (h : Ended s t) (k : Ended t u) : Ended s u :=
  ⟨k.req.trans h.req, k.tabs.trans h.tabs, k.cist.trans h.cist, k.cache.trans h.cache, k.med.trans h.med, k.keys.trans h.keys,
    k.wear.trans h.wear, k.sanitizing.trans h.sanitizing, k.sanStep.trans h.sanStep, List.Subset.trans k.run h.run⟩

/-- The bookkeeping of the commands is none of it. -/
theorem of_cmds (s : State) (c : Cmds) (hsan : c.sanitizing = s.cmds.sanitizing) (hstep : c.sanStep = s.cmds.sanStep)
    (hrun : c.run = s.cmds.run) : Ended s { s with cmds := c } :=
  .of_eq hsan hstep hrun

end Ended

theorem completeRun_ended (s : State) (r : Running) (status result : Nat) (bytes : List (BitVec 8)) :
    Ended s (completeRun s r status result bytes) :=
  ⟨by simp, by simp, by simp, by simp, by simp, by simp, by simp, by simp, by simp, (completeRun_recorded s r status result bytes).run⟩

theorem modTask_ended (s : State) (q : Nat) (f : Task → Task) : Ended s (modTask s q f) := .of_cmds s _ rfl rfl rfl

theorem send_ended (s : State) (m : Msg) : Ended s (send s m) := .of_eq

/-- A task sends its DONE once its own part is done. -/
def sendDone (s : State) (q : Nat) (t : Task) : State :=
  if !t.doneSent && ownPartDone s t then
    if mirroring (modTask s q (fun t => { t with doneSent := true })) then
      send (modTask s q (fun t => { t with doneSent := true })) (.stateDone q t.status)
    else modTask s q (fun t => { t with doneSent := true })
  else s

/-- The state without the task of a number. -/
def withoutTask (s : State) (q : Nat) : State :=
  { s with cmds := { s.cmds with tasks := dropFirst (fun x => decide (x.sseq = q)) s.cmds.tasks } }

theorem withoutTask_ended (s : State) (q : Nat) : Ended s (withoutTask s q) := .of_cmds s _ rfl rfl rfl

/-- A task leaves the module, and its descriptor completes. -/
def dropTask (s : State) (q : Nat) (t : Task) : State :=
  match (if t.mine then findP (fun r => decide (r.sseq = some q)) s.cmds.run else none) with
  | some r => completeRun (withoutTask s q) r t.status (taskResult t) []
  | none => withoutTask s q

/-- How a task whose units are treated ends (10 R304). -/
def endTask (s : State) (q : Nat) : State :=
  match taskAt s q with
  | none => s
  | some t =>
    match taskAt (sendDone s q t) q with
    | none => sendDone s q t
    | some t' => if t'.doneSent && (t'.peerDone || !mirroring (sendDone s q t)) then dropTask (sendDone s q t) q t' else sendDone s q t

theorem sendDone_ended (s : State) (q : Nat) (t : Task) : Ended s (sendDone s q t) := by
  unfold sendDone
  split
  · split
    · exact (modTask_ended ..).trans (send_ended ..)
    · exact modTask_ended s q _
  · exact .of_eq

theorem dropTask_ended (s : State) (q : Nat) (t : Task) : Ended s (dropTask s q t) := by
  unfold dropTask
  split
  · exact (withoutTask_ended s q).trans (completeRun_ended ..)
  · exact withoutTask_ended s q

theorem endTask_ended (s : State) (q : Nat) : Ended s (endTask s q) := by
  unfold endTask
  split
  · exact .of_eq
  · split
    · exact sendDone_ended ..
    · split
      · exact (sendDone_ended ..).trans (dropTask_ended ..)
      · exact sendDone_ended ..

/-- The state once a task has treated its units and, of a SANITIZE, has gone on. -/
def treated (s : State) (q : Nat) (t : Task) : State :=
  if t.op = 0x10 then sanitizeAdvance (runUnits q t.todo s) t else runUnits q t.todo s

/-- A task that has started and has nothing of the peer's treats its units, then ends where it can. -/
theorem advanceTask_of_started (s : State) (q : Nat) (t : Task) (htask : taskAt s q = some t) (hdue : t.startDue = false)
    (hinbox : t.inbox = []) : advanceTask s q = endTask (treated s q t) q := by
  unfold advanceTask
  rw [htask]
  simp only [hdue, hinbox, runInbox, Bool.false_eq_true, if_false]
  rfl

/-! ## Letting one command go on -/

/-- A descriptor that treats no lines does not go on by itself. -/
theorem advanceRun_of_other (s : State) (r : Running) (h6 : (descOf r.desc).opcode ≠ 0x06) (h9 : (descOf r.desc).opcode ≠ 0x09) :
    advanceRun s r = s := by
  simp [advanceRun, h6, h9]

/-- No descriptor that runs is a CACHE_MAINT or a FLUSH_TO_MEDIA: none waits for lines. -/
def NoLineRuns (s : State) : Prop := ∀ d ∈ s.cmds.run.map (·.desc), (descOf d).opcode ≠ 0x06 ∧ (descOf d).opcode ≠ 0x09

theorem NoLineRuns.mono {s t : State} (h : NoLineRuns s) (hrun : t.cmds.run.map (·.desc) ⊆ s.cmds.run.map (·.desc)) : NoLineRuns t :=
  fun d hd => h d (hrun hd)

theorem foldl_advanceRun (s : State) (h : NoLineRuns s) : s.cmds.run.foldl advanceRun s = s := by
  have hnone (l : List Running) (hl : ∀ r ∈ l, (descOf r.desc).opcode ≠ 0x06 ∧ (descOf r.desc).opcode ≠ 0x09) :
      l.foldl advanceRun s = s := by
    induction l with
    | nil => rfl
    | cons r l ih =>
      obtain ⟨h6, h9⟩ := hl r List.mem_cons_self
      rw [List.foldl_cons, advanceRun_of_other s r h6 h9]
      exact ih (fun x hx => hl x (List.mem_cons_of_mem _ hx))
  exact hnone _ (fun r hr => h _ (List.mem_map_of_mem hr))

theorem sanitizeEnd_of_step (s : State) (h3 : s.cmds.sanStep ≠ 3) (h6 : s.cmds.sanStep ≠ 6) : sanitizeEnd s = s := by
  simp [sanitizeEnd, h3, h6]

theorem setHold_ended (s : State) : Ended s (setHold s) := .of_cmds s _ rfl rfl rfl

theorem ackTile_ended (s : State) : Ended s (ackTile s) := .of_eq

/-- Where one task alone has started, all that goes on is the treatment of its units, its end, and the rotations that are through. -/
theorem settle_of_task {s v : State} {t : Task} (hst : s.pwr.st = .service) (hrole : s.pair.role = .unpaired) (htasks : s.cmds.tasks = [t])
    (hdue : t.startDue = false) (hinbox : t.inbox = []) (htreated : treated (setHold (ackTile s)) t.sseq t = v) (hruns : NoLineRuns v)
    (hsan : v.cmds.sanStep < 3) : ∃ u, Ended v u ∧ settle s = endRotations u := by
  have htask : taskAt (setHold (ackTile s)) t.sseq = some t := by simp [taskAt, setHold, htasks, findP]
  have hend := endTask_ended v t.sseq
  have hstep := hend.sanStep
  have hsettled : settleTasks (ackTile s) = setHold (endTask v t.sseq) := by
    have hheld : tasksHeld (ackTile s) = false := by
      have hack : (ackTile s).pair.role = .unpaired := by unfold ackTile; split <;> (try split) <;> simp [hrole]
      simp [tasksHeld, hack]
    have hone : ((setHold (ackTile s)).cmds.tasks.map (·.sseq)).foldl advanceTask (setHold (ackTile s)) = endTask v t.sseq := by
      have hlist : (setHold (ackTile s)).cmds.tasks.map (·.sseq) = [t.sseq] := by simp [setHold, htasks]
      rw [hlist, List.foldl_cons, List.foldl_nil, advanceTask_of_started _ _ _ htask hdue hinbox, htreated]
    simp only [settleTasks, hheld, hone]
    rw [sanitizeEnd_of_step _ (by omega) (by omega)]
    simp
  refine ⟨_, hend.trans (setHold_ended _), ?_⟩
  have hlines := foldl_advanceRun _ (hruns.mono (hend.trans (setHold_ended _)).run)
  simp only [settle, hst, hsettled, hlines]
  rfl

/-! ## What a commit group does to the tables -/

theorem foldl_noteRec_tables (var : Variant) (rs : List JRec) (x : Tables × Store Bool × Store Nat) :
    (rs.foldl (noteRec var) x).1 = applyVals x.1 (rs.map (·.val)) := by
  induction rs generalizing x with
  | nil => rfl
  | cons r rs ih =>
    rw [List.foldl_cons, ih]
    rfl

theorem groupRecs_vals (n k : Nat) (vs : List JVal) : (groupRecs n k vs).map (·.val) = vs := by
  induction vs generalizing n k with
  | nil => rfl
  | cons v vs ih =>
    cases vs with
    | nil => rfl
    | cons w vs =>
      simp only [groupRecs, List.map_cons] at ih ⊢
      rw [ih]

/-- A commit group sets the values of its records (07 R216, R219). -/
@[simp] theorem jAppend_tabs (s : State) (vs : List JVal) : (jAppend s vs).tabs = applyVals s.tabs vs := by
  cases vs with
  | nil => rfl
  | cons v vs => simp [jAppend, foldl_noteRec_tables, groupRecs_vals]

theorem applyVals_append (x : Tables) (vs ws : List JVal) : applyVals x (vs ++ ws) = applyVals (applyVals x vs) ws := by
  induction vs generalizing x with
  | nil => rfl
  | cons v vs ih => exact ih _

@[simp] theorem jEach_tabs (s : State) (vs : List JVal) : (jEach s vs).tabs = applyVals s.tabs vs := by
  induction vs generalizing s with
  | nil => rfl
  | cons v vs ih => rw [jEach, ih, jAppend_tabs]; rfl

/-- A record that changes the tables alone: no tile and no die beside them. -/
def tableOnly : JVal → Bool
  | .mapSet .. | .cloneAdd .. | .cloneDel .. | .wellSet .. | .refuseSet .. | .refuseClr .. => true
  | .tileTake .. | .tileFree _ | .resetDone _ | .retire _ => false

theorem sideVals_of_tableOnly (s : State) (n : Nat) (vs : List JVal) (h : ∀ v ∈ vs, tableOnly v = true) : sideVals s n vs = s := by
  induction vs with
  | nil => rfl
  | cons v vs ih =>
    have hv : sideVal s n v = s := by
      have := h v List.mem_cons_self
      cases v <;> first | rfl | cases this
    rw [sideVals, hv]
    exact ih (fun w hw => h w (List.mem_cons_of_mem _ hw))

theorem jAppend_med_of_tableOnly (s : State) (vs : List JVal) (h : ∀ v ∈ vs, tableOnly v = true) :
    (jAppend s vs).med = s.med ∧ (jAppend s vs).wear = s.wear := by
  unfold jAppend
  split
  · exact ⟨rfl, rfl⟩
  · simp only [sideVals_of_tableOnly _ _ vs h]
    split <;> simp

theorem jEach_med_of_tableOnly (s : State) (vs : List JVal) (h : ∀ v ∈ vs, tableOnly v = true) :
    (jEach s vs).med = s.med ∧ (jEach s vs).wear = s.wear := by
  induction vs generalizing s with
  | nil => exact ⟨rfl, rfl⟩
  | cons v vs ih =>
    obtain ⟨hmed, hwear⟩ := jAppend_med_of_tableOnly s [v] (fun w hw => h w (by simp_all))
    obtain ⟨hmeds, hwears⟩ := ih (jAppend s [v]) (fun w hw => h w (List.mem_cons_of_mem _ hw))
    exact ⟨hmeds.trans hmed, hwears.trans hwear⟩

theorem tableOnly_zeroVals (s : State) (w : Well) : ∀ v ∈ zeroVals s w, tableOnly v = true := by
  intro v hv
  obtain ⟨x, -, rfl⟩ := List.mem_map.1 hv
  rfl

/-! ## Keys and rotations -/

@[simp] theorem keyAt_setKey (s : State) (k : Nat) (x : KeySlot) (k' : Nat) :
    keyAt (setKey s k x) k' = if k = k' then x else keyAt s k' := by
  simp only [keyAt, setKey, setPage_keys]
  exact sGet_sSet ..

theorem keyAt_of_noRotation {s : State} (h : NoRotation s) (k : Nat) : (keyAt s k).rotating = false := by
  simpa [keyAt] using sGet_all (fun (x : KeySlot) => !x.rotating) keyInit s.keys.slots k rfl h

/-- Every rotation under way has a tile left to move. -/
def Rotating (s : State) : Prop :=
  ∀ x ∈ s.tabs.wells, (keyAt s x.2.key).rotating = true → (walkerNext s x.1 x.2).isSome = true

/-- No rotation ends before its walker is through (06 R199). -/
theorem endRotations_of_rotating (s : State) (h : Rotating s) : endRotations s = s := by
  have hnone (l : List (Nat × Well)) (hl : ∀ x ∈ l, x ∈ s.tabs.wells) : l.foldl (fun s x => endRotation s x.1 x.2) s = s := by
    induction l with
    | nil => rfl
    | cons x l ih =>
      have hx : endRotation s x.1 x.2 = s := by
        have hgoes : ((keyAt s x.2.key).rotating && (walkerNext s x.1 x.2).isNone) = false := by
          cases hrot : (keyAt s x.2.key).rotating with
          | false => rfl
          | true => simpa using h x (hl x List.mem_cons_self) hrot
        simp only [endRotation, hgoes]
        rfl
      rw [List.foldl_cons, hx]
      exact ih (fun y hy => hl y (List.mem_cons_of_mem _ hy))
  exact hnone _ (fun _ hx => hx)

theorem rotating_of_keys {s : State} (h : ∀ k, (keyAt s k).rotating = false) : Rotating s := by
  intro x _ hx
  rw [h] at hx
  cases hx

/-! ## The effect at the start of a command -/

/-- A descriptor that starts has passed every check (12 R377). -/
theorem checks_pass {s : State} {src : Nat} {c : Checks} (h : checkStatus s src c = 0) :
    c.badField = false ∧ accepted s c.accept src = true ∧ c.own = 0 := by
  unfold checkStatus at h
  split_ifs at h with hbad hsb hstate hunlock howner
  simp only [Bool.or_eq_true, Bool.not_eq_true', not_or, Bool.not_eq_false] at hstate
  exact ⟨Bool.eq_false_iff.2 hbad, hstate.1, h⟩

/-- A command accepted only in SERVICE has passed its checks: the module is in SERVICE. -/
theorem service_of_check {s : State} {src : Nat} {c : Checks} (hactive : c.accept = .active) (h : checkStatus s src c = 0) :
    s.pwr.st = .service := by
  obtain ⟨-, haccepted, -⟩ := checks_pass h
  rw [hactive] at haccepted
  exact of_decide_eq_true (Bool.and_eq_true_iff.1 haccepted).1

theorem own_of_check {s : State} {src : Nat} {c : Checks} (h : checkStatus s src c = 0) : c.own = 0 := by
  obtain ⟨-, -, hown⟩ := checks_pass h
  exact hown

/-- The task at the start knows the last record of its effect. -/
def logged (s : State) (q : Nat) : State := modTask s q (fun t => { t with waitJ := jLast s })

/-- A well operation that finds room in the tail, and any other command, takes its effect at once (07 R223). -/
theorem startIfRoom_of_room {s : State} {r : Running} {ue : List Nat} {un : Bool}
    (hroom : (descOf r.desc).opcode = 0x01 ∨ (descOf r.desc).opcode = 0x02 ∨ (descOf r.desc).opcode = 0x03 → tailFull s = false) :
    startIfRoom (launched s r ue un) (launchedTask s r ue) = logged (startEffect (launched s r ue un) (launchedTask s r ue)) s.pair.sseq := by
  have hready : modTask (launched s r ue un) (launchedTask s r ue).sseq (fun t => { t with startDue := false }) = launched s r ue un := by
    simp [modTask, launched, modFirst, launchedTask]
  have hgoes : ¬(((launchedTask s r ue).op = 0x01 ∨ (launchedTask s r ue).op = 0x02 ∨ (launchedTask s r ue).op = 0x03) ∧
      tailFull (launched s r ue un) = true) := by
    rintro ⟨hop, hfull⟩
    have hnot : tailFull (launched s r ue un) = false := hroom hop
    rw [hnot] at hfull
    cases hfull
  rw [startIfRoom, if_neg hgoes]
  simp only [hready]
  rfl

/-- The one task after an effect that records or stores. -/
theorem task_of_recorded {s u : State} {r : Running} {ue : List Nat} {un : Bool} (h : Recorded (launched s r ue un) u) :
    ∃ t, u.cmds.tasks = [t] ∧ taskCore t = taskCore (launchedTask s r ue) := by
  have htasks : u.cmds.tasks.map taskCore = [taskCore (launchedTask s r ue)] := h.tasks
  obtain ⟨t, hone, hcore⟩ := List.map_eq_singleton_iff.1 htasks
  exact ⟨t, hone, hcore⟩

theorem treated_of_no_units (s : State) (q : Nat) (t : Task) (hop : t.op ≠ 0x10) (htodo : t.todo = []) : treated s q t = s := by
  simp [treated, hop, htodo, runUnits]

/-- A command whose effect is all at its start, done and not to be continued, ends: beside the bookkeeping of the commands, its effect is all
that the module has changed when the rotations have been looked at. -/
theorem settle_of_effect {s u : State} {r : Running} {ue : List Nat} {un : Bool} (hrec : Recorded (launched s r ue un) u)
    (hst : s.pwr.st = .service) (hrole : s.pair.role = .unpaired) (hunits : unitsOf (descOf r.desc) = [])
    (hop : (descOf r.desc).opcode ≠ 0x10) (h6 : (descOf r.desc).opcode ≠ 0x06) (h9 : (descOf r.desc).opcode ≠ 0x09) :
    ∃ x, Ended u x ∧ settle (logged u s.pair.sseq) = endRotations x := by
  obtain ⟨t, htasks, hcore⟩ := task_of_recorded hrec
  have hsseq : t.sseq = s.pair.sseq := congrArg Task.sseq hcore
  have hdesc : t.desc = r.desc := congrArg Task.desc hcore
  have hdue : t.startDue = false := congrArg Task.startDue hcore
  have hinbox : t.inbox = [] := congrArg Task.inbox hcore
  have htodo : t.todo = [] := by simpa [taskCore, launchedTask, hunits] using congrArg Task.todo hcore
  have hnew : (logged u s.pair.sseq).cmds.tasks = [{ t with waitJ := jLast u }] := by simp [logged, modTask, htasks, modFirst, hsseq]
  have hlog : Ended u (logged u s.pair.sseq) := modTask_ended ..
  have htreated : treated (setHold (ackTile (logged u s.pair.sseq))) t.sseq { t with waitJ := jLast u } =
      setHold (ackTile (logged u s.pair.sseq)) :=
    treated_of_no_units _ _ _ (by simpa [Task.op, hdesc] using hop) htodo
  have hall : Ended u (setHold (ackTile (logged u s.pair.sseq))) := (hlog.trans (ackTile_ended _)).trans (setHold_ended _)
  have hrun : u.cmds.run.map (·.desc) ⊆ [r.desc] := hrec.run
  have hruns : NoLineRuns (setHold (ackTile (logged u s.pair.sseq))) := by
    intro d hd
    rcases List.mem_singleton.1 (hrun (hall.run hd)) with rfl
    exact ⟨h6, h9⟩
  have hstep : (setHold (ackTile (logged u s.pair.sseq))).cmds.sanStep = 0 := hall.sanStep.trans hrec.sanStep
  obtain ⟨x, hx, hsettle⟩ := settle_of_task (s := logged u s.pair.sseq) (hrec.st.trans hst) (hrec.role.trans hrole) hnew hdue hinbox
    htreated hruns (by omega)
  exact ⟨x, hall.trans hx, hsettle⟩

theorem Rotating.of_ended {s t : State} (h : Rotating s) (hend : Ended s t) : Rotating t := by
  intro x hx hrot
  rw [hend.tabs] at hx
  have hkey : keyAt t x.2.key = keyAt s x.2.key := by rw [keyAt, hend.keys]; rfl
  have hnext : walkerNext t x.1 x.2 = walkerNext s x.1 x.2 := by unfold walkerNext; rw [hend.tabs, hend.wear]
  rw [hnext]
  exact h x hx (hkey ▸ hrot)

/-- A command without units and without an unlock: its effect at the start, and then no more than its end. -/
theorem cmdRow_of_effect {s u : State} {r : Running} {src : Nat} {tag : BitVec 16} {op : Nat} {c : State → Running → Desc → Checks}
    (h : Issued s r src tag op) (hrole : s.pair.role = .unpaired) (hcheck : checkStatus s r.src (c s r (descOf r.desc)) = 0)
    (hactive : (c s r (descOf r.desc)).accept = .active) (hunlock : (c s r (descOf r.desc)).unlock = false)
    (hroom : op = 0x01 ∨ op = 0x02 ∨ op = 0x03 → tailFull s = false) (hop : op = 0x01 ∨ op = 0x02 ∨ op = 0x03 ∨ op = 0x16)
    (heff : startEffect (launched s r [] false) (launchedTask s r []) = u) (hrec : Recorded (launched s r [] false) u) (hrot : Rotating u) :
    Ended u (cmdRow s src tag op anyDesc c issueRun) := by
  have hrow := cmdRow_of_issued c [] h hrole hcheck
  have hopcode := opcode_of_issued h
  have hunits : unitsOf (descOf r.desc) = [] := by
    unfold unitsOf
    rw [if_neg (by omega), if_neg (by omega), if_neg (by omega)]
  obtain ⟨x, hx, hsettle⟩ := settle_of_effect hrec (service_of_check hactive hcheck) hrole hunits (by omega) (by omega) (by omega)
  rw [hunlock, startIfRoom_of_room (hopcode ▸ hroom), heff, hsettle, endRotations_of_rotating x (hrot.of_ended hx)] at hrow
  exact hrow ▸ hx

/-! ## Wells -/

theorem jAppend_recorded (s : State) (vs : List JVal) : Recorded s (jAppend s vs) := .of_eq
theorem jEach_recorded (s : State) (vs : List JVal) : Recorded s (jEach s vs) := .of_eq

theorem storeKey_recorded (s : State) (k : Nat) : Recorded s (storeKey s k) := startStore_recorded ..

theorem setKey_recorded (s : State) (k : Nat) (x : KeySlot) : Recorded s (setKey s k x) := .of_eq

/-- A fold of steps that each keep a part of the state keeps it. -/
theorem foldl_keeps {α β : Type} (g : State → β) (f : State → α → State) (l : List α) (h : ∀ s x, g (f s x) = g s) (s : State) :
    g (l.foldl f s) = g s := by
  induction l generalizing s with
  | nil => rfl
  | cons x l ih => rw [List.foldl_cons, ih, h]

/-- The tables once every entry of a well is zero. -/
theorem wells_of_zeroVals (s : State) (w : Well) (x : Tables) : (applyVals x (zeroVals s w)).wells = x.wells := by
  have hmaps (l : List (Nat × MapEntry)) (x : Tables) :
      (applyVals x (l.map (fun y => JVal.mapSet y.1 entryInit false))).wells = x.wells := by
    induction l generalizing x with
    | nil => rfl
    | cons y l ih => exact ih _
  exact hmaps _ x

/-- The key slot of a new well, drawn and stored (20 R544). -/
def newKey (s : State) : KeySlot := { inUse := true, rotating := false, lost := false, cur := Config.keyDraw s.freeCtr, new := 0 }

def keyed (s : State) (k : Nat) : State := storeKey (bump (setKey s k (newKey s))) k

/-- The journal's part of a new or destroyed well: the entries of its range zero, then its place in the table. -/
def recorded (s : State) (i : Nat) (range w : Well) : State := jAppend (jEach s (zeroVals s range)) [.wellSet i w]

theorem createWell_eq (s : State) (i : Nat) (w : Well) :
    createWell s i w = (maskPorts w.mask).foldl (fun s p => offerExt s p i) (recorded (keyed s w.key) i w w) := rfl

theorem recorded_spec (s : State) (i : Nat) (range w : Well) : (recorded s i range w).tabs.wells = sSet wellInit s.tabs.wells i w ∧
    (recorded s i range w).keys = s.keys ∧ (recorded s i range w).cache = s.cache ∧ (recorded s i range w).med = s.med := by
  obtain ⟨hmed, -⟩ := jEach_med_of_tableOnly s _ (tableOnly_zeroVals s range)
  obtain ⟨hmed', -⟩ := jAppend_med_of_tableOnly (jEach s (zeroVals s range)) [.wellSet i w] (by simp [tableOnly])
  refine ⟨?_, by simp [recorded], by simp [recorded], hmed'.trans hmed⟩
  simp only [recorded, jAppend_tabs, jEach_tabs, applyVals, applyVal, wells_of_zeroVals]

theorem recorded_recorded (s : State) (i : Nat) (range w : Well) : Recorded s (recorded s i range w) :=
  (jEach_recorded ..).trans (jAppend_recorded ..)

theorem offerExt_recorded (s : State) (p i : Nat) : Recorded s (offerExt s p i) := .of_eq
theorem dropExt_recorded (s : State) (forced : Bool) (p i : Nat) : Recorded s (dropExt s forced p i) := .of_eq

theorem bump_recorded (s : State) : Recorded s (bump s) := .of_eq

theorem keyed_recorded (s : State) (k : Nat) : Recorded s (keyed s k) :=
  ((setKey_recorded ..).trans (bump_recorded _)).trans (storeKey_recorded ..)

theorem createWell_recorded (s : State) (i : Nat) (w : Well) : Recorded s (createWell s i w) :=
  ((keyed_recorded ..).trans (recorded_recorded ..)).trans
    (.foldl _ _ (fun s p => offerExt_recorded s p i) _)

/-- A created well takes its number and its key slot; the lines and the medium stay (02 R34; 12 R383). -/
theorem createWell_spec (s : State) (i : Nat) (w : Well) : wellNo (createWell s i w) i = w ∧
    (∀ k, keyAt (createWell s i w) k = if w.key = k then newKey s else keyAt s k) ∧
    (createWell s i w).cache = s.cache ∧ (createWell s i w).med = s.med := by
  have hports := foldl_keeps (fun u => (u.tabs, u.keys, u.cache, u.med)) (fun s p => offerExt s p i) (maskPorts w.mask) (by simp)
    (recorded (keyed s w.key) i w w)
  obtain ⟨hwells, hkeys, hcache, hmed⟩ := recorded_spec (keyed s w.key) i w w
  simp only [Prod.mk.injEq, ← createWell_eq] at hports
  obtain ⟨ptabs, pkeys, pcache, pmed⟩ := hports
  refine ⟨?_, fun k => ?_, ?_, ?_⟩
  · rw [wellNo, ptabs, hwells, sGet_sSet_same]
  · have hnew : (keyed s w.key).keys = (setKey s w.key (newKey s)).keys := by simp [keyed]
    rw [keyAt, pkeys, hkeys, hnew]
    exact keyAt_setKey ..
  · rw [pcache, hcache]
    simp [keyed]
  · rw [pmed, hmed]
    simp [keyed]

theorem keyAt_createWell (s : State) (i : Nat) (w : Well) (k : Nat) :
    keyAt (createWell s i w) k = if w.key = k then newKey s else keyAt s k := by
  obtain ⟨-, hkey, -⟩ := createWell_spec s i w
  exact hkey k

theorem modifyWell_recorded (s : State) (i : Nat) (w : Well) (forced : Bool) : Recorded s (modifyWell s i w forced) := .of_eq

theorem modifyWell_tabs (s : State) (i : Nat) (w : Well) (forced : Bool) :
    (modifyWell s i w forced).tabs = applyVals s.tabs [.wellSet i w] :=
  (foldl_keeps (fun u => u.tabs) _ (List.range 4) (fun u p => by split <;> simp) (jAppend s [.wellSet i w])).trans (jAppend_tabs ..)

/-- A modified well has its new attributes (02 R37, R38). -/
theorem wellNo_modifyWell (s : State) (i : Nat) (w : Well) (forced : Bool) : wellNo (modifyWell s i w forced) i = w := by
  simp [wellNo, modifyWell_tabs, applyVals, applyVal]

/-! ## Giving up a tile: what it records -/

theorem resumeCredits_role (s : State) : (resumeCredits s).pair.role = s.pair.role := by
  unfold resumeCredits
  simp only
  split <;> split <;> simp

theorem evalStop_role (s : State) : (evalStop s).pair.role = s.pair.role := by
  unfold evalStop
  simp only
  split
  · simp
  · split
    · rw [resumeCredits_role]
    · rfl

theorem discardLines_recorded (s : State) (ltn : Nat) : Recorded s (discardLines s ltn) := by
  have hpair : (discardLines s ltn).pair.role = s.pair.role := by
    unfold discardLines
    rw [evalStop_role]
    simp [voidRepairs]
  exact .of_eq (hrole := hpair)

theorem noteRetired_recorded (s : State) (ptn cause : Nat) : Recorded s (noteRetired s ptn cause) := by
  have hadd : Recorded s (addRetired s 1) := .of_eq
  have hflag (u : State) : Recorded u (flagMove u 10) := .of_eq
  exact (hadd.trans (noteEv_recorded ..)).trans (hflag _)

theorem noteVacated_recorded (s : State) (ptn : Nat) (c : Option Nat) : Recorded s (noteVacated s ptn c) := by
  unfold noteVacated
  split
  · exact noteRetired_recorded ..
  · exact .refl s

/-- The lines that a move holds go back to its source. -/
def movedBack (s : State) (m : Move) : State :=
  if m.kind = .move && !sharedMove m then
    retagDirty (retargetCis s m.ltn m.prev.ptn m.prev.rot m.prev.gen false none (gateOf s m.ltn m.prev.ptn.toNat)) m.ltn (ptnDieIx m.prev.ptn.toNat)
  else s

/-- The destination of a move is given up. -/
def destinationFreed (s : State) (m : Move) : State :=
  if m.failed then noteRetired (jAppend s [.retire m.dst]) m.dst 2
  else noteVacated (jAppend s [(vacateVal s m.dst none).1]) m.dst (vacateVal s m.dst none).2

/-- A migrating tile has again the state that it had before its move. -/
def sourceRestored (s : State) (m : Move) : State :=
  if (entryAt s m.ltn).st = .migrating then
    { s with tabs := { s.tabs with map := sSet entryInit s.tabs.map m.ltn { entryAt s m.ltn with st := m.prev.st } } }
  else s

theorem abandonMove_eq (s : State) (m : Move) : abandonMove s m =
    evalStop (count (flagMove (dropMove (sourceRestored (destinationFreed (movedBack s m) m) m) m.ltn) 11) 93 (attrInt m.ltn 4)) := rfl

theorem abandonMove_recorded (s : State) (m : Move) : Recorded s (abandonMove s m) := by
  have hback : Recorded s (movedBack s m) := .ite _ .of_eq (.refl s)
  have hfreed : Recorded (movedBack s m) (destinationFreed (movedBack s m) m) :=
    .ite _ ((jAppend_recorded ..).trans (noteRetired_recorded ..)) ((jAppend_recorded ..).trans (noteVacated_recorded ..))
  have hsource (u : State) : Recorded u (sourceRestored u m) := .ite _ .of_eq (.refl u)
  have hstop (u : State) : Recorded u (evalStop (count (flagMove (dropMove u m.ltn) 11) 93 (attrInt m.ltn 4))) :=
    .of_eq (hrole := by rw [evalStop_role]; simp)
  rw [abandonMove_eq]
  exact ((hback.trans hfreed).trans (hsource _)).trans (hstop _)

theorem killMove_recorded (s : State) (ltn : Nat) : Recorded s (killMove s ltn) := by
  have hleave : Recorded s (unqueue s ltn) := .of_eq
  refine hleave.trans ?_
  unfold killMove
  simp only
  split
  · next m _ =>
    split
    · refine (abandonMove_recorded (unqueue s ltn) m).trans ?_
      split
      · exact .ite _ .of_eq (.refl _)
      · exact .refl _
    · exact .of_eq
  · exact .refl _

/-- The moves that the leaving of CONSTRAINED queues. -/
def constrainedLeft (s : State) (old : Cap) : State :=
  if old = .constrained then
    { s with wear := { s.wear with
        queue := (refusingTiles s).map (fun l => (l, MoveCause.leaveConstrained))
          ++ s.wear.queue.filter (fun x => decide (x.2 ≠ .leaveConstrained)) } }
  else s

/-- The events of a new capacity condition. -/
def capEvents (s : State) (c : Cap) : State :=
  let u := noteEv { s with wear := { s.wear with cond := c } } srcMap 0x0003 (capCode c) (capCode s.wear.cond) 0
  if c = .normal then u else noteEv u srcMap 0x020A (capCode c) 0 0

theorem capEnter_eq (s : State) (c : Cap) : capEnter s c =
    replanCause (constrainedLeft (if c = .lowSpare then releaseRequest (capEvents s c) else capEvents s c) s.wear.cond) 6 := rfl

theorem capEnter_recorded (s : State) (c : Cap) : Recorded s (capEnter s c) := by
  have hcond : Recorded s { s with wear := { s.wear with cond := c } } := .of_eq
  have hev : Recorded s (capEvents s c) := hcond.trans ((noteEv_recorded ..).trans (.ite _ (.refl _) (noteEv_recorded ..)))
  have hrel : Recorded s (if c = .lowSpare then releaseRequest (capEvents s c) else capEvents s c) := .ite _ (hev.trans .of_eq) hev
  have hleft (u : State) : Recorded u (constrainedLeft u s.wear.cond) := .ite _ .of_eq (.refl u)
  rw [capEnter_eq]
  exact (hrel.trans (hleft _)).trans .of_eq

theorem capSteps_recorded (n : Nat) (s : State) : Recorded s (capSteps n s) := by
  induction n generalizing s with
  | zero => exact .refl s
  | succ n ih =>
    unfold capSteps
    exact .ite _ (.refl s) ((capEnter_recorded ..).trans (ih _))

theorem evalCapacity_recorded (s : State) : Recorded s (evalCapacity s) := capSteps_recorded 2 s

/-- A tile's storage is given up in one commit group, and its retirement recorded. -/
def released (s : State) (vs : List JVal) (ret : Option (Nat × Nat)) : State :=
  match ret with
  | some (p, c) => noteRetired (jAppend s vs) p c
  | none => jAppend s vs

theorem released_recorded (s : State) (vs : List JVal) (ret : Option (Nat × Nat)) : Recorded s (released s vs ret) := by
  unfold released
  split
  · exact (jAppend_recorded ..).trans (noteRetired_recorded ..)
  · exact jAppend_recorded ..

/-- The group of a replaced tile: its new entry, its old storage, its refused lines. -/
def replaceVals (s : State) (ltn : Nat) (st : TileSt) (pattern : BitVec 32) : List JVal :=
  [.mapSet ltn { st := st, ptn := pattern, rot := 0, epoch := 0, gen := (entryAt s ltn).gen } false] ++ (releaseVals s ltn).1
    ++ (refusedOf s ltn).map (fun d => .refuseClr d)

theorem replaceTile_eq (s : State) (ltn : Nat) (st : TileSt) (pattern : BitVec 32) : replaceTile s ltn st pattern =
    evalCapacity (discardLines
      (released (killMove s ltn) (replaceVals (killMove s ltn) ltn st pattern) (releaseVals (killMove s ltn) ltn).2) ltn) := rfl

theorem replaceTile_recorded (s : State) (ltn : Nat) (st : TileSt) (pattern : BitVec 32) : Recorded s (replaceTile s ltn st pattern) := by
  rw [replaceTile_eq]
  exact (((killMove_recorded ..).trans (released_recorded ..)).trans (discardLines_recorded ..)).trans (evalCapacity_recorded _)

theorem unmapTile_recorded (s : State) (ltn : Nat) : Recorded s (unmapTile s ltn) := by
  unfold unmapTile
  exact .ite _ ((killMove_recorded ..).trans (discardLines_recorded ..)) (replaceTile_recorded ..)

theorem unmapTiles_recorded (s : State) (ls : List Nat) : Recorded s (unmapTiles s ls) := by
  induction ls generalizing s with
  | nil => exact .refl s
  | cons l ls ih => exact (unmapTile_recorded ..).trans (ih _)


/-! ## Wells destroyed, keys rotated -/

/-- The rotation of a well that goes leaves nothing behind. -/
def unrotated (s : State) (i : Nat) : State :=
  { s with
    tabs := { s.tabs with cursor := sSet 0 s.tabs.cursor i 0 }
    keys := { s.keys with deferred := s.keys.deferred.filter (fun k => k ≠ i) } }

/-- A well's place in the tables and its key slot once it is destroyed. -/
def destroyed (s : State) (i : Nat) (w : Well) : State :=
  storeKey (setKey (unrotated (recorded s i w wellInit) i) w.key keyInit) w.key

theorem destroyWell_eq (s : State) (i : Nat) (forced : Bool) : destroyWell s i forced =
    (List.range 4).foldl (fun s p => dropExt s forced p i)
      (destroyed (unmapTiles s (touchedTiles s (wellLo (wellNo s i)) (wellHi (wellNo s i)))) i (wellNo s i)) := rfl

theorem destroyed_recorded (s : State) (i : Nat) (w : Well) : Recorded s (destroyed s i w) := by
  have hclear (u : State) : Recorded u (unrotated u i) := .of_eq rfl rfl rfl rfl rfl rfl
  exact (((recorded_recorded ..).trans (hclear _)).trans (setKey_recorded ..)).trans (storeKey_recorded ..)

theorem destroyWell_recorded (s : State) (i : Nat) (forced : Bool) : Recorded s (destroyWell s i forced) := by
  rw [destroyWell_eq]
  exact ((unmapTiles_recorded ..).trans (destroyed_recorded ..)).trans (.foldl _ _ (fun s p => dropExt_recorded s forced p i) _)

theorem destroyed_spec (s : State) (i : Nat) (w : Well) : wellNo (destroyed s i w) i = wellInit ∧
    ∀ k, keyAt (destroyed s i w) k = if w.key = k then keyInit else keyAt s k := by
  obtain ⟨hwells, hkeys, -⟩ := recorded_spec s i w wellInit
  refine ⟨?_, fun k => ?_⟩
  · have htabs : (destroyed s i w).tabs.wells = (recorded s i w wellInit).tabs.wells := by simp [destroyed, unrotated]
    rw [wellNo, htabs, hwells, sGet_sSet_same]
  · have hslots : (destroyed s i w).keys = (setKey (unrotated (recorded s i w wellInit) i) w.key keyInit).keys := by simp [destroyed]
    have hold : keyAt (unrotated (recorded s i w wellInit) i) k = keyAt s k := by simp only [keyAt, unrotated, hkeys]
    rw [keyAt, hslots, ← hold]
    exact keyAt_setKey ..

/-- A destroyed well leaves its number and its key slot empty (02 R40). -/
theorem destroyWell_spec (s : State) (i : Nat) (forced : Bool) : wellNo (destroyWell s i forced) i = wellInit ∧
    ∀ k, keyAt (destroyWell s i forced) k = if (wellNo s i).key = k then keyInit else keyAt s k := by
  have hports := foldl_keeps (fun u => (u.tabs, u.keys)) (fun s p => dropExt s forced p i) (List.range 4) (by simp)
    (destroyed (unmapTiles s (touchedTiles s (wellLo (wellNo s i)) (wellHi (wellNo s i)))) i (wellNo s i))
  simp only [Prod.mk.injEq, ← destroyWell_eq] at hports
  obtain ⟨ptabs, pkeys⟩ := hports
  obtain ⟨hwell, hkey⟩ := destroyed_spec (unmapTiles s (touchedTiles s (wellLo (wellNo s i)) (wellHi (wellNo s i)))) i (wellNo s i)
  refine ⟨?_, fun k => ?_⟩
  · rw [wellNo, ptabs]
    exact hwell
  · rw [keyAt, pkeys]
    simpa [keyAt] using hkey k

theorem keyAt_destroyWell (s : State) (i : Nat) (forced : Bool) (k : Nat) :
    keyAt (destroyWell s i forced) k = if (wellNo s i).key = k then keyInit else keyAt s k := by
  obtain ⟨-, hkey⟩ := destroyWell_spec s i forced
  exact hkey k

theorem map_modFirst {α β : Type} (g : α → β) (p : α → Bool) (f : α → α) (l : List α) (h : ∀ x, g (f x) = g x) :
    (modFirst p f l).map g = l.map g := by
  induction l with
  | nil => rfl
  | cons x l ih =>
    unfold modFirst
    split
    · simp [h]
    · simp [ih]

theorem modTask_recorded (s : State) (q : Nat) (f : Task → Task) (h : ∀ t, taskCore (f t) = taskCore t) : Recorded s (modTask s q f) where
  st := rfl
  armed := rfl
  role := rfl
  sanitizing := rfl
  sanStep := rfl
  tasks := map_modFirst taskCore _ f _ h
  run := List.Subset.refl _
  badSlots := rfl
  peerCnt := rfl

/-- The key slot of a well in rotation. -/
def rotatingKey (s : State) (w : Well) : KeySlot := { keyAt s w.key with rotating := true, new := Config.keyDraw s.freeCtr }

/-- The cursor of a well in rotation stands at its first tile. -/
def withCursor (s : State) (i : Nat) (w : Well) : State :=
  { bump s with tabs := { s.tabs with cursor := sSet 0 s.tabs.cursor i (w.base * 16384 + 1) } }

theorem startRotation_of_idle (s : State) (i : Nat) (w : Well) (h : (keyAt s w.key).rotating = false) :
    startRotation s i w = storeKey (withCursor (setKey s w.key (rotatingKey s w)) i w) w.key := by
  simp only [startRotation, h]
  rfl

theorem startRotation_recorded (s : State) (i : Nat) (w : Well) (h : (keyAt s w.key).rotating = false) : Recorded s (startRotation s i w) := by
  have hcursor (u : State) : Recorded u (withCursor u i w) := .of_eq rfl rfl rfl rfl rfl rfl
  rw [startRotation_of_idle s i w h]
  exact ((setKey_recorded ..).trans (hcursor _)).trans (storeKey_recorded ..)

/-- A started rotation stands at the well's first tile; no other key slot and no entry changes (06 R199). -/
theorem startRotation_spec (s : State) (i : Nat) (w : Well) (h : (keyAt s w.key).rotating = false) :
    (∀ k, keyAt (startRotation s i w) k = if w.key = k then rotatingKey s w else keyAt s k) ∧
    (startRotation s i w).tabs = { s.tabs with cursor := sSet 0 s.tabs.cursor i (w.base * 16384 + 1) } := by
  have hkeys : (startRotation s i w).keys = (setKey s w.key (rotatingKey s w)).keys := by
    simp [startRotation_of_idle s i w h, withCursor]
  refine ⟨fun k => ?_, by simp [startRotation_of_idle s i w h, withCursor]⟩
  rw [keyAt, hkeys]
  exact keyAt_setKey ..

theorem findP_isSome {α : Type} (p : α → Bool) (l : List α) (x : α) (hx : x ∈ l) (hp : p x = true) : (findP p l).isSome = true := by
  induction l with
  | nil => cases hx
  | cons y l ih =>
    unfold findP
    split
    · rfl
    · next hy =>
      rcases List.mem_cons.1 hx with rfl | hx
      · exact absurd hp hy
      · exact ih hx

/-- A MAPPED tile of the well at or above the cursor keeps the walker going. -/
theorem walkerNext_of_mapped (s : State) (i : Nat) (w : Well) (ltn : Nat) (e : MapEntry) (hmem : (ltn, e) ∈ s.tabs.map) (hst : e.st = .mapped)
    (hlo : sGet 0 s.tabs.cursor i - 1 ≤ ltn) (hhi : ltn < wellEnd w) : (walkerNext s i w).isSome = true := by
  unfold walkerNext
  rw [Option.isSome_map]
  exact findP_isSome _ _ (ltn, e) hmem (by simp [hst, hlo, hhi])

/-! ## The well commands -/

section
variable {s : State} {r : Running} {src : Src} {tag : BitVec 16}

theorem keyAt_launched_rotating (h : NoRotation s) (ue : List Nat) (un : Bool) (k : Nat) : (keyAt (launched s r ue un) k).rotating = false :=
  keyAt_of_noRotation (s := launched s r ue un) h k

theorem wellCreateF_ended (h : Issued s r src.val tag 0x01) (hrole : s.pair.role = .unpaired) (hroom : tailFull s = false)
    (hcheck : checkStatus s r.src (wellCreateChecks s r (descOf r.desc)) = 0) :
    Ended (createWell (launched s r [] false) ((descOf r.desc).arg0 % 64) (wellFrom (descOf r.desc).addr0 (descOf r.desc).len (descOf r.desc).arg1))
      (wellCreateF s src.val tag) := by
  have hown : createStatus (launched s r [] false) ((descOf r.desc).arg0 % 64)
      (wellFrom (descOf r.desc).addr0 (descOf r.desc).len (descOf r.desc).arg1) = 0 := own_of_check hcheck
  have hop : (descOf r.desc).opcode = 0x01 := opcode_of_issued h
  refine cmdRow_of_effect h hrole hcheck rfl rfl (fun _ => hroom) (.inl rfl) ?_ (createWell_recorded ..) (rotating_of_keys fun k => ?_)
  · simp [startEffect, launchedTask, hop, hown]
  · rw [keyAt_createWell]
    split
    · rfl
    · exact keyAt_launched_rotating (noRotation_of_issued h) ..

theorem modifyWell_keys (s : State) (i : Nat) (w : Well) (forced : Bool) : (modifyWell s i w forced).keys = s.keys := by simp

theorem wellModifyF_ended (h : Issued s r src.val tag 0x03) (hrole : s.pair.role = .unpaired) (hroom : tailFull s = false)
    (hcheck : checkStatus s r.src (wellModifyChecks s r (descOf r.desc)) = 0) :
    Ended (modifyWell (launched s r [] false) ((descOf r.desc).arg0 % 64)
      (wellWith (wellNo s ((descOf r.desc).arg0 % 64)) (descOf r.desc).arg1) false) (wellModifyF s src.val tag) := by
  have hown : modifyStatus (launched s r [] false) ((descOf r.desc).arg0 % 64) (descOf r.desc).arg1 = 0 := own_of_check hcheck
  have hop : (descOf r.desc).opcode = 0x03 := opcode_of_issued h
  refine cmdRow_of_effect h hrole hcheck rfl rfl (fun _ => hroom) (by simp) ?_ (modifyWell_recorded ..) (rotating_of_keys fun k => ?_)
  · simp only [startEffect, launchedTask, hop, hown]
    rfl
  · rw [keyAt, modifyWell_keys]
    exact keyAt_launched_rotating (noRotation_of_issued h) ..

theorem wellDestroyF_ended (h : Issued s r src.val tag 0x02) (hrole : s.pair.role = .unpaired) (hroom : tailFull s = false)
    (hcheck : checkStatus s r.src (wellDestroyChecks s r (descOf r.desc)) = 0) :
    Ended (destroyWell (launched s r [] false) ((descOf r.desc).arg0 % 64) false) (wellDestroyF s src.val tag) := by
  have hown : destroyStatus (launched s r [] false) ((descOf r.desc).arg0 % 64) = 0 := own_of_check hcheck
  have hop : (descOf r.desc).opcode = 0x02 := opcode_of_issued h
  refine cmdRow_of_effect h hrole hcheck rfl rfl (fun _ => hroom) (by simp) ?_ (destroyWell_recorded ..) (rotating_of_keys fun k => ?_)
  · simp [startEffect, launchedTask, hop, hown]
  · rw [keyAt_destroyWell]
    split
    · rfl
    · exact keyAt_launched_rotating (noRotation_of_issued h) ..

/-- The state in which a task waits for the store that a rotation asks for. -/
def waitingForStore (s : State) (q : Nat) : State := modTask s q (fun t => { t with waitStore := some s.beryl.nextOp })

theorem waitingForStore_recorded (s : State) (q : Nat) : Recorded s (waitingForStore s q) := modTask_recorded _ _ _ (fun _ => rfl)

theorem keyRotateF_ended {i ltn : Nat} {e : MapEntry} (hi : i = (descOf r.desc).arg0 % 64) (h : Issued s r src.val tag 0x16)
    (hrole : s.pair.role = .unpaired) (hcheck : checkStatus s r.src (keyRotateChecks s r (descOf r.desc)) = 0)
    (hsole : ∀ x ∈ s.tabs.wells, x.2.key = (wellNo s i).key → x.2 = wellNo s i ∧ x.1 = i)
    (hmem : (ltn, e) ∈ s.tabs.map) (hst : e.st = .mapped) (hlo : (wellNo s i).base * 16384 ≤ ltn) (hhi : ltn < wellEnd (wellNo s i)) :
    Ended (startRotation (waitingForStore (launched s r [] false) s.pair.sseq) i (wellNo s i)) (keyRotateF s src.val tag) := by
  have hown : rotateStatus (launched s r [] false) i = 0 := hi ▸ own_of_check hcheck
  have hop : (descOf r.desc).opcode = 0x16 := opcode_of_issued h
  have hidle (k : Nat) : (keyAt (waitingForStore (launched s r [] false) s.pair.sseq) k).rotating = false :=
    keyAt_launched_rotating (r := r) (noRotation_of_issued h) [] false k
  refine cmdRow_of_effect h hrole hcheck rfl rfl (by simp) (by simp) ?_
    ((waitingForStore_recorded ..).trans (startRotation_recorded _ _ _ (hidle _))) ?_
  · simp only [startEffect, launchedTask, hop, ← hi, hown]
    rfl
  · obtain ⟨hkeys, htabs⟩ := startRotation_spec (waitingForStore (launched s r [] false) s.pair.sseq) i (wellNo s i) (hidle _)
    intro x hx hrot
    rw [htabs] at hx
    by_cases hkey : x.2.key = (wellNo s i).key
    · obtain ⟨hwell, hno⟩ := hsole x hx hkey
      rw [hwell, hno]
      exact walkerNext_of_mapped _ _ _ ltn e (by rw [htabs]; exact hmem) hst (by rw [htabs]; simpa using hlo) hhi
    · rw [hkeys, if_neg (fun he => hkey he.symm), hidle] at hrot
      cases hrot

end

/-- Settles O40: each command is its effect at the start, whose lemma says what it sets, and then only ends. -/
theorem wellsFollowTheirCommands : Obligations.WellsFollowTheirCommands := by
  unfold Obligations.WellsFollowTheirCommands
  refine ⟨?_, ?_, ?_, ?_⟩
  · intro s r src tag h hrole hroom hcheck
    have hend := wellCreateF_ended h hrole hroom hcheck
    obtain ⟨hwell, hkey, hcache, hmed⟩ := createWell_spec (launched s r [] false) ((descOf r.desc).arg0 % 64)
      (wellFrom (descOf r.desc).addr0 (descOf r.desc).len (descOf r.desc).arg1)
    refine ⟨wellCreateF s src.val tag, rfl, ?_, ?_, hend.cache.trans hcache, hend.med.trans hmed⟩
    · rw [wellNo, hend.tabs]
      exact hwell
    · rw [keyAt, hend.keys]
      exact congrArg KeySlot.inUse ((hkey _).trans (if_pos rfl))
  · intro s r src tag h hrole hroom hcheck
    have hend := wellModifyF_ended h hrole hroom hcheck
    refine ⟨wellModifyF s src.val tag, rfl, ?_, hend.cache.trans (by simp [launched]), hend.keys.trans (by simp [launched])⟩
    rw [wellNo, hend.tabs]
    exact wellNo_modifyWell ..
  · intro s r src tag h hrole hroom hcheck
    have hend := wellDestroyF_ended h hrole hroom hcheck
    obtain ⟨hwell, hkey⟩ := destroyWell_spec (launched s r [] false) ((descOf r.desc).arg0 % 64) false
    refine ⟨wellDestroyF s src.val tag, rfl, ?_, ?_⟩
    · rw [wellNo, hend.tabs]
      exact hwell
    · have hslot := hkey (wellNo (launched s r [] false) ((descOf r.desc).arg0 % 64)).key
      rw [if_pos rfl] at hslot
      rw [keyAt, hend.keys]
      exact hslot
  · intro s r src tag e ltn h hrole hcheck hsole hmem hst hlo hhi
    have hend := keyRotateF_ended rfl h hrole hcheck hsole hmem hst hlo hhi
    obtain ⟨hkeys, htabs⟩ := startRotation_spec (waitingForStore (launched s r [] false) s.pair.sseq) ((descOf r.desc).arg0 % 64)
      (wellNo s ((descOf r.desc).arg0 % 64)) (keyAt_launched_rotating (r := r) (noRotation_of_issued h) [] false _)
    refine ⟨keyRotateF s src.val tag, rfl, ?_, ?_, ?_, hend.cache.trans (by simp [waitingForStore, modTask, launched])⟩
    · rw [keyAt, hend.keys, ← keyAt, hkeys, if_pos rfl]
      rfl
    · rw [hend.tabs, htabs]
      simp
    · rw [hend.tabs, htabs]
      rfl

/-! ## The entries of the tiles -/

/-- A record that sets no map entry. -/
def setsNoEntry : JVal → Bool
  | .mapSet .. => false
  | .tileTake .. | .tileFree _ | .resetDone _ | .cloneAdd .. | .cloneDel .. | .wellSet .. | .refuseSet .. | .refuseClr .. | .retire _ => true

theorem applyVal_map (x : Tables) (v : JVal) (h : setsNoEntry v = true) : (applyVal x v).map = x.map := by
  cases v with
  | mapSet => cases h
  | cloneAdd ltn ptn =>
    simp only [applyVal, cloneJoin]
    split
    · rfl
    · split <;> rfl
  | cloneDel ltn ptn =>
    simp only [applyVal, cloneLeave]
    split <;> rfl
  | refuseSet dln =>
    simp only [applyVal]
    split <;> rfl
  | refuseClr dln =>
    simp only [applyVal]
    split <;> rfl
  | tileTake | tileFree | resetDone | wellSet | retire => rfl

theorem applyVals_map (x : Tables) (vs : List JVal) (h : ∀ v ∈ vs, setsNoEntry v = true) : (applyVals x vs).map = x.map := by
  induction vs generalizing x with
  | nil => rfl
  | cons v vs ih =>
    rw [applyVals, ih _ (fun w hw => h w (List.mem_cons_of_mem _ hw)), applyVal_map x v (h v List.mem_cons_self)]

theorem setsNoEntry_vacateVal (s : State) (ptn : Nat) (c : Option Nat) : setsNoEntry (vacateVal s ptn c).1 = true := by
  unfold vacateVal
  split
  · rfl
  · split <;> rfl

/-- A tile gives up its storage by leaving its sharers, by freeing its physical tile, or both. -/
theorem mem_releaseVals (s : State) (ltn : Nat) (v : JVal) (h : v ∈ (releaseVals s ltn).1) :
    v = .cloneDel ltn (entryAt s ltn).ptn.toNat ∨ v = (vacateVal s (entryAt s ltn).ptn.toNat none).1 := by
  simp only [releaseVals] at h
  split at h
  case h_4 =>
    split at h
    · simpa using h
    · exact .inl (List.mem_singleton.1 h)
  case h_1 | h_2 | h_3 => exact .inr (List.mem_singleton.1 h)
  case h_5 | h_6 | h_7 => cases h

theorem setsNoEntry_releaseVals (s : State) (ltn : Nat) : ∀ v ∈ (releaseVals s ltn).1, setsNoEntry v = true := by
  intro v hv
  rcases mem_releaseVals s ltn v hv with rfl | rfl
  · rfl
  · exact setsNoEntry_vacateVal ..

theorem setsNoEntry_refuseClr (ds : List Nat) : ∀ v ∈ ds.map (fun d => JVal.refuseClr d), setsNoEntry v = true := by
  intro v hv
  obtain ⟨d, -, rfl⟩ := List.mem_map.1 hv
  rfl

@[simp] theorem released_tabs (s : State) (vs : List JVal) (ret : Option (Nat × Nat)) : (released s vs ret).tabs = applyVals s.tabs vs := by
  unfold released
  split <;> simp

/-- A group with one record that sets an entry sets that one alone. -/
theorem entryAt_of_group (x : Tables) (vs ws : List JVal) (ltn : Nat) (e : MapEntry) (hvs : ∀ v ∈ vs, setsNoEntry v = true)
    (hws : ∀ v ∈ ws, setsNoEntry v = true) : (applyVals x (vs ++ [.mapSet ltn e false] ++ ws)).map = sSet entryInit x.map ltn e := by
  rw [applyVals_append, applyVals_map _ ws hws, applyVals_append]
  change sSet entryInit (applyVals x vs).map ltn e = _
  rw [applyVals_map x vs hvs]

theorem replaceVals_map (s : State) (x : Tables) (ltn : Nat) (st : TileSt) (pattern : BitVec 32) :
    (applyVals x (replaceVals s ltn st pattern)).map =
      sSet entryInit x.map ltn { st := st, ptn := pattern, rot := 0, epoch := 0, gen := (entryAt s ltn).gen } := by
  have hrest : ∀ v ∈ (releaseVals s ltn).1 ++ (refusedOf s ltn).map (fun d => JVal.refuseClr d), setsNoEntry v = true := by
    intro v hv
    rcases List.mem_append.1 hv with hv | hv
    · exact setsNoEntry_releaseVals s ltn v hv
    · exact setsNoEntry_refuseClr _ v hv
  rw [replaceVals, List.append_assoc]
  exact applyVals_map _ _ hrest

/-- A replaced tile has its new state and pattern; the other entries are those that the abandoned move leaves (07 R232). -/
theorem replaceTile_map (s : State) (ltn : Nat) (st : TileSt) (pattern : BitVec 32) : (replaceTile s ltn st pattern).tabs.map =
    sSet entryInit (killMove s ltn).tabs.map ltn
      { st := st, ptn := pattern, rot := 0, epoch := 0, gen := (entryAt (killMove s ltn) ltn).gen } := by
  rw [replaceTile_eq]
  simp [replaceVals_map]

/-- An unwritten entry stays as it is when a move is abandoned: only a migrating one is restored. -/
theorem entryAt_abandonMove (s : State) (m : Move) (x : Nat) (h : (entryAt s x).st = .unwritten) : entryAt (abandonMove s m) x = entryAt s x := by
  have hfreed : (destinationFreed (movedBack s m) m).tabs.map = s.tabs.map := by
    have hback : (movedBack s m).tabs = s.tabs := by unfold movedBack; split <;> simp
    unfold destinationFreed
    split
    · simp [hback, applyVals, applyVal]
    · simp only [noteVacated]
      split <;> simp [hback, applyVals_map, setsNoEntry_vacateVal]
  have hsource : (abandonMove s m).tabs = (sourceRestored (destinationFreed (movedBack s m) m) m).tabs := by
    rw [abandonMove_eq]
    simp [dropMove]
  have hat : entryAt (destinationFreed (movedBack s m) m) x = entryAt s x := by rw [entryAt, hfreed]; rfl
  rw [entryAt, hsource, ← hat]
  unfold sourceRestored
  split
  · next hmig =>
    have hne : m.ltn ≠ x := by
      rintro rfl
      rw [hat, h] at hmig
      cases hmig
    exact sGet_sSet_other _ _ _ hne
  · rfl

theorem entryAt_killMove (s : State) (ltn x : Nat) (h : (entryAt s x).st = .unwritten) : entryAt (killMove s ltn) x = entryAt s x := by
  have hleave : (unqueue s ltn).tabs = s.tabs := by simp
  have hat : entryAt (unqueue s ltn) x = entryAt s x := by rw [entryAt, hleave]; rfl
  unfold killMove
  simp only
  split
  · next m _ =>
    split
    · have habandon := entryAt_abandonMove (unqueue s ltn) m x (by rw [hat, h])
      rw [hat] at habandon
      split
      · split
        · rw [entryAt, (by simp : (queueMove (abandonMove (unqueue s ltn) m) _ _).tabs = (abandonMove (unqueue s ltn) m).tabs)]
          exact habandon
        · exact habandon
      · exact habandon
    · exact hat
  · exact hat

/-- An unmapped tile is UNWRITTEN, and one that was so before stays so (08 R267). -/
theorem unmapTile_unwritten (s : State) (ltn x : Nat) (h : (entryAt s x).st = .unwritten ∨ x = ltn) :
    (entryAt (unmapTile s ltn) x).st = .unwritten := by
  unfold unmapTile
  split
  · next hun =>
    have hx : (entryAt s x).st = .unwritten := by
      rcases h with h | rfl
      · exact h
      · exact hun
    have htabs : (discardLines (killMove s ltn) ltn).tabs = (killMove s ltn).tabs := by simp
    rw [entryAt, htabs]
    exact (congrArg MapEntry.st (entryAt_killMove s ltn x hx)).trans hx
  · rw [entryAt, replaceTile_map, sGet_sSet]
    split
    · rfl
    · next hne =>
      have hx : (entryAt s x).st = .unwritten := h.resolve_right (fun he => hne he.symm)
      exact (congrArg MapEntry.st (entryAt_killMove s ltn x hx)).trans hx

/-! ## Cloning an entry -/

theorem killMove_of_no_moves (s : State) (ltn : Nat) (h : s.wear.moves = []) : killMove s ltn = unqueue s ltn := by
  have hmoves : (unqueue s ltn).wear.moves = [] := by simpa [unqueue, dequeue] using h
  simp [killMove, hmoves, findP]

theorem sideVal_frames (s : State) (n : Nat) (v : JVal) : (sideVal s n v).med.frames = s.med.frames := by
  cases v <;> simp [sideVal, dropRewrites]

theorem jAppend_frames (s : State) (vs : List JVal) : (jAppend s vs).med.frames = s.med.frames := by
  have hside (n : Nat) (u : State) : (sideVals u n vs).med.frames = u.med.frames := by
    induction vs generalizing u with
    | nil => rfl
    | cons v vs ih => rw [sideVals, ih, sideVal_frames]
  unfold jAppend
  split
  · rfl
  · rw [hside]
    simp only
    split <;> simp

theorem voidRepairs_frames (s : State) (p : Nat → Bool) : (voidRepairs s p).med.frames = s.med.frames := by
  simp [voidRepairs, mapWaiters]

theorem discardLines_frames (s : State) (ltn : Nat) : (discardLines s ltn).med.frames = s.med.frames := by
  have hpark := foldl_keeps (fun u : State => u.med) parkWrite
  simp [discardLines, staleSenses, hpark, voidRepairs_frames]

theorem released_frames (s : State) (vs : List JVal) (ret : Option (Nat × Nat)) : (released s vs ret).med.frames = s.med.frames := by
  unfold released
  split
  · simp [jAppend_frames]
  · exact jAppend_frames ..

theorem evalCapacity_tabs (s : State) : (evalCapacity s).tabs = s.tabs := by simp
theorem discardLines_tabs (s : State) (ltn : Nat) : (discardLines s ltn).tabs = s.tabs := by simp

/-- The group that makes a tile the copy of another: its old storage given up, its new entry, its refused lines cleared (07 R236). -/
def cloneVals (s : State) (dst : Nat) (e : MapEntry) : List JVal :=
  (releaseVals s dst).1 ++ [.mapSet dst e false] ++ (refusedOf s dst).map (fun d => .refuseClr d)

theorem cloneTile_eq (s : State) (src dst : Nat) (e : MapEntry) (hne : src ≠ dst) (h : s.wear.moves = []) : cloneTile s src dst [] e =
    evalCapacity (discardLines (released (unqueue s dst) (cloneVals (unqueue s dst) dst e) (releaseVals (unqueue s dst) dst).2) dst) := by
  rw [← killMove_of_no_moves s dst h]
  simp only [cloneTile, if_neg hne, List.append_nil]
  rfl

/-- The destination takes the entry; no other entry and no frame changes. -/
theorem cloneTile_spec (s : State) (src dst : Nat) (e : MapEntry) (hne : src ≠ dst) (h : s.wear.moves = []) :
    (cloneTile s src dst [] e).tabs.map = sSet entryInit s.tabs.map dst e ∧ (cloneTile s src dst [] e).med.frames = s.med.frames := by
  rw [cloneTile_eq s src dst e hne h]
  constructor
  · have htabs : (unqueue s dst).tabs = s.tabs := by simp
    rw [evalCapacity_tabs, discardLines_tabs, released_tabs, htabs]
    exact entryAt_of_group _ _ _ _ _ (setsNoEntry_releaseVals _ _) (setsNoEntry_refuseClr _)
  · simp [discardLines_frames, released_frames]

theorem cloneTile_recorded (s : State) (src dst : Nat) (e : MapEntry) (hne : src ≠ dst) (h : s.wear.moves = []) :
    Recorded s (cloneTile s src dst [] e) := by
  have hleave : Recorded s (unqueue s dst) := .of_eq
  rw [cloneTile_eq s src dst e hne h]
  exact ((hleave.trans (released_recorded ..)).trans (discardLines_recorded ..)).trans (evalCapacity_recorded _)

/-- A CONST tile with no line above the medium is cloned at once. -/
theorem cloneUnit_of_const (s : State) (src dst : Nat) (hhere : pageHere s (pageOf src) = true) (hways : s.cache.ways = [])
    (hents : s.cist.ents = []) (hmoves : s.wear.moves = []) (hroom : tailFull s = false) (hst : (entryAt s src).st = .const) :
    cloneUnit s src dst = .done (cloneTile s src dst [] (entryAt s src)) true := by
  have hclean : cleanTile s src = s := by simp [cleanTile, hways]
  have hfree : (underMove s dst || tileBusy s src) = false := by simp [underMove, tileBusy, moveOf, hways, hents, hmoves, findP]
  simp [cloneUnit, hhere, hclean, hroom, hfree, hst]

/-! ## The units of a command -/

/-- The task at its start knows the last record before it. -/
def begunTask (s : State) (r : Running) (ue : List Nat) : Task := { launchedTask s r ue with waitJ := jLast s }

/-- The state in which a command without an effect at its start begins to treat its units. -/
def begun (s : State) (r : Running) (ue : List Nat) (un : Bool) : State := setHold (logged (launched s r ue un) s.pair.sseq)

section
variable (s : State) (r : Running) (ue : List Nat) (un : Bool)

@[simp] theorem begun_keys : (begun s r ue un).keys = s.keys := rfl
@[simp] theorem begun_run : (begun s r ue un).cmds.run = [launchedRun s r] := rfl
@[simp] theorem begun_sanStep : (begun s r ue un).cmds.sanStep = 0 := rfl

@[simp] theorem begun_tasks : (begun s r ue un).cmds.tasks = [begunTask s r ue] := by
  simp [begun, setHold, logged, modTask, launched, modFirst, launchedTask, begunTask, jLast]

end

/-- A command that treats its units: all that the module changes when it starts is what the units do and what ends it. -/
theorem cmdRow_of_units {s v : State} {r : Running} {src : Nat} {tag : BitVec 16} {op : Nat} {c : State → Running → Desc → Checks}
    {ue : List Nat} (h : Issued s r src tag op) (hrole : s.pair.role = .unpaired) (hcheck : checkStatus s r.src (c s r (descOf r.desc)) = 0)
    (hactive : (c s r (descOf r.desc)).accept = .active) (hop : op = 0x04 ∨ op = 0x05 ∨ op = 0x07 ∨ op = 0x10 ∨ op = 0x12)
    (htreated : treated (begun s r ue (c s r (descOf r.desc)).unlock) s.pair.sseq (begunTask s r ue) = v)
    (hrun : v.cmds.run.map (·.desc) ⊆ [r.desc]) (hsan : v.cmds.sanStep < 3) (hkeys : ∀ k, (keyAt v k).rotating = false) :
    Ended v (cmdRow s src tag op anyDesc c (fun s r _ => issue s r.desc (some r) ue)) := by
  have hopcode := opcode_of_issued h
  have hrow := cmdRow_of_issued c ue h hrole hcheck
  obtain ⟨-, hsync, -⟩ := h
  have hnoeff (un : Bool) : startEffect (launched s r ue un) (launchedTask s r ue) = launched s r ue un := by
    have hdesc : (descOf (launchedTask s r ue).desc).opcode = op := hopcode
    simp only [startEffect, hdesc]
    rw [if_neg (by omega), if_neg (by omega), if_neg (by omega), if_neg (by omega), if_neg (by unfold opReg; omega)]
  have hbegun (un : Bool) : setHold (ackTile (logged (launched s r ue un) s.pair.sseq)) = begun s r ue un := by
    rw [ackTile_idle _ (show (logged (launched s r ue un) s.pair.sseq).pair.syncing = none from hsync)]
    rfl
  have hruns : NoLineRuns v := by
    intro d hd
    rcases List.mem_singleton.1 (hrun hd) with rfl
    omega
  obtain ⟨x, hx, hsettle⟩ := settle_of_task (s := logged (launched s r ue (c s r (descOf r.desc)).unlock) s.pair.sseq) (t := begunTask s r ue)
    (service_of_check (s := s) hactive hcheck) hrole (begun_tasks s r ue _) rfl rfl (by rw [hbegun]; exact htreated) hruns hsan
  rw [startIfRoom_of_room (by omega), hnoeff, hsettle, endRotations_of_rotating x ((rotating_of_keys hkeys).of_ended hx)] at hrow
  exact hrow ▸ hx

/-- What a unit's home does beside the effect, where nothing is mirrored and no bitmap kept. -/
theorem afterHome_of_unpaired (s : State) (t : Task) (u : Nat) (h : s.pair.role = .unpaired) :
    afterHome s t u = if t.op = 0x07 then s else voidTile s u := by
  have hvoid : (voidTile s u).pair.role = .unpaired := by simpa [voidTile, voidRepairs] using h
  have hmarks : marksTiles (voidTile s u) = false := by simp [marksTiles, hvoid]
  have hmirror : mirroring (voidTile s u) = false := by simp [mirroring, hvoid]
  simp [afterHome, hmarks, hmirror]

/-- The state once a unit is treated and its task knows. -/
def unitDone (s : State) (q : Nat) (t : Task) (u : Nat) (rest : List Nat) (counted : Bool) : State :=
  modTask (afterHome s t u) q (fun x => { x with todo := rest, count := x.count + b2n counted, waitJ := jLast s })

/-- The first unit of the one task that runs, with no handover, is treated as its command says. -/
theorem runUnits_cons {s s' : State} {t : Task} {u : Nat} {rest : List Nat} {counted : Bool} (htasks : s.cmds.tasks = [t])
    (htheirs : t.theirs = []) (hruns : NoLineRuns s) (hrole : s.pair.role = .unpaired) (hhand : s.pair.hand = .none)
    (hunit : doUnit s t u = .done s' counted) : runUnits t.sseq (u :: rest) s = runUnits t.sseq rest (unitDone s' t.sseq t u rest counted) := by
  have htask : taskAt s t.sseq = some t := by simp [taskAt, htasks, findP]
  have hearlier (tiles : List Nat) : earlierHas s.cmds.tasks t.sseq tiles = false := by simp [earlierHas, htasks]
  have hmaint (tiles : List Nat) : maintHas s.cmds.run t.ord tiles = false := by
    simp only [maintHas, List.any_eq_false]
    intro x hx
    have hx6 := (hruns _ (List.mem_map_of_mem hx)).1
    simp [hx6]
  have hfree : (t.theirs.any (fun x => decide (x < u)) || earlierHas s.cmds.tasks t.sseq (unitTiles (descOf t.desc) u)
      || maintHas s.cmds.run t.ord (unitTiles (descOf t.desc) u) || handHolds s (unitTile t.op u) || lacksMir s t) = false := by
    simp [htheirs, hearlier, hmaint, handHolds, hhand, lacksMir, mirroring, hrole]
  rw [runUnits]
  simp only [htask, hfree, hunit, Bool.false_eq_true, if_false]
  rfl

theorem begunTask_units (s : State) (r : Running) (ue : List Nat) (h : s.pair.home = .all) :
    (begunTask s r ue).todo = unitsOf (descOf r.desc) ∧ (begunTask s r ue).theirs = [] := by
  simp [begunTask, launchedTask, isHome, h]

/-- Once a unit is treated, the tables, the keys, the frames and the unlocks are those of its effect, and of a POISON_CLEAR the lines too. -/
theorem unitDone_spec (s : State) (q : Nat) (t : Task) (u : Nat) (rest : List Nat) (counted : Bool) (h : s.pair.role = .unpaired) :
    (unitDone s q t u rest counted).tabs = s.tabs ∧ (unitDone s q t u rest counted).keys = s.keys ∧
    (unitDone s q t u rest counted).med.frames = s.med.frames ∧ (unitDone s q t u rest counted).req = s.req ∧
    (unitDone s q t u rest counted).pair.role = .unpaired ∧ (unitDone s q t u rest counted).cmds.run = s.cmds.run ∧
    (unitDone s q t u rest counted).cmds.sanStep = s.cmds.sanStep ∧ (t.op = 0x07 → (unitDone s q t u rest counted).cache = s.cache) := by
  have hframes : (voidTile s u).med.frames = s.med.frames := voidRepairs_frames ..
  have hrole : (voidTile s u).pair.role = .unpaired := by simpa [voidTile, voidRepairs] using h
  simp only [unitDone, modTask, afterHome_of_unpaired s t u h]
  split
  · simp [h]
  · next hop => simp [hframes, hrole, hop]

/-- A command with one unit that is treated at once: the tables and the frames are those of the unit's effect, and of a POISON_CLEAR the lines. -/
theorem cmdRow_of_unit {s s' : State} {r : Running} {src : Nat} {tag : BitVec 16} {op u : Nat} {c : State → Running → Desc → Checks}
    {ue : List Nat} {counted : Bool} (h : Issued s r src tag op) (hrole : s.pair.role = .unpaired) (hhand : s.pair.hand = .none) (hhome : s.pair.home = .all)
    (hcheck : checkStatus s r.src (c s r (descOf r.desc)) = 0) (hactive : (c s r (descOf r.desc)).accept = .active)
    (hunlock : (c s r (descOf r.desc)).unlock = false) (hop : op = 0x04 ∨ op = 0x05 ∨ op = 0x07) (hunits : unitsOf (descOf r.desc) = [u])
    (hunit : doUnit (begun s r ue false) (begunTask s r ue) u = .done s' counted) (hrec : Recorded (begun s r ue false) s')
    (hkeys : s'.keys = s.keys) :
    (cmdRow s src tag op anyDesc c (fun s r _ => issue s r.desc (some r) ue)).tabs = s'.tabs ∧
    (cmdRow s src tag op anyDesc c (fun s r _ => issue s r.desc (some r) ue)).med.frames = s'.med.frames ∧
    (op = 0x07 → (cmdRow s src tag op anyDesc c (fun s r _ => issue s r.desc (some r) ue)).cache = s'.cache) := by
  have hopcode := opcode_of_issued h
  obtain ⟨htodo, htheirs⟩ := begunTask_units s r ue hhome
  have hrole' : s'.pair.role = .unpaired := hrec.role.trans hrole
  obtain ⟨htabs, hdkeys, hframes, -, -, hdrun, hdstep, hcache⟩ := unitDone_spec s' s.pair.sseq (begunTask s r ue) u [] counted hrole'
  have hruns : NoLineRuns (begun s r ue false) := by
    intro d hd
    rcases List.mem_singleton.1 hd with rfl
    change (descOf r.desc).opcode ≠ 0x06 ∧ (descOf r.desc).opcode ≠ 0x09
    omega
  have htreated : treated (begun s r ue false) s.pair.sseq (begunTask s r ue) = unitDone s' s.pair.sseq (begunTask s r ue) u [] counted := by
    have hsan : (begunTask s r ue).op ≠ 0x10 := by
      change (descOf r.desc).opcode ≠ 0x10
      omega
    rw [treated, if_neg hsan, htodo, hunits]
    exact runUnits_cons (begun_tasks ..) htheirs hruns hrole hhand hunit
  have hidle (k : Nat) : (keyAt (unitDone s' s.pair.sseq (begunTask s r ue) u [] counted) k).rotating = false := by
    rw [keyAt, hdkeys, hkeys]
    exact keyAt_of_noRotation (noRotation_of_issued h) k
  have hstep : (unitDone s' s.pair.sseq (begunTask s r ue) u [] counted).cmds.sanStep = 0 := hdstep.trans hrec.sanStep
  have hend := cmdRow_of_units h hrole hcheck hactive (by omega) (hunlock ▸ htreated) (hdrun ▸ hrec.run) (by omega) hidle
  exact ⟨hend.tabs.trans htabs, (congrArg Medium.frames hend.med).trans hframes, fun h7 => hend.cache.trans (hcache (hopcode.trans h7))⟩

/-! ## FILL and CLONE -/

theorem unitsOf_fill (d : Desc) (hop : d.opcode = 0x04) (hlen : d.len = 16384) : unitsOf d = [d.addr0 / 16384] := by
  simp [unitsOf, hop, hlen, tileRange]

theorem unitsOf_clone (d : Desc) (hop : d.opcode = 0x05) (hlen : d.len = 16384) : unitsOf d = [d.addr1 / 16384] := by
  simp [unitsOf, hop, hlen, tileRange]

section
variable {s : State} {r : Running} {src : Src} {tag : BitVec 16}

/-- A filled tile is CONST with the pattern (02 R67). -/
theorem fillF_entry (h : Issued s r src.val tag 0x04) (hrole : s.pair.role = .unpaired) (hhand : s.pair.hand = .none)
    (hhome : s.pair.home = .all) (hcheck : checkStatus s r.src (fillChecks s r (descOf r.desc)) = 0) (hlen : (descOf r.desc).len = 16384)
    (hroom : tailFull s = false) (hmove : underMove s ((descOf r.desc).addr0 / 16384) = false) :
    (entryAt (fillF s src.val tag) ((descOf r.desc).addr0 / 16384)).st = .const ∧
    (entryAt (fillF s src.val tag) ((descOf r.desc).addr0 / 16384)).ptn = BitVec.ofNat 32 ((descOf r.desc).arg1 % 2 ^ 32) := by
  have hopcode := opcode_of_issued h
  have hunit : doUnit (begun s r [] false) (begunTask s r []) ((descOf r.desc).addr0 / 16384) =
      .done (replaceTile (begun s r [] false) ((descOf r.desc).addr0 / 16384) .const (BitVec.ofNat 32 ((descOf r.desc).arg1 % 2 ^ 32))) true := by
    have hroom' : tailFull (begun s r [] false) = false := hroom
    have hmove' : underMove (begun s r [] false) ((descOf r.desc).addr0 / 16384) = false := hmove
    have hdesc : descOf (begunTask s r []).desc = descOf r.desc := rfl
    simp [doUnit, hdesc, hopcode, hroom', hmove']
  obtain ⟨htabs, -⟩ := cmdRow_of_unit h hrole hhand hhome hcheck rfl rfl (by simp) (unitsOf_fill _ hopcode hlen) hunit
    (replaceTile_recorded ..) (by simp)
  have hmap := (congrArg Tables.map htabs).trans (replaceTile_map ..)
  have hentry : entryAt (fillF s src.val tag) ((descOf r.desc).addr0 / 16384) = _ :=
    (congrArg (sGet entryInit · ((descOf r.desc).addr0 / 16384)) hmap).trans (sGet_sSet_same ..)
  rw [hentry]
  exact ⟨rfl, rfl⟩

/-- The ranges of a CLONE do not meet: its tiles differ. -/
theorem clone_tiles_ne (hcheck : checkStatus s r.src (cloneChecks s r (descOf r.desc)) = 0) (hlen : (descOf r.desc).len = 16384) :
    (descOf r.desc).addr0 / 16384 ≠ (descOf r.desc).addr1 / 16384 := by
  obtain ⟨hbad, -, hown⟩ := checks_pass hcheck
  have hmeet : rangesMeet (descOf r.desc).addr0 (descOf r.desc).addr1 (descOf r.desc).len = false := by
    by_contra hmeet
    have hoverlap : cloneStatus s (descOf r.desc) = 0x0A := if_pos (Bool.not_eq_false _ ▸ hmeet)
    exact absurd (hoverlap.symm.trans hown) (by decide)
  simp only [cloneChecks, checksOf, badRange, Bool.or_eq_false_iff, decide_eq_false_iff_not, not_not] at hbad
  simp only [rangesMeet, Bool.and_eq_false_iff, decide_eq_false_iff_not] at hmeet
  obtain ⟨⟨⟨-, ⟨h0, -⟩, -⟩, ⟨h1, -⟩, -⟩, -⟩ := hbad
  omega

/-- The destination of a CLONE of one CONST tile takes its entry; the medium and the source stay (07 R236). -/
theorem cloneF_entries (h : Issued s r src.val tag 0x05) (hrole : s.pair.role = .unpaired) (hhand : s.pair.hand = .none)
    (hhome : s.pair.home = .all) (hcheck : checkStatus s r.src (cloneChecks s r (descOf r.desc)) = 0) (hlen : (descOf r.desc).len = 16384)
    (hroom : tailFull s = false) (hmoves : s.wear.moves = []) (hways : s.cache.ways = []) (hents : s.cist.ents = [])
    (hhere : pageHere s (pageOf ((descOf r.desc).addr0 / 16384)) = true) (hconst : (entryAt s ((descOf r.desc).addr0 / 16384)).st = .const) :
    (cloneF s src.val tag).tabs.map = sSet entryInit s.tabs.map ((descOf r.desc).addr1 / 16384) (entryAt s ((descOf r.desc).addr0 / 16384)) ∧
    (cloneF s src.val tag).med.frames = s.med.frames := by
  have hopcode := opcode_of_issued h
  have hne := clone_tiles_ne hcheck hlen
  have hunit : doUnit (begun s r [] false) (begunTask s r []) ((descOf r.desc).addr1 / 16384) =
      .done (cloneTile (begun s r [] false) ((descOf r.desc).addr0 / 16384) ((descOf r.desc).addr1 / 16384) []
        (entryAt s ((descOf r.desc).addr0 / 16384))) true := by
    have hdesc : descOf (begunTask s r []).desc = descOf r.desc := rfl
    have hsrc : cloneSrc (descOf r.desc) ((descOf r.desc).addr1 / 16384) = (descOf r.desc).addr0 / 16384 := by simp [cloneSrc]
    simp only [doUnit, hdesc, hopcode, hsrc, if_true]
    exact cloneUnit_of_const (begun s r [] false) _ _ hhere hways hents hmoves hroom hconst
  obtain ⟨htabs, hframes, -⟩ := cmdRow_of_unit h hrole hhand hhome hcheck rfl rfl (by simp) (unitsOf_clone _ hopcode hlen) hunit
    (cloneTile_recorded (begun s r [] false) _ _ _ hne hmoves) (by simp)
  obtain ⟨hmap, hkept⟩ := cloneTile_spec (begun s r [] false) _ _ (entryAt s ((descOf r.desc).addr0 / 16384)) hne hmoves
  exact ⟨(congrArg Tables.map htabs).trans hmap, hframes.trans hkept⟩

end

/-! ## POISON_CLEAR -/

theorem checkTag_of_no_upset (s : State) (k : Nat) (h : s.cache.upset = []) : checkTag s k = s := by
  have hread : sGet .none s.cache.upset k = .none := by rw [h]; rfl
  simp [checkTag, hread, checkWay_of_no_upset s k h]

/-- The first line of a store that satisfies `p`, replaced by another that does, is still the first. -/
theorem findP_sIns {α : Type} (p : Nat × α → Bool) (k : Nat) (x w : α) (m : Store α) (h : findP p m = some (k, w)) (hx : p (k, x) = true) :
    findP p (sIns k x m) = some (k, x) := by
  induction m with
  | nil => cases h
  | cons y m ih =>
    obtain ⟨j, v⟩ := y
    simp only [sIns]
    split
    · simp [findP, hx]
    · split
      · simp [findP, hx]
      · next hne =>
        unfold findP at h ⊢
        split at h
        · cases h
          exact absurd rfl hne
        · next hp =>
          rw [if_neg hp]
          exact ih h

/-- A line as it stands in the way that held it, once it is written (04 R109). -/
def writtenWay (s : State) (dln : Nat) (old : WayT) (v : LineV) : WayT :=
  let die := if dirtyW old then (old.dk, old.die) else if old.dk then dieInfo s (ltnOf dln) else (false, 0)
  { v := true, d := true, dc := 3, p := v.p, pcause := if v.p then v.pcause else 0, dk := die.1, die := die.2, pf := false, dln := dln,
    stamp := if dirtyW old then old.stamp else s.cache.stamp + 1, data := v.data }

/-- The cache once a line is written into way `k`. -/
def cacheWritten (s : State) (k : Nat) (x : WayT) : Cache :=
  { (touchWay (newWay s k x) k).cache with stamp := (touchWay (newWay s k x) k).cache.stamp + 1 }

def withWritten (s : State) (k : Nat) (x : WayT) : State := { s with cache := cacheWritten s k x }

theorem storeLine_of_way (s : State) (dln k : Nat) (w : WayT) (v : LineV) (hway : findWay s dln = some (k, w)) :
    storeLine s dln v = some (withWritten s k (writtenWay s dln w v)) := by
  simp only [storeLine, hway]
  rfl

theorem cacheWritten_ways (s : State) (k : Nat) (x : WayT) (h : x.v = true) : (cacheWritten s k x).ways = sIns k x s.cache.ways := by
  have hne : x ≠ wayInit := by
    rintro rfl
    cases h
  simp [cacheWritten, touchWay, newWay, setWay, sSet, hne]

/-- What the application of a write leaves of the repairs and the waiting writes of its line. -/
def lineWritten (s : State) (dln : Nat) : State :=
  let s := voidRepairs s (fun d => decide (d = dln))
  { s with cist := { s.cist with waits := s.cist.waits.map (fun x => if x.dln = dln then { x with fill := none } else x) } }

theorem marksBitmap_of_unpaired (s : State) (org : Origin) (h : s.pair.role = .unpaired) : marksBitmap s org = false := by
  simp [marksBitmap, h]

/-- A write of the module's own in UNPAIRED is applied, and nothing mirrors it or waits for it. -/
theorem applyWrite_of_silent (s t : State) (dln : Nat) (data v : LineV) (hrole : s.pair.role = .unpaired) (hrole' : t.pair.role = .unpaired)
    (hstore : storeLine s dln v = some t) : applyWrite s (ownWrite dln .silent data) v false = some (evalStop (lineWritten t dln)) := by
  have hmirror : mirroring s = false := by simp [mirroring, hrole]
  have hbitmap : marksBitmap (lineWritten t dln) .silent = false :=
    marksBitmap_of_unpaired _ _ (by simpa [lineWritten, voidRepairs] using hrole')
  have happly : applyWrite s (ownWrite dln .silent data) v false = some (evalStop (if marksBitmap (lineWritten t dln) .silent then
      { lineWritten t dln with pair := { (lineWritten t dln).pair with bitmap := sSet false (lineWritten t dln).pair.bitmap (ltnOf dln) true } }
      else lineWritten t dln)) := by
    simp only [applyWrite, ownWrite, hmirror, hstore, isRepair, finishLocal]
    rfl
  rw [happly, hbitmap]
  rfl

/-- A poisoned line of the cache is written with zeros where it stands (12 R384). -/
theorem clearUnit_of_poisoned (s : State) (dln k : Nat) (w : WayT) (ue : List Nat) (hrole : s.pair.role = .unpaired)
    (hhere : pageHere s (pageOf (ltnOf dln)) = true) (hlock : lockHeld s dln = false) (hwaits : s.cist.waits = []) (hhold : s.cmds.hold = [])
    (hup : s.cache.upset = []) (hway : findWay s dln = some (k, w)) (hp : w.p = true) : clearUnit s dln ue =
      .done (evalStop (lineWritten (withWritten s k (writtenWay s dln w (cleanLine 0))) dln)) true := by
  have happly := applyWrite_of_silent s (withWritten s k (writtenWay s dln w (cleanLine 0))) dln (cleanLine 0) (cleanLine 0) hrole hrole
    (storeLine_of_way s dln k w (cleanLine 0) hway)
  have hmerge : mergeV (cleanLine 0) (ownWrite dln .silent (cleanLine 0)) = cleanLine 0 := by simp [mergeV, ownWrite, cleanLine]
  have hcheck : checkWrite s (ownWrite dln .silent (cleanLine 0)) = s := by
    simp [checkWrite, ownWrite, hway, checkTag_of_no_upset s k hup]
  have hdlnw : (ownWrite dln .silent (cleanLine 0)).dln = dln := rfl
  have hbe : (ownWrite dln .silent (cleanLine 0)).be = BitVec.allOnes 64 := rfl
  have hadmit : admitWrite s (ownWrite dln .silent (cleanLine 0)) =
      some (evalStop (lineWritten (withWritten s k (writtenWay s dln w (cleanLine 0))) dln)) := by
    simp only [admitWrite, hdlnw, hlock, hcheck, hbe, if_true, hmerge, happly, Bool.false_eq_true, if_false]
  have hread : clearRead s dln ue = (true, none) := by simp [clearRead, hway, hp]
  have hfree : (lockHeld s dln || s.cist.waits.any (fun w => decide (w.dln = dln)) || s.cmds.hold.contains (ltnOf dln)) = false := by
    simp [hlock, hwaits, hhold]
  simp only [clearUnit, hhere, hfree, checkLine_of_no_upset s dln hup, hread, hadmit, if_true, Bool.false_eq_true, if_false]
  rfl

theorem lineWritten_recorded (s : State) (dln k : Nat) (x : WayT) :
    Recorded s (evalStop (lineWritten (withWritten s k x) dln)) := by
  have hrole : (evalStop (lineWritten (withWritten s k x) dln)).pair.role = s.pair.role := by
    rw [evalStop_role]
    simp [lineWritten, voidRepairs, withWritten]
  unfold lineWritten withWritten at hrole ⊢
  exact .of_eq (hrole := hrole)

theorem findWay_lineWritten (s : State) (dln k : Nat) (w : WayT) (v : LineV) (hway : findWay s dln = some (k, w)) :
    findWay (evalStop (lineWritten (withWritten s k (writtenWay s dln w v)) dln)) dln = some (k, writtenWay s dln w v) := by
  have hways : (evalStop (lineWritten (withWritten s k (writtenWay s dln w v)) dln)).cache.ways =
      sIns k (writtenWay s dln w v) s.cache.ways := by
    rw [← cacheWritten_ways s k _ rfl]
    simp [lineWritten, voidRepairs, mapWaiters, withWritten]
  rw [findWay, hways]
  exact findP_sIns _ k _ w _ hway (by simp [writtenWay])

section
variable {s : State} {r : Running} {src : Src} {tag : BitVec 16}

theorem unitsOf_poisonClear (d : Desc) (hop : d.opcode = 0x07) (hlen : d.len = 64) : unitsOf d = [d.addr0 / 64] := by
  simp [unitsOf, hop, hlen, lineRange]

/-- Where no CLONE runs, no tile's writes are held. -/
theorem begun_hold (s : State) (r : Running) (ue : List Nat) (un : Bool) (hop : (descOf r.desc).opcode ≠ 0x05) :
    (begun s r ue un).cmds.hold = [] := by
  simp [begun, setHold, holdOf, logged, modTask, launched, modFirst, launchedTask, Task.op, hop, dedup, cmdsReset]

/-- A poisoned line that the cache holds is written with zeros (12 R384). -/
theorem poisonClearF_line {ue : List Nat} {k : Nat} {w : WayT} (h : Issued s r src.val tag 0x07) (hrole : s.pair.role = .unpaired)
    (hhand : s.pair.hand = .none) (hhome : s.pair.home = .all) (hcheck : checkStatus s r.src (poisonClearChecks s r (descOf r.desc)) = 0)
    (hlen : (descOf r.desc).len = 64) (hwaits : s.cist.waits = []) (hhere : pageHere s (pageOf (ltnOf ((descOf r.desc).addr0 / 64))) = true)
    (hlock : lockHeld s ((descOf r.desc).addr0 / 64) = false) (hup : s.cache.upset = [])
    (hway : findWay s ((descOf r.desc).addr0 / 64) = some (k, w)) (hp : w.p = true) :
    findWay (poisonClearF s src.val tag ue) ((descOf r.desc).addr0 / 64) =
      some (k, writtenWay (begun s r ue false) ((descOf r.desc).addr0 / 64) w (cleanLine 0)) := by
  have hopcode := opcode_of_issued h
  have hunit : doUnit (begun s r ue false) (begunTask s r ue) ((descOf r.desc).addr0 / 64) =
      .done (evalStop (lineWritten (withWritten (begun s r ue false) k
        (writtenWay (begun s r ue false) ((descOf r.desc).addr0 / 64) w (cleanLine 0))) ((descOf r.desc).addr0 / 64))) true := by
    have hdesc : descOf (begunTask s r ue).desc = descOf r.desc := rfl
    have hue : (begunTask s r ue).ue = ue := rfl
    have hline := clearUnit_of_poisoned (begun s r ue false) _ k w ue hrole hhere hlock hwaits (begun_hold s r ue false (by omega)) hup hway hp
    simpa [doUnit, hdesc, hue, hopcode] using hline
  obtain ⟨-, -, hcache⟩ := cmdRow_of_unit h hrole hhand hhome hcheck rfl rfl (by simp) (unitsOf_poisonClear _ hopcode hlen) hunit
    (lineWritten_recorded ..) (by simp [lineWritten, withWritten])
  exact (findWay_congr (hcache rfl) _).trans (findWay_lineWritten (begun s r ue false) _ k w (cleanLine 0) hway)

end

/-! ## CAPACITY_RELEASE -/

/-- What stays while a CAPACITY_RELEASE unmaps tiles from state `b` on. -/
structure Unmapping (b s : State) : Prop where
  keys : s.keys = b.keys
  armed : s.req.armed = b.req.armed
  role : s.pair.role = .unpaired
  run : s.cmds.run.map (·.desc) ⊆ b.cmds.run.map (·.desc)
  sanStep : s.cmds.sanStep = b.cmds.sanStep
  op : ∀ t ∈ s.cmds.tasks, t.op = 0x12

theorem doUnit_of_release (s : State) (t : Task) (u : Nat) (hop : t.op = 0x12) :
    doUnit s t u = if tailFull s then .wait (flagTailStall s) else .done (unmapTile s u) true := by
  have hopcode : (descOf t.desc).opcode = 0x12 := hop
  simp [doUnit, hopcode]

/-- No bookkeeping of a unit, and no record or store, gives a task another command. -/
theorem Recorded.op {s t : State} {k : Nat} (h : Recorded s t) (hop : ∀ x ∈ s.cmds.tasks, x.op = k) : ∀ x ∈ t.cmds.tasks, x.op = k := by
  have hops : t.cmds.tasks.map (·.op) = s.cmds.tasks.map (·.op) := by
    simpa [Function.comp_def, taskCore, Task.op] using congrArg (List.map Task.op) h.tasks
  intro x hx
  obtain ⟨y, hy, heq⟩ := List.mem_map.1 (hops ▸ List.mem_map_of_mem hx)
  exact heq ▸ hop y hy

theorem unitDone_op {s : State} {q : Nat} {t : Task} {u k : Nat} {rest : List Nat} {counted : Bool} (hrole : s.pair.role = .unpaired)
    (hop : ∀ x ∈ s.cmds.tasks, x.op = k) : ∀ x ∈ (unitDone s q t u rest counted).cmds.tasks, x.op = k := by
  have hcmds : (afterHome s t u).cmds = s.cmds := by
    rw [afterHome_of_unpaired s t u hrole]
    split
    · rfl
    · simp
  have hops : (unitDone s q t u rest counted).cmds.tasks.map (·.op) = s.cmds.tasks.map (·.op) := by
    simp only [unitDone, modTask, hcmds]
    exact map_modFirst Task.op _ _ _ (fun _ => rfl)
  intro x hx
  obtain ⟨y, hy, heq⟩ := List.mem_map.1 (hops ▸ List.mem_map_of_mem hx)
  exact heq ▸ hop y hy

theorem Unmapping.step {b s : State} {u q : Nat} {t : Task} {rest : List Nat} (h : Unmapping b s) :
    Unmapping b (unitDone (unmapTile s u) q t u rest true) := by
  have hrec := unmapTile_recorded s u
  have hrole := hrec.role.trans h.role
  obtain ⟨-, hkeys, -, hreq, hrole', hrun, hstep, -⟩ := unitDone_spec (unmapTile s u) q t u rest true hrole
  have hukeys : (unmapTile s u).keys = s.keys := by simp
  refine ⟨hkeys.trans (hukeys.trans h.keys), ?_, hrole', ?_, hstep.trans (hrec.sanStep.trans h.sanStep), unitDone_op hrole (hrec.op h.op)⟩
  · rw [hreq, hrec.armed, h.armed]
  · rw [hrun]
    exact List.Subset.trans hrec.run h.run

theorem unitDone_unwritten {s : State} {u x q : Nat} {t : Task} {rest : List Nat} (hrole : s.pair.role = .unpaired)
    (h : (entryAt s x).st = .unwritten ∨ x = u) : (entryAt (unitDone (unmapTile s u) q t u rest true) x).st = .unwritten := by
  have hrole' := (unmapTile_recorded s u).role.trans hrole
  obtain ⟨htabs, -⟩ := unitDone_spec (unmapTile s u) q t u rest true hrole'
  rw [entryAt, htabs]
  exact unmapTile_unwritten s u x h

theorem mem_of_findP {α : Type} (p : α → Bool) (l : List α) (x : α) (h : findP p l = some x) : x ∈ l := by
  induction l with
  | nil => cases h
  | cons y l ih =>
    unfold findP at h
    split at h
    · cases h
      exact List.mem_cons_self
    · exact List.mem_cons_of_mem _ (ih h)

theorem Unmapping.stalled {b s : State} (h : Unmapping b s) : Unmapping b (flagTailStall s) :=
  ⟨by simpa using h.keys, by simpa using h.armed, by simpa using h.role, by simpa using h.run, by simpa using h.sanStep, by simpa using h.op⟩

/-- However many units it treats, a tile once unmapped stays so. -/
theorem Unmapping.runUnits {b : State} {x q : Nat} (us : List Nat) {s : State} (h : Unmapping b s) (hx : (entryAt s x).st = .unwritten) :
    Unmapping b (runUnits q us s) ∧ (entryAt (runUnits q us s) x).st = .unwritten := by
  induction us generalizing s with
  | nil => exact ⟨h, hx⟩
  | cons u us ih =>
    unfold Machine.runUnits
    split
    · exact ⟨h, hx⟩
    · next t htask =>
      split
      · exact ⟨h, hx⟩
      · rw [doUnit_of_release s t u (h.op t (mem_of_findP _ _ _ htask))]
        cases hfull : tailFull s with
        | true => exact ⟨h.stalled, by simpa [entryAt] using hx⟩
        | false => exact ih (h.step (t := t)) (unitDone_unwritten h.role (.inl hx))

theorem tileRange_cons (dpa len : Nat) (h : 16384 ≤ len) : ∃ rest, tileRange dpa len = dpa / 16384 :: rest := by
  obtain ⟨n, hn⟩ : ∃ n, len / 16384 = n + 1 := ⟨len / 16384 - 1, by omega⟩
  exact ⟨_, by rw [tileRange, hn, List.range_succ_eq_map, List.map_cons, Nat.zero_add]⟩

/-- An unlock that a command has consumed is not armed (12 R380). -/
theorem isArmed_of_armed (s t : State) (k : Nat) (h : t.req.armed = (disarm s k).req.armed) : isArmed t k = false := by
  simp [isArmed, h, disarm]

section
variable {s : State} {r : Running} {src : Src} {tag : BitVec 16}

theorem capacityRelease_len (hcheck : checkStatus s r.src (capacityReleaseChecks s r (descOf r.desc)) = 0) (hlen : 0 < (descOf r.desc).len) :
    16384 ≤ (descOf r.desc).len := by
  obtain ⟨hbad, -⟩ := checks_pass hcheck
  simp only [capacityReleaseChecks, checksOf, badRange, blockBytes, Bool.or_eq_false_iff] at hbad
  obtain ⟨-, ⟨-, hmul⟩, -⟩ := hbad
  have hblocks : (descOf r.desc).len % 2 ^ 28 = 0 := not_not.1 (of_decide_eq_false hmul)
  omega

theorem capacityReleaseF_ended (h : Issued s r src.val tag 0x12) (hrole : s.pair.role = .unpaired) (hhand : s.pair.hand = .none)
    (hhome : s.pair.home = .all) (hcheck : checkStatus s r.src (capacityReleaseChecks s r (descOf r.desc)) = 0)
    (hlen : 0 < (descOf r.desc).len) (hroom : tailFull s = false) :
    ∃ v, (entryAt v ((descOf r.desc).addr0 / 16384)).st = .unwritten ∧ v.req.armed = (begun s r [] true).req.armed ∧
      Ended v (capacityReleaseF s src.val tag) := by
  have hopcode := opcode_of_issued h
  obtain ⟨htodo, htheirs⟩ := begunTask_units s r [] hhome
  obtain ⟨rest, hrange⟩ := tileRange_cons (descOf r.desc).addr0 (descOf r.desc).len (capacityRelease_len hcheck hlen)
  have hunits : unitsOf (descOf r.desc) = (descOf r.desc).addr0 / 16384 :: rest := by
    unfold unitsOf
    rw [if_pos (by omega), hrange]
  have hop : (begunTask s r []).op = 0x12 := hopcode
  have hruns : NoLineRuns (begun s r [] true) := by
    intro d hd
    rcases List.mem_singleton.1 hd with rfl
    change (descOf r.desc).opcode ≠ 0x06 ∧ (descOf r.desc).opcode ≠ 0x09
    omega
  have hfirst : doUnit (begun s r [] true) (begunTask s r []) ((descOf r.desc).addr0 / 16384) =
      .done (unmapTile (begun s r [] true) ((descOf r.desc).addr0 / 16384)) true := by
    have hroom' : tailFull (begun s r [] true) = false := hroom
    simp [doUnit_of_release _ _ _ hop, hroom']
  have hbase : Unmapping (begun s r [] true) (begun s r [] true) :=
    ⟨rfl, rfl, hrole, List.Subset.refl _, rfl, by rw [begun_tasks]; simpa using hop⟩
  have htreated : treated (begun s r [] true) s.pair.sseq (begunTask s r []) =
      runUnits s.pair.sseq rest (unitDone (unmapTile (begun s r [] true) ((descOf r.desc).addr0 / 16384)) s.pair.sseq (begunTask s r [])
        ((descOf r.desc).addr0 / 16384) rest true) := by
    rw [treated, if_neg (by omega), htodo, hunits]
    exact runUnits_cons (begun_tasks ..) htheirs hruns hrole hhand hfirst
  obtain ⟨hall, hun⟩ := hbase.step.runUnits (x := (descOf r.desc).addr0 / 16384) rest (unitDone_unwritten hrole (.inr rfl))
  refine ⟨_, hun, hall.armed, cmdRow_of_units h hrole hcheck rfl (by simp) htreated hall.run ?_ (fun k => ?_)⟩
  · rw [hall.sanStep, begun_sanStep]
    omega
  · rw [keyAt, hall.keys]
    exact keyAt_of_noRotation (noRotation_of_issued h) k

end

/-! ## The start of a SANITIZE -/

theorem reportCe_recorded (s : State) (src code a0 a1 a2 : Nat) : Recorded s (reportCe s src code a0 a1 a2) := by
  have hlatch (u : State) (l : Latch) : Recorded u { u with flt := { u.flt with ce := l } } := .of_eq rfl rfl rfl rfl rfl rfl
  have hflush (u : State) : Recorded u (wantFlush u) := .of_eq rfl rfl rfl rfl rfl rfl
  have hescalated (u : State) (l : Latch) (n : Nat) : Recorded u (flagEscCe { u with flt := { u.flt with ce := l, escTotal := n } }) :=
    .of_eq (hbad := by simp) (hcnt := by simp)
  unfold reportCe
  simp only
  split
  · exact ((recordEv_recorded ..).trans (hlatch _ _)).trans (.ite _ (hflush _) (.refl _))
  · split
    · exact (recordEv_recorded ..).trans (hlatch _ _)
    · exact ((recordEv_recorded ..).trans (hescalated _ _ _)).trans (hflush _)

/-- A read answered at its port, before its latency is held against its bound. -/
def readAnswered (s : State) (p : Port) (tag : Nat) (cmp : Bool) (dln : Option Nat) (v : LineV) (lat : Nat) (f : RdFlags) (path : Path) : State :=
  let a : Attr := { port := some p.val, priv := some 0, ltn := dln.map ltnOf, cls := some 0 }
  let s := emit s (.drs p tag v.data v.p)
  let s := if cmp then emit s (.ndr p tag) else s
  let s := countPort s p.val 0 a
  let s := if v.p then countPort s p.val 10 a else s
  let s := if regF s .port p.val 24 9 0 < lat then countLate s p.val a f else s
  let s := if histTakes (regF s .port p.val 24 11 10) path f then addBin s (64 * p.val + if lat / 10 < 63 then lat / 10 else 63) else s
  modPort s p.val (fun x => { x with rdOut := x.rdOut - 1 })

theorem readAnswered_recorded (s : State) (p : Port) (tag : Nat) (cmp : Bool) (dln : Option Nat) (v : LineV) (lat : Nat) (f : RdFlags)
    (path : Path) : Recorded s (readAnswered s p tag cmp dln v lat f path) := by
  have hemit (u : State) (x : Out) : Recorded u (emit u x) := .of_eq
  have hcount (u : State) (k : Nat) (a : Attr) : Recorded u (countPort u p.val k a) := .of_eq
  have hlate (u : State) (a : Attr) : Recorded u (countLate u p.val a f) := .of_eq
  have hbin (u : State) (k : Nat) : Recorded u (addBin u k) := .of_eq
  have hport (u : State) (g : PortSt → PortSt) : Recorded u (modPort u p.val g) := .of_eq
  exact ((((((hemit _ _).trans (.ite _ (hemit _ _) (.refl _))).trans (hcount _ _ _)).trans (.ite _ (hcount _ _ _) (.refl _))).trans
    (.ite _ (hlate _ _) (.refl _))).trans (.ite _ (hbin _ _) (.refl _))).trans (hport _ _)

theorem answerHost_recorded (s : State) (p : Port) (tag : Nat) (cmp : Bool) (bound dln : Option Nat) (v : LineV) (lat : Nat) (f : RdFlags)
    (path : Path) : Recorded s (answerHost s p tag cmp bound dln v lat f path) := by
  have hreport (u : State) (x : Nat) : Recorded u (report u (srcPort p.val) 0x0101 0 x lat) :=
    Recorded.trans (t := countTotal u 0x0101) .of_eq (reportCe_recorded ..)
  refine (readAnswered_recorded s p tag cmp dln v lat f path).trans ?_
  cases bound with
  | none => exact .refl _
  | some b => exact .ite _ (hreport _ _) (.refl _)

theorem fenceHost_recorded (s : State) (p : Port) (tag : Nat) (part : Bool) (ltn : Nat) : Recorded s (fenceHost s p tag part ltn) := .of_eq

theorem fenceRead_recorded (s : State) (dln : Nat) (r : HostRd) (f : RdFlags) : Recorded s (fenceRead s dln r f) := by
  have hport (u : State) (g : PortSt → PortSt) : Recorded u (modPort u r.port.val g) := .of_eq
  exact (hport _ _).trans (answerHost_recorded ..)

theorem fenceWait_recorded (s : State) (w : WaitW) : Recorded s (fenceWait s w) := .of_eq

theorem fenceWaiter_recorded (s : State) (dln : Nat) (f : RdFlags) (w : Waiter) : Recorded s (fenceWaiter s dln f w) := by
  cases w with
  | host r => exact fenceRead_recorded ..
  | partialWr x => exact fenceWait_recorded ..
  | peerRd => exact .refl s

/-- Nothing waits for an answer any more. -/
def unadmitted (s : State) : State :=
  mapWaiters { s with cist := { s.cist with waits := [] }, pair := { s.pair with fwds := [], heldW := [], fwdRds := [] } } (fun _ _ => [])

theorem answerAdmitted_recorded (s : State) : Recorded s (answerAdmitted s) := by
  have hclear : Recorded s (unadmitted s) := .of_eq rfl rfl rfl rfl rfl rfl
  refine hclear.trans ?_
  refine .trans (.foldl fenceWait s.cist.waits fenceWait_recorded _) ?_
  refine .trans (.foldl _ s.med.senses (fun u x => .foldl _ x.waiters (fun u w => fenceWaiter_recorded u x.dln x.flags w) u) _) ?_
  refine .trans (.foldl _ s.cache.locks (fun u x => .foldl _ x.waiters (fun u w => fenceWaiter_recorded u x.dln flags0 w) u) _) ?_
  refine .trans (.foldl _ s.pair.fwds (fun u x => fenceHost_recorded u x.port x.tag (decide (x.be ≠ BitVec.allOnes 64)) (ltnOf x.dln)) _) ?_
  refine .trans (.foldl _ s.pair.heldW (fun u x => fenceHost_recorded u x.port x.tag (decide (x.be ≠ BitVec.allOnes 64)) (ltnOf x.dln)) _) ?_
  exact .foldl _ s.pair.fwdRds (fun u x => fenceRead_recorded u x.dln x.rd { flags0 with forward := true }) _

theorem fencedEvents_recorded (s : State) (entry : Bool) (ps : List Nat) : Recorded s (fencedEvents s entry ps) := by
  have hport (u : State) (p : Nat) (g : PortSt → PortSt) : Recorded u (modPort u p g) := .of_eq
  induction ps generalizing s with
  | nil => exact .refl s
  | cons p ps ih => exact ((noteEv_recorded ..).trans (hport _ _ _)).trans (ih _)

theorem ackMir_recorded (s : State) (mtag : Nat) : Recorded s (ackMir s mtag) := by
  have hsend : Recorded s (send s (.mirrorAck [mtag])) := .of_eq
  have howed (u : State) : Recorded u { u with pair := { u.pair with owedMir := u.pair.owedMir + 1 } } := .of_eq rfl rfl rfl rfl rfl rfl
  exact hsend.trans (.ite _ (howed _) (.refl _))

theorem ackInstalls_recorded (s : State) : Recorded s (ackInstalls s) := by
  refine .foldl _ _ (fun u w => ?_) s
  cases w.org with
  | mirror mtag => exact ackMir_recorded ..
  | host | peer | silent | internal | repair => exact .refl u

theorem storeSan_recorded (s : State) (q : Nat) (run : Bool) : Recorded s (storeSan s q run) := by
  have hpage (u : State) (n : Nat) (pg : Page) : Recorded u (setPage u n pg) := .of_eq
  have hpages := Recorded.foldl (fun s k => setPage s (pgKeys + k) (keyPage s k run)) (List.range 64) (fun u k => hpage u _ _) s
  exact (hpages.trans (waitingForStore_recorded _ q)).trans (startStore_recorded ..)

/-- A SANITIZE has begun (12 R386 step 1). -/
def sanitizeBegun (s : State) : State :=
  { s with
    cmds := { s.cmds with sanitizing := true, sanStep := 1 }
    sec := { s.sec with sanWells := s.tabs.wells, sanRetired := (s.tabs.tile.filter (fun x => decide (x.2 = 3))).map (·.1) } }

/-- What the first step of a SANITIZE does beside that: events, acknowledgements, answers and the store of SAN_RUN. -/
def sanitizeFirst (s : State) (q : Nat) : State :=
  storeSan (answerAdmitted (ackInstalls (fencedEvents (sanitizeBegun s) true (portsOn (sanitizeBegun s))))) q true

theorem sanitizeFirst_recorded (s : State) (q : Nat) : Recorded (sanitizeBegun s) (sanitizeFirst s q) :=
  (((fencedEvents_recorded ..).trans (ackInstalls_recorded _)).trans (answerAdmitted_recorded _)).trans (storeSan_recorded ..)

section
variable {s : State} {r : Running} {src : Src} {tag : BitVec 16}

/-- The one command that runs is the SANITIZE itself: it begins at once. -/
theorem sanitizeAdvance_of_begun : sanitizeAdvance (begun s r [] true) (begunTask s r []) = sanitizeFirst (begun s r [] true) s.pair.sseq := by
  have hstored : ¬(begunTask s r []).waitStore.isSome = true := Bool.false_ne_true
  have hfirst : (decide ((begun s r [] true).cmds.sanStep = 0) && !(begun s r [] true).cmds.sanitizing) = true := rfl
  have hsseq : (begunTask s r []).sseq = s.pair.sseq := rfl
  have hrun : (launchedRun s r).sseq = some s.pair.sseq := rfl
  have halone : ¬((begun s r [] true).cmds.tasks.any (fun x => decide (x.sseq ≠ (begunTask s r []).sseq))
      || (begun s r [] true).cmds.run.any (fun x => decide (x.sseq ≠ some (begunTask s r []).sseq)
        && !sanFree (descOf x.desc).opcode)) = true := by
    simp [hsseq, hrun]
  rw [sanitizeAdvance, if_neg hstored, if_pos hfirst, if_neg halone]
  rfl

theorem sanitizeF_ended (h : Issued s r src.val tag 0x10) (hrole : s.pair.role = .unpaired)
    (hcheck : checkStatus s r.src (sanitizeChecks s r (descOf r.desc)) = 0) :
    Ended (sanitizeFirst (begun s r [] true) s.pair.sseq) (sanitizeF s src.val tag) := by
  have hopcode := opcode_of_issued h
  have hrec := sanitizeFirst_recorded (begun s r [] true) s.pair.sseq
  have hunits : unitsOf (descOf r.desc) = [] := by
    unfold unitsOf
    rw [if_neg (by omega), if_neg (by omega), if_neg (by omega)]
  have htodo : (begunTask s r []).todo = [] := by simp [begunTask, launchedTask, hunits]
  have htreated : treated (begun s r [] true) s.pair.sseq (begunTask s r []) = sanitizeFirst (begun s r [] true) s.pair.sseq := by
    rw [treated, if_pos (show (begunTask s r []).op = 0x10 from hopcode), htodo]
    exact sanitizeAdvance_of_begun
  have hstep : (sanitizeFirst (begun s r [] true) s.pair.sseq).cmds.sanStep = 1 := hrec.sanStep
  refine cmdRow_of_units h hrole hcheck rfl (by simp) htreated hrec.run (by omega) (fun k => ?_)
  have hkeys : (sanitizeFirst (begun s r [] true) s.pair.sseq).keys = s.keys := by simp [sanitizeFirst, sanitizeBegun]
  rw [keyAt, hkeys]
  exact keyAt_of_noRotation (noRotation_of_issued h) k

end

/-- Once a descriptor has started with its unlock, that is armed no more. -/
theorem isArmed_of_begun {s t : State} {r : Running} {src : Src} (hsrc : r.src = src.val)
    (h : t.req.armed = (begun s r [] true).req.armed) : isArmed t (src.val % 8) = false :=
  isArmed_of_armed s t _ (hsrc ▸ h)

/-- Settles O41: each command is what its units do, whose lemmas say what they set, and then only ends. -/
theorem tilesFollowTheirCommands : Obligations.TilesFollowTheirCommands := by
  unfold Obligations.TilesFollowTheirCommands
  refine ⟨?_, ?_, ?_, ?_, ?_⟩
  · intro s r src tag h hrole hhand hhome hcheck hlen hroom hmove
    exact ⟨fillF s src.val tag, rfl, fillF_entry h hrole hhand hhome hcheck hlen hroom hmove⟩
  · intro s r src tag h hrole hhand hhome hcheck hlen hroom hmoves hways hents hhere hconst
    have hne := clone_tiles_ne hcheck hlen
    obtain ⟨hmap, hframes⟩ := cloneF_entries h hrole hhand hhome hcheck hlen hroom hmoves hways hents hhere hconst
    refine ⟨cloneF s src.val tag, rfl, ?_, ?_, hframes⟩
    · rw [entryAt, hmap, sGet_sSet_same]
    · rw [entryAt, hmap, sGet_sSet_other _ _ _ hne.symm]
      rfl
  · intro s r src tag ue k w h hrole hhand hhome hcheck hlen hwaits hhere hlock hup hway hp
    exact ⟨poisonClearF s src.val tag ue, rfl, _, poisonClearF_line h hrole hhand hhome hcheck hlen hwaits hhere hlock hup hway hp, rfl, rfl, rfl⟩
  · intro s r src tag h hrole hhand hhome hcheck hlen hroom
    obtain ⟨v, hun, harmed, hend⟩ := capacityReleaseF_ended h hrole hhand hhome hcheck hlen hroom
    obtain ⟨-, -, -, hsrc, -⟩ := h
    refine ⟨capacityReleaseF s src.val tag, rfl, ?_, isArmed_of_begun (s := s) hsrc (by rw [hend.req, harmed])⟩
    rw [entryAt, hend.tabs]
    exact hun
  · intro s r src tag h hrole hcheck
    have hend := sanitizeF_ended h hrole hcheck
    have hrec := sanitizeFirst_recorded (begun s r [] true) s.pair.sseq
    obtain ⟨-, -, -, hsrc, -⟩ := h
    refine ⟨sanitizeF s src.val tag, rfl, hend.sanitizing.trans hrec.sanitizing, hend.sanStep.trans hrec.sanStep, ?_⟩
    exact isArmed_of_begun (s := s) hsrc (by rw [hend.req]; exact hrec.armed)

end Sys2Proof.Proofs.Memory
end

section
/-! PROOF. The statements of the read path and its latency bound: resumed operations and the meters of a channel. -/

namespace Sys2Proof.Proofs.ReadPath

open Sys2Proof Sys2Proof.Machine Sys2Proof.Safety

/-! ## Resumed operations (03 R90; 06 R171) -/

/-- The operation once its partition resumes. -/
def resumed (die part : Nat) (o : Op) : Op := if o.die = die && o.part = part then { o with suspended := false } else o

theorem resumed_of_partition (o : Op) : resumed o.die o.part o = { o with suspended := false } := by
  simp [resumed]

theorem resumed_place (die part : Nat) (o : Op) : (resumed die part o).die = o.die ∧ (resumed die part o).part = o.part := by
  unfold resumed
  split
  · exact ⟨rfl, rfl⟩
  · exact ⟨rfl, rfl⟩

theorem programResumeF_of_read {s : State} {die part : Nat} (h : partitionRead s die part = true) : programResumeF s die part = s :=
  if_pos h

theorem programResumeF_of_no_read {s : State} {die part : Nat} (h : partitionRead s die part = false) :
    programResumeF s die part = { s with med := { s.med with ops := s.med.ops.map (resumed die part) } } :=
  if_neg (by simp [h])

theorem not_suspended_of_mem_resumed {die part : Nat} {ops : List Op} {o : Op} (h : o ∈ ops.map (resumed die part)) (hdie : o.die = die)
    (hpart : o.part = part) : o.suspended = false := by
  obtain ⟨x, -, rfl⟩ := List.mem_map.1 h
  obtain ⟨hxdie, hxpart⟩ := resumed_place die part x
  obtain rfl : x.die = die := hxdie.symm.trans hdie
  obtain rfl : x.part = part := hxpart.symm.trans hpart
  rw [resumed_of_partition]

/-! ## The meters of a channel (03 R82, R102) -/

theorem chanAt_modChan_same (s : State) (c : Nat) (f : Chan → Chan) : chanAt (modChan s c f) c = f (chanAt s c) := by
  rw [chanAt_modChan, if_pos rfl]

theorem chanAt_modChan_other (s : State) (f : Chan → Chan) {c q : Nat} (h : q ≠ c) : chanAt (modChan s c f) q = chanAt s q := by
  rw [chanAt_modChan, if_neg h.symm]

/-- The count of a load window as RD_WIN takes it, at most 1023. -/
def windowCount (x : Chan) : Nat := if x.winCnt < 1023 then x.winCnt else 1023

/-- A channel at the end of a load window, with the next window begun. -/
def windowEnded (x : Chan) : Chan := { x with rdWin := windowCount x, winCnt := 0 }

/-- Whether a count of `n` raises the load alarm of a channel (03 R103). -/
def loadAlarm (s : State) (c n : Nat) : Bool := regB s .channel c 9 10 && decide (regF s .channel c 9 9 0 < n) && !(chanAt s c).retired

theorem loadWindowEndF_of_within {s : State} {c : Nat} (h : s.pwr.time % 2000 ≠ 0) : loadWindowEndF s c = s :=
  if_pos h

theorem loadWindowEndF_of_end {s : State} {c : Nat} (h : s.pwr.time % 2000 = 0) : loadWindowEndF s c =
    if loadAlarm (modChan s c windowEnded) c (windowCount (chanAt s c)) then count (modChan s c windowEnded) (48 + c) attrNone
    else modChan s c windowEnded :=
  if_neg (not_not.2 h)

/-- Counting the alarm leaves the channels and the medium alone. -/
theorem loadWindowEndF_keeps {s : State} {c : Nat} (h : s.pwr.time % 2000 = 0) :
    (∀ q, chanAt (loadWindowEndF s c) q = chanAt (modChan s c windowEnded) q) ∧ (loadWindowEndF s c).med = s.med := by
  rw [loadWindowEndF_of_end h]
  split
  · exact ⟨chanAt_congr (by simp only [count_keeps]) (by simp only [count_keeps]), by simp only [count_keeps, modChan_med]⟩
  · exact ⟨fun _ => rfl, rfl⟩

/-- Settles O25: an operation resumes where no read waits, and a meter writes its own channel alone. -/
theorem channelsKeepTheirMeters : Obligations.ChannelsKeepTheirMeters := by
  unfold Obligations.ChannelsKeepTheirMeters
  refine ⟨?_, ?_, ?_, ?_, ?_⟩
  · intro s die part h
    exact ⟨programResumeF s die part, rfl, programResumeF_of_read h⟩
  · intro s die part h
    refine ⟨programResumeF s die part, rfl, ?_⟩
    rw [programResumeF_of_no_read h]
    exact ⟨fun o ho hdie hpart => not_suspended_of_mem_resumed ho hdie hpart, List.length_map _, rfl, rfl, rfl⟩
  · intro s c
    exact ⟨burstMeterSlotF s c.val, rfl, chanAt_modChan_same _ _ _, fun q hq => chanAt_modChan_other _ _ hq⟩
  · intro s c h
    exact ⟨loadWindowEndF s c.val, rfl, loadWindowEndF_of_within h⟩
  · intro s c h
    obtain ⟨hchans, hmed⟩ := loadWindowEndF_keeps (c := c.val) h
    have hchan : chanAt (loadWindowEndF s c.val) c.val = windowEnded (chanAt s c.val) := (hchans _).trans (chanAt_modChan_same _ _ _)
    refine ⟨loadWindowEndF s c.val, rfl, ?_, ?_, ?_, fun q hq => ?_, hmed⟩
    · rw [hchan, windowEnded, windowCount]
    · rw [hchan, windowEnded]
    · rw [hchan, windowEnded]
    · exact (hchans q).trans (chanAt_modChan_other _ _ hq)

end Sys2Proof.Proofs.ReadPath
end

section
/-! PROOF. The statements of the write path, the Cistern and the Pump: admission, resolution and cleaning of the lines of completed writes. -/

namespace Sys2Proof.Proofs.WritePath

open Sys2Proof Sys2Proof.Machine Sys2Proof.Safety
open Sys2Proof.Proofs.Memory hiding cleanWay

theorem findP_holds {α : Type} {p : α → Bool} {l : List α} {x : α} (h : findP p l = some x) : p x = true := by
  induction l with
  | nil => cases h
  | cons y l ih =>
    unfold findP at h
    split at h
    · next hy =>
      cases h
      exact hy
    · exact ih h

/-! ## Where settling changes nothing -/

theorem settle_of_not_service {s : State} (h : s.pwr.st ≠ .service) : settle s = s := if_pos h

theorem quiescent_congr {s t : State} (h : Quiescent s) (hcmds : t.cmds = s.cmds) (hsync : t.pair.syncing = s.pair.syncing)
    (hkeys : t.keys = s.keys) : Quiescent t := by
  obtain ⟨hidle, hnone, hrot⟩ := h
  exact ⟨hcmds.trans hidle, hsync.trans hnone, by rwa [NoRotation, hkeys]⟩

theorem hold_of_quiescent {s : State} (h : Quiescent s) : s.cmds.hold = [] := by
  obtain ⟨hidle, -, -⟩ := h
  rw [hidle]
  rfl

/-! ## What comparing with the stop level leaves as it was (04 R124) -/

/-- What the credit stop leaves alone beside the parts of State that it does not touch at all: the entries and the waiting writes of the Cistern and
the tile being synced; what has been sent stays sent. -/
structure CreditsOnly (s t : State) : Prop where
  ents : t.cist.ents = s.cist.ents
  waits : t.cist.waits = s.cist.waits
  syncing : t.pair.syncing = s.pair.syncing
  out : s.out ⊆ t.out

namespace CreditsOnly

theorem refl (s : State) : CreditsOnly s s := ⟨rfl, rfl, rfl, List.Subset.refl _⟩

theorem trans {s t u : State} (h : CreditsOnly s t) (k : CreditsOnly t u) : CreditsOnly s u :=
  ⟨k.ents.trans h.ents, k.waits.trans h.waits, k.syncing.trans h.syncing, List.Subset.trans h.out k.out⟩

end CreditsOnly

theorem payPort_creditsOnly (s : State) (p m : Nat) : CreditsOnly s (payPort s p m) := by
  constructor <;> simp [payPort]

theorem payAll_creditsOnly (s : State) : CreditsOnly s (payAll s) :=
  List.foldlRecOn (motive := CreditsOnly s) _ _ (.refl s) (fun _ h _ _ => h.trans (payPort_creditsOnly ..))

theorem resumeCredits_creditsOnly (s : State) : CreditsOnly s (resumeCredits s) := by
  unfold resumeCredits
  extract_lets paid
  have hpaid : CreditsOnly s paid := by
    unfold paid
    split
    · exact .refl s
    · exact payAll_creditsOnly s
  split
  · exact hpaid.trans ⟨rfl, rfl, rfl, List.subset_append_left _ _⟩
  · exact hpaid

theorem evalStop_creditsOnly (s : State) : CreditsOnly s (evalStop s) := by
  unfold evalStop
  simp only
  split
  · constructor <;> simp
  · split
    · have hkept : CreditsOnly s { s with cist := { s.cist with creditStop := false } } := ⟨rfl, rfl, rfl, List.Subset.refl _⟩
      exact hkept.trans (resumeCredits_creditsOnly _)
    · exact .refl s

theorem quiescent_evalStop {s : State} (h : Quiescent s) : Quiescent (evalStop s) :=
  quiescent_congr h (by simp) (evalStop_creditsOnly s).syncing (by simp)

theorem findWay_evalStop (s : State) (dln : Nat) : findWay (evalStop s) dln = findWay s dln := by
  simp [findWay]

/-! ## Admission of waiting writes (04 R134) -/

theorem writeAdmitF_of_not_service {s : State} {n : Nat} (h : s.pwr.st ≠ .service) : writeAdmitF s n = s := if_neg h

theorem sliceWaits_of_no_waits {s : State} (n : Nat) (h : s.cist.waits = []) : sliceWaits s n = [] := by
  simp [sliceWaits, h]

/-- Where no write waits, the round passes every requester by. -/
theorem admitRound_of_no_waits {s : State} {n : Nat} (h : sliceWaits s n = []) (k turn used : Nat) : admitRound s n k turn used = none := by
  induction k generalizing turn used with
  | zero => rfl
  | succ k ih => simp [admitRound, h, findP, ih]

theorem writeAdmitF_of_no_waits {s : State} {n : Nat} (h : s.cist.waits = []) : writeAdmitF s n = s := by
  have hwaits := sliceWaits_of_no_waits n h
  simp [writeAdmitF, hwaits, admitOwn, admitRound_of_no_waits hwaits]

/-- A write that a port asked for is not one of the module's own. -/
theorem admitOwn_of_requester {w : WaitW} (s : State) (seen : List Nat) (h : (requesterOf w).isSome = true) : admitOwn s seen [w] = none := by
  simp [admitOwn, h]

/-- The state with the turn of a slice's round. -/
def withTurn (s : State) (n turn used : Nat) : State := { s with cist := { s.cist with rr := sSet (0, 0) s.cist.rr n (turn, used) } }

/-- Whose turn it is touches the Cistern's round alone. -/
@[simp] theorem withTurn_keeps (s : State) (n turn used : Nat) : (withTurn s n turn used).cist.waits = s.cist.waits ∧
    (withTurn s n turn used).out = s.out ∧ (withTurn s n turn used).tabs = s.tabs ∧ (withTurn s n turn used).cmds = s.cmds ∧
    (withTurn s n turn used).pair = s.pair ∧ (withTurn s n turn used).keys = s.keys ∧ (withTurn s n turn used).cache = s.cache :=
  ⟨rfl, rfl, rfl, rfl, rfl, rfl, rfl⟩

theorem quiescent_withTurn {s : State} (h : Quiescent s) (n turn used : Nat) : Quiescent (withTurn s n turn used) :=
  quiescent_congr h (by simp) (by simp) (by simp)

theorem findWay_withTurn (s : State) (n turn used dln : Nat) : findWay (withTurn s n turn used) dln = findWay s dln := by
  simp [findWay]

/-- The requester in turn, below its weight and with a write that can be admitted, is served. -/
theorem admitRound_of_turn {s t : State} {n k turn used : Nat} {w : WaitW} (hweight : used < rrWeight s turn)
    (hhead : findP (fun w => decide (requesterOf w = some turn)) (sliceWaits s n) = some w) (hadmit : tryAdmit s w = some t) :
    admitRound s n (k + 1) turn used = some (withTurn t n turn (used + 1)) := by
  simp only [admitRound, if_neg (Nat.not_le.2 hweight), hhead, hadmit]
  rfl

/-- The only write that waits in the slice of the requester in turn is admitted. -/
theorem writeAdmitF_of_turn {s t : State} {n turn : Nat} {w : WaitW} (hst : s.pwr.st = .service) (hwaits : s.cist.waits = [w])
    (hslice : sliceOf s.cache w.dln = n) (hreq : requesterOf w = some turn) (hturn : sGet (0, 0) s.cist.rr n = (turn, 0))
    (hweight : 0 < rrWeight s turn) (hadmit : tryAdmit s w = some t) : writeAdmitF s n = withTurn t n turn 1 := by
  have hlist : sliceWaits s n = [w] := by simp [sliceWaits, hwaits, hslice]
  have hround : admitRound s n (8 + 1) turn 0 = some (withTurn t n turn (0 + 1)) :=
    admitRound_of_turn hweight (by simp [hlist, findP, hreq]) hadmit
  simp only [writeAdmitF, if_pos hst, hlist, admitOwn_of_requester s [] (by simp [hreq] : (requesterOf w).isSome = true), hturn, hround,
    Option.getD_some]

/-- The state without a write that waited. -/
def withoutWait (s : State) (w : WaitW) : State :=
  { s with cist := { s.cist with waits := dropFirst (fun x => decide (x = w)) s.cist.waits } }

theorem tryAdmit_of_no_hold {s : State} (w : WaitW) (h : s.cmds.hold = []) : tryAdmit s w = admitWrite (withoutWait s w) w := by
  simp [tryAdmit, h, withoutWait]

/-- A full-line write whose line's lock is free and whose arrays show no error is applied at once, and takes nothing of the old line (02 R77). -/
theorem admitWrite_of_full_line {s : State} {w : WaitW} (hlock : lockHeld s w.dln = false) (hup : s.cache.upset = [])
    (hbe : w.be = BitVec.allOnes 64) : admitWrite s w = applyWrite s w (mergeV (cleanLine 0) w) false := by
  have hcheck : checkWrite s w = s := by
    unfold checkWrite
    split
    · rw [if_pos hbe, checkTag_of_no_upset s _ hup]
    · rfl
  simp [admitWrite, hlock, hcheck, hbe]

/-- The state once a host's write is applied to its line in way `k` and completed at its port, in a role that mirrors nothing. -/
def hostWritten (s : State) (w : WaitW) (p : Port) (tag k : Nat) (x : WayT) : State :=
  evalStop (finishHost (lineWritten (withWritten s k x) w.dln) p tag w.part (ltnOf w.dln))

/-- The state once the bitmap of SOLO or RESYNC has taken an applied write (10 R325, R337). -/
def bitmapNoted (s : State) (w : WaitW) : State :=
  if marksBitmap s w.org then { s with pair := { s.pair with bitmap := sSet false s.pair.bitmap (ltnOf w.dln) true } } else s

theorem bitmapNoted_of_unpaired {s : State} (w : WaitW) (h : s.pair.role = .unpaired) : bitmapNoted s w = s := by
  simp [bitmapNoted, marksBitmap_of_unpaired s w.org h]

theorem finishLocal_of_host {s : State} (p : Port) (tag : Nat) (part : Bool) (dln : Nat) (h : s.pair.role = .unpaired) :
    finishLocal s (.host p tag) part dln = finishHost s p tag part (ltnOf dln) := by
  simp [finishLocal, finishOrHold, h]

/-- A host's write in UNPAIRED is applied to the way that holds its line and completes at its port (04 R105). -/
theorem applyWrite_of_host {s : State} {w : WaitW} {p : Port} {tag k : Nat} {old : WayT} (v : LineV) (hrole : s.pair.role = .unpaired)
    (horg : w.org = .host p tag) (hway : findWay s w.dln = some (k, old)) :
    applyWrite s w v false = some (hostWritten s w p tag k (writtenWay s w.dln old v)) := by
  have hmirror : mirroring s = false := by simp [mirroring, hrole]
  have hrepair : isRepair w = false := by simp [isRepair, horg]
  have hkept : (lineWritten (withWritten s k (writtenWay s w.dln old v)) w.dln).pair.role = .unpaired := by
    simpa [lineWritten, voidRepairs, withWritten] using hrole
  have happly : applyWrite s w v false =
      some (evalStop (finishLocal (bitmapNoted (lineWritten (withWritten s k (writtenWay s w.dln old v)) w.dln) w) w.org w.part w.dln)) := by
    simp only [applyWrite, hmirror, storeLine_of_way s w.dln k old v hway, hrepair]
    rfl
  rw [happly, bitmapNoted_of_unpaired w hkept, horg, finishLocal_of_host p tag w.part w.dln hkept]
  rfl

theorem returnCredit_waits (s : State) (p : Nat) : (returnCredit s p).cist.waits = s.cist.waits := by
  unfold returnCredit
  simp only
  split
  · rfl
  · simp

/-- A write that completes at its port answers there, and leaves the waiting writes alone. -/
theorem finishHost_answers (s : State) (p : Port) (tag : Nat) (part : Bool) (ltn : Nat) :
    (finishHost s p tag part ltn).out = s.out ++ [Out.ndr p tag] ∧ (finishHost s p tag part ltn).cist.waits = s.cist.waits := by
  simp [finishHost, returnCredit_waits]

theorem lineWritten_waits {s : State} (dln : Nat) (h : s.cist.waits = []) : (lineWritten s dln).cist.waits = [] := by
  simp [lineWritten, voidRepairs, mapWaiters, h]

/-- Where no other write waited, a write that is applied has answered its port, and none waits. -/
theorem hostWritten_spec {s : State} (w : WaitW) (p : Port) (tag k : Nat) (x : WayT) (hwaits : s.cist.waits = []) :
    (hostWritten s w p tag k x).cist.waits = [] ∧ .ndr p tag ∈ (hostWritten s w p tag k x).out ∧
    (hostWritten s w p tag k x).tabs = s.tabs := by
  have hstop := evalStop_creditsOnly (finishHost (lineWritten (withWritten s k x) w.dln) p tag w.part (ltnOf w.dln))
  obtain ⟨hout, hleft⟩ := finishHost_answers (lineWritten (withWritten s k x) w.dln) p tag w.part (ltnOf w.dln)
  refine ⟨?_, hstop.out (by simp [hout]), by simp [hostWritten, lineWritten, withWritten]⟩
  exact (hstop.waits.trans hleft).trans (lineWritten_waits (s := withWritten s k x) w.dln hwaits)

theorem findWay_hostWritten {s : State} {w : WaitW} {k : Nat} {old : WayT} (p : Port) (tag : Nat) (v : LineV)
    (hway : findWay s w.dln = some (k, old)) :
    findWay (hostWritten s w p tag k (writtenWay s w.dln old v)) w.dln = some (k, writtenWay s w.dln old v) := by
  have hline := findWay_lineWritten s w.dln k old v hway
  rw [findWay_evalStop] at hline
  rw [hostWritten, findWay_evalStop, ← hline]
  simp [findWay]

theorem quiescent_hostWritten {s : State} (h : Quiescent s) (w : WaitW) (p : Port) (tag k : Nat) (x : WayT) :
    Quiescent (hostWritten s w p tag k x) :=
  quiescent_evalStop (quiescent_congr h (by simp [lineWritten, withWritten]) (by simp [lineWritten, voidRepairs, withWritten])
    (by simp [lineWritten, withWritten]))

/-- The state once a host's full-line write that waited is admitted to way `k`, which held the line as `old`. -/
def hostAdmitted (s : State) (w : WaitW) (p : Port) (tag k : Nat) (old : WayT) : State :=
  hostWritten (withoutWait s w) w p tag k (writtenWay (withoutWait s w) w.dln old (mergeV (cleanLine 0) w))

theorem tryAdmit_of_host {s : State} {w : WaitW} {p : Port} {tag k : Nat} {old : WayT} (hhold : s.cmds.hold = [])
    (hrole : s.pair.role = .unpaired) (hlock : lockHeld s w.dln = false) (hup : s.cache.upset = []) (horg : w.org = .host p tag)
    (hbe : w.be = BitVec.allOnes 64) (hway : findWay s w.dln = some (k, old)) : tryAdmit s w = some (hostAdmitted s w p tag k old) := by
  rw [tryAdmit_of_no_hold w hhold, admitWrite_of_full_line (s := withoutWait s w) hlock hup hbe]
  exact applyWrite_of_host (s := withoutWait s w) _ hrole horg hway

theorem hostAdmitted_spec {s : State} {w : WaitW} (p : Port) (tag k : Nat) (old : WayT) (hwaits : s.cist.waits = [w]) :
    (hostAdmitted s w p tag k old).cist.waits = [] ∧ .ndr p tag ∈ (hostAdmitted s w p tag k old).out ∧
    (hostAdmitted s w p tag k old).tabs = s.tabs :=
  hostWritten_spec (s := withoutWait s w) w p tag k _ (by simp [withoutWait, hwaits, dropFirst])

/-- The admitted line stands in its way with the data of the write. -/
theorem findWay_hostAdmitted {s : State} {w : WaitW} {k : Nat} {old : WayT} (p : Port) (tag : Nat)
    (hway : findWay s w.dln = some (k, old)) : findWay (hostAdmitted s w p tag k old) w.dln =
      some (k, writtenWay (withoutWait s w) w.dln old (mergeV (cleanLine 0) w)) :=
  findWay_hostWritten (s := withoutWait s w) p tag _ hway

theorem quiescent_hostAdmitted {s : State} (h : Quiescent s) (w : WaitW) (p : Port) (tag k : Nat) (old : WayT) :
    Quiescent (hostAdmitted s w p tag k old) :=
  quiescent_hostWritten (s := withoutWait s w) h w p tag k _

/-! ## Die resolution (04 R122) -/

theorem dieResolveF_of_no_way {s : State} {dln : Nat} (h : findWay s dln = none) : dieResolveF s dln = s := by
  simp [dieResolveF, h]

/-- A dirty line of a MAPPED tile that no move carries takes the die that the tile's entry names. -/
theorem dieResolveF_of_mapped {s : State} {dln k : Nat} {w : WayT} (hst : s.pwr.st = .service) (hway : findWay s dln = some (k, w))
    (hdirty : dirtyW w = true) (hdk : w.dk = false) (hroom : tailFull s = false) (hhere : pageHere s (pageOf (ltnOf dln)) = true)
    (hcarrier : carrierOf s (ltnOf dln) = none) (hmapped : (entryAt s (ltnOf dln)).st = .mapped) :
    dieResolveF s dln = setDie s dln (ptnDieIx (entryAt s (ltnOf dln)).ptn.toNat) := by
  simp [dieResolveF, hway, hdirty, hdk, hst, hroom, hhere, hcarrier, hmapped]

/-- The state once the line of way `k` knows its die. -/
def dieNamed (s : State) (k : Nat) (w : WayT) (die : Nat) : State := evalStop (setWay s k { w with dk := true, die := die })

theorem setDie_of_way {s : State} {dln k : Nat} {w : WayT} (die : Nat) (hway : findWay s dln = some (k, w)) :
    setDie s dln die = dieNamed s k w die := by
  simp [setDie, hway, dieNamed]

/-- A line whose way is replaced by a valid one that holds it stands in the new way. -/
theorem findWay_setWay {s : State} {dln k : Nat} {w x : WayT} (hway : findWay s dln = some (k, w)) (hv : x.v = true) (hdln : x.dln = dln) :
    findWay (setWay s k x) dln = some (k, x) := by
  have hne : x ≠ wayInit := by
    rintro rfl
    cases hv
  rw [findWay, setWay_cache, sSet, if_neg hne]
  exact findP_sIns _ k x w _ hway (by simp [hv, hdln])

theorem findWay_holds {s : State} {dln k : Nat} {w : WayT} (h : findWay s dln = some (k, w)) : w.v = true ∧ w.dln = dln := by
  simpa using findP_holds h

/-! ## Cleaning (04 R125; 05 R151, R161) -/

/-- A way that holds a dirty line. -/
def Dirty (w : WayT) : Prop := w.v = true ∧ dirtyW w = true

/-- The oldest dirty line is one of the lines compared. -/
theorem oldestDirty_dirty {s : State} {die k : Nat} {w : WayT} (h : oldestDirty s die = some (k, w)) : Dirty w := by
  refine List.foldlRecOn (motive := fun b => ∀ x, b = some x → Dirty x.2) _ _ (fun _ hnone => by cases hnone) ?_ (k, w) h
  intro b hb y hy x hx
  have hdirty : Dirty y.2 := by
    have hline := (List.mem_filter.1 hy).2
    simp only [Bool.and_eq_true] at hline
    obtain ⟨⟨⟨⟨hv, hd⟩, -⟩, -⟩, -⟩ := hline
    exact ⟨hv, hd⟩
  split at hx
  · cases hx
    exact hdirty
  · split at hx
    · cases hx
      exact hdirty
    · exact hb x hx

theorem nextDirty_dirty {s : State} {die k : Nat} {w : WayT} (h : nextDirty s die = some (k, w)) : Dirty w := by
  have hline := findP_holds h
  simp only [Bool.and_eq_true] at hline
  obtain ⟨⟨⟨hv, hd⟩, -⟩, -⟩ := hline
  exact ⟨hv, hd⟩

theorem exec_cleaning_of_no_upset (s : State) (die : Nat) : exec (.cleaning die []) s = .next (settle (cleaningF s die)) := rfl

theorem cleaningF_of_no_line {s : State} {die : Nat} (hst : s.pwr.st ≠ .drain) (h : oldestDirty s die = none) : cleaningF s die = s := by
  simp [cleaningF, hst, h]

theorem cleaningF_of_walk_ended {s : State} {die : Nat} (hst : s.pwr.st = .drain) (h : nextDirty s die = none) : cleaningF s die = s := by
  simp [cleaningF, hst, h]

theorem cleaningF_of_stop_level {s : State} {die k : Nat} {w : WayT} (hst : s.pwr.st = .service) (hroom : hasRoom s die = true)
    (hstop : stopLevel s ≤ dirtyOf s die) (hline : oldestDirty s die = some (k, w)) : cleaningF s die = cleanWay s k := by
  simp [cleaningF, hst, hroom, hstop, hline]

theorem freeLock_of_no_locks {s : State} (dln : Nat) (maint : Bool) (h : s.cache.locks = []) : freeLock s dln maint = s := by
  simp [freeLock, h, findP]

theorem cleaningF_of_walk {s : State} {die k : Nat} {w : WayT} (hst : s.pwr.st = .drain) (hline : nextDirty s die = some (k, w))
    (hlocks : (cleanWay s k).cache.locks = []) : cleaningF s die = cleanWay s k := by
  simp [cleaningF, hst, hline, freeLock_of_no_locks _ _ hlocks]

/-- The content of a way's line. -/
def wayLine (w : WayT) : LineV := { data := w.data, p := w.p, pcause := w.pcause }

/-- A line of a MAPPED tile that is not worn enters the Cistern as it is (04 R115). -/
theorem handOff_of_mapped {s : State} {dln : Nat} (v : LineV) (hworn : wornOut s (ltnOf dln) = false)
    (hmapped : (entryAt s (ltnOf dln)).st = .mapped) : handOff s dln v = (enterCistern s dln v, v) := by
  simp [handOff, hworn, hmapped]

/-- The state once the line of way `k` has entered the Cistern and is clean in its way. -/
def wayCleaned (s : State) (k : Nat) (w : WayT) : State := evalStop (setWay (enterCistern s w.dln (wayLine w)) k (setD w false))

theorem cleanWay_of_mapped {s : State} {k : Nat} {w : WayT} (hdirty : Dirty w) (hway : sGet wayInit s.cache.ways k = w)
    (hup : s.cache.upset = []) (hworn : wornOut s (ltnOf w.dln) = false) (hmapped : (entryAt s (ltnOf w.dln)).st = .mapped) :
    cleanWay s k = wayCleaned s k w := by
  obtain ⟨hv, hd⟩ := hdirty
  have hfound : (w.v && dirtyW w) = true := by simp [hv, hd]
  have hhand := handOff_of_mapped (wayLine w) hworn hmapped
  unfold wayLine at hhand
  simp only [cleanWay, checkWay_of_no_upset s k hup, hway, hfound, if_true, hhand]
  rfl

/-- What an entry of the Cistern holds of a line that has just entered. -/
structure HoldsLine (e : Cis) (dln : Nat) (v : LineV) (direct : Bool) : Prop where
  dln : e.dln = dln
  data : e.data = v.data
  p : e.p = v.p
  prog : e.prog = false
  direct : e.direct = direct

theorem linkCis_ents (c : Cist) (e : Cis) : ∃ n, (linkCis c e).ents = c.ents ++ [{ e with next := n }] := by
  unfold linkCis
  split
  · exact ⟨_, rfl⟩
  · exact ⟨_, rfl⟩

/-- A line that the Cistern does not hold takes a new entry, without a slot in the Drain (05 R161). -/
theorem enterCistern_of_absent {s : State} {dln : Nat} (v : LineV) (h : findCis s dln = none) :
    ∃ e, (enterCistern s dln v).cist.ents = s.cist.ents ++ [e] ∧ HoldsLine e dln v (decide (s.pwr.st = .drain)) := by
  simp only [enterCistern, h, enterCistern.addSlot, flagFull_keeps]
  obtain ⟨n, hn⟩ := linkCis_ents s.cist _
  exact ⟨_, hn, rfl, rfl, rfl, rfl, rfl⟩

/-- Cleaning a way leaves its line valid and clean, and the Cistern holds the line (05 R151). -/
theorem wayCleaned_spec {s : State} {w : WayT} (k : Nat) (h : findCis s w.dln = none) :
    sGet wayInit (wayCleaned s k w).cache.ways k = setD w false ∧ (wayCleaned s k w).tabs = s.tabs ∧ (wayCleaned s k w).med = s.med ∧
    ∃ e, (wayCleaned s k w).cist.ents = s.cist.ents ++ [e] ∧ HoldsLine e w.dln (wayLine w) (decide (s.pwr.st = .drain)) := by
  obtain ⟨e, hents, he⟩ := enterCistern_of_absent (wayLine w) h
  have hkept := (evalStop_creditsOnly (setWay (enterCistern s w.dln (wayLine w)) k (setD w false))).ents
  exact ⟨by simp [wayCleaned], by simp [wayCleaned], by simp [wayCleaned], e, hkept.trans hents, he⟩

theorem quiescent_wayCleaned {s : State} (h : Quiescent s) (k : Nat) (w : WayT) : Quiescent (wayCleaned s k w) :=
  quiescent_evalStop (quiescent_congr h (by simp) (by simp) (by simp))

/-- Settles O26: each command is brought to the one operation it does, and that operation's lemma says what it leaves; where the module is not
quiescent it is not in SERVICE, and settling changes nothing. -/
theorem dirtyLinesReachTheCistern : Obligations.DirtyLinesReachTheCistern := by
  unfold Obligations.DirtyLinesReachTheCistern
  refine ⟨?_, ?_, ?_, ?_, ?_, ?_, ?_, ?_, ?_⟩
  · intro s n hst
    exact ⟨_, rfl, by rw [writeAdmitF_of_not_service hst, settle_of_not_service hst]⟩
  · intro s n hwaits hq
    exact ⟨_, rfl, by rw [writeAdmitF_of_no_waits hwaits, settle_idle s hq]⟩
  · intro s n w p tag k old hst hq hwaits hslice horg hbe hturn hweight hrole hlock hup hway
    have hadmit := tryAdmit_of_host (hold_of_quiescent hq) hrole hlock hup horg hbe hway
    obtain ⟨hnone, hndr, htabs⟩ := hostAdmitted_spec p tag k old hwaits
    have hline := findWay_hostAdmitted p tag hway
    refine ⟨_, rfl, ?_⟩
    rw [writeAdmitF_of_turn hst hwaits hslice (by simp [requesterOf, horg]) hturn hweight hadmit,
      settle_idle _ (quiescent_withTurn (quiescent_hostAdmitted hq w p tag k old) _ _ _)]
    exact ⟨by simp [hnone], by simp [hndr], by simp [htabs], _, (findWay_withTurn ..).trans hline, by simp [writtenWay, mergeV, hbe], rfl⟩
  · intro s dln hway hq
    exact ⟨_, rfl, by rw [dieResolveF_of_no_way hway, settle_idle s hq]⟩
  · intro s dln k w hst hq hway hdirty hdk hroom hhere hcarrier hmapped
    obtain ⟨hv, hdln⟩ := findWay_holds hway
    have hquiet : Quiescent (dieNamed s k w (ptnDieIx (entryAt s (ltnOf dln)).ptn.toNat)) :=
      quiescent_evalStop (quiescent_congr hq rfl rfl rfl)
    refine ⟨_, rfl, ?_⟩
    rw [dieResolveF_of_mapped hst hway hdirty hdk hroom hhere hcarrier hmapped, setDie_of_way _ hway, settle_idle _ hquiet]
    exact ⟨(findWay_evalStop _ _).trans (findWay_setWay hway hv hdln), by simp [dieNamed], by simp [dieNamed]⟩
  · intro s die hst hline hq
    exact ⟨_, exec_cleaning_of_no_upset s die, by rw [cleaningF_of_no_line hst hline, settle_idle s hq]⟩
  · intro s die hst hline
    exact ⟨_, exec_cleaning_of_no_upset s die, by rw [cleaningF_of_walk_ended hst hline, settle_of_not_service (by simp [hst])]⟩
  · intro s die k w hst hq hroom hstop hline hway hup hcis hworn hmapped
    refine ⟨wayCleaned s k w, ?_, ?_⟩
    · rw [exec_cleaning_of_no_upset, cleaningF_of_stop_level hst hroom hstop hline,
        cleanWay_of_mapped (oldestDirty_dirty hline) hway hup hworn hmapped, settle_idle _ (quiescent_wayCleaned hq k w)]
    · obtain ⟨hclean, htabs, hmed, e, hents, he⟩ := wayCleaned_spec k hcis
      exact ⟨hclean, htabs, hmed, e, hents, he.dln, he.data, he.p, he.prog, by simp [he.direct, hst]⟩
  · intro s die k w hst hline hway hup hlocks hcis hworn hmapped
    have hcleaned := cleanWay_of_mapped (nextDirty_dirty hline) hway hup hworn hmapped
    refine ⟨wayCleaned s k w, ?_, ?_⟩
    · rw [exec_cleaning_of_no_upset, cleaningF_of_walk hst hline (by simp [hcleaned, wayCleaned, hlocks]), hcleaned,
        settle_of_not_service (by simp [wayCleaned, hst])]
    · obtain ⟨hclean, htabs, hmed, e, hents, he⟩ := wayCleaned_spec k hcis
      exact ⟨hclean, htabs, hmed, e, hents, he.dln, he.data, he.p, he.prog, by simp [he.direct, hst]⟩

end Sys2Proof.Proofs.WritePath
end

section
/-! PROOF. The statements of the line cache's file: dumps, fuses, entropy tests and ways in disable. -/

namespace Sys2Proof.Proofs.LineCache

open Sys2Proof Sys2Proof.Machine Sys2Proof.Safety
open Sys2Proof.Proofs.Memory (checkTag_of_no_upset)
open Sys2Proof.Proofs.WritePath (quiescent_congr)

/-! ## Dumps (15 R451, R452) -/

theorem dumpBoundaryF_of_disabled {s : State} (ok : Bool) (h : regB s .quartz 0 11 0 = false) : dumpBoundaryF s ok = s := by
  simp [dumpBoundaryF, h]

/-- At a boundary where no setting waits, a record is written or lost. -/
theorem dumpBoundaryF_of_nothing_pending {s : State} (ok : Bool) (hst : s.pwr.st = .service) (hen : regB s .quartz 0 11 0 = true)
    (htime : now s % (regF s .quartz 0 12 9 0 * 1000000) = 0) (hpend : applyDump s = s) :
    dumpBoundaryF s ok = dumpWrite s (filterWaits s) ok := by
  simp [dumpBoundaryF, hst, hen, htime, hpend]

/-- Whether the dump ring has no slot left for a record. -/
def DumpRingFull (s : State) : Prop := (s.qz.dumpTail + 1) % dumpSlots s = regF s .quartz 0 16 7 0 % dumpSlots s

/-- The dump unit once a record has entered the ring. -/
def dumpEntered (s : State) : Quartz :=
  { s.qz with dumpTail := (s.qz.dumpTail + 1) % dumpSlots s, lostSince := 0, dseq := (s.qz.dseq + 1) % 2 ^ 40 }

/-- The dump unit once a record is lost to a full ring. -/
def dumpLost (s : State) : Quartz :=
  { s.qz with lost := satAdd 0xFFFFF s.qz.lost 1, lostSince := satAdd 255 s.qz.lostSince 1, dseq := (s.qz.dseq + 1) % 2 ^ 40 }

theorem dumpWrite_of_room {s : State} (fchg : Bool) (h : ¬ DumpRingFull s) :
    (dumpWrite s fchg true).qz = dumpEntered s ∧
    .msix (regF s .quartz 0 11 2 1) (regF s .quartz 0 11 6 3) ∈ (dumpWrite s fchg true).out := by
  have hwrite : dumpWrite s fchg true = emit { (emit s (.dma (regF s .quartz 0 11 2 1) (dumpBase s + s.qz.dumpTail * 4416)
      (dumpRecord s false fchg))) with qz := dumpEntered s } (.msix (regF s .quartz 0 11 2 1) (regF s .quartz 0 11 6 3)) := if_neg h
  simp [hwrite]

theorem dumpWrite_of_full {s : State} (fchg ok : Bool) (h : DumpRingFull s) :
    (dumpWrite s fchg ok).qz = dumpLost s ∧ (dumpWrite s fchg ok).out = s.out := by
  have hwrite : dumpWrite s fchg ok = flagDump { s with qz := dumpLost s } 1 := if_pos h
  simp [hwrite]

/-! ## Fuses (20 R551, R552) -/

theorem fuseBlowF_of_no_advance {s : State} (ok : Bool) (h : s.sec.blowing = false) : fuseBlowF s ok = s := by
  simp [fuseBlowF, h]

/-- A fuse that reads back raises F by one, and the advance goes on until F is the active SVN. -/
theorem fuseBlowF_of_read_back {s : State} (hst : s.pwr.st = .service) (hblow : s.sec.blowing = true) (hf : s.sec.f < s.sec.active.svn) :
    (fuseBlowF s true).sec = { s.sec with f := s.sec.f + 1, blowing := decide (s.sec.f + 1 < s.sec.active.svn) } ∧
    (fuseBlowF s true).tabs = s.tabs := by
  by_cases hend : s.sec.active.svn ≤ s.sec.f + 1
  · simp [fuseBlowF, hst, hblow, hf, hend, Nat.not_lt.2 hend]
  · simp [fuseBlowF, hst, hblow, hf, hend, Nat.not_le.1 hend]

/-- A fuse that does not read back ends the advance where it stands. -/
theorem fuseBlowF_of_failed {s : State} (hst : s.pwr.st = .service) (hblow : s.sec.blowing = true) (hf : s.sec.f < s.sec.active.svn) :
    (fuseBlowF s false).sec = { s.sec with blowing := false } := by
  simp [fuseBlowF, hst, hblow, hf]

/-! ## Entropy tests (20 R546) -/

theorem entropyTestFailF_of_off {s : State} (h : domOn s 1 = false) : entropyTestFailF s = s := by
  simp [entropyTestFailF, h]

theorem entropyTestPassF_of_off {s : State} (h : domOn s 1 = false) : entropyTestPassF s = s := by
  simp [entropyTestPassF, h]

theorem entropyTestFailF_of_on {s : State} (h : domOn s 1 = true) :
    (entropyTestFailF s).sec = { s.sec with entropyOk := false, fails := satAdd 0xFFFFF s.sec.fails 1 } ∧
    (entropyTestFailF s).keys = s.keys := by
  simp [entropyTestFailF, h]

/-- Where no rotation was deferred, a passed test starts none. -/
theorem entropyTestPassF_of_none_deferred {s : State} (h : domOn s 1 = true) (hdef : s.keys.deferred = []) :
    entropyTestPassF s = { s with sec := { s.sec with entropyOk := true } } := by
  have hkeys : { s.keys with deferred := [] } = s.keys := by rw [← hdef]
  simp [entropyTestPassF, h, hdef, hkeys]

/-! ## Ways in disable (05 R158) -/

theorem exec_wayDisable_of_no_upset (s : State) (n : Slice) : exec (.wayDisable n []) s = .next (settle (wayDisableF s n.val)) := rfl

theorem wayDisableF_of_none {s : State} {n : Nat} (h : (sliceAt s n).disabling = []) : wayDisableF s n = s := by
  simp [wayDisableF, h]

/-- Maintenance does not hold a lock that nothing holds. -/
theorem maintHolds_of_free {s : State} {dln : Nat} (maint : Bool) (h : lockHeld s dln = false) : maintHolds s dln maint = false := by
  obtain ⟨-, hlocks⟩ := Bool.or_eq_false_iff.1 h
  have hnone : s.cache.locks.any (fun l => decide (l.dln = dln) && (l.maint == maint)) = false := by
    simp only [List.any_eq_false, decide_eq_true_eq, Bool.and_eq_true] at hlocks ⊢
    exact fun l hl hheld => hlocks l hl hheld.1
  simp [maintHolds, hnone]

/-- The slice once way `w` in disable is treated up to the set of index `k`. -/
def disabledTo (w k : Nat) (x : SliceT) : SliceT :=
  { x with disabling := modFirst (fun z => decide (z.1 = w)) (fun z => (z.1, k / 16 % 16384)) x.disabling }

/-- The state once the line at index `k` is invalidated for way `w` of slice `n` in disable. -/
def lineDisabled (s : State) (n w k : Nat) : State := modSlice (setWay s k wayInit) n (disabledTo w k)

@[simp] theorem nextOfWay_modSlice (s : State) (m : Nat) (f : SliceT → SliceT) (n w set : Nat) :
    nextOfWay (modSlice s m f) n w set = nextOfWay s n w set := rfl

/-- Invalidating a line touches its way and its slice alone. -/
@[simp] theorem lineDisabled_keeps (s : State) (n w k : Nat) :
    (lineDisabled s n w k).cache.ways = sSet wayInit s.cache.ways k wayInit ∧ (lineDisabled s n w k).cist = s.cist ∧
    (lineDisabled s n w k).tabs = s.tabs ∧ (lineDisabled s n w k).cmds = s.cmds ∧ (lineDisabled s n w k).pair = s.pair ∧
    (lineDisabled s n w k).keys = s.keys := by
  simp [lineDisabled]

/-- A clean line whose lock is free is invalidated, and the way stays in disable while another of its lines is valid. -/
theorem wayDisableF_of_clean_line {s : State} {n w set k : Nat} {rest : List (Nat × Nat)} {x : WayT} {y : Nat × WayT}
    (hst : s.pwr.st = .service) (hdis : (sliceAt s n).disabling = (w, set) :: rest) (hline : nextOfWay s n w set = some (k, x))
    (hlock : lockHeld s x.dln = false) (hclean : dirtyW x = false) (hup : s.cache.upset = [])
    (hmore : nextOfWay (setWay s k wayInit) n w set = some y) : wayDisableF s n = lineDisabled s n w k := by
  simp [wayDisableF, hdis, hst, hline, hlock, hclean, maintHolds_of_free false hlock, checkTag_of_no_upset s k hup, hmore]
  rfl

theorem quiescent_lineDisabled {s : State} (h : Quiescent s) (n w k : Nat) : Quiescent (lineDisabled s n w k) :=
  quiescent_congr h (by simp) (by simp) (by simp)

/-- Settles O36: each command is brought to the one case that the clause states, whose lemma says what it sets and leaves. -/
theorem slowUnitsAdvance : Obligations.SlowUnitsAdvance := by
  unfold Obligations.SlowUnitsAdvance
  refine ⟨?_, ?_, ?_, ?_, ?_, ?_, ?_, ?_, ?_, ?_, ?_⟩
  · intro s ok hen
    exact ⟨_, rfl, dumpBoundaryF_of_disabled ok hen⟩
  · intro s hst hen htime hpend hroom
    obtain ⟨hqz, hmsg⟩ := dumpWrite_of_room (filterWaits s) hroom
    refine ⟨_, rfl, ?_⟩
    rw [dumpBoundaryF_of_nothing_pending true hst hen htime hpend, hqz]
    exact ⟨rfl, rfl, rfl, hmsg, rfl⟩
  · intro s ok hst hen htime hpend hfull
    obtain ⟨hqz, hout⟩ := dumpWrite_of_full (filterWaits s) ok hfull
    refine ⟨_, rfl, ?_⟩
    rw [dumpBoundaryF_of_nothing_pending ok hst hen htime hpend, hqz]
    exact ⟨rfl, rfl, rfl, hout⟩
  · intro s ok hblow
    exact ⟨_, rfl, fuseBlowF_of_no_advance ok hblow⟩
  · intro s hst hblow hf
    obtain ⟨hsec, htabs⟩ := fuseBlowF_of_read_back hst hblow hf
    refine ⟨fuseBlowF s true, rfl, ?_⟩
    rw [hsec]
    exact ⟨rfl, rfl, rfl, htabs⟩
  · intro s hst hblow hf
    refine ⟨fuseBlowF s false, rfl, ?_⟩
    rw [fuseBlowF_of_failed hst hblow hf]
    exact ⟨rfl, rfl⟩
  · intro s hon
    obtain ⟨hsec, hkeys⟩ := entropyTestFailF_of_on hon
    refine ⟨entropyTestFailF s, rfl, ?_⟩
    rw [hsec]
    exact ⟨rfl, rfl, rfl, hkeys⟩
  · intro s hoff
    exact ⟨⟨_, rfl, entropyTestFailF_of_off hoff⟩, _, rfl, entropyTestPassF_of_off hoff⟩
  · intro s hon hdef
    exact ⟨_, rfl, entropyTestPassF_of_none_deferred hon hdef⟩
  · intro s n hq hnone
    exact ⟨_, exec_wayDisable_of_no_upset s n, by rw [wayDisableF_of_none hnone, settle_idle s hq]⟩
  · intro s n w set rest k x y hst hq hdis hline hlock hclean hup hmore
    refine ⟨lineDisabled s n.val w k, ?_, by simp, by simp, by simp⟩
    rw [exec_wayDisable_of_no_upset, wayDisableF_of_clean_line hst hdis hline hlock hclean hup hmore,
      settle_idle _ (quiescent_lineDisabled hq n.val w k)]

end Sys2Proof.Proofs.LineCache
end

section
/-! PROOF. The statements of the tile map: the journal writer and the moves. -/

namespace Sys2Proof.Proofs.TileMap

open Sys2Proof Sys2Proof.Machine Sys2Proof.Safety
open Sys2Proof.Proofs.Memory (Recorded evalCapacity_recorded map_modFirst sanitizeEnd_of_step)
open Sys2Proof.Proofs.WritePath (findP_holds)

/-! ## Settling where nothing waits -/

/-- No descriptor and no task is there to go on, no SANITIZE is under way and no key rotates. -/
structure NoWork (s : State) : Prop where
  tasks : s.cmds.tasks = []
  run : s.cmds.run = []
  sanStep : s.cmds.sanStep = 0
  keys : NoRotation s

theorem NoWork.of_quiescent {s : State} (h : Quiescent s) : NoWork s := by
  obtain ⟨hcmds, -, hrot⟩ := h
  exact ⟨by rw [hcmds]; rfl, by rw [hcmds]; rfl, by rw [hcmds]; rfl, hrot⟩

/-- Recording and storing bring no work. -/
theorem NoWork.of_recorded {s t : State} (h : NoWork s) (k : Recorded s t) (hkeys : t.keys = s.keys) : NoWork t where
  tasks := by simpa [h.tasks] using k.tasks
  run := by simpa [h.run] using k.run
  sanStep := k.sanStep.trans h.sanStep
  keys := by rw [NoRotation, hkeys]; exact h.keys

theorem settleTasks_of_noWork {s : State} (h : NoWork s) : settleTasks s = s ∨ settleTasks s = setHold (setHold s) := by
  unfold settleTasks
  split
  · exact .inl rfl
  · have htasks : (setHold s).cmds.tasks = [] := h.tasks
    have hstep : (setHold s).cmds.sanStep = 0 := h.sanStep
    refine .inr ?_
    simp only [htasks, List.map_nil, List.foldl_nil]
    rw [sanitizeEnd_of_step _ (by omega) (by omega)]

/-- Where nothing waits, settling leaves the tables, the map unit and the medium as they are. -/
theorem settle_of_noWork {s : State} (h : NoWork s) : (settle s).tabs = s.tabs ∧ (settle s).mapu = s.mapu ∧ (settle s).med = s.med := by
  unfold settle
  split
  · exact ⟨rfl, rfl, rfl⟩
  · have hack : NoWork (ackTile s) := ⟨by simpa using h.tasks, by simpa using h.run, by simpa using h.sanStep, by simpa [NoRotation] using h.keys⟩
    have hend (u : State) (hrun : u.cmds.run = []) (hkeys : u.keys = (ackTile s).keys) :
        endRotations (u.cmds.run.foldl advanceRun u) = u := by
      rw [hrun, List.foldl_nil, endRotations_idle u (by rw [hkeys]; exact hack.keys)]
    rcases settleTasks_of_noWork hack with e | e
    · simp only [e, hend (ackTile s) hack.run rfl]
      simp
    · simp only [e, hend (setHold (setHold (ackTile s))) hack.run (by simp)]
      simp

/-! ## The start of a program (04 R127, R128; 06 R170) -/

theorem startProg_of_not_startable {s : State} {u : ProgRef} (h : startable s u = false) : startProg s u = s := by
  unfold startProg
  split
  · rfl
  · simp [h]

/-- All that starting a program can do: nothing, the flag of a refresh past deadline, or its start with a token taken. -/
theorem startProg_cases (s : State) (u : ProgRef) : startProg s u = s ∨ startProg s u = flagRefPast s ∨
    ∃ t v, progTarget s u = some t ∧ grantTok s (ptnDieIx t.tile) (rankOf s u) = some v ∧ startProg s u = beginProg v u t := by
  unfold startProg
  split
  · exact .inl rfl
  · next t ht =>
    split
    · split
      · next v hv => exact .inr (.inr ⟨t, v, ht, hv, rfl⟩)
      · split
        · exact .inr (.inl rfl)
        · exact .inl rfl
    · exact .inl rfl

theorem startProg_of_granted {s v : State} {u : ProgRef} {t : Target} (ht : progTarget s u = some t) (h : startable s u = true)
    (hv : grantTok s (ptnDieIx t.tile) (rankOf s u) = some v) : startProg s u = beginProg v u t := by
  simp [startProg, ht, h, hv]

/-- No rank is higher than that of host-write programming (04 R128). -/
theorem higherWaits_of_top_rank (s : State) (die : Nat) : higherWaits s die 0 = false := by simp [higherWaits]

/-- The state once a token of a die has been taken. -/
def tokenTaken (s : State) (die : Nat) : State := { s with cist := { s.cist with tok := sMod 0 s.cist.tok die (· - 4) } }

theorem grantTok_of_top_rank {s : State} {die : Nat} (hst : s.pwr.st ≠ .drain) (htok : 4 ≤ freeTok s die) :
    grantTok s die 0 = some (tokenTaken s die) := by
  simp [grantTok, higherWaits_of_top_rank, takeTok, hst, htok, tokenTaken]

/-- The operation that a program starts as. -/
def startedOp (u : ProgRef) (t : Target) : Op :=
  { kind := .program u, die := ptnDieIx t.tile, part := ptnPart t.tile, ptn := t.tile, fslot := t.slot, frame := t.frame, fails := 0,
    suspended := false }

theorem beginProg_ops (s : State) (u : ProgRef) (t : Target) : (beginProg s u t).med.ops = s.med.ops ++ [startedOp u t] := by
  cases u <;> rfl

theorem frameAt_beginProg (s : State) (u : ProgRef) (t : Target) : (frameAt (beginProg s u t) t.tile t.slot).marker = .opened := by
  unfold beginProg
  simp [frameAt_setFrame]

/-! ## The end of an attempt (06 R170, R174) -/

section
variable {s : State} {u : ProgRef} {o : Op} {ok : Bool} {ns : Nat} {done failed : Op → State → State}

/-- The state once an attempt has counted in the ledger and in the die's programs. -/
def attempted (s : State) (o : Op) (ns : Nat) : State :=
  { noteProgram s o.ptn with
    cist := { (noteProgram s o.ptn).cist with
      progSum := sMod (0, 0) (noteProgram s o.ptn).cist.progSum o.die (fun x => (x.1 + ns, x.2 + 1)) } }

/-- The state in which a verified frame stands in the medium, its operation having ended. -/
def verified (s : State) (o : Op) (ns : Nat) : State := setFrame (dropOp (attempted s o ns) o.kind) o.ptn o.fslot o.frame

theorem endProg_of_none (h : findP (fun o : Op => decide (o.kind = .program u) && !o.suspended) s.med.ops = none) :
    endProg s u ok ns done failed = s := by
  simp only [endProg, h]

theorem endProg_of_verified (h : findP (fun o : Op => decide (o.kind = .program u) && !o.suspended) s.med.ops = some o) (hns : ns ≤ 2400) :
    endProg s u true ns done failed = done o (verified s o ns) := by
  simp [endProg, h, maxProgNs, hns, attempted, verified]

theorem endProg_of_first_failure (h : findP (fun o : Op => decide (o.kind = .program u) && !o.suspended) s.med.ops = some o)
    (hbad : ok = false ∨ 2400 < ns) (hfails : o.fails = 0) : endProg s u ok ns done failed =
      { attempted s o ns with med := { s.med with
        ops := modFirst (fun x => decide (x.kind = .program u)) (fun x => { x with fails := 1 }) s.med.ops } } := by
  have hkind : o.kind = .program u := by
    have hfound := findP_holds h
    simp_all
  have hnot : (ok && decide (ns ≤ maxProgNs)) = false := by
    rcases hbad with rfl | hlong
    · rfl
    · simp [maxProgNs, Nat.not_le.2 hlong]
  simp [endProg, h, hnot, hfails, hkind, attempted]

end

/-- A ledger update changes of the map unit the dirty flags alone (08 R242). -/
theorem noteProgram_mapu (s : State) (ptn : Nat) : ∃ d, (noteProgram s ptn).mapu = { s.mapu with dirty := d } := by
  unfold noteProgram ledDraw ledUpdate
  split
  · split
    · exact ⟨_, by simp [ledApply, ledTouch]; rfl⟩
    · split
      · exact ⟨_, rfl⟩
      · exact ⟨_, by simp; rfl⟩
  · exact ⟨_, rfl⟩

/-- The attempt leaves the journal's lines, the medium, the tables and the commands as they were. -/
theorem attempted_keeps (s : State) (o : Op) (ns : Nat) : (attempted s o ns).mapu.lines = s.mapu.lines ∧
    (attempted s o ns).mapu.durable = s.mapu.durable ∧ (attempted s o ns).med = s.med ∧ (attempted s o ns).tabs = s.tabs ∧
    (attempted s o ns).cmds = s.cmds ∧ (attempted s o ns).keys = s.keys := by
  obtain ⟨d, hd⟩ := noteProgram_mapu s o.ptn
  simp [attempted, hd]

theorem verified_keeps (s : State) (o : Op) (ns : Nat) : (verified s o ns).mapu.lines = s.mapu.lines ∧
    (verified s o ns).mapu.durable = s.mapu.durable ∧ (verified s o ns).tabs = s.tabs ∧ (verified s o ns).cmds = s.cmds ∧
    (verified s o ns).keys = s.keys := by
  obtain ⟨hlines, hdur, -, htabs, hcmds, hkeys⟩ := attempted_keeps s o ns
  simp [verified, hlines, hdur, htabs, hcmds, hkeys]

theorem frameAt_verified (s : State) (o : Op) (ns : Nat) : frameAt (verified s o ns) o.ptn o.fslot = o.frame := by
  rw [verified, frameAt_setFrame, if_pos rfl]

theorem noWork_verified {s : State} (h : NoWork s) (o : Op) (ns : Nat) : NoWork (verified s o ns) := by
  obtain ⟨-, -, -, hcmds, hkeys⟩ := verified_keeps s o ns
  exact ⟨by rw [hcmds]; exact h.tasks, by rw [hcmds]; exact h.run, by rw [hcmds]; exact h.sanStep, by rw [NoRotation, hkeys]; exact h.keys⟩

/-! ## The journal's lines (07 R220, R221) -/

theorem formLine_of_not_due {s : State} (h : lineDue s = false) : formLine s = s := by simp [formLine, h]

/-- The state in which up to three records of the tail have formed the next line of the journal tile. -/
def lineFormed (s : State) : State :=
  { s with mapu := { s.mapu with
      jmap := s.mapu.jmap ++ [(tailFirst s, s.mapu.jtile, s.mapu.jline)], jline := s.mapu.jline + 1
      lines := s.mapu.lines ++
        [{ line := s.mapu.jline, recs := s.mapu.tail.take 3, data := journalLine (s.mapu.tail.take 3), started := false }]
      tail := s.mapu.tail.drop 3, tailAt := s.mapu.tailAt.drop 3 } }

theorem formLine_of_room {s : State} (hruns : journalRuns s = true) (hdue : lineDue s = true) (hlines : s.mapu.lines.length < 8)
    (htile : s.mapu.jtile ≠ 0) (hline : s.mapu.jline < 256) : formLine s = lineFormed s := by
  have hroom : journalRoom s = some s := if_pos ⟨htile, hline⟩
  simp [formLine, hruns, hdue, hlines, hroom, lineFormed]

/-- The map unit once the oldest line in turn is in program. -/
def lineStarted (m : MapUnit) : MapUnit :=
  { m with lines := modFirst (fun l => !l.started) (fun l => { l with started := true }) m.lines }

theorem lineStarted_lines (m : MapUnit) : (lineStarted m).lines.map (·.recs) = m.lines.map (·.recs) ∧
    (lineStarted m).lines.map (·.line) = m.lines.map (·.line) :=
  ⟨map_modFirst _ _ _ _ (fun _ => rfl), map_modFirst _ _ _ _ (fun _ => rfl)⟩

/-- Starting the journal's program changes of the map unit at most that the oldest line in turn has started. -/
theorem startProg_journal_mapu (s : State) :
    (startProg s .journal).mapu = s.mapu ∨ (startProg s .journal).mapu = lineStarted s.mapu := by
  rcases startProg_cases s .journal with h | h | ⟨t, v, -, hv, h⟩
  · exact .inl (by rw [h])
  · exact .inl (by rw [h]; rfl)
  · have hmapu : v.mapu = s.mapu := by
      have hgranted := grantTok_keeps _ _ _ _ hv
      simp_all
    refine .inr ?_
    rw [h, ← hmapu]
    rfl

/-- The target of the journal's program is the place of the oldest line in turn. -/
def lineTarget (s : State) (l : JLine) : Target :=
  { tile := s.mapu.jtile, slot := l.line, frame := metaFrame s s.mapu.jtile l.line l.data }

theorem startProg_journal_of_token {s : State} {l : JLine} (hst : s.pwr.st ≠ .drain)
    (hl : findP (fun l => !l.started) s.mapu.lines = some l) (h : startable s .journal = true)
    (htok : 4 ≤ freeTok s (ptnDieIx s.mapu.jtile)) :
    startProg s .journal = beginProg (tokenTaken s (ptnDieIx s.mapu.jtile)) .journal (lineTarget s l) := by
  have htarget : progTarget s .journal = some (lineTarget s l) := by simp [progTarget, hl, lineTarget]
  exact startProg_of_granted htarget h (grantTok_of_top_rank hst htok)

/-! ## Lines that become durable (07 R221, R222) -/

/-- The state once the oldest line has verified. -/
def lineDurable (s : State) (l : JLine) (r : List JLine) : State :=
  { s with mapu := { s.mapu with lines := r, durable := s.mapu.durable + l.recs.length } }

theorem afterDurable_recorded (s : State) : Recorded s (afterDurable s) := by
  have hfreed : Recorded s (releaseFreed s) := .of_eq
  have hended : Recorded (releaseFreed s) (endMoves (releaseFreed s)) := .of_eq
  exact (hfreed.trans hended).trans (evalCapacity_recorded _)

theorem headDurable_spec {s : State} {l : JLine} {r : List JLine} (h : NoWork s) (hlines : s.mapu.lines = l :: r) :
    (headDurable s).mapu = (lineDurable s l r).mapu ∧ (headDurable s).med = s.med ∧ (headDurable s).tabs = s.tabs := by
  have heq : headDurable s = settle (afterDurable (lineDurable s l r)) := by simp [headDurable, hlines, lineDurable]
  have hwork : NoWork (afterDurable (lineDurable s l r)) :=
    NoWork.of_recorded (s := lineDurable s l r) ⟨h.tasks, h.run, h.sanStep, h.keys⟩ (afterDurable_recorded _) (by simp)
  obtain ⟨htabs, hmapu, hmed⟩ := settle_of_noWork hwork
  rw [heq, htabs, hmapu, hmed]
  simp [lineDurable]

/-- Settles O32: a line is formed from the tail and takes its place, and a verified line leaves the list with its records durable, the capacity
evaluation and the settling that follow touching neither. -/
theorem journalLinesBecomeDurable : Obligations.JournalLinesBecomeDurable := by
  unfold Obligations.JournalLinesBecomeDurable
  refine ⟨?_, ?_, ?_, ?_, ?_, ?_⟩
  · intro s hdue hstart
    refine ⟨_, rfl, ?_⟩
    rw [journalLineProgramF, formLine_of_not_due hdue, startProg_of_not_startable hstart]
  · intro s hruns hdue hlines htile hline
    refine ⟨_, rfl, ?_⟩
    rw [journalLineProgramF, formLine_of_room hruns hdue hlines htile hline]
    have htabs : (startProg (lineFormed s) .journal).tabs = s.tabs := by simp [lineFormed]
    have hcache : (startProg (lineFormed s) .journal).cache = s.cache := by simp [lineFormed]
    obtain ⟨hrecs, hplaces⟩ := lineStarted_lines (lineFormed s).mapu
    rcases startProg_journal_mapu (lineFormed s) with h | h
    · rw [h, htabs, hcache]
      simp [lineFormed]
    · rw [h, htabs, hcache, hrecs, hplaces]
      simp [lineFormed, lineStarted]
  · intro s l hst hdue hl hstart htok
    refine ⟨_, rfl, ?_⟩
    rw [journalLineProgramF, formLine_of_not_due hdue, startProg_journal_of_token (by simp [hst]) hl hstart htok]
    refine ⟨⟨_, beginProg_ops .., rfl, rfl, rfl, rfl, rfl⟩, frameAt_beginProg .., ?_, ?_⟩ <;> simp [tokenTaken]
  · intro s ok ns hnone
    exact ⟨_, rfl, endProg_of_none hnone⟩
  · intro s o l r ns _ hq _ hlines hns hop
    have hend : journalEnd s true ns = headDurable (verified s o ns) := endProg_of_verified hop hns
    obtain ⟨hkept, hdur, htabs, -, -⟩ := verified_keeps s o ns
    obtain ⟨hmapu, hmed, htabs'⟩ := headDurable_spec (noWork_verified (.of_quiescent hq) o ns) (hkept.trans hlines)
    refine ⟨_, rfl, ?_⟩
    rw [hend, hmapu, htabs', frameAt_congr hmed, frameAt_verified]
    exact ⟨rfl, congrArg (· + l.recs.length) hdur, rfl, htabs⟩
  · intro s o ok ns hbad hfails hop
    obtain ⟨hlines, hdur, -⟩ := attempted_keeps s o ns
    have hend : journalEnd s ok ns = _ := endProg_of_first_failure hop hbad hfails
    refine ⟨_, rfl, ?_⟩
    rw [hend]
    exact ⟨hlines, hdur, rfl, rfl⟩

/-! ## A map that lists a tile twice -/

/-- The entry of a tile in the first physical tile of die 0 that holds lines. -/
def entryOf (st : TileSt) : MapEntry := { entryInit with st := st, ptn := 64, gen := 1 }

/-- SERVICE in CONSTRAINED, tile 0 queued for a refresh. The map lists the tile twice: MAPPED, which is what it reads, and REFUSING behind that. -/
def mappedAndRefusing : State :=
  { State.reset with
    pwr := { pwrReset with st := .service }
    tabs := { tablesInit with map := [(0, entryOf .mapped), (0, entryOf .refusing)] }
    mapu := { mapReset with resident := [(0, true)] }
    wear := { State.reset.wear with cond := .constrained }
    drift := { State.reset.drift with refq := [(0, false, 0)] } }

/-- The refresh of tile 0 as it is queued. -/
def refreshQueued : Queued := { kind := .move, cause := .readCount, walker := false, past := false }

theorem refresh_mayStart : queuedFor mappedAndRefusing 0 .readCount = some refreshQueued ∧ tailFull mappedAndRefusing = false ∧
    pageHere mappedAndRefusing (pageOf 0) = true ∧ (beginMove mappedAndRefusing 0 .move .readCount false false).isSome = true := by
  decide +kernel

/-- As the move starts, the spare count lets the module leave CONSTRAINED, and the REFUSING entry queues the tile again (08 R271). -/
theorem queue_of_refresh_started : (moveStartF mappedAndRefusing 0 .readCount).wear.queue = [(0, .leaveConstrained)] := by
  decide +kernel

/-- Refutes O28 in its clause on the start of a move, that no cause of the tile is queued any more: it is stated of every map, and where the map
lists tile 0 a second time, as REFUSING, leaving CONSTRAINED at the start of the move queues the tile again. A write keeps the indexes of a map
rising (sWf_sSet), so a map that is built by writes lists no tile twice, but the statement does not exclude one that does. -/
theorem not_movesTakeCopyAndCommit : ¬ Obligations.MovesTakeCopyAndCommit := by
  unfold Obligations.MovesTakeCopyAndCommit
  rintro ⟨-, hstart, -⟩
  obtain ⟨hqueued, htail, hpage, hbegin⟩ := refresh_mayStart
  obtain ⟨t, ht, -, -, hleft, -⟩ := hstart mappedAndRefusing 0 .readCount refreshQueued rfl rfl hqueued rfl htail hpage rfl rfl hbegin
  have hnext : moveStartF mappedAndRefusing 0 .readCount = t := Host.Outcome.next.inj ht
  rw [← hnext, queue_of_refresh_started] at hleft
  exact hleft _ List.mem_cons_self rfl

end Sys2Proof.Proofs.TileMap
end

section
/-! PROOF. The statements of the Spinel twin pair (10): the link layer, the witness and the heartbeats, the commands of the pair. -/

namespace Sys2Proof.Proofs.Spinel

open Sys2Proof Sys2Proof.Machine Sys2Proof.Safety
open Sys2Proof.Proofs.Glance (noteEv_keepsPower)
open Sys2Proof.Proofs.Memory (sendDone withoutTask dropTask endTask treated withArrival)
open Sys2Proof.Proofs.WritePath (quiescent_congr)
open Sys2Proof.Proofs.TileMap (NoWork settleTasks_of_noWork settle_of_noWork)

/-! ## What recording an event leaves of the pair -/

/-- The pair without its transmit side, which is all that sending a message touches (10 R312 to R315). -/
def withoutTx (p : Pair) : Pair := { p with mir := 0, req := 0, bulk := 0, fseq := 0, flits := [], txq := [] }

theorem send_withoutTx (s : State) (m : Msg) : withoutTx (send s m).pair = withoutTx s.pair := by
  unfold send
  split
  · split <;> rfl
  · split <;> rfl

/-- A record that cannot be kept goes to the peer as a message (14 R441). -/
theorem agLose_withoutTx (s : State) (r : AgRec) : withoutTx (agLose s r).pair = withoutTx s.pair := by
  unfold agLose
  simp only
  split
  · exact send_withoutTx ..
  · rfl

theorem agOpen_withoutTx (s : State) (r : AgRec) : withoutTx (agAdd.agOpen s r).1.pair = withoutTx s.pair := by
  unfold agAdd.agOpen
  simp only
  split
  · simp [agLose_withoutTx]
  · split <;> simp

theorem agAdd_withoutTx (s : State) (r : AgRec) : withoutTx (agAdd s r).1.pair = withoutTx s.pair := by
  unfold agAdd
  split
  · split
    · rfl
    · exact agOpen_withoutTx ..
  · exact agOpen_withoutTx ..

theorem recordOnly_withoutTx (s : State) (r : AgRec) : withoutTx (recordOnly s r).pair = withoutTx s.pair := by
  have h := agAdd_withoutTx s r
  unfold recordOnly
  split
  · next heq => simpa [heq] using h
  · next heq => simpa [heq] using h

theorem lostRec_withoutTx (s : State) (r : AgRec) : withoutTx (lostRec s r).pair = withoutTx s.pair := by
  unfold lostRec
  split
  · simp [recordOnly_withoutTx]
  · rfl

theorem recordEv_withoutTx (s : State) (src code a0 a1 a2 : Nat) (urgent : Bool) :
    withoutTx (recordEv s src code a0 a1 a2 urgent).pair = withoutTx s.pair :=
  (lostRec_withoutTx ..).trans (recordOnly_withoutTx ..)

theorem noteEv_withoutTx (s : State) (src code a0 a1 a2 : Nat) : withoutTx (noteEv s src code a0 a1 a2).pair = withoutTx s.pair := by
  simp [noteEv, recordEv_withoutTx]

/-- The transmit side has neither the number nor the role nor the witness. -/
theorem withoutTx_fields {p q : Pair} (h : withoutTx p = withoutTx q) : p.sseq = q.sseq ∧ p.role = q.role ∧ p.witOk = q.witOk := by
  simp only [withoutTx, Pair.mk.injEq] at h
  simp [h]

/-! ## Flits (10 R312 to R314) -/

/-- The flits once each has been replayed at this instant (10 R313). -/
def replayed (s : State) : List (Nat × Nat × Nat) := s.pair.flits.map (fun x => (x.1, now s, x.2.2 + 1))

/-- The replay of what is outstanding, from the flit `q` on, with its flag. -/
def replaySent (s : State) (q : Nat) : State := flagPair (emit { s with pair := { s.pair with flits := replayed s } } (.replay q)) 3

/-- The replay, and the retrain that a flit replayed 8 times starts: how often each was replayed is forgotten (10 R313). -/
def retrainSent (s : State) (q : Nat) : State :=
  emit { replaySent s q with pair := { (replaySent s q).pair with flits := (replayed s).map (fun x => (x.1, x.2.1, 0)) } } .retrain

theorem replayAll_of_no_flits {s : State} (h : s.pair.flits = []) : replayAll s = s := by simp [replayAll, h]

theorem replayAll_of_flits {s : State} {q ft n : Nat} {r : List (Nat × Nat × Nat)} (hflits : s.pair.flits = (q, ft, n) :: r) :
    replayAll s = if (replayed s).any (fun x => decide (8 ≤ x.2.2)) then retrainSent s q else replaySent s q := by
  unfold replayAll
  split
  · next hnil => cases hnil.symm.trans hflits
  · next hcons =>
    cases hcons.symm.trans hflits
    rfl

/-- Where no flit has been replayed 8 times, the link goes on with the replay alone. -/
theorem replayAll_of_few {s : State} {q ft n : Nat} {r : List (Nat × Nat × Nat)} (hflits : s.pair.flits = (q, ft, n) :: r)
    (hfew : ∀ x ∈ s.pair.flits, x.2.2 < 7) : replayAll s = replaySent s q := by
  have hnone : (replayed s).any (fun x => decide (8 ≤ x.2.2)) = false := by
    rw [replayed, List.any_map, List.any_eq_false]
    intro x hx
    have := hfew x hx
    simp only [Function.comp_apply, decide_eq_true_eq]
    omega
  rw [replayAll_of_flits hflits, hnone, if_neg Bool.false_ne_true]

/-- A replay sends the same flits again, in their order, with or without a retrain (10 R313). -/
theorem replayAll_spec {s : State} {q ft n : Nat} {r : List (Nat × Nat × Nat)} (hflits : s.pair.flits = (q, ft, n) :: r) :
    (replayAll s).pair.flits.map (·.1) = s.pair.flits.map (·.1) ∧ .replay q ∈ (replayAll s).out ∧ (replayAll s).tabs = s.tabs ∧
      (replayAll s).cache = s.cache := by
  rw [replayAll_of_flits hflits]
  split <;> simp [retrainSent, replaySent, replayed, Function.comp_def]

theorem replayTimeoutF_of_due {s : State} {q ft n : Nat} {r : List (Nat × Nat × Nat)} (hlink : s.pair.linkUp = true)
    (hflits : s.pair.flits = (q, ft, n) :: r) (hdue : ft + 4000 ≤ s.pwr.time) : replayTimeoutF s = replayAll s := by
  unfold replayTimeoutF
  rw [hflits]
  simp [hlink, now, hdue]

theorem replayTimeoutF_of_early {s : State} {q ft n : Nat} {r : List (Nat × Nat × Nat)} (hflits : s.pair.flits = (q, ft, n) :: r)
    (hearly : s.pwr.time < ft + 4000) : replayTimeoutF s = s := by
  unfold replayTimeoutF
  rw [hflits]
  simp [now, Nat.not_le.mpr hearly]

theorem pumpTx_of_no_messages {s : State} (h : s.pair.txq = []) : pumpTx s = s := by
  unfold pumpTx
  split
  · rw [h, drainTx, ← h]
  · rfl

/-- The state in which the flits up to a number are acknowledged. -/
def ackedTo (s : State) (k : Nat) : State := { s with pair := { s.pair with flits := flitsAfter s.pair.flits k } }

/-- A NAK replays what its number leaves outstanding. -/
theorem flitNakF_of_idle {s : State} {k : Nat} (hlink : s.pair.linkUp = true) (htx : s.pair.txq = []) :
    flitNakF s k = settle (replayAll (ackedTo s k)) := by
  have hpump : pumpTx (ackedTo s k) = ackedTo s k := pumpTx_of_no_messages htx
  rw [flitNakF, if_pos hlink]
  exact congrArg (fun u => settle (replayAll u)) hpump

theorem quiescent_ackedTo {s : State} (h : Quiescent s) (k : Nat) : Quiescent (ackedTo s k) := quiescent_congr h rfl rfl rfl

theorem quiescent_replaySent {s : State} (h : Quiescent s) (q : Nat) : Quiescent (replaySent s q) :=
  quiescent_congr h (by simp [replaySent]) (by simp [replaySent]) (by simp [replaySent])

/-- The state in which an acknowledgement has returned the credits of its header. -/
def credited (s : State) (k mir req bulk : Nat) : State := { s with pair := addCredits (ackedTo s k).pair mir req bulk }

theorem flitAckF_of_idle {s : State} {k mir req bulk : Nat} (hlink : s.pair.linkUp = true) (htx : s.pair.txq = []) (hq : Quiescent s) :
    flitAckF s k mir req bulk = credited s k mir req bulk := by
  have hpump : pumpTx (credited s k mir req bulk) = credited s k mir req bulk := pumpTx_of_no_messages htx
  have hidle : Quiescent (credited s k mir req bulk) := quiescent_congr hq rfl rfl rfl
  rw [flitAckF, if_pos hlink]
  exact (congrArg settle hpump).trans (settle_idle _ hidle)

/-- Credits saturate at the pools (10 R314). -/
theorem addCredits_pools (p : Pair) (mir req bulk : Nat) : (addCredits p mir req bulk).mir = min 2048 (p.mir + mir) ∧
    (addCredits p mir req bulk).req = min 2048 (p.req + req) ∧ (addCredits p mir req bulk).bulk = min 512 (p.bulk + bulk) :=
  ⟨(min_def_lt ..).symm, (min_def_lt ..).symm, (min_def_lt ..).symm⟩

/-- A link that goes down changes no role: that waits for the declaration of its loss (10 R310, R319). -/
theorem dropLink_spec (s : State) : (dropLink s).pair.linkUp = false ∧ (dropLink s).pair.role = s.pair.role := by
  unfold dropLink
  simp only
  split_ifs <;> simp [clearTx]

theorem spinelLinkDownF_of_failed {s : State} {lanes : Nat} {cable : Bool} (hlink : s.pair.linkUp = true) (h : cable = true ∨ lanes < 8) :
    spinelLinkDownF s lanes cable = dropLink s := by
  simp [spinelLinkDownF, hlink, h]

theorem spinelLinkDownF_of_lanes {s : State} {lanes : Nat} (hlink : s.pair.linkUp = true) (h : 8 ≤ lanes) :
    spinelLinkDownF s lanes false = emit { s with pair := { s.pair with lanes := if 16 ≤ lanes then 16 else 8 } } .retrain := by
  simp [spinelLinkDownF, hlink, Nat.not_lt.mpr h]

/-- Settles O11: a replay keeps the flits' numbers and order, and what a NAK, an acknowledgement and a failed link leave is said by their lemmas. -/
theorem flitsReplayUntilAcknowledged : Obligations.FlitsReplayUntilAcknowledged := by
  unfold Obligations.FlitsReplayUntilAcknowledged
  refine ⟨?_, ?_, ?_, ?_, ?_, ?_, ?_, ?_⟩
  · intro s hlink
    refine ⟨_, rfl, ?_⟩
    simp [flitCrcErrorF, hlink]
  · intro s q ft n r hlink hflits hdue
    refine ⟨_, rfl, ?_⟩
    rw [replayTimeoutF_of_due hlink hflits hdue]
    exact replayAll_spec hflits
  · intro s q ft n r _ hflits hearly
    exact ⟨_, rfl, replayTimeoutF_of_early hflits hearly⟩
  · intro s k hlink hnone htx hq
    refine ⟨_, rfl, ?_⟩
    rw [flitNakF_of_idle hlink htx, replayAll_of_no_flits hnone, settle_idle _ (quiescent_ackedTo hq _)]
    exact ⟨hnone, rfl, rfl⟩
  · intro s k q ft n r hlink hleft htx hq hfew
    have hflits : (ackedTo s k.val).pair.flits = (q, ft, n) :: r := hleft
    refine ⟨_, rfl, ?_⟩
    rw [flitNakF_of_idle hlink htx, replayAll_of_few hflits (hflits ▸ hfew),
      settle_idle _ (quiescent_replaySent (quiescent_ackedTo hq _) q), ← hflits]
    simp [replaySent, replayed, ackedTo, now]
  · intro s k mir req bulk hlink htx hq
    refine ⟨_, rfl, ?_⟩
    rw [flitAckF_of_idle hlink htx hq]
    obtain ⟨hmir, hreq, hbulk⟩ := addCredits_pools (ackedTo s k.val).pair mir.toNat req.toNat bulk.toNat
    exact ⟨rfl, hmir, hreq, hbulk, rfl⟩
  · intro s lanes cable hlink hfail
    refine ⟨_, rfl, ?_⟩
    rw [spinelLinkDownF_of_failed hlink hfail]
    obtain ⟨hdown, hrole⟩ := dropLink_spec s
    exact ⟨hdown, hrole, by simp⟩
  · intro s lanes hlink hlanes
    refine ⟨_, rfl, ?_⟩
    rw [spinelLinkDownF_of_lanes hlink hlanes]
    exact ⟨hlink, rfl, rfl⟩

/-! ## The witness and the heartbeats (10 R318 to R320) -/

/-- The state in which the witness has just been declared lost. -/
def witnessGone (s : State) : State := flagPair { s with pair := { s.pair with witOk := false } } 1

theorem witnessLostF_of_due {s : State} (hst : s.pwr.st ≠ .off) (hok : s.pair.witOk = true) (hdue : s.pair.witLast + 20000 ≤ s.pwr.time) :
    witnessLostF s = noteEv (witnessGone s) srcSpinel 0x0006 0 0 0 := by
  simp [witnessLostF, hst, hok, hdue, now, witnessGone]

theorem witnessLostF_of_early {s : State} (hearly : s.pwr.time < s.pair.witLast + 20000) : witnessLostF s = s := by
  simp [witnessLostF, now, Nat.not_le.mpr hearly]

/-- Losing the witness is recorded, and changes no role. -/
theorem witnessGone_noted (s : State) : (noteEv (witnessGone s) srcSpinel 0x0006 0 0 0).pair.witOk = false ∧
    (noteEv (witnessGone s) srcSpinel 0x0006 0 0 0).pair.role = s.pair.role := by
  obtain ⟨-, hrole, hok⟩ := withoutTx_fields (noteEv_withoutTx (witnessGone s) srcSpinel 0x0006 0 0 0)
  exact ⟨hok.trans (by simp [witnessGone]), hrole.trans (by simp [witnessGone])⟩

theorem witnessLostF_time (s : State) : (witnessLostF s).pwr.time = s.pwr.time := by
  unfold witnessLostF
  split
  · rcases noteEv_keepsPower (witnessGone s) srcSpinel 0x0006 0 0 0 with e | e <;>
      exact (congrArg Power.time e).trans (by simp [witnessGone])
  · rfl

theorem witnessLostF_role (s : State) : (witnessLostF s).pair.role = s.pair.role := by
  unfold witnessLostF
  split
  · exact (witnessGone_noted s).2
  · rfl

/-- An edge comes after the declaration that is due at its instant (log entry 80). -/
theorem witInEdgeF_of_on {s : State} (hst : s.pwr.st ≠ .off) :
    witInEdgeF s = { witnessLostF s with pair := { (witnessLostF s).pair with witOk := true, witLast := now (witnessLostF s) } } := by
  simp [witInEdgeF, hst]

theorem heartbeatSendF_of_due {s : State} (hst : s.pwr.st = .service) (hlink : s.pair.linkUp = true) (hdue : s.pair.hbSent ≤ hbWindow s.pwr.time) :
    heartbeatSendF s = sendNow { s with pair := { s.pair with hbSent := hbWindow s.pwr.time + 1, hseq := (s.pair.hseq + 1) % 2 ^ 32 } }
      (.heartbeat (hbOf s)) := by
  simp [heartbeatSendF, works, hst, hlink, hdue, now]

/-- The pair once the window of a heartbeat has it (10 R319). -/
def withHeartbeat (p : Pair) (k : Nat) (h : HbInfo) : Pair :=
  { p with seen := k :: p.seen.filter (fun x => x ≠ k), counting := some (p.counting.getD k), peerHb := some h, note := false }

theorem heartbeatF_pair {s : State} {h : HbInfo} (hst : s.pwr.st = .service) (hlink : s.pair.linkUp = true) :
    (heartbeatF s h).pair = withHeartbeat (withArrival s.pair) (hbWindow s.pwr.time) h := by
  cases hcount : s.pair.counting with
  | none => simp [heartbeatF, hears, hst, hlink, withHeartbeat, withArrival, now, hcount]
  | some c => simp [heartbeatF, hears, hst, hlink, withHeartbeat, withArrival, now, hcount]

/-- Without a descriptor no LEAVE waits. -/
theorem leaveGoesOn_of_no_run {s : State} (h : s.cmds.run = []) : leaveGoesOn s = s := by simp [leaveGoesOn, leaveRun, h, findP]

/-- Whether a window that ends now counts: one that began after the window of the first heartbeat (10 R319). -/
def counted (s : State) : Bool :=
  match s.pair.counting with
  | some c => decide (c < hbWindow s.pwr.time)
  | none => false

/-- The state in which the window that ends now has been seen to be empty or not. -/
def windowSeen (s : State) : State :=
  { s with pair := { s.pair with
      seen := s.pair.seen.filter (fun x => decide (hbWindow s.pwr.time ≤ x))
      misses := if counted s && !s.pair.seen.contains (hbWindow s.pwr.time - 1) then s.pair.misses + 1 else 0 } }

/-- At the end of a window the link is lost where too many have been empty, and a LEAVE that waits goes on. -/
theorem hbWindowEndF_of_end {s : State} (hst : s.pwr.st = .service) (hend : s.pwr.time % 10000 = 0) : hbWindowEndF s =
    leaveGoesOn (if counted s && decide (regF (windowSeen s) .spinel 0 2 10 7 ≤ (windowSeen s).pair.misses) then declareLost (windowSeen s)
      else windowSeen s) := by
  rw [hbWindowEndF, if_pos (by simp [hst, hend, now])]
  rfl

theorem windowSeen_misses_of_empty {s : State} {c : Nat} (hcount : s.pair.counting = some c) (hc : c < hbWindow s.pwr.time)
    (hempty : s.pair.seen.contains (hbWindow s.pwr.time - 1) = false) : (windowSeen s).pair.misses = s.pair.misses + 1 := by
  have hcounted : counted s = true := by simp [counted, hcount, hc]
  rw [windowSeen, hcounted, hempty]
  rfl

/-- An empty window short of HB_MISS loses nothing but itself (10 R319). -/
theorem hbWindowEndF_of_few {s : State} (hst : s.pwr.st = .service) (hend : s.pwr.time % 10000 = 0)
    (hfew : (windowSeen s).pair.misses < regF s .spinel 0 2 10 7) (hrun : s.cmds.run = []) : hbWindowEndF s = windowSeen s := by
  have hkept : ¬ regF (windowSeen s) .spinel 0 2 10 7 ≤ (windowSeen s).pair.misses := Nat.not_le.mpr hfew
  rw [hbWindowEndF_of_end hst hend, decide_eq_false hkept, Bool.and_false, if_neg Bool.false_ne_true]
  exact leaveGoesOn_of_no_run hrun

/-- Settles O12: each command in the case that its clause states; the event of a lost witness touches the pair's transmit side alone. -/
theorem witnessAndHeartbeatsChangeNoRole : Obligations.WitnessAndHeartbeatsChangeNoRole := by
  unfold Obligations.WitnessAndHeartbeatsChangeNoRole
  refine ⟨?_, ?_, ?_, ?_, ?_, ?_, ?_⟩
  · intro s
    refine ⟨_, rfl, ?_⟩
    unfold witOutToggleF
    split <;> simp [*]
  · intro s hst
    refine ⟨_, rfl, ?_⟩
    rw [witInEdgeF_of_on hst]
    exact ⟨rfl, witnessLostF_time s, witnessLostF_role s⟩
  · intro s hst hok hdue
    refine ⟨_, rfl, ?_⟩
    obtain ⟨hgone, hrole⟩ := witnessGone_noted s
    rw [witnessLostF_of_due hst hok hdue]
    exact ⟨hgone, hrole, by simp [witnessGone]⟩
  · intro s _ _ hearly
    exact ⟨_, rfl, witnessLostF_of_early hearly⟩
  · intro s hst hlink hdue
    refine ⟨_, rfl, ?_⟩
    rw [heartbeatSendF_of_due hst hlink hdue]
    exact ⟨rfl, rfl, rfl, rfl⟩
  · intro s h hst hlink
    refine ⟨_, rfl, ?_⟩
    rw [heartbeatF_pair hst hlink]
    simp [withHeartbeat, withArrival]
  · intro s c hst hend hcount hc hempty hfew hrun
    have hmisses := windowSeen_misses_of_empty hcount hc hempty
    refine ⟨_, rfl, ?_⟩
    rw [hbWindowEndF_of_few hst hend (by omega) hrun]
    exact ⟨hmisses, rfl, rfl, rfl⟩

/-! ## What leaves the state sequence number as it is

A number is written where a command is taken, and at the end of SOLO's guard (10 R304, R324). What follows names each operation that starts a
command or lets one go on, and does not leave the whole pair as it is: none of them writes the number. -/

@[simp] theorem ite_sseq (c : Prop) [Decidable c] (p q : Pair) : (if c then p else q).sseq = if c then p.sseq else q.sseq :=
  apply_ite Pair.sseq c p q

theorem foldl_sseq {α : Type} (f : State → α → State) (l : List α) (s : State) (h : ∀ s a, (f s a).pair.sseq = s.pair.sseq) :
    (l.foldl f s).pair.sseq = s.pair.sseq := by
  induction l generalizing s with
  | nil => rfl
  | cons x l ih => rw [List.foldl_cons, ih, h]

@[simp] theorem send_sseq (s : State) (m : Msg) : (send s m).pair.sseq = s.pair.sseq := (withoutTx_fields (send_withoutTx s m)).1

@[simp] theorem recordEv_sseq (s : State) (src code a0 a1 a2 : Nat) (urgent : Bool) :
    (recordEv s src code a0 a1 a2 urgent).pair.sseq = s.pair.sseq :=
  (withoutTx_fields (recordEv_withoutTx ..)).1

@[simp] theorem noteEv_sseq (s : State) (src code a0 a1 a2 : Nat) : (noteEv s src code a0 a1 a2).pair.sseq = s.pair.sseq :=
  (withoutTx_fields (noteEv_withoutTx ..)).1

@[simp] theorem voidRepairs_sseq (s : State) (p : Nat → Bool) : (voidRepairs s p).pair.sseq = s.pair.sseq := by simp [voidRepairs]

@[simp] theorem resumeCredits_sseq (s : State) : (resumeCredits s).pair.sseq = s.pair.sseq := by
  simp [resumeCredits]

@[simp] theorem evalStop_sseq (s : State) : (evalStop s).pair.sseq = s.pair.sseq := by
  simp [evalStop]

@[simp] theorem discardLines_sseq (s : State) (ltn : Nat) : (discardLines s ltn).pair.sseq = s.pair.sseq := by simp [discardLines]

@[simp] theorem noteRetired_sseq (s : State) (ptn cause : Nat) : (noteRetired s ptn cause).pair.sseq = s.pair.sseq := by simp [noteRetired]

@[simp] theorem noteVacated_sseq (s : State) (ptn : Nat) (c : Option Nat) : (noteVacated s ptn c).pair.sseq = s.pair.sseq := by
  cases c <;> simp [noteVacated]

@[simp] theorem abandonMove_sseq (s : State) (m : Move) : (abandonMove s m).pair.sseq = s.pair.sseq := by
  simp [abandonMove]

@[simp] theorem killMove_sseq (s : State) (ltn : Nat) : (killMove s ltn).pair.sseq = s.pair.sseq := by
  unfold killMove
  simp only
  split
  · split
    · split
      · split <;> simp
      · simp
    · simp
  · simp

@[simp] theorem capEnter_sseq (s : State) (c : Cap) : (capEnter s c).pair.sseq = s.pair.sseq := by
  simp [capEnter]

@[simp] theorem capSteps_sseq (n : Nat) (s : State) : (capSteps n s).pair.sseq = s.pair.sseq := by
  induction n generalizing s with
  | zero => rfl
  | succ n ih =>
    unfold capSteps
    simp only
    split <;> simp [ih]

@[simp] theorem evalCapacity_sseq (s : State) : (evalCapacity s).pair.sseq = s.pair.sseq := capSteps_sseq 2 s

@[simp] theorem replaceTile_sseq (s : State) (ltn : Nat) (st : TileSt) (pattern : BitVec 32) :
    (replaceTile s ltn st pattern).pair.sseq = s.pair.sseq := by
  unfold replaceTile
  simp only
  split <;> simp

@[simp] theorem unmapTile_sseq (s : State) (ltn : Nat) : (unmapTile s ltn).pair.sseq = s.pair.sseq := by
  simp [unmapTile]

@[simp] theorem unmapTiles_sseq (l : List Nat) (s : State) : (unmapTiles s l).pair.sseq = s.pair.sseq := by
  induction l generalizing s with
  | nil => rfl
  | cons x l ih => simp [unmapTiles, ih]

@[simp] theorem destroyWell_sseq (s : State) (i : Nat) (forced : Bool) : (destroyWell s i forced).pair.sseq = s.pair.sseq := by
  unfold destroyWell
  simp only
  rw [foldl_pair _ _ _ (by simp)]
  simp

@[simp] theorem putPend_sseq (s : State) (b : Blk) (i slot m v : Nat) : (putPend s b i slot m v).pair.sseq = s.pair.sseq := by
  simp [putPend]

@[simp] theorem applyRegTask_sseq (s : State) (d : Desc) : (applyRegTask s d).pair.sseq = s.pair.sseq := by
  unfold applyRegTask
  split
  · split <;> simp
  · rfl

@[simp] theorem startEffect_sseq (s : State) (t : Task) : (startEffect s t).pair.sseq = s.pair.sseq := by
  simp [startEffect]

@[simp] theorem startIfRoom_sseq (s : State) (t : Task) : (startIfRoom s t).pair.sseq = s.pair.sseq := by
  simp [startIfRoom]

@[simp] theorem startTask_sseq (s : State) (q : Nat) (desc : BitVec 512) (mine : Bool) (ue : List Nat) :
    (startTask s q desc mine ue).pair.sseq = s.pair.sseq := by
  simp [startTask]

@[simp] theorem askRepair_sseq (s : State) (dln : Nat) : (askRepair s dln).pair.sseq = s.pair.sseq := by
  unfold askRepair
  split
  · simp [takeMtag]
  · rfl

@[simp] theorem loseVolatile_sseq (s : State) : (loseVolatile s).pair.sseq = s.pair.sseq := rfl

@[simp] theorem switchOff_sseq (s : State) (cause : Option Nat) : (switchOff s cause).pair.sseq = s.pair.sseq := by
  unfold switchOff
  simp only
  split
  · simp
  · simp

@[simp] theorem drainMoves_sseq (ms : List Move) (s : State) : (drainMoves s ms).pair.sseq = s.pair.sseq := by
  induction ms generalizing s with
  | nil => rfl
  | cons m ms ih =>
    unfold drainMoves
    split <;> simp [ih]

@[simp] theorem sendNote_sseq (s : State) (cause : NoteCause) : (sendNote s cause).pair.sseq = s.pair.sseq := by
  simp [sendNote]

@[simp] theorem drainStart_sseq (s : State) (toHalt thermal lost : Bool) : (drainStart s toHalt thermal lost).pair.sseq = s.pair.sseq := by
  simp [drainStart]

@[simp] theorem stopFor_sseq (s : State) (code : Nat) : (stopFor s code).pair.sseq = s.pair.sseq := by
  unfold stopFor
  split
  case h_1 | h_2 => rfl
  case h_3 | h_4 => simp
  case h_5 | h_6 => split <;> simp

@[simp] theorem fatal_sseq (s : State) (src code a0 a1 a2 : Nat) : (fatal s src code a0 a1 a2).pair.sseq = s.pair.sseq := by simp [fatal]

@[simp] theorem reportCe_sseq (s : State) (src code a0 a1 a2 : Nat) : (reportCe s src code a0 a1 a2).pair.sseq = s.pair.sseq := by
  simp [reportCe]

@[simp] theorem reportUc_sseq (s : State) (src code a0 a1 a2 : Nat) : (reportUc s src code a0 a1 a2).pair.sseq = s.pair.sseq := by
  simp [reportUc]

@[simp] theorem report_sseq (s : State) (src code a0 a1 a2 : Nat) : (report s src code a0 a1 a2).pair.sseq = s.pair.sseq := by
  simp [report]

@[simp] theorem wayErr_sseq (s : State) (k : Nat) (a : ArrErr) : (wayErr s k a).pair.sseq = s.pair.sseq := by
  unfold wayErr
  simp only
  split
  · rfl
  · split
    · rfl
    · rfl
    · simp
    · split <;> simp
    · split <;> simp

@[simp] theorem checkWay_sseq (s : State) (k : Nat) : (checkWay s k).pair.sseq = s.pair.sseq := by simp [checkWay]

@[simp] theorem sendRefusal_sseq (s : State) (dln : Nat) : (sendRefusal s dln).pair.sseq = s.pair.sseq := by
  unfold sendRefusal
  split
  · rfl
  · have htag : (takeMtag s).2.pair.sseq = s.pair.sseq := rfl
    generalize takeMtag s = x at htag ⊢
    split
    simpa only [ite_pair, ite_sseq, send_sseq, ite_self] using htag

@[simp] theorem handOff_sseq (s : State) (dln : Nat) (v : LineV) : (handOff s dln v).1.pair.sseq = s.pair.sseq := by
  simp [handOff]

@[simp] theorem cleanWay_sseq (s : State) (k : Nat) : (Machine.cleanWay s k).pair.sseq = s.pair.sseq := by
  simp [Machine.cleanWay]

@[simp] theorem cleanTile_sseq (s : State) (ltn : Nat) : (cleanTile s ltn).pair.sseq = s.pair.sseq := by
  refine foldl_sseq _ _ _ fun s x => ?_
  split <;> simp

@[simp] theorem cloneTile_sseq (s : State) (src dst : Nat) (vals : List JVal) (e : MapEntry) :
    (cloneTile s src dst vals e).pair.sseq = s.pair.sseq := by
  unfold cloneTile
  simp only
  split
  · split <;> simp
  · rw [evalCapacity_sseq, discardLines_sseq]
    split <;> simp

@[simp] theorem checkLine_sseq (s : State) (dln : Nat) : (checkLine s dln).pair.sseq = s.pair.sseq := by
  unfold checkLine
  split <;> simp

@[simp] theorem accountBad_sseq (s : State) (ptn fslot : Nat) (ltn : Option Nat) (by_ : SenseBy) (code arg2 : Nat) :
    (accountBad s ptn fslot ltn by_ code arg2).pair.sseq = s.pair.sseq := by
  unfold accountBad
  simp only
  split <;> simp

@[simp] theorem account_sseq (s : State) (ptn fslot : Nat) (ltn : Option Nat) (by_ : SenseBy) (f : Sensed) (retried : Bool) :
    (account s ptn fslot ltn by_ f retried).pair.sseq = s.pair.sseq := by
  unfold account
  simp only
  split
  case h_4 => split <;> simp
  all_goals simp

@[simp] theorem checkTag_sseq (s : State) (k : Nat) : (checkTag s k).pair.sseq = s.pair.sseq := by
  simp [checkTag]

@[simp] theorem checkWrite_sseq (s : State) (w : WaitW) : (checkWrite s w).pair.sseq = s.pair.sseq := by
  unfold checkWrite
  split
  · split <;> simp
  · rfl

theorem takeWay_sseq {s t : State} {dln k : Nat} {ok : WayT → Bool} (h : takeWay s dln ok = some (k, t)) : t.pair.sseq = s.pair.sseq := by
  unfold takeWay at h
  split at h
  · cases h
  · cases h
    simp

theorem storeLine_sseq {s t : State} {dln : Nat} {v : LineV} (h : storeLine s dln v = some t) : t.pair.sseq = s.pair.sseq := by
  unfold storeLine at h
  simp only at h
  split at h
  · cases h
    simp
  · split at h
    · next hway =>
      cases h
      simpa using takeWay_sseq hway
    · cases h

@[simp] theorem mirrorLine_sseq (s : State) (dln : Nat) (v : LineV) (org : Origin) (part waited : Bool) :
    (mirrorLine s dln v org part waited).pair.sseq = s.pair.sseq := by
  simp [mirrorLine, takeMtag]

@[simp] theorem finishOrHold_sseq (s : State) (p : Port) (tag : Nat) (part : Bool) (ltn : Nat) :
    (finishOrHold s p tag part ltn).pair.sseq = s.pair.sseq := by
  simp [finishOrHold]

@[simp] theorem ackMir_sseq (s : State) (mtag : Nat) : (ackMir s mtag).pair.sseq = s.pair.sseq := by
  simp [ackMir]

@[simp] theorem finishFwd_sseq (s : State) (ftag : Nat) (waited : Bool) : (finishFwd s ftag waited).pair.sseq = s.pair.sseq := by
  unfold finishFwd
  split
  · rfl
  · next => simp

@[simp] theorem finishLocal_sseq (s : State) (org : Origin) (part : Bool) (dln : Nat) : (finishLocal s org part dln).pair.sseq = s.pair.sseq := by
  unfold finishLocal
  split
  case h_1 => simp
  case h_2 => simp only; split <;> simp
  all_goals rfl

theorem applyWrite_sseq {s t : State} {w : WaitW} {v : LineV} {filled : Bool} (h : applyWrite s w v filled = some t) :
    t.pair.sseq = s.pair.sseq := by
  unfold applyWrite at h
  simp only at h
  split at h
  · cases h
  · split at h
    · cases h
    · next hstore =>
      cases h
      simp only [evalStop_sseq, ite_pair, ite_sseq, mirrorLine_sseq, finishLocal_sseq, voidRepairs_sseq, ite_self]
      split
      · split
        · split <;> simp [storeLine_sseq hstore]
        · exact storeLine_sseq hstore
      · exact storeLine_sseq hstore

@[simp] theorem noteUnwrittenMerge_sseq (s : State) (dln p : Nat) : (noteUnwrittenMerge s dln p).pair.sseq = s.pair.sseq := by
  simp [noteUnwrittenMerge]

theorem applyFill_sseq {s t : State} {w : WaitW} {f : FillRes} (h : applyFill s w f = some t) : t.pair.sseq = s.pair.sseq := by
  obtain ⟨u, hu, rfl⟩ := Option.map_eq_some_iff.mp h
  have hkept := applyWrite_sseq hu
  split <;> simp [hkept]

theorem admitWrite_sseq {s t : State} {w : WaitW} (h : admitWrite s w = some t) : t.pair.sseq = s.pair.sseq := by
  unfold admitWrite at h
  simp only at h
  split at h
  · cases h
    simp
  · split at h
    · simpa using applyWrite_sseq h
    · split at h
      · simpa using applyWrite_sseq h
      · split at h
        · simpa using applyWrite_sseq h
        · simpa using applyFill_sseq h
        · have hmap : (lookMap (checkWrite s w) (ltnOf w.dln) (wAttr w)).1.pair.sseq = s.pair.sseq := by simp
          generalize lookMap (checkWrite s w) (ltnOf w.dln) (wAttr w) = x at h hmap
          obtain ⟨u, known⟩ := x
          simp only at h
          have hfill : ∀ t, (if (victimWay u w.dln (evictOk u)).isSome then
              some (startSense u w.dln false [.partialWr w] known (wAttr w)) else none) = some t → t.pair.sseq = s.pair.sseq := by
            intro t ht
            split at ht
            · cases ht
              simpa using hmap
            · cases ht
          split at h
          · exact hfill _ h
          · split at h
            · exact (applyWrite_sseq h).trans hmap
            · exact (applyWrite_sseq h).trans hmap
            · exact (applyWrite_sseq h).trans hmap
            · obtain ⟨v, hv, rfl⟩ := Option.map_eq_some_iff.mp h
              simpa using (applyWrite_sseq hv).trans hmap
            · exact hfill _ h

@[simp] theorem voidTile_sseq (s : State) (ltn : Nat) : (voidTile s ltn).pair.sseq = s.pair.sseq := voidRepairs_sseq ..

/-- The state in which an attempt at a unit ends. -/
def endState (r : UnitRes) : State :=
  match r with
  | .done s _ | .wait s | .stop s => s

theorem cloneUnit_sseq (s : State) (src dst : Nat) : (endState (cloneUnit s src dst)).pair.sseq = s.pair.sseq := by
  have hclean : (cleanTile (if pageHere s (pageOf src) then s else convertEntry s src) src).pair.sseq = s.pair.sseq := by simp
  unfold cloneUnit
  simp only
  generalize cleanTile (if pageHere s (pageOf src) then s else convertEntry s src) src = u at hclean ⊢
  split
  · simpa [endState] using hclean
  · split
    · exact hclean
    · split
      case h_1 | h_2 | h_3 => simpa [endState] using hclean
      case h_4 => split <;> simpa [endState] using hclean
      case h_5 =>
        split
        · exact hclean
        · split <;> simpa [endState] using hclean
      case h_6 | h_7 => exact hclean

theorem clearUnit_sseq (s : State) (dln : Nat) (ue : List Nat) : (endState (clearUnit s dln ue)).pair.sseq = s.pair.sseq := by
  have hpage : (if pageHere s (pageOf (ltnOf dln)) then s else convertEntry s (ltnOf dln)).pair.sseq = s.pair.sseq := by simp
  unfold clearUnit
  simp only
  generalize (if pageHere s (pageOf (ltnOf dln)) then s else convertEntry s (ltnOf dln)) = u at hpage ⊢
  split
  · exact hpage
  · have hline := (checkLine_sseq u dln).trans hpage
    generalize checkLine u dln = v at hline ⊢
    split
    · exact hline
    · split
      · simp only [endState]
        split <;> simp [hline]
      · split
        · next hadmit =>
          have hkept := (admitWrite_sseq hadmit).trans hline
          simp only [endState]
          split <;> simp [hkept]
        · exact hline

theorem doUnit_sseq (s : State) (t : Task) (u : Nat) : (endState (doUnit s t u)).pair.sseq = s.pair.sseq := by
  unfold doUnit
  simp only
  split
  · exact cloneUnit_sseq ..
  · split
    · exact clearUnit_sseq ..
    · split_ifs <;> simp [endState]

@[simp] theorem runInbox_sseq (q : Nat) (l : List (Nat × Nat)) (s : State) : (runInbox q l s).pair.sseq = s.pair.sseq := by
  induction l generalizing s with
  | nil => rfl
  | cons x l ih =>
    unfold runInbox
    split
    · rfl
    · next t _ =>
      have hunit := doUnit_sseq s t x.1
      split
      · rfl
      · split <;> next heq => simpa [heq, endState, ih] using hunit

@[simp] theorem afterHome_sseq (s : State) (t : Task) (u : Nat) : (afterHome s t u).pair.sseq = s.pair.sseq := by
  unfold afterHome
  split
  · rfl
  · simp [takeMtag]

@[simp] theorem runUnits_sseq (q : Nat) (l : List Nat) (s : State) : (runUnits q l s).pair.sseq = s.pair.sseq := by
  induction l generalizing s with
  | nil => rfl
  | cons x l ih =>
    unfold runUnits
    split
    · rfl
    · next t _ =>
      have hunit := doUnit_sseq s t x
      split
      · rfl
      · split <;> next heq => simpa [heq, endState, ih] using hunit

@[simp] theorem answerHost_sseq (s : State) (p : Port) (tag : Nat) (cmp : Bool) (bound dln : Option Nat) (v : LineV) (lat : Nat)
    (f : RdFlags) (path : Machine.Path) : (answerHost s p tag cmp bound dln v lat f path).pair.sseq = s.pair.sseq := by
  unfold answerHost
  simp only
  split <;> simp

@[simp] theorem fenceRead_sseq (s : State) (dln : Nat) (r : HostRd) (f : RdFlags) : (fenceRead s dln r f).pair.sseq = s.pair.sseq := by
  simp [fenceRead]

@[simp] theorem fenceWaiter_sseq (s : State) (dln : Nat) (f : RdFlags) (w : Waiter) : (fenceWaiter s dln f w).pair.sseq = s.pair.sseq := by
  cases w <;> simp [fenceWaiter]

@[simp] theorem answerAdmitted_sseq (s : State) : (answerAdmitted s).pair.sseq = s.pair.sseq := by
  unfold answerAdmitted
  simp only
  rw [foldl_sseq _ _ _ (by simp), foldl_sseq _ _ _ (by simp), foldl_sseq _ _ _ (by simp),
    foldl_sseq _ _ _ fun s x => foldl_sseq _ _ _ (by simp), foldl_sseq _ _ _ fun s x => foldl_sseq _ _ _ (by simp),
    foldl_sseq _ _ _ (by simp)]
  simp

@[simp] theorem ackInstalls_sseq (s : State) : (ackInstalls s).pair.sseq = s.pair.sseq := by
  refine foldl_sseq _ _ _ fun s w => ?_
  split <;> simp

@[simp] theorem fencedEvents_sseq (s : State) (entry : Bool) (l : List Nat) : (fencedEvents s entry l).pair.sseq = s.pair.sseq := by
  induction l generalizing s with
  | nil => rfl
  | cons p l ih => simp [fencedEvents, ih]

@[simp] theorem sanitizeAdvance_sseq (s : State) (t : Task) : (sanitizeAdvance s t).pair.sseq = s.pair.sseq := by
  simp [sanitizeAdvance]

@[simp] theorem sendDone_sseq (s : State) (q : Nat) (t : Task) : (sendDone s q t).pair.sseq = s.pair.sseq := by simp [sendDone]

@[simp] theorem dropTask_sseq (s : State) (q : Nat) (t : Task) : (dropTask s q t).pair.sseq = s.pair.sseq := by
  unfold dropTask
  split <;> simp [withoutTask]

@[simp] theorem endTask_sseq (s : State) (q : Nat) : (endTask s q).pair.sseq = s.pair.sseq := by
  unfold endTask
  split
  · rfl
  · split
    · simp
    · simp

@[simp] theorem treated_sseq (s : State) (q : Nat) (t : Task) : (treated s q t).pair.sseq = s.pair.sseq := by simp [treated]

/-- A task starts if that is still due, applies what has arrived of the peer's effects, treats its own units, and ends where it can. -/
theorem advanceTask_of_task {s : State} {q : Nat} {t : Task} (h : taskAt s q = some t) :
    advanceTask s q = endTask (treated (runInbox q t.inbox (if t.startDue then startIfRoom s t else s)) q t) q := by
  unfold advanceTask
  rw [h]
  rfl

@[simp] theorem advanceTask_sseq (s : State) (q : Nat) : (advanceTask s q).pair.sseq = s.pair.sseq := by
  cases h : taskAt s q with
  | none => simp [advanceTask, h]
  | some t => simp [advanceTask_of_task h]

@[simp] theorem sanitizeEnd_sseq (s : State) : (sanitizeEnd s).pair.sseq = s.pair.sseq := by
  simp [sanitizeEnd]

@[simp] theorem settleTasks_sseq (s : State) : (settleTasks s).pair.sseq = s.pair.sseq := by
  unfold settleTasks
  split
  · rfl
  · simp [foldl_sseq advanceTask]

@[simp] theorem ackTile_sseq (s : State) : (ackTile s).pair.sseq = s.pair.sseq := by
  unfold ackTile
  split
  · split <;> simp
  · rfl

@[simp] theorem endRotation_sseq (s : State) (i : Nat) (w : Well) : (endRotation s i w).pair.sseq = s.pair.sseq := by
  simp [endRotation]

@[simp] theorem endRotations_sseq (s : State) : (endRotations s).pair.sseq = s.pair.sseq :=
  foldl_sseq _ _ _ (by simp)

@[simp] theorem retryWrite_sseq (s : State) (w : WaitW) : (retryWrite s w).pair.sseq = s.pair.sseq := by
  unfold retryWrite
  split
  · simp
  · split
    · simp
    · split
      · next hadmit => exact admitWrite_sseq hadmit
      · simp

@[simp] theorem answer_sseq (s : State) (w : Waiter) (dln : Nat) (v : LineV) (ue : Bool) (lat : Nat) (f : RdFlags) (path : Machine.Path) :
    (answer s w dln v ue lat f path).pair.sseq = s.pair.sseq := by
  cases w <;> simp [answer]

@[simp] theorem installClean_sseq (s : State) (dln : Nat) (v : LineV) (pf : Bool) : (installClean s dln v pf).pair.sseq = s.pair.sseq := by
  unfold installClean
  split
  · rfl
  · split
    · rfl
    · next hway => simpa using takeWay_sseq hway

@[simp] theorem mapDramUe_sseq (s : State) (ltn : Nat) : (mapDramUe s ltn).1.pair.sseq = s.pair.sseq := by
  simp [mapDramUe]

@[simp] theorem answerNever_sseq (s : State) (w : Waiter) (dln lat : Nat) (f : RdFlags) (path : Machine.Path) :
    (answerNever s w dln lat f path).pair.sseq = s.pair.sseq := by
  simp [answerNever]

@[simp] theorem answerLost_sseq (s : State) (w : Waiter) (dln lat : Nat) (f : RdFlags) (path : Machine.Path) :
    (answerLost s w dln lat f path).pair.sseq = s.pair.sseq := by
  simp [answerLost]

@[simp] theorem serveRead_sseq (s : State) (dln : Nat) (w : Waiter) (env : RdEnv) : (serveRead s dln w env).pair.sseq = s.pair.sseq := by
  have hline : (checkLine (putUpset s dln env.arr) dln).pair.sseq = s.pair.sseq := by simp
  unfold serveRead
  split
  · simp
  · simp only
    generalize checkLine (putUpset s dln env.arr) dln = u at hline ⊢
    split
    · simp [hline]
    · split
      · simp [hline]
      · have hload : (if env.mapUe && (tlbWay u (ltnOf dln)).isNone && pageHere u (pageOf (ltnOf dln)) then mapDramUe u (ltnOf dln)
            else (u, false)).1.pair.sseq = s.pair.sseq := by
          split <;> simp [hline]
        generalize (if env.mapUe && (tlbWay u (ltnOf dln)).isNone && pageHere u (pageOf (ltnOf dln)) then mapDramUe u (ltnOf dln)
            else (u, false)) = x at hload ⊢
        have hmap : (if x.2 then (x.1, false) else lookMap x.1 (ltnOf dln) (rdAttr w dln)).1.pair.sseq = s.pair.sseq := by
          split <;> simp [hload]
        generalize (if x.2 then (x.1, false) else lookMap x.1 (ltnOf dln) (rdAttr w dln)) = y at hmap ⊢
        split
        · exact hmap
        · split
          · simpa using hmap
          · split <;> simp [hmap]

@[simp] theorem restartWaiters_sseq (dln : Nat) (l : List Waiter) (s : State) : (restartWaiters dln l s).pair.sseq = s.pair.sseq := by
  induction l generalizing s with
  | nil => rfl
  | cons w l ih => cases w <;> simp [restartWaiters, ih]

@[simp] theorem freeLock_sseq (s : State) (dln : Nat) (maint : Bool) : (freeLock s dln maint).pair.sseq = s.pair.sseq := by
  unfold freeLock
  split <;> simp

theorem waitItem_sseq (s : State) (op arg0 ord x : Nat) : (waitItem s op arg0 ord x).1.pair.sseq = s.pair.sseq := by
  unfold waitItem
  split
  · rfl
  · split
    · rfl
    · simp only
      split
      · split <;> simp
      · simp

theorem waitItems_sseq (op arg0 ord : Nat) (l : List Nat) (s : State) : (waitItems op arg0 ord l s).1.pair.sseq = s.pair.sseq := by
  induction l generalizing s with
  | nil => rfl
  | cons x l ih => simp [waitItems, ih, waitItem_sseq]

@[simp] theorem advanceRun_sseq (s : State) (r : Running) : (advanceRun s r).pair.sseq = s.pair.sseq := by
  unfold advanceRun
  simp only
  split
  · rfl
  · simp [waitItems_sseq]

/-- Letting commands go on gives no number out: that is done where a command is taken (10 R304). -/
@[simp] theorem settle_sseq (s : State) : (settle s).pair.sseq = s.pair.sseq := by
  unfold settle
  split
  · rfl
  · simp [foldl_sseq advanceRun]

/-! ## Commands of the pair (10 R304) -/

theorem mirroring_congr {s t : State} (h : t.pair.role = s.pair.role) : mirroring t = mirroring s := by simp [mirroring, h]

@[simp] theorem mirroring_arrive (s : State) (cls : Nat) : mirroring (arrive s cls) = mirroring s := mirroring_congr (by simp [withArrival])

@[simp] theorem taskAt_arrive (s : State) (cls q : Nat) : taskAt (arrive s cls) q = taskAt s q := by simp [taskAt]

@[simp] theorem modRun_sseq (s : State) (r : Running) (f : Running → Running) : (modRun s r f).pair.sseq = s.pair.sseq := rfl

/-- Giving a number out takes it. -/
theorem sequence_sseq (s : State) (desc : BitVec 512) (r : Option Running) (mine : Bool) (ue : List Nat) :
    (Machine.sequence s desc r mine ue).pair.sseq = (s.pair.sseq + 1) % 2 ^ 40 := by
  unfold Machine.sequence
  cases r <;> simp [takeMtag]

theorem stateOpCmdF_of_seat_a {s : State} {q : Nat} {desc : BitVec 512} {ue : List Nat} (h : works s = true) (hmir : mirroring s = true)
    (hseat : s.pwr.seat = false) : stateOpCmdF s q desc ue = settle (Machine.sequence (arrive s 1) desc none false ue) := by
  simp [stateOpCmdF, h, hmir, hseat]

/-- Outside PAIRED and RESYNC a command is taken off the link alone, unless a join sends its registers (10 R305). -/
theorem stateOpCmdF_of_no_pair {s : State} {q : Nat} {desc : BitVec 512} {ue : List Nat} (h : works s = true) (hmir : mirroring s = false)
    (hrole : s.pair.role ≠ .joining) : stateOpCmdF s q desc ue = arrive s 1 := by
  simp [stateOpCmdF, h, hmir, withArrival, hrole]

theorem stateOpCmdF_sseq_of_seat_b {s : State} {q : Nat} {desc : BitVec 512} {ue : List Nat} (h : works s = true) (hmir : mirroring s = true)
    (hseat : s.pwr.seat = true) : (stateOpCmdF s q desc ue).pair.sseq = (q + 1) % 2 ^ 40 := by
  have hseat' : (arrive s 1).pwr.seat = true := by simp [hseat]
  simp only [stateOpCmdF, h, mirroring_arrive, hmir, hseat', Bool.not_true, Bool.false_eq_true, if_true, if_false, settle_sseq, startTask_sseq]
  split <;> rfl

/-- The tile effect of a command that has not arrived, kept. -/
def withEarly (s : State) (x : Nat × Nat × Nat) : State := { s with cmds := { s.cmds with early := s.cmds.early ++ [x] } }

theorem stateOpTileF_of_no_task {s : State} {mtag ltn q : Nat} (h : works s = true) (hmir : mirroring s = true) (htasks : s.cmds.tasks = []) :
    stateOpTileF s mtag ltn q = settle (withEarly (arrive s 0) (mtag, ltn, q)) := by
  simp [stateOpTileF, h, hmir, htasks, findP, withEarly]

/-- Where nothing waits, settling leaves the kept tile effects as they are. -/
theorem settle_early_of_noWork {s : State} (h : NoWork s) (hsync : s.pair.syncing = none) : (settle s).cmds.early = s.cmds.early := by
  unfold settle
  split
  · rfl
  · rw [ackTile_idle s hsync]
    have hend (u : State) (hrun : u.cmds.run = []) (hkeys : u.keys = s.keys) : endRotations (u.cmds.run.foldl advanceRun u) = u := by
      rw [hrun, List.foldl_nil, endRotations_idle u (by rw [hkeys]; exact h.keys)]
    rcases settleTasks_of_noWork h with e | e
    · simp only [e, hend s h.run rfl]
    · simp only [e, hend (setHold (setHold s)) h.run rfl]
      rfl

theorem stateOpDoneF_of_no_task {s : State} {q status : Nat} (h : works s = true) (hmir : mirroring s = true) (htask : taskAt s q = none) :
    stateOpDoneF s q status =
      { arrive s 3 with cmds := { s.cmds with earlyDone := s.cmds.earlyDone ++ [(q, status)] } } := by
  simp [stateOpDoneF, h, hmir, htask]

/-- Settles O16: the number is written where a command is taken, and nothing that then starts or goes on writes it again (settle_sseq). -/
theorem pairCommandsWaitForTheirOrder : Obligations.PairCommandsWaitForTheirOrder := by
  unfold Obligations.PairCommandsWaitForTheirOrder
  refine ⟨?_, ?_, ?_, ?_, ?_⟩
  · intro s mtag q d ue h hmir hrole
    refine ⟨arrive s 1, congrArg Host.Outcome.next (stateOpCmdF_of_no_pair h hmir hrole), ?_⟩
    simp [withArrival]
  · intro s mtag q d ue h hmir hseat
    refine ⟨_, congrArg Host.Outcome.next (stateOpCmdF_of_seat_a h hmir hseat), ?_⟩
    rw [settle_sseq, sequence_sseq, Proofs.Memory.arrive_pair]
    rfl
  · intro s mtag q d ue h hmir hseat
    exact ⟨_, rfl, stateOpCmdF_sseq_of_seat_b h hmir hseat⟩
  · intro s mtag ltn q h hmir hquiet
    have hidle : NoWork s := .of_quiescent hquiet
    obtain ⟨-, hsync, -⟩ := hquiet
    have hkept : NoWork (withEarly (arrive s 0) (mtag, ltn, q)) :=
      ⟨hidle.tasks, hidle.run, hidle.sanStep, hidle.keys⟩
    refine ⟨_, congrArg Host.Outcome.next (stateOpTileF_of_no_task h hmir hidle.tasks), ?_, ?_⟩
    · rw [settle_early_of_noWork hkept (by simpa [withEarly, withArrival] using hsync)]
      simp [withEarly]
    · rw [(settle_of_noWork hkept).1]
      simp [withEarly]
  · intro s q st h hmir htask
    refine ⟨_, congrArg Host.Outcome.next (stateOpDoneF_of_no_task h hmir htask), rfl, rfl, ?_⟩
    simp

end Sys2Proof.Proofs.Spinel
end

section
/-! PROOF. The statements of the host ports (11): training, decoders and IDE failures, the rings' descriptors and completions, the mailbox,
and what each named command leaves as it was. -/

namespace Sys2Proof.Proofs.HostPorts

open Sys2Proof Sys2Proof.Machine Sys2Proof.Safety
open Sys2Proof.Proofs.WritePath (quiescent_congr)

/-! ## Reading a port, a ring and a setting after an update -/

@[simp] theorem portAt_emit (s : State) (o : Out) (q : Nat) : portAt (emit s o) q = portAt s q := portAt_congr (by simp) q
@[simp] theorem portAt_mboxAns (s : State) (p : Port) (code : Nat) (l : List Nat) (q : Nat) : portAt (mboxAns s p code l) q = portAt s q :=
  portAt_emit ..
@[simp] theorem portAt_flagPort (s : State) (p bit q : Nat) : portAt (flagPort s p bit) q = portAt s q := portAt_congr (by simp) q
@[simp] theorem ringAt_emit (s : State) (o : Out) (q : Nat) : ringAt (emit s o) q = ringAt s q := ringAt_congr (by simp) q

theorem portAt_modPort_other (s : State) (f : PortSt → PortSt) {p q : Nat} (h : q ≠ p) : portAt (modPort s p f) q = portAt s q := by
  simp [h.symm]

theorem ringAt_modRing_other (s : State) (f : Ring → Ring) {p q : Nat} (h : q ≠ p) : ringAt (modRing s p f) q = ringAt s q := by
  simp [h.symm]

@[simp] theorem ringAt_flagCplFull (s : State) (p q : Nat) : ringAt (flagCplFull s p) q = ringAt s q := ringAt_congr (by simp) q

/-- The flags of a port are not its LINK_CTL. -/
theorem cellAt_flagPort_linkCtl (s : State) (p bit : Nat) : cellAt (flagPort s p bit) .port p 1 = cellAt s .port p 1 :=
  cellAt_setCell_other _ _ _ _ _ _ _ _ (by simp [regKey])

/-! ## Training (R356, R361, R365) -/

/-- The state in which a port that was up has noted that its link went down. -/
def linkNoted (s : State) (p : Nat) : State := if (portAt s p).linkUp then flagPort s p 0 else s

@[simp] theorem portAt_linkNoted (s : State) (p q : Nat) : portAt (linkNoted s p) q = portAt s q := by
  unfold linkNoted
  split <;> simp

@[simp] theorem linkNoted_keeps (s : State) (p : Nat) : (linkNoted s p).rings = s.rings ∧ (linkNoted s p).pwr = s.pwr ∧
    (linkNoted s p).tabs = s.tabs := by
  unfold linkNoted
  split <;> simp

theorem regB_linkNoted (s : State) (p k : Nat) : regB (linkNoted s p) .port p 1 k = regB s .port p 1 k := by
  unfold linkNoted
  split
  · rw [regB, regB, cellAt_flagPort_linkCtl]
  · rfl

/-- A port without a link. -/
def untrained (x : PortSt) : PortSt := { x with linkUp := false, width := 0, rate := 0, lanes := 0 }

/-- A port with a link of a width code and a rate. -/
def trained (w r : Nat) (active : Bool) (x : PortSt) : PortSt :=
  { x with linkUp := true, width := widthLanes w, rate := r, lanes := widthLanes w, memActive := active }

/-- The smaller of what the partner offers and LINK_CTL allows. -/
def allowed (offered max : Nat) : Nat := if offered < max then offered else max

theorem allowed_pos {a b : Nat} (ha : 0 < a) (hb : 0 < b) : allowed a b ≠ 0 := by
  unfold allowed
  split <;> omega

theorem widthFor_pos {lanes : Nat} (h : 4 ≤ lanes) : 0 < widthFor lanes := by
  simp only [widthFor]
  split_ifs <;> omega

/-- A link narrower or slower than LINK_CTL allows is flagged. -/
def degradeNoted (s : State) (p w maxW r maxR : Nat) : State := if w < maxW ∨ r < maxR then flagPort s p 1 else s

@[simp] theorem portAt_degradeNoted (s : State) (p w maxW r maxR q : Nat) : portAt (degradeNoted s p w maxW r maxR) q = portAt s q := by
  unfold degradeNoted
  split <;> simp

@[simp] theorem degradeNoted_keeps (s : State) (p w maxW r maxR : Nat) : (degradeNoted s p w maxW r maxR).rings = s.rings ∧
    (degradeNoted s p w maxW r maxR).pwr = s.pwr ∧ (degradeNoted s p w maxW r maxR).tabs = s.tabs := by
  unfold degradeNoted
  split <;> simp

section Training

variable {s : State} {p : Port} {lanes rate : Nat} {clk : Bool}

theorem linkTrainingF_of_closed (h : canTrain s p.val = false) : linkTrainingF s p lanes rate clk = s := by simp [linkTrainingF, h]

theorem linkTrainingF_of_mismatch (h : canTrain s p.val = true) (hclk : clk ≠ regB s .port p.val 1 0) :
    linkTrainingF s p lanes rate clk = modPort (linkNoted s p.val) p.val untrained := by
  unfold linkTrainingF
  rw [if_pos h]
  exact if_pos (.inl (regB_linkNoted s p.val 0 ▸ hclk))

theorem linkTrainingF_of_match (h : canTrain s p.val = true) (hclk : clk = regB s .port p.val 1 0)
    (hw : allowed (widthFor lanes) (regF s .port p.val 1 4 3) ≠ 0) (hr : allowed rate (regF s .port p.val 1 2 1) ≠ 0) :
    linkTrainingF s p lanes rate clk =
      degradeNoted (modPort (linkNoted s p.val) p.val
          (trained (allowed (widthFor lanes) (regF s .port p.val 1 4 3)) (allowed rate (regF s .port p.val 1 2 1))
            (decide ((linkNoted s p.val).pwr.st = .service))))
        p.val (allowed (widthFor lanes) (regF s .port p.val 1 4 3)) (regF s .port p.val 1 4 3)
        (allowed rate (regF s .port p.val 1 2 1)) (regF s .port p.val 1 2 1) := by
  have hagree : ¬ (clk ≠ regB (linkNoted s p.val) .port p.val 1 0 ∨ allowed (widthFor lanes) (regF s .port p.val 1 4 3) = 0
      ∨ allowed rate (regF s .port p.val 1 2 1) = 0) := by
    rw [regB_linkNoted]
    simp [hclk, hw, hr]
  unfold linkTrainingF
  rw [if_pos h]
  exact if_neg hagree

end Training

/-! ## IDE failures and decoders (R345, R355) -/

/-- A port whose CXL.mem stream has failed its integrity. -/
def insecure (x : PortSt) : PortSt := { x with ideMem := false, ideFailed := true }

theorem ideIntegrityFailureF_of_secure {s : State} {p : Port} (hlink : (portAt s p.val).linkUp = true) (hide : (portAt s p.val).ideMem = true) :
    ideIntegrityFailureF s p = emit (flagPort (modPort s p.val insecure) p.val 3) (.aer p 2) :=
  if_pos (by simp [hlink, hide])

theorem ideIntegrityFailureF_of_insecure {s : State} {p : Port} (hide : (portAt s p.val).ideMem = false) : ideIntegrityFailureF s p = s := by
  simp [ideIntegrityFailureF, hide]

theorem hdmDecoderCommitF_of_on {s : State} {p : Port} (i : Fin 4) (d : Hdm) (h : domOn s (2 + p.val) = true) :
    hdmDecoderCommitF s p i d = modPort s p.val (fun x => { x with hdm := sSet hdmInit x.hdm i.val d }) := if_pos h

theorem hdmDecoderCommitF_of_off {s : State} {p : Port} (i : Fin 4) (d : Hdm) (h : domOn s (2 + p.val) = false) :
    hdmDecoderCommitF s p i d = s := by simp [hdmDecoderCommitF, h]

/-- Settles O20, by the equation of each command in each of its cases. -/
theorem portsTrainAndDecode : Obligations.PortsTrainAndDecode := by
  unfold Obligations.PortsTrainAndDecode
  refine ⟨?_, ?_, ?_, ?_, ?_, ?_, ?_⟩
  · intro s p lanes rate clk hclosed
    exact ⟨_, rfl, linkTrainingF_of_closed hclosed⟩
  · intro s p lanes rate clk hopen hclk
    refine ⟨_, rfl, ?_⟩
    rw [linkTrainingF_of_mismatch hopen hclk]
    simp [untrained]
  · intro s p lanes rate hopen hlanes hrate hmaxR hmaxW
    have hw := allowed_pos (widthFor_pos hlanes) hmaxW
    have hr := allowed_pos hrate hmaxR
    refine ⟨_, rfl, ?_⟩
    rw [linkTrainingF_of_match hopen rfl hw hr]
    refine ⟨by simp [trained], by simp [trained, allowed], by simp [trained, allowed], fun q hq => ?_, by simp, by simp, by simp⟩
    simp [hq.symm]
  · intro s p hlink hide
    refine ⟨_, rfl, ?_⟩
    rw [ideIntegrityFailureF_of_secure hlink hide]
    simp [insecure, hlink]
  · intro s p hide
    exact ⟨_, rfl, ideIntegrityFailureF_of_insecure hide⟩
  · intro s p i d hon
    refine ⟨_, rfl, ?_⟩
    rw [hdmDecoderCommitF_of_on i d hon]
    refine ⟨by simp, fun j hj => ?_, fun q hq => portAt_modPort_other s _ hq⟩
    simp [sGet_sSet_other _ _ _ hj.symm]
  · intro s p i d hoff
    exact ⟨_, rfl, hdmDecoderCommitF_of_off i d hoff⟩

/-! ## Descriptors in (12 R367, R373, R374; 11 R363) -/

/-- A descriptor as it is fetched. -/
def fetched (src : Nat) (desc : BitVec 512) (payload : List (BitVec 8)) : Running :=
  { src := src, desc := desc, payload := payload, started := false, ord := 0, prog := 0, waitJ := none, waitLines := [], sseq := none,
    waitStore := none, status := 0, result := 0 }

/-- The state in which a descriptor has joined those that run. -/
def withRun (s : State) (r : Running) : State := { s with cmds := { s.cmds with run := s.cmds.run ++ [r] } }

@[simp] theorem ringAt_withRun (s : State) (r : Running) (q : Nat) : ringAt (withRun s r) q = ringAt s q := rfl

theorem takeDesc_of_known {s : State} {src : Nat} {desc : BitVec 512} (payload : List (BitVec 8)) (htag : tagBusy s src (descOf desc).tag = false)
    (hop : opKnown (descOf desc).opcode = true) (hsan : sanBusy s = false) :
    takeDesc s src desc payload = withRun s (fetched src desc payload) := by
  simp [takeDesc, htag, hop, hsan, withRun, fetched]

theorem takeDesc_of_unknown {s : State} {src : Nat} {desc : BitVec 512} (payload : List (BitVec 8))
    (htag : tagBusy s src (descOf desc).tag = false) (hop : opKnown (descOf desc).opcode = false) :
    takeDesc s src desc payload = postCpl s src (descOf desc) 1 0 [] := by
  simp [takeDesc, htag, hop]

/-- A completion with an error joins its port's ring, in every state of the command registers. -/
theorem wait_postCpl_error {s : State} (p : Port) (d : Desc) {status : Nat} (h0 : status ≠ 0) (hb : status ≠ 0x0B) :
    (ringAt (postCpl s p.val d status 0 []) p.val).wait = (ringAt s p.val).wait ++ [cplOf d status 0] := by
  rw [postCpl_port s p.val p.isLt]
  simp [h0, hb, cplOf]

/-- The state in which a port's ring has given its next descriptor: CMD_HEAD has advanced. -/
def headAdvanced (s : State) (p : Nat) : State := modRing s p (fun r => { r with head := (r.head + 1) % cmdSize s p })

theorem ringAt_headAdvanced (s : State) (p : Nat) :
    ringAt (headAdvanced s p) p = { ringAt s p with head := ((ringAt s p).head + 1) % cmdSize s p } := by
  simp [headAdvanced]

theorem tagBusy_headAdvanced (s : State) (p src : Nat) (tag : BitVec 16) : tagBusy (headAdvanced s p) src tag = tagBusy s src tag := by
  by_cases h : p = src
  · subst h
    simp [tagBusy, headAdvanced]
  · simp [tagBusy, headAdvanced, h]

section Fetch

variable {s : State} {p : Nat}

theorem descriptorFetchF_of_nothing (d : Option (BitVec 512)) (h : (ringAt s p).enabled = false ∨ (ringAt s p).head = (ringAt s p).tail) :
    descriptorFetchF s p d = s := by
  unfold descriptorFetchF
  refine if_neg ?_
  rcases h with h | h <;> simp [h]

theorem descriptorFetchF_of_waiting (d : BitVec 512) (hst : s.pwr.st = .service) (hdom : domOn s (2 + p) = true)
    (hen : (ringAt s p).enabled = true) (hne : (ringAt s p).head ≠ (ringAt s p).tail) (hrun : runCount s p < maxRun s p) :
    descriptorFetchF s p (some d) = takeDesc (headAdvanced s p) p d [] :=
  if_pos (by simp [hst, hdom, hen, hne, hrun])

end Fetch

theorem sidebandDescriptorF_of_service {s : State} (desc : BitVec 512) (payload : List (BitVec 8)) (hst : s.pwr.st = .service)
    (hrun : runCount s 4 < 64) : sidebandDescriptorF s desc payload = takeDesc s 4 desc payload := by
  simp [sidebandDescriptorF, hst, hrun]

/-- In STANDBY only EVENT_READ (0x0A) and HEALTH_REPORT (0x13) run. -/
theorem sidebandDescriptorF_of_standby {s : State} (desc : BitVec 512) (payload : List (BitVec 8)) (hst : s.pwr.st = .standby)
    (htag : tagBusy s 4 (descOf desc).tag = false) (hop : opKnown (descOf desc).opcode = true) (hevent : (descOf desc).opcode ≠ 0x0A)
    (hhealth : (descOf desc).opcode ≠ 0x13) : sidebandDescriptorF s desc payload = postCpl s 4 (descOf desc) 8 0 [] := by
  simp [sidebandDescriptorF, hst, htag, hop, hevent, hhealth]

theorem setEndpointIdF_of_on {s : State} (eid : BitVec 8) (h : s.pwr.st ≠ .off) :
    setEndpointIdF s eid = emit { s with pwr := { s.pwr with eid := eid } } (.sbControl eid) := if_neg h

theorem setEndpointIdF_of_off {s : State} (eid : BitVec 8) (h : s.pwr.st = .off) : setEndpointIdF s eid = s := if_pos h

/-! ## Completions out (12 R368, R371) -/

/-- The place of the next completion, after the one at CPL_TAIL. -/
def nextTail (s : State) (p : Nat) : Nat := ((ringAt s p).cplTail + 1) % cplSize s p

/-- The state in which completion `c` has been written at CPL_TAIL and `rest` still wait. -/
def cplWritten (s : State) (p : Nat) (c : Cpl) (rest : List Cpl) : State :=
  modRing (emit s (.dma p (cplBase s p + (ringAt s p).cplTail * 16) (leBytes 16 (cplBits c (ringAt s p).head (ringAt s p).ph)))) p
    (fun r => { r with wait := rest, cplTail := nextTail s p, ph := if nextTail s p = 0 then !r.ph else r.ph })

/-- What raising a vector leaves as it was: of its ring all but the vectors' windows, and what was sent before. -/
theorem raiseVec_spec (s : State) (p : Port) (vec : Nat) : (ringAt (raiseVec s p vec) p.val).wait = (ringAt s p.val).wait ∧
    (ringAt (raiseVec s p vec) p.val).cplTail = (ringAt s p.val).cplTail ∧ (raiseVec s p vec).cmds = s.cmds ∧
    ∀ o ∈ s.out, o ∈ (raiseVec s p vec).out := by
  unfold raiseVec
  simp only
  split
  · simp +contextual
  · split <;> simp

section Completion

variable {s : State} {p : Port} {c : Cpl} {rest : List Cpl} {ok : Bool}

theorem completionWriteF_of_none (h : (ringAt s p.val).wait = []) : completionWriteF s p ok = s := by simp [completionWriteF, h]

theorem completionWriteF_of_full (hst : s.pwr.st = .service) (hdom : domOn s (2 + p.val) = true) (hwait : (ringAt s p.val).wait = c :: rest)
    (hfull : nextTail s p.val = (ringAt s p.val).cplHead) : completionWriteF s p ok = flagRing s p.val 4 := by
  simp only [nextTail] at hfull
  simp [completionWriteF, hst, hdom, hwait, hfull]

theorem completionWriteF_of_room (hst : s.pwr.st = .service) (hdom : domOn s (2 + p.val) = true) (hwait : (ringAt s p.val).wait = c :: rest)
    (hroom : nextTail s p.val ≠ (ringAt s p.val).cplHead) : completionWriteF s p true =
      if c.noirq then cplWritten s p.val c rest else raiseVec (cplWritten s p.val c rest) p c.vec := by
  have hup : ¬ (!(domOn s (2 + p.val) && true)) = true := by simp [hdom]
  simp only [completionWriteF, hst, hwait]
  exact (if_neg hup).trans ((if_neg hroom).trans (if_neg (by decide)))

end Completion

theorem coalWindowEndF_of_due {s : State} {p : Port} {v : Nat} (hset : sGet 0 (ringAt s p.val).vecs v ≠ 0)
    (hdue : sGet 0 (ringAt s p.val).vecs v ≤ now s + 1) :
    coalWindowEndF s p v = emit (modRing s p.val (fun r => { r with vecs := sSet 0 r.vecs v 0 })) (.msix p v) :=
  if_pos (by simp [hset, hdue])

theorem coalWindowEndF_of_none {s : State} {p : Port} {v : Nat} (h : sGet 0 (ringAt s p.val).vecs v = 0) : coalWindowEndF s p v = s :=
  if_neg (by simp [h])

/-- Settles O37, by the equation of each command in each of its cases. -/
theorem ringsFetchAndComplete : Obligations.RingsFetchAndComplete := by
  unfold Obligations.RingsFetchAndComplete
  refine ⟨?_, ?_, ?_, ?_, ?_, ?_, ?_, ?_, ?_, ?_, ?_, ?_⟩
  · intro s p d h
    exact ⟨_, rfl, descriptorFetchF_of_nothing d h⟩
  · intro s p d hst hdom hen hne hrun htag hop hsan
    refine ⟨_, rfl, ?_⟩
    rw [descriptorFetchF_of_waiting d hst hdom hen hne hrun, takeDesc_of_known (s := headAdvanced s p.val) [] (by rwa [tagBusy_headAdvanced]) hop hsan]
    simp only [ringAt_withRun, ringAt_headAdvanced]
    exact ⟨⟨fetched p.val d [], rfl, rfl, rfl, rfl⟩, trivial, trivial, rfl, fun q hq => ringAt_modRing_other s _ hq⟩
  · intro s p d hst hdom hen hne hrun htag hop
    refine ⟨_, rfl, ?_⟩
    rw [descriptorFetchF_of_waiting d hst hdom hen hne hrun, takeDesc_of_unknown [] (by rwa [tagBusy_headAdvanced]) hop]
    refine ⟨by simp [headAdvanced], ?_⟩
    rw [wait_postCpl_error p _ (by decide) (by decide), ringAt_headAdvanced]
  · intro s p ok hnone
    exact ⟨_, rfl, completionWriteF_of_none hnone⟩
  · intro s p c rest hst hdom hwait hroom
    refine ⟨_, rfl, ?_⟩
    rw [completionWriteF_of_room hst hdom hwait hroom]
    split
    · simp [cplWritten, nextTail]
    · obtain ⟨hw, htail, hcmds, hout⟩ := raiseVec_spec (cplWritten s p.val c rest) p c.vec
      refine ⟨hw.trans (by simp [cplWritten]), htail.trans (by simp [cplWritten, nextTail]), hcmds, hout _ (by simp [cplWritten])⟩
  · intro s p c rest ok hst hdom hwait hfull
    refine ⟨_, rfl, ?_⟩
    rw [completionWriteF_of_full hst hdom hwait hfull]
    simp
  · intro s p v hset hdue
    refine ⟨_, rfl, ?_⟩
    rw [coalWindowEndF_of_due hset hdue]
    simp
  · intro s p v hnone
    exact ⟨_, rfl, coalWindowEndF_of_none hnone⟩
  · intro s d pl hst hrun htag hop hsan
    refine ⟨_, rfl, ?_⟩
    rw [sidebandDescriptorF_of_service d pl hst hrun, takeDesc_of_known pl htag hop hsan]
    exact ⟨⟨fetched 4 d pl, rfl, rfl, rfl, rfl, rfl⟩, rfl⟩
  · intro s d pl hst htag hop hevent hhealth
    exact ⟨_, rfl, sidebandDescriptorF_of_standby d pl hst htag hop hevent hhealth⟩
  · intro s eid hon
    exact ⟨_, rfl, setEndpointIdF_of_on eid hon⟩
  · intro s eid hoff
    exact ⟨_, rfl, setEndpointIdF_of_off eid hoff⟩

/-! ## The mailbox's gate (R346) -/

section Gate

variable {s : State} {p : Port}

theorem mboxCmd_of_service (inBoot : Bool) (f : State → State) (hlink : (portAt s p.val).linkUp = true) (hst : s.pwr.st = .service) :
    mboxCmd s p inBoot f = f s := by
  simp [mboxCmd, hlink, hst]

theorem mboxCmd_of_available (f : State → State) (hlink : (portAt s p.val).linkUp = true) (hst : s.pwr.st = .service ∨ s.pwr.st = .boot) :
    mboxCmd s p true f = f s := by
  rcases hst with hst | hst <;> simp [mboxCmd, hlink, hst]

theorem mboxCmd_of_busy (f : State → State) (hlink : (portAt s p.val).linkUp = true) (hst : s.pwr.st = .boot) :
    mboxCmd s p false f = emit s (.mbox p 1 []) := by
  simp [mboxCmd, hlink, hst, mboxAns]

end Gate

/-- Settles O46: each command is the mailbox's gate around one response. -/
theorem mailboxReadsAnswer : Obligations.MailboxReadsAnswer := by
  unfold Obligations.MailboxReadsAnswer
  refine ⟨?_, ?_, ?_⟩
  · intro s p hlink hst
    have run (f : State → State) : Host.Outcome.next (mboxCmd s p true f) = (.next (f s) : Host.Outcome State Fault Refusal) :=
      congrArg _ (mboxCmd_of_available f hlink hst)
    exact ⟨run _, run _, run _, ⟨_, run _⟩, ⟨_, rfl, run _⟩, run _, run _, run _, run _, run _, fun _ => run _⟩
  · intro s p hlink hst
    have run (f : State → State) : Host.Outcome.next (mboxCmd s p false f) = (.next (f s) : Host.Outcome State Fault Refusal) :=
      congrArg _ (mboxCmd_of_service false f hlink hst)
    exact ⟨run _, run _, _, run _⟩
  · intro s p hlink hst c hc
    have busy (f : State → State) :
        Host.Outcome.next (mboxCmd s p false f) = (.next (emit s (.mbox p 1 [])) : Host.Outcome State Fault Refusal) :=
      congrArg _ (mboxCmd_of_busy f hlink hst)
    simp only [List.mem_cons, List.not_mem_nil, or_false] at hc
    rcases hc with rfl | rfl | rfl | rfl | rfl <;> exact busy _

/-! ## The shutdown page (16 R481) -/

/-- Bits [hi:lo] of a number, one by one. -/
theorem testBit_bitsOf (x hi lo j : Nat) : (bitsOf x hi lo).testBit j = (decide (j < hi + 1 - lo) && x.testBit (lo + j)) := by
  simp [bitsOf, Nat.testBit_mod_two_pow]

/-- A page after a field is written, bit by bit. -/
theorem getLsbD_pgWith (pg : Page) (hi lo v k : Nat) (hk : k < 2048) : (pgWith pg hi lo v).getLsbD k =
    if lo ≤ k ∧ k < lo + (hi + 1 - lo) then v.testBit (k - lo) else pg.getLsbD k := by
  simp only [pgWith, BitVec.getLsbD_or, BitVec.getLsbD_and, BitVec.getLsbD_not, BitVec.getLsbD_ofNat, hk, decide_true, Bool.true_and,
    Nat.testBit_mul_two_pow, Nat.testBit_two_pow_sub_one, Nat.testBit_mod_two_pow]
  by_cases hlo : lo ≤ k
  · by_cases hhi : k < lo + (hi + 1 - lo)
    · have : k - lo < hi + 1 - lo := by omega
      simp [hlo, hhi, this]
    · have : ¬ k - lo < hi + 1 - lo := by omega
      simp [hlo, hhi, this]
  · simp [hlo]

theorem bitsOf_pgWith_same (pg : Page) {hi lo : Nat} (v : Nat) (hhi : hi < 2048) :
    bitsOf (pgWith pg hi lo v).toNat hi lo = v % 2 ^ (hi + 1 - lo) := by
  apply Nat.eq_of_testBit_eq
  intro j
  rw [testBit_bitsOf, Nat.testBit_mod_two_pow]
  by_cases hj : j < hi + 1 - lo
  · rw [BitVec.testBit_toNat, getLsbD_pgWith _ _ _ _ _ (by omega), if_pos (by omega), Nat.add_sub_cancel_left]
  · simp [hj]

theorem bitsOf_pgWith_below (pg : Page) {hi lo hi' lo' : Nat} (v : Nat) (hlt : hi' < lo) (hlo : lo ≤ 2048) :
    bitsOf (pgWith pg hi lo v).toNat hi' lo' = bitsOf pg.toNat hi' lo' := by
  apply Nat.eq_of_testBit_eq
  intro j
  rw [testBit_bitsOf, testBit_bitsOf]
  by_cases hj : j < hi' + 1 - lo'
  · rw [BitVec.testBit_toNat, BitVec.testBit_toNat, getLsbD_pgWith _ _ _ _ _ (by omega), if_neg (by omega)]
  · simp [hj]

theorem promoteOps_image (n : Nat) (s : State) : (promoteOps n s).beryl.image = s.beryl.image := by
  induction n generalizing s with
  | zero => rfl
  | succ n ih =>
    unfold promoteOps
    split
    · rfl
    · split
      · rfl
      · simp only
        split
        · simp [ih]
        · rfl

theorem startStore_image (s : State) (kind : Nat) (rs : List (Nat × Nat)) (ahead : Bool) :
    (startStore s kind rs ahead).beryl.image = s.beryl.image := promoteOps_image _ _

theorem pgGet_of_image {s t : State} (h : t.beryl.image = s.beryl.image) (n hi lo : Nat) : pgGet t n hi lo = pgGet s n hi lo := by
  rw [pgGet, pgGet, pageAt, pageAt, h]

theorem pgGet_pgPut (s : State) (n hi lo v hi' lo' : Nat) :
    pgGet (pgPut s n hi lo v) n hi' lo' = bitsOf (pgWith (pageAt s n) hi lo v).toNat hi' lo' := by
  rw [pgGet, pgPut, pageAt_setPage, if_pos rfl]

theorem pgGet_storeShut (s : State) (n hi lo : Nat) : pgGet (storeShut s) n hi lo = pgGet s n hi lo :=
  pgGet_of_image (startStore_image ..) n hi lo

/-- The state in which the host's shutdown state stands in its settings page. -/
def shutdownSet (s : State) (clean : Bool) : State := storeShut (pgPut s pgShutdown 54 54 (b2n (!clean)))

theorem shutdownSet_bit (s : State) (clean : Bool) : pgGet (shutdownSet s clean) pgShutdown 54 54 = b2n (!clean) := by
  rw [shutdownSet, pgGet_storeShut, pgGet_pgPut, bitsOf_pgWith_same _ _ (by decide)]
  cases clean <;> rfl

theorem shutCode_shutdownSet (s : State) (clean : Bool) : shutCode (shutdownSet s clean) = shutCode s := by
  rw [shutCode, shutdownSet, pgGet_storeShut, pgGet_pgPut, bitsOf_pgWith_below _ _ (by decide) (by decide), shutCode, pgGet]

/-! ## Dynamic capacity (R348, R351) -/

theorem extAt_congr {s t : State} (h : t.ports = s.ports) (p i : Nat) : extAt t p i = extAt s p i := by rw [extAt, extAt, portAt_congr h]

@[simp] theorem extAt_emit (s : State) (o : Out) (p i : Nat) : extAt (emit s o) p i = extAt s p i := extAt_congr (by simp) p i

/-- A port whose host holds the extent of a well. -/
def extAccepted (s : State) (p i : Nat) : State :=
  modPort s p (fun x => { x with exts := sSet extInit x.exts i { extAt s p i with accepted := true, released := [] } })

theorem extAt_extAccepted (s : State) (p i : Nat) : extAt (extAccepted s p i) p i = { extAt s p i with accepted := true, released := [] } := by
  simp [extAt, extAccepted]

/-- A port whose host has given back the extent of a well. -/
def extReturned (s : State) (p i : Nat) : State :=
  modPort s p (fun x => { x with exts := sSet extInit x.exts i extInit, extGen := x.extGen + 1 })

theorem extAt_extReturned_same (s : State) (p i : Nat) : extAt (extReturned s p i) p i = extInit := by simp [extAt, extReturned]

theorem extAt_extReturned_other (s : State) {p q : Nat} (i : Nat) (h : q ≠ p) : extAt (extReturned s p i) q i = extAt s q i := by
  rw [extAt, extReturned, portAt_modPort_other _ _ h, extAt]

/-- The blocks of a well, all of them. -/
def wellBlocks (w : Well) : List Nat := (List.range w.size).map (· + w.base)

theorem wellBlocks_contains (w : Well) : (List.range w.size).all (fun k => (wellBlocks w).contains (w.base + k)) = true := by
  simp only [List.all_eq_true, List.contains_iff_mem, wellBlocks, List.mem_map]
  intro k hk
  exact ⟨k, hk, Nat.add_comm k w.base⟩

/-- A block that the host of an owner port still holds is not free. -/
theorem blockFree_of_held {s : State} {i b : Nat} {w : Well} {q : Port} (hmask : w.mask.getLsbD q.val = true)
    (hacc : (extAt s q.val i).accepted = true) (hrel : (extAt s q.val i).released = []) : blockFree s i w b = false := by
  simp only [blockFree, List.all_eq_false]
  exact ⟨q.val, by simp [maskPorts, hmask], by simp [hacc, hrel]⟩

theorem releaseBlocks_of_held {s : State} {p q : Port} {i : Nat} {w : Well} (hrel : (extAt s p.val i).released = []) (hne : q ≠ p)
    (hmask : w.mask.getLsbD q.val = true) (hacc' : (extAt s q.val i).accepted = true) (hrel' : (extAt s q.val i).released = [])
    (hq : Quiescent s) : releaseBlocks s p.val i w (wellBlocks w) = extReturned s p.val i := by
  have hother := extAt_extReturned_other s i (fun e => hne (Fin.ext e) : q.val ≠ p.val)
  have hkept : (wellBlocks w).filter (fun b => blockFree (extReturned s p.val i) i w b) = [] := by
    simp [blockFree_of_held hmask (hother ▸ hacc') (hother ▸ hrel')]
  have hfresh : (wellBlocks w).filter (fun b => !([] : List Nat).contains b) = wellBlocks w := by simp
  have hidle : Quiescent (extReturned s p.val i) := quiescent_congr hq rfl rfl rfl
  unfold releaseBlocks
  simp only [hrel, hfresh, List.nil_append, wellBlocks_contains, if_true]
  change settle (((wellBlocks w).filter (fun b => blockFree (extReturned s p.val i) i w b)).foldl _ (extReturned s p.val i)) = _
  rw [hkept]
  exact settle_idle _ hidle

section Release

variable {s : State} {p : Port} (hlink : (portAt s p.val).linkUp = true) (hst : s.pwr.st = .service)
include hlink hst

theorem releaseDynamicCapacityF_of_partial {dpa len : Nat} (h : dpa % 2 ^ 28 ≠ 0 ∨ len % 2 ^ 28 ≠ 0 ∨ len = 0) :
    releaseDynamicCapacityF s p dpa len = emit s (.mbox p 3 []) :=
  (mboxCmd_of_service _ _ hlink hst).trans (if_pos h)

theorem releaseDynamicCapacityF_of_well {i : Nat} {w : Well} (hwells : s.tabs.wells = [(i, w)]) (hlive : w.live = true) (hsize : 0 < w.size)
    (hacc : (extAt s p.val i).accepted = true) : releaseDynamicCapacityF s p (w.base * 2 ^ 28) (w.size * 2 ^ 28) =
      emit (releaseBlocks s p.val i w (wellBlocks w)) (.mbox p 0 []) := by
  have hwhole : ¬ (w.base * 2 ^ 28 % blockBytes ≠ 0 ∨ w.size * 2 ^ 28 % blockBytes ≠ 0 ∨ w.size * 2 ^ 28 = 0) := by
    simp only [blockBytes]
    omega
  have hfits : w.base * 268435456 + w.size * 268435456 ≤ (w.base + w.size) * 268435456 := by omega
  refine (mboxCmd_of_service _ _ hlink hst).trans ?_
  simp only [if_neg hwhole, hwells]
  simp [findP, hlive, hfits, hacc, mboxAns, wellBlocks, blockBytes]

end Release

/-! ## Clearing event records (14 R430) -/

/-- The state in which a port has forgotten the only record of a log. -/
def logCleared (s : State) (p : Nat) (log : Nat) (seqs : List Nat) : State :=
  modPort s p (fun x => { x with logs := x.logs.filter (fun y => !(decide (y.1 = log) && seqs.contains y.2.seq)) })

theorem logCleared_logs {s : State} {p log : Nat} {x : AgRec} (h : (portAt s p).logs = [(log, x)]) :
    (portAt (logCleared s p log [x.seq]) p).logs = [] := by
  simp [logCleared, h]

section Clear

variable {s : State} {p : Port} {x : AgRec} {log : Nat} (hlink : (portAt s p.val).linkUp = true)
  (hst : s.pwr.st = .service ∨ s.pwr.st = .boot) (hlogs : (portAt s p.val).logs = [(log, x)])
include hlink hst hlogs

theorem clearEventRecordsF_of_latched (hlog : log ≠ 4) (hx : ofLatch s.flt.uc x = true) :
    clearEventRecordsF s p log [x.seq] = emit (ackGroup (logCleared s p.val log [x.seq]) 1) (.mbox p 0 []) := by
  refine (mboxCmd_of_available _ hlink hst).trans ?_
  simp [hlogs, hlog, isLatched, hx, logCleared, mboxAns]

theorem clearEventRecordsF_of_other (hx : ofLatch s.flt.uc x = false) :
    clearEventRecordsF s p log [x.seq] = emit (logCleared s p.val log [x.seq]) (.mbox p 0 []) := by
  refine (mboxCmd_of_available _ hlink hst).trans ?_
  simp [hlogs, isLatched, hx, logCleared, mboxAns]

end Clear

/-! ## The offset of a port's clock (R346) -/

theorem timestamp_reads_back (t ts : Nat) (h : ts < 2 ^ 64) : (t + (ts + 2 ^ 64 - t % 2 ^ 64) % 2 ^ 64) % 2 ^ 64 = ts := by omega

/-- Settles O47, by the equation of each command behind the mailbox's gate. -/
theorem mailboxWritesSetTheirPort : Obligations.MailboxWritesSetTheirPort := by
  unfold Obligations.MailboxWritesSetTheirPort
  refine ⟨?_, ?_, ?_, ?_, ?_, ?_, ?_, ?_, ?_, ?_⟩
  · intro s p v hlink hst
    refine ⟨_, congrArg Host.Outcome.next (mboxCmd_of_available _ hlink hst), by simp, rfl, fun q hq => ?_⟩
    rw [portAt_mboxAns, portAt_modPort_other _ _ hq]
  · intro s p ts hlink hst
    refine ⟨_, congrArg Host.Outcome.next (mboxCmd_of_available _ hlink hst), ?_, rfl, fun q hq => ?_⟩
    · rw [portAt_mboxAns, portAt_modPort, if_pos rfl]
      exact timestamp_reads_back (now s) ts.toNat ts.isLt
    · rw [portAt_mboxAns, portAt_modPort_other _ _ hq]
  · intro s p a b c hlink hst
    refine ⟨_, congrArg Host.Outcome.next (mboxCmd_of_available _ hlink hst), by simp, fun q hq => ?_⟩
    rw [portAt_mboxAns, portAt_modPort_other _ _ hq]
  · intro s p clean hlink hst
    exact ⟨_, congrArg Host.Outcome.next (mboxCmd_of_service _ _ hlink hst), shutdownSet_bit s clean, shutCode_shutdownSet s clean, by simp, by simp⟩
  · intro s p i hlink hst hoff hacc
    refine ⟨⟨emit (extAccepted s p.val i.val) (.mbox p 0 []), ?_, ?_, fun q hq => ?_, rfl, rfl⟩, ?_⟩
    · refine congrArg Host.Outcome.next ((mboxCmd_of_service _ _ hlink hst).trans ?_)
      simp [hoff, hacc, extAccepted, mboxAns]
    · rw [extAt_emit, extAt_extAccepted]
    · rw [portAt_emit, extAccepted, portAt_modPort_other _ _ hq]
    · refine congrArg Host.Outcome.next ((mboxCmd_of_service _ _ hlink hst).trans ?_)
      simp [hoff, hacc, mboxAns]
  · intro s p dpa len hlink hst hpart
    exact congrArg Host.Outcome.next (releaseDynamicCapacityF_of_partial hlink hst hpart)
  · intro s p q i w hlink hst hwells hlive hsize hacc hrel hne hmask hacc' hrel' hq
    refine ⟨_, congrArg Host.Outcome.next (releaseDynamicCapacityF_of_well hlink hst hwells hlive hsize hacc), ?_⟩
    rw [releaseBlocks_of_held hrel hne hmask hacc' hrel' hq, extAt_emit, extAt_extReturned_same]
    simp [extInit, extReturned]
  · intro s p i w hlink hst hwells hlive hsize hacc
    refine ⟨_, congrArg Host.Outcome.next (releaseDynamicCapacityF_of_well hlink hst hwells hlive hsize hacc), ?_⟩
    simp
  · intro s p x log hlink hst hlogs hlog hx
    refine ⟨_, congrArg Host.Outcome.next (clearEventRecordsF_of_latched hlink hst hlogs hlog hx), ?_⟩
    exact ⟨logCleared_logs hlogs, rfl, rfl⟩
  · intro s p x log hlink hst hlogs hx
    refine ⟨_, congrArg Host.Outcome.next (clearEventRecordsF_of_other hlink hst hlogs hx), ?_⟩
    exact ⟨logCleared_logs hlogs, rfl⟩

/-! ## The parts of the state, and what changes of them -/

/-- The parts of the state, each under its name in State. -/
inductive Part where
  | pending | out | freeCtr | regs | req | pwr | ports | rings | cmds | tabs | mapu | cist | cache | med | keys | wear | drift | pair | flt | ag
  | qz | zir | th | beryl | sec
deriving DecidableEq

/-- Two states hold the same in a part. -/
def Agree (s t : State) : Part → Prop
  | .pending => t.pending = s.pending
  | .out => t.out = s.out
  | .freeCtr => t.freeCtr = s.freeCtr
  | .regs => t.regs = s.regs
  | .req => t.req = s.req
  | .pwr => t.pwr = s.pwr
  | .ports => t.ports = s.ports
  | .rings => t.rings = s.rings
  | .cmds => t.cmds = s.cmds
  | .tabs => t.tabs = s.tabs
  | .mapu => t.mapu = s.mapu
  | .cist => t.cist = s.cist
  | .cache => t.cache = s.cache
  | .med => t.med = s.med
  | .keys => t.keys = s.keys
  | .wear => t.wear = s.wear
  | .drift => t.drift = s.drift
  | .pair => t.pair = s.pair
  | .flt => t.flt = s.flt
  | .ag => t.ag = s.ag
  | .qz => t.qz = s.qz
  | .zir => t.zir = s.zir
  | .th => t.th = s.th
  | .beryl => t.beryl = s.beryl
  | .sec => t.sec = s.sec

/-- Between two states nothing has changed but, at most, the parts listed. -/
structure Within (l : List Part) (s t : State) : Prop where
  same : ∀ p, p ∉ l → Agree s t p

theorem within_iff {l : List Part} {s t : State} : Within l s t ↔
    (.pending ∉ l → t.pending = s.pending) ∧ (.out ∉ l → t.out = s.out) ∧ (.freeCtr ∉ l → t.freeCtr = s.freeCtr) ∧ (.regs ∉ l → t.regs = s.regs) ∧
    (.req ∉ l → t.req = s.req) ∧ (.pwr ∉ l → t.pwr = s.pwr) ∧ (.ports ∉ l → t.ports = s.ports) ∧ (.rings ∉ l → t.rings = s.rings) ∧
    (.cmds ∉ l → t.cmds = s.cmds) ∧ (.tabs ∉ l → t.tabs = s.tabs) ∧ (.mapu ∉ l → t.mapu = s.mapu) ∧ (.cist ∉ l → t.cist = s.cist) ∧
    (.cache ∉ l → t.cache = s.cache) ∧ (.med ∉ l → t.med = s.med) ∧ (.keys ∉ l → t.keys = s.keys) ∧ (.wear ∉ l → t.wear = s.wear) ∧
    (.drift ∉ l → t.drift = s.drift) ∧ (.pair ∉ l → t.pair = s.pair) ∧ (.flt ∉ l → t.flt = s.flt) ∧ (.ag ∉ l → t.ag = s.ag) ∧
    (.qz ∉ l → t.qz = s.qz) ∧ (.zir ∉ l → t.zir = s.zir) ∧ (.th ∉ l → t.th = s.th) ∧ (.beryl ∉ l → t.beryl = s.beryl) ∧ (.sec ∉ l → t.sec = s.sec) := by
  constructor
  · rintro ⟨h⟩
    exact ⟨h .pending, h .out, h .freeCtr, h .regs, h .req, h .pwr, h .ports, h .rings, h .cmds, h .tabs, h .mapu, h .cist, h .cache, h .med, h .keys,
      h .wear, h .drift, h .pair, h .flt, h .ag, h .qz, h .zir, h .th, h .beryl, h .sec⟩
  · rintro ⟨hpending, hout, hfreeCtr, hregs, hreq, hpwr, hports, hrings, hcmds, htabs, hmapu, hcist, hcache, hmed, hkeys, hwear, hdrift, hpair, hflt,
      hag, hqz, hzir, hth, hberyl, hsec⟩
    exact ⟨fun p => by cases p <;> assumption⟩

/-- Every part but those listed. -/
def allBut (l : List Part) : List Part :=
  [.pending, .out, .freeCtr, .regs, .req, .pwr, .ports, .rings, .cmds, .tabs, .mapu, .cist, .cache, .med, .keys, .wear, .drift, .pair, .flt, .ag,
    .qz, .zir, .th, .beryl, .sec].filter (fun p => decide (p ∉ l))

@[simp] theorem mem_allBut (p : Part) (l : List Part) : p ∈ allBut l ↔ p ∉ l := by
  cases p <;> simp [allBut]

/-- Every part but the queue, the map, the Cistern, the cache and the medium, which hold the bytes of memory. -/
abbrev notMemory : List Part := allBut [.pending, .tabs, .cist, .cache, .med]

theorem Within.refl {l : List Part} (s : State) : Within l s s := within_iff.2 (by simp)

theorem Within.ite {l : List Part} {s t u : State} (c : Prop) [Decidable c] (h : Within l s t) (k : Within l s u) :
    Within l s (if c then t else u) := by
  split
  · exact h
  · exact k

theorem within_of_next {l : List Part} {s t u : State} (h : (Host.Outcome.next u : Host.Outcome State Fault Refusal) = .next t)
    (k : Within l s u) : Within l s t := by
  cases h
  exact k

section Responses

variable {l : List Part} (hout : .out ∈ l)
include hout

theorem emit_within (s : State) (o : Out) : Within l s (emit s o) := by simp [within_iff, hout]

theorem mboxAns_within (s : State) (p : Port) (code : Nat) (x : List Nat) : Within l s (mboxAns s p code x) := emit_within hout ..

theorem spdmOk_within (s : State) (v : SpdmVia) (kind : Nat) (b : List (BitVec 8)) : Within l s (spdmOk s v kind b) := emit_within hout ..

theorem spdmErr_within (s : State) (v : SpdmVia) (e : Nat) : Within l s (spdmErr s v e) := emit_within hout ..

theorem mboxCmd_within (s : State) (p : Port) (inBoot : Bool) {f : State → State} (hf : ∀ s, Within l s (f s)) :
    Within l s (mboxCmd s p inBoot f) := by
  unfold mboxCmd
  split
  · exact .refl s
  · split
    · exact hf s
    · exact .ite _ (hf s) (mboxAns_within hout ..)
    all_goals exact .refl s

theorem withKey_within (s : State) (v : SpdmVia) {f : State → State} (hf : ∀ s, Within l s (f s)) : Within l s (withKey s v f) :=
  .ite _ (.refl s) (.ite _ (hf s) (spdmErr_within hout ..))

theorem ideKm_within (s : State) (v : SpdmVia) (id : Nat) {f : State → Port → State} (hf : ∀ s p, Within l s (f s p)) :
    Within l s (ideKm s v id f) := by
  refine .ite _ (.refl s) ?_
  cases v with
  | sideband => exact spdmErr_within hout ..
  | doe p => exact .ite _ (hf s p) (spdmErr_within hout ..)

end Responses

/-- A mailbox command that only answers. -/
theorem mboxRead_within (s : State) (p : Port) (inBoot : Bool) (x : State → List Nat) :
    Within [.out] s (mboxCmd s p inBoot (fun s => mboxAns s p 0 (x s))) :=
  mboxCmd_within (by simp) s p inBoot fun s => mboxAns_within (by simp) s ..

/-- A mailbox command that only sets something of its port. -/
theorem mboxSet_within (s : State) (p : Port) (inBoot : Bool) (f : State → PortSt → PortSt) :
    Within [.out, .ports] s (mboxCmd s p inBoot (fun s => mboxAns (modPort s p.val (f s)) p 0 [])) :=
  mboxCmd_within (by simp) s p inBoot fun s => by simp [within_iff]

/-! ### Requests, responses and what they set -/

theorem cmpOnly_within (s : State) (p : Port) (tag : Nat) : Within [.out] s (cmpOnly s p tag) :=
  .ite _ (emit_within (by simp) ..) (.refl s)

theorem globalPersistentFlushF_within (s : State) (p : Port) (phase2 : Bool) : Within [.out] s (globalPersistentFlushF s p phase2) :=
  .ite _ (emit_within (by simp) ..) (.refl s)

theorem getLogF_within (s : State) (p : Port) (cel : Bool) : Within [.out] s (getLogF s p cel) :=
  mboxCmd_within (by simp) s _ true fun s => .ite _ (mboxAns_within (by simp) s ..) (mboxAns_within (by simp) s ..)

theorem getVersionF_within (s : State) (v : SpdmVia) : Within [.out] s (getVersionF s v) :=
  .ite _ (spdmOk_within (by simp) s ..) (.refl s)

theorem getCapabilitiesF_within (s : State) (v : SpdmVia) : Within [.out] s (getCapabilitiesF s v) :=
  .ite _ (spdmOk_within (by simp) s ..) (.refl s)

theorem negotiateAlgorithmsF_within (s : State) (v : SpdmVia) (offers : Bool) : Within [.out] s (negotiateAlgorithmsF s v offers) :=
  .ite _ (.refl s) (.ite _ (spdmOk_within (by simp) s ..) (spdmErr_within (by simp) s ..))

theorem getDigestsF_within (s : State) (v : SpdmVia) : Within [.out] s (getDigestsF s v) :=
  .ite _ (spdmOk_within (by simp) s ..) (.refl s)

theorem getCertificateF_within (s : State) (v : SpdmVia) (slot off len : Nat) : Within [.out] s (getCertificateF s v slot off len) :=
  .ite _ (.refl s) (.ite _ (spdmOk_within (by simp) s ..) (spdmErr_within (by simp) s ..))

theorem queryF_within (s : State) (v : SpdmVia) (id : Nat) : Within [.out] s (queryF s v id) :=
  ideKm_within (by simp) s _ _ fun s _ => spdmOk_within (by simp) s ..

theorem challengeF_within (s : State) (v : SpdmVia) (slot : Nat) (nonce : BitVec 256) : Within [.out, .freeCtr] s (challengeF s v slot nonce) :=
  withKey_within (by simp) s _ fun s => .ite _ (by simp [within_iff]) (by simp [within_iff])

theorem getMeasurementsF_within (s : State) (v : SpdmVia) (i : Nat) (nonce : BitVec 256) :
    Within [.out, .freeCtr] s (getMeasurementsF s v i nonce) :=
  withKey_within (by simp) s v fun s => by split <;> simp [within_iff]

theorem getKeyF_within (s : State) (v : SpdmVia) (id : Nat) : Within [.out, .freeCtr] s (getKeyF s v id) :=
  ideKm_within (by simp) s _ _ fun s _ => .ite _ (by simp [within_iff]) (by simp [within_iff])

theorem addDynamicCapacityResponseF_within (s : State) (p : Port) (i : Nat) (accept : Bool) :
    Within [.out, .ports] s (addDynamicCapacityResponseF s p i accept) :=
  mboxCmd_within (by simp) s _ false fun s => .ite _ (by simp [within_iff]) (.ite _ (by simp [within_iff]) (by simp [within_iff]))

theorem keyProgF_within (s : State) (v : SpdmVia) (id : Nat) (mem tx kset : Bool) (key : BitVec 256) :
    Within [.out, .ports] s (keyProgF s v id mem tx kset key) :=
  ideKm_within (by simp) s _ _ fun s _ => by simp [within_iff]

theorem kSetGoF_within (s : State) (v : SpdmVia) (id : Nat) (mem kset : Bool) : Within [.out, .ports] s (kSetGoF s v id mem kset) :=
  ideKm_within (by simp) s _ _ fun s _ => .ite _ (by simp [within_iff]) (by simp [within_iff])

theorem kSetStopF_within (s : State) (v : SpdmVia) (id : Nat) (mem kset : Bool) : Within [.out, .ports] s (kSetStopF s v id mem kset) :=
  ideKm_within (by simp) s _ _ fun s _ => by simp [within_iff]

theorem setShutdownStateF_within (s : State) (p : Port) (clean : Bool) :
    Within [.out, .regs, .pwr, .rings, .cmds, .ag, .beryl] s (setShutdownStateF s p clean) :=
  mboxCmd_within (by simp) s _ false fun s => by simp [within_iff]

theorem clearEventRecordsF_within (s : State) (p : Port) (log : Nat) (seqs : List Nat) :
    Within [.out, .ports, .flt] s (clearEventRecordsF s p log seqs) :=
  mboxCmd_within (by simp) s p true fun s => by
    dsimp only
    split <;> simp [within_iff]

theorem finishF_within (s : State) (v : SpdmVia) (id : Nat) (ok : Bool) : Within [.out, .ports, .sec] s (finishF s v id ok) :=
  withKey_within (by simp) s v fun s => by
    split
    · split_ifs <;> simp [within_iff]
    · simp [within_iff]

theorem endSessionF_within (s : State) (v : SpdmVia) (id : Nat) : Within [.out, .ports, .sec] s (endSessionF s v id) :=
  withKey_within (by simp) s _ fun s => .ite _ (by simp [within_iff]) (by simp [within_iff])

theorem keyUpdateF_within (s : State) (v : SpdmVia) (id : Nat) : Within [.out, .ports, .sec] s (keyUpdateF s v id) :=
  withKey_within (by simp) s _ fun s => .ite _ (by simp [within_iff]) (by simp [within_iff])

theorem keyExchangeF_within (s : State) (v : SpdmVia) (id : Nat) : Within [.out, .freeCtr, .ports, .sec] s (keyExchangeF s v id) :=
  withKey_within (by simp) s _ fun s => .ite _ (by simp [within_iff]) (.ite _ (by simp [within_iff]) (by simp [within_iff]))

theorem setEndpointIdF_within (s : State) (eid : BitVec 8) : Within [.out, .pwr] s (setEndpointIdF s eid) :=
  .ite _ (.refl s) (by simp [within_iff])

theorem ideIntegrityFailureF_within (s : State) (p : Port) : Within [.out, .regs, .ports] s (ideIntegrityFailureF s p) :=
  .ite _ (by simp [within_iff]) (.refl s)

theorem hdmDecoderCommitF_within (s : State) (p : Port) (i : Fin 4) (d : Hdm) : Within [.ports] s (hdmDecoderCommitF s p i d) :=
  .ite _ (by simp [within_iff]) (.refl s)

theorem linkTrainingF_within (s : State) (p : Port) (lanes rate : Nat) (hostClk : Bool) :
    Within [.regs, .ports] s (linkTrainingF s p lanes rate hostClk) := by
  unfold linkTrainingF
  dsimp only
  split_ifs <;> simp [within_iff]

theorem perstDeassertF_within (s : State) (p : Port) : Within [.out, .pwr, .ports] s (perstDeassertF s p) :=
  .ite _ (by simp [within_iff]) (by simp [within_iff])

/-! ### Rings -/

theorem ringEnableF_within (s : State) (p : Nat) : Within [.regs, .rings] s (ringEnableF s p) :=
  .ite _ (by simp [within_iff]) (.refl s)

theorem ringDisableF_within (s : State) (p : Nat) : Within [.regs, .rings] s (ringDisableF s p) :=
  .ite _ (by simp [within_iff]) (.refl s)

theorem coalWindowEndF_within (s : State) (p : Port) (vec : Nat) : Within [.out, .rings] s (coalWindowEndF s p vec) :=
  .ite _ (by simp [within_iff]) (.refl s)

theorem sidebandDescriptorF_within (s : State) (desc : BitVec 512) (payload : List (BitVec 8)) :
    Within [.out, .regs, .rings, .cmds] s (sidebandDescriptorF s desc payload) := by
  unfold sidebandDescriptorF
  dsimp only
  split <;> simp [within_iff]

theorem descriptorFetchF_within (s : State) (p : Nat) (desc : Option (BitVec 512)) : Within notMemory s (descriptorFetchF s p desc) := by
  unfold descriptorFetchF
  refine .ite _ ?_ (.refl s)
  cases desc <;> simp [within_iff]

theorem completionWriteF_within (s : State) (p : Port) (dmaOk : Bool) : Within notMemory s (completionWriteF s p dmaOk) := by
  unfold completionWriteF
  dsimp only
  split <;> simp [within_iff]

/-! ### Power, start-up and the sequencer -/

theorem unlockExpireF_within (s : State) (r : Nat) : Within [.req] s (unlockExpireF s r) :=
  .ite _ (.refl s) (by simp [within_iff])

theorem bootSequencingF_within (s : State) : Within [.pwr] s (bootSequencingF s) :=
  .ite _ (by simp [within_iff]) (.refl s)

theorem domainQualRetryF_within (s : State) (d : Nat) : Within [.pwr] s (domainQualRetryF s d) :=
  .ite _ (by simp [within_iff]) (.refl s)

theorem aliveToggleF_within (s : State) : Within [.pwr] s (aliveToggleF s) := by
  simp [aliveToggleF, within_iff]

theorem witOutToggleF_within (s : State) : Within [.pwr] s (witOutToggleF s) :=
  .ite _ (by simp [within_iff]) (.refl s)

theorem auxRestoredF_within (s : State) : Within [.pwr] s (auxRestoredF s) := by
  simp [auxRestoredF, within_iff]

theorem jtagTestModeF_within (s : State) (t : JtagTest) : Within [.out, .pwr] s (jtagTestModeF s t) := by
  refine .ite _ (.ite _ (.refl s) (emit_within (by simp) ..)) ?_
  cases t with
  | enter => simp [within_iff]
  | drive d on => exact .ite _ (by simp [within_iff]) (emit_within (by simp) ..)
  | leave => simp [within_iff]

theorem dieDiscoveryF_within (s : State) (failed : List Nat) :
    Within (allBut [.pending, .freeCtr, .tabs, .mapu, .cache, .med, .keys, .qz, .th, .sec]) s (dieDiscoveryF s failed) :=
  .ite _ (by simp [within_iff]) (.refl s)

theorem enterColdF_within (s : State) : Within (allBut [.pending, .freeCtr, .tabs, .cache, .med, .keys, .drift, .th]) s (enterColdF s) := by
  unfold enterColdF
  split_ifs <;> simp [within_iff]

theorem aonQualifyF_within (s : State) (seat sbSel : Bool) (sbAddr : BitVec 2) (corr ue : List Nat) :
    Within notMemory s (aonQualifyF s seat sbSel sbAddr corr ue) :=
  .ite _ (by simp [within_iff]) (.refl s)

theorem inputDipF_within (s : State) (vin : Nat) : Within notMemory s (inputDipF s vin) :=
  .ite _ (by simp [within_iff]) (.refl s)

theorem mainInputCycleF_within (s : State) : Within notMemory s (mainInputCycleF s) :=
  .ite _ (by simp [within_iff]) (.refl s)

theorem epochUnitStartF_within (s : State) : Within notMemory s (epochUnitStartF s) :=
  .ite _ (by simp [within_iff]) (.refl s)

/-! ### The Cistern, the medium and the map -/

theorem checkpointAnchorF_within (s : State) : Within [.mapu] s (checkpointAnchorF s) := by
  unfold checkpointAnchorF
  split <;> simp [within_iff]

theorem filterRebuildF_within (s : State) : Within [.cist] s (filterRebuildF s) :=
  .ite _ (by simp [within_iff]) (.refl s)

theorem programResumeF_within (s : State) (die part : Nat) : Within [.med] s (programResumeF s die part) :=
  .ite _ (.refl s) (by simp [within_iff])

theorem burstMeterSlotF_within (s : State) (c : Nat) : Within [.drift] s (burstMeterSlotF s c) := by
  simp [burstMeterSlotF, within_iff]

theorem scrubAutoResumeF_within (s : State) : Within [.drift] s (scrubAutoResumeF s) := by
  unfold scrubAutoResumeF
  split <;> simp [within_iff]

theorem loadWindowEndF_within (s : State) (c : Nat) : Within [.regs, .drift, .qz] s (loadWindowEndF s c) :=
  .ite _ (.refl s) (by simp [within_iff])

theorem refreshScanF_within (s : State) (ltn : Nat) : Within [.regs, .tabs, .mapu, .drift] s (refreshScanF s ltn) :=
  .ite _ (by simp [within_iff]) (.refl s)

theorem tileResetStartF_within (s : State) (die : Nat) : Within [.regs, .cist, .med, .wear] s (tileResetStartF s die) := by
  unfold tileResetStartF
  dsimp only
  split
  · split <;> simp [within_iff]
  · split
    · split <;> simp [within_iff]
    · next t ht =>
      have hgrant := grantTok_keeps _ _ _ _ ht
      simp [within_iff, hgrant]

theorem sentinelProgramF_within (s : State) (die : Nat) : Within [.regs, .mapu, .cist, .med, .drift] s (sentinelProgramF s die) := by
  refine .ite _ ?_ (.refl s)
  dsimp only
  split <;> (split <;> simp [within_iff])

theorem checkpointStartF_within (s : State) : Within [.regs, .cmds, .tabs, .mapu, .med, .wear, .zir] s (checkpointStartF s) :=
  .ite _ (.refl s) (.ite _ (by simp [within_iff]) (.ite _ (by simp [within_iff]) (.refl s)))

theorem journalLineProgramF_within (s : State) : Within [.regs, .tabs, .mapu, .cist, .med, .wear, .zir] s (journalLineProgramF s) := by
  simp [journalLineProgramF, within_iff]

/-! ### Faults, counters, ageing and the settings store -/

theorem firmwareAckF_within (s : State) (uc : Bool) : Within [.flt] s (firmwareAckF s uc) :=
  .ite _ (by simp [within_iff]) (.refl s)

theorem replanStartF_within (s : State) (c : Nat) : Within [.zir] s (replanStartF s c) :=
  .ite _ (by simp [within_iff]) (.refl s)

theorem bankTestStartF_within (s : State) (stepMv : Nat) : Within [.zir] s (bankTestStartF s stepMv) :=
  .ite _ (.refl s) (.ite _ (by simp [within_iff]) (by simp [within_iff]))

theorem dumpBoundaryF_within (s : State) (dmaOk : Bool) : Within [.out, .regs, .qz] s (dumpBoundaryF s dmaOk) :=
  .ite _ (by simp [within_iff]) (.refl s)

theorem agateFlushF_within (s : State) (ue : List Nat) : Within notMemory s (agateFlushF s ue) := by
  unfold agateFlushF
  split_ifs <;> simp [within_iff]

theorem canarySampleF_within (s : State) (slacks : List Nat) : Within notMemory s (canarySampleF s slacks) :=
  .ite _ (by simp [within_iff]) (.refl s)

theorem eyeMarginSampleF_within (s : State) (eyes : List (Nat × Nat)) : Within notMemory s (eyeMarginSampleF s eyes) :=
  .ite _ (by simp [within_iff]) (.refl s)

theorem bankTestEndF_within (s : State) (us : Nat) (reached33 recharged : Bool) : Within notMemory s (bankTestEndF s us reached33 recharged) :=
  .ite _ (by simp [within_iff]) (.refl s)

theorem fuseBlowF_within (s : State) (ok : Bool) : Within notMemory s (fuseBlowF s ok) :=
  .ite _ (.ite _ (.ite _ (by simp [within_iff]) (by simp [within_iff])) (by simp [within_iff])) (.refl s)

theorem entropyTestFailF_within (s : State) : Within notMemory s (entropyTestFailF s) :=
  .ite _ (by simp [within_iff]) (.refl s)

theorem fwdDropped_within (s : State) (p : Port) (hpa : Nat) : Within notMemory s (fwdDropped s p hpa) :=
  .ite _ (by simp [within_iff]) (.refl s)

theorem berylPageProgramF_within (s : State) : Within [.out, .regs, .pwr, .rings, .cmds, .ag, .beryl] s (berylPageProgramF s) := by
  unfold berylPageProgramF
  dsimp only
  (repeat' split) <;> simp [within_iff]

/-! ### The pair -/

theorem flitCrcErrorF_within (s : State) : Within [.out, .pair] s (flitCrcErrorF s) :=
  .ite _ (by simp [within_iff]) (.refl s)

theorem heartbeatSendF_within (s : State) : Within [.out, .pair] s (heartbeatSendF s) :=
  .ite _ (by simp [within_iff]) (.refl s)

theorem heartbeatF_within (s : State) (h : HbInfo) : Within [.out, .pair] s (heartbeatF s h) :=
  .ite _ (by simp [within_iff]) (.refl s)

theorem tileAckF_within (s : State) (ltn : Nat) : Within [.out, .pair] s (tileAckF s ltn) :=
  .ite _ (by simp [within_iff]) (.refl s)

theorem joinOpenF_within (s : State) (index : Nat) (ltns : List Nat) : Within [.out, .pair] s (joinOpenF s index ltns) :=
  .ite _ (by simp [within_iff]) (.refl s)

theorem joinWellsF_within (s : State) (index : Nat) (wells : List Well) : Within [.out, .pair] s (joinWellsF s index wells) :=
  .ite _ (by simp [within_iff]) (.refl s)

theorem joinInuseF_within (s : State) (ranges : List (Nat × Nat)) : Within [.out, .pair] s (joinInuseF s ranges) :=
  .ite _ (by simp [within_iff]) (.refl s)

theorem spinelLinkDownF_within (s : State) (lanes : Nat) (cable : Bool) : Within [.out, .pair] s (spinelLinkDownF s lanes cable) :=
  .ite _ (.refl s) (.ite _ (by simp [within_iff]) (by simp [within_iff]))

theorem replayTimeoutF_within (s : State) : Within [.out, .regs, .pair] s (replayTimeoutF s) := by
  unfold replayTimeoutF
  split <;> simp [within_iff]

theorem soloPageDurableF_within (s : State) : Within [.out, .regs, .ports, .cist, .pair, .qz] s (soloPageDurableF s) :=
  .ite _ (by simp [within_iff]) (.refl s)

theorem witnessLostF_within (s : State) : Within notMemory s (witnessLostF s) :=
  .ite _ (by simp [within_iff]) (.refl s)

theorem witInEdgeF_within (s : State) : Within notMemory s (witInEdgeF s) :=
  .ite _ (.refl s) (by simp [within_iff])

theorem agateCopyF_within (s : State) (recs : List AgRec) : Within notMemory s (agateCopyF s recs) :=
  .ite _ (by simp [within_iff]) (.refl s)

theorem resyncDoneReqF_within (s : State) : Within [.out, .regs, .ports, .cist, .wear, .pair, .qz] s (resyncDoneReqF s) := by
  refine .ite _ ?_ (.refl s)
  dsimp only
  split
  · simp [within_iff]
  · split <;> simp [within_iff]
  · split <;> simp [within_iff]
  all_goals simp [within_iff]

/-! ### Registers -/

theorem busRead_within (s : State) (r : Requester) (off size : Nat) : Within [.out, .regs, .req, .cache, .drift] s (busRead s r off size) := by
  simp [within_iff]

/-- Applying register settings at a heartbeat can start a join. -/
theorem regApplyF_within (s : State) (a : ApplyPoint) : Within (allBut [.pending, .freeCtr, .keys, .th, .sec]) s (regApplyF s a) := by
  unfold regApplyF
  split <;> simp [within_iff]

/-- The link and the power state decide whether the pair's messages are handled. -/
theorem works_congr {s t : State} (hpair : t.pair = s.pair) (hpwr : t.pwr = s.pwr) : works t = works s := by rw [works, works, hpair, hpwr]

/-- No join starts where the role is not UNPAIRED. -/
theorem regApplyF_heartbeat_of_role {s : State} (h : works s = true → s.pair.role ≠ .unpaired) :
    regApplyF s .heartbeat = applyBlock s .spinel 0 .heartbeat := by
  have hworks : works (applyBlock s .spinel 0 .heartbeat) = works s := works_congr (by simp) (by simp)
  refine if_neg fun hjoin => ?_
  simp only [hworks, Bool.and_eq_true, decide_eq_true_eq] at hjoin
  obtain ⟨⟨⟨hw, hrole⟩, -⟩, -⟩ := hjoin
  exact h hw (by simpa using hrole)

theorem regApplyF_within_of_no_join {s : State} {a : ApplyPoint} (h : a = .heartbeat → works s = true → s.pair.role ≠ .unpaired) :
    Within [.out, .regs, .ports, .rings, .cist, .pair, .qz] s (regApplyF s a) := by
  cases a with
  | heartbeat =>
    rw [regApplyF_heartbeat_of_role (h rfl)]
    simp [within_iff]
  | now => exact .refl s
  | quiet p => exact .ite _ (by simp [within_iff]) (.refl s)
  | epoch => exact .ite _ (by simp [within_iff]) (by simp [within_iff])
  | replan => exact .ite _ (by simp [within_iff]) (.refl s)
  | dump => exact .ite _ (by simp [within_iff]) (.refl s)
  | diode => simp [regApplyF, within_iff]
  | media => simp [regApplyF, within_iff]
  | sequencer => simp [regApplyF, within_iff]
  | mediaOp c => simp [regApplyF, within_iff]

/-- Settles O60: of each command, the parts that the conditions of its rows and their effects leave as they were. -/
theorem commandsKeepTheRest : Obligations.CommandsKeepTheRest := by
  unfold Obligations.CommandsKeepTheRest
  and_intros
  · intro _ s t hc h
    have kept : Within [.out] s t := by
      rcases hc with ⟨_, _, rfl⟩ | ⟨_, _, rfl⟩ | ⟨_, _, rfl⟩ | ⟨_, _, rfl⟩ | ⟨_, _, rfl⟩ | ⟨_, rfl⟩ | ⟨_, rfl⟩ | ⟨_, rfl⟩ | ⟨_, rfl⟩ |
        ⟨_, _, rfl⟩ | ⟨_, rfl⟩ | ⟨_, rfl⟩ | ⟨_, rfl⟩ | ⟨_, rfl⟩ | ⟨_, rfl⟩ | ⟨_, rfl⟩ | ⟨_, rfl⟩ | ⟨_, rfl⟩ | ⟨_, rfl⟩ | ⟨_, _, rfl⟩ | ⟨_, rfl⟩ |
        ⟨_, _, _, _, rfl⟩ | ⟨_, _, rfl⟩
      · exact within_of_next h (cmpOnly_within ..)
      · exact within_of_next h (cmpOnly_within ..)
      · exact within_of_next h (cmpOnly_within ..)
      · exact within_of_next h (globalPersistentFlushF_within ..)
      · exact within_of_next h (mboxRead_within s _ true _)
      · exact within_of_next h (mboxRead_within s _ true _)
      · exact within_of_next h (mboxRead_within s _ true _)
      · exact within_of_next h (mboxRead_within s _ true _)
      · exact within_of_next h (mboxRead_within s _ true _)
      · exact within_of_next h (getLogF_within ..)
      · exact within_of_next h (mboxRead_within s _ true _)
      · exact within_of_next h (mboxRead_within s _ true _)
      · exact within_of_next h (mboxRead_within s _ true _)
      · exact within_of_next h (mboxRead_within s _ true _)
      · exact within_of_next h (mboxRead_within s _ false _)
      · exact within_of_next h (mboxRead_within s _ false _)
      · exact within_of_next h (mboxRead_within s _ false _)
      · exact within_of_next h (getVersionF_within ..)
      · exact within_of_next h (getCapabilitiesF_within ..)
      · exact within_of_next h (negotiateAlgorithmsF_within ..)
      · exact within_of_next h (getDigestsF_within ..)
      · exact within_of_next h (getCertificateF_within ..)
      · exact within_of_next h (queryF_within ..)
    simpa [within_iff] using kept
  · rintro _ s t ⟨_, rfl⟩ h
    have kept : Within [.req] s t := within_of_next h (unlockExpireF_within ..)
    simpa [within_iff] using kept
  · intro _ s t hc h
    have kept : Within [.pwr] s t := by
      rcases hc with rfl | ⟨_, rfl⟩ | rfl | rfl | rfl
      · exact within_of_next h (bootSequencingF_within ..)
      · exact within_of_next h (domainQualRetryF_within ..)
      · exact within_of_next h (aliveToggleF_within ..)
      · exact within_of_next h (witOutToggleF_within ..)
      · exact within_of_next h (auxRestoredF_within ..)
    simpa [within_iff] using kept
  · rintro _ s t ⟨_, _, _, rfl⟩ h
    have kept : Within [.ports] s t := within_of_next h (hdmDecoderCommitF_within ..)
    simpa [within_iff] using kept
  · rintro _ s t rfl h
    have kept : Within [.mapu] s t := within_of_next h (checkpointAnchorF_within ..)
    simpa [within_iff] using kept
  · rintro _ s t rfl h
    have kept : Within [.cist] s t := within_of_next h (filterRebuildF_within ..)
    simpa [within_iff] using kept
  · rintro _ s t ⟨_, _, rfl⟩ h
    have kept : Within [.med] s t := within_of_next h (programResumeF_within ..)
    simpa [within_iff] using kept
  · intro _ s t hc h
    have kept : Within [.drift] s t := by
      rcases hc with ⟨_, rfl⟩ | rfl
      · exact within_of_next h (burstMeterSlotF_within ..)
      · exact within_of_next h (scrubAutoResumeF_within ..)
    simpa [within_iff] using kept
  · rintro _ s t ⟨_, rfl⟩ h
    have kept : Within [.flt] s t := within_of_next h (firmwareAckF_within ..)
    simpa [within_iff] using kept
  · intro _ s t hc h
    have kept : Within [.zir] s t := by
      rcases hc with ⟨_, rfl⟩ | ⟨_, rfl⟩
      · exact within_of_next h (replanStartF_within ..)
      · exact within_of_next h (bankTestStartF_within ..)
    simpa [within_iff] using kept
  · intro _ s t hc h
    have kept : Within [.out, .freeCtr] s t := by
      rcases hc with ⟨_, _, _, rfl⟩ | ⟨_, _, _, rfl⟩ | ⟨_, _, rfl⟩
      · exact within_of_next h (challengeF_within ..)
      · exact within_of_next h (getMeasurementsF_within ..)
      · exact within_of_next h (getKeyF_within ..)
    simpa [within_iff] using kept
  · intro _ s t hc h
    have kept : Within [.out, .pwr] s t := by
      rcases hc with ⟨_, rfl⟩ | ⟨_, rfl⟩
      · exact within_of_next h (setEndpointIdF_within ..)
      · exact within_of_next h (jtagTestModeF_within ..)
    simpa [within_iff] using kept
  · intro _ s t hc h
    have kept : Within [.out, .ports] s t := by
      rcases hc with ⟨_, _, rfl⟩ | ⟨_, _, rfl⟩ | ⟨_, _, _, _, rfl⟩ | ⟨_, _, _, rfl⟩ | ⟨_, _, _, _, _, _, rfl⟩ | ⟨_, _, _, _, rfl⟩ |
        ⟨_, _, _, _, rfl⟩
      · exact within_of_next h (mboxSet_within s _ true _)
      · exact within_of_next h (mboxSet_within s _ true _)
      · exact within_of_next h (mboxSet_within s _ true _)
      · exact within_of_next h (addDynamicCapacityResponseF_within ..)
      · exact within_of_next h (keyProgF_within ..)
      · exact within_of_next h (kSetGoF_within ..)
      · exact within_of_next h (kSetStopF_within ..)
    simpa [within_iff] using kept
  · rintro _ s t ⟨_, _, rfl⟩ h
    have kept : Within [.out, .rings] s t := within_of_next h (coalWindowEndF_within ..)
    simpa [within_iff] using kept
  · intro _ s t hc h
    have kept : Within [.out, .pair] s t := by
      rcases hc with rfl | rfl | ⟨_, rfl⟩ | ⟨_, rfl⟩ | ⟨_, _, rfl⟩ | ⟨_, _, rfl⟩ | ⟨_, rfl⟩ | ⟨_, _, rfl⟩
      · exact within_of_next h (flitCrcErrorF_within ..)
      · exact within_of_next h (heartbeatSendF_within ..)
      · exact within_of_next h (heartbeatF_within ..)
      · exact within_of_next h (tileAckF_within ..)
      · exact within_of_next h (joinOpenF_within ..)
      · exact within_of_next h (joinWellsF_within ..)
      · exact within_of_next h (joinInuseF_within ..)
      · exact within_of_next h (spinelLinkDownF_within ..)
    simpa [within_iff] using kept
  · rintro _ s t ⟨_, _, _, _, rfl⟩ h
    have kept : Within [.regs, .ports] s t := within_of_next h (linkTrainingF_within ..)
    simpa [within_iff] using kept
  · intro _ s t hc h
    have kept : Within [.regs, .rings] s t := by
      rcases hc with ⟨_, rfl⟩ | ⟨_, rfl⟩
      · exact within_of_next h (ringEnableF_within ..)
      · exact within_of_next h (ringDisableF_within ..)
    simpa [within_iff] using kept
  · rintro _ s t ⟨_, rfl⟩ h
    have kept : Within [.out, .regs, .ports] s t := within_of_next h (ideIntegrityFailureF_within ..)
    simpa [within_iff] using kept
  · rintro _ s t rfl h
    have kept : Within [.out, .regs, .pair] s t := within_of_next h (replayTimeoutF_within ..)
    simpa [within_iff] using kept
  · rintro _ s t ⟨_, rfl⟩ h
    have kept : Within [.out, .regs, .qz] s t := within_of_next h (dumpBoundaryF_within ..)
    simpa [within_iff] using kept
  · rintro _ s t ⟨_, rfl⟩ h
    have kept : Within [.out, .pwr, .ports] s t := within_of_next h (perstDeassertF_within ..)
    simpa [within_iff] using kept
  · rintro _ s t ⟨_, _, _, rfl⟩ h
    have kept : Within [.out, .ports, .flt] s t := within_of_next h (clearEventRecordsF_within ..)
    simpa [within_iff] using kept
  · intro _ s t hc h
    have kept : Within [.out, .ports, .sec] s t := by
      rcases hc with ⟨_, _, _, rfl⟩ | ⟨_, _, rfl⟩ | ⟨_, _, rfl⟩
      · exact within_of_next h (finishF_within ..)
      · exact within_of_next h (endSessionF_within ..)
      · exact within_of_next h (keyUpdateF_within ..)
    simpa [within_iff] using kept
  · rintro _ s t ⟨_, rfl⟩ h
    have kept : Within [.regs, .drift, .qz] s t := within_of_next h (loadWindowEndF_within ..)
    simpa [within_iff] using kept
  · rintro _ s t ⟨_, _, rfl⟩ h
    have kept : Within [.out, .freeCtr, .ports, .sec] s t := within_of_next h (keyExchangeF_within ..)
    simpa [within_iff] using kept
  · rintro _ s t ⟨_, _, rfl⟩ h
    have kept : Within [.out, .regs, .rings, .cmds] s t := within_of_next h (sidebandDescriptorF_within ..)
    simpa [within_iff] using kept
  · rintro _ s t ⟨_, rfl⟩ h
    have kept : Within [.regs, .tabs, .mapu, .drift] s t := within_of_next h (refreshScanF_within ..)
    simpa [within_iff] using kept
  · rintro _ s t ⟨_, rfl⟩ h
    have kept : Within [.regs, .mapu, .cist, .med] s t := within_of_next h (by simp [within_iff])
    simpa [within_iff] using kept
  · rintro _ s t ⟨_, rfl⟩ h
    have kept : Within [.regs, .cist, .med, .wear] s t := within_of_next h (tileResetStartF_within ..)
    simpa [within_iff] using kept
  · intro _ s t hc h
    have kept : Within [.out, .regs, .req, .cache, .drift] s t := by
      rcases hc with ⟨_, _, _, rfl⟩ | ⟨_, rfl⟩ | ⟨_, rfl⟩ | ⟨_, rfl⟩
      all_goals exact within_of_next h (busRead_within ..)
    simpa [within_iff] using kept
  · rintro _ s t ⟨_, rfl⟩ h
    have kept : Within [.regs, .mapu, .cist, .med, .drift] s t := within_of_next h (sentinelProgramF_within ..)
    simpa [within_iff] using kept
  · rintro _ s t rfl h
    have kept : Within [.out, .regs, .ports, .cist, .pair, .qz] s t := within_of_next h (soloPageDurableF_within ..)
    simpa [within_iff] using kept
  · intro _ s t hc h
    have kept : Within [.out, .regs, .pwr, .rings, .cmds, .ag, .beryl] s t := by
      rcases hc with rfl | ⟨_, _, rfl⟩
      · exact within_of_next h (berylPageProgramF_within ..)
      · exact within_of_next h (setShutdownStateF_within ..)
    simpa [within_iff] using kept
  · rintro _ s t rfl h
    have kept : Within (allBut [.pending, .freeCtr, .keys, .th, .sec]) s t := within_of_next h (regApplyF_within ..)
    simpa [within_iff] using kept
  · rintro _ s t ⟨_, rfl, hrole⟩ h
    have kept := within_of_next h (regApplyF_within_of_no_join hrole)
    simpa [within_iff] using kept
  · rintro _ s t rfl h
    have kept : Within [.out, .regs, .ports, .cist, .wear, .pair, .qz] s t := within_of_next h (resyncDoneReqF_within ..)
    simpa [within_iff] using kept
  · rintro _ s t rfl h
    have kept : Within [.regs, .cmds, .tabs, .mapu, .med, .wear, .zir] s t := within_of_next h (checkpointStartF_within ..)
    simpa [within_iff] using kept
  · rintro _ s t rfl h
    have kept : Within [.regs, .tabs, .mapu, .cist, .med, .wear, .zir] s t := within_of_next h (journalLineProgramF_within ..)
    simpa [within_iff] using kept
  · rintro _ s t ⟨_, rfl⟩ h
    have kept : Within (allBut [.pending, .freeCtr, .tabs, .mapu, .cache, .med, .keys, .qz, .th, .sec]) s t :=
      within_of_next h (dieDiscoveryF_within ..)
    simpa [within_iff] using kept
  · rintro _ s t rfl h
    have kept : Within (allBut [.pending, .freeCtr, .tabs, .cache, .med, .keys, .drift, .th]) s t := within_of_next h (enterColdF_within ..)
    simpa [within_iff] using kept
  · intro _ s t hc h
    have kept : Within notMemory s t := by
      rcases hc with ⟨_, _, _, _, _, rfl⟩ | ⟨_, rfl⟩ | ⟨_, rfl⟩ | rfl | ⟨_, rfl⟩ | ⟨_, _, rfl⟩ | ⟨_, _, rfl⟩ | rfl | rfl | rfl | ⟨_, rfl⟩ |
        ⟨_, rfl⟩ | ⟨_, _, _, rfl⟩ | ⟨_, rfl⟩ | rfl | ⟨_, _, rfl⟩ | ⟨_, _, rfl⟩
      · exact within_of_next h (aonQualifyF_within ..)
      · exact within_of_next h (inputDipF_within ..)
      · exact within_of_next h (agateFlushF_within ..)
      · exact within_of_next h (witnessLostF_within ..)
      · exact within_of_next h (agateCopyF_within ..)
      · exact within_of_next h (fwdDropped_within ..)
      · exact within_of_next h (fwdDropped_within ..)
      · exact within_of_next h (witInEdgeF_within ..)
      · exact within_of_next h (mainInputCycleF_within ..)
      · exact within_of_next h (epochUnitStartF_within ..)
      · exact within_of_next h (canarySampleF_within ..)
      · exact within_of_next h (eyeMarginSampleF_within ..)
      · exact within_of_next h (bankTestEndF_within ..)
      · exact within_of_next h (fuseBlowF_within ..)
      · exact within_of_next h (entropyTestFailF_within ..)
      · exact within_of_next h (descriptorFetchF_within ..)
      · exact within_of_next h (completionWriteF_within ..)
    exact ⟨kept.same .pending (by simp), kept.same .tabs (by simp), kept.same .cache (by simp),
      kept.same .cist (by simp), kept.same .med (by simp)⟩

end Sys2Proof.Proofs.HostPorts
end

section
/-! PROOF. The statements of the rings and commands (12): outstanding tags, the commands of settings and firmware, and the LEAVE of a pair. -/

namespace Sys2Proof.Proofs.Commands

open Sys2Proof Sys2Proof.Machine Sys2Proof.Safety
open Sys2Proof.Proofs.Memory (completeRun_cmds runOf_of_issued)
open Sys2Proof.Proofs.WritePath (settle_of_not_service)
open Sys2Proof.Proofs.HostPorts

/-! ## Outstanding tags (12 R374) -/

theorem takeDesc_of_busy {s : State} {src : Nat} {desc : BitVec 512} (payload : List (BitVec 8)) (htag : tagBusy s src (descOf desc).tag = true) :
    takeDesc s src desc payload = postCpl s src (descOf desc) 3 0 [] := if_pos htag

theorem tagBusy_of_running {s : State} {src : Nat} {tag : BitVec 16} (h : ∃ r ∈ s.cmds.run, r.src = src ∧ (descOf r.desc).tag = tag) :
    tagBusy s src tag = true := by
  obtain ⟨r, hr, hsrc, htag⟩ := h
  have hany : s.cmds.run.any (fun r => decide (r.src = src) && decide ((descOf r.desc).tag = tag)) = true :=
    List.any_eq_true.2 ⟨r, hr, by simp [hsrc, htag]⟩
  simp [tagBusy, hany]

theorem tagBusy_of_waiting {s : State} {p : Port} {tag : BitVec 16} (h : ∃ c ∈ (ringAt s p.val).wait, c.tag = tag) :
    tagBusy s p.val tag = true := by
  obtain ⟨c, hc, htag⟩ := h
  have hany : (ringAt s p.val).wait.any (fun c => decide (c.tag = tag)) = true := List.any_eq_true.2 ⟨c, hc, by simp [htag]⟩
  simp [tagBusy, hany, p.isLt]

/-- A ring that is on gives its next descriptor in BOOT as in SERVICE. -/
theorem descriptorFetchF_of_up {s : State} {p : Nat} (d : BitVec 512) (hst : s.pwr.st = .boot ∨ s.pwr.st = .service) (hdom : domOn s (2 + p) = true)
    (hen : (ringAt s p).enabled = true) (hne : (ringAt s p).head ≠ (ringAt s p).tail) (hrun : runCount s p < maxRun s p) :
    descriptorFetchF s p (some d) = takeDesc (headAdvanced s p) p d [] := by
  rcases hst with hst | hst
  · exact if_pos (by simp [hst, hdom, hen, hne, hrun])
  · exact descriptorFetchF_of_waiting d hst hdom hen hne hrun

theorem sidebandDescriptorF_of_busy {s : State} (desc : BitVec 512) (payload : List (BitVec 8)) (hoff : s.pwr.st ≠ .off)
    (hdrain : s.pwr.st ≠ .drain) (hrun : runCount s 4 < 64) (htag : tagBusy s 4 (descOf desc).tag = true) :
    sidebandDescriptorF s desc payload = postCpl s 4 (descOf desc) 3 0 [] := by
  have hroom : ¬ 64 ≤ runCount s 4 := Nat.not_le.2 hrun
  unfold sidebandDescriptorF
  cases hst : s.pwr.st with
  | off => exact absurd hst hoff
  | drain => exact absurd hst hdrain
  | standby | halt => simp [htag]
  | boot | service => simp [hroom, takeDesc_of_busy payload htag]

/-- Flagging a full completion ring touches nothing but the registers. -/
theorem flagCplFull_eq (s : State) (p : Nat) : flagCplFull s p = { s with regs := (flagCplFull s p).regs } := by
  unfold flagCplFull
  split <;> rfl

/-- CMD_HEAD is not what the flag of a full completion ring looks at. -/
theorem flagCplFull_headAdvanced (s : State) (p : Nat) : (flagCplFull (headAdvanced s p) p).regs = (flagCplFull s p).regs := by
  unfold flagCplFull
  rw [ringAt_headAdvanced, apply_ite State.regs, apply_ite State.regs]
  rfl

/-- A completion for the descriptor just fetched changes the rings and the flag of its completion ring alone. -/
theorem postCpl_headAdvanced (s : State) (p : Port) (d : Desc) (status result : Nat) (bytes : List (BitVec 8)) :
    postCpl (headAdvanced s p.val) p.val d status result bytes =
      { s with rings := (postCpl (headAdvanced s p.val) p.val d status result bytes).rings, regs := (flagCplFull s p.val).regs } := by
  rw [postCpl_port _ _ p.isLt, flagCplFull_eq, flagCplFull_headAdvanced]
  rfl

theorem ringAt_postCpl_other (s : State) (p : Port) (d : Desc) (status result : Nat) (bytes : List (BitVec 8)) {q : Nat} (h : q ≠ p.val) :
    ringAt (postCpl s p.val d status result bytes) q = ringAt s q := by
  rw [postCpl_port _ _ p.isLt, ringAt_modRing_other _ _ h, ringAt_flagCplFull]

/-- Settles O38: a busy tag ends the fetched descriptor at once (takeDesc_of_busy), and a completion touches its own ring alone. -/
theorem outstandingTagsAreBusy : Obligations.OutstandingTagsAreBusy := by
  unfold Obligations.OutstandingTagsAreBusy
  refine ⟨?_, ?_⟩
  · intro s p d hst hdom hen hne hrun hout
    have hbusy : tagBusy s p.val (descOf d).tag = true := hout.elim tagBusy_of_running tagBusy_of_waiting
    refine ⟨_, rfl, ?_⟩
    rw [descriptorFetchF_of_up d hst hdom hen hne hrun, takeDesc_of_busy [] ((tagBusy_headAdvanced ..).trans hbusy)]
    refine ⟨?_, postCpl_headAdvanced s p _ 3 0 [], fun q hq => ?_⟩
    · rw [wait_postCpl_error p _ (by decide) (by decide), ringAt_headAdvanced]
    · rw [ringAt_postCpl_other _ p _ 3 0 [] hq, headAdvanced, ringAt_modRing_other _ _ hq]
  · intro s d pl hoff hdrain hrun hout
    exact ⟨_, congrArg Host.Outcome.next (sidebandDescriptorF_of_busy d pl hoff hdrain hrun (tagBusy_of_running hout)), rfl⟩

/-! ## A command that starts in BOOT (12 R377) -/

/-- A descriptor that has started as the module's first. -/
def startedRun (r : Running) : Running := { r with started := true, ord := 0 }

/-- The state in which that descriptor is the one that runs. -/
def startedAlone (s : State) (r : Running) : State := { s with cmds := { cmdsReset with starts := 1, run := [startedRun r] } }

theorem src_of_issued {s : State} {r : Running} {src : Nat} {tag : BitVec 16} {op : Nat} (h : Issued s r src tag op) : r.src = src := by
  obtain ⟨-, -, -, hsrc, -⟩ := h
  exact hsrc

/-- Outside SERVICE a descriptor that passes its checks has the effect of its start and no more: nothing goes on by itself there. -/
theorem cmdRow_of_boot {s : State} {r : Running} {src : Nat} {tag : BitVec 16} {op : Nat} {c : State → Running → Desc → Checks}
    {f : State → Running → Desc → State} (h : Issued s r src tag op) (hcheck : checkStatus s r.src (c s r (descOf r.desc)) = 0)
    (hun : (c s r (descOf r.desc)).unlock = false)
    (hst : (f (startedAlone s r) (startedRun r) (descOf r.desc)).pwr.st ≠ .service) :
    cmdRow s src tag op anyDesc c f = f (startedAlone s r) (startedRun r) (descOf r.desc) := by
  have hrun := runOf_of_issued h
  obtain ⟨hcmds, -, -, -, -, -, hnew, hmay⟩ := h
  have hstart : startRun s r (c s r (descOf r.desc)) f = f (startedAlone s r) (startedRun r) (descOf r.desc) := by
    simp [startRun, hcheck, hun, modRun, modFirst, hcmds, cmdsReset, startedAlone, startedRun]
  simp only [cmdRow, hrun, hnew, hmay, hstart]
  exact settle_of_not_service hst

/-- The completion of the descriptor that runs alone joins its port's ring, whatever its effect did to the parts that the rings and the commands
do not hold. -/
theorem posted_completeRun {s u : State} {r : Running} {p : Port} (hsrc : r.src = p.val) {status result : Nat}
    (hres : status = 0 ∨ result = 0) (hcmds : u.cmds = (startedAlone s r).cmds := by rfl) (hrings : u.rings = s.rings := by rfl) :
    Posted s (completeRun u (startedRun r) status result []) p (descOf r.desc) status result := by
  have hshown : (if status = 0 ∨ status = 0x0B then result else 0) = result := by
    rcases hres with rfl | rfl <;> simp
  refine ⟨?_, ?_⟩
  · have hsrc' : (startedRun r).src = p.val := hsrc
    rw [completeRun, hsrc', postCpl_port _ _ p.isLt, hshown]
    simp [cplOf, startedRun, ringAt, hrings]
  · rw [completeRun_cmds, hcmds]
    simp [startedAlone, cmdsReset, dropFirst]

/-! ## Store operations that begin (19 R528, R531; 14 R436) -/

/-- A store operation with the pages that it takes at its beginning. -/
def begunOp (op : StoreOp) (pages : List Nat) : StoreOp := { op with begun := true, pages := pages, total := pages.length }

/-- The first operation of the queue begins where a page of its ranges is dirty, and none ends. -/
theorem promoteOps_of_dirty {s : State} {op : StoreOp} {rest : List StoreOp} (k : Nat) (hops : s.beryl.ops = op :: rest) (hnew : op.begun = false)
    (hdirty : dirtyIn s op.ranges ≠ []) :
    promoteOps (k + 1) s = { s with beryl := { s.beryl with ops := begunOp op (dirtyIn s op.ranges) :: rest } } := by
  simp [promoteOps, hops, hnew, hdirty, begunOp]

theorem promoteOps_of_begun {s : State} {op : StoreOp} {rest : List StoreOp} (k : Nat) (hops : s.beryl.ops = op :: rest) (hbegun : op.begun = true) :
    promoteOps (k + 1) s = s := by
  simp [promoteOps, hops, hbegun]

/-- A store operation as it is requested. -/
def newOp (s : State) (kind : Nat) (ranges : List (Nat × Nat)) : StoreOp :=
  { num := s.beryl.nextOp, ranges := ranges, begun := false, pages := [], total := 0, fails := false, kind := kind }

/-- The state in which the store operations are those listed, the last number given out. -/
def withOps (s : State) (ops : List StoreOp) : State := { s with beryl := { s.beryl with ops := ops, nextOp := s.beryl.nextOp + 1 } }

theorem startStore_of_empty {s : State} {ranges : List (Nat × Nat)} (kind : Nat) (hops : s.beryl.ops = []) (hdirty : dirtyIn s ranges ≠ []) :
    startStore s kind ranges false = withOps s [begunOp (newOp s kind ranges) (dirtyIn s ranges)] := by
  have hstart : startStore s kind ranges false = promoteOps (0 + 1) (withOps s [newOp s kind ranges]) := by
    simp [startStore, hops, withOps, newOp]
  rw [hstart, promoteOps_of_dirty 0 rfl rfl hdirty]
  rfl

/-- What a record or a store operation that ends nothing leaves alone: the descriptors and the rings. -/
structure KeepsRuns (s t : State) : Prop where
  cmds : t.cmds = s.cmds
  rings : t.rings = s.rings

namespace KeepsRuns

theorem of_eq {s t : State} (hcmds : t.cmds = s.cmds := by simp) (hrings : t.rings = s.rings := by simp) : KeepsRuns s t := ⟨hcmds, hrings⟩

theorem trans {s t u : State} (h : KeepsRuns s t) (k : KeepsRuns t u) : KeepsRuns s u := ⟨k.cmds.trans h.cmds, k.rings.trans h.rings⟩

end KeepsRuns

/-- A store operation that goes ahead with a dirty page begins or waits for the one that runs: none ends. -/
theorem startStore_ahead_keepsRuns {s : State} {ranges : List (Nat × Nat)} (kind : Nat) (hdirty : dirtyIn s ranges ≠ []) :
    KeepsRuns s (startStore s kind ranges true) := by
  cases hops : s.beryl.ops with
  | nil =>
    have hstart : startStore s kind ranges true = promoteOps (0 + 1) (withOps s [newOp s kind ranges]) := by
      simp [startStore, hops, withOps, newOp]
    rw [hstart, promoteOps_of_dirty 0 rfl rfl hdirty]
    exact .of_eq rfl rfl
  | cons op rest =>
    cases hbegun : op.begun with
    | true =>
      have hstart : startStore s kind ranges true = promoteOps (rest.length + 1 + 1) (withOps s (op :: newOp s kind ranges :: rest)) := by
        simp [startStore, hops, hbegun, withOps, newOp]
      rw [hstart, promoteOps_of_begun _ rfl hbegun]
      exact .of_eq rfl rfl
    | false =>
      have hstart : startStore s kind ranges true = promoteOps (rest.length + 1 + 1) (withOps s (newOp s kind ranges :: op :: rest)) := by
        simp [startStore, hops, hbegun, withOps, newOp]
      rw [hstart, promoteOps_of_dirty _ rfl rfl hdirty]
      exact .of_eq rfl rfl

theorem mem_sIns {α : Type} (k : Nat) (v : α) (m : Store α) : (k, v) ∈ sIns k v m := by
  induction m with
  | nil => exact List.mem_singleton.2 rfl
  | cons x m ih =>
    unfold sIns
    split
    · exact List.mem_cons_self
    · split
      · exact List.mem_cons_self
      · exact List.mem_cons_of_mem _ ih

/-- A page that was just written is dirty, and a store operation takes it unless it is a bad page of the ring. -/
theorem dirtyIn_pgPut (s : State) {n : Nat} (hi lo v : Nat) (hn : storable (pgPut s n hi lo v) n = true) :
    dirtyIn (pgPut s n hi lo v) [(n, n)] ≠ [] := by
  have hmem : (n, true) ∈ (pgPut s n hi lo v).beryl.dirty := mem_sIns n true s.beryl.dirty
  refine List.ne_nil_of_mem (a := n) (List.mem_map.2 ⟨(n, true), List.mem_filter.2 ⟨hmem, ?_⟩, rfl⟩)
  simp [hn]

theorem agNextSeq_keepsRuns (s : State) : KeepsRuns s (agNextSeq s) := by
  unfold agNextSeq
  simp only
  split
  · refine .trans ?_ (startStore_ahead_keepsRuns 6 (dirtyIn_pgPut _ 39 0 _ ?_))
    · exact .of_eq
    · simp [storable, ringBad, pgSeq]
  · exact .of_eq

theorem agOpen_keepsRuns (s : State) (r : AgRec) : KeepsRuns s (agAdd.agOpen s r).1 := by
  unfold agAdd.agOpen
  simp only
  split
  · exact (agNextSeq_keepsRuns s).trans .of_eq
  · refine .trans ?_ (agNextSeq_keepsRuns _)
    split
    · exact .of_eq
    · exact .of_eq

theorem agAdd_keepsRuns (s : State) (r : AgRec) : KeepsRuns s (agAdd s r).1 := by
  unfold agAdd
  split
  · split
    · exact .of_eq
    · exact agOpen_keepsRuns s r
  · exact agOpen_keepsRuns s r

theorem recordOnly_keepsRuns (s : State) (r : AgRec) : KeepsRuns s (recordOnly s r) := by
  have h := agAdd_keepsRuns s r
  unfold recordOnly
  split
  · next e =>
    rw [e] at h
    exact h.trans .of_eq
  · next e =>
    rw [e] at h
    exact h

theorem lostRec_keepsRuns (s : State) (r : AgRec) : KeepsRuns s (lostRec s r) := by
  unfold lostRec
  split
  · exact (KeepsRuns.of_eq (t := countTotal s 0x020C)).trans (recordOnly_keepsRuns _ _)
  · exact .of_eq

/-- Recording an event ends no store operation, so no command that waits for one. -/
theorem noteEv_keepsRuns (s : State) (src code a0 a1 a2 : Nat) : KeepsRuns s (noteEv s src code a0 a1 a2) :=
  .trans .of_eq ((recordOnly_keepsRuns (countTotal s code) _).trans (lostRec_keepsRuns _ _))

/-! ## FW_STAGE (20 R547 to R549) -/

theorem imageFailed_keepsRuns (s : State) (slot : Nat) (i : Image) : KeepsRuns s (imageFailed s slot i) :=
  (noteEv_keepsRuns s srcSec 0x01B0 slot i.svn 0).trans (.of_eq (t := imageFailed s slot i) (by simp [imageFailed]) (by simp [imageFailed]))

theorem imageFailed_st (s : State) (slot : Nat) (i : Image) : (imageFailed s slot i).pwr.st = s.pwr.st := by simp [imageFailed]

theorem imageOf_congr {s t : State} (h : t.sec.keyDigests = s.sec.keyDigests) (l : List (BitVec 8)) : imageOf t l = imageOf s l := by
  simp only [imageOf, h]

theorem imageFault_congr {s t : State} (hrevoked : t.sec.revoked = s.sec.revoked) (hf : t.sec.f = s.sec.f) (i : Image) :
    imageFault t i = imageFault s i := by
  simp only [imageFault, hrevoked, hf]

/-- The state in which the slot holds `x`. -/
def withSlot (s : State) (x : Staged) : State := { s with sec := { s.sec with staged := x } }

/-- A chunk that is FIRST withdraws the selection. -/
def afterFirst (s : State) (first : Bool) : State := { s with sec := { s.sec with selected := if first then false else s.sec.selected } }

/-- The slot's bytes with a chunk added. -/
def stagedWith (s : State) (d : Desc) (chunk : List (BitVec 8)) : List (BitVec 8) := stagedBytes s (bitOf d.arg0 0) ++ fitBytes d.len chunk

theorem stageLast_of_pass {l : List (BitVec 8)} {s : State} {r : Running} (h : imageFault s (imageOf s l) = 0) :
    stageLast l s r = completeRun (withSlot s (.verified (imageOf s l))) r 0 (imageOf s l).svn [] := if_pos h

theorem stageLast_of_fault {l : List (BitVec 8)} {s : State} {r : Running} (h : imageFault s (imageOf s l) ≠ 0) :
    stageLast l s r = completeRun (imageFailed (withSlot s .nothing) 1 (imageOf s l)) r
      (if imageFault s (imageOf s l) = 1 then 0x0F else 0x10) 0 [] := if_neg h

section Stage

variable {s : State} {r : Running} {p : Port} {d : Desc} {chunk : List (BitVec 8)} (hsrc : r.src = p.val)
include hsrc

theorem src_ne_sideband : r.src % 8 ≠ 4 := by
  have hp := p.isLt
  omega

theorem fwStageRun_of_failed_read : fwStageRun false chunk s r d = completeRun s r 0x0D 0 [] := by
  simp [fwStageRun, src_ne_sideband hsrc]

theorem fwStageRun_of_chunk (hlast : bitOf d.arg0 1 = false) : fwStageRun true chunk s r d =
    completeRun (withSlot (afterFirst s (bitOf d.arg0 0)) (.incomplete (stagedWith s d chunk))) r 0 0 [] := by
  cases hfirst : bitOf d.arg0 0 <;> simp [fwStageRun, src_ne_sideband hsrc, hlast, hfirst, withSlot, afterFirst, stagedWith]

theorem fwStageRun_of_last (hlast : bitOf d.arg0 1 = true) :
    fwStageRun true chunk s r d = stageLast (stagedWith s d chunk) (afterFirst s (bitOf d.arg0 0)) r := by
  cases hfirst : bitOf d.arg0 0 <;> simp [fwStageRun, src_ne_sideband hsrc, hlast, hfirst, afterFirst, stagedWith]

end Stage

/-- Staging a chunk leaves the power state: what a failing image records stops nothing. -/
theorem fwStageRun_st (ok : Bool) (chunk : List (BitVec 8)) (s : State) (r : Running) (d : Desc) :
    (fwStageRun ok chunk s r d).pwr.st = s.pwr.st := by
  unfold fwStageRun
  split
  · simp
  · have hlast (u : State) (l : List (BitVec 8)) : (stageLast l u r).pwr.st = u.pwr.st := by
      unfold stageLast
      simp only
      split <;> simp [imageFailed_st]
    simp only
    split <;> split <;> simp [hlast]

theorem exec_fwStage_of_boot {s : State} {r : Running} {src : Src} {tag : BitVec 16} (ok : Bool) (chunk : List (BitVec 8))
    (h : Issued s r src.val tag 0x0E) (hst : s.pwr.st = .boot) (hcheck : checkStatus s r.src (fwStageChecks s r (descOf r.desc)) = 0) :
    exec (.fwStage src tag ok chunk) s = .next (fwStageRun ok chunk (startedAlone s r) (startedRun r) (descOf r.desc)) := by
  have hrow : fwStageF s src.val tag ok chunk = fwStageRun ok chunk (startedAlone s r) (startedRun r) (descOf r.desc) :=
    cmdRow_of_boot h hcheck rfl (by rw [fwStageRun_st]; simp [startedAlone, hst])
  rw [← hrow]
  rfl

/-- Where verification looks, the start of the command has changed nothing. -/
theorem imageOf_started (s : State) (r : Running) (first : Bool) (l : List (BitVec 8)) :
    imageOf (afterFirst (startedAlone s r) first) l = imageOf s l := imageOf_congr rfl l

theorem imageFault_started (s : State) (r : Running) (first : Bool) (i : Image) :
    imageFault (afterFirst (startedAlone s r) first) i = imageFault s i := imageFault_congr rfl rfl i

/-! ## SETTINGS_STORE and FW_ACTIVATE (19 R528; 20 R549) -/

/-- The state in which the descriptor that runs alone waits for the store operation it has asked for. -/
def awaitingStore (s : State) (r : Running) : State :=
  modRun (startedAlone s r) (startedRun r) (fun x => { x with waitStore := some s.beryl.nextOp })

theorem exec_settingsStore_of_boot {s : State} {r : Running} {src : Src} {tag : BitVec 16} (h : Issued s r src.val tag 0x0D) (hst : s.pwr.st = .boot)
    (hcheck : checkStatus s r.src (checksOf .boot (unused r.desc 25 false false false 0
      || (!bitOf (descOf r.desc).arg0 0 && decide (4096 < bitsOf (descOf r.desc).arg0 12 1 + bitsOf (descOf r.desc).arg0 24 13)))) = 0) :
    exec (.settingsStore src tag) s = .next (startStore (awaitingStore s r) 0 [storeRange (descOf r.desc)] false) := by
  have hrow : settingsStoreF s src.val tag = startStore (awaitingStore s r) 0 [storeRange (descOf r.desc)] false :=
    cmdRow_of_boot h hcheck rfl (by simp [startedAlone, hst])
  rw [← hrow]
  rfl

/-- The state in which the staged image is selected, or no longer. -/
def withSelection (s : State) (selected : Bool) : State := { s with sec := { s.sec with selected := selected } }

theorem exec_fwActivate_of_boot {s : State} {r : Running} {src : Src} {tag : BitVec 16} (h : Issued s r src.val tag 0x0F) (hst : s.pwr.st = .boot)
    (hcheck : checkStatus s r.src { checksOf .boot (unused r.desc 1 false false false 0) with
      wrongState := !bitOf (descOf r.desc).arg0 0 && !isVerified s.sec.staged } = 0) :
    exec (.fwActivate src tag) s =
      .next (completeRun (withSelection (startedAlone s r) (!bitOf (descOf r.desc).arg0 0)) (startedRun r) 0 0 []) := by
  have hrow : fwActivateF s src.val tag =
      completeRun (withSelection (startedAlone s r) (!bitOf (descOf r.desc).arg0 0)) (startedRun r) 0 0 [] :=
    cmdRow_of_boot h hcheck rfl (by simp [startedAlone, hst])
  rw [← hrow]
  rfl

/-- Settles O43: in BOOT a command is its effect alone (cmdRow_of_boot), a store operation with a dirty page begins, and what a failing image
records ends no command. -/
theorem firmwareIsStagedAndSelected : Obligations.FirmwareIsStagedAndSelected := by
  unfold Obligations.FirmwareIsStagedAndSelected
  refine ⟨?_, ?_, ?_, ?_, ?_⟩
  · intro s r src tag n ns h hst hcheck hops hdirty
    have hpages : dirtyIn (awaitingStore s r) [storeRange (descOf r.desc)] = n :: ns := hdirty
    refine ⟨_, exec_settingsStore_of_boot h hst hcheck, ?_⟩
    rw [startStore_of_empty (s := awaitingStore s r) 0 hops (by simp [hpages]), hpages]
    exact ⟨⟨_, rfl, rfl, rfl⟩, rfl, rfl⟩
  · intro s r p tag chunk h hst hcheck hlast
    have hsrc : r.src = p.val := src_of_issued h
    refine ⟨_, exec_fwStage_of_boot true chunk h hst hcheck, ?_⟩
    rw [fwStageRun_of_chunk (r := startedRun r) hsrc hlast]
    refine ⟨?_, posted_completeRun hsrc (.inl rfl), ?_⟩
    all_goals
      simp only [completeRun_keeps]
      rfl
  · intro s r p tag chunk i h hst hcheck hlast hi
    have hsrc : r.src = p.val := src_of_issued h
    refine ⟨_, exec_fwStage_of_boot true chunk h hst hcheck, ?_⟩
    rw [fwStageRun_of_last (r := startedRun r) hsrc hlast]
    have himage (first : Bool) : imageOf (afterFirst (startedAlone s r) first) (stagedWith (startedAlone s r) (descOf r.desc) chunk) = i :=
      (imageOf_started ..).trans hi.symm
    by_cases hpass : imageFault s i = 0
    · rw [stageLast_of_pass (by rw [himage, imageFault_started, hpass]), himage, if_pos hpass, if_pos hpass, if_pos hpass]
      refine ⟨?_, posted_completeRun hsrc (.inl rfl), ?_⟩
      all_goals
        simp only [completeRun_keeps]
        rfl
    · rw [stageLast_of_fault (by rwa [himage, imageFault_started]), himage, imageFault_started, if_neg hpass, if_neg hpass, if_neg hpass]
      have hkept := imageFailed_keepsRuns (withSlot (afterFirst (startedAlone s r) (bitOf (descOf r.desc).arg0 0)) .nothing) 1 i
      refine ⟨?_, posted_completeRun hsrc (.inr rfl) hkept.cmds hkept.rings, ?_⟩
      all_goals
        simp only [completeRun_keeps, imageFailed_keeps]
        rfl
  · intro s r p tag chunk h hst hcheck
    have hsrc : r.src = p.val := src_of_issued h
    refine ⟨_, exec_fwStage_of_boot false chunk h hst hcheck, ?_⟩
    rw [fwStageRun_of_failed_read (r := startedRun r) hsrc]
    exact ⟨posted_completeRun hsrc (.inr rfl), by simp [startedAlone]⟩
  · intro s r p tag h hst hcheck
    have hsrc : r.src = p.val := src_of_issued h
    refine ⟨_, exec_fwActivate_of_boot h hst hcheck, ?_, posted_completeRun hsrc (.inl rfl)⟩
    simp only [completeRun_keeps]
    rfl

/-! ## LEAVE with the writes acknowledged (10 R321, R323) -/

/-- A fetched LEAVE of port 0. -/
def leaveCmd : Running :=
  { src := 0, desc := BitVec.ofNat 512 (0x11 + 1 * 2 ^ 32), payload := [], started := false, ord := 0, prog := 0, waitJ := none, waitLines := [],
    sseq := none, waitStore := none, status := 0, result := 0 }

/-- PAIRED in SERVICE with that descriptor, no MIRROR_WRITE open and one message of a tile not yet acknowledged. -/
def pairedWithTileOp : State :=
  { State.reset with
    pwr := { pwrReset with st := .service }
    cmds := { cmdsReset with run := [leaveCmd] }
    pair := { pairReset with role := .paired, home := .bySeat, linkUp := true, opens := [.tileOp 7 0 0] } }

theorem issued_pairedWithTileOp : Issued pairedWithTileOp leaveCmd 0 0 0x11 := by
  unfold Issued NoRotation
  decide +kernel

/-- The LEAVE waits for no MIRROR_WRITE: the module is FENCED within its command. -/
theorem role_of_pairedWithTileOp : (twinLeaveF pairedWithTileOp 0 0).pair.role = .fenced := by
  decide +kernel

/-- Refutes O44 in its clause on LEAVE, which claims that the module stays PAIRED while its list of open messages is not empty. A LEAVE waits for
MIRROR_WRITEs alone (R321), and a tile message stands in that list too: where it alone is open, the LEAVE ends at once, in FENCED. No run is known
to leave a tile message open where no other command runs, but the statement's hypotheses admit that state and ask for no open write. -/
theorem not_pairAndScrubFollowTheirCommands : ¬ Obligations.PairAndScrubFollowTheirCommands := by
  unfold Obligations.PairAndScrubFollowTheirCommands
  rintro ⟨-, hleave, -⟩
  obtain ⟨t, ht, -, hpaired, -⟩ := hleave pairedWithTileOp leaveCmd 0 0 issued_pairedWithTileOp (by decide +kernel) (by decide)
    (by decide +kernel)
  have hnext : twinLeaveF pairedWithTileOp 0 0 = t := Host.Outcome.next.inj ht
  rw [← hnext, role_of_pairedWithTileOp] at hpaired
  exact absurd hpaired (by decide)

end Sys2Proof.Proofs.Commands
end

section
/-! PROOF. The statements of the register file (13): reads with what they latch and clear, the unlock, and the writes that it guards. -/

namespace Sys2Proof.Proofs.Registers

open Sys2Proof Sys2Proof.Machine Sys2Proof.Safety
open Sys2Proof.Proofs.HostPorts (testBit_bitsOf bitsOf_pgWith_same pgGet_pgPut)

/-! ## Which slot an access covers (R400) -/

theorem coverOf_aligned (r : Nat) {off : Nat} (h : off % 8 = 0) : coverOf r off 8 = .whole := by
  simp [coverOf, h]

/-- The sideband and JTAG always move a whole slot. -/
theorem coverOf_local {r : Nat} (off size : Nat) (h : 4 ≤ r) : coverOf r off size = .whole := if_pos h

theorem coverOf_upper {r off : Nat} (hr : r < 4) (h : off % 8 = 4) : coverOf r off 4 = .upper := by
  simp [coverOf, h, hr]

theorem coverOf_other {r off size : Nat} (hr : r < 4) (h8 : size ≠ 8) (h4 : size ≠ 4) : coverOf r off size = .other := by
  simp [coverOf, h8, h4, hr]

theorem coverOf_ne_whole {r off size : Nat} (hr : r < 4) (h : size ≠ 8 ∨ off % 8 ≠ 0) : coverOf r off size ≠ .whole := by
  have hsize : ¬ (size = 8 ∧ off % 8 = 0) := by omega
  rw [coverOf, if_neg (by omega), if_neg hsize]
  split
  · simp
  · split <;> simp

/-! ## Reads (R402, R410) -/

section Reads

variable {s : State} {r : Requester} {off size : Nat} {b : Blk} {i slot : Nat} (hreach : reqReaches s r.val = true)
include hreach

theorem busRead_of_no_slot (hslot : slotOf off = none) : busRead s r off size = emit s (.regRead r 0) := by
  simp [busRead, hreach, hslot]

theorem busRead_of_whole (hslot : slotOf off = some (b, i, slot)) (hcover : coverOf r.val off size = .whole) :
    busRead s r off size = emit (readSlot s r.val b i slot).1 (.regRead r (BitVec.ofNat 40 (regRead s r.val b i slot))) := by
  have hvalue : (readSlot s r.val b i slot).2 = regRead s r.val b i slot := by
    unfold readSlot
    split <;> rfl
  simp [busRead, hreach, hslot, hcover, hvalue]

theorem busRead_of_upper (hslot : slotOf off = some (b, i, slot)) (hcover : coverOf r.val off size = .upper) :
    busRead s r off size = emit s (.regRead r (BitVec.ofNat 40 (regRead s r.val b i slot / 2 ^ 32))) := by
  simp [busRead, hreach, hslot, hcover]

theorem busRead_of_other (hcover : coverOf r.val off size = .other) : busRead s r off size = emit s (.regRead r 0) := by
  cases hslot : slotOf off with
  | none => exact busRead_of_no_slot hreach hslot
  | some x => simp [busRead, hreach, hslot, hcover]

end Reads

theorem readSlot_of_answers {s : State} {b : Blk} {i slot : Nat} (r : Nat) (h : slotAnswers s b i slot = true) :
    (readSlot s r b i slot).1 = if r = 5 then latchSlot s r b slot else clearSlot (latchSlot s r b slot) b i slot := by
  simp [readSlot, h]

/-- A read by JTAG clears nothing. -/
theorem readSlot_jtag_regs (s : State) (b : Blk) (i slot : Nat) : (readSlot s 5 b i slot).1.regs = s.regs := by
  unfold readSlot
  split <;> simp

/-- Releasing a latch leaves what reads have latched of TIME, of the sequence numbers and of a counter. -/
theorem releaseSlot_latches (s : State) (b : Blk) (i slot : Nat) : (releaseSlot s b i slot).req.time = s.req.time ∧
    (releaseSlot s b i slot).req.seqs = s.req.seqs ∧ (releaseSlot s b i slot).req.ctrHi = s.req.ctrHi := by
  unfold releaseSlot
  split <;> simp

theorem clearSlot_latches (s : State) (b : Blk) (i slot : Nat) : (clearSlot s b i slot).req.time = s.req.time ∧
    (clearSlot s b i slot).req.seqs = s.req.seqs ∧ (clearSlot s b i slot).req.ctrHi = s.req.ctrHi := by
  unfold clearSlot
  simp only [releaseSlot_latches]
  split <;> simp

/-- What a clearing read leaves in its slot: both words as they were, and no flag. -/
theorem cellAt_clearSlot (s : State) (b : Blk) (i slot : Nat) :
    cellAt (clearSlot s b i slot) b i slot = { cellAt s b i slot with rc := 0 } := by
  have hkept (t : State) : cellAt (releaseSlot t b i slot) b i slot = cellAt t b i slot := cellAt_congr (by simp) ..
  simp only [clearSlot, hkept]
  split
  · next h => rw [← h]
  · rw [cellAt_setCell_same]

/-- What a read latches stands in the state after it, whoever reads. -/
theorem readSlot_latches {s : State} {b : Blk} {i slot : Nat} (r : Nat) (h : slotAnswers s b i slot = true) :
    (readSlot s r b i slot).1.req.time = (latchSlot s r b slot).req.time ∧
    (readSlot s r b i slot).1.req.seqs = (latchSlot s r b slot).req.seqs ∧
    (readSlot s r b i slot).1.req.ctrHi = (latchSlot s r b slot).req.ctrHi := by
  rw [readSlot_of_answers r h]
  split
  · simp
  · exact clearSlot_latches ..

/-- Settles O51: a read is the answer of its slot (busRead_of_whole), after the latches of its requester and the clear of its flags. -/
theorem readsAnswerLatchAndClear : Obligations.ReadsAnswerLatchAndClear := by
  unfold Obligations.ReadsAnswerLatchAndClear
  refine ⟨?_, ?_, ?_, ?_, ?_, ?_, ?_, ?_⟩
  · intro s r off size hreach hslot
    exact congrArg Host.Outcome.next (busRead_of_no_slot hreach hslot)
  · intro s p off b i slot hreach halign hslot hanswers
    refine ⟨_, congrArg Host.Outcome.next (busRead_of_whole (r := p.castLE (by decide)) hreach hslot (coverOf_aligned _ halign)), ?_⟩
    have hport : p.val ≠ 5 := by omega
    have hcell : cellAt (readSlot s p.val b i slot).1 b i slot = { cellAt s b i slot with rc := 0 } := by
      rw [readSlot_of_answers _ hanswers, if_neg hport, cellAt_clearSlot, cellAt_congr (s := s) (by simp)]
    simp [cellAt_congr (emit_regs ..), hcell]
  · intro s off size b i slot hst hslot
    have hreach : reqReaches s (5 : Requester).val = true := by simpa [reqReaches] using hst
    refine ⟨_, congrArg Host.Outcome.next (busRead_of_whole hreach hslot (coverOf_local _ _ (by decide))), ?_⟩
    exact ⟨by simp, readSlot_jtag_regs .., by simp⟩
  · intro s p off b i slot hreach halign hslot
    exact congrArg Host.Outcome.next (busRead_of_upper (r := p.castLE (by decide)) hreach hslot (coverOf_upper p.isLt halign))
  · intro s p off size hreach h8 h4
    exact congrArg Host.Outcome.next (busRead_of_other (r := p.castLE (by decide)) hreach (coverOf_other p.isLt h8 h4))
  · intro s r hreach hanswers
    refine ⟨_, congrArg Host.Outcome.next (busRead_of_whole (b := .global) (i := 0) (slot := 10) hreach rfl (coverOf_aligned _ rfl)), ?_⟩
    simp only [emit_req, readSlot_latches _ hanswers]
    exact ⟨sGet_sSet_same .., fun q hq => sGet_sSet_other _ _ _ hq.symm, by simp⟩
  · intro s r hreach hanswers
    refine ⟨_, congrArg Host.Outcome.next (busRead_of_whole (b := .agate) (i := 0) (slot := 1) hreach rfl (coverOf_aligned _ rfl)), ?_⟩
    simp only [emit_req, readSlot_latches _ hanswers]
    exact ⟨sGet_sSet_same .., fun q hq => sGet_sSet_other _ _ _ hq.symm, by simp⟩
  · intro s r hreach hanswers
    refine ⟨_, congrArg Host.Outcome.next (busRead_of_whole (b := .quartz) (i := 0) (slot := 9) hreach rfl (coverOf_aligned _ rfl)), ?_⟩
    simp only [emit_req, readSlot_latches _ hanswers]
    exact ⟨sGet_sSet_same .., fun q hq => sGet_sSet_other _ _ _ hq.symm, by simp⟩

/-! ## Violations (R424) -/

theorem violation_armed (s : State) (bit r off : Nat) : (violation s bit r off).req.armed = s.req.armed := by
  unfold violation
  split <;> simp

theorem isArmed_of_armed_eq {s t : State} (hpwr : t.pwr = s.pwr) (harmed : t.req.armed = s.req.armed) (r : Nat) : isArmed t r = isArmed s r := by
  rw [isArmed, isArmed, now_congr hpwr, harmed]

theorem isArmed_violation (s : State) (bit r off q : Nat) : isArmed (violation s bit r off) q = isArmed s q :=
  isArmed_of_armed_eq (by simp) (violation_armed ..) q

theorem bitOf_eq_testBit (x k : Nat) : bitOf x k = x.testBit k := by
  rw [bitOf, Nat.testBit_eq_decide_div_mod_eq, Nat.shiftRight_eq_div_pow]
  rfl

theorem bitOf_rc_setRC (s : State) (b : Blk) (i slot m k : Nat) (hk : k < 20) (hm : m.testBit k = true) :
    bitOf (cellAt (setRC s b i slot m) b i slot).rc.toNat k = true := by
  rw [setRC, cellAt_setCell_same, bitOf_eq_testBit, BitVec.testBit_toNat, BitVec.getLsbD_or, BitVec.getLsbD_ofNat, hm]
  simp [hk]

/-- A violation sets the flag of its kind, whether or not one is latched already. -/
theorem bitOf_rc_violation (s : State) {bit : Nat} (r off : Nat) (hbit : bit < 3) :
    bitOf (cellAt (violation s bit r off) .global 0 16).rc.toNat bit = true := by
  unfold violation
  split
  · have hflag : (2 ^ bit + r * 2 ^ 4).testBit bit = true := by
      rw [Nat.testBit_eq_decide_div_mod_eq, decide_eq_true_eq]
      interval_cases bit <;> omega
    exact bitOf_rc_setRC _ _ _ _ _ _ (by omega) hflag
  · exact bitOf_rc_setRC _ _ _ _ _ _ (by omega) (by simp)

/-! ## Write accesses (R400, R401) -/

theorem busWrite_of_not_whole {s : State} {r off size : Nat} (v : Nat) (hreach : reqReaches s r = true) (hcover : coverOf r off size ≠ .whole) :
    busWrite s r off size v = violation s 2 r off := by
  cases hc : coverOf r off size with
  | whole => exact absurd hc hcover
  | lower | upper | other => simp [busWrite, hreach, hc]

theorem busWrite_of_no_slot {s : State} {r off size : Nat} (v : Nat) (hreach : reqReaches s r = true) (hcover : coverOf r off size = .whole)
    (hslot : slotOf off = none) : busWrite s r off size v = s := by
  simp [busWrite, hreach, hcover, hslot]

theorem busWrite_of_whole {s : State} {r off size : Nat} {b : Blk} {i slot : Nat} (v : Nat) (hreach : reqReaches s r = true)
    (hcover : coverOf r off size = .whole) (hslot : slotOf off = some (b, i, slot)) :
    busWrite s r off size v = writeSlot s r off b i slot v := by
  simp [busWrite, hreach, hcover, hslot]

/-- A value without a mask selects every bit (R401). -/
theorem wrMask_of_lt {v : Nat} (h : v < 2 ^ 20) : wrMask v = 0xFFFFF := by
  have hmask : bitsOf v 39 20 = 0 := by
    rw [bitsOf, Nat.shiftRight_eq_div_pow, Nat.div_eq_of_lt h, Nat.zero_mod]
  rw [wrMask, if_pos hmask]

/-! ## The unlock (R415) -/

theorem busWrite_unlock {s : State} {r v : Nat} (hreach : reqReaches s r = true) (hst : s.pwr.st ≠ .off) (hv : v < 2 ^ 20) :
    busWrite s r (14 * 8) 8 v = writeUnlock s r (14 * 8) v := by
  have hselected : v % 2 ^ 20 &&& 0xFFFFF = v := by
    rw [Nat.and_two_pow_sub_one_eq_mod _ 20]
    omega
  have hdom : domOn s 0 = true := by simpa [domOn] using hst
  rw [busWrite_of_whole (b := .global) (i := 0) (slot := 14) v hreach (coverOf_aligned r rfl) rfl]
  simp only [writeSlot, blkDom, hdom, wrMask_of_lt hv, hselected]
  rfl

theorem writeUnlock_key (s : State) (r off : Nat) :
    writeUnlock s r off unlockKey = { s with req := { s.req with armed := sSet 0 s.req.armed r (now s + 100000001) } } := if_pos rfl

/-- The key arms its writer for 100 ms, and no other requester. -/
theorem isArmed_writeUnlock_key (s : State) (r off q : Nat) :
    isArmed (writeUnlock s r off unlockKey) q = if r = q then true else isArmed s q := by
  simp only [writeUnlock_key, isArmed, now, sGet_sSet]
  split
  · simp
  · rfl

theorem writeUnlock_of_ne (s : State) (r off : Nat) {v : Nat} (h : v ≠ unlockKey) : writeUnlock s r off v = violation (disarm s r) 0 r off :=
  if_neg h

/-! ## Guarded writes (R414, R416) -/

theorem expertOk_congr {s t : State} (h : t.regs = s.regs) (b : Blk) (slot m : Nat) : expertOk t b slot m = expertOk s b slot m := by
  simp only [expertOk, expertEn_congr h]

/-- What a write that selects an RWK bit does: it needs the unlock, which it consumes, and the EXPERT_EN bits of its fields. -/
theorem writeSlot_of_guarded {s : State} {b : Blk} {i slot v : Nat} (r off : Nat) (hdom : domOn s (blkDom b i) = true) (hb : b ≠ .security)
    (hguard : wrMask v &&& rwkMask b slot ≠ 0) : writeSlot s r off b i slot v =
      if isArmed s r then
        (if expertOk s b slot (wrMask v) then takeWrite (disarm s r) r b i slot (wrMask v) (v % 2 ^ 20) else violation (disarm s r) 1 r off)
      else violation s 0 r off := by
  have hunlock : ¬ (b = .global ∧ slot = 14) := by
    rintro ⟨rfl, rfl⟩
    have hmask : rwkMask .global 14 = 0 := by decide
    exact hguard (by rw [hmask, Nat.and_zero])
  have hexpert := expertOk_congr (s := s) (t := disarm s r) (by simp) b slot (wrMask v)
  simp only [writeSlot, hdom, hb, hunlock, hguard, hexpert, decide_false, Bool.false_and, Bool.true_or, Bool.not_true, Bool.false_eq_true, if_false]

/-- JTAG writes nothing in DBG_CTL (20 R559). -/
theorem busWrite_jtag_dbgCtl (s : State) (v : Nat) : busWrite s 5 0x12038 8 v = s := by
  have hslot : slotOf 0x12038 = some (.security, 0, 7) := rfl
  by_cases hreach : reqReaches s 5 = true
  · rw [busWrite_of_whole v hreach (coverOf_local _ _ (by decide)) hslot]
    simp [writeSlot]
  · simp [busWrite, hreach]

/-! ## A write of EXPERT_EN (R416, R421) -/

theorem testBit_mergeBits (old m v : Nat) {k : Nat} (hk : k < 20) :
    (mergeBits old m v).testBit k = if m.testBit k then v.testBit k else old.testBit k := by
  have hones : (0xFFFFF : Nat).testBit k = true := by
    rw [show (0xFFFFF : Nat) = 2 ^ 20 - 1 from rfl, Nat.testBit_two_pow_sub_one]
    simpa using hk
  cases hm : m.testBit k <;> simp [mergeBits, hones, hm]

/-- The one field of EXPERT_EN. -/
def expertEnField : FieldT :=
  { slot := 18, cnt := 1, hi := 17, lo := 0, acc := .rwk, reset := 0, ap := .now, fn := 31, clamp := .any, beryl := true }

theorem slotFields_expertEn : slotFields .global 18 = [expertEnField] := by decide

/-- EXPERT_EN needs none of its own bits. -/
theorem expertOk_expertEn (s : State) (m : Nat) : expertOk s .global 18 m = true := by
  simp [expertOk, slotFields_expertEn, expertEnField]

/-- The pending word of EXPERT_EN after a write of the whole slot. -/
def expertWord (s : State) (v : Nat) : Nat := takeField (mergeBits (cellAt s .global 0 18).pend.toNat 0x3FFFF v) expertEnField

/-- The cell of EXPERT_EN after that write: the value is active at once. -/
def expertCell (s : State) (v : Nat) : RegCell :=
  let c := cellAt s .global 0 18
  { c with pend := BitVec.ofNat 20 (expertWord s v), act := BitVec.ofNat 20 (mergeBits c.act.toNat 0x3FFFF (expertWord s v)) }

theorem putPend_expertEn (s : State) (v : Nat) :
    putPend s .global 0 18 0xFFFFF v = saveField (setCell s .global 0 18 (expertCell s v)) .global 0 18 expertEnField := by
  unfold putPend
  rw [slotFields_expertEn]
  rfl

theorem testBit_expertMask {k : Nat} (hk : k < 18) : expertEnField.mask.testBit k = true := by
  rw [show expertEnField.mask = 2 ^ 18 - 1 from rfl, Nat.testBit_two_pow_sub_one, decide_eq_true hk]

/-- The bits of the field are those of the value written. -/
theorem testBit_expertWord (s : State) (v : Nat) {k : Nat} (hk : k < 18) : (expertWord s v).testBit k = v.testBit k := by
  have hmask : Nat.testBit 0x3FFFF k = true := testBit_expertMask hk
  have hvalue (w : Nat) : takeValue expertEnField.clamp (bitsOf w expertEnField.hi expertEnField.lo) * 2 ^ expertEnField.lo = bitsOf w 17 0 :=
    Nat.mul_one _
  rw [expertWord, takeField, testBit_mergeBits _ _ _ (by omega), if_pos (testBit_expertMask hk), hvalue, testBit_bitsOf, Nat.zero_add,
    testBit_mergeBits _ _ _ (by omega), if_pos hmask, decide_eq_true hk, Bool.true_and]

/-- Every bit of the field is active as it was written. -/
theorem bitOf_expertCell_act (s : State) (v : Nat) {k : Nat} (hk : k < 18) : bitOf (expertCell s v).act.toNat k = bitOf v k := by
  have hmask : Nat.testBit 0x3FFFF k = true := testBit_expertMask hk
  have hk20 : k < 20 := by omega
  rw [bitOf_eq_testBit, bitOf_eq_testBit, ← testBit_expertWord s v hk, expertCell, BitVec.testBit_toNat, BitVec.getLsbD_ofNat,
    testBit_mergeBits _ _ _ hk20, if_pos hmask, decide_eq_true hk20, Bool.true_and]

theorem bitsOf_expertCell_pend (s : State) {v : Nat} (hv : v < 2 ^ 18) : bitsOf (expertCell s v).pend.toNat 17 0 = v := by
  apply Nat.eq_of_testBit_eq
  intro k
  rw [testBit_bitsOf, Nat.zero_add]
  by_cases hk : k < 18
  · have hk20 : k < 20 := by omega
    rw [expertCell, BitVec.testBit_toNat, BitVec.getLsbD_ofNat, testBit_expertWord s v hk, decide_eq_true hk, decide_eq_true hk20,
      Bool.true_and, Bool.true_and]
  · rw [decide_eq_false hk, Bool.false_and, Nat.testBit_lt_two_pow (hv.trans_le (Nat.pow_le_pow_right (by decide) (by omega)))]

/-- The page image of EXPERT_EN holds the value pending (R409). -/
theorem pgGet_saveField_expertEn (s : State) :
    pgGet (saveField s .global 0 18 expertEnField) pgSettings 17 0 = bitsOf (cellAt s .global 0 18).pend.toNat 17 0 := by
  have hsave : saveField s .global 0 18 expertEnField = pgPut s pgSettings 17 0 (bitsOf (cellAt s .global 0 18).pend.toNat 17 0) := rfl
  rw [hsave, pgGet_pgPut, bitsOf_pgWith_same _ _ (by decide), bitsOf, Nat.mod_mod]

theorem expertEn_putPend (s : State) (v : Nat) {k : Nat} (hk : k < 18) : expertEn (putPend s .global 0 18 0xFFFFF v) k = bitOf v k := by
  have hsaved (t : State) : expertEn (saveField t .global 0 18 expertEnField) k = expertEn t k := expertEn_congr (by simp) k
  rw [putPend_expertEn, hsaved, expertEn, regB, cellAt_setCell_same, bitOf_expertCell_act _ _ hk]

theorem pgGet_putPend_expertEn (s : State) {v : Nat} (hv : v < 2 ^ 18) : pgGet (putPend s .global 0 18 0xFFFFF v) pgSettings 17 0 = v := by
  rw [putPend_expertEn, pgGet_saveField_expertEn, cellAt_setCell_same, bitsOf_expertCell_pend _ hv]

/-- An armed write of EXPERT_EN consumes the unlock and takes effect. -/
theorem busWrite_expertEn {s : State} {r v : Nat} (hreach : reqReaches s r = true) (hst : s.pwr.st ≠ .off) (harmed : isArmed s r = true)
    (hv : v < 2 ^ 18) : busWrite s r (18 * 8) 8 v = putPend (disarm s r) .global 0 18 0xFFFFF v := by
  have hdom : domOn s (blkDom .global 0) = true := by simpa [domOn, blkDom] using hst
  have hmask : wrMask v = 0xFFFFF := wrMask_of_lt (by omega)
  have hguard : wrMask v &&& rwkMask .global 18 ≠ 0 := by
    rw [hmask]
    decide
  rw [busWrite_of_whole (b := .global) (i := 0) (slot := 18) v hreach (coverOf_aligned r rfl) rfl,
    writeSlot_of_guarded r _ hdom (by decide) hguard, if_pos harmed, if_pos (expertOk_expertEn ..), hmask, Nat.mod_eq_of_lt (by omega)]
  rfl

/-- Settles O52: what a guarded write does is said once (writeSlot_of_guarded); a violation sets its flag (bitOf_rc_violation) and arms nobody. -/
theorem guardedWritesNeedTheUnlock : Obligations.GuardedWritesNeedTheUnlock := by
  unfold Obligations.GuardedWritesNeedTheUnlock
  refine ⟨?_, ?_, ?_, ?_, ?_, ?_, ?_, ?_, ?_⟩
  · intro s r hreach hst
    have hkey : (0x6B1D4 : BitVec 64).toNat = unlockKey := by decide
    have hwrite : unlockF s r.val 0x6B1D4 = writeUnlock s r.val (14 * 8) unlockKey := by
      rw [unlockF, hkey, busWrite_unlock hreach hst (by decide)]
    refine ⟨_, congrArg Host.Outcome.next hwrite, ?_, ?_, ?_, ?_⟩
    · rw [isArmed_writeUnlock_key, if_pos rfl]
    · simp [writeUnlock_key]
    · intro q hq
      rw [isArmed_writeUnlock_key, if_neg hq.symm]
    · rw [writeUnlock_key]
  · intro s r v hreach hst hv hkey
    refine ⟨_, congrArg Host.Outcome.next ((busWrite_unlock hreach hst hv).trans (writeUnlock_of_ne _ _ _ hkey)), ?_, ?_, ?_⟩
    · rw [isArmed_violation, isArmed_disarm, if_pos rfl]
    · exact bitOf_rc_violation _ _ _ (by decide)
    · intro q hq
      rw [isArmed_violation, isArmed_disarm, if_neg hq.symm]
  · intro s r harmed
    exact congrArg Host.Outcome.next (if_pos harmed)
  · intro s r harmed
    exact ⟨disarm s r.val, congrArg Host.Outcome.next (if_neg (by simp [harmed])), by simp [disarm], by simp⟩
  · intro s r off v b i slot hreach hcover hslot hdom hb hguard
    have hwrite := (busWrite_of_whole v.toNat hreach hcover hslot).trans (writeSlot_of_guarded r.val off.toNat hdom hb hguard)
    constructor
    · intro harmed
      rw [if_neg (by simp [harmed])] at hwrite
      exact ⟨_, congrArg Host.Outcome.next hwrite, rfl, bitOf_rc_violation _ _ _ (by decide), violation_armed ..⟩
    · intro harmed hexpert
      rw [if_pos harmed, if_neg (by simp [hexpert])] at hwrite
      refine ⟨_, congrArg Host.Outcome.next hwrite, rfl, ?_, bitOf_rc_violation _ _ _ (by decide)⟩
      rw [isArmed_violation, isArmed_disarm, if_pos rfl]
  · intro s r v hreach hst harmed hv
    refine ⟨_, congrArg Host.Outcome.next (busWrite_expertEn hreach hst harmed hv), ?_, ?_, ?_, ?_⟩
    · exact fun k hk => expertEn_putPend _ _ hk
    · rw [isArmed_of_armed_eq (s := disarm s r.val) (by simp) (by simp), isArmed_disarm, if_pos rfl]
    · exact pgGet_putPend_expertEn _ hv
    · simp
  · intro s p off size v hreach hmisfit
    exact ⟨_, congrArg Host.Outcome.next (busWrite_of_not_whole v.toNat hreach (coverOf_ne_whole p.isLt hmisfit)), rfl,
      bitOf_rc_violation _ _ _ (by decide)⟩
  · intro s off v hreach hslot
    exact congrArg Host.Outcome.next (busWrite_of_no_slot v.toNat hreach (coverOf_local _ _ (by decide)) hslot)
  · intro s v
    exact congrArg Host.Outcome.next (busWrite_jtag_dbgCtl s v.toNat)

end Sys2Proof.Proofs.Registers
end

section
/-! PROOF. The statements of the power domains, the Drain and sequencing (16): boot steps 2 to 5, running rails, and what JTAG may reach. -/

namespace Sys2Proof.Proofs.Sequencing

open Sys2Proof Sys2Proof.Machine Sys2Proof.Safety Sys2Proof.Proofs.Glance

/-! ## Domains under records and flags -/

theorem doms_of_keepsPower {p q : Power} (h : KeepsPower p q) : q.doms = p.doms := by rcases h with rfl | rfl <;> rfl
theorem mainOn_of_keepsPower {p q : Power} (h : KeepsPower p q) : q.mainOn = p.mainOn := by rcases h with rfl | rfl <;> rfl
theorem bootStep_of_keepsPower {p q : Power} (h : KeepsPower p q) : q.bootStep = p.bootStep := by rcases h with rfl | rfl <;> rfl

@[simp] theorem domAt_noteEv (s : State) (src code a0 a1 a2 d : Nat) : domAt (noteEv s src code a0 a1 a2) d = domAt s d := by
  rw [domAt, domAt, doms_of_keepsPower (noteEv_keepsPower ..)]

@[simp] theorem domAt_flagPwr (s : State) (bit d : Nat) : domAt (flagPwr s bit) d = domAt s d := domAt_congr (by simp) d
@[simp] theorem domAt_flagDom (s : State) (e d : Nat) : domAt (flagDom s e) d = domAt s d := domAt_congr (by simp) d

/-! ## Power-good of running domains (16 R463) -/

theorem pgDeassertF_of_short {s : State} {d n : Nat} (hon : (domAt s d).st = 2) (h : n < regF s .power 0 89 9 4) :
    pgDeassertF s d n = glitch s d := by
  simp [pgDeassertF, hon, h]

theorem pgDeassertF_of_long {s : State} {d n : Nat} (hon : (domAt s d).st = 2) (h : regF s .power 0 89 9 4 ≤ n) :
    pgDeassertF s d n = railFault s d := by
  simp [pgDeassertF, hon, Nat.not_lt.2 h]

theorem railVoltageFaultF_of_on {s : State} {d : Nat} (hon : (domAt s d).st = 2) : railVoltageFaultF s d = railFault s d := if_pos hon

/-- The state in which a domain has counted one glitch more. -/
def glitchCounted (s : State) (d : Nat) : State := modDom (flagDom s d) d (fun x => { x with glitches := satAdd 127 x.glitches 1 })

theorem domAt_glitchCounted (s : State) (d : Nat) :
    domAt (glitchCounted s d) d = { domAt s d with glitches := satAdd 127 (domAt s d).glitches 1 } := by
  simp [glitchCounted]

/-- Beside its count, a glitch changes the times of the chatter alone. -/
theorem glitch_of_counted (s : State) (d : Nat) : (glitch s d).pwr.st = (glitchCounted s d).pwr.st ∧
    (domAt (glitch s d) d).glitches = (domAt (glitchCounted s d) d).glitches ∧ (domAt (glitch s d) d).st = (domAt (glitchCounted s d) d).st := by
  unfold glitch
  extract_lets u x l
  change _ = u.pwr.st ∧ _ = (domAt u d).glitches ∧ _ = (domAt u d).st
  split
  · exact ⟨rfl, rfl, rfl⟩
  · split <;> simp

theorem glitch_spec (s : State) (d : Nat) : (glitch s d).pwr.st = s.pwr.st ∧
    (domAt (glitch s d) d).glitches = satAdd 127 (domAt s d).glitches 1 ∧ (domAt (glitch s d) d).st = (domAt s d).st := by
  obtain ⟨hst, hcount, hdom⟩ := glitch_of_counted s d
  rw [domAt_glitchCounted] at hcount hdom
  exact ⟨hst.trans (by simp [glitchCounted]), hcount, hdom⟩

/-! ## Switch-off (16 R467, R476) -/

/-- A switch-off in SERVICE or DRAIN without a last-gasp row: what the domains hold is lost, the dirty shutdown is counted and stored, and its
record says how many lines went. -/
theorem switchOff_of_running (s : State) (c : Nat) (hst : s.pwr.st = .service ∨ s.pwr.st = .drain) (hc : c ≠ 1) :
    ∃ (u : State) (dirty lines : Nat), u.pwr.fatal = s.pwr.fatal ∧ u.pwr.mainOn = s.pwr.mainOn ∧ u.med = s.med ∧
      switchOff s (some c) = noteEv (storeShut (countDirty (loseVolatile u) c)) srcPower 0x0280 dirty lines c := by
  unfold switchOff
  extract_lets counted credited paged dirty lines off _ ended lost
  have hoff : off.pwr.fatal = s.pwr.fatal ∧ off.pwr.mainOn = s.pwr.mainOn ∧ off.med = s.med := by
    refine List.foldlRecOn (motive := fun t : State => t.pwr.fatal = s.pwr.fatal ∧ t.pwr.mainOn = s.pwr.mainOn ∧ t.med = s.med) _ _ ?_ ?_
    · simp [paged, credited]
    · intro t ht d _
      split
      · exact ht
      · exact ht
  obtain ⟨hfatal, hmain, hmed⟩ := hoff
  refine ⟨ended, dirty, lines, hfatal, hmain, hmed, ?_⟩
  simp [counted, hst, hc, lost]

theorem storeShut_keepsPower (s : State) : KeepsPower s.pwr (storeShut s).pwr := startStore_keepsPower ..

theorem switchOff_spec (s : State) (c : Nat) (hst : s.pwr.st = .service ∨ s.pwr.st = .drain) (hc : c ≠ 1) :
    (switchOff s (some c)).pwr.fatal = s.pwr.fatal ∧ (switchOff s (some c)).pwr.mainOn = s.pwr.mainOn ∧
    (switchOff s (some c)).cist.ents = [] ∧ (switchOff s (some c)).cache.ways = [] ∧
    (switchOff s (some c)).med.frames = s.med.frames := by
  obtain ⟨u, dirty, lines, hfatal, hmain, hmed, h⟩ := switchOff_of_running s c hst hc
  have hkept : KeepsPower u.pwr (switchOff s (some c)).pwr := by
    rw [h]
    exact .trans (.after (by simp) (storeShut_keepsPower _)) (noteEv_keepsPower ..)
  refine ⟨hkept.fatal.trans hfatal, (mainOn_of_keepsPower hkept).trans hmain, ?_, ?_, ?_⟩
  · simp [h, loseVolatile, cistReset]
  · simp [h, loseVolatile, cacheReset]
  · simp [h, loseVolatile, hmed]

theorem stopFor_of_noDrain {s : State} {code : Nat} (hst : s.pwr.st = .service) (hcode : noDrain code = true) :
    stopFor s code = enterHalt (switchOff s (offCause code)) false := by
  simp [stopFor, hst, hcode]

/-- A rail fault is fatal and takes no Drain: the module switches off at once, and enters HALT (01 R23; 16 R467). -/
theorem fatal_of_rail (s : State) (d : Nat) (hst : s.pwr.st = .service) : ∃ u : State, u.pwr.st = .service ∧ u.pwr.fatal = true ∧
    fatal s srcPower 0x0303 d 0 0 = enterHalt (switchOff u (some 0)) false := by
  unfold fatal
  extract_lets recorded ft _ _ _ marked
  have hpwr : (viralPorts marked (portsOn marked)).pwr = marked.pwr := by simp
  have hrec : recorded.pwr.st = .service := (recordEv_keepsPower ..).st.trans hst
  have hst' : (viralPorts marked (portsOn marked)).pwr.st = .service := (congrArg Power.st hpwr).trans hrec
  exact ⟨_, hst', congrArg Power.fatal hpwr, stopFor_of_noDrain hst' rfl⟩

theorem railFault_spec (s : State) (d : Nat) (hst : s.pwr.st = .service) : (railFault s d).pwr.st = .halt ∧
    (railFault s d).pwr.fatal = true ∧ (domAt (railFault s d) d).cause = 3 := by
  obtain ⟨u, hu, hfatal, h⟩ := fatal_of_rail s d hst
  obtain ⟨hkept, -⟩ := switchOff_spec u 0 (.inl hu) (by decide)
  simp [railFault, h, enterHalt, hkept, hfatal]

theorem bankCutoffF_of_drain {s : State} (hst : s.pwr.st = .drain) : bankCutoffF s =
    offIfDark (enterHalt (switchOff { s with pwr := { s.pwr with vbankMv := 15000 } } (some 2)) false) := if_pos hst

theorem offIfDark_of_main {s : State} (h : s.pwr.mainOn = true) : offIfDark s = s := by
  simp [offIfDark, h]

/-- Settles O6: a short glitch is counted; every other clause ends in a switch-off, which keeps the fatal mark, the main input and the medium. -/
theorem runningRailsStopTheModule : Obligations.RunningRailsStopTheModule := by
  unfold Obligations.RunningRailsStopTheModule
  refine ⟨?_, ?_, ?_, ?_⟩
  · intro s d n hon hshort
    obtain ⟨hst, hcount, hdom⟩ := glitch_spec s d.val
    exact ⟨_, congrArg Host.Outcome.next (pgDeassertF_of_short hon hshort), hst, hcount, hdom.trans hon⟩
  · intro s d n hst hon hlong
    exact ⟨_, congrArg Host.Outcome.next (pgDeassertF_of_long hon hlong), railFault_spec s d.val hst⟩
  · intro s d hst hon
    exact ⟨_, congrArg Host.Outcome.next (railVoltageFaultF_of_on hon), railFault_spec s d.val hst⟩
  · intro s hst hmain
    obtain ⟨-, hkept, hents, hways, hframes⟩ :=
      switchOff_spec { s with pwr := { s.pwr with vbankMv := 15000 } } 2 (.inr hst) (by decide)
    have hhalt := (bankCutoffF_of_drain hst).trans (offIfDark_of_main (s := enterHalt _ false) (hkept.trans hmain))
    exact ⟨_, congrArg Host.Outcome.next hhalt, rfl, hents, hways, hframes⟩

/-! ## Boot step 1 (17 R485; 05 R162; 17 R488) -/

/-- A channel of boot step 1: what the retirement pages say of it and of its dies. -/
def chanOfPages (s : State) (c : Nat) (x : Chan) : Chan :=
  { x with retired := chanRetiredPg s c,
           live := BitVec.ofNat 6 (sumOf (fun d => if (chanDefault s).live.getLsbD d && !dieFailedPg s (c * 8 + d) then 2 ^ d else 0)
             (List.range 6)) }

/-- The parts of boot step 1: a channel as listed, a slice listed as retired, and a cache with nothing in it. -/
def applyChan (s : State) (c : Nat) : State := modChan s c (chanOfPages s c)

def retireListed (s : State) (n : Nat) : State := if sliceRetiredPg s n then dropSlice s n else s

def cacheEmptied (s : State) : State := { s with cache := { cacheReset with steer := [] } }

theorem applyRetired_eq (s : State) :
    applyRetired s = (List.range 32).foldl applyChan ((List.range 8).foldl retireListed (cacheEmptied s)) := rfl

/-- Where no slice is listed as retired, the retirement pages touch the channels alone. -/
theorem applyRetired_of_no_slice {s : State} (h : ∀ n < 8, sliceRetiredPg s n = false) :
    applyRetired s = (List.range 32).foldl applyChan (cacheEmptied s) := by
  have hslices : (List.range 8).foldl retireListed (cacheEmptied s) = cacheEmptied s := by
    refine List.foldlRecOn (motive := (· = cacheEmptied s)) _ _ rfl ?_
    rintro t rfl n hn
    have hlisted : sliceRetiredPg (cacheEmptied s) n = false := h n (List.mem_range.1 hn)
    exact if_neg (by simp [hlisted])
  rw [applyRetired_eq, hslices]

theorem retired_foldl_applyChan (s : State) (n : Nat) : ((List.range n).foldl applyChan s).beryl = s.beryl ∧
    ∀ c < n, (chanAt ((List.range n).foldl applyChan s) c).retired = chanRetiredPg s c := by
  induction n with
  | zero => exact ⟨rfl, fun c hc => absurd hc (Nat.not_lt_zero c)⟩
  | succ n ih =>
    obtain ⟨hberyl, hret⟩ := ih
    rw [List.range_succ, List.foldl_append]
    generalize (List.range n).foldl applyChan s = t at hberyl hret
    refine ⟨hberyl, fun c hc => ?_⟩
    simp only [List.foldl_cons, List.foldl_nil, applyChan, chanAt_modChan]
    split
    · next h =>
      subst h
      simp [chanOfPages, chanRetiredPg, pageAt_congr hberyl]
    · exact hret c (by omega)

/-- Boot step 1 as it stands once the retirement pages are applied (17 R485). -/
theorem applyRetired_spec {s : State} (h : ∀ n < 8, sliceRetiredPg s n = false) :
    (∀ n, (sliceAt (applyRetired s) n).retired = false) ∧ ∀ c < 32, (chanAt (applyRetired s) c).retired = chanRetiredPg s c := by
  rw [applyRetired_of_no_slice h]
  constructor
  · intro n
    have hcache : ((List.range 32).foldl applyChan (cacheEmptied s)).cache = (cacheEmptied s).cache :=
      foldl_cache _ _ _ (fun s c => by simp [applyChan])
    rw [sliceAt, hcache]
    rfl
  · exact (retired_foldl_applyChan _ 32).2

theorem liveSlices_of_all {s : State} (h : ∀ n, (sliceAt s n).retired = false) : liveSlices s = List.range 8 := by
  simp [liveSlices, h]

/-- With every slice in service and 12 ways or more in each, the check of boot step 1 retires none (05 R159). -/
theorem checkWays_of_open {s : State} (hlive : ∀ n, (sliceAt s n).retired = false) (hopen : ∀ n < 8, 12 ≤ openWays s n) :
    (List.range 8).foldl checkWays s = s := by
  refine List.foldlRecOn (motive := (· = s)) _ _ rfl ?_
  rintro t rfl n hn
  have hways := hopen n (List.mem_range.1 hn)
  have hmany : liveSlices t ≠ [n] := by simp [liveSlices_of_all hlive, List.range_succ]
  simp [checkWays, hlive, hmany, Nat.not_lt.2 hways]

/-- The state that boot step 2 begins in. -/
def atStep2 (s : State) : State := { s with pwr := { s.pwr with bootStep := 2 } }

/-- BOOT_SETTINGS ends step 1 with the units that the retirement pages leave; a module that was running when it stopped records it (16 R481). -/
theorem bootSettingsF_of_qualified {s : State} (hst : s.pwr.st = .boot) (hstep : s.pwr.bootStep = 1) (hon : (domAt s 1).st = 2)
    (hslices : ∀ n < 8, sliceRetiredPg s n = false) (hopen : ∀ n < 8, 12 ≤ openWays s n) : bootSettingsF s =
      if shutCode (applyRetired (atStep2 s)) = 1 then noteEv (storeShut (countDirty (applyRetired (atStep2 s)) 5)) srcPower 0x0280 0 0 5
      else applyRetired (atStep2 s) := by
  have hlive := (applyRetired_spec (s := atStep2 s) hslices).1
  have hways : ∀ n < 8, 12 ≤ openWays (applyRetired (atStep2 s)) n := by
    intro n hn
    have hregs : openWays (applyRetired (atStep2 s)) n = openWays s n := by
      simp only [openWays, regB_congr (s := s) (t := applyRetired (atStep2 s)) (by simp [atStep2])]
    exact (hopen n hn).trans_eq hregs.symm
  have hkept := checkWays_of_open hlive hways
  have hboot : (applyRetired (atStep2 s)).pwr.st = .boot := by simpa [atStep2] using hst
  rw [bootSettingsF, if_pos (by simp [hst, hstep, hon])]
  extract_lets _ checked
  have hchecked : checked = applyRetired (atStep2 s) := hkept
  rw [hchecked, if_neg (not_not.2 hboot)]

theorem bootSettingsF_of_unqualified {s : State} (hon : (domAt s 1).st ≠ 2) : bootSettingsF s = s := by
  simp [bootSettingsF, hon]

theorem bootSettingsF_spec {s : State} (hst : s.pwr.st = .boot) (hstep : s.pwr.bootStep = 1) (hon : (domAt s 1).st = 2)
    (hslices : ∀ n < 8, sliceRetiredPg s n = false) (hopen : ∀ n < 8, 12 ≤ openWays s n) :
    (bootSettingsF s).pwr.st = .boot ∧ (bootSettingsF s).pwr.bootStep = 2 ∧
    (bootSettingsF s).cache = (applyRetired (atStep2 s)).cache ∧ (bootSettingsF s).drift = (applyRetired (atStep2 s)).drift ∧
    (bootSettingsF s).sec = (applyRetired (atStep2 s)).sec := by
  have hpwr : KeepsPower (atStep2 s).pwr (noteEv (storeShut (countDirty (applyRetired (atStep2 s)) 5)) srcPower 0x0280 0 0 5).pwr :=
    .trans (.after (by simp) (storeShut_keepsPower _)) (noteEv_keepsPower ..)
  rw [bootSettingsF_of_qualified hst hstep hon hslices hopen]
  split
  · exact ⟨hpwr.st.trans hst, bootStep_of_keepsPower hpwr, by simp, by simp, by simp⟩
  · simp [atStep2, hst]

/-! ## Power-up sequencing (16 R459 to R465) -/

/-- The power-up step of a switched domain. -/
def stepOf (d : Nat) : Nat := if d = 7 then 2 else if d = 6 then 12 else if d < 6 then 13 else d / 8 + 2

/-- Steps of eight domains. -/
theorem mem_eight {b d : Nat} : d ∈ (List.range 8).map (· + b) ↔ b ≤ d ∧ d < b + 8 := by
  simp only [List.mem_map, List.mem_range]
  constructor
  · rintro ⟨k, hk, rfl⟩
    omega
  · intro h
    exact ⟨d - b, by omega, by omega⟩

/-- No domain belongs to two steps. -/
theorem eq_stepOf_of_mem {d n : Nat} (h : d ∈ upStep n) : n = stepOf d := by
  unfold stepOf
  unfold upStep at h
  repeat' split at h
  all_goals simp only [mem_eight, List.mem_cons, List.not_mem_nil, or_false] at h
  all_goals grind

@[simp] theorem startDom_keeps (s : State) (d : Nat) : (startDom s d).pwr.st = s.pwr.st ∧ (startDom s d).pwr.seqStep = s.pwr.seqStep ∧
    (startDom s d).pwr.bootStep = s.pwr.bootStep ∧ (startDom s d).tabs = s.tabs := by
  unfold startDom
  split <;> exact ⟨rfl, rfl, rfl, rfl⟩

theorem domAt_startDom_other (s : State) {d e : Nat} (h : d ≠ e) : domAt (startDom s d) e = domAt s e := by
  unfold startDom
  split <;> simp [h]

/-- Nothing keeps D07 off: its first attempt begins. -/
theorem domAt_startDom_d07 (s : State) : domAt (startDom s 7) 7 = { domInit with st := 1, attempts := 1 } := by
  simp [startDom, keptOff]

/-- The start of a step leaves the power state and the domains of other steps alone. -/
theorem startDoms_spec (s : State) (ds : List Nat) : (ds.foldl startDom s).pwr.st = s.pwr.st ∧
    (ds.foldl startDom s).pwr.seqStep = s.pwr.seqStep ∧ ∀ e ∉ ds, domAt (ds.foldl startDom s) e = domAt s e := by
  induction ds generalizing s with
  | nil => exact ⟨rfl, rfl, fun _ _ => rfl⟩
  | cons d ds ih =>
    obtain ⟨hst, hseq, hdoms⟩ := ih (startDom s d)
    refine ⟨by simp [hst], by simp [hseq], fun e he => ?_⟩
    obtain ⟨hne, hrest⟩ := not_or.1 (List.mem_cons.not.1 he)
    exact (hdoms e hrest).trans (domAt_startDom_other s (Ne.symm hne))

theorem advanceSeq_of_idle (k : Nat) {s : State} (h : s.pwr.seqStep < 2) : advanceSeq k s = s := by
  cases k with
  | zero => rfl
  | succ k => simp [advanceSeq, h]

theorem advanceSeq_of_busy (k : Nat) {s : State} (h : stepBusy s s.pwr.seqStep = true) : advanceSeq k s = s := by
  cases k with
  | zero => rfl
  | succ k => simp [advanceSeq, h]

/-- Sequencing that goes on leaves the power state alone, and every domain that has no step still to come. -/
theorem advanceSeq_spec (k : Nat) (s : State) {d : Nat} (h : stepOf d ≤ s.pwr.seqStep) :
    (advanceSeq k s).pwr.st = s.pwr.st ∧ domAt (advanceSeq k s) d = domAt s d := by
  induction k generalizing s with
  | zero => exact ⟨rfl, rfl⟩
  | succ k ih =>
    unfold advanceSeq
    split
    · exact ⟨rfl, rfl⟩
    · split
      · exact ⟨rfl, rfl⟩
      · extract_lets n
        split
        · exact ⟨rfl, rfl⟩
        · have hpast : d ∉ upStep n := by
            intro hmem
            have hn := eq_stepOf_of_mem hmem
            omega
          obtain ⟨hst, hseq, hdoms⟩ := startDoms_spec { s with pwr := { s.pwr with seqStep := n } } (upStep n)
          obtain ⟨hst', hdom'⟩ := ih ((upStep n).foldl startDom { s with pwr := { s.pwr with seqStep := n } })
            (by rw [hseq]; exact Nat.le_succ_of_le h)
          exact ⟨hst'.trans hst, hdom'.trans (hdoms d hpast)⟩

/-- The state that the power-up begins in. -/
def sequencing (s : State) : State := { s with pwr := { s.pwr with bootStep := 3, seqStep := 2 } }

/-- BOOT_SEQUENCING leaves D07 in its first attempt, which the sequencing waits for (16 R464). -/
theorem bootSequencingF_of_step2 {s : State} (hst : s.pwr.st = .boot) (hstep : s.pwr.bootStep = 2) :
    bootSequencingF s = startDom (sequencing s) 7 := by
  have hbusy : stepBusy (startDom (sequencing s) 7) (startDom (sequencing s) 7).pwr.seqStep = true := by
    simp [stepBusy, sequencing, upStep, domAt_startDom_d07]
  rw [bootSequencingF, if_pos (by simp [hst, hstep])]
  exact advanceSeq_of_busy 12 hbusy

/-! ## Qualification of a domain (16 R461, R462, R465) -/

theorem domainUp_pwr (s : State) (d : Nat) : (domainUp s d).pwr = (modDom s d (fun x => { x with st := 2, cause := 0 })).pwr := by
  unfold domainUp
  extract_lets u
  split <;> simp [u]

theorem domAt_domainUp (s : State) (d : Nat) : domAt (domainUp s d) d = { domAt s d with st := 2, cause := 0 } := by
  rw [domAt_congr (domainUp_pwr s d), domAt_modDom, if_pos rfl]

/-- Only an automatic restart compares the temperature of a die's group (17 R499). -/
theorem hotRestart_of_cool {s : State} {d : Nat} (t4 : Int) (h : d < 48 ∨ s.pwr.coolSince = none) : hotRestart s d t4 = s := by
  rcases h with h | h
  · simp [hotRestart, h]
  · simp [hotRestart, h]

theorem domainQualEndF_of_ok {s : State} {d : Nat} (temp : Int) (hst : s.pwr.st = .boot) (hdom : (domAt s d).st = 1) (hcause : (domAt s d).cause = 0)
    (hcool : d < 48 ∨ s.pwr.coolSince = none) : domainQualEndF s d .ok temp = advanceSeq 12 (domainUp s d) := by
  have hcold := hotRestart_of_cool (s := domainUp s d) (4 * temp) (by simpa [domainUp_pwr] using hcool)
  simp [domainQualEndF, hst, hdom, hcause, hcold]

/-- The cause that a failed attempt leaves. -/
def qualCause (how : QualEnd) : Nat := match how with | .noPowerGood => 1 | .dropped => 2 | .ok => 0

theorem domainQualEndF_of_failed {s : State} {d : Nat} {how : QualEnd} (temp : Int) (hst : s.pwr.st = .boot) (hdom : (domAt s d).st = 1)
    (hcause : (domAt s d).cause = 0) (hhow : how ≠ .ok) (hatt : (domAt s d).attempts < 3) :
    domainQualEndF s d how temp = modDom s d (fun x => { x with cause := qualCause how }) := by
  cases how with
  | ok => exact absurd rfl hhow
  | noPowerGood => simp [domainQualEndF, hst, hdom, hcause, hatt, qualCause]
  | dropped => simp [domainQualEndF, hst, hdom, hcause, hatt, qualCause]

theorem domainQualRetryF_of_failed {s : State} {d : Nat} (hst : s.pwr.st = .boot) (hdom : (domAt s d).st = 1) (hcause : (domAt s d).cause ≠ 0)
    (hatt : (domAt s d).attempts < 3) :
    domainQualRetryF s d = modDom s d (fun x => { x with cause := 0, attempts := x.attempts + 1 }) := by
  simp [domainQualRetryF, hst, hdom, hcause, hatt]

/-- A domain that qualifies is on, and stays so while the sequencing goes on to the next steps. -/
theorem domainQualEndF_ok_spec {s : State} {d : Nat} (temp : Int) (hst : s.pwr.st = .boot)
    (hseq : s.pwr.seqStep < 2 ∨ d ∈ upStep s.pwr.seqStep) (hcool : d < 48 ∨ s.pwr.coolSince = none) (hdom : (domAt s d).st = 1)
    (hcause : (domAt s d).cause = 0) : (domAt (domainQualEndF s d .ok temp) d).st = 2 ∧ (domAt (domainQualEndF s d .ok temp) d).cause = 0 ∧
    (domainQualEndF s d .ok temp).pwr.st = .boot := by
  rw [domainQualEndF_of_ok temp hst hdom hcause hcool]
  have hup : (domainUp s d).pwr.st = .boot := by simpa [domainUp_pwr] using hst
  have hstep : (domainUp s d).pwr.seqStep = s.pwr.seqStep := by simp [domainUp_pwr]
  have hkept : (advanceSeq 12 (domainUp s d)).pwr.st = (domainUp s d).pwr.st ∧ domAt (advanceSeq 12 (domainUp s d)) d = domAt (domainUp s d) d := by
    rcases hseq with hidle | hmem
    · rw [advanceSeq_of_idle 12 (by rwa [hstep])]
      exact ⟨rfl, rfl⟩
    · exact advanceSeq_spec 12 (domainUp s d) (by rw [hstep, ← eq_stepOf_of_mem hmem])
  obtain ⟨hkeptSt, hkeptDom⟩ := hkept
  rw [hkeptDom, domAt_domainUp]
  exact ⟨rfl, rfl, hkeptSt.trans hup⟩

/-! ## Boot steps 4 and 5 (17 R487, R488) -/

theorem mem_dedup {k : Nat} {l : List Nat} (h : k ∈ l) : k ∈ dedup l := by
  induction l with
  | nil => exact h
  | cons x l ih =>
    by_cases hk : k = x
    · simp [dedup, hk]
    · simpa [dedup, hk] using ih ((List.mem_cons.1 h).resolve_left hk)

/-- The state in which step 3 of BOOT has ended with its failed rows. -/
def rowsTrained (s : State) (bad : List Nat) : State :=
  let rows := dedup (rowsPg s ++ bad)
  putRows { s with pwr := { s.pwr with bootStep := 4 }, mapu := { s.mapu with badSlots := rows } } 0 rows

theorem dramTrainingF_of_step3 {s : State} (bad : List Nat) (tooMany : Bool) (hst : s.pwr.st = .boot) (hstep : s.pwr.bootStep = 3)
    (hseq : s.pwr.seqStep = 0) : dramTrainingF s bad tooMany = if tooMany then
      bootToStandby (noteEv (modDom (rowsTrained s bad) 7 (fun x => { x with st := 3 })) srcPower 0x0282 7 0 0) else rowsTrained s bad := by
  rw [dramTrainingF, if_pos (by simp [hst, hstep, hseq])]
  rfl

theorem bootToStandby_spec (s : State) : (bootToStandby s).pwr.st = .standby ∧ (bootToStandby s).pair.role = .unpaired := by
  simp [bootToStandby]

theorem rowsTrained_spec (s : State) (bad : List Nat) : (rowsTrained s bad).pwr = { s.pwr with bootStep := 4 } ∧
    (rowsTrained s bad).mapu.badSlots = dedup (rowsPg s ++ bad) := by
  simp [rowsTrained]

/-- What BOOT keeps of its place while it records what fails. -/
structure SamePlace (s t : State) : Prop where
  st : t.pwr.st = s.pwr.st
  bootStep : t.pwr.bootStep = s.pwr.bootStep

namespace SamePlace

theorem refl (s : State) : SamePlace s s := ⟨rfl, rfl⟩

theorem of_keepsPower {s t : State} (h : KeepsPower s.pwr t.pwr) : SamePlace s t := ⟨h.st, bootStep_of_keepsPower h⟩

theorem trans {s t u : State} (h : SamePlace s t) (k : SamePlace t u) : SamePlace s u := ⟨k.st.trans h.st, k.bootStep.trans h.bootStep⟩

end SamePlace

theorem noteDieRetired_keepsPower (s : State) (die : Nat) : KeepsPower s.pwr (noteDieRetired s die).pwr := by
  unfold noteDieRetired
  extract_lets n
  simpa using noteEv_keepsPower (addRetired s n) srcMap 0x0005 die 4 1

theorem failDies_keepsPower (s : State) (failed : List Nat) (c : Nat) : KeepsPower s.pwr (failDies s failed c).pwr := by
  unfold failDies
  extract_lets ds mask noted recorded masked planned
  split
  · exact .of_eq rfl
  · have hrecorded : KeepsPower s.pwr recorded.pwr := by
      refine List.foldlRecOn (motive := fun t : State => KeepsPower s.pwr t.pwr) ds _ (noteEv_keepsPower ..) ?_
      exact fun t ht d _ => ht.trans (.after (by simp [putDieFailed]) (noteDieRetired_keepsPower (putDieFailed t (c * 8 + d)) _))
    have hplanned : planned.pwr = recorded.pwr := by simp [planned, masked]
    split
    · simpa [putChanRetired, hplanned] using hrecorded
    · exact hplanned ▸ hrecorded

theorem failBank_samePlace (s : State) : SamePlace s (failBank s) := by
  have hnoted := noteEv_keepsPower { s with pwr := { s.pwr with bankFailed := true } } srcZircon 0x020D 0 0 0
  have hstep := bootStep_of_keepsPower hnoted
  exact ⟨hnoted.st, hstep⟩

theorem lowEnergy_samePlace (s : State) (dirty : Nat) : SamePlace s (lowEnergy s dirty) := by
  unfold lowEnergy
  split
  · split
    · exact failBank_samePlace s
    · exact .refl s
  · exact .refl s

theorem bootQuotas_eq (s : State) : ∃ u : State, bootQuotas s = lowEnergy u (planDirty s) ∧ u.pwr = s.pwr := ⟨_, rfl, rfl⟩

theorem bootQuotas_samePlace (s : State) : SamePlace s (bootQuotas s) := by
  obtain ⟨u, h, hu⟩ := bootQuotas_eq s
  rw [h]
  exact SamePlace.trans (.of_keepsPower (.of_eq hu)) (lowEnergy_samePlace u _)

/-- The state that boot step 5 begins in. -/
def atStep5 (s : State) : State := { s with pwr := { s.pwr with bootStep := 5 } }

theorem dieDiscoveryF_of_step4 {s : State} (failed : List Nat) (hst : s.pwr.st = .boot) (hstep : s.pwr.bootStep = 4) :
    dieDiscoveryF s failed = bootQuotas ((List.range 32).foldl (fun s c => failDies s failed c) (atStep5 s)) := by
  rw [dieDiscoveryF, if_pos (by simp [hst, hstep])]
  rfl

theorem dieDiscoveryF_samePlace {s : State} (failed : List Nat) (hst : s.pwr.st = .boot) (hstep : s.pwr.bootStep = 4) :
    SamePlace (atStep5 s) (dieDiscoveryF s failed) := by
  rw [dieDiscoveryF_of_step4 failed hst hstep]
  refine SamePlace.trans (.of_keepsPower ?_) (bootQuotas_samePlace _)
  exact List.foldlRecOn (motive := fun t : State => KeepsPower (atStep5 s).pwr t.pwr) _ _ (.of_eq rfl)
    (fun t ht c _ => ht.trans (failDies_keepsPower ..))

theorem dieDiscoveryF_keeps {s : State} (failed : List Nat) (hst : s.pwr.st = .boot) (hstep : s.pwr.bootStep = 4) :
    (dieDiscoveryF s failed).tabs = s.tabs ∧ (dieDiscoveryF s failed).med = s.med := by
  rw [dieDiscoveryF_of_step4 failed hst hstep]
  simp [atStep5]

/-- Settles O2: each command's guard opens its branch; a qualified domain has no step still to come, so the sequencing leaves it on. -/
theorem bootStepsFollowInOrder : Obligations.BootStepsFollowInOrder := by
  unfold Obligations.BootStepsFollowInOrder
  refine ⟨?_, ?_, ?_, ?_, ?_, ?_, ?_, ?_, ?_⟩
  · intro s hst hstep hon hslices hopen
    obtain ⟨hst', hstep', hcache, hdrift, hsec⟩ := bootSettingsF_spec hst hstep hon hslices hopen
    obtain ⟨hlive, hchans⟩ := applyRetired_spec (s := atStep2 s) hslices
    refine ⟨bootSettingsF s, rfl, hst', hstep', fun n _ => ?_, fun c hc => ?_⟩
    · rw [sliceAt_congr hcache, hlive n]
    · rw [chanAt_congr hdrift hsec]
      exact hchans c hc
  · intro s _ _ hoff
    exact ⟨_, rfl, bootSettingsF_of_unqualified hoff⟩
  · intro s hst hstep
    refine ⟨_, congrArg Host.Outcome.next (bootSequencingF_of_step2 hst hstep), ?_⟩
    simp [domAt_startDom_d07, sequencing, hst]
  · intro s d temp hst hseq hcool hdom hcause
    exact ⟨_, rfl, domainQualEndF_ok_spec temp hst hseq hcool hdom hcause⟩
  · intro s d how temp hst hdom hcause hhow hatt
    refine ⟨_, congrArg Host.Outcome.next (domainQualEndF_of_failed temp hst hdom hcause hhow hatt), ?_⟩
    refine ⟨by simpa using hdom, ?_, by simp, hst⟩
    cases how <;> simp [qualCause]
  · intro s d hst hdom hcause hatt
    refine ⟨_, congrArg Host.Outcome.next (domainQualRetryF_of_failed hst hdom hcause hatt), ?_⟩
    simp [hdom]
  · intro s bad hst hstep hseq
    obtain ⟨hpwr, hrows⟩ := rowsTrained_spec s bad
    refine ⟨_, congrArg Host.Outcome.next (dramTrainingF_of_step3 bad false hst hstep hseq), ?_, ?_, fun k hk => ?_⟩
    · exact (congrArg Power.st hpwr).trans hst
    · exact congrArg Power.bootStep hpwr
    · exact hrows ▸ mem_dedup (List.mem_append_right _ hk)
  · intro s bad hst hstep hseq
    have hfailed := (dramTrainingF_of_step3 bad true hst hstep hseq).trans (if_pos rfl)
    exact ⟨_, congrArg Host.Outcome.next hfailed, bootToStandby_spec _⟩
  · intro s failed hst hstep
    obtain ⟨hst', hstep'⟩ := dieDiscoveryF_samePlace failed hst hstep
    obtain ⟨htabs, hmed⟩ := dieDiscoveryF_keeps failed hst hstep
    exact ⟨_, rfl, hst'.trans hst, hstep', htabs, congrArg Medium.frames hmed⟩

/-! ## JTAG behind a sense that no longer holds its line's lock (20 R559) -/

/-- A sense of line 0 whose tile's lines have been discarded meanwhile, behind which the rewrite of a repair still waits. -/
def staleSense : Sense :=
  { sid := 0, prefetch := false, dln := 0, ptn := 0, fslot := 0, gen := 0, epoch := 0, refs := 0, waitPage := false, retrying := false, stale := true,
    flags := flags0, waiters := [.partialWr (ownWrite 0 (.repair 0) (cleanLine 0))] }

/-- A well of one block at DPA 0. -/
def blockWell : Well := { wellInit with live := true, size := 1 }

/-- SERVICE with JTAG_MEM, that well, line 0 in the cache, and that sense. -/
def serviceWithStaleSense : State :=
  { State.reset with
    pwr := { pwrReset with st := .service }
    regs := [(regKey .security 0 7, { act := 1, pend := 1, rc := 0 })]
    tabs := { tablesInit with wells := [(0, blockWell)] }
    cache := { cacheReset with ways := [(0, Memory.cleanWay)] }
    med := { State.reset.med with senses := [staleSense] } }

/-- The write of the line drops the rewrite from the sense. -/
theorem senses_of_serviceWithStaleSense :
    (jtagMemAccessF serviceWithStaleSense .write 0 0 { errs := 0, markerOk := true }).med.senses = [{ staleSense with waiters := [] }] := by
  decide +kernel

/-- Refutes O50 in its clause `t.med = s.med` on a JTAG write that meets its line in the cache: `lockHeld` passes a stale sense by, while the write
drops a repair's rewrite of that line from the waiters of every sense, and senses are part of `med`. The frames stay as they are. No run is known to
leave such a waiter (a sense that becomes stale gives up its waiting writes), but the statement does not exclude it. -/
theorem not_jtagReachesWhatItMay : ¬ Obligations.JtagReachesWhatItMay := by
  unfold Obligations.JtagReachesWhatItMay
  rintro ⟨-, -, hmem, -⟩
  obtain ⟨-, -, hwrite⟩ := hmem serviceWithStaleSense 0 0 { errs := 0, markerOk := true } 0 blockWell (by decide +kernel) rfl rfl rfl
    (by decide +kernel) rfl
  obtain ⟨t, ht, -, -, hmed⟩ := hwrite 0 Memory.cleanWay (by decide +kernel) rfl rfl rfl rfl rfl (by decide +kernel)
  have hnext : jtagMemAccessF serviceWithStaleSense .write 0 0 { errs := 0, markerOk := true } = t := Host.Outcome.next.inj ht
  have hsenses := congrArg Medium.senses hmed
  rw [← hnext, senses_of_serviceWithStaleSense] at hsenses
  exact absurd hsenses (by decide +kernel)

end Sys2Proof.Proofs.Sequencing
end

section
/-! PROOF. What every command holds to (95): the queue, the fuses and the thermal condition. -/

namespace Sys2Proof.Proofs.Lasting

open Sys2Proof Sys2Proof.Machine Sys2Proof.Safety
open Sys2Proof.Proofs.Memory (sendDone withoutTask dropTask endTask treated)
open Sys2Proof.Proofs.HostPorts (Part Within)

/-! ## The fuses (20 R541, R550)

Many operations write the security block; none of those below writes what is fused. -/

/-- What is fused into the module for good. -/
def burnt (x : Security) : Variant × BitVec 128 × Nat × BitVec 4 := (x.variant, x.serial, x.lifecycle, x.revoked)

/-- What the fuses say, with the rollback counter F. -/
def fuses (x : Security) : (Variant × BitVec 128 × Nat × BitVec 4) × Nat := (burnt x, x.f)

@[simp] theorem ite_fuses (c : Prop) [Decidable c] (x y : Security) : fuses (if c then x else y) = if c then fuses x else fuses y :=
  apply_ite fuses c x y

@[simp] theorem foldl_fuses {α : Type} (f : State → α → State) (l : List α) (s : State) (h : ∀ s a, fuses (f s a).sec = fuses s.sec) :
    fuses (l.foldl f s).sec = fuses s.sec := by
  induction l generalizing s with
  | nil => rfl
  | cons x l ih => rw [List.foldl_cons, ih, h]

/-! ### Commands that go on (10 R304; 12 R386) -/

@[simp] theorem sanitizeAdvance_fuses (s : State) (t : Task) : fuses (sanitizeAdvance s t).sec = fuses s.sec := by
  unfold sanitizeAdvance
  split
  · rfl
  · split
    · split
      · rfl
      · simp
        rfl
    · split
      · simp
      · split <;> rfl

@[simp] theorem sendDone_sec (s : State) (q : Nat) (t : Task) : (sendDone s q t).sec = s.sec := by simp [sendDone]

@[simp] theorem dropTask_sec (s : State) (q : Nat) (t : Task) : (dropTask s q t).sec = s.sec := by
  unfold dropTask
  split <;> simp [withoutTask]

@[simp] theorem endTask_sec (s : State) (q : Nat) : (endTask s q).sec = s.sec := by
  unfold endTask
  split
  · rfl
  · split <;> simp

@[simp] theorem treated_fuses (s : State) (q : Nat) (t : Task) : fuses (treated s q t).sec = fuses s.sec := by simp [treated]

@[simp] theorem advanceTask_fuses (s : State) (q : Nat) : fuses (advanceTask s q).sec = fuses s.sec := by
  cases h : taskAt s q with
  | none => simp [advanceTask, h]
  | some t => simp [Spinel.advanceTask_of_task h]

@[simp] theorem sanitizeEnd_fuses (s : State) : fuses (sanitizeEnd s).sec = fuses s.sec := by
  unfold sanitizeEnd
  split
  · rfl
  · split
    · simp
      rfl
    · rfl

@[simp] theorem settleTasks_fuses (s : State) : fuses (settleTasks s).sec = fuses s.sec := by simp [settleTasks]

@[simp] theorem settle_fuses (s : State) : fuses (settle s).sec = fuses s.sec := by simp [settle]

@[simp] theorem startRun_fuses (s : State) (r : Running) (c : Checks) (f : State → Running → Desc → State)
    (h : ∀ s r d, fuses (f s r d).sec = fuses s.sec) : fuses (startRun s r c f).sec = fuses s.sec := by
  unfold startRun
  split <;> simp [h]

@[simp] theorem cmdRow_fuses (s : State) (src : Nat) (tag : BitVec 16) (op : Nat) (sel : Desc → Bool) (c : State → Running → Desc → Checks)
    (f : State → Running → Desc → State) (h : ∀ s r d, fuses (f s r d).sec = fuses s.sec) :
    fuses (cmdRow s src tag op sel c f).sec = fuses s.sec := by
  unfold cmdRow
  split
  · rfl
  · split_ifs <;> simp [h]

@[simp] theorem releaseBlocks_fuses (s : State) (p i : Nat) (w : Well) (bs : List Nat) : fuses (releaseBlocks s p i w bs).sec = fuses s.sec := by
  simp [releaseBlocks]

/-! ### The pair (10 R321, R324) -/

@[simp] theorem takeAllHomes_fuses (s : State) : fuses (takeAllHomes s).sec = fuses s.sec := by simp [takeAllHomes]

@[simp] theorem enterSolo_fuses (s : State) (guard : Nat) (more : List Nat) (lost : Bool) :
    fuses (enterSolo s guard more lost).sec = fuses s.sec := by
  simp [enterSolo]

@[simp] theorem declareLost_fuses (s : State) : fuses (declareLost s).sec = fuses s.sec := by
  unfold declareLost
  dsimp only
  split
  · split_ifs <;> simp
  · split_ifs <;> simp
  all_goals simp

/-! ### Start-up and domains (17 R485, R486; 16 R462; 19 R534) -/

@[simp] theorem berylRestore_fuses (s : State) (corr ue : List Nat) : fuses (berylRestore s corr ue).sec = fuses s.sec := by
  have hload (u : State) : fuses (loadPersist u).sec = fuses u.sec := rfl
  simp [berylRestore, hload]

@[simp] theorem selectImage_fuses (s : State) : fuses (selectImage s).sec = fuses s.sec := by
  unfold selectImage
  split
  · split
    · rfl
    · simp
      rfl
  · rfl

@[simp] theorem enterStandby_fuses (s : State) : fuses (enterStandby s).sec = fuses s.sec := by
  simp [enterStandby]
  rfl

@[simp] theorem bootToStandby_fuses (s : State) : fuses (bootToStandby s).sec = fuses s.sec := by simp [bootToStandby]

@[simp] theorem bootFirmware_fuses (s : State) : fuses (bootFirmware s).sec = fuses s.sec := by simp [bootFirmware]

@[simp] theorem domainFail_fuses (s : State) (d : Nat) : fuses (domainFail s d).sec = fuses s.sec := by
  unfold domainFail
  split_ifs
  · simp
  · dsimp only
    split <;> simp
  all_goals simp

@[simp] theorem startAdvance_fuses (s : State) : fuses (startAdvance s).sec = fuses s.sec := by
  unfold startAdvance
  split_ifs <;> rfl

/-! ### Registers, sessions, firmware (13 R416; 20 R547, R551, R553) -/

@[simp] theorem startHeld_fuses (s : State) : fuses (startHeld s).sec = fuses s.sec := by
  unfold startHeld
  split <;> rfl

@[simp] theorem onBit_fuses (w k : Nat) (f : State → State) (s : State) (h : ∀ s, fuses (f s).sec = fuses s.sec) :
    fuses (onBit w k f s).sec = fuses s.sec := by
  unfold onBit
  split
  · exact h s
  · rfl

@[simp] theorem actSlot_fuses (s : State) (r : Nat) (b : Blk) (slot w : Nat) : fuses (actSlot s r b slot w).sec = fuses s.sec := by
  unfold actSlot
  split <;> simp

@[simp] theorem takeWrite_fuses (s : State) (r : Nat) (b : Blk) (i slot m v : Nat) : fuses (takeWrite s r b i slot m v).sec = fuses s.sec := by
  simp [takeWrite]

@[simp] theorem writeSlot_fuses (s : State) (r off : Nat) (b : Blk) (i slot v : Nat) : fuses (writeSlot s r off b i slot v).sec = fuses s.sec := by
  simp [writeSlot]

@[simp] theorem busWrite_fuses (s : State) (r off size v : Nat) : fuses (busWrite s r off size v).sec = fuses s.sec := by
  unfold busWrite
  split
  · rfl
  · split
    · split <;> simp
    all_goals simp

@[simp] theorem setSessions_fuses (s : State) (v : SpdmVia) (l : List Session) : fuses (setSessions s v l).sec = fuses s.sec := by
  cases v <;> rfl

@[simp] theorem modSession_fuses (s : State) (v : SpdmVia) (id : Nat) (f : Session → Session) : fuses (modSession s v id f).sec = fuses s.sec := by
  simp [modSession]

@[simp] theorem withKey_fuses (s : State) (v : SpdmVia) (f : State → State) (h : ∀ s, fuses (f s).sec = fuses s.sec) :
    fuses (withKey s v f).sec = fuses s.sec := by
  unfold withKey
  split_ifs <;> simp [h]

@[simp] theorem stageLast_fuses (l : List (BitVec 8)) (s : State) (r : Running) : fuses (stageLast l s r).sec = fuses s.sec := by
  unfold stageLast
  dsimp only
  split <;> simp <;> rfl

@[simp] theorem fwStageRun_fuses (dmaOk : Bool) (chunk : List (BitVec 8)) (s : State) (r : Running) (d : Desc) :
    fuses (fwStageRun dmaOk chunk s r d).sec = fuses s.sec := by
  unfold fwStageRun
  dsimp only
  split_ifs <;> simp <;> rfl

/-! ### The ends of programs (06 R170; 07 R210, R222) -/

@[simp] theorem endProg_fuses (s : State) (u : ProgRef) (k : Bool) (ns : Nat) (f g : Op → State → State)
    (hf : ∀ o s, fuses (f o s).sec = fuses s.sec) (hg : ∀ o s, fuses (g o s).sec = fuses s.sec) :
    fuses (endProg s u k ns f g).sec = fuses s.sec := by
  unfold endProg
  split
  · rfl
  · dsimp only
    split_ifs <;> simp [hf, hg]

@[simp] theorem adoptAnchor_fuses (s : State) : fuses (adoptAnchor s).sec = fuses s.sec := by
  unfold adoptAnchor
  split
  · rfl
  · split
    · rfl
    · simp

@[simp] theorem anchorEnd_fuses (s : State) (k : Nat) (ok : Bool) (ns : Nat) : fuses (anchorEnd s k ok ns).sec = fuses s.sec := by
  simp [anchorEnd]

@[simp] theorem headDurable_fuses (s : State) : fuses (headDurable s).sec = fuses s.sec := by
  unfold headDurable
  split <;> simp

@[simp] theorem journalEnd_fuses (s : State) (ok : Bool) (ns : Nat) : fuses (journalEnd s ok ns).sec = fuses s.sec := by
  simp [journalEnd]

/-! ## Commands that leave all of it -/

/-- What the thermal invariant speaks of. -/
def signs (x : Thermal) : Therm × Bool × Nat × Bool := (x.cond, x.tripped, x.yelLvl, x.yelFail)

/-- The queue, the fuses with F, and what the thermal invariant speaks of are as they were. -/
structure Steady (s t : State) : Prop where
  pending : t.pending = s.pending
  th : signs t.th = signs s.th
  fuses : fuses t.sec = fuses s.sec

theorem steady_iff {s t : State} : Steady s t ↔ t.pending = s.pending ∧ signs t.th = signs s.th ∧ fuses t.sec = fuses s.sec :=
  ⟨fun ⟨hpending, hth, hfuses⟩ => ⟨hpending, hth, hfuses⟩, fun ⟨hpending, hth, hfuses⟩ => ⟨hpending, hth, hfuses⟩⟩

namespace Steady

variable {s t u : State}

theorem refl (s : State) : Steady s s := ⟨rfl, rfl, rfl⟩

theorem trans (h : Steady s t) (k : Steady t u) : Steady s u :=
  ⟨k.pending.trans h.pending, k.th.trans h.th, k.fuses.trans h.fuses⟩

theorem of_eq (hpending : t.pending = s.pending) (hth : t.th = s.th) (hsec : t.sec = s.sec) : Steady s t :=
  ⟨hpending, congrArg signs hth, congrArg Lasting.fuses hsec⟩

/-- A command that touches other parts alone. -/
theorem of_within {l : List Part} (h : Within l s t) (hl : .pending ∉ l ∧ .th ∉ l ∧ .sec ∉ l := by simp) : Steady s t :=
  .of_eq (h.same .pending hl.1) (h.same .th hl.2.1) (h.same .sec hl.2.2)

end Steady

/-! ### Commands whose branches need a fact of their own -/

theorem aonQualifyF_steady (s : State) (seat sbSel : Bool) (sbAddr : BitVec 2) (corr ue : List Nat) :
    Steady s (aonQualifyF s seat sbSel sbAddr corr ue) := by
  have hload (u : State) : signs (loadPersist u).th = signs u.th := rfl
  have hrestore (u : State) : signs (berylRestore u corr ue).th = signs u.th := by simp [berylRestore, hload]
  unfold aonQualifyF
  split
  · simp [steady_iff, hrestore]
  · exact .refl s

theorem replayF_steady (s : State) (res : ResList) : Steady s (replayF s res) := by
  obtain ⟨hpending, hth, hsec⟩ := replayF_keeps s res
  exact .of_eq hpending hth hsec

theorem warmerPageLoadF_steady (s : State) (res : List (Nat × SenseRes × SenseRes)) : Steady s (warmerPageLoadF s res) := by
  unfold warmerPageLoadF
  split
  · split
    · exact .refl s
    · split
      · simp [steady_iff]
      · split
        · exact .refl s
        · next hload =>
          have hkept := loadObject_keeps _ _ _ _ _ _ hload
          simp only [steady_iff]
          split <;> simp [hkept]
  · exact .refl s

theorem writeAdmitF_steady (s : State) (n : Nat) : Steady s (writeAdmitF s n) := by
  unfold writeAdmitF
  split
  · split
    · next hown =>
      have hkept := admitOwn_keeps _ _ _ _ hown
      simp [steady_iff, hkept]
    · dsimp only
      cases hround : admitRound s n 9 (sGet (0, 0) s.cist.rr n).1 (sGet (0, 0) s.cist.rr n).2 with
      | none => exact .refl s
      | some t =>
        have hkept := admitRound_keeps _ _ _ _ _ _ hround
        simp [steady_iff, hkept]
  · exact .refl s

theorem startProg_steady (s : State) (u : ProgRef) : Steady s (startProg s u) := by
  unfold startProg
  split
  · exact .refl s
  · split
    · split
      · next hgrant =>
        have hkept := grantTok_keeps _ _ _ _ hgrant
        simp [steady_iff, hkept]
      · simp [steady_iff]
    · exact .refl s

theorem moveStartF_steady (s : State) (ltn : Nat) (c : MoveCause) : Steady s (moveStartF s ltn c) := by
  have hpage : Steady s (if pageHere s (pageOf ltn) then s else convertEntry s ltn) := by simp [steady_iff]
  unfold moveStartF
  split
  · split
    · exact .refl s
    · split
      · simp [steady_iff]
      · dsimp only
        generalize (if pageHere s (pageOf ltn) then s else convertEntry s ltn) = u at hpage ⊢
        split
        · exact hpage.trans (by simp [steady_iff])
        · split
          · exact hpage
          · split
            · exact hpage
            · next hbegin =>
              have hkept := beginMove_keeps _ _ _ _ _ _ _ hbegin
              exact hpage.trans (by simp [steady_iff, hkept])
  · exact .refl s

theorem scrubUser_steady {s t : State} {ltn line : Nat} {res retry : SenseRes} (h : scrubUser s ltn line res retry = some t) : Steady s t := by
  have hkept := scrubUser_keeps _ _ _ _ _ _ h
  simp [steady_iff, hkept]

theorem scrubMeta_steady {s t : State} {tile line : Nat} {res retry : SenseRes} (h : scrubMeta s tile line res retry = some t) : Steady s t := by
  have hkept := scrubMeta_keeps _ _ _ _ _ _ h
  simp [steady_iff, hkept]

theorem scrubSenseF_steady (s : State) (line : Nat) (res retry : SenseRes) (late : Bool) : Steady s (scrubSenseF s line res retry late) := by
  unfold scrubSenseF
  split
  · exact .refl s
  · split
    · split
      · simp [steady_iff]
      · split
        · exact .refl s
        · split
          · exact .refl s
          · next huser => exact (scrubUser_steady huser).trans (by simp [steady_iff])
    · split
      · exact .refl s
      · split
        · simp [steady_iff]
        · split
          · exact .refl s
          · next cur k _ _ =>
            have hsense {t : State}
                (h : (if cur < 2 ^ 31 then scrubUser s cur k res retry else scrubMeta s (cur - 2 ^ 31) k res retry) = some t) : Steady s t := by
              split at h
              · exact scrubUser_steady h
              · exact scrubMeta_steady h
            dsimp only
            split
            · exact .refl s
            · next hstep => exact (hsense hstep).trans (by simp [steady_iff])

theorem entropyTestFailF_steady (s : State) : Steady s (entropyTestFailF s) := by
  unfold entropyTestFailF
  split
  · refine ⟨by simp, by simp, ?_⟩
    simp
    rfl
  · exact .refl s

theorem entropyTestPassF_steady (s : State) : Steady s (entropyTestPassF s) := by
  unfold entropyTestPassF
  split
  · exact .refl s
  · dsimp only
    split
    · refine ⟨by simp, by simp, ?_⟩
      simp
      rfl
    · exact ⟨rfl, rfl, rfl⟩

theorem fwActivateF_steady (s : State) (src : Nat) (tag : BitVec 16) : Steady s (fwActivateF s src tag) := by
  refine ⟨by simp [fwActivateF], by simp [fwActivateF], cmdRow_fuses _ _ _ _ _ _ _ fun u r d => ?_⟩
  simp
  rfl

theorem finishF_steady (s : State) (v : SpdmVia) (id : Nat) (ok : Bool) : Steady s (finishF s v id ok) := by
  have hrest := HostPorts.finishF_within s v id ok
  refine ⟨hrest.same .pending (by simp), congrArg signs (hrest.same .th (by simp)), withKey_fuses _ _ _ fun u => ?_⟩
  split
  · split_ifs <;> simp
  · simp

theorem mboxCmd_steady (s : State) (p : Port) (inBoot : Bool) {f : State → State} (hf : ∀ s, Steady s (f s)) :
    Steady s (mboxCmd s p inBoot f) := by
  unfold mboxCmd
  split
  · exact .refl s
  · split
    · exact hf s
    · split
      · exact hf s
      · simp [steady_iff]
    all_goals exact .refl s

theorem releaseDynamicCapacityF_steady (s : State) (p : Port) (dpa len : Nat) : Steady s (releaseDynamicCapacityF s p dpa len) := by
  refine mboxCmd_steady s p false fun u => ?_
  dsimp only
  split
  · simp [steady_iff]
  · split
    · simp [steady_iff]
    · split <;> simp [steady_iff]

/-! ## The thermal condition (18 R514 to R519) -/

/-- The Yelrid's level is a level, and THROTTLE2 while its diode counts as failed. -/
def LevelsHold (x : Thermal) : Prop := x.yelLvl ≤ 3 ∧ (x.yelFail = true → x.yelLvl = 3)

theorem thermalInv_iff (s : State) : ThermalInv s ↔ (s.th.cond = .shutdown ↔ s.th.tripped = true) ∧ LevelsHold s.th := Iff.rfl

/-- The invariant speaks of the signs alone. -/
theorem thermalInv_congr {s t : State} (h : signs t.th = signs s.th) : ThermalInv t ↔ ThermalInv s := by
  simp only [signs, Prod.mk.injEq] at h
  obtain ⟨hcond, htrip, hlvl, hfail⟩ := h
  simp only [ThermalInv, hcond, htrip, hlvl, hfail]

theorem thermOf_ne_shutdown (l : Nat) : thermOf l ≠ .shutdown := by
  unfold thermOf
  split_ifs <;> simp

theorem foundCond_eq_shutdown_iff (s : State) : Glance.foundCond s = .shutdown ↔ s.th.tripped = true := by
  unfold Glance.foundCond
  split
  · next h => simp [h]
  · next h => simp [h, thermOf_ne_shutdown]

/-- An evaluation sets the condition by its causes, whatever it was before. -/
theorem evalThermal_thermalInv {s : State} (h : LevelsHold s.th) (src : Nat) (t4 : Int) : ThermalInv (evalThermal s src t4) := by
  rw [thermalInv_iff]
  obtain ⟨-, -, hlvl, hfail, htrip, -⟩ := Glance.evalThermal_readings s src t4
  refine ⟨?_, ?_⟩
  · rw [Glance.evalThermal_cond, htrip]
    exact foundCond_eq_shutdown_iff s
  · rw [LevelsHold, hlvl, hfail]
    exact h

theorem levelDown_le (thr : Nat → Int) (hyst t : Int) (l : Nat) : levelDown thr hyst t l ≤ l := by
  induction l with
  | zero => exact Nat.le_refl 0
  | succ l ih =>
    unfold levelDown
    split
    · omega
    · exact Nat.le_refl _

theorem levelUp_le (thr : Nat → Int) (t : Int) : levelUp thr t ≤ 3 := by
  unfold levelUp
  split_ifs <;> omega

theorem nextLevel_le (thr : Nat → Int) (hyst t : Int) {l : Nat} (h : l ≤ 3) : nextLevel thr hyst t l ≤ 3 := by
  have hdown := levelDown_le thr hyst t l
  have hup := levelUp_le thr t
  unfold nextLevel
  dsimp only
  split <;> omega

theorem thermalRise_signs (s : State) (src : Nat) (t4 : Int) : signs (thermalRise s src t4).th = signs s.th := by
  simp [thermalRise]
  rfl

/-- The consequences of a reading end with the condition evaluated: what follows changes none of its causes. -/
theorem checkShutdown_thermalInv {s : State} (h : LevelsHold s.th) (src : Nat) (t4 : Int) (yel : Bool) (stuck : List Nat) :
    ThermalInv (checkShutdown s src t4 yel stuck) := by
  unfold checkShutdown
  extract_lets trip recorded evaluated acted risen
  have hrecorded : LevelsHold recorded.th := by
    simp only [recorded]
    split
    · rw [Glance.recordTrip_th]
      exact h
    · exact h
  have hacted : acted.th = evaluated.th := by simp [acted]
  have hrisen : signs risen.th = signs evaluated.th := by
    simp only [risen]
    split
    · rw [thermalRise_signs, hacted]
    · rw [hacted]
  rw [thermalInv_congr (s := evaluated) (by simpa using hrisen)]
  exact evalThermal_thermalInv hrecorded src t4

/-! ## What every command holds to -/

/-- The queue and what is fused are as they were, F has not fallen, and the thermal condition still agrees with its causes. -/
structure Lawful (s t : State) : Prop where
  pending : t.pending = s.pending
  burnt : burnt t.sec = burnt s.sec
  f : s.sec.f ≤ t.sec.f
  thermal : ThermalInv s → ThermalInv t

namespace Lawful

variable {s t u : State}

theorem of_fuses (hpending : t.pending = s.pending) (hfuses : fuses t.sec = fuses s.sec) (hthermal : ThermalInv s → ThermalInv t) : Lawful s t :=
  have ⟨hburnt, hf⟩ := Prod.mk.inj hfuses
  ⟨hpending, hburnt, hf.ge, hthermal⟩

theorem of_steady (h : Steady s t) : Lawful s t := .of_fuses h.pending h.fuses (thermalInv_congr h.th).2

theorem refl (s : State) : Lawful s s := .of_steady (.refl s)

theorem trans (h : Lawful s t) (k : Lawful t u) : Lawful s u :=
  ⟨k.pending.trans h.pending, k.burnt.trans h.burnt, h.f.trans k.f, k.thermal ∘ h.thermal⟩

theorem after (k : Lawful t u) (h : Steady s t) : Lawful s u := (of_steady h).trans k

theorem ite (c : Prop) [Decidable c] (h : Lawful s t) (k : Lawful s u) : Lawful s (if c then t else u) := by
  split
  · exact h
  · exact k

end Lawful

/-! ### Samples (18 R514, R516) -/

theorem checkShutdown_lawful {s u : State} (hpending : u.pending = s.pending) (hsec : u.sec = s.sec)
    (hlevels : ThermalInv s → LevelsHold u.th) (src : Nat) (t4 : Int) (yel : Bool) (stuck : List Nat) :
    Lawful s (checkShutdown u src t4 yel stuck) :=
  .of_fuses (by simp [hpending]) (by simp [hsec]) fun h => checkShutdown_thermalInv (hlevels h) src t4 yel stuck

theorem yelFailed_lawful (s : State) : Lawful s (yelFailed s) := by
  cases hfail : s.th.yelFail with
  | true => simpa [yelFailed, hfail] using Lawful.refl s
  | false =>
    rw [Glance.yelFailed_of_working s hfail]
    refine .of_fuses (by simp [Glance.withFailed]) (by simp [Glance.withFailed]) fun _ => evalThermal_thermalInv ?_ ..
    simp [LevelsHold, Glance.withFailed]

theorem diodeSampleF_lawful (s : State) (t : Option Int) (stuck : List Nat) : Lawful s (diodeSampleF s t stuck) := by
  unfold diodeSampleF
  split
  · exact .refl s
  · split
    · have hmiss : Lawful s (Glance.withMisses s (s.th.yelMiss + 1)) := .of_steady ⟨rfl, rfl, rfl⟩
      exact .ite _ (hmiss.trans (yelFailed_lawful _)) hmiss
    · next t4 =>
      refine .ite _ (yelFailed_lawful s) (checkShutdown_lawful (by simp) (by simp) (fun h => ?_) ..)
      obtain ⟨-, hle, -⟩ := h
      cases hfail : s.th.yelFail
      · simpa [LevelsHold, hfail] using nextLevel_le _ _ _ hle
      · simp [LevelsHold, hfail]

theorem mediaTempSampleF_lawful (s : State) (c : Nat) (temps : List (Option Int)) (stuck : List Nat) :
    Lawful s (mediaTempSampleF s c temps stuck) := by
  unfold mediaTempSampleF
  split
  · exact .of_steady (by simp [steady_iff])
  · split
    · exact .refl s
    · dsimp only
      split
      · exact .of_steady (by simp [steady_iff])
      · refine checkShutdown_lawful ?_ ?_ (fun h => ?_) ..
        · split <;> simp
        · split <;> simp
        · obtain ⟨-, hlevels⟩ := h
          split <;> simpa [LevelsHold] using hlevels

/-! ### Into OFF, into BOOT and out of HALT (01 R21; 17 R485, R499) -/

theorem enterOff_lawful (s : State) : Lawful s (enterOff s) :=
  .of_fuses (by simp) (by simp) fun _ => by simp [ThermalInv, enterOff, thReset]

theorem offIfDark_lawful (s : State) : Lawful s (offIfDark s) := .ite _ (enterOff_lawful s) (.refl s)

@[simp] theorem readFuses_burnt (s : State) : burnt (readFuses s).sec = burnt s.sec := by
  unfold readFuses
  split <;> rfl

/-- A fuse whose blowing was cut reads as blown or as intact (20 R552). -/
theorem le_readFuses_f {s u : State} (h : u.sec.f = s.sec.f) : s.sec.f ≤ (readFuses u).sec.f := by
  rw [← h]
  unfold readFuses
  split
  · exact Nat.le_add_right _ _
  · exact Nat.le_refl _

theorem enterBoot_signs (s : State) (restart : Bool) : signs (enterBoot s restart).th = (s.th.cond, s.th.tripped, s.th.yelLvl, false) := by
  simp [enterBoot, bootThermal, signs]

/-- Entry to BOOT reads the fuses, and counts the diode as working. -/
theorem enterBoot_lawful (s : State) (restart : Bool) : Lawful s (enterBoot s restart) where
  pending := by simp [enterBoot]
  burnt := by
    simp [enterBoot]
    rfl
  f := by
    simp [enterBoot]
    exact le_readFuses_f rfl
  thermal := by
    intro ⟨hcond, hle, _⟩
    have hsigns := enterBoot_signs s restart
    simp only [signs, Prod.mk.injEq] at hsigns
    simp_all [ThermalInv]

theorem exitHaltThermal_lawful (s : State) : Lawful s (exitHaltThermal s) := by
  refine .of_fuses (by simp [exitHaltThermal]) (by simp [exitHaltThermal]) fun h => ?_
  obtain ⟨-, hlevels⟩ := h
  exact evalThermal_thermalInv (s := { s with th := { s.th with tripped := false } }) hlevels ..

theorem bootFirmware_steady (s : State) : Steady s (bootFirmware s) := by simp [steady_iff]

theorem syncPersist_steady (s : State) : Steady s (syncPersist s) := by simp [steady_iff]

theorem mainInputQualifyF_lawful (s : State) : Lawful s (mainInputQualifyF s) := by
  exact .ite _ (((enterBoot_lawful _ false).trans (.of_steady (bootFirmware_steady _))).after ⟨rfl, rfl, rfl⟩) (.refl s)

theorem thermalRestartF_lawful (s : State) : Lawful s (thermalRestartF s) := by
  have hrestored (u : State) : Steady u (bootFirmware (syncPersist u)) := (syncPersist_steady u).trans (bootFirmware_steady _)
  have hrestart (u : State) : Lawful u (bootFirmware (syncPersist (exitHaltThermal (enterBoot u true)))) :=
    (enterBoot_lawful u true).trans ((exitHaltThermal_lawful _).trans (.of_steady (hrestored _)))
  exact .ite _ ((hrestart _).after ⟨rfl, rfl, rfl⟩) (.refl s)

theorem mainInputCycleF_lawful (s : State) : Lawful s (mainInputCycleF s) := by
  have hstandby (u : State) : Steady u (syncPersist (enterStandby u)) := by simp [steady_iff]
  exact .ite _ (((exitHaltThermal_lawful _).trans (.of_steady (hstandby _))).after ⟨rfl, rfl, rfl⟩) (.refl s)

theorem auxLostF_lawful (s : State) : Lawful s (auxLostF s) := by
  refine .ite _ (.of_steady ⟨rfl, rfl, rfl⟩) (.ite _ (.of_steady (by simp [steady_iff])) ?_)
  exact (offIfDark_lawful _).after ⟨rfl, rfl, rfl⟩

theorem inputCollapseF_lawful (s : State) (frames : List Nat) : Lawful s (inputCollapseF s frames) :=
  .ite _ ((enterOff_lawful _).after (by simp [steady_iff])) (.refl s)

theorem aonPowerLostF_lawful (s : State) : Lawful s (aonPowerLostF s) :=
  .ite _ (.refl s) ((enterOff_lawful _).after ⟨rfl, rfl, rfl⟩)

theorem bankCutoffF_lawful (s : State) : Lawful s (bankCutoffF s) :=
  .ite _ ((offIfDark_lawful _).after (by simp [steady_iff])) (.refl s)

theorem drainFinalStoreDoneF_lawful (s : State) : Lawful s (drainFinalStoreDoneF s) := by
  unfold drainFinalStoreDoneF
  split
  · refine .ite _ (.ite _ ?_ (.ite _ (.of_steady (by simp [steady_iff])) (enterOff_lawful s))) (.refl s)
    exact (offIfDark_lawful _).after (by simp [steady_iff])
  · exact .refl s

/-! ### A fuse that is blown (20 R551) -/

theorem fuseBlowF_lawful (s : State) (ok : Bool) : Lawful s (fuseBlowF s ok) := by
  have hend (u : State) (code : Nat) (k : Nat) :
      Steady u (flagSec (noteEv { u with sec := { u.sec with blowing := false } } srcSec code 0 0 0) k) := by
    refine ⟨by simp, by simp, ?_⟩
    simp
    rfl
  have hblown : Lawful s { s with sec := { s.sec with f := s.sec.f + 1 } } := ⟨rfl, rfl, Nat.le_succ _, id⟩
  exact .ite _ (.ite _ (.ite _ (hblown.trans (.of_steady (hend _ _ _))) hblown) (.of_steady (hend s _ _))) (.refl s)

/-! ### Every command -/

theorem settle_steady (s : State) : Steady s (settle s) := by simp [steady_iff]

theorem next_of_lawful {s t : State} (h : Lawful s t) : ∃ u, (Host.Outcome.next t : Host.Outcome State Fault Refusal) = .next u ∧ Lawful s u :=
  ⟨t, rfl, h⟩

theorem next_of_steady {s t : State} (h : Steady s t) : ∃ u, (Host.Outcome.next t : Host.Outcome State Fault Refusal) = .next u ∧ Lawful s u :=
  next_of_lawful (.of_steady h)

theorem next_of_within {l : List Part} {s t : State} (h : Within l s t) (hl : .pending ∉ l ∧ .th ∉ l ∧ .sec ∉ l := by simp) :
    ∃ u, (Host.Outcome.next t : Host.Outcome State Fault Refusal) = .next u ∧ Lawful s u :=
  next_of_steady (.of_within h hl)

/-- Every command answers a state, and keeps to what is required of it: those that reach the fuses or the causes of the thermal condition by their own
lemmas, those that touch listed parts alone by their lists, and the rest because the operations that they are made of do. -/
theorem exec_lawful (c : Instr) (s : State) : ∃ t, exec c s = .next t ∧ Lawful s t := by
  cases c
  -- what reaches the fuses, the trip or the levels
  case mainInputQualify => exact next_of_lawful (mainInputQualifyF_lawful ..)
  case thermalRestart => exact next_of_lawful (thermalRestartF_lawful ..)
  case mainInputCycle => exact next_of_lawful (mainInputCycleF_lawful ..)
  case auxLost => exact next_of_lawful (auxLostF_lawful ..)
  case inputCollapse => exact next_of_lawful (inputCollapseF_lawful ..)
  case aonPowerLost => exact next_of_lawful (aonPowerLostF_lawful ..)
  case bankCutoff => exact next_of_lawful (bankCutoffF_lawful ..)
  case drainFinalStoreDone => exact next_of_lawful (drainFinalStoreDoneF_lawful ..)
  case diodeSample => exact next_of_lawful (diodeSampleF_lawful ..)
  case mediaTempSample => exact next_of_lawful (mediaTempSampleF_lawful ..)
  case fuseBlow => exact next_of_lawful (fuseBlowF_lawful ..)
  -- what has a lemma of its own
  case aonQualify => exact next_of_steady (aonQualifyF_steady ..)
  case replay => exact next_of_steady (replayF_steady ..)
  case warmerPageLoad => exact next_of_steady (warmerPageLoadF_steady ..)
  case programDispatch => exact next_of_steady (startProg_steady ..)
  case moveStart => exact next_of_steady (moveStartF_steady ..)
  case scrubSense => exact next_of_steady (scrubSenseF_steady ..)
  case entropyTestFail => exact next_of_steady (entropyTestFailF_steady ..)
  case entropyTestPass => exact next_of_steady (entropyTestPassF_steady ..)
  case fwActivate => exact next_of_steady (fwActivateF_steady ..)
  case finish => exact next_of_steady (finishF_steady ..)
  case releaseDynamicCapacity => exact next_of_steady (releaseDynamicCapacityF_steady ..)
  case writeAdmit => exact next_of_steady ((writeAdmitF_steady ..).trans (settle_steady _))
  -- what touches listed parts alone
  case bootSequencing => exact next_of_within (HostPorts.bootSequencingF_within ..)
  case domainQualRetry => exact next_of_within (HostPorts.domainQualRetryF_within ..)
  case dieDiscovery => exact next_of_within (HostPorts.dieDiscoveryF_within ..)
  case perstDeassert => exact next_of_within (HostPorts.perstDeassertF_within ..)
  case firmwareAck => exact next_of_within (HostPorts.firmwareAckF_within ..)
  case aliveToggle => exact next_of_within (HostPorts.aliveToggleF_within ..)
  case flitCrcError => exact next_of_within (HostPorts.flitCrcErrorF_within ..)
  case replayTimeout => exact next_of_within (HostPorts.replayTimeoutF_within ..)
  case heartbeatSend => exact next_of_within (HostPorts.heartbeatSendF_within ..)
  case heartbeat => exact next_of_within (HostPorts.heartbeatF_within ..)
  case witOutToggle => exact next_of_within (HostPorts.witOutToggleF_within ..)
  case soloPageDurable => exact next_of_within (HostPorts.soloPageDurableF_within ..)
  case tileAck => exact next_of_within (HostPorts.tileAckF_within ..)
  case resyncDoneReq => exact next_of_within (HostPorts.resyncDoneReqF_within ..)
  case joinOpen => exact next_of_within (HostPorts.joinOpenF_within ..)
  case joinWells => exact next_of_within (HostPorts.joinWellsF_within ..)
  case joinInuse => exact next_of_within (HostPorts.joinInuseF_within ..)
  case linkTraining => exact next_of_within (HostPorts.linkTrainingF_within ..)
  case ideIntegrityFailure => exact next_of_within (HostPorts.ideIntegrityFailureF_within ..)
  case hdmDecoderCommit => exact next_of_within (HostPorts.hdmDecoderCommitF_within ..)
  case globalPersistentFlush => exact next_of_within (HostPorts.globalPersistentFlushF_within ..)
  case programResume => exact next_of_within (HostPorts.programResumeF_within ..)
  case burstMeterSlot => exact next_of_within (HostPorts.burstMeterSlotF_within ..)
  case loadWindowEnd => exact next_of_within (HostPorts.loadWindowEndF_within ..)
  case filterRebuild => exact next_of_within (HostPorts.filterRebuildF_within ..)
  case journalLineProgram => exact next_of_within (HostPorts.journalLineProgramF_within ..)
  case checkpointStart => exact next_of_within (HostPorts.checkpointStartF_within ..)
  case checkpointAnchor => exact next_of_within (HostPorts.checkpointAnchorF_within ..)
  case tileResetStart => exact next_of_within (HostPorts.tileResetStartF_within ..)
  case refreshScan => exact next_of_within (HostPorts.refreshScanF_within ..)
  case scrubAutoResume => exact next_of_within (HostPorts.scrubAutoResumeF_within ..)
  case sentinelProgram => exact next_of_within (HostPorts.sentinelProgramF_within ..)
  case replanStart => exact next_of_within (HostPorts.replanStartF_within ..)
  case bankTestStart => exact next_of_within (HostPorts.bankTestStartF_within ..)
  case berylPageProgram => exact next_of_within (HostPorts.berylPageProgramF_within ..)
  case dumpBoundary => exact next_of_within (HostPorts.dumpBoundaryF_within ..)
  case coalWindowEnd => exact next_of_within (HostPorts.coalWindowEndF_within ..)
  case sidebandDescriptor => exact next_of_within (HostPorts.sidebandDescriptorF_within ..)
  case setEndpointId => exact next_of_within (HostPorts.setEndpointIdF_within ..)
  case clearEventRecords => exact next_of_within (HostPorts.clearEventRecordsF_within ..)
  case getLog => exact next_of_within (HostPorts.getLogF_within ..)
  case setShutdownState => exact next_of_within (HostPorts.setShutdownStateF_within ..)
  case addDynamicCapacityResponse => exact next_of_within (HostPorts.addDynamicCapacityResponseF_within ..)
  case getVersion => exact next_of_within (HostPorts.getVersionF_within ..)
  case getCapabilities => exact next_of_within (HostPorts.getCapabilitiesF_within ..)
  case negotiateAlgorithms => exact next_of_within (HostPorts.negotiateAlgorithmsF_within ..)
  case getDigests => exact next_of_within (HostPorts.getDigestsF_within ..)
  case getCertificate => exact next_of_within (HostPorts.getCertificateF_within ..)
  case challenge => exact next_of_within (HostPorts.challengeF_within ..)
  case getMeasurements => exact next_of_within (HostPorts.getMeasurementsF_within ..)
  case query => exact next_of_within (HostPorts.queryF_within ..)
  case keyProg => exact next_of_within (HostPorts.keyProgF_within ..)
  case kSetGo => exact next_of_within (HostPorts.kSetGoF_within ..)
  case kSetStop => exact next_of_within (HostPorts.kSetStopF_within ..)
  case getKey => exact next_of_within (HostPorts.getKeyF_within ..)
  case jtagTestMode => exact next_of_within (HostPorts.jtagTestModeF_within ..)
  case regApply => exact next_of_within (HostPorts.regApplyF_within ..)
  case unlockExpire => exact next_of_within (HostPorts.unlockExpireF_within ..)
  case ringEnable => exact next_of_within (HostPorts.ringEnableF_within ..)
  case ringDisable => exact next_of_within (HostPorts.ringDisableF_within ..)
  case spinelLinkDown => exact next_of_within (HostPorts.spinelLinkDownF_within ..)
  case auxRestored => exact next_of_within (HostPorts.auxRestoredF_within ..)
  case meminv | meminvnt | memclnevct => exact next_of_within (HostPorts.cmpOnly_within ..)
  case rcRead | timeLatchRead | newSeqRead | ctrLoRead => exact next_of_within (HostPorts.busRead_within ..)
  case getEventRecords | getEventInterruptPolicy | getFwInfo | getTimestamp | getSupportedLogs | identifyMemoryDevice | getPartitionInfo |
    getHealthInfo | getAlertConfiguration => exact next_of_within (HostPorts.mboxRead_within s _ true _)
  case getShutdownState | getDynamicCapacityConfiguration | getDynamicCapacityExtentList =>
    exact next_of_within (HostPorts.mboxRead_within s _ false _)
  case setEventInterruptPolicy | setTimestamp | setAlertConfiguration => exact next_of_within (HostPorts.mboxSet_within s _ true _)
  -- what is made of shared operations, without a branch of its own
  case bootSettings | dramTraining | enterCold | inputDip | pgDeassert | railVoltageFault | faultReport | agateFlush =>
    refine next_of_steady ?_
    simp [steady_iff, bootSettingsF, dramTrainingF, enterColdF, inputDipF, pgDeassertF, railVoltageFaultF, faultReportF, agateFlushF]
  case hbWindowEnd | witnessLost | witInEdge | joinTimeout | mirrorWrite | mirrorAck | homeFwdWrFull | homeFwdWrPart | homeFwdRd | homeFwdRefuse |
    resyncTileLine | tileEnd | agateCopy | joinPage | joinEnd | flitNak | flitAck =>
    refine next_of_steady ?_
    simp [steady_iff, hbWindowEndF, witnessLostF, witInEdgeF, joinTimeoutF, mirrorWriteF, mirrorAckF, homeFwdWr, homeFwdRdF, homeFwdRefuseF,
      resyncTileLineF, tileEndF, agateCopyF, joinPageF, joinEndF, flitNakF, flitAckF]
  case memrdfwd | memwrfwd =>
    refine next_of_steady ?_
    simp [steady_iff, fwdDropped]
  case pacingEpoch | journalLineVerify | epochUnitStart | canarySample | eyeMarginSample | bankTestEnd =>
    refine next_of_steady ?_
    simp [steady_iff, pacingEpochF, journalEnd, epochUnitStartF, canarySampleF, eyeMarginSampleF, bankTestEndF]
  case wellCreate | wellDestroy | wellModify | fill | clone | cacheMaint | poisonClear | pinMap | flushToMedia | eventRead | counterSnapshot |
    dumpConfig | settingsStore | fwStage | sanitize | twinControlJoin | twinControlLeave | twinControlPromote | twinControlDiscard | capacityRelease |
    healthReport | errorTableRead | scrubControlPause | scrubControlResume | scrubControlRange | scrubControlAbortRange | keyRotate | identityRead |
    attest =>
    refine next_of_steady ?_
    simp [steady_iff, wellCreateF, wellDestroyF, wellModifyF, fillF, cloneF, cacheMaintF, poisonClearF, pinMapF, flushToMediaF, eventReadF,
      counterSnapshotF, dumpConfigF, settingsStoreF, fwStageF, sanitizeF, twinJoinF, twinLeaveF, twinPromoteF, twinDiscardF, capacityReleaseF,
      healthReportF, errorTableReadF, scrubPauseF, scrubResumeF, scrubRangeF, scrubAbortF, keyRotateF, identityReadF, attestF]
  case keyExchange | endSession | keyUpdate =>
    refine next_of_steady ?_
    simp [steady_iff, keyExchangeF, endSessionF, keyUpdateF]
  case regWrite | unlock | lastgaspAck | ack | inject | flush | cmdTail | cplHead | dumpHead | freeze | thaw | clear | ckptNow | replanNow | testNow |
    accept | advNow | store | wayDis =>
    refine next_of_steady ?_
    simp [steady_iff, regWriteF, unlockF, lastgaspAckF, ackF, injectF, flushF, cmdTailF, cplHeadF, dumpHeadF, freezeF, thawF, clearF, ckptNowF,
      replanNowF, testNowF, acceptF, advNowF, storeF, wayDisF]
  -- what is made of shared operations, branch by branch
  case domainQualEnd | inputTrigger | perstAssert | drainLinesDone | drainOverrun | watchdog =>
    refine next_of_steady ?_
    simp only [domainQualEndF, inputTriggerF, perstAssertF, drainLinesDoneF, drainOverrunF, watchdogF]
    repeat' split
    all_goals simp [steady_iff]
  case spinelLinkActive | soloGuardEnd | resyncTileStart | homeFwdRdData | stateOpCmd | stateOpTile | stateOpDone | resyncTileEntry | lineReq |
    lineRsp | resyncDoneAck | resyncDoneSwitch | promoteNote =>
    refine next_of_steady ?_
    simp only [spinelLinkActiveF, soloGuardEndF, resyncTileStartF, homeFwdRdDataF, stateOpCmdF, stateOpTileF, stateOpDoneF, resyncTileEntryF,
      lineReqF, lineRspF, resyncDoneAckF, resyncDoneSwitchF, promoteNoteF]
    repeat' split
    all_goals simp [steady_iff]
  case memrd | memrddata | memspecrd | memwr | memwrptl | descriptorFetch | completionWrite =>
    refine next_of_steady ?_
    simp only [hostRead, memspecrdF, hostWrite, descriptorFetchF, completionWriteF]
    repeat' split
    all_goals simp [steady_iff]
  case frameSenseDone | retrySenseDone | demandMapReadDone | dieResolve | cleaning | programVerifyDone | checkpointFree | moveCopy | moveCommit |
    resetDone | wayDisable =>
    refine next_of_steady ?_
    simp only [frameSenseDoneF, retrySenseDoneF, demandMapReadDoneF, dieResolveF, cleaningF, programVerifyDoneF, checkpointFreeF, moveCopyF,
      moveCommitF, resetDoneF, wayDisableF]
    repeat' split
    all_goals simp [steady_iff]
  case planInstant | berylPageVerify | jtagMemAccess =>
    refine next_of_steady ?_
    simp only [planInstantF, berylPageVerifyF, jtagMemAccessF]
    repeat' split
    all_goals simp [steady_iff]

/-- Settles O57: every command answers a state, and keeps the queue, what is fused, and F at least as it was. -/
theorem whatNoCommandChanges : Obligations.WhatNoCommandChanges := by
  unfold Obligations.WhatNoCommandChanges
  refine ⟨fun c s => ?_, fun c s t h => ?_⟩
  · obtain ⟨t, ht, -⟩ := exec_lawful c s
    exact ⟨t, ht⟩
  · obtain ⟨u, hu, hlaw⟩ := exec_lawful c s
    cases hu.symm.trans h
    have hburnt := hlaw.burnt
    simp only [burnt, Prod.mk.injEq] at hburnt
    obtain ⟨hvariant, hserial, hlifecycle, hrevoked⟩ := hburnt
    exact ⟨hlaw.pending, hlaw.f, hvariant, hserial, hlifecycle, hrevoked⟩

/-- Settles O58: a tick leaves the thermal unit, and each command re-evaluates the condition where it changes a cause. -/
theorem thermalConditionIsKept : Obligations.ThermalConditionIsKept := by
  unfold Obligations.ThermalConditionIsKept
  intro s t hinv hstep
  cases hpending : s.pending with
  | nil =>
    rw [Glance.step_of_empty s hpending] at hstep
    cases hstep
    exact (thermalInv_congr (by simp)).2 hinv
  | cons c rest =>
    obtain ⟨u, hu, hlaw⟩ := exec_lawful c { s with pending := rest }
    have hnext : step s = .next u := by
      rw [step, hpending]
      exact hu
    cases hnext.symm.trans hstep
    exact hlaw.thermal hinv

end Sys2Proof.Proofs.Lasting
end

section
/-! O35: Beryl pages. The page programs of 19 R529 and R530, the slot that comes into force, and what the end of a store operation leaves alone. -/

namespace Sys2Proof.Proofs.Beryl

open Sys2Proof.Machine
open Sys2Proof.Safety
open Sys2Proof.Proofs.WritePath (quiescent_congr)

/-! ### The program -/

/-- Outside DRAIN no acknowledgement is missing, and without an operation nothing is programmed. -/
theorem berylPageProgramF_no_ops {s : State} (hst : s.pwr.st ≠ .drain) (hops : s.beryl.ops = []) : berylPageProgramF s = s := by
  unfold berylPageProgramF
  cases hd : s.pwr.drain <;> simp [hst, hops]

/-- Outside DRAIN the next page of the running operation enters its program once no page is in program. -/
theorem berylPageProgramF_next {s : State} {op : StoreOp} {rest : List StoreOp} {n : Nat} {ps : List Nat} (hst : s.pwr.st ≠ .drain)
    (hops : s.beryl.ops = op :: rest) (hprog : s.beryl.prog = []) (hpages : op.pages = n :: ps) :
    berylPageProgramF s = beginPage { s with beryl := { s.beryl with ops := { op with pages := ps } :: rest } } n := by
  unfold berylPageProgramF
  cases hd : s.pwr.drain <;> simp [hst, hops, hprog, hpages]

/-! ### The verify -/

theorem berylPageVerifyF_no_prog {s : State} (ok : Bool) (stuck : List Nat) (hprog : s.beryl.prog = []) : berylPageVerifyF s ok stuck = s := by
  simp [berylPageVerifyF, hprog]

theorem berylPageVerifyF_first_mismatch {s : State} (stuck : List Nat) {n : Nat} {pg : Page} {r : List (Nat × Page × Nat)}
    (hprog : s.beryl.prog = (n, pg, 0) :: r) :
    berylPageVerifyF s false stuck = { s with beryl := { s.beryl with prog := (n, pg, 1) :: r } } := by
  simp [berylPageVerifyF, hprog]

/-- Without an operation none ends. -/
theorem closeOp_no_ops {s : State} (stuck : List Nat) (hops : s.beryl.ops = []) : closeOp s stuck = s := by
  simp [closeOp, hops]

/-- The slot of page `n` that a store of `pg` leaves, its PSEQ one above that of the slot in force. -/
def nextSlot (s : State) (n : Nat) (pg : Page) : SlotB := slotMade n (((slotAt s n (forceOf s n)).psq + 1) % 2 ^ 20) pg true false

/-- The Beryl store once page `n` is in force in its other slot, with no page left in program. -/
def pageInForce (s : State) (n : Nat) (pg : Page) : State :=
  { s with beryl := { s.beryl with
    prog := []
    slots := sSet (slotInit (2 * n + (1 - forceOf s n))) s.beryl.slots (2 * n + (1 - forceOf s n)) (nextSlot s n pg)
    force := sSet 0 s.beryl.force n (1 - forceOf s n)
    defaulted := s.beryl.defaulted.filter (fun m => m ≠ n) } }

/-- Below the wear threshold of 19 R537 a page that verifies comes into force, and no record is written. -/
theorem pageStored_below_wear {s : State} {n : Nat} {pg : Page}
    (hwear : ((slotAt s n (forceOf s n)).psq + 1) % 2 ^ 20 < regF s .beryl 0 13 6 0 * 1024) :
    pageStored { s with beryl := { s.beryl with prog := [] } } n pg = pageInForce s n pg := by
  unfold pageStored
  rw [if_neg]
  · rfl
  · intro hworn
    simp only [Bool.and_eq_true, decide_eq_true_eq] at hworn
    exact Nat.not_le.mpr hwear hworn.1

/-- The last page in program verifies while no operation waits for it. -/
theorem berylPageVerifyF_in_force {s : State} (stuck : List Nat) {n : Nat} {pg : Page} {f : Nat} (hprog : s.beryl.prog = [(n, pg, f)])
    (hops : s.beryl.ops = []) (hwear : ((slotAt s n (forceOf s n)).psq + 1) % 2 ^ 20 < regF s .beryl 0 13 6 0 * 1024) :
    berylPageVerifyF s true stuck = pageInForce s n pg := by
  simp only [berylPageVerifyF, hprog, if_true, pageStored_below_wear hwear]
  exact closeOp_no_ops stuck hops

theorem quiescent_pageInForce {s : State} (h : Quiescent s) (n : Nat) (pg : Page) : Quiescent (pageInForce s n pg) := quiescent_congr h rfl rfl rfl

@[simp] theorem forceOf_pageInForce (s : State) (n : Nat) (pg : Page) : forceOf (pageInForce s n pg) n = 1 - forceOf s n :=
  sGet_sSet_same ..

@[simp] theorem slotAt_pageInForce (s : State) (n : Nat) (pg : Page) : slotAt (pageInForce s n pg) n (1 - forceOf s n) = nextSlot s n pg :=
  sGet_sSet_same ..

/-- A slot made for a page number of 12 bits is valid for that page. -/
theorem slotValid_slotMade {n : Nat} (hn : n < 4096) (psq : Nat) (pg : Page) : slotValid n (slotMade n psq pg true false) = true := by
  simp [slotValid, slotMade, Nat.mod_eq_of_lt hn]

@[simp] theorem psq_nextSlot (s : State) (n : Nat) (pg : Page) : (nextSlot s n pg).psq = ((slotAt s n (forceOf s n)).psq + 1) % 2 ^ 20 :=
  Nat.mod_mod ..

/-- Settles O35, by the cases of the running operation and of the page longest in program. -/
theorem berylPagesComeIntoForce : Obligations.BerylPagesComeIntoForce := by
  unfold Obligations.BerylPagesComeIntoForce
  refine ⟨?_, ?_, ?_, ?_, ?_⟩
  · intro s hst hops
    exact ⟨s, congrArg Host.Outcome.next (berylPageProgramF_no_ops hst hops), rfl⟩
  · intro s op rest n ps hst hops hprog hpages
    refine ⟨_, congrArg Host.Outcome.next (berylPageProgramF_next hst hops hprog hpages), ?_, ?_, rfl, rfl, rfl⟩
    · simp [beginPage, hprog, pageAt]
    · simp [beginPage]
  · intro s ok stuck hq hprog
    exact ⟨s, congrArg Host.Outcome.next (by rw [berylPageVerifyF_no_prog ok stuck hprog, settle_idle s hq]), rfl⟩
  · intro s stuck n pg f hq hprog hops hn hwear
    refine ⟨pageInForce s n pg, congrArg Host.Outcome.next ?_, rfl, ?_, ?_, ?_, ?_⟩
    · rw [berylPageVerifyF_in_force stuck hprog hops hwear, settle_idle _ (quiescent_pageInForce hq n pg)]
    · exact forceOf_pageInForce s n pg
    · rw [slotAt_pageInForce]
      rfl
    · rw [slotAt_pageInForce]
      exact slotValid_slotMade hn _ pg
    · rw [slotAt_pageInForce, psq_nextSlot]
  · intro s stuck n pg r hq hprog
    refine ⟨_, congrArg Host.Outcome.next ?_, rfl⟩
    rw [berylPageVerifyF_first_mismatch stuck hprog]
    exact settle_idle _ (quiescent_congr hq rfl rfl rfl)

end Sys2Proof.Proofs.Beryl
end

section
/-! PROOF. The statement of the identity and attestation (20) on IDE key management. -/

namespace Sys2Proof.Proofs.Identity

open Sys2Proof Sys2Proof.Machine Sys2Proof.Safety

/-! ## The gate of the IDE_KM messages (20 R556) -/

section Gate

variable {s : State} {p : Port} {id : Nat}

theorem ideKm_of_secured (f : State → Port → State) (hlink : (portAt s p.val).linkUp = true) (hsec : secured s (.doe p) id = true) :
    ideKm s (.doe p) id f = f s p := by
  simp [ideKm, viaOpen, hlink, hsec]

theorem ideKm_of_unsecured (f : State → Port → State) (hlink : (portAt s p.val).linkUp = true) (hsec : secured s (.doe p) id = false) :
    ideKm s (.doe p) id f = emit s (.spdm (.doe p) false 2 []) := by
  simp [ideKm, viaOpen, hlink, hsec, spdmErr, errSession]

theorem ideKm_of_sideband (f : State → Port → State) (hst : s.pwr.st ≠ .off) :
    ideKm s .sideband id f = emit s (.spdm .sideband false 1 []) := by
  simp [ideKm, viaOpen, hst, spdmErr, errInvalid]

end Gate

/-! ## What a port keeps for IDE -/

/-- A port with one key set. -/
def keyed (mem tx kset : Bool) (key : BitVec 256) (x : PortSt) : PortSt :=
  { x with ideKeys := sSet 0 x.ideKeys (ideIx mem tx kset) (key.toNat + 1) }

theorem keyed_keys (mem tx kset : Bool) (key : BitVec 256) (x : PortSt) (k : Nat) :
    sGet 0 (keyed mem tx kset key x).ideKeys k = if ideIx mem tx kset = k then key.toNat + 1 else sGet 0 x.ideKeys k := by
  rw [keyed, sGet_sSet]

/-- A port with one stream secure under a key set. -/
def streamOn (mem kset : Bool) (x : PortSt) : PortSt :=
  if mem then { x with ideMem := true, ksetMem := kset, ideFailed := false } else { x with ideIo := true, ksetIo := kset }

/-- A port with a stream insecure where a key set in force has stopped. -/
def streamOff (mem kset : Bool) (x : PortSt) : PortSt :=
  if mem then { x with ideMem := x.ideMem && (x.ksetMem != kset) } else { x with ideIo := x.ideIo && (x.ksetIo != kset) }

/-- A message that changes its port and is answered. -/
def ideSet (s : State) (p : Port) (f : PortSt → PortSt) : State := spdmOk (modPort s p.val f) (.doe p) 0xFE []

theorem portAt_ideSet (s : State) (p : Port) (f : PortSt → PortSt) (q : Nat) :
    portAt (ideSet s p f) q = if p.val = q then f (portAt s p.val) else portAt s q :=
  (HostPorts.portAt_emit ..).trans (portAt_modPort ..)

theorem portAt_ideSet_same (s : State) (p : Port) (f : PortSt → PortSt) : portAt (ideSet s p f) p.val = f (portAt s p.val) := by
  rw [portAt_ideSet, if_pos rfl]

theorem portAt_ideSet_other (s : State) (p : Port) (f : PortSt → PortSt) {q : Nat} (h : q ≠ p.val) : portAt (ideSet s p f) q = portAt s q := by
  rw [portAt_ideSet, if_neg h.symm]

section Secured

variable {s : State} {p : Port} {id : Nat} (hlink : (portAt s p.val).linkUp = true) (hsec : secured s (.doe p) id = true)
include hlink hsec

theorem keyProgF_of_secured (mem tx kset : Bool) (key : BitVec 256) :
    keyProgF s (.doe p) id mem tx kset key = ideSet s p (keyed mem tx kset key) := ideKm_of_secured _ hlink hsec

theorem kSetGoF_of_ready {mem kset : Bool} (h : keysReady (portAt s p.val) mem kset = true) :
    kSetGoF s (.doe p) id mem kset = ideSet s p (streamOn mem kset) := (ideKm_of_secured _ hlink hsec).trans (if_pos h)

theorem kSetGoF_of_unready {mem kset : Bool} (h : keysReady (portAt s p.val) mem kset = false) :
    kSetGoF s (.doe p) id mem kset = emit s (.spdm (.doe p) false 1 []) := (ideKm_of_secured _ hlink hsec).trans (if_neg (by simp [h]))

theorem kSetStopF_of_secured (mem kset : Bool) : kSetStopF s (.doe p) id mem kset = ideSet s p (streamOff mem kset) :=
  ideKm_of_secured _ hlink hsec

theorem getKeyF_of_healthy (h : s.sec.entropyOk = true) :
    getKeyF s (.doe p) id = bump (emit s (.spdm (.doe p) true 0xFE (secretBytes 9 s.freeCtr 32))) :=
  (ideKm_of_secured _ hlink hsec).trans (if_pos h)

theorem getKeyF_of_failed (h : s.sec.entropyOk = false) : getKeyF s (.doe p) id = emit s (.spdm (.doe p) false 3 []) :=
  (ideKm_of_secured _ hlink hsec).trans (if_neg (by simp [h]))

end Secured

theorem length_secretBytes (kind ctr n : Nat) : (secretBytes kind ctr n).length = n := by simp [secretBytes]

/-- Settles O49: the gate lets a message through in an established session of the port's own mailbox alone; past it, one port changes. -/
theorem ideKeysNeedSecuredSessions : Obligations.IdeKeysNeedSecuredSessions := by
  unfold Obligations.IdeKeysNeedSecuredSessions
  refine ⟨fun s p id hlink hsec => ⟨?_, ?_, ?_, ?_, ?_, ?_, ?_, ?_⟩, ?_, ?_⟩
  · exact ⟨_, congrArg Host.Outcome.next (ideKm_of_secured _ hlink hsec)⟩
  · intro mem tx kset key
    refine ⟨_, congrArg Host.Outcome.next (keyProgF_of_secured hlink hsec mem tx kset key), ?_, fun k hk => ?_, ?_,
      fun q hq => portAt_ideSet_other s p _ hq⟩
    · rw [portAt_ideSet_same, keyed_keys, if_pos rfl]
    · rw [portAt_ideSet_same, keyed_keys, if_neg hk.symm]
    · rw [portAt_ideSet_same]
      rfl
  · intro mem kset hready
    refine ⟨_, congrArg Host.Outcome.next (kSetGoF_of_ready hlink hsec hready), ?_, ?_, fun q hq => portAt_ideSet_other s p _ hq⟩
    · rw [portAt_ideSet_same]
      cases mem <;> exact ⟨rfl, rfl, rfl⟩
    · rw [portAt_ideSet_same]
      cases mem <;> rfl
  · exact fun mem kset hready => congrArg Host.Outcome.next (kSetGoF_of_unready hlink hsec hready)
  · refine ⟨_, congrArg Host.Outcome.next (kSetStopF_of_secured hlink hsec true _), ?_⟩
    simp [portAt_ideSet_same, streamOff]
  · refine ⟨_, congrArg Host.Outcome.next (kSetStopF_of_secured hlink hsec false _), ?_⟩
    simp [portAt_ideSet_same, streamOff]
  · exact fun hok => ⟨_, length_secretBytes 9 s.freeCtr 32, congrArg Host.Outcome.next (getKeyF_of_healthy hlink hsec hok)⟩
  · exact fun hfailed => congrArg Host.Outcome.next (getKeyF_of_failed hlink hsec hfailed)
  · intro s p id hlink hsec mem tx kset key c hc
    simp only [List.mem_cons, List.not_mem_nil, or_false] at hc
    rcases hc with rfl | rfl | rfl | rfl | rfl <;> exact congrArg Host.Outcome.next (ideKm_of_unsecured _ hlink hsec)
  · intro s id hst mem tx kset key c hc
    simp only [List.mem_cons, List.not_mem_nil, or_false] at hc
    rcases hc with rfl | rfl | rfl | rfl | rfl <;> exact congrArg Host.Outcome.next (ideKm_of_sideband _ hst)

end Sys2Proof.Proofs.Identity
end

section
/-! O34: Zircon's re-plans and measurements. What a plan instant leaves of the plan's number, the VCORE of a canary sample, eye margins and bank
tests. -/

namespace Sys2Proof.Proofs.Zircon

open Sys2Proof.Machine
open Sys2Proof.Safety
open Sys2Proof.Proofs.Glance (KeepsPower noteEv_keepsPower startStore_keepsPower)
open Sys2Proof.Proofs.Sequencing (failBank_samePlace lowEnergy_samePlace)

theorem vcore_of_keepsPower {p q : Power} (h : KeepsPower p q) : q.vcore = p.vcore := by rcases h with rfl | rfl <;> rfl
theorem bankFailed_of_keepsPower {p q : Power} (h : KeepsPower p q) : q.bankFailed = p.bankFailed := by rcases h with rfl | rfl <;> rfl

/-! ### What a plan instant carries along -/

/-- The parts of the state that hold the map, the cache, the medium and the wear. -/
def memoryOf (s : State) : Tables × Cache × Medium × Wear := (s.tabs, s.cache, s.med, s.wear)

/-- What every step of a plan instant keeps but the one that ends the plan: the plan that forms, the plan's number, the power state and the
memory. -/
structure SamePlan (s t : State) : Prop where
  forming : t.zir.forming = s.zir.forming
  planGen : t.zir.planGen = s.zir.planGen
  st : t.pwr.st = s.pwr.st
  memory : memoryOf t = memoryOf s

namespace SamePlan

theorem refl (s : State) : SamePlan s s := ⟨rfl, rfl, rfl, rfl⟩

theorem trans {s t u : State} (h : SamePlan s t) (k : SamePlan t u) : SamePlan s u :=
  ⟨k.forming.trans h.forming, k.planGen.trans h.planGen, k.st.trans h.st, k.memory.trans h.memory⟩

theorem of_keeps {s t : State} (hzir : t.zir = s.zir) (hpwr : KeepsPower s.pwr t.pwr) (hmem : memoryOf t = memoryOf s) : SamePlan s t :=
  ⟨by rw [hzir], by rw [hzir], hpwr.st, hmem⟩

theorem of_eq {s t : State} (hzir : t.zir = s.zir) (hpwr : t.pwr = s.pwr) (hmem : memoryOf t = memoryOf s) : SamePlan s t :=
  of_keeps hzir (.of_eq hpwr) hmem

end SamePlan

theorem noteEv_samePlan (s : State) (src code a0 a1 a2 : Nat) : SamePlan s (noteEv s src code a0 a1 a2) :=
  .of_keeps (by simp) (noteEv_keepsPower ..) (by simp [memoryOf])

theorem flagZircon_samePlan (s : State) (bit : Nat) : SamePlan s (flagZircon s bit) := .of_eq (by simp) (by simp) (by simp [memoryOf])

theorem applyReplan_samePlan (s : State) : SamePlan s (applyReplan s) := .of_eq (by simp) (by simp) (by simp [memoryOf])

theorem setVcore_samePlan (s : State) (v : Nat) : SamePlan s (setVcore s v) := by
  unfold setVcore
  split
  · exact .refl s
  · exact ⟨rfl, rfl, rfl, rfl⟩

theorem applyVcore_samePlan (s : State) (v : Nat) : SamePlan s (applyVcore s v) := by
  unfold applyVcore
  split
  · exact (setVcore_samePlan s _).trans ⟨rfl, rfl, rfl, rfl⟩
  · exact setVcore_samePlan s v

theorem applyPlan_samePlan (s : State) (p : Plan) : SamePlan s (applyPlan s p) := by
  unfold applyPlan
  extract_lets raised tabled dated paced
  have hraised : SamePlan s raised := by
    unfold raised
    split
    · exact applyVcore_samePlan s _
    · exact .refl s
  have hpaced : SamePlan raised paced :=
    .of_eq (by simp [paced, dated, tabled]) (by simp [paced, dated, tabled]) (by simp [memoryOf, paced, dated, tabled])
  clear_value paced
  split
  · exact (hraised.trans hpaced).trans ⟨rfl, rfl, rfl, rfl⟩
  · exact hraised.trans hpaced

theorem takePlan_samePlan (s : State) (p : Plan) : SamePlan s (takePlan s p) := by
  have hpend : ∀ q : Plan, SamePlan s { s with zir := { s.zir with pend := q } } := fun _ => ⟨rfl, rfl, rfl, rfl⟩
  unfold takePlan
  split
  · exact (hpend _).trans (applyPlan_samePlan ..)
  · exact (hpend _).trans (applyPlan_samePlan ..)

theorem lowEnergy_samePlan (s : State) (dirty : Nat) : SamePlan s (lowEnergy s dirty) :=
  ⟨by simp, by simp, (lowEnergy_samePlace s dirty).st, by simp [memoryOf]⟩

theorem closeInterval_samePlan (s : State) (p t : Nat) : SamePlan s (closeInterval s p t) :=
  ⟨by simp [closeInterval], by simp [closeInterval], by simp, by simp [memoryOf]⟩

theorem planItems_samePlan (s : State) (m : Measured) : SamePlan s (planItems s m) := by
  unfold planItems
  extract_lets p dirty bound times quiets pMax taken quieted cist paced stopped
  have htaken : SamePlan s taken := takePlan_samePlan s p
  have hpaced : SamePlan taken paced := .of_eq (by simp [paced, quieted]) (by simp [paced, quieted]) (by simp [memoryOf, paced, quieted])
  have hstopped : SamePlan (lowEnergy paced dirty) stopped := .of_eq (by simp [stopped]) (by simp [stopped]) (by simp [memoryOf, stopped])
  exact (((htaken.trans hpaced).trans (lowEnergy_samePlan paced dirty)).trans hstopped).trans (closeInterval_samePlan ..)

theorem creditHours_samePlan (s : State) : SamePlan s (creditHours s) := by
  unfold creditHours
  split
  · exact ⟨rfl, rfl, rfl, rfl⟩
  · exact .refl s

/-- Over variables, so that no check of a proof evaluates the life that is formed. -/
theorem life_samePlan (s : State) (l rem y w : Nat) (r : List (Nat × Nat)) :
    SamePlan s (bump { s with zir := { s.zir with limiter := l, remPct := rem, years := y, wearMean := w, retires := r } }) :=
  ⟨rfl, rfl, rfl, rfl⟩

theorem lifeLow_samePlan (s : State) (low : Bool) : SamePlan s { s with zir := { s.zir with lifeLow := low } } := ⟨rfl, rfl, rfl, rfl⟩

theorem formLife_samePlan (s : State) : SamePlan s (formLife s) := by
  unfold formLife
  extract_lets credited us l u rem low zir formed alerted
  have hformed : SamePlan credited formed := life_samePlan credited ..
  have halerted : SamePlan formed alerted := by
    unfold alerted
    split
    · exact (noteEv_samePlan ..).trans (flagZircon_samePlan ..)
    · exact .refl formed
  have hlived : SamePlan s alerted := ((creditHours_samePlan s).trans hformed).trans halerted
  clear_value alerted low
  exact hlived.trans (lifeLow_samePlan alerted low)

theorem convertedRec_samePlan (s : State) : SamePlan s (convertedRec s) := by
  have hcounted : SamePlan s { s with mapu := { s.mapu with converted := 0 } } := ⟨rfl, rfl, rfl, rfl⟩
  unfold convertedRec
  split
  · exact .refl s
  · exact hcounted.trans (noteEv_samePlan ..)

theorem logPlan_samePlan (s : State) : SamePlan s (logPlan s) :=
  ⟨by simp [logPlan], by simp [logPlan], by simp, by simp [memoryOf]⟩

theorem startStore_samePlan (s : State) (kind : Nat) (rs : List (Nat × Nat)) (ahead : Bool) : SamePlan s (startStore s kind rs ahead) :=
  .of_keeps (by simp) (startStore_keepsPower ..) (by simp [memoryOf])

theorem storePlan_samePlan (s : State) : SamePlan s (storePlan s) := by
  unfold storePlan
  extract_lets put due
  have hput : SamePlan s put := .of_eq (by simp [put]) (by simp [put]) (by simp [memoryOf, put])
  clear_value put
  have hdated : SamePlan put { put with zir := { put.zir with storedAt := some put.drift.ec } } := ⟨rfl, rfl, rfl, rfl⟩
  split
  · exact (hput.trans hdated).trans (startStore_samePlan ..)
  · exact hput

/-- The plan of `s` has ended at `t` with the next plan number; the power state and the memory stay. -/
structure PlanEnds (s t : State) : Prop where
  forming : t.zir.forming = none
  planGen : t.zir.planGen = (s.zir.planGen + 1) % 2 ^ 20
  st : t.pwr.st = s.pwr.st
  memory : memoryOf t = memoryOf s

theorem planEnds_next (s : State) : PlanEnds s { s with zir := { s.zir with forming := none, planGen := (s.zir.planGen + 1) % 2 ^ 20 } } :=
  ⟨rfl, rfl, rfl, rfl⟩

theorem sweepLate_samePlan (s : State) (n : Nat) : SamePlan s { s with zir := { s.zir with sweepLate := n } } := ⟨rfl, rfl, rfl, rfl⟩

/-- In SERVICE a plan instant ends the plan that forms. -/
theorem planEnds_of_forming {s : State} {x : Nat × Nat} (m : Measured) (hst : s.pwr.st = .service) (hforming : s.zir.forming = some x) :
    PlanEnds s (planInstantF s m) := by
  unfold planInstantF
  split
  next hnone => exact absurd (hnone.symm.trans hforming) (by simp)
  next =>
  split
  next hnot => exact absurd hst hnot
  next =>
  extract_lets applied zir counted late planned zir ended lived noted converted asked
  have hcounted : SamePlan s counted := (applyReplan_samePlan s).trans (sweepLate_samePlan applied _)
  have hlate : SamePlan s late := List.foldlRecOn (motive := SamePlan s) m.lateDies _ hcounted fun t ht _ _ => ht.trans (noteEv_samePlan t ..)
  have hplanned : SamePlan s planned := hlate.trans (planItems_samePlan late m)
  have hended : PlanEnds planned ended := planEnds_next planned
  have hnoted : SamePlan lived noted := by
    unfold noted
    split
    · exact (noteEv_samePlan ..).trans (flagZircon_samePlan ..)
    · exact ((noteEv_samePlan ..).trans (flagZircon_samePlan ..)).trans (flagZircon_samePlan ..)
  have hasked : SamePlan converted asked := by
    unfold asked
    split
    · exact .refl converted
    · exact .of_eq (by simp) (by simp) (by simp [memoryOf])
  have hreported : SamePlan ended asked :=
    (((formLife_samePlan ended).trans hnoted).trans (convertedRec_samePlan noted)).trans hasked
  have hcursor : SamePlan (logPlan asked) (storeCursor (logPlan asked)) := .of_eq (by simp) (by simp) (by simp [memoryOf])
  have hend := ((hreported.trans (logPlan_samePlan asked)).trans hcursor).trans (storePlan_samePlan _)
  refine ⟨hend.forming.trans hended.forming, ?_, ?_, ?_⟩
  · rw [hend.planGen, hended.planGen, hplanned.planGen]
  · rw [hend.st, hended.st, hplanned.st]
  · rw [hend.memory, hended.memory, hplanned.memory]

/-! ### Canaries -/

/-- The state that holds one slack `x` as group 0's sample. -/
def sampled (s : State) (x : Nat) : State :=
  let s := takeSlacks s 0 [x]
  { s with zir := { s.zir with
    slackNow := x, slackMin := if x < s.zir.slackMin then x else s.zir.slackMin,
    slacks := s.zir.slacks.filter (fun y => decide (now s ≤ y.1 + 10000000000)) ++ [(now s, x)] } }

theorem measureSens_idle {s : State} (low : Nat) (h : s.zir.sensFrom = none) : measureSens s low = s := by simp [measureSens, h]

theorem checkLowered_idle {s : State} (low : Nat) (h : s.zir.checkReq = none) : checkLowered s low = s := by simp [checkLowered, h]

/-- With no change to measure and no lowering to check, a sample of one slack leads to the emergency rule alone. -/
theorem canarySampleF_one {s : State} {x : Nat} (hst : s.pwr.st = .service) (hx : x ≤ 0x3FF) (hsens : s.zir.sensFrom = none)
    (hreq : s.zir.checkReq = none) : canarySampleF s [x] = emergency (sampled s x) x := by
  have hlow : ([x].take 12).foldl (fun a x => if x < a then x else a) 0x3FF = x := by
    simp only [List.take_succ_cons, List.take_nil, List.foldl_cons, List.foldl_nil]
    split <;> omega
  have hrule : canarySampleF s [x] = emergency (checkLowered (measureSens (sampled s x) x) x) x := by
    unfold canarySampleF
    rw [if_pos (by simp [hst]), hlow]
    rfl
  rw [hrule, measureSens_idle (s := sampled s x) x hsens, checkLowered_idle (s := sampled s x) x hreq]

theorem emergency_slack {s : State} {low : Nat} (hlow : 300 ≤ low) :
    emergency s low = { s with zir := { s.zir with guardShort := false } } := by
  simp [emergency, Nat.not_lt.mpr hlow]

/-- VCORE after an emergency raise. -/
def raisedVcore (s : State) : Nat := if vcoreTop s < s.pwr.vcore + 10 then vcoreTop s else s.pwr.vcore + 10

/-- At the limit the guard is short; VCORE and the sample stay. -/
theorem emergency_at_limit {s : State} {low : Nat} (hlow : low < 300) (hv : vcoreTop s ≤ s.pwr.vcore) (hshort : s.zir.guardShort = false) :
    (emergency s low).zir.guardShort = true ∧ (emergency s low).pwr.vcore = s.pwr.vcore ∧ (emergency s low).zir.slackNow = s.zir.slackNow := by
  have hrecord : emergency s low = noteEv { s with zir := { s.zir with guardShort := true } } srcZircon 0x0292 0 0 0 := by
    simp [emergency, hlow, Nat.not_lt.mpr hv, hshort]
  have hpwr := noteEv_keepsPower { s with zir := { s.zir with guardShort := true } } srcZircon 0x0292 0 0 0
  rw [hrecord]
  exact ⟨by simp, vcore_of_keepsPower hpwr, by simp⟩

@[simp] theorem setVcore_vcore (s : State) (v : Nat) : (setVcore s v).pwr.vcore = v := by
  unfold setVcore
  split
  · next h => exact h.symm
  · rfl

@[simp] theorem setVcore_slackNow (s : State) (v : Nat) : (setVcore s v).zir.slackNow = s.zir.slackNow := by
  unfold setVcore
  split <;> rfl

/-- A re-plan cause joins those that wait, and Zircon's other fields stay. -/
theorem replanCause_zir (s : State) (c : Nat) : ∃ w, (replanCause s c).zir = { s.zir with waiting := w } := by
  unfold replanCause
  split
  · exact ⟨s.zir.waiting, rfl⟩
  · exact ⟨_, rfl⟩

@[simp] theorem replanCause_slackNow (s : State) (c : Nat) : (replanCause s c).zir.slackNow = s.zir.slackNow := by
  obtain ⟨w, hw⟩ := replanCause_zir s c
  rw [hw]

/-- An emergency raise sets VCORE and keeps the power state and the sample. -/
theorem emergency_raise {s : State} {low : Nat} (hlow : low < 300) (hv : s.pwr.vcore < vcoreTop s) :
    (emergency s low).pwr.vcore = raisedVcore s ∧ (emergency s low).zir.slackNow = s.zir.slackNow ∧ (emergency s low).pwr.st = s.pwr.st := by
  have hraise : emergency s low = replanCause (flagZircon (noteEv (setVcore s (raisedVcore s)) srcZircon 0x0192 0 0 0) 2) 3 := by
    simp only [emergency, hlow, hv, if_true, raisedVcore]
  have hpwr := noteEv_keepsPower (setVcore s (raisedVcore s)) srcZircon 0x0192 0 0 0
  rw [hraise]
  refine ⟨?_, by simp, ?_⟩
  · simpa using vcore_of_keepsPower hpwr
  · simpa using hpwr.st.trans (setVcore_samePlan s _).st

/-! ### Eye margins -/

/-- A live link of port 0 with a margin of 0.050 UI or more: it is taken, and no record is written. -/
theorem takeEyes_port0 {s : State} {a b : Nat} (hup : (portAt s 0).linkUp = true) (ha : 50 ≤ a) (ha' : a ≤ 0x3FF) (hb : b ≤ 0x3FF) :
    takeEyes s 0 [(a, b)] = { s with zir := { s.zir with eyes := sSet (0, 0) s.zir.eyes 0 (a, b) } } := by
  have hcut : ∀ x : Nat, x ≤ 0x3FF → satAdd 0x3FF x 0 = x := fun x hx => by simp [satAdd]; omega
  simp [takeEyes, eyeUp, hup, hcut a ha', hcut b hb, Nat.not_lt.mpr ha]

/-! ### Bank tests -/

/-- Zircon holds what a bank test has measured. -/
def bankMeasured (s : State) (us : Nat) : State :=
  { s with zir := { s.zir with
    testing := false, bankC := us, bankEsr := s.zir.testStepMv / 2, bankE := 5145 * us / 10000,
    bankE0 := if s.zir.bankE0 = 0 then 5145 * us / 10000 else s.zir.bankE0, testEc := some s.drift.ec } }

/-- Whether a bank test misses a limit (18 R510). -/
def bankBad (s : State) (us : Nat) (reached33 recharged : Bool) : Bool :=
  decide (5145 * us * 100 < eFail s) || decide (400 < s.zir.testStepMv) || !reached33 || decide (100000 < us) || !recharged

/-- The log entry, the page, the flag and the re-plan cause of a bank test that ended. -/
def bankReported (s : State) : State := replanCause (flagZircon (putPage (logBank s) pgZircon (zirconPage (logBank s))) 3) 4

theorem bankTestEndF_of_testing {s : State} (us : Nat) (a b : Bool) (htest : s.zir.testing = true) (hst : s.pwr.st = .service) :
    bankTestEndF s us a b = bankReported (if bankBad s us a b then failBank (bankMeasured s us)
      else { bankMeasured s us with pwr := { s.pwr with bankFailed := false } }) := by
  unfold bankTestEndF
  rw [if_pos (by simp [htest, hst])]
  rfl

@[simp] theorem bankReported_tabs (s : State) : (bankReported s).tabs = s.tabs := by simp [bankReported]
@[simp] theorem bankReported_pwr (s : State) : (bankReported s).pwr = s.pwr := by simp [bankReported]

/-- Of Zircon's fields the report of a bank test changes the log's index and the causes that wait. -/
theorem bankReported_zir (s : State) : ∃ i w, (bankReported s).zir = { s.zir with bankIx := i, waiting := w } := by
  obtain ⟨w, hw⟩ := replanCause_zir (flagZircon (putPage (logBank s) pgZircon (zirconPage (logBank s))) 3) 4
  exact ⟨_, w, hw.trans (by simp [logBank]; rfl)⟩

theorem failBank_bankFailed (s : State) : (failBank s).pwr.bankFailed = true :=
  bankFailed_of_keepsPower (noteEv_keepsPower { s with pwr := { s.pwr with bankFailed := true } } srcZircon 0x020D 0 0 0)

/-- A bank that was not recharged counts as failed. -/
theorem bankBad_of_not_recharged (s : State) (us : Nat) (a : Bool) : bankBad s us a false = true := by simp [bankBad]

theorem bankBad_within_limits {s : State} {us : Nat} (he : eFail s ≤ 5145 * us * 100) (hstep : s.zir.testStepMv ≤ 400) (hus : us ≤ 100000) :
    bankBad s us true true = false := by
  simp only [bankBad, Bool.not_true, Bool.or_false, Bool.or_eq_false_iff, decide_eq_false_iff_not, Nat.not_lt]
  exact ⟨⟨he, hstep⟩, hus⟩

/-- Settles O34: each command by the branch of its definition that the clause names; a plan instant by its two halves. -/
theorem zirconPlansAndMeasures : Obligations.ZirconPlansAndMeasures := by
  unfold Obligations.ZirconPlansAndMeasures
  refine ⟨?_, ?_, ?_, ?_, ?_, ?_, ?_, ?_, ?_, ?_, ?_, ?_, ?_, ?_, ?_⟩
  · intro s c hcause
    exact ⟨s, congrArg Host.Outcome.next (by simp [replanStartF, hcause]), rfl⟩
  · intro s c hst hforming hcause hready
    exact ⟨_, congrArg Host.Outcome.next (by simp [replanStartF, hst, hforming, hcause, hready]), rfl⟩
  · intro s m hforming
    exact ⟨s, congrArg Host.Outcome.next (by simp [planInstantF, hforming]), rfl⟩
  · intro s m x hst hforming
    have hend := planEnds_of_forming m hst hforming
    have hmem := hend.memory
    simp only [memoryOf, Prod.mk.injEq] at hmem
    obtain ⟨htabs, hcache, hmed, hwear⟩ := hmem
    exact ⟨_, rfl, hend.forming, hend.planGen, htabs, hcache, hmed, hwear, hend.st.trans hst⟩
  · intro s l hst
    refine ⟨⟨s, congrArg Host.Outcome.next (by simp [canarySampleF, hst]), rfl⟩, fun e => ?_⟩
    exact ⟨s, congrArg Host.Outcome.next (by simp [eyeMarginSampleF, hst]), rfl⟩
  · intro s x hst hx hx' hsens hreq
    refine ⟨_, congrArg Host.Outcome.next ((canarySampleF_one hst hx' hsens hreq).trans (emergency_slack hx)), ?_⟩
    exact ⟨rfl, rfl, rfl, rfl, rfl⟩
  · intro s x hst hx hsens hreq hv
    obtain ⟨hvcore, hslack, hstay⟩ := emergency_raise (s := sampled s x) hx hv
    exact ⟨_, congrArg Host.Outcome.next (canarySampleF_one hst (by omega) hsens hreq), hvcore, hslack, hstay.trans hst⟩
  · intro s x hst hx hsens hreq hv hshort
    obtain ⟨hguard, hvcore, hslack⟩ := emergency_at_limit (s := sampled s x) hx hv hshort
    exact ⟨_, congrArg Host.Outcome.next (canarySampleF_one hst (by omega) hsens hreq), hguard, hvcore, hslack⟩
  · intro s a b hst hup ha ha' hb
    refine ⟨_, congrArg Host.Outcome.next ((if_pos hst).trans (takeEyes_port0 hup ha ha' hb)), ?_, rfl, rfl, rfl⟩
    exact sGet_sSet_same ..
  · intro s mv hdue
    exact ⟨s, congrArg Host.Outcome.next (by simp [bankTestStartF, hdue]), rfl⟩
  · intro s mv htest hdue hnext hallowed
    have hst : s.pwr.st = .service := by simp_all [testAllowed]
    exact ⟨_, congrArg Host.Outcome.next (by simp [bankTestStartF, htest, hdue, hst, Nat.not_lt.mpr hnext, hallowed]), rfl⟩
  · intro s mv hst htest hdue hnext hallowed
    exact ⟨_, congrArg Host.Outcome.next (by simp [bankTestStartF, htest, hdue, hst, Nat.not_lt.mpr hnext, hallowed]), rfl⟩
  · intro s us a b htest
    exact ⟨s, congrArg Host.Outcome.next (by simp [bankTestEndF, htest]), rfl⟩
  · intro s us hst htest he hstep hus
    have hend := bankTestEndF_of_testing us true true htest hst
    rw [bankBad_within_limits he hstep hus] at hend
    obtain ⟨i, w, hzir⟩ := bankReported_zir { bankMeasured s us with pwr := { s.pwr with bankFailed := false } }
    refine ⟨_, congrArg Host.Outcome.next hend, ?_, ?_, ?_, ?_, ?_⟩
    · exact congrArg Power.bankFailed (bankReported_pwr _)
    · exact congrArg Zircon.bankC hzir
    · exact congrArg Zircon.bankE hzir
    · exact congrArg Zircon.testing hzir
    · exact bankReported_tabs _
  · intro s us a hst htest
    have hend := bankTestEndF_of_testing us a false htest hst
    rw [bankBad_of_not_recharged, if_pos rfl] at hend
    obtain ⟨i, w, hzir⟩ := bankReported_zir (failBank (bankMeasured s us))
    refine ⟨_, congrArg Host.Outcome.next hend, ?_, ?_, ?_⟩
    · exact (congrArg Power.bankFailed (bankReported_pwr _)).trans (failBank_bankFailed _)
    · rw [hzir]
      simp [bankMeasured]
    · rw [bankReported_tabs]
      simp [bankMeasured]

end Sys2Proof.Proofs.Zircon
end
